-- ==== Sys2Proof/Word.lean ====
section
/-! DEFINITION. The plain word types of the model: a byte of memory, a 32-bit register word, a byte string, and the
sparse table in which the model keeps anything indexed (objects, buses, ports, registers). -/

namespace Sys2Proof

/-- One byte of a memory, a mailbox slot or a frame. -/
abbrev Byte := BitVec 8

/-- A 32-bit register word. -/
abbrev Word := BitVec 32

/-- A byte string, lowest address first (every format of the device is little-endian, R14). -/
abbrev Bytes := List Byte

/-- A sparse table: pairs of a key and a value, keys strictly rising, no entry equal to what an unlisted key reads as. -/
abbrev Tbl (α : Type) := List (Nat × α)

end Sys2Proof
end

