-- ==== Sys2Proof/Syntax.lean ====
section
/-! DEFINITION. Syntax: the operands of the commands, and the one inductive Instr of every command of the spec's table. -/

namespace Sys2Proof

/-- The header of a mailbox command that passed the slot checks of R390 (format, CRC, duplicate): its slot, sequence,
tag and NOTIFY flag (R387). The opcode is the command's own row, the payload its second operand. -/
structure Hdr where
  slot : Nat
  seq : Nat
  tag : Nat
  notify : Bool
  deriving DecidableEq, Repr

/-- One bus access: a read of n bytes or a write of given bytes. -/
inductive Access where
  | read (n : Nat)
  | write (data : Bytes)
  deriving DecidableEq, Repr

/-- The strap levels of R487, as sampled. -/
structure Straps where
  bootSrc : Bool
  hostIf : Bool
  chainEn : Bool
  failSafe : Bool
  mirRole : Bool
  testMode : Bool
  deriving DecidableEq, Repr

/-- How the read of a memory burst or word ended (R344, R349): clean; a corrected single-bit error; an uncorrectable word
that the one retry read clean; uncorrectable twice. -/
inductive Ecc where
  | clean | corrected | retryOk | lasting
  deriving DecidableEq, Repr

/-- One request of a DDRC port (R352 to R355): port, address, access, its age in ns when it is chosen and when it
completes, whether its check-data burst must be fetched (R348), and how its read ended. -/
structure DramReq where
  port : Nat
  addr : Nat
  acc : Access
  age : Nat
  done : Nat
  check : Bool
  ecc : Ecc
  deriving DecidableEq, Repr

/-- One request of a fabric master (R325): master, tag, address, access. -/
structure XReq where
  master : Nat
  tag : Nat
  addr : Nat
  acc : Access
  deriving DecidableEq, Repr

/-- The parallel-move field of R279: X load, pointer and post-modify; the same for Y; CH. -/
structure PMove where
  xe : Bool
  xp : Nat
  xm : Nat
  ye : Bool
  yp : Nat
  ym : Nat
  ch : Bool
  deriving DecidableEq, Repr

/-- The fields of a MAC-class instruction (R280). -/
structure MacArgs where
  aa : Nat
  ab : Nat
  s : Nat
  t : Nat
  u : Nat
  v : Nat
  pm : PMove
  deriving DecidableEq, Repr

/-- The fields of an accumulator-class instruction (R286): Aa, Ab, bits 18:11 (Dm in the high four, or the count in the low
seven), parallel moves. -/
structure AccArgs where
  aa : Nat
  ab : Nat
  km : Nat
  pm : PMove
  deriving DecidableEq, Repr

/-- The fields of a data-class instruction (R286): Dd, Ds, Dt, I, bits 9:0. -/
structure DataArgs where
  d : Nat
  s : Nat
  t : Nat
  i : Bool
  imm : Nat
  deriving DecidableEq, Repr

/-- One access of a memory move (R281): direction (true store), pointer number, address mode, register code. -/
structure MovAcc where
  store : Bool
  p : Nat
  mode : Nat
  reg : Nat
  deriving DecidableEq, Repr

/-- The fields of a memory move (R281): memory of the first access (true Y), first access, second access if any. -/
structure MovArgs where
  memY : Bool
  a1 : MovAcc
  a2 : Option MovAcc
  deriving DecidableEq, Repr

/-- The fields of a register move (R283): DST, SRC, IMM16. -/
structure RegArgs where
  dst : Nat
  src : Nat
  imm : Nat
  deriving DecidableEq, Repr

/-- The fields of an address-class instruction (R286): address register and bits 15:0. -/
structure AddrArgs where
  r : Nat
  imm : Nat
  deriving DecidableEq, Repr

/-- The fields of a long instruction (R286): register code, Dm and the second word. -/
structure LongArgs where
  r : Nat
  m : Nat
  imm : Word
  deriving DecidableEq, Repr

/-- How a far access ended (R289, R291): cycles the core waited, and whether it failed after the single retry. -/
structure Far where
  wait : Nat
  lasting : Bool
  deriving DecidableEq, Repr

/-- Failed tail reads (R140): bus, bank (0xFF the delay line), partition. -/
abbrev TailFails := List (Nat × Nat × Nat)

/-- What the input pins of a group's ports carried in the frame that ended: port, and the levels at the edges of the bit clock, bit clock 0
the one of the frame edge (R182): bit 2c the level at the rising edge of bit clock c, bit 2c + 1 at its falling edge. The first bit
clock of the next frame is the last. -/
abbrev PinData := List (Nat × Nat)

/-- An edge of a group's FS (R180, R181): whether it rises, and the levels sampled in the frame before it. -/
structure FsEdge where
  rising : Bool
  pins : PinData
  deriving DecidableEq, Repr

/-- What has lost lock (R210, R265): one port's block lock, or the SerDes PLL under both ports. -/
inductive LockLoss where
  | port (mac : Nat)
  | serdesPll
  deriving DecidableEq, Repr

/-- What the PCS and FCS check say of a received frame (R209, R245): event ticks since its start character, the core cycle within
that tick, a wrong FCS, a PCS error or odd length. -/
structure RxMeta where
  ago : Nat
  cyc : Nat
  fcsBad : Bool
  alignBad : Bool
  deriving DecidableEq, Repr

/-- What the surroundings and the engines' timing give at quantum boundary n: the levels of the microphone pins in the quantum that ended
(data pin, bit 2i the level at rising edge i of the PDM clock, bit 2i + 1 at falling edge i); objects whose path setup was late; objects whose
alignment reads for quantum n - 1 were late, and bursts of them that failed (object, index of the burst in its line; R93); output ports and
output contexts without a block (R24); waits of the Prism lanes in cycles; whether the pipeline delivered the output quantum (R431); whether
Prism or the Lens head has not finished (R26); SRAM words that an engine read with an error, a Facet core's own memories among them (address,
outcome; R344); whether the lanes of half B have passed their test (R99). -/
structure BoundaryEnv where
  pdm : List (Nat × Nat)
  setupLate : List Nat
  bulkLate : List Nat
  bulkEcc : List (Nat × Nat)
  portLate : List Nat
  streamLate : List Nat
  waits : List Nat
  delivered : Bool
  prismLate : Bool
  lensLate : Bool
  sram : List (Nat × Ecc)
  halfTested : Bool
  deriving DecidableEq, Repr

/-- The commands the block takes from outside: one constructor per row of spec/opcode_table.json, in its order. -/
inductive Instr where
  /-- BOOT_GO (R376). -/
  | bootGo (h : Hdr) (p : Bytes)
  /-- SYS_INFO (R397). -/
  | sysInfo (h : Hdr) (p : Bytes)
  /-- MODE_SET (R403). -/
  | modeSet (h : Hdr) (p : Bytes)
  /-- RATE_SET (R406). -/
  | rateSet (h : Hdr) (p : Bytes)
  /-- SYS_RESET (R407). -/
  | sysReset (h : Hdr) (p : Bytes)
  /-- FW_STAGE (R377). -/
  | fwStage (h : Hdr) (p : Bytes)
  /-- FW_COMMIT (R378). -/
  | fwCommit (h : Hdr) (p : Bytes)
  /-- FW_STATUS (R377). -/
  | fwStatus (h : Hdr) (p : Bytes)
  /-- DEBUG_CHALLENGE (R380). -/
  | debugChallenge (h : Hdr) (p : Bytes)
  /-- DEBUG_UNLOCK (R380). -/
  | debugUnlock (h : Hdr) (p : Bytes)
  /-- HOST_REGION_SET (R383). -/
  | hostRegionSet (h : Hdr) (p : Bytes)
  /-- CLAIM_LIST (R396). -/
  | claimList (h : Hdr) (p : Bytes)
  /-- DDR_SPEED_SET (R363). -/
  | ddrSpeedSet (h : Hdr) (p : Bytes)
  /-- DDR_CAL (R361). -/
  | ddrCal (h : Hdr) (p : Bytes)
  /-- DDR_KEEP_SET (R365). -/
  | ddrKeepSet (h : Hdr) (p : Bytes)
  /-- DDR_GUARD_SET (R368). -/
  | ddrGuardSet (h : Hdr) (p : Bytes)
  /-- DDR_STATUS_GET (R407). -/
  | ddrStatusGet (h : Hdr) (p : Bytes)
  /-- LAYOUT_LOAD (R48). -/
  | layoutLoad (h : Hdr) (p : Bytes)
  /-- LAYOUT_COMMIT (R48). -/
  | layoutCommit (h : Hdr) (p : Bytes)
  /-- AIR_SET (R39). -/
  | airSet (h : Hdr) (p : Bytes)
  /-- OBJECT_UPDATE (R72). -/
  | objectUpdate (h : Hdr) (p : Bytes)
  /-- OBJECT_DIRECT_SET (R408). -/
  | objectDirectSet (h : Hdr) (p : Bytes)
  /-- OBJECT_STATUS (R409). -/
  | objectStatus (h : Hdr) (p : Bytes)
  /-- INPUT_MAP_SET (R75). -/
  | inputMapSet (h : Hdr) (p : Bytes)
  /-- OUTPUT_MAP_SET (R76). -/
  | outputMapSet (h : Hdr) (p : Bytes)
  /-- SCENE_RX_SET (R70). -/
  | sceneRxSet (h : Hdr) (p : Bytes)
  /-- PRISM_HALF_SET (R98). -/
  | prismHalfSet (h : Hdr) (p : Bytes)
  /-- ALIGN_DELAY_SET (R91). -/
  | alignDelaySet (h : Hdr) (p : Bytes)
  /-- PRISM_AIR_SET (R101). -/
  | prismAirSet (h : Hdr) (p : Bytes)
  /-- PRISM_XFADE_SET (R101). -/
  | prismXfadeSet (h : Hdr) (p : Bytes)
  /-- PRISM_STATUS_GET (R410). -/
  | prismStatusGet (h : Hdr) (p : Bytes)
  /-- META_CFG_SET (R113). -/
  | metaCfgSet (h : Hdr) (p : Bytes)
  /-- TRAJ_MODEL_SET (R128). -/
  | trajModelSet (h : Hdr) (p : Bytes)
  /-- OBJECT_RELEASE (R107). -/
  | objectRelease (h : Hdr) (p : Bytes)
  /-- PLACEMENT_REPORT (R127). -/
  | placementReport (h : Hdr) (p : Bytes)
  /-- LENS_BANK_LOAD (R151). -/
  | lensBankLoad (h : Hdr) (p : Bytes)
  /-- LENS_SWAP (R142). -/
  | lensSwap (h : Hdr) (p : Bytes)
  /-- LENS_TAIL_SET (R135). -/
  | lensTailSet (h : Hdr) (p : Bytes)
  /-- LENS_TRIM_SET (R131). -/
  | lensTrimSet (h : Hdr) (p : Bytes)
  /-- LENS_LIMIT_SET (R147). -/
  | lensLimitSet (h : Hdr) (p : Bytes)
  /-- LENS_DET_SET (R148). -/
  | lensDetSet (h : Hdr) (p : Bytes)
  /-- LENS_DET_MAP (R148). -/
  | lensDetMap (h : Hdr) (p : Bytes)
  /-- LENS_METER_GET (R411). -/
  | lensMeterGet (h : Hdr) (p : Bytes)
  /-- LENS_STATUS_GET (R153). -/
  | lensStatusGet (h : Hdr) (p : Bytes)
  /-- PORT_GROUP_SET (R203). -/
  | portGroupSet (h : Hdr) (p : Bytes)
  /-- PORT_SET (R187). -/
  | portSet (h : Hdr) (p : Bytes)
  /-- PORT_ENABLE (R197). -/
  | portEnable (h : Hdr) (p : Bytes)
  /-- PORT_MASK_SET (R189). -/
  | portMaskSet (h : Hdr) (p : Bytes)
  /-- PORT_STATUS_GET (R205). -/
  | portStatusGet (h : Hdr) (p : Bytes)
  /-- NET_MODE_SET (R207). -/
  | netModeSet (h : Hdr) (p : Bytes)
  /-- NET_ADDR_SET (R524). -/
  | netAddrSet (h : Hdr) (p : Bytes)
  /-- NET_FILTER_SET (R218). -/
  | netFilterSet (h : Hdr) (p : Bytes)
  /-- NET_STATUS_GET (R241). -/
  | netStatusGet (h : Hdr) (p : Bytes)
  /-- NET_HOST_RX (R413). -/
  | netHostRx (h : Hdr) (p : Bytes)
  /-- NET_HOST_TX (R414). -/
  | netHostTx (h : Hdr) (p : Bytes)
  /-- MDIO_ACCESS (R206). -/
  | mdioAccess (h : Hdr) (p : Bytes)
  /-- STREAM_SET (R226). -/
  | streamSet (h : Hdr) (p : Bytes)
  /-- STREAM_ENABLE (R240). -/
  | streamEnable (h : Hdr) (p : Bytes)
  /-- STREAM_STATUS_GET (R241). -/
  | streamStatusGet (h : Hdr) (p : Bytes)
  /-- TIME_PTP_SET (R269). -/
  | timePtpSet (h : Hdr) (p : Bytes)
  /-- TIME_SERVO_SET (R269). -/
  | timeServoSet (h : Hdr) (p : Bytes)
  /-- TIME_STEP (R256). -/
  | timeStep (h : Hdr) (p : Bytes)
  /-- TIME_SOURCE_SET (R255). -/
  | timeSourceSet (h : Hdr) (p : Bytes)
  /-- TIME_STATUS_GET (R269). -/
  | timeStatusGet (h : Hdr) (p : Bytes)
  /-- TS_ADJ_SET (R246). -/
  | tsAdjSet (h : Hdr) (p : Bytes)
  /-- SYNC_OUT_SET (R266). -/
  | syncOutSet (h : Hdr) (p : Bytes)
  /-- CAP_SET (R267). -/
  | capSet (h : Hdr) (p : Bytes)
  /-- CAP_READ (R268). -/
  | capRead (h : Hdr) (p : Bytes)
  /-- MIC_CFG (R159). -/
  | micCfg (h : Hdr) (p : Bytes)
  /-- COMP_LOAD (R161). -/
  | compLoad (h : Hdr) (p : Bytes)
  /-- COMP_SWAP (R162). -/
  | compSwap (h : Hdr) (p : Bytes)
  /-- MIC_DET_MAP (R163). -/
  | micDetMap (h : Hdr) (p : Bytes)
  /-- MIC_METER_GET (R164). -/
  | micMeterGet (h : Hdr) (p : Bytes)
  /-- GEN_SET (R167). -/
  | genSet (h : Hdr) (p : Bytes)
  /-- GEN_DRIVE (R168). -/
  | genDrive (h : Hdr) (p : Bytes)
  /-- GEN_START (R169). -/
  | genStart (h : Hdr) (p : Bytes)
  /-- GEN_STOP (R169). -/
  | genStop (h : Hdr) (p : Bytes)
  /-- GEN_RELEASE (R177). -/
  | genRelease (h : Hdr) (p : Bytes)
  /-- CAPTURE_SET (R170). -/
  | captureSet (h : Hdr) (p : Bytes)
  /-- CAPTURE_START (R171). -/
  | captureStart (h : Hdr) (p : Bytes)
  /-- CAPTURE_STOP (R173). -/
  | captureStop (h : Hdr) (p : Bytes)
  /-- CAPTURE_READ (R176). -/
  | captureRead (h : Hdr) (p : Bytes)
  /-- CAPTURE_RELEASE (R170). -/
  | captureRelease (h : Hdr) (p : Bytes)
  /-- FACET_TASK_LOAD (R301). -/
  | facetTaskLoad (h : Hdr) (p : Bytes)
  /-- FACET_TASK_SET (R302). -/
  | facetTaskSet (h : Hdr) (p : Bytes)
  /-- FACET_CHAN_SET (R292). -/
  | facetChanSet (h : Hdr) (p : Bytes)
  /-- FACET_TASK_ENABLE (R302). -/
  | facetTaskEnable (h : Hdr) (p : Bytes)
  /-- FACET_STAGE_SET (R302). -/
  | facetStageSet (h : Hdr) (p : Bytes)
  /-- FACET_STATUS_GET (R302). -/
  | facetStatusGet (h : Hdr) (p : Bytes)
  /-- FACET_TASK_UNLOAD (R302). -/
  | facetTaskUnload (h : Hdr) (p : Bytes)
  /-- SCHED_CFG_SET (R304). -/
  | schedCfgSet (h : Hdr) (p : Bytes)
  /-- TASK_SUBMIT (R322). -/
  | taskSubmit (h : Hdr) (p : Bytes)
  /-- TIMER_SET (R315). -/
  | timerSet (h : Hdr) (p : Bytes)
  /-- SCHED_STATUS_GET (R322). -/
  | schedStatusGet (h : Hdr) (p : Bytes)
  /-- TESTGEN_SET (R415). -/
  | testgenSet (h : Hdr) (p : Bytes)
  /-- MIRROR_CFG (R430). -/
  | mirrorCfg (h : Hdr) (p : Bytes)
  /-- HANDOVER (R416). -/
  | handover (h : Hdr) (p : Bytes)
  /-- MIRROR_READY (R438). -/
  | mirrorReady (h : Hdr) (p : Bytes)
  /-- MIRROR_STATUS_GET (R416). -/
  | mirrorStatusGet (h : Hdr) (p : Bytes)
  /-- HIER_CFG (R417). -/
  | hierCfg (h : Hdr) (p : Bytes)
  /-- HIER_STATUS_GET (R417). -/
  | hierStatusGet (h : Hdr) (p : Bytes)
  /-- COUNTER_READ (R418). -/
  | counterRead (h : Hdr) (p : Bytes)
  /-- PERF_CFG (R468). -/
  | perfCfg (h : Hdr) (p : Bytes)
  /-- PERF_READ (R467). -/
  | perfRead (h : Hdr) (p : Bytes)
  /-- TRACE_CFG (R474). -/
  | traceCfg (h : Hdr) (p : Bytes)
  /-- TRACE_READ (R475). -/
  | traceRead (h : Hdr) (p : Bytes)
  /-- DUMP_INFO (R479). -/
  | dumpInfo (h : Hdr) (p : Bytes)
  /-- DUMP_READ (R479). -/
  | dumpRead (h : Hdr) (p : Bytes)
  /-- DUMP_CLEAR (R479). -/
  | dumpClear (h : Hdr) (p : Bytes)
  /-- EVENT_MASK_SET (R420). -/
  | eventMaskSet (h : Hdr) (p : Bytes)
  /-- DOORBELL (R389). -/
  | doorbell (bits : Byte)
  /-- COMMAND_HANDLE (R390). -/
  | commandHandle (glitch : Bool)
  /-- MBX_DONE_CLEAR (R389). -/
  | mbxDoneClear (bits : Byte)
  /-- COMMAND_SLOT_WRITE (R389). -/
  | commandSlotWrite (off : Nat) (data : Bytes)
  /-- BULK_COPY_DONE (R391). -/
  | bulkCopyDone (slot : Nat)
  /-- MBX_EVR_CFG_WRITE (R394). -/
  | mbxEvrCfgWrite (v : Word)
  /-- MBX_EVR_CONS_WRITE (R394). -/
  | mbxEvrConsWrite (v : Word)
  /-- SPI_TRANSACTION (R386). -/
  | spiTransaction (ins : Byte) (off : Nat) (data : Bytes) (n : Nat)
  /-- BAR2_ACCESS (R522). -/
  | bar2Access (off : Nat) (a : Access)
  /-- DEBUG_WINDOW_ACCESS (R523). -/
  | debugWindowAccess (w : Nat) (a : Access)
  /-- HOSTIF_DBG_WIN_WRITE (R523). -/
  | hostifDbgWinWrite (v : Word)
  /-- FUNCTION_LEVEL_RESET (R385). -/
  | functionLevelReset
  /-- LINK_DOWN (R385). -/
  | linkDown
  /-- PCIE_PERST_N (R490). -/
  | pciePerstN (level : Bool)
  /-- LATCH (R243). -/
  | latchTime
  /-- UPDATE (R250). -/
  | updateServo
  /-- LOCK_ACQ (R338). -/
  | lockAcq (master n : Nat)
  /-- LOCK_REL (R339). -/
  | lockRel (master n : Nat)
  /-- PERF_CNT_LO_READ (R470). -/
  | perfCntLoRead (master n : Nat)
  /-- PERF_CNT_HI_READ (R470). -/
  | perfCntHiRead (master n : Nat)
  /-- RX_RING_RETURN (R223). -/
  | rxRingReturn (mac ring n : Nat)
  /-- RX_RING_ENABLE (R223). -/
  | rxRingEnable (mac ring : Nat)
  /-- TX_RING_TAIL_WRITE (R224). -/
  | txRingTailWrite (mac ring v : Nat)
  /-- TX_RING_ENABLE (R224). -/
  | txRingEnable (mac ring : Nat)
  /-- TX_DESCRIPTOR_DONE (R224). -/
  | txDescriptorDone (mac ring : Nat)
  /-- MARGIN_CLR (R138). -/
  | marginClr
  /-- STEP (R379). -/
  | stepCore (core : Nat) (f : Far)
  /-- HALT (R379). -/
  | haltCore (core : Nat)
  /-- RESTART (R370). -/
  | restartWdt
  /-- REGISTER_WRITE (R11). -/
  | registerWrite (addr : Nat) (v : Word)
  /-- JTAG_IDCODE (R491). -/
  | jtagIdcode
  /-- JTAG_BYPASS (R491). -/
  | jtagBypass
  /-- PORST_N (R456). -/
  | porstN
  /-- WARM_RST_N (R457). -/
  | warmRstN
  /-- WARM_RESET_RELEASE (R457). -/
  | warmResetRelease (straps : Straps)
  /-- POWER_FAIL (R458). -/
  | powerFail
  /-- POWER_FAIL_RESTART (R458). -/
  | powerFailRestart
  /-- IMAGE_LOAD_DONE (R374). -/
  | imageLoadDone (bad : Bool)
  /-- CHAIN_BOOT_FORWARD (R216). -/
  | chainBootForward (locked : Nat)
  /-- FIRMWARE_START (R392). -/
  | firmwareStart
  /-- NETWORK_START (R219). -/
  | networkStart (locked : Nat)
  /-- STARTUP_PARK (R452). -/
  | startupPark
  /-- MODE_ENTRY (R404). -/
  | modeEntry
  /-- WATCHDOG_EXPIRY (R370). -/
  | watchdogExpiry
  /-- SAFE_ENTRY (R460). -/
  | safeEntry
  /-- AUTO_RESET (R462). -/
  | autoReset
  /-- THERM_TRIP_N (R459). -/
  | thermTripN
  /-- INTERNAL_THERMAL_TRIP (R459). -/
  | internalThermalTrip
  /-- THERM_WARN (R459). -/
  | thermWarn (temp : Nat)
  /-- QUANTUM_BOUNDARY (R21). -/
  | quantumBoundary (env : BoundaryEnv)
  /-- RT_RELEASE (R313). -/
  | rtRelease
  /-- CUT_OFF (R293). -/
  | cutOff
  /-- FACET_OVERRUN (R294). -/
  | facetOverrun (core : Nat)
  /-- TASK_DISPATCH (R308). -/
  | taskDispatch (lat : Nat)
  /-- RESUME (R309). -/
  | resumeI (core : Nat)
  /-- TIMER_EXPIRY (R315). -/
  | timerExpiry (list : Nat)
  /-- EVENT_ITEM (R317). -/
  | eventItem (task : Option Nat) (level : Nat) (flow : Option Nat) (arg : Bytes)
  /-- OBS_WINDOW_END (R321). -/
  | obsWindowEnd
  /-- MUL (R280). -/
  | mulM (core : Nat) (a : MacArgs)
  /-- MAC (R280). -/
  | mac (core : Nat) (a : MacArgs)
  /-- MSB (R280). -/
  | msb (core : Nat) (a : MacArgs)
  /-- MACQ (R280). -/
  | macq (core : Nat) (a : MacArgs)
  /-- DMAC (R280). -/
  | dmac (core : Nat) (a : MacArgs)
  /-- DMSB (R280). -/
  | dmsb (core : Nat) (a : MacArgs)
  /-- CMAC (R280). -/
  | cmac (core : Nat) (a : MacArgs)
  /-- CMSB (R280). -/
  | cmsb (core : Nat) (a : MacArgs)
  /-- ACC_CLR (R286). -/
  | accClr (core : Nat) (a : AccArgs)
  /-- ACC_ADD (R286). -/
  | accAdd (core : Nat) (a : AccArgs)
  /-- ACC_SUB (R286). -/
  | accSub (core : Nat) (a : AccArgs)
  /-- ADDD (R286). -/
  | addd (core : Nat) (a : AccArgs)
  /-- SUBD (R286). -/
  | subd (core : Nat) (a : AccArgs)
  /-- NEG (R286). -/
  | negA (core : Nat) (a : AccArgs)
  /-- ABS (R286). -/
  | absA (core : Nat) (a : AccArgs)
  /-- ACC_TFR (R286). -/
  | accTfr (core : Nat) (a : AccArgs)
  /-- QNT (R286). -/
  | qnt (core : Nat) (a : AccArgs)
  /-- SAT (R286). -/
  | satA (core : Nat) (a : AccArgs)
  /-- ACC_ASL (R286). -/
  | accAsl (core : Nat) (a : AccArgs)
  /-- ACC_ASR (R286). -/
  | accAsr (core : Nat) (a : AccArgs)
  /-- ASH (R286). -/
  | ash (core : Nat) (a : AccArgs)
  /-- NORM (R276). -/
  | normA (core : Nat) (a : AccArgs)
  /-- EXP (R276). -/
  | expA (core : Nat) (a : AccArgs)
  /-- ACC_MAX (R286). -/
  | accMax (core : Nat) (a : AccArgs)
  /-- ACC_MIN (R286). -/
  | accMin (core : Nat) (a : AccArgs)
  /-- ACC_CMP (R286). -/
  | accCmp (core : Nat) (a : AccArgs)
  /-- DALU_ADD (R286). -/
  | daluAdd (core : Nat) (a : DataArgs)
  /-- DALU_SUB (R286). -/
  | daluSub (core : Nat) (a : DataArgs)
  /-- AND (R286). -/
  | andD (core : Nat) (a : DataArgs)
  /-- OR (R286). -/
  | orD (core : Nat) (a : DataArgs)
  /-- XOR (R286). -/
  | xorD (core : Nat) (a : DataArgs)
  /-- NOT (R286). -/
  | notD (core : Nat) (a : DataArgs)
  /-- DALU_ASL (R286). -/
  | daluAsl (core : Nat) (a : DataArgs)
  /-- DALU_ASR (R286). -/
  | daluAsr (core : Nat) (a : DataArgs)
  /-- LSR (R286). -/
  | lsr (core : Nat) (a : DataArgs)
  /-- DALU_MIN (R286). -/
  | daluMin (core : Nat) (a : DataArgs)
  /-- DALU_MAX (R286). -/
  | daluMax (core : Nat) (a : DataArgs)
  /-- DALU_CMP (R286). -/
  | daluCmp (core : Nat) (a : DataArgs)
  /-- MULL (R286). -/
  | mull (core : Nat) (a : DataArgs)
  /-- MOVE (R281). -/
  | moveI (core : Nat) (a : MovArgs)
  /-- TFR (R283). -/
  | tfr (core : Nat) (a : RegArgs)
  /-- LDS (R283). -/
  | lds (core : Nat) (a : RegArgs)
  /-- LDH (R283). -/
  | ldh (core : Nat) (a : RegArgs)
  /-- LDA (R286). -/
  | lda (core : Nat) (a : AddrArgs)
  /-- ADDA (R286). -/
  | adda (core : Nat) (a : AddrArgs)
  /-- ADDL (R286). -/
  | addl (core : Nat) (a : AddrArgs)
  /-- MOVA (R286). -/
  | mova (core : Nat) (a : AddrArgs)
  /-- TFRA (R286). -/
  | tfra (core : Nat) (a : AddrArgs)
  /-- TFRD (R286). -/
  | tfrd (core : Nat) (a : AddrArgs)
  /-- RPT (R287). -/
  | rpt (core : Nat) (reg : Bool) (n : Nat)
  /-- LOOP (R288). -/
  | loopI (core : Nat) (reg : Bool) (body n : Nat)
  /-- LEAVE (R284). -/
  | leaveI (core cc : Nat)
  /-- NOP (R285). -/
  | nopI (core : Nat)
  /-- BRA (R285). -/
  | bra (core cc t : Nat)
  /-- BSR (R285). -/
  | bsr (core cc t : Nat)
  /-- RTS (R285). -/
  | rts (core cc : Nat)
  /-- JMP (R285). -/
  | jmp (core m : Nat)
  /-- YIELD (R285). -/
  | yieldI (core : Nat)
  /-- TRAP (R285). -/
  | trapI (core k : Nat)
  /-- FENCE (R285). -/
  | fenceI (core wait : Nat)
  /-- SETM (R285). -/
  | setm (core mask v : Nat)
  /-- SEG (R285). -/
  | segI (core k : Nat)
  /-- LDI (R286). -/
  | ldi (core : Nat) (a : LongArgs)
  /-- ADDI (R286). -/
  | addi (core : Nat) (a : LongArgs)
  /-- CMPI (R286). -/
  | cmpi (core : Nat) (a : LongArgs)
  /-- FLD (R291). -/
  | fld (core : Nat) (a : LongArgs) (f : Far)
  /-- FST (R291). -/
  | fst (core : Nat) (a : LongArgs) (f : Far)
  /-- XBAR_REQUEST (R325). -/
  | xbarRequest (r : XReq)
  /-- XBAR_GRANT (R333). -/
  | xbarGrant (target : Nat) (withdrawn : Bool)
  /-- XBAR_COMPLETE (R330). -/
  | xbarComplete (master tag : Nat) (e : Ecc) (held : Nat)
  /-- XBAR_TIMEOUT (R329). -/
  | xbarTimeout (master tag : Nat)
  /-- PARK_DEFAULT (R335). -/
  | parkDefault (target : Nat)
  /-- DRAM_REQUEST (R354). -/
  | dramRequest (reqs : List DramReq)
  /-- REFRESH (R356). -/
  | refresh (chan bank : Nat)
  /-- MR4_POLL (R356). -/
  | mr4Poll (codes again : List Nat)
  /-- ROW_WINDOW_END (R357). -/
  | rowWindowEnd
  /-- SCRUB (R351). -/
  | scrub (e : Ecc)
  /-- DLY_APPLY (R360). -/
  | dlyApply (chan : Nat)
  /-- SWEEP_DONE (R361). -/
  | sweepDone (windows : List Nat) (failLane : Option Nat)
  /-- DDR_PLL_LOSS (R367). -/
  | ddrPllLoss
  /-- DDR_RELOCK_END (R265). -/
  | ddrRelockEnd (locked : Bool)
  /-- LOCK_WINDOW_END (R261). -/
  | lockWindowEnd (count : Nat)
  /-- CLOCK_LOSS (R263). -/
  | clockLoss
  /-- REFCLK_MISSING (R262). -/
  | refclkMissing
  /-- REFCLK_PRESENT (R262). -/
  | refclkPresent
  /-- RELOCK_END (R263). -/
  | relockEnd
  /-- HOLD_TIMEOUT (R253). -/
  | holdTimeout
  /-- PPS (R244). -/
  | pps
  /-- SYNC_IN_EDGE (R202). -/
  | syncInEdge (rise : Bool)
  /-- CAP_EDGE (R267). -/
  | capEdge (input : Nat) (rising : Bool)
  /-- PORT_FRAME_EDGE (R189). -/
  | portFrameEdge (grp bits : Nat) (data : FsEdge)
  /-- GRP_LOST (R186). -/
  | grpLost (grp : Nat)
  /-- NONAUDIO_RELEASE (R200). -/
  | nonaudioRelease (stream : Bool) (index slot : Nat)
  /-- MIC_STUCK (R156). -/
  | micStuck (mic : Nat)
  /-- GEN_DONE (R169). -/
  | genDone
  /-- BLOCK_LOCK_LOSS (R210). -/
  | blockLockLoss (lost : LockLoss)
  /-- RETRAIN_END (R210). -/
  | retrainEnd (mac : Nat) (ok : Bool)
  /-- LINK_POLL (R210). -/
  | linkPoll (mac : Nat) (ok : Bool)
  /-- FRAME_RECEIVED (R208). -/
  | frameReceived (mac : Nat) (m : RxMeta) (frame : Bytes)
  /-- FORWARD_TRANSMIT (R213). -/
  | forwardTransmit (mac cyc : Nat)
  /-- STREAM_PACKET_SEND (R237). -/
  | streamPacketSend
  /-- LEG_DOWN (R234). -/
  | legDown (ctx leg : Nat)
  /-- ARP_TIMEOUT (R240). -/
  | arpTimeout
  /-- FLASH_PROGRAM_DONE (R377). -/
  | flashProgramDone
  /-- LENS_LOAD_DONE (R151). -/
  | lensLoadDone (bus bank : Nat)
  /-- TAIL_BLOCK_BOUNDARY (R138). -/
  | tailBlockBoundary (late : List Nat) (fails : TailFails) (spare : Nat)
  /-- SWITCH_TICK (R426). -/
  | switchTick
  /-- MIR_ACT_IN_CHANGE (R427). -/
  | mirActInChange (level : Bool)
  /-- ACT_IN_CONFIRMED (R435). -/
  | actInConfirmed
  /-- HEARTBEAT_CHECK (R433). -/
  | heartbeatCheck (present : Bool) (strays : Nat) (level : Bool)
  /-- WORKER_LOST (R447). -/
  | workerLost (id : Nat)
  /-- PORST_N_RELEASE (R487). -/
  | porstNRelease (straps : Straps) (banks : Nat)
  /-- PCIE_LINK_UP (R385). -/
  | pcieLinkUp (speed width : Nat)
  /-- MIC_TRANSITION (R156). -/
  | micTransition (mic : Nat)
  /-- SYS_RESET_APPLY (R407). -/
  | sysResetApply
  /-- FIRMWARE_ITEM_COMPLETE (R308). -/
  | firmwareItemComplete
  deriving DecidableEq, Repr

end Sys2Proof
end

