-- ==== Sys2Proof/Decode.lean ====
section
/-! DEFINITION. Decoding. The block takes commands, not words: no row of spec/opcode_table.json gives a command any bits, so no word of
the table spells a command. What the spec encodes (mailbox slots, Facet instruction words) is decoded where the hardware decodes it, in
Machine/Commands.lean and by whoever drives the Facet rows. -/

namespace Sys2Proof

/-- The command a word of the table spells: none, since no row gives bits. -/
def decodeTableWord (_nbits _w : Nat) : Option Instr := none

end Sys2Proof
end

