-- ==== Sys2Proof/Machine/Bits.lean ====
section
/-! DEFINITION. Bit fields, little-endian byte strings, signed readings and the CRC-32 of the spec's formats. -/

namespace Sys2Proof.Machine

/-- Bits hi:lo of a natural number. -/
def bitsOf (n hi lo : Nat) : Nat := (n >>> lo) % 2 ^ (hi + 1 - lo)

/-- Bit k of a natural number, as a truth value. -/
def bitOf (n k : Nat) : Bool := n.testBit k

/-- A truth value as the number 0 or 1. -/
def b2n (b : Bool) : Nat := if b then 1 else 0

/-- The number n with bits hi:lo replaced by v (taken to the width of the field). -/
def withBits (n hi lo v : Nat) : Nat :=
  n - (bitsOf n hi lo) * 2 ^ lo + (v % 2 ^ (hi + 1 - lo)) * 2 ^ lo

/-- The two's-complement reading of the low w bits of n. -/
def toSigned (w n : Nat) : Int :=
  let m := n % 2 ^ w
  if m < 2 ^ (w - 1) then (m : Int) else (m : Int) - (2 ^ w : Nat)

/-- The w-bit two's-complement pattern of an integer, as a natural number. -/
def ofSigned (w : Nat) (i : Int) : Nat := (i % ((2 ^ w : Nat) : Int)).toNat

/-- An integer clamped to the range lo to hi. -/
def clampInt (lo hi i : Int) : Int := if i < lo then lo else if hi < i then hi else i

/-- Division rounding to the nearest integer, halves away from zero (d > 0). -/
def divHalfAway (n d : Int) : Int :=
  if n < 0 then -((-n * 2 + d) / (2 * d)) else (n * 2 + d) / (2 * d)

/-- Division rounding to the nearest integer, halves to even (d > 0). -/
def divHalfEven (n d : Int) : Int :=
  let q := n / d
  let r := n % d
  if 2 * r < d then q else if d < 2 * r then q + 1 else if q % 2 = 0 then q else q + 1

/-- The byte at an index of a byte string; beyond its end, zero. -/
def u8At (p : Bytes) (i : Nat) : Nat := (p.getD i 0).toNat

/-- The little-endian 16-bit value at a byte index (R14). -/
def u16At (p : Bytes) (i : Nat) : Nat := u8At p i + 256 * u8At p (i + 1)

/-- The little-endian 32-bit value at a byte index (R14). -/
def u32At (p : Bytes) (i : Nat) : Nat := u16At p i + 65536 * u16At p (i + 2)

/-- The little-endian 64-bit value at a byte index (R14). -/
def u64At (p : Bytes) (i : Nat) : Nat := u32At p i + 2 ^ 32 * u32At p (i + 4)

/-- Signed readings of the same fields. -/
def s8At (p : Bytes) (i : Nat) : Int := toSigned 8 (u8At p i)
/-- The signed 16-bit field at a byte index. -/
def s16At (p : Bytes) (i : Nat) : Int := toSigned 16 (u16At p i)
/-- The signed 32-bit field at a byte index. -/
def s32At (p : Bytes) (i : Nat) : Int := toSigned 32 (u32At p i)
/-- The signed 64-bit field at a byte index. -/
def s64At (p : Bytes) (i : Nat) : Int := toSigned 64 (u64At p i)

/-- The big-endian 16-bit value at a byte index, as published network standards use (R14). -/
def be16At (p : Bytes) (i : Nat) : Nat := 256 * u8At p i + u8At p (i + 1)
/-- The big-endian 32-bit value at a byte index. -/
def be32At (p : Bytes) (i : Nat) : Nat := 65536 * be16At p i + be16At p (i + 2)
/-- The big-endian 48-bit value at a byte index (a MAC address). -/
def be48At (p : Bytes) (i : Nat) : Nat := 2 ^ 32 * be16At p i + be32At p (i + 2)
/-- The big-endian 64-bit value at a byte index. -/
def be64At (p : Bytes) (i : Nat) : Nat := 2 ^ 32 * be32At p i + be32At p (i + 4)

/-- The k low bytes of n, lowest first. -/
def leBytes : Nat → Nat → Bytes
  | 0, _ => []
  | k + 1, n => BitVec.ofNat 8 n :: leBytes k (n / 256)

/-- The k low bytes of n, highest first. -/
def beBytes (k n : Nat) : Bytes := (leBytes k n).reverse

/-- One-byte string. -/
def le8 (n : Nat) : Bytes := leBytes 1 n
/-- A 16-bit little-endian string. -/
def le16 (n : Nat) : Bytes := leBytes 2 n
/-- A 32-bit little-endian string. -/
def le32 (n : Nat) : Bytes := leBytes 4 n
/-- A 64-bit little-endian string. -/
def le64 (n : Nat) : Bytes := leBytes 8 n
/-- A signed 16-bit field as its string. -/
def leS16 (i : Int) : Bytes := leBytes 2 (ofSigned 16 i)
/-- A signed 32-bit field as its string. -/
def leS32 (i : Int) : Bytes := leBytes 4 (ofSigned 32 i)
/-- A signed 64-bit field as its string. -/
def leS64 (i : Int) : Bytes := leBytes 8 (ofSigned 64 i)

/-- A byte string of n zero bytes. -/
def zeros (n : Nat) : Bytes := List.replicate n 0

/-- A byte string cut or padded with zeros to n bytes. -/
def fitBytes (n : Nat) (p : Bytes) : Bytes := p.take n ++ zeros (n - p.length)

/-- The n bytes of p from index i (fewer at its end). -/
def slice (p : Bytes) (i n : Nat) : Bytes := (p.drop i).take n

/-- p cut into consecutive pieces of n bytes; k bounds the number of pieces. -/
def chunks : Nat → Nat → Bytes → List Bytes
  | 0, _, _ => []
  | k + 1, n, p => if p.isEmpty then [] else p.take n :: chunks k n (p.drop n)

/-- The whole entries of n bytes that a byte string holds. -/
def entries (n : Nat) (p : Bytes) : List Bytes := chunks (p.length / n) n p

/-- One bit of the reflected CRC-32 of IEEE 802.3 (R387). -/
def crcBit (c : Nat) : Nat := if c % 2 = 1 then (c / 2) ^^^ 0xEDB88320 else c / 2

/-- One byte of the reflected CRC-32. -/
def crcByte (c : Nat) (b : Byte) : Nat :=
  let x := c ^^^ b.toNat
  crcBit (crcBit (crcBit (crcBit (crcBit (crcBit (crcBit (crcBit x)))))))

/-- CRC-32, IEEE 802.3 polynomial, reflected, initial value and final XOR 0xFFFF_FFFF (R387). -/
def crc32 (p : Bytes) : Nat := (p.foldl crcByte 0xFFFFFFFF) ^^^ 0xFFFFFFFF

/-- The 32-bit serial comparison of R20: a comes after b when (a − b) mod 2^32 lies in 1 to 2^31 − 1. -/
def after32 (a b : Nat) : Bool :=
  let d := (a + 2 ^ 32 - b % 2 ^ 32) % 2 ^ 32
  decide (0 < d ∧ d < 2 ^ 31)

end Sys2Proof.Machine
end

