-- ==== Sys2Proof/Machine/Crypto.lean ====
section
/-! DEFINITION. SHA-256 and the check of an ECDSA P-256 signature, which R373, R374 and R380 name. The two algorithms are those of
FIPS 180-4 and of FIPS 186-4 with SEC 1; their constants come from there (PRESUMED: the spec names the algorithms only). -/

namespace Sys2Proof.Machine

/-! ### SHA-256 -/

/-- The low 32 bits of a number. -/
def w32 (n : Nat) : Nat := n % 2 ^ 32

/-- A word rotated right. -/
def turn (n c : Nat) : Nat := w32 ((n * 2 ^ 32 + n) / 2 ^ c)

/-- The first 16 round constants, the first in the top bits. -/
def shaC0 : Nat := 0x428a2f9871374491b5c0fbcfe9b5dba53956c25b59f111f1923f82a4ab1c5ed5d807aa9812835b01243185be550c7dc372be5d7480deb1fe9bdc06a7c19bf174

/-- The next 16. -/
def shaC1 : Nat := 0xe49b69c1efbe47860fc19dc6240ca1cc2de92c6f4a7484aa5cb0a9dc76f988da983e5152a831c66db00327c8bf597fc7c6e00bf3d5a7914706ca635114292967

/-- The next 16. -/
def shaC2 : Nat := 0x27b70a852e1b21384d2c6dfc53380d13650a7354766a0abb81c2c92e92722c85a2bfe8a1a81a664bc24b8b70c76c51a3d192e819d6990624f40e3585106aa070

/-- The last 16. -/
def shaC3 : Nat := 0x19a4c1161e376c082748774c34b0bcb5391c0cb34ed8aa4a5b9cca4f682e6ff3748f82ee78a5636f84c878148cc7020890befffaa4506cebbef9a3f7c67178f2

/-- Round constant t, which stands in a number of 16 of them. -/
def shaConst (t : Nat) : Nat :=
  let group := match t / 16 with
    | 0 => shaC0 | 1 => shaC1 | 2 => shaC2 | _ => shaC3
  w32 (group / 2 ^ (32 * (15 - t % 16)))

/-- The working variables of a block, which also hold a hash value. -/
structure ShaVars where
  a : Nat
  b : Nat
  c : Nat
  d : Nat
  e : Nat
  f : Nat
  g : Nat
  h : Nat
  deriving DecidableEq, Repr

/-- The variables from a number of 256 bits. -/
def ShaVars.ofNat (n : Nat) : ShaVars :=
  let word := fun (k : Nat) => w32 (n / 2 ^ (32 * k))
  ⟨word 7, word 6, word 5, word 4, word 3, word 2, word 1, word 0⟩

/-- The 32 bytes of a hash value. -/
def ShaVars.bytes (v : ShaVars) : Bytes := [v.a, v.b, v.c, v.d, v.e, v.f, v.g, v.h].flatMap (beBytes 4)

/-- The initial hash value. -/
def shaStart : ShaVars := ShaVars.ofNat 0x6a09e667bb67ae853c6ef372a54ff53a510e527f9b05688c1f83d9ab5be0cd19

/-- A round; x is the sum of its constant and its message word. -/
def ShaVars.round (v : ShaVars) (x : Nat) : ShaVars :=
  let pick := v.g ^^^ (v.e &&& (v.f ^^^ v.g))
  let most := (v.a &&& (v.b ||| v.c)) ||| (v.b &&& v.c)
  let lift := x + v.h + (turn v.e 6 ^^^ turn v.e 11 ^^^ turn v.e 25) + pick
  let drop := (turn v.a 2 ^^^ turn v.a 13 ^^^ turn v.a 22) + most
  { a := w32 (lift + drop), b := v.a, c := v.b, d := v.c, e := w32 (v.d + lift), f := v.e, g := v.f, h := v.g }

/-- The word that joins the 16 message words in use when the first of them goes. -/
def shaJoin (win : List Nat) : Nat :=
  let mix := fun (i j k n : Nat) => turn n i ^^^ turn n j ^^^ n / 2 ^ k
  w32 (win.headD 0 + mix 7 18 3 (win.getD 1 0) + win.getD 9 0 + mix 17 19 10 (win.getD 14 0))

/-- The last n of the 64 rounds, with the 16 message words in use. -/
def shaRounds : Nat → List Nat → ShaVars → ShaVars
  | 0, _, v => v
  | n + 1, win, v => shaRounds n (win.drop 1 ++ [shaJoin win]) (v.round (shaConst (63 - n) + win.headD 0))

/-- One block of 64 bytes added to a hash value. -/
def ShaVars.block (v : ShaVars) (b : Bytes) : ShaVars :=
  let w := shaRounds 64 ((entries 4 b).map (fun q => be32At q 0)) v
  ⟨w32 (v.a + w.a), w32 (v.b + w.b), w32 (v.c + w.c), w32 (v.d + w.d), w32 (v.e + w.e), w32 (v.f + w.f), w32 (v.g + w.g), w32 (v.h + w.h)⟩

/-- SHA-256 of a byte string, 32 bytes. -/
def sha256 (p : Bytes) : Bytes :=
  let fill := (119 - p.length % 64) % 64
  ((entries 64 (p ++ 0x80 :: zeros fill ++ beBytes 8 (8 * p.length))).foldl ShaVars.block shaStart).bytes

/-! ### P-256 -/

/-- The field prime of P-256. -/
def p256P : Nat := 0xffffffff00000001000000000000000000000000ffffffffffffffffffffffff
/-- The order of its base point. -/
def p256N : Nat := 0xffffffff00000000ffffffffffffffffbce6faada7179e84f3b9cac2fc632551
/-- The constant b of its equation y² = x³ − 3x + b. -/
def p256B : Nat := 0x5ac635d8aa3a93e7b3ebbd55769886bc651d06b0cc53b0f63bce3c3e27d2604b
/-- Its base point. -/
def p256G : Nat × Nat :=
  (0x6b17d1f2e12c4247f8bce6e563a440f277037d812deb33a0f4a13945d898c296,
   0x4fe342e2fe1a7f9b8ee7eb4a7c0f9e162bce33576b315ececbb6406837bf51f5)

/-- Powers modulo m, over the low bits of the exponent. -/
def powMod (m : Nat) : Nat → Nat → Nat → Nat
  | 0, _, _ => 1
  | k + 1, b, e => if e % 2 = 1 then b * powMod m k (b * b % m) (e / 2) % m else powMod m k (b * b % m) (e / 2)

/-- The inverse modulo a prime below 2^256. -/
def invMod (m a : Nat) : Nat := powMod m 256 (a % m) (m - 2)

/-- A point in Jacobian coordinates; Z of 0 is the point at infinity. -/
structure JPoint where
  x : Nat
  y : Nat
  z : Nat
  deriving DecidableEq, Repr

/-- A difference in the field. -/
def subP (a b : Nat) : Nat := (a + (p256P - b % p256P)) % p256P

/-- Twice a point. -/
def JPoint.double (q : JPoint) : JPoint :=
  let d := q.z * q.z % p256P
  let g := q.y * q.y % p256P
  let b := q.x * g % p256P
  let al := 3 * (subP q.x d * (q.x + d) % p256P) % p256P
  let x := subP (al * al % p256P) (8 * b)
  let z := subP (subP ((q.y + q.z) * (q.y + q.z) % p256P) g) d
  ⟨x, subP (al * subP (4 * b) x % p256P) (8 * (g * g % p256P)), z⟩

/-- The sum of two points. -/
def JPoint.add (a b : JPoint) : JPoint :=
  if a.z = 0 then b
  else if b.z = 0 then a
  else
    let z1 := a.z * a.z % p256P
    let z2 := b.z * b.z % p256P
    let u1 := a.x * z2 % p256P
    let u2 := b.x * z1 % p256P
    let s1 := a.y * (b.z * z2 % p256P) % p256P
    let s2 := b.y * (a.z * z1 % p256P) % p256P
    if u1 = u2 then (if s1 = s2 then a.double else ⟨1, 1, 0⟩)
    else
      let h := subP u2 u1
      let r := subP s2 s1
      let h2 := h * h % p256P
      let h3 := h * h2 % p256P
      let v := u1 * h2 % p256P
      let x := subP (subP (r * r % p256P) h3) (2 * v)
      ⟨x, subP (r * subP v x % p256P) (s1 * h3 % p256P), h * (a.z * b.z % p256P) % p256P⟩

/-- A multiple of a point, over the low bits of the factor. -/
def JPoint.times : Nat → Nat → JPoint → JPoint
  | 0, _, _ => ⟨1, 1, 0⟩
  | k + 1, n, q => if n % 2 = 1 then q.add (JPoint.times k (n / 2) q.double) else JPoint.times k (n / 2) q.double

/-- Whether two coordinates are a point of the curve. -/
def onCurve (x y : Nat) : Bool :=
  decide (x < p256P ∧ y < p256P) && y * y % p256P == (x * x * x + (p256P - 3) * x + p256B) % p256P

/-- A big-endian number. -/
def beNat (b : Bytes) : Nat := b.foldl (fun n x => 256 * n + x.toNat) 0

/-- Whether a signature, r then s, over a message verifies under a public key, X then Y, all big-endian of 32 bytes each. -/
def ecdsaOk (key sig msg : Bytes) : Bool :=
  let x := beNat (slice key 0 32)
  let y := beNat (slice key 32 32)
  let r := beNat (slice sig 0 32)
  let s := beNat (slice sig 32 32)
  let ok := onCurve x y && decide (0 < r ∧ r < p256N ∧ 0 < s ∧ s < p256N)
  let w := invMod p256N s
  let e := beNat (sha256 msg)
  let q := (JPoint.times 256 (e * w % p256N) ⟨p256G.1, p256G.2, 1⟩).add (JPoint.times 256 (r * w % p256N) ⟨x, y, 1⟩)
  let zi := invMod p256P q.z
  ok && q.z != 0 && q.x * (zi * zi % p256P) % p256P % p256N == r

end Sys2Proof.Machine
end

