-- ==== Sys2Proof/Machine/RegMap.lean ====
section
/-! DEFINITION. The register map of R518 and R520: the address of every register of the spec, and for each the fields
by access type (R11) and the reset value of its table. Names are the spec's, without the index letters. -/

namespace Sys2Proof.Machine


/-! ### PRISM -/

/-- `PRISM_CTRL`, offset 0x0000 (03_prism_path_engine.md). -/
abbrev Reg.PRISM_CTRL : Nat := 0x20070000
/-- `PRISM_STATUS`, offset 0x0004 (03_prism_path_engine.md). -/
abbrev Reg.PRISM_STATUS : Nat := 0x20070004
/-- `PRISM_CFG`, offset 0x0008 (03_prism_path_engine.md). -/
abbrev Reg.PRISM_CFG : Nat := 0x20070008
/-- `PRISM_XFADE_STEP`, offset 0x000C (03_prism_path_engine.md). -/
abbrev Reg.PRISM_XFADE_STEP : Nat := 0x2007000C
/-- `PRISM_AIR`, offset 0x0010 (03_prism_path_engine.md). -/
abbrev Reg.PRISM_AIR : Nat := 0x20070010
/-- `PRISM_BUDGET`, offset 0x0014 (03_prism_path_engine.md). -/
abbrev Reg.PRISM_BUDGET : Nat := 0x20070014
/-- `PRISM_COMMITTED`, offset 0x0018 (03_prism_path_engine.md). -/
abbrev Reg.PRISM_COMMITTED : Nat := 0x20070018
/-- `PRISM_XFADE`, offset 0x001C (03_prism_path_engine.md). -/
abbrev Reg.PRISM_XFADE : Nat := 0x2007001C
/-- `PRISM_LANE_CYCn`, offset 0x0020 + 4 × n, n = 0 to 7 (03_prism_path_engine.md). -/
abbrev Reg.PRISM_LANE_CYC (n : Nat) : Nat := 0x20070020 + 0x4 * n
/-- `PRISM_INT_STATUS`, offset 0x0040 (03_prism_path_engine.md). -/
abbrev Reg.PRISM_INT_STATUS : Nat := 0x20070040
/-- `PRISM_INT_EN`, offset 0x0044 (03_prism_path_engine.md). -/
abbrev Reg.PRISM_INT_EN : Nat := 0x20070044
/-- `PRISM_CNTn`, offset 0x0050 + 4 × n, n = 0 to 5 (03_prism_path_engine.md). -/
abbrev Reg.PRISM_CNT (n : Nat) : Nat := 0x20070050 + 0x4 * n
/-- `ALIGN_STATEn`, offset 0x1000 + 4 × n, n = 0 to 1,023 (03_prism_path_engine.md). -/
abbrev Reg.ALIGN_STATE (n : Nat) : Nat := 0x20071000 + 0x4 * n
/-- `WCLAMPn`, offset 0x2000 + 4 × n, n = 0 to 31 (03_prism_path_engine.md). -/
abbrev Reg.WCLAMP (n : Nat) : Nat := 0x20072000 + 0x4 * n

/-! ### META -/

/-- `META_CTRL`, offset 0x0000 (04_run_ahead_and_placement.md). -/
abbrev Reg.META_CTRL : Nat := 0x20080000
/-- `META_HORIZON`, offset 0x0004 (04_run_ahead_and_placement.md). -/
abbrev Reg.META_HORIZON : Nat := 0x20080004
/-- `META_CONV`, offset 0x0008 (04_run_ahead_and_placement.md). -/
abbrev Reg.META_CONV : Nat := 0x20080008
/-- `META_EXTRAP`, offset 0x000C (04_run_ahead_and_placement.md). -/
abbrev Reg.META_EXTRAP : Nat := 0x2008000C
/-- `META_FRONTIER`, offset 0x0010 (04_run_ahead_and_placement.md). -/
abbrev Reg.META_FRONTIER : Nat := 0x20080010
/-- `META_INT_STATUS`, offset 0x0040 (04_run_ahead_and_placement.md). -/
abbrev Reg.META_INT_STATUS : Nat := 0x20080040
/-- `META_INT_EN`, offset 0x0044 (04_run_ahead_and_placement.md). -/
abbrev Reg.META_INT_EN : Nat := 0x20080044
/-- `META_CNTn`, offset 0x0050 + 4 × n, n = 0 to 7 (04_run_ahead_and_placement.md). -/
abbrev Reg.META_CNT (n : Nat) : Nat := 0x20080050 + 0x4 * n
/-- `META_OBJn`, offset 0x1000 + 4 × n, n = 0 to 1,023 (04_run_ahead_and_placement.md). -/
abbrev Reg.META_OBJ (n : Nat) : Nat := 0x20081000 + 0x4 * n

/-! ### FOCUS -/

/-- `FOCUS_CTRL`, offset 0x0000 (04_run_ahead_and_placement.md). -/
abbrev Reg.FOCUS_CTRL : Nat := 0x20090000
/-- `FOCUS_STAGED`, offset 0x0004 (04_run_ahead_and_placement.md). -/
abbrev Reg.FOCUS_STAGED : Nat := 0x20090004
/-- `FOCUS_DEFERRED`, offset 0x0008 (04_run_ahead_and_placement.md). -/
abbrev Reg.FOCUS_DEFERRED : Nat := 0x20090008
/-- `FOCUS_MOVES`, offset 0x000C (04_run_ahead_and_placement.md). -/
abbrev Reg.FOCUS_MOVES : Nat := 0x2009000C
/-- `FOCUS_LANE_STARTn`, offset 0x0020 + 4 × n, n = 0 to 8 (04_run_ahead_and_placement.md). -/
abbrev Reg.FOCUS_LANE_START (n : Nat) : Nat := 0x20090020 + 0x4 * n
/-- `FOCUS_INT_STATUS`, offset 0x0040 (04_run_ahead_and_placement.md). -/
abbrev Reg.FOCUS_INT_STATUS : Nat := 0x20090040
/-- `FOCUS_INT_EN`, offset 0x0044 (04_run_ahead_and_placement.md). -/
abbrev Reg.FOCUS_INT_EN : Nat := 0x20090044
/-- `FOCUS_CNTn`, offset 0x0050 + 4 × n, n = 0 to 3 (04_run_ahead_and_placement.md). -/
abbrev Reg.FOCUS_CNT (n : Nat) : Nat := 0x20090050 + 0x4 * n
/-- `FOCUS_DEFERn`, offset 0x2000 + 4 × n, n = 0 to 31 (04_run_ahead_and_placement.md). -/
abbrev Reg.FOCUS_DEFER (n : Nat) : Nat := 0x20092000 + 0x4 * n

/-! ### LENS -/

/-- `LENS_CTRL`, offset 0x0000 (05_lens_output_chain.md). -/
abbrev Reg.LENS_CTRL : Nat := 0x200A0000
/-- `LENS_STATUS`, offset 0x0004 (05_lens_output_chain.md). -/
abbrev Reg.LENS_STATUS : Nat := 0x200A0004
/-- `LENS_POOL`, offset 0x0008 (05_lens_output_chain.md). -/
abbrev Reg.LENS_POOL : Nat := 0x200A0008
/-- `LENS_FADE_TAPS`, offset 0x000C (05_lens_output_chain.md). -/
abbrev Reg.LENS_FADE_TAPS : Nat := 0x200A000C
/-- `LENS_HEAD_LOAD`, offset 0x0010 (05_lens_output_chain.md). -/
abbrev Reg.LENS_HEAD_LOAD : Nat := 0x200A0010
/-- `LENS_TAIL_MARGIN`, offset 0x0014 (05_lens_output_chain.md). -/
abbrev Reg.LENS_TAIL_MARGIN : Nat := 0x200A0014
/-- `LENS_INT_STATUS`, offset 0x0040 (05_lens_output_chain.md). -/
abbrev Reg.LENS_INT_STATUS : Nat := 0x200A0040
/-- `LENS_INT_EN`, offset 0x0044 (05_lens_output_chain.md). -/
abbrev Reg.LENS_INT_EN : Nat := 0x200A0044
/-- `LENS_CNTn`, offset 0x0050 + 4 × n, n = 0 to 5 (05_lens_output_chain.md). -/
abbrev Reg.LENS_CNT (n : Nat) : Nat := 0x200A0050 + 0x4 * n
/-- `LENS_BUSn`, offset 0x1000 + 4 × n, n = 0 to 1,023 (05_lens_output_chain.md). -/
abbrev Reg.LENS_BUS (n : Nat) : Nat := 0x200A1000 + 0x4 * n
/-- `LENS_GRn`, offset 0x2000 + 4 × n, n = 0 to 1,023 (05_lens_output_chain.md). -/
abbrev Reg.LENS_GR (n : Nat) : Nat := 0x200A2000 + 0x4 * n

/-! ### DECIM -/

/-- `DECIM_CTRL`, offset 0x0000 (06_measurement_chain.md). -/
abbrev Reg.DECIM_CTRL : Nat := 0x200C0000
/-- `DECIM_MIC_EN`, offset 0x0004 (06_measurement_chain.md). -/
abbrev Reg.DECIM_MIC_EN : Nat := 0x200C0004
/-- `DECIM_STATUS`, offset 0x0008 (06_measurement_chain.md). -/
abbrev Reg.DECIM_STATUS : Nat := 0x200C0008
/-- `GEN_STATUS`, offset 0x0010 (06_measurement_chain.md). -/
abbrev Reg.GEN_STATUS : Nat := 0x200C0010
/-- `CAP_STATUS`, offset 0x0020 (06_measurement_chain.md). -/
abbrev Reg.CAP_STATUS : Nat := 0x200C0020
/-- `CAP_FRAMES`, offset 0x0024 (06_measurement_chain.md). -/
abbrev Reg.CAP_FRAMES : Nat := 0x200C0024
/-- `CAP_END_LO`, offset 0x0028 (06_measurement_chain.md). -/
abbrev Reg.CAP_END_LO : Nat := 0x200C0028
/-- `CAP_END_HI`, offset 0x002C (06_measurement_chain.md). -/
abbrev Reg.CAP_END_HI : Nat := 0x200C002C
/-- `DECIM_INT_STATUS`, offset 0x0040 (06_measurement_chain.md). -/
abbrev Reg.DECIM_INT_STATUS : Nat := 0x200C0040
/-- `DECIM_INT_EN`, offset 0x0044 (06_measurement_chain.md). -/
abbrev Reg.DECIM_INT_EN : Nat := 0x200C0044
/-- `DECIM_CNTn`, offset 0x0050 + 4 × n, n = 0 to 3 (06_measurement_chain.md). -/
abbrev Reg.DECIM_CNT (n : Nat) : Nat := 0x200C0050 + 0x4 * n
/-- `MIC_CHn`, offset 0x1000 + 4 × n, n = 0 to 15 (06_measurement_chain.md). -/
abbrev Reg.MIC_CH (n : Nat) : Nat := 0x200C1000 + 0x4 * n

/-! ### PORTS -/

/-- `PORTS_CTRL`, offset 0x0000 (07_serial_audio_ports.md). -/
abbrev Reg.PORTS_CTRL : Nat := 0x200B0000
/-- `PORTS_BANK`, offset 0x0004 (07_serial_audio_ports.md). -/
abbrev Reg.PORTS_BANK : Nat := 0x200B0004
/-- `PORTS_INT_STATUS`, offset 0x0040 (07_serial_audio_ports.md). -/
abbrev Reg.PORTS_INT_STATUS : Nat := 0x200B0040
/-- `PORTS_INT_EN`, offset 0x0044 (07_serial_audio_ports.md). -/
abbrev Reg.PORTS_INT_EN : Nat := 0x200B0044
/-- `PORTS_CNTn`, offset 0x0050 + 4 × n, n = 0 to 1 (07_serial_audio_ports.md). -/
abbrev Reg.PORTS_CNT (n : Nat) : Nat := 0x200B0050 + 0x4 * n
/-- `GRP_CFGg`, offset 0x0100 + 0x10 × g, g = 0 to 7 (07_serial_audio_ports.md). -/
abbrev Reg.GRP_CFG (g : Nat) : Nat := 0x200B0100 + 0x10 * g
/-- `GRP_STATg`, offset 0x0104 + 0x10 × g, g = 0 to 7 (07_serial_audio_ports.md). -/
abbrev Reg.GRP_STAT (g : Nat) : Nat := 0x200B0104 + 0x10 * g
/-- `GRP_CNTn_g`, offset 0x0200 + 0x10 × g + 4 × n, g = 0 to 7, n = 0 to 2 (07_serial_audio_ports.md). -/
abbrev Reg.GRP_CNT (g : Nat) (n : Nat) : Nat := 0x200B0200 + 0x10 * g + 0x4 * n
/-- `PORT_CFGp`, offset 0x0400 + 0x10 × p, p = 0 to 63 (07_serial_audio_ports.md). -/
abbrev Reg.PORT_CFG (p : Nat) : Nat := 0x200B0400 + 0x10 * p
/-- `PORT_MASKp`, offset 0x0404 + 0x10 × p, p = 0 to 63 (07_serial_audio_ports.md). -/
abbrev Reg.PORT_MASK (p : Nat) : Nat := 0x200B0404 + 0x10 * p
/-- `PORT_NAp`, offset 0x0408 + 0x10 × p, p = 0 to 63 (07_serial_audio_ports.md). -/
abbrev Reg.PORT_NA (p : Nat) : Nat := 0x200B0408 + 0x10 * p
/-- `PORT_TS_NSp`, offset 0x0800 + 8 × p, p = 0 to 63 (07_serial_audio_ports.md). -/
abbrev Reg.PORT_TS_NS (p : Nat) : Nat := 0x200B0800 + 0x8 * p
/-- `PORT_TS_SECp`, offset 0x0804 + 8 × p, p = 0 to 63 (07_serial_audio_ports.md). -/
abbrev Reg.PORT_TS_SEC (p : Nat) : Nat := 0x200B0804 + 0x8 * p
/-- `PORT_CNTn_p`, offset 0x1000 + 0x10 × p + 4 × n, p = 0 to 63, n = 0 to 3 (07_serial_audio_ports.md). -/
abbrev Reg.PORT_CNT (p : Nat) (n : Nat) : Nat := 0x200B1000 + 0x10 * p + 0x4 * n

/-! ### MAC -/

/-- `MAC_CTRL`, offset 0x0000 (08_network_and_streams.md). -/
abbrev Reg.MAC_CTRL (m : Nat) : Nat := 0x200D0000 + 0x10000 * m
/-- `MAC_STATUS`, offset 0x0004 (08_network_and_streams.md). -/
abbrev Reg.MAC_STATUS (m : Nat) : Nat := 0x200D0004 + 0x10000 * m
/-- `MAC_ADDR_LO`, offset 0x0008 (08_network_and_streams.md). -/
abbrev Reg.MAC_ADDR_LO (m : Nat) : Nat := 0x200D0008 + 0x10000 * m
/-- `MAC_ADDR_HI`, offset 0x000C (08_network_and_streams.md). -/
abbrev Reg.MAC_ADDR_HI (m : Nat) : Nat := 0x200D000C + 0x10000 * m
/-- `MAC_LINK_DELAY`, offset 0x0010 (08_network_and_streams.md). -/
abbrev Reg.MAC_LINK_DELAY (m : Nat) : Nat := 0x200D0010 + 0x10000 * m
/-- `MAC_INT_STATUS`, offset 0x0040 (08_network_and_streams.md). -/
abbrev Reg.MAC_INT_STATUS (m : Nat) : Nat := 0x200D0040 + 0x10000 * m
/-- `MAC_INT_EN`, offset 0x0044 (08_network_and_streams.md). -/
abbrev Reg.MAC_INT_EN (m : Nat) : Nat := 0x200D0044 + 0x10000 * m
/-- `MAC_CNTn`, offset 0x0080 + 4 × n, n = 0 to 19 (08_network_and_streams.md). -/
abbrev Reg.MAC_CNT (m : Nat) (n : Nat) : Nat := 0x200D0080 + 0x10000 * m + 0x4 * n
/-- `RX_RINGr_DESC`, offset 0x0100 + 0x20 × r, r = 0 to 3 (08_network_and_streams.md). -/
abbrev Reg.RX_RING_DESC (m : Nat) (r : Nat) : Nat := 0x200D0100 + 0x10000 * m + 0x20 * r
/-- `RX_RINGr_TS`, offset 0x0104 + 0x20 × r, r = 0 to 3 (08_network_and_streams.md). -/
abbrev Reg.RX_RING_TS (m : Nat) (r : Nat) : Nat := 0x200D0104 + 0x10000 * m + 0x20 * r
/-- `RX_RINGr_CFG`, offset 0x0108 + 0x20 × r, r = 0 to 3 (08_network_and_streams.md). -/
abbrev Reg.RX_RING_CFG (m : Nat) (r : Nat) : Nat := 0x200D0108 + 0x10000 * m + 0x20 * r
/-- `RX_RINGr_STATE`, offset 0x010C + 0x20 × r, r = 0 to 3 (08_network_and_streams.md). -/
abbrev Reg.RX_RING_STATE (m : Nat) (r : Nat) : Nat := 0x200D010C + 0x10000 * m + 0x20 * r
/-- `RX_RINGr_RETURN`, offset 0x0110 + 0x20 × r, r = 0 to 3 (08_network_and_streams.md). -/
abbrev Reg.RX_RING_RETURN (m : Nat) (r : Nat) : Nat := 0x200D0110 + 0x10000 * m + 0x20 * r
/-- `TX_RINGt_DESC`, offset 0x0200 + 0x20 × t, t = 0 to 1 (08_network_and_streams.md). -/
abbrev Reg.TX_RING_DESC (m : Nat) (t : Nat) : Nat := 0x200D0200 + 0x10000 * m + 0x20 * t
/-- `TX_RINGt_TS`, offset 0x0204 + 0x20 × t, t = 0 to 1 (08_network_and_streams.md). -/
abbrev Reg.TX_RING_TS (m : Nat) (t : Nat) : Nat := 0x200D0204 + 0x10000 * m + 0x20 * t
/-- `TX_RINGt_CFG`, offset 0x0208 + 0x20 × t, t = 0 to 1 (08_network_and_streams.md). -/
abbrev Reg.TX_RING_CFG (m : Nat) (t : Nat) : Nat := 0x200D0208 + 0x10000 * m + 0x20 * t
/-- `TX_RINGt_HEAD`, offset 0x020C + 0x20 × t, t = 0 to 1 (08_network_and_streams.md). -/
abbrev Reg.TX_RING_HEAD (m : Nat) (t : Nat) : Nat := 0x200D020C + 0x10000 * m + 0x20 * t
/-- `TX_RINGt_TAIL`, offset 0x0210 + 0x20 × t, t = 0 to 1 (08_network_and_streams.md). -/
abbrev Reg.TX_RING_TAIL (m : Nat) (t : Nat) : Nat := 0x200D0210 + 0x10000 * m + 0x20 * t
/-- `MAC_MHASHm`, offset 0x1000 + 4 × m, m = 0 to 127 (08_network_and_streams.md). -/
abbrev Reg.MAC_MHASH (m : Nat) (r : Nat) : Nat := 0x200D1000 + 0x10000 * m + 0x4 * r

/-! ### STREAM -/

/-- `STR_CTRL`, offset 0x0000 (08_network_and_streams.md). -/
abbrev Reg.STR_CTRL : Nat := 0x200F0000
/-- `STR_STATUS`, offset 0x0004 (08_network_and_streams.md). -/
abbrev Reg.STR_STATUS : Nat := 0x200F0004
/-- `STR_LOADp`, offset 0x0008 + 4 × p, p = 0 to 1 (08_network_and_streams.md). -/
abbrev Reg.STR_LOAD (p : Nat) : Nat := 0x200F0008 + 0x4 * p
/-- `STR_INT_STATUS`, offset 0x0040 (08_network_and_streams.md). -/
abbrev Reg.STR_INT_STATUS : Nat := 0x200F0040
/-- `STR_INT_EN`, offset 0x0044 (08_network_and_streams.md). -/
abbrev Reg.STR_INT_EN : Nat := 0x200F0044
/-- `STR_CNTn`, offset 0x0050 + 4 × n, n = 0 to 3 (08_network_and_streams.md). -/
abbrev Reg.STR_CNT (n : Nat) : Nat := 0x200F0050 + 0x4 * n
/-- `STR_CTXc`, offset 0x1000 + 4 × c, c = 0 to 254 (08_network_and_streams.md). -/
abbrev Reg.STR_CTX (c : Nat) : Nat := 0x200F1000 + 0x4 * c
/-- `STR_CTX_CNTn_c`, offset 0x2000 + 0x40 × c + 4 × n, c = 0 to 254, n = 0 to 11 (08_network_and_streams.md). -/
abbrev Reg.STR_CTX_CNT (c : Nat) (n : Nat) : Nat := 0x200F2000 + 0x40 * c + 0x4 * n
/-- `STR_NA_LOc`, offset 0x8000 + 8 × c, c = 0 to 254 (08_network_and_streams.md). -/
abbrev Reg.STR_NA_LO (c : Nat) : Nat := 0x200F8000 + 0x8 * c
/-- `STR_NA_HIc`, offset 0x8004 + 8 × c, c = 0 to 254 (08_network_and_streams.md). -/
abbrev Reg.STR_NA_HI (c : Nat) : Nat := 0x200F8004 + 0x8 * c

/-! ### CLK -/

/-- `CLK_STATUS`, offset 0x0004 (09_time_and_clocks.md). -/
abbrev Reg.CLK_STATUS : Nat := 0x20010004
/-- `CLK_FREQ`, offset 0x0008 (09_time_and_clocks.md). -/
abbrev Reg.CLK_FREQ : Nat := 0x20010008
/-- `CLK_FREQ_TARGET`, offset 0x000C (09_time_and_clocks.md). -/
abbrev Reg.CLK_FREQ_TARGET : Nat := 0x2001000C
/-- `CLK_LOCK_WIN`, offset 0x0010 (09_time_and_clocks.md). -/
abbrev Reg.CLK_LOCK_WIN : Nat := 0x20010010
/-- `CLK_SYNC_OUT`, offset 0x0014 (09_time_and_clocks.md). -/
abbrev Reg.CLK_SYNC_OUT : Nat := 0x20010014
/-- `CLK_INT_STATUS`, offset 0x0040 (09_time_and_clocks.md). -/
abbrev Reg.CLK_INT_STATUS : Nat := 0x20010040
/-- `CLK_INT_EN`, offset 0x0044 (09_time_and_clocks.md). -/
abbrev Reg.CLK_INT_EN : Nat := 0x20010044
/-- `CLK_CNTn`, offset 0x0050 + 4 × n, n = 0 to 3 (09_time_and_clocks.md). -/
abbrev Reg.CLK_CNT (n : Nat) : Nat := 0x20010050 + 0x4 * n

/-! ### TIME -/

/-- `TIME_CTRL`, offset 0x0000 (09_time_and_clocks.md). -/
abbrev Reg.TIME_CTRL : Nat := 0x20020000
/-- `TIME_STATUS`, offset 0x0004 (09_time_and_clocks.md). -/
abbrev Reg.TIME_STATUS : Nat := 0x20020004
/-- `TIME_NS`, offset 0x0008 (09_time_and_clocks.md). -/
abbrev Reg.TIME_NS : Nat := 0x20020008
/-- `TIME_SEC_LO`, offset 0x000C (09_time_and_clocks.md). -/
abbrev Reg.TIME_SEC_LO : Nat := 0x2002000C
/-- `TIME_SEC_HI`, offset 0x0010 (09_time_and_clocks.md). -/
abbrev Reg.TIME_SEC_HI : Nat := 0x20020010
/-- `TIME_FRAC`, offset 0x0014 (09_time_and_clocks.md). -/
abbrev Reg.TIME_FRAC : Nat := 0x20020014
/-- `TIME_SAMPLE_LO`, offset 0x0018 (09_time_and_clocks.md). -/
abbrev Reg.TIME_SAMPLE_LO : Nat := 0x20020018
/-- `TIME_SAMPLE_HI`, offset 0x001C (09_time_and_clocks.md). -/
abbrev Reg.TIME_SAMPLE_HI : Nat := 0x2002001C
/-- `TIME_INT_STATUS`, offset 0x0040 (09_time_and_clocks.md). -/
abbrev Reg.TIME_INT_STATUS : Nat := 0x20020040
/-- `TIME_INT_EN`, offset 0x0044 (09_time_and_clocks.md). -/
abbrev Reg.TIME_INT_EN : Nat := 0x20020044
/-- `TIME_CNTn`, offset 0x0050 + 4 × n, n = 0 to 6 (09_time_and_clocks.md). -/
abbrev Reg.TIME_CNT (n : Nat) : Nat := 0x20020050 + 0x4 * n
/-- `SERVO_IN_OFFSET`, offset 0x0100 (09_time_and_clocks.md). -/
abbrev Reg.SERVO_IN_OFFSET : Nat := 0x20020100
/-- `SERVO_IN_FRAC`, offset 0x0104 (09_time_and_clocks.md). -/
abbrev Reg.SERVO_IN_FRAC : Nat := 0x20020104
/-- `SERVO_IN_DELAY`, offset 0x0108 (09_time_and_clocks.md). -/
abbrev Reg.SERVO_IN_DELAY : Nat := 0x20020108
/-- `SERVO_GAIN`, offset 0x010C (09_time_and_clocks.md). -/
abbrev Reg.SERVO_GAIN : Nat := 0x2002010C
/-- `SERVO_STEP_THR`, offset 0x0110 (09_time_and_clocks.md). -/
abbrev Reg.SERVO_STEP_THR : Nat := 0x20020110
/-- `SERVO_LOCK_THR`, offset 0x0114 (09_time_and_clocks.md). -/
abbrev Reg.SERVO_LOCK_THR : Nat := 0x20020114
/-- `SERVO_LIMIT`, offset 0x0118 (09_time_and_clocks.md). -/
abbrev Reg.SERVO_LIMIT : Nat := 0x20020118
/-- `SERVO_JUMP_THR`, offset 0x011C (09_time_and_clocks.md). -/
abbrev Reg.SERVO_JUMP_THR : Nat := 0x2002011C
/-- `SERVO_HOLD`, offset 0x0120 (09_time_and_clocks.md). -/
abbrev Reg.SERVO_HOLD : Nat := 0x20020120
/-- `SERVO_SYNC_DELAY`, offset 0x0124 (09_time_and_clocks.md). -/
abbrev Reg.SERVO_SYNC_DELAY : Nat := 0x20020124
/-- `SERVO_INTEGRAL`, offset 0x0128 (09_time_and_clocks.md). -/
abbrev Reg.SERVO_INTEGRAL : Nat := 0x20020128
/-- `SERVO_REFUSED`, offset 0x012C (09_time_and_clocks.md). -/
abbrev Reg.SERVO_REFUSED : Nat := 0x2002012C
/-- `TS_RX_ADJp`, offset 0x0200 + 8 × p, p = 0 to 1 (09_time_and_clocks.md). -/
abbrev Reg.TS_RX_ADJ (p : Nat) : Nat := 0x20020200 + 0x8 * p
/-- `TS_TX_ADJp`, offset 0x0204 + 8 × p, p = 0 to 1 (09_time_and_clocks.md). -/
abbrev Reg.TS_TX_ADJ (p : Nat) : Nat := 0x20020204 + 0x8 * p
/-- `CAP_CFGc`, offset 0x0300 + 4 × c, c = 0 to 7 (09_time_and_clocks.md). -/
abbrev Reg.CAP_CFG (c : Nat) : Nat := 0x20020300 + 0x4 * c

/-! ### FCORE -/

/-- `FCORE_CTRL`, offset 0x3_0000 (10_facet_dsp_cores.md). -/
abbrev Reg.FCORE_CTRL (c : Nat) : Nat := 0x14030000 + 0x40000 * c
/-- `FCORE_STATUS`, offset 0x3_0004 (10_facet_dsp_cores.md). -/
abbrev Reg.FCORE_STATUS (c : Nat) : Nat := 0x14030004 + 0x40000 * c
/-- `FCORE_PC`, offset 0x3_0008 (10_facet_dsp_cores.md). -/
abbrev Reg.FCORE_PC (c : Nat) : Nat := 0x14030008 + 0x40000 * c
/-- `FCORE_FAULT`, offset 0x3_000C (10_facet_dsp_cores.md). -/
abbrev Reg.FCORE_FAULT (c : Nat) : Nat := 0x1403000C + 0x40000 * c
/-- `FCORE_ADMIT`, offset 0x3_0010 (10_facet_dsp_cores.md). -/
abbrev Reg.FCORE_ADMIT (c : Nat) : Nat := 0x14030010 + 0x40000 * c
/-- `FCORE_USED`, offset 0x3_0014 (10_facet_dsp_cores.md). -/
abbrev Reg.FCORE_USED (c : Nat) : Nat := 0x14030014 + 0x40000 * c
/-- `FCORE_INT_STATUS`, offset 0x3_0040 (10_facet_dsp_cores.md). -/
abbrev Reg.FCORE_INT_STATUS (c : Nat) : Nat := 0x14030040 + 0x40000 * c
/-- `FCORE_INT_EN`, offset 0x3_0044 (10_facet_dsp_cores.md). -/
abbrev Reg.FCORE_INT_EN (c : Nat) : Nat := 0x14030044 + 0x40000 * c
/-- `FCORE_CNTn`, offset 0x3_0050 + 4 × n, n = 0 to 5 (10_facet_dsp_cores.md). -/
abbrev Reg.FCORE_CNT (c : Nat) (n : Nat) : Nat := 0x14030050 + 0x40000 * c + 0x4 * n

/-! ### SCHED -/

/-- `SCHED_CTRL`, offset 0x0000 (11_task_scheduler.md). -/
abbrev Reg.SCHED_CTRL : Nat := 0x20040000
/-- `SCHED_SLOTS`, offset 0x0004 (11_task_scheduler.md). -/
abbrev Reg.SCHED_SLOTS : Nat := 0x20040004
/-- `SCHED_RT`, offset 0x0008 (11_task_scheduler.md). -/
abbrev Reg.SCHED_RT : Nat := 0x20040008
/-- `SCHED_SLOT_CFG`, offset 0x000C (11_task_scheduler.md). -/
abbrev Reg.SCHED_SLOT_CFG : Nat := 0x2004000C
/-- `SCHED_TICKn`, offset 0x0010 + 4 × n, n = 0 to 3 (11_task_scheduler.md). -/
abbrev Reg.SCHED_TICK (n : Nat) : Nat := 0x20040010 + 0x4 * n
/-- `SCHED_SPILL_BASE`, offset 0x0020 (11_task_scheduler.md). -/
abbrev Reg.SCHED_SPILL_BASE : Nat := 0x20040020
/-- `SCHED_SPILL_CFG`, offset 0x0024 (11_task_scheduler.md). -/
abbrev Reg.SCHED_SPILL_CFG : Nat := 0x20040024
/-- `SCHED_SPILL_STATE`, offset 0x0028 (11_task_scheduler.md). -/
abbrev Reg.SCHED_SPILL_STATE : Nat := 0x20040028
/-- `SCHED_INT_STATUS`, offset 0x0040 (11_task_scheduler.md). -/
abbrev Reg.SCHED_INT_STATUS : Nat := 0x20040040
/-- `SCHED_INT_EN`, offset 0x0044 (11_task_scheduler.md). -/
abbrev Reg.SCHED_INT_EN : Nat := 0x20040044
/-- `SCHED_CNTn`, offset 0x0050 + 4 × n, n = 0 to 9 (11_task_scheduler.md). -/
abbrev Reg.SCHED_CNT (n : Nat) : Nat := 0x20040050 + 0x4 * n
/-- `SCHED_LEVELl`, offset 0x0100 + 4 × l, l = 0 to 7 (11_task_scheduler.md). -/
abbrev Reg.SCHED_LEVEL (l : Nat) : Nat := 0x20040100 + 0x4 * l
/-- `SCHED_SERVERs`, offset 0x0200 + 4 × s, s = 0 to 8 (11_task_scheduler.md). -/
abbrev Reg.SCHED_SERVER (s : Nat) : Nat := 0x20040200 + 0x4 * s
/-- `SCHED_FLOW_BUSYn`, offset 0x0300 + 4 × n, n = 0 to 7 (11_task_scheduler.md). -/
abbrev Reg.SCHED_FLOW_BUSY (n : Nat) : Nat := 0x20040300 + 0x4 * n
/-- `OBS_CTRL`, offset 0x8000 (11_task_scheduler.md). -/
abbrev Reg.OBS_CTRL : Nat := 0x20048000
/-- `OBS_WINDOW`, offset 0x8004 (11_task_scheduler.md). -/
abbrev Reg.OBS_WINDOW : Nat := 0x20048004
/-- `OBS_DEPTHn`, offset 0x8010 + 0x10 × n, n = 0 to 8 (11_task_scheduler.md). -/
abbrev Reg.OBS_DEPTH (n : Nat) : Nat := 0x20048010 + 0x10 * n
/-- `OBS_WAITn`, offset 0x8014 + 0x10 × n, n = 0 to 8 (11_task_scheduler.md). -/
abbrev Reg.OBS_WAIT (n : Nat) : Nat := 0x20048014 + 0x10 * n
/-- `OBS_LOADn`, offset 0x8018 + 0x10 × n, n = 0 to 8 (11_task_scheduler.md). -/
abbrev Reg.OBS_LOAD (n : Nat) : Nat := 0x20048018 + 0x10 * n

/-! ### XBAR -/

/-- `XBAR_CTRL`, offset 0x0000 (12_fabric_locks_sram.md). -/
abbrev Reg.XBAR_CTRL : Nat := 0x20050000
/-- `XBAR_TIMEOUT`, offset 0x0004 (12_fabric_locks_sram.md). -/
abbrev Reg.XBAR_TIMEOUT : Nat := 0x20050004
/-- `XBAR_MASK`, offset 0x0008 (12_fabric_locks_sram.md). -/
abbrev Reg.XBAR_MASK : Nat := 0x20050008
/-- `XBAR_FAILED`, offset 0x000C (12_fabric_locks_sram.md). -/
abbrev Reg.XBAR_FAILED : Nat := 0x2005000C
/-- `XBAR_ERR_LO`, offset 0x0010 (12_fabric_locks_sram.md). -/
abbrev Reg.XBAR_ERR_LO : Nat := 0x20050010
/-- `XBAR_ERR_HI`, offset 0x0014 (12_fabric_locks_sram.md). -/
abbrev Reg.XBAR_ERR_HI : Nat := 0x20050014
/-- `XBAR_ERR_INFO`, offset 0x0018 (12_fabric_locks_sram.md). -/
abbrev Reg.XBAR_ERR_INFO : Nat := 0x20050018
/-- `XBAR_INT_STATUS`, offset 0x0040 (12_fabric_locks_sram.md). -/
abbrev Reg.XBAR_INT_STATUS : Nat := 0x20050040
/-- `XBAR_INT_EN`, offset 0x0044 (12_fabric_locks_sram.md). -/
abbrev Reg.XBAR_INT_EN : Nat := 0x20050044
/-- `XBAR_CNTn`, offset 0x0050 + 4 × n, n = 0 to 12 (12_fabric_locks_sram.md). -/
abbrev Reg.XBAR_CNT (n : Nat) : Nat := 0x20050050 + 0x4 * n
/-- `XBAR_DEFAULTt`, offset 0x0100 + 4 × t, t = 0 to 11 (12_fabric_locks_sram.md). -/
abbrev Reg.XBAR_DEFAULT (t : Nat) : Nat := 0x20050100 + 0x4 * t
/-- `XBAR_OUTm`, offset 0x0200 + 4 × m, m = 0 to 15 (12_fabric_locks_sram.md). -/
abbrev Reg.XBAR_OUT (m : Nat) : Nat := 0x20050200 + 0x4 * m
/-- `LOCK_ACQn`, offset 0x1000 + 4 × n, n = 0 to 63 (12_fabric_locks_sram.md). -/
abbrev Reg.LOCK_ACQ (n : Nat) : Nat := 0x20051000 + 0x4 * n
/-- `LOCK_RELn`, offset 0x1400 + 4 × n, n = 0 to 63 (12_fabric_locks_sram.md). -/
abbrev Reg.LOCK_REL (n : Nat) : Nat := 0x20051400 + 0x4 * n
/-- `LOCK_STATEn`, offset 0x1800 + 4 × n, n = 0 to 63 (12_fabric_locks_sram.md). -/
abbrev Reg.LOCK_STATE (n : Nat) : Nat := 0x20051800 + 0x4 * n
/-- `LOCK_HELD_LO`, offset 0x1C00 (12_fabric_locks_sram.md). -/
abbrev Reg.LOCK_HELD_LO : Nat := 0x20051C00
/-- `LOCK_HELD_HI`, offset 0x1C04 (12_fabric_locks_sram.md). -/
abbrev Reg.LOCK_HELD_HI : Nat := 0x20051C04

/-! ### DDRC -/

/-- `DDRC_CTRL`, offset 0x0000 (13_dram_controller.md). -/
abbrev Reg.DDRC_CTRL : Nat := 0x20060000
/-- `DDRC_STATUS`, offset 0x0004 (13_dram_controller.md). -/
abbrev Reg.DDRC_STATUS : Nat := 0x20060004
/-- `DDRC_KEEP`, offset 0x0008 (13_dram_controller.md). -/
abbrev Reg.DDRC_KEEP : Nat := 0x20060008
/-- `DDRC_ROWGUARD`, offset 0x000C (13_dram_controller.md). -/
abbrev Reg.DDRC_ROWGUARD : Nat := 0x2006000C
/-- `DDRC_MR4`, offset 0x0010 (13_dram_controller.md). -/
abbrev Reg.DDRC_MR4 : Nat := 0x20060010
/-- `DDRC_ERR_LO`, offset 0x0018 (13_dram_controller.md). -/
abbrev Reg.DDRC_ERR_LO : Nat := 0x20060018
/-- `DDRC_ERR_HI`, offset 0x001C (13_dram_controller.md). -/
abbrev Reg.DDRC_ERR_HI : Nat := 0x2006001C
/-- `DDRC_INT_STATUS`, offset 0x0040 (13_dram_controller.md). -/
abbrev Reg.DDRC_INT_STATUS : Nat := 0x20060040
/-- `DDRC_INT_EN`, offset 0x0044 (13_dram_controller.md). -/
abbrev Reg.DDRC_INT_EN : Nat := 0x20060044
/-- `DDRC_CNTn`, offset 0x0050 + 4 × n, n = 0 to 7 (13_dram_controller.md). -/
abbrev Reg.DDRC_CNT (n : Nat) : Nat := 0x20060050 + 0x4 * n
/-- `DDRC_PORTp_TARGET`, offset 0x0100 + 0x10 × p, p = 0 to 7 (13_dram_controller.md). -/
abbrev Reg.DDRC_PORT_TARGET (p : Nat) : Nat := 0x20060100 + 0x10 * p
/-- `DDRC_PORTp_STAT`, offset 0x0104 + 0x10 × p, p = 0 to 7 (13_dram_controller.md). -/
abbrev Reg.DDRC_PORT_STAT (p : Nat) : Nat := 0x20060104 + 0x10 * p
/-- `DDRC_PORTp_LATE`, offset 0x0108 + 0x10 × p, p = 0 to 7 (13_dram_controller.md). -/
abbrev Reg.DDRC_PORT_LATE (p : Nat) : Nat := 0x20060108 + 0x10 * p
/-- `DDRC_RETIREDn`, offset 0x0200 + 4 × n, n = 0 to 63 (13_dram_controller.md). -/
abbrev Reg.DDRC_RETIRED (n : Nat) : Nat := 0x20060200 + 0x4 * n
/-- `DDRC_DLYc_k`, offset 0x1000 + 0x40 × c + 4 × k, c = 0 to 3, k = 0 to 8 (13_dram_controller.md). -/
abbrev Reg.DDRC_DLY (c : Nat) (k : Nat) : Nat := 0x20061000 + 0x40 * c + 0x4 * k

/-! ### MBX -/

/-- `MBX_DOORBELL`, offset 0x2000 (14_control_boot_mailboxes.md). -/
abbrev Reg.MBX_DOORBELL : Nat := 0x20032000
/-- `MBX_SLOT_STATE`, offset 0x2004 (14_control_boot_mailboxes.md). -/
abbrev Reg.MBX_SLOT_STATE : Nat := 0x20032004
/-- `MBX_DONE`, offset 0x2008 (14_control_boot_mailboxes.md). -/
abbrev Reg.MBX_DONE : Nat := 0x20032008
/-- `MBX_DEV_STATE`, offset 0x200C (14_control_boot_mailboxes.md). -/
abbrev Reg.MBX_DEV_STATE : Nat := 0x2003200C
/-- `MBX_INT_STATUS`, offset 0x2010 (14_control_boot_mailboxes.md). -/
abbrev Reg.MBX_INT_STATUS : Nat := 0x20032010
/-- `MBX_INT_EN`, offset 0x2014 (14_control_boot_mailboxes.md). -/
abbrev Reg.MBX_INT_EN : Nat := 0x20032014
/-- `MBX_EVR_BASE_LO`, offset 0x2020 (14_control_boot_mailboxes.md). -/
abbrev Reg.MBX_EVR_BASE_LO : Nat := 0x20032020
/-- `MBX_EVR_BASE_HI`, offset 0x2024 (14_control_boot_mailboxes.md). -/
abbrev Reg.MBX_EVR_BASE_HI : Nat := 0x20032024
/-- `MBX_EVR_CFG`, offset 0x2028 (14_control_boot_mailboxes.md). -/
abbrev Reg.MBX_EVR_CFG : Nat := 0x20032028
/-- `MBX_EVR_PROD`, offset 0x202C (14_control_boot_mailboxes.md). -/
abbrev Reg.MBX_EVR_PROD : Nat := 0x2003202C
/-- `MBX_EVR_CONS`, offset 0x2030 (14_control_boot_mailboxes.md). -/
abbrev Reg.MBX_EVR_CONS : Nat := 0x20032030
/-- `MBX_CNTn`, offset 0x2050 + 4 × n, n = 0 to 7 (14_control_boot_mailboxes.md). -/
abbrev Reg.MBX_CNT (n : Nat) : Nat := 0x20032050 + 0x4 * n

/-! ### HOSTIF -/

/-- `HOSTIF_STATUS`, offset 0x0004 (14_control_boot_mailboxes.md). -/
abbrev Reg.HOSTIF_STATUS : Nat := 0x20130004
/-- `HOSTIF_BAR2_BASE`, offset 0x0008 (14_control_boot_mailboxes.md). -/
abbrev Reg.HOSTIF_BAR2_BASE : Nat := 0x20130008
/-- `HOSTIF_BAR2_SIZE`, offset 0x000C (14_control_boot_mailboxes.md). -/
abbrev Reg.HOSTIF_BAR2_SIZE : Nat := 0x2013000C
/-- `HOSTIF_DBG_WIN`, offset 0x0010 (14_control_boot_mailboxes.md). -/
abbrev Reg.HOSTIF_DBG_WIN : Nat := 0x20130010
/-- `HOSTIF_INT_STATUS`, offset 0x0040 (14_control_boot_mailboxes.md). -/
abbrev Reg.HOSTIF_INT_STATUS : Nat := 0x20130040
/-- `HOSTIF_INT_EN`, offset 0x0044 (14_control_boot_mailboxes.md). -/
abbrev Reg.HOSTIF_INT_EN : Nat := 0x20130044
/-- `HOSTIF_CNTn`, offset 0x0050 + 4 × n, n = 0 to 3 (14_control_boot_mailboxes.md). -/
abbrev Reg.HOSTIF_CNT (n : Nat) : Nat := 0x20130050 + 0x4 * n

/-! ### MIRROR -/

/-- `MIR_CTRL`, offset 0x0000 (16_mirror_and_hierarchy.md). -/
abbrev Reg.MIR_CTRL : Nat := 0x20100000
/-- `MIR_STATUS`, offset 0x0004 (16_mirror_and_hierarchy.md). -/
abbrev Reg.MIR_STATUS : Nat := 0x20100004
/-- `MIR_HB_MISS`, offset 0x0008 (16_mirror_and_hierarchy.md). -/
abbrev Reg.MIR_HB_MISS : Nat := 0x20100008
/-- `MIR_HANDOVER_Q`, offset 0x000C (16_mirror_and_hierarchy.md). -/
abbrev Reg.MIR_HANDOVER_Q : Nat := 0x2010000C
/-- `MIR_LAST_CHANGE`, offset 0x0010 (16_mirror_and_hierarchy.md). -/
abbrev Reg.MIR_LAST_CHANGE : Nat := 0x20100010
/-- `MIR_INT_STATUS`, offset 0x0040 (16_mirror_and_hierarchy.md). -/
abbrev Reg.MIR_INT_STATUS : Nat := 0x20100040
/-- `MIR_INT_EN`, offset 0x0044 (16_mirror_and_hierarchy.md). -/
abbrev Reg.MIR_INT_EN : Nat := 0x20100044
/-- `MIR_CNTn`, offset 0x0050 + 4 × n, n = 0 to 8 (16_mirror_and_hierarchy.md). -/
abbrev Reg.MIR_CNT (n : Nat) : Nat := 0x20100050 + 0x4 * n

/-! ### SYS -/

/-- `SYS_ID`, offset 0x0000 (17_power_modes_startup.md). -/
abbrev Reg.SYS_ID : Nat := 0x20000000
/-- `SYS_MODE`, offset 0x0004 (17_power_modes_startup.md). -/
abbrev Reg.SYS_MODE : Nat := 0x20000004
/-- `SYS_STATUS`, offset 0x0008 (17_power_modes_startup.md). -/
abbrev Reg.SYS_STATUS : Nat := 0x20000008
/-- `SYS_STRAPS`, offset 0x000C (17_power_modes_startup.md). -/
abbrev Reg.SYS_STRAPS : Nat := 0x2000000C
/-- `SYS_PWR_STATUS`, offset 0x0010 (17_power_modes_startup.md). -/
abbrev Reg.SYS_PWR_STATUS : Nat := 0x20000010
/-- `SYS_PWR_REQ`, offset 0x0014 (17_power_modes_startup.md). -/
abbrev Reg.SYS_PWR_REQ : Nat := 0x20000014
/-- `SYS_RESET_CAUSE`, offset 0x0018 (17_power_modes_startup.md). -/
abbrev Reg.SYS_RESET_CAUSE : Nat := 0x20000018
/-- `SYS_FATAL`, offset 0x001C (17_power_modes_startup.md). -/
abbrev Reg.SYS_FATAL : Nat := 0x2000001C
/-- `SYS_WDT`, offset 0x0020 (17_power_modes_startup.md). -/
abbrev Reg.SYS_WDT : Nat := 0x20000020
/-- `SYS_THERM`, offset 0x0024 (17_power_modes_startup.md). -/
abbrev Reg.SYS_THERM : Nat := 0x20000024
/-- `SYS_AUTO_RESET`, offset 0x0028 (17_power_modes_startup.md). -/
abbrev Reg.SYS_AUTO_RESET : Nat := 0x20000028
/-- `SYS_INT_STATUS`, offset 0x0040 (17_power_modes_startup.md). -/
abbrev Reg.SYS_INT_STATUS : Nat := 0x20000040
/-- `SYS_INT_EN`, offset 0x0044 (17_power_modes_startup.md). -/
abbrev Reg.SYS_INT_EN : Nat := 0x20000044
/-- `SYS_CNTn`, offset 0x0050 + 4 × n, n = 0 to 4 (17_power_modes_startup.md). -/
abbrev Reg.SYS_CNT (n : Nat) : Nat := 0x20000050 + 0x4 * n

/-! ### PERF -/

/-- `PERF_CFGn`, offset 0x0100 + 4 × n, n = 0 to 127 (18_counters_trace_dump.md). -/
abbrev Reg.PERF_CFG (n : Nat) : Nat := 0x20110100 + 0x4 * n
/-- `PERF_CNTn_LO`, offset 0x1000 + 8 × n, n = 0 to 127 (18_counters_trace_dump.md). -/
abbrev Reg.PERF_CNT_LO (n : Nat) : Nat := 0x20111000 + 0x8 * n
/-- `PERF_CNTn_HI`, offset 0x1004 + 8 × n, n = 0 to 127 (18_counters_trace_dump.md). -/
abbrev Reg.PERF_CNT_HI (n : Nat) : Nat := 0x20111004 + 0x8 * n

/-! ### TRACE -/

/-- `TRACE_CTRL`, offset 0x0000 (18_counters_trace_dump.md). -/
abbrev Reg.TRACE_CTRL : Nat := 0x20120000
/-- `TRACE_SRC`, offset 0x0004 (18_counters_trace_dump.md). -/
abbrev Reg.TRACE_SRC : Nat := 0x20120004
/-- `TRACE_BASE`, offset 0x0008 (18_counters_trace_dump.md). -/
abbrev Reg.TRACE_BASE : Nat := 0x20120008
/-- `TRACE_SIZE`, offset 0x000C (18_counters_trace_dump.md). -/
abbrev Reg.TRACE_SIZE : Nat := 0x2012000C
/-- `TRACE_STATUS`, offset 0x0010 (18_counters_trace_dump.md). -/
abbrev Reg.TRACE_STATUS : Nat := 0x20120010
/-- `TRACE_WRITTEN`, offset 0x0014 (18_counters_trace_dump.md). -/
abbrev Reg.TRACE_WRITTEN : Nat := 0x20120014
/-- `TRACE_LOST`, offset 0x0018 (18_counters_trace_dump.md). -/
abbrev Reg.TRACE_LOST : Nat := 0x20120018
/-- `TRACE_INT_STATUS`, offset 0x0040 (18_counters_trace_dump.md). -/
abbrev Reg.TRACE_INT_STATUS : Nat := 0x20120040
/-- `TRACE_INT_EN`, offset 0x0044 (18_counters_trace_dump.md). -/
abbrev Reg.TRACE_INT_EN : Nat := 0x20120044

/-! ### GPIO -/

/-- `PAD_BANK`, offset 0x0000 (19_pins_and_package.md). -/
abbrev Reg.PAD_BANK : Nat := 0x20140000
/-- `GPIO_IN`, offset 0x0010 (19_pins_and_package.md). -/
abbrev Reg.GPIO_IN : Nat := 0x20140010
/-- `GPIO_OUT`, offset 0x0014 (19_pins_and_package.md). -/
abbrev Reg.GPIO_OUT : Nat := 0x20140014
/-- `GPIO_OE`, offset 0x0018 (19_pins_and_package.md). -/
abbrev Reg.GPIO_OE : Nat := 0x20140018
/-- `GPIO_PULL`, offset 0x001C (19_pins_and_package.md). -/
abbrev Reg.GPIO_PULL : Nat := 0x2014001C
/-- `PAD_TDM_PULL_LO`, offset 0x0020 (19_pins_and_package.md). -/
abbrev Reg.PAD_TDM_PULL_LO : Nat := 0x20140020
/-- `PAD_TDM_PULL_HI`, offset 0x0024 (19_pins_and_package.md). -/
abbrev Reg.PAD_TDM_PULL_HI : Nat := 0x20140024
/-- `PAD_CLK_PULL`, offset 0x0028 (19_pins_and_package.md). -/
abbrev Reg.PAD_CLK_PULL : Nat := 0x20140028
/-- `PAD_DRIVE`, offset 0x0030 (19_pins_and_package.md). -/
abbrev Reg.PAD_DRIVE : Nat := 0x20140030
/-- `PAD_CTRL`, offset 0x0034 (19_pins_and_package.md). -/
abbrev Reg.PAD_CTRL : Nat := 0x20140034

/-- One row of the register map: first address, index strides and counts (widest stride first), the reset value of its
fields, and the bits of each access type of R11. Bits in none of the masks are reserved and read as 0 (R12). -/
structure RegDef where
  base : Nat
  dims : List (Nat × Nat)
  reset : Nat
  rw : Nat
  rwl : Nat
  w1c : Nat
  w1s : Nat
  wo : Nat
  ro : Nat
  deriving DecidableEq, Repr

/-- The rows of block PRISM. -/
def regRowsPrism : List RegDef := [
  ⟨0x20070000, [], 0x4, 0x7, 0x0, 0x0, 0x0, 0x0, 0x0⟩  -- PRISM_CTRL
  , ⟨0x20070004, [], 0x0, 0x0, 0x0, 0x0, 0x0, 0x0, 0xFF07⟩  -- PRISM_STATUS
  , ⟨0x20070008, [], 0x0, 0x0, 0x1, 0x0, 0x0, 0x0, 0x0⟩  -- PRISM_CFG
  , ⟨0x2007000C, [], 0x80, 0xFFFF, 0x0, 0x0, 0x0, 0x0, 0x0⟩  -- PRISM_XFADE_STEP
  , ⟨0x20070010, [], 0x64, 0x3FF, 0x0, 0x0, 0x0, 0x0, 0x0⟩  -- PRISM_AIR
  , ⟨0x20070014, [], 0x0, 0x0, 0x0, 0x0, 0x0, 0x0, 0x3FFFF⟩  -- PRISM_BUDGET
  , ⟨0x20070018, [], 0x0, 0x0, 0x0, 0x0, 0x0, 0x0, 0x3FFFF⟩  -- PRISM_COMMITTED
  , ⟨0x2007001C, [], 0x0, 0x0, 0x0, 0x0, 0x0, 0x0, 0xFFFFFFFF⟩  -- PRISM_XFADE
  , ⟨0x20070020, [(0x4, 8)], 0x0, 0x0, 0x0, 0x0, 0x0, 0x0, 0x3FFFF⟩  -- PRISM_LANE_CYC
  , ⟨0x20070040, [], 0x0, 0x0, 0x0, 0x1F, 0x0, 0x0, 0x0⟩  -- PRISM_INT_STATUS
  , ⟨0x20070044, [], 0x0, 0x1F, 0x0, 0x0, 0x0, 0x0, 0x0⟩  -- PRISM_INT_EN
  , ⟨0x20070050, [(0x4, 6)], 0x0, 0x0, 0x0, 0x0, 0x0, 0x0, 0xFFFFFFFF⟩  -- PRISM_CNT
  , ⟨0x20071000, [(0x4, 1024)], 0x0, 0x0, 0x0, 0x0, 0x0, 0x0, 0xFFFFF⟩  -- ALIGN_STATE
  , ⟨0x20072000, [(0x4, 32)], 0x0, 0x0, 0x0, 0x0, 0x0, 0x0, 0xFFFFFFFF⟩  -- WCLAMP
  ]

/-- The rows of block META. -/
def regRowsMeta : List RegDef := [
  ⟨0x20080000, [], 0x0, 0x1, 0x0, 0x0, 0x0, 0x0, 0x0⟩  -- META_CTRL
  , ⟨0x20080004, [], 0xC, 0x3F, 0x0, 0x0, 0x0, 0x0, 0x0⟩  -- META_HORIZON
  , ⟨0x20080008, [], 0x4, 0x7F, 0x0, 0x0, 0x0, 0x0, 0x0⟩  -- META_CONV
  , ⟨0x2008000C, [], 0x200, 0xFFFF, 0x0, 0x0, 0x0, 0x0, 0x0⟩  -- META_EXTRAP
  , ⟨0x20080010, [], 0x0, 0x0, 0x0, 0x0, 0x0, 0x0, 0xFFFFFFFF⟩  -- META_FRONTIER
  , ⟨0x20080040, [], 0x0, 0x0, 0x0, 0x7, 0x0, 0x0, 0x0⟩  -- META_INT_STATUS
  , ⟨0x20080044, [], 0x0, 0x7, 0x0, 0x0, 0x0, 0x0, 0x0⟩  -- META_INT_EN
  , ⟨0x20080050, [(0x4, 8)], 0x0, 0x0, 0x0, 0x0, 0x0, 0x0, 0xFFFFFFFF⟩  -- META_CNT
  , ⟨0x20081000, [(0x4, 1024)], 0x0, 0x0, 0x0, 0x0, 0x0, 0x0, 0xFFFFFF⟩  -- META_OBJ
  ]

/-- The rows of block FOCUS. -/
def regRowsFocus : List RegDef := [
  ⟨0x20090000, [], 0x0, 0x1, 0x0, 0x0, 0x0, 0x0, 0x0⟩  -- FOCUS_CTRL
  , ⟨0x20090004, [], 0x0, 0x0, 0x0, 0x0, 0x0, 0x0, 0xFFFF⟩  -- FOCUS_STAGED
  , ⟨0x20090008, [], 0x0, 0x0, 0x0, 0x0, 0x0, 0x0, 0x7FF⟩  -- FOCUS_DEFERRED
  , ⟨0x2009000C, [], 0x0, 0x0, 0x0, 0x0, 0x0, 0x0, 0x3FFF⟩  -- FOCUS_MOVES
  , ⟨0x20090020, [(0x4, 8)], 0x0, 0x0, 0x0, 0x0, 0x0, 0x0, 0x3FFFF⟩  -- FOCUS_LANE_START (the ninth shares its offset with FOCUS_INT_STATUS)
  , ⟨0x20090040, [], 0x0, 0x0, 0x0, 0x3, 0x0, 0x0, 0x0⟩  -- FOCUS_INT_STATUS
  , ⟨0x20090044, [], 0x0, 0x3, 0x0, 0x0, 0x0, 0x0, 0x0⟩  -- FOCUS_INT_EN
  , ⟨0x20090050, [(0x4, 4)], 0x0, 0x0, 0x0, 0x0, 0x0, 0x0, 0xFFFFFFFF⟩  -- FOCUS_CNT
  , ⟨0x20092000, [(0x4, 32)], 0x0, 0x0, 0x0, 0x0, 0x0, 0x0, 0xFFFFFFFF⟩  -- FOCUS_DEFER
  ]

/-- The rows of block LENS. -/
def regRowsLens : List RegDef := [
  ⟨0x200A0000, [], 0x2, 0x3, 0x0, 0x0, 0x0, 0x4, 0x0⟩  -- LENS_CTRL
  , ⟨0x200A0004, [], 0x0, 0x0, 0x0, 0x0, 0x0, 0x0, 0x1FFFFF⟩  -- LENS_STATUS
  , ⟨0x200A0008, [], 0x0, 0x0, 0x0, 0x0, 0x0, 0x0, 0x3FFF3FFF⟩  -- LENS_POOL
  , ⟨0x200A000C, [], 0x10000000, 0x0, 0x0, 0x0, 0x0, 0x0, 0x1FFF1FFF⟩  -- LENS_FADE_TAPS
  , ⟨0x200A0010, [], 0x0, 0x0, 0x0, 0x0, 0x0, 0x0, 0x7F⟩  -- LENS_HEAD_LOAD
  , ⟨0x200A0014, [], 0x3F, 0x0, 0x0, 0x0, 0x0, 0x0, 0x3F⟩  -- LENS_TAIL_MARGIN
  , ⟨0x200A0040, [], 0x0, 0x0, 0x0, 0x3F, 0x0, 0x0, 0x0⟩  -- LENS_INT_STATUS
  , ⟨0x200A0044, [], 0x0, 0x3F, 0x0, 0x0, 0x0, 0x0, 0x0⟩  -- LENS_INT_EN
  , ⟨0x200A0050, [(0x4, 6)], 0x0, 0x0, 0x0, 0x0, 0x0, 0x0, 0xFFFFFFFF⟩  -- LENS_CNT
  , ⟨0x200A1000, [(0x4, 1024)], 0x0, 0x0, 0x0, 0x10000, 0x0, 0x0, 0x2FFFF⟩  -- LENS_BUS
  , ⟨0x200A2000, [(0x4, 1024)], 0x0, 0x0, 0x0, 0x0, 0x0, 0x0, 0xFFFF⟩  -- LENS_GR
  ]

/-- The rows of block DECIM. -/
def regRowsDecim : List RegDef := [
  ⟨0x200C0000, [], 0x6, 0x3, 0xC, 0x0, 0x0, 0x0, 0x0⟩  -- DECIM_CTRL
  , ⟨0x200C0004, [], 0x0, 0x0, 0xFFFF, 0x0, 0x0, 0x0, 0x0⟩  -- DECIM_MIC_EN
  , ⟨0x200C0008, [], 0x0, 0x0, 0x0, 0x0, 0x0, 0x0, 0xFFFFFFFF⟩  -- DECIM_STATUS
  , ⟨0x200C0010, [], 0x0, 0x0, 0x0, 0x0, 0x0, 0x0, 0x3FFF03⟩  -- GEN_STATUS
  , ⟨0x200C0020, [], 0x0, 0x0, 0x0, 0x0, 0x0, 0x0, 0x3FF7F⟩  -- CAP_STATUS
  , ⟨0x200C0024, [], 0x0, 0x0, 0x0, 0x0, 0x0, 0x0, 0xFFFFFFFF⟩  -- CAP_FRAMES
  , ⟨0x200C0028, [], 0xFFFFFFFF, 0x0, 0x0, 0x0, 0x0, 0x0, 0xFFFFFFFF⟩  -- CAP_END_LO
  , ⟨0x200C002C, [], 0xFFFFFFFF, 0x0, 0x0, 0x0, 0x0, 0x0, 0xFFFFFFFF⟩  -- CAP_END_HI
  , ⟨0x200C0040, [], 0x0, 0x0, 0x0, 0x3F, 0x0, 0x0, 0x0⟩  -- DECIM_INT_STATUS
  , ⟨0x200C0044, [], 0x0, 0x3F, 0x0, 0x0, 0x0, 0x0, 0x0⟩  -- DECIM_INT_EN
  , ⟨0x200C0050, [(0x4, 4)], 0x0, 0x0, 0x0, 0x0, 0x0, 0x0, 0xFFFFFFFF⟩  -- DECIM_CNT
  , ⟨0x200C1000, [(0x4, 16)], 0x0, 0x0, 0x0, 0x180, 0x0, 0x0, 0xE7F⟩  -- MIC_CH
  ]

/-- The rows of block PORTS. -/
def regRowsPorts : List RegDef := [
  ⟨0x200B0000, [], 0x2, 0x3, 0x0, 0x0, 0x0, 0x0, 0x0⟩  -- PORTS_CTRL
  , ⟨0x200B0004, [], 0x0, 0x0, 0x0, 0x0, 0x0, 0x0, 0x3⟩  -- PORTS_BANK
  , ⟨0x200B0040, [], 0x0, 0x0, 0x0, 0x7F, 0x0, 0x0, 0x0⟩  -- PORTS_INT_STATUS
  , ⟨0x200B0044, [], 0x0, 0x7F, 0x0, 0x0, 0x0, 0x0, 0x0⟩  -- PORTS_INT_EN
  , ⟨0x200B0050, [(0x4, 2)], 0x0, 0x0, 0x0, 0x0, 0x0, 0x0, 0xFFFFFFFF⟩  -- PORTS_CNT
  , ⟨0x200B0100, [(0x10, 8)], 0xA670100, 0x0, 0xFFFF07FF, 0x0, 0x0, 0x0, 0x0⟩  -- GRP_CFG
  , ⟨0x200B0104, [(0x10, 8)], 0x0, 0x0, 0x0, 0x30000000, 0x0, 0x0, 0xC00F03FF⟩  -- GRP_STAT
  , ⟨0x200B0200, [(0x10, 8), (0x4, 3)], 0x0, 0x0, 0x0, 0x0, 0x0, 0x0, 0xFFFFFFFF⟩  -- GRP_CNT
  , ⟨0x200B0400, [(0x10, 64)], 0x4000000, 0xA0000000, 0x4C0003FF, 0x0, 0x0, 0x0, 0x10000000⟩  -- PORT_CFG
  , ⟨0x200B0404, [(0x10, 64)], 0xFF00FF, 0xFFFF, 0x0, 0x0, 0x0, 0x0, 0xFFFF0000⟩  -- PORT_MASK
  , ⟨0x200B0408, [(0x10, 64)], 0x0, 0x0, 0x0, 0xFFFF0000, 0x0, 0x0, 0xFFFF⟩  -- PORT_NA
  , ⟨0x200B0800, [(0x8, 64)], 0x0, 0x0, 0x0, 0x0, 0x0, 0x0, 0xFFFFFFFF⟩  -- PORT_TS_NS
  , ⟨0x200B0804, [(0x8, 64)], 0x0, 0x0, 0x0, 0x0, 0x0, 0x0, 0xFFFFFFFF⟩  -- PORT_TS_SEC
  , ⟨0x200B1000, [(0x10, 64), (0x4, 4)], 0x0, 0x0, 0x0, 0x0, 0x0, 0x0, 0xFFFFFFFF⟩  -- PORT_CNT
  ]

/-- The rows of block MAC. -/
def regRowsMac : List RegDef := [
  ⟨0x200D0000, [(0x10000, 2)], 0x82, 0xC1, 0x3E, 0x0, 0x0, 0x0, 0x0⟩  -- MAC_CTRL
  , ⟨0x200D0004, [(0x10000, 2)], 0x0, 0x0, 0x0, 0x0, 0x0, 0x0, 0xF⟩  -- MAC_STATUS
  , ⟨0x200D0008, [(0x10000, 2)], 0x0, 0x0, 0xFFFFFFFF, 0x0, 0x0, 0x0, 0x0⟩  -- MAC_ADDR_LO
  , ⟨0x200D000C, [(0x10000, 2)], 0x0, 0x0, 0xFFFF, 0x0, 0x0, 0x0, 0x0⟩  -- MAC_ADDR_HI
  , ⟨0x200D0010, [(0x10000, 2)], 0x0, 0xFFFFFFFF, 0x0, 0x0, 0x0, 0x0, 0x0⟩  -- MAC_LINK_DELAY
  , ⟨0x200D0040, [(0x10000, 2)], 0x0, 0x0, 0x0, 0x3FF, 0x0, 0x0, 0x0⟩  -- MAC_INT_STATUS
  , ⟨0x200D0044, [(0x10000, 2)], 0x0, 0x3FF, 0x0, 0x0, 0x0, 0x0, 0x0⟩  -- MAC_INT_EN
  , ⟨0x200D0080, [(0x10000, 2), (0x4, 20)], 0x0, 0x0, 0x0, 0x0, 0x0, 0x0, 0xFFFFFFFF⟩  -- MAC_CNT
  , ⟨0x200D0100, [(0x10000, 2), (0x20, 4)], 0x0, 0x0, 0xFFFFFFFF, 0x0, 0x0, 0x0, 0x0⟩  -- RX_RING_DESC
  , ⟨0x200D0104, [(0x10000, 2), (0x20, 4)], 0x0, 0x0, 0xFFFFFFFF, 0x0, 0x0, 0x0, 0x0⟩  -- RX_RING_TS
  , ⟨0x200D0108, [(0x10000, 2), (0x20, 4)], 0x100010, 0x80000000, 0x1F1FFF, 0x0, 0x0, 0x0, 0x0⟩  -- RX_RING_CFG
  , ⟨0x200D010C, [(0x10000, 2), (0x20, 4)], 0x0, 0x0, 0x0, 0x0, 0x0, 0x0, 0x1FFF0FFF⟩  -- RX_RING_STATE
  , ⟨0x200D0110, [(0x10000, 2), (0x20, 4)], 0x0, 0x0, 0x0, 0x0, 0x0, 0x1FFF, 0x0⟩  -- RX_RING_RETURN
  , ⟨0x200D0200, [(0x10000, 2), (0x20, 2)], 0x0, 0x0, 0xFFFFFFFF, 0x0, 0x0, 0x0, 0x0⟩  -- TX_RING_DESC
  , ⟨0x200D0204, [(0x10000, 2), (0x20, 2)], 0x0, 0x0, 0xFFFFFFFF, 0x0, 0x0, 0x0, 0x0⟩  -- TX_RING_TS
  , ⟨0x200D0208, [(0x10000, 2), (0x20, 2)], 0x10, 0x80000000, 0x1FFF, 0x0, 0x0, 0x0, 0x0⟩  -- TX_RING_CFG
  , ⟨0x200D020C, [(0x10000, 2), (0x20, 2)], 0x0, 0x0, 0x0, 0x0, 0x0, 0x0, 0xFFF⟩  -- TX_RING_HEAD
  , ⟨0x200D0210, [(0x10000, 2), (0x20, 2)], 0x0, 0xFFF, 0x0, 0x0, 0x0, 0x0, 0x0⟩  -- TX_RING_TAIL
  , ⟨0x200D1000, [(0x10000, 2), (0x4, 128)], 0x0, 0xFFFFFFFF, 0x0, 0x0, 0x0, 0x0, 0x0⟩  -- MAC_MHASH
  ]

/-- The rows of block STREAM. -/
def regRowsStream : List RegDef := [
  ⟨0x200F0000, [], 0x2, 0x3, 0x0, 0x0, 0x0, 0x0, 0x0⟩  -- STR_CTRL
  , ⟨0x200F0004, [], 0x0, 0x0, 0x0, 0x0, 0x0, 0x0, 0xFFFF⟩  -- STR_STATUS
  , ⟨0x200F0008, [(0x4, 2)], 0x0, 0x0, 0x0, 0x0, 0x0, 0x0, 0x3FFF⟩  -- STR_LOAD
  , ⟨0x200F0040, [], 0x0, 0x0, 0x0, 0xFF, 0x0, 0x0, 0x0⟩  -- STR_INT_STATUS
  , ⟨0x200F0044, [], 0x0, 0xFF, 0x0, 0x0, 0x0, 0x0, 0x0⟩  -- STR_INT_EN
  , ⟨0x200F0050, [(0x4, 4)], 0x0, 0x0, 0x0, 0x0, 0x0, 0x0, 0xFFFFFFFF⟩  -- STR_CNT
  , ⟨0x200F1000, [(0x4, 255)], 0x0, 0x0, 0x0, 0x0, 0x0, 0x0, 0xF8FFC3FF⟩  -- STR_CTX
  , ⟨0x200F2000, [(0x40, 255), (0x4, 12)], 0x0, 0x0, 0x0, 0x0, 0x0, 0x0, 0xFFFFFFFF⟩  -- STR_CTX_CNT
  , ⟨0x200F8000, [(0x8, 255)], 0x0, 0x0, 0x0, 0x0, 0x0, 0x0, 0xFFFFFFFF⟩  -- STR_NA_LO
  , ⟨0x200F8004, [(0x8, 255)], 0x0, 0x0, 0x0, 0x0, 0x0, 0x0, 0xFFFFFFFF⟩  -- STR_NA_HI
  ]

/-- The rows of block CLK. -/
def regRowsClk : List RegDef := [
  ⟨0x20010004, [], 0x4, 0x0, 0x0, 0x0, 0x0, 0x0, 0xFF⟩  -- CLK_STATUS
  , ⟨0x20010008, [], 0x0, 0x0, 0x0, 0x0, 0x0, 0x0, 0xFFFFFFFF⟩  -- CLK_FREQ
  , ⟨0x2001000C, [], 0x0, 0x0, 0x0, 0x0, 0x0, 0x0, 0xFFFFFFFF⟩  -- CLK_FREQ_TARGET
  , ⟨0x20010010, [], 0x0, 0x0, 0x0, 0x0, 0x0, 0x0, 0xFFFFFFFF⟩  -- CLK_LOCK_WIN
  , ⟨0x20010014, [], 0x10100, 0xFFFFFF03, 0x0, 0x0, 0x0, 0x0, 0x0⟩  -- CLK_SYNC_OUT
  , ⟨0x20010040, [], 0x0, 0x0, 0x0, 0xF, 0x0, 0x0, 0x0⟩  -- CLK_INT_STATUS
  , ⟨0x20010044, [], 0x0, 0xF, 0x0, 0x0, 0x0, 0x0, 0x0⟩  -- CLK_INT_EN
  , ⟨0x20010050, [(0x4, 4)], 0x0, 0x0, 0x0, 0x0, 0x0, 0x0, 0xFFFFFFFF⟩  -- CLK_CNT
  ]

/-- The rows of block TIME. -/
def regRowsTime : List RegDef := [
  ⟨0x20020000, [], 0x1, 0x19, 0x0, 0x0, 0x0, 0x6, 0x0⟩  -- TIME_CTRL
  , ⟨0x20020004, [], 0x0, 0x0, 0x0, 0x0, 0x0, 0x0, 0x7F⟩  -- TIME_STATUS
  , ⟨0x20020008, [], 0x0, 0x0, 0x0, 0x0, 0x0, 0x0, 0xFFFFFFFF⟩  -- TIME_NS
  , ⟨0x2002000C, [], 0x0, 0x0, 0x0, 0x0, 0x0, 0x0, 0xFFFFFFFF⟩  -- TIME_SEC_LO
  , ⟨0x20020010, [], 0x0, 0x0, 0x0, 0x0, 0x0, 0x0, 0xFFFF⟩  -- TIME_SEC_HI
  , ⟨0x20020014, [], 0x0, 0x0, 0x0, 0x0, 0x0, 0x0, 0xFFFFFFFF⟩  -- TIME_FRAC
  , ⟨0x20020018, [], 0x0, 0x0, 0x0, 0x0, 0x0, 0x0, 0xFFFFFFFF⟩  -- TIME_SAMPLE_LO
  , ⟨0x2002001C, [], 0x0, 0x0, 0x0, 0x0, 0x0, 0x0, 0xFFFFFFFF⟩  -- TIME_SAMPLE_HI
  , ⟨0x20020040, [], 0x0, 0x0, 0x0, 0x3F, 0x0, 0x0, 0x0⟩  -- TIME_INT_STATUS
  , ⟨0x20020044, [], 0x0, 0x3F, 0x0, 0x0, 0x0, 0x0, 0x0⟩  -- TIME_INT_EN
  , ⟨0x20020050, [(0x4, 7)], 0x0, 0x0, 0x0, 0x0, 0x0, 0x0, 0xFFFFFFFF⟩  -- TIME_CNT
  , ⟨0x20020100, [], 0x0, 0xFFFFFFFF, 0x0, 0x0, 0x0, 0x0, 0x0⟩  -- SERVO_IN_OFFSET
  , ⟨0x20020104, [], 0x0, 0xFFFF, 0x0, 0x0, 0x0, 0x0, 0x0⟩  -- SERVO_IN_FRAC
  , ⟨0x20020108, [], 0x0, 0xFFFFFFFF, 0x0, 0x0, 0x0, 0x0, 0x0⟩  -- SERVO_IN_DELAY
  , ⟨0x2002010C, [], 0x2802BC, 0xFFFFFFFF, 0x0, 0x0, 0x0, 0x0, 0x0⟩  -- SERVO_GAIN
  , ⟨0x20020110, [], 0x2710, 0xFFFFFFFF, 0x0, 0x0, 0x0, 0x0, 0x0⟩  -- SERVO_STEP_THR
  , ⟨0x20020114, [], 0x3E8, 0xFFFFFFFF, 0x0, 0x0, 0x0, 0x0, 0x0⟩  -- SERVO_LOCK_THR
  , ⟨0x20020118, [], 0xC80000, 0xFFFFFFFF, 0x0, 0x0, 0x0, 0x0, 0x0⟩  -- SERVO_LIMIT
  , ⟨0x2002011C, [], 0x3E8, 0xFFFFFFFF, 0x0, 0x0, 0x0, 0x0, 0x0⟩  -- SERVO_JUMP_THR
  , ⟨0x20020120, [], 0x7D0, 0xFFFF, 0x0, 0x0, 0x0, 0x0, 0x0⟩  -- SERVO_HOLD
  , ⟨0x20020124, [], 0x0, 0xFFFFFFFF, 0x0, 0x0, 0x0, 0x0, 0x0⟩  -- SERVO_SYNC_DELAY
  , ⟨0x20020128, [], 0x0, 0x0, 0x0, 0x0, 0x0, 0x0, 0xFFFFFFFF⟩  -- SERVO_INTEGRAL
  , ⟨0x2002012C, [], 0x0, 0x0, 0x0, 0x0, 0x0, 0x0, 0xFFFFFFFF⟩  -- SERVO_REFUSED
  , ⟨0x20020200, [(0x8, 2)], 0x0, 0xFFFFFFFF, 0x0, 0x0, 0x0, 0x0, 0x0⟩  -- TS_RX_ADJ
  , ⟨0x20020204, [(0x8, 2)], 0x0, 0xFFFFFFFF, 0x0, 0x0, 0x0, 0x0, 0x0⟩  -- TS_TX_ADJ
  , ⟨0x20020300, [(0x4, 8)], 0x0, 0x3, 0x0, 0x0, 0x0, 0x0, 0x3F00⟩  -- CAP_CFG
  ]

/-- The rows of block FCORE. -/
def regRowsFcore : List RegDef := [
  ⟨0x14030000, [(0x40000, 8)], 0x8, 0xB, 0x0, 0x0, 0x0, 0x4, 0x0⟩  -- FCORE_CTRL
  , ⟨0x14030004, [(0x40000, 8)], 0x0, 0x0, 0x0, 0x0, 0x0, 0x0, 0x3FF0777⟩  -- FCORE_STATUS
  , ⟨0x14030008, [(0x40000, 8)], 0x0, 0x0, 0x0, 0x0, 0x0, 0x0, 0x3FFF⟩  -- FCORE_PC
  , ⟨0x1403000C, [(0x40000, 8)], 0x0, 0x0, 0x0, 0x0, 0x0, 0x0, 0xFFFFFFF⟩  -- FCORE_FAULT
  , ⟨0x14030010, [(0x40000, 8)], 0x0, 0x0, 0x0, 0x0, 0x0, 0x0, 0x3FFFF⟩  -- FCORE_ADMIT
  , ⟨0x14030014, [(0x40000, 8)], 0x0, 0x0, 0x0, 0x0, 0x0, 0x0, 0x3FFFF⟩  -- FCORE_USED
  , ⟨0x14030040, [(0x40000, 8)], 0x0, 0x0, 0x0, 0xF, 0x0, 0x0, 0x0⟩  -- FCORE_INT_STATUS
  , ⟨0x14030044, [(0x40000, 8)], 0x0, 0xF, 0x0, 0x0, 0x0, 0x0, 0x0⟩  -- FCORE_INT_EN
  , ⟨0x14030050, [(0x40000, 8), (0x4, 6)], 0x0, 0x0, 0x0, 0x0, 0x0, 0x0, 0xFFFFFFFF⟩  -- FCORE_CNT
  ]

/-- The rows of block SCHED. -/
def regRowsSched : List RegDef := [
  ⟨0x20040000, [], 0x2, 0x7, 0x0, 0x0, 0x0, 0x0, 0x0⟩  -- SCHED_CTRL
  , ⟨0x20040004, [], 0x0, 0x0, 0x0, 0x0, 0x0, 0x0, 0x7FF07FF⟩  -- SCHED_SLOTS
  , ⟨0x20040008, [], 0x0, 0x0, 0x0, 0x0, 0x0, 0x0, 0x7FF⟩  -- SCHED_RT
  , ⟨0x2004000C, [], 0x1000100, 0x0, 0x7FF07FF, 0x0, 0x0, 0x0, 0x0⟩  -- SCHED_SLOT_CFG
  , ⟨0x20040010, [(0x4, 4)], 0xF6, 0x0, 0x7FFF, 0x0, 0x0, 0x0, 0x0⟩  -- SCHED_TICK
  , ⟨0x20040020, [], 0x0, 0x0, 0x0, 0x0, 0x0, 0x0, 0xFFFFFFFF⟩  -- SCHED_SPILL_BASE
  , ⟨0x20040024, [], 0x10000, 0x0, 0x1FFFF, 0x0, 0x0, 0x0, 0x0⟩  -- SCHED_SPILL_CFG
  , ⟨0x20040028, [], 0x0, 0x0, 0x0, 0x20000, 0x0, 0x0, 0x1FFFF⟩  -- SCHED_SPILL_STATE
  , ⟨0x20040040, [], 0x0, 0x0, 0x0, 0x1F, 0x0, 0x0, 0x0⟩  -- SCHED_INT_STATUS
  , ⟨0x20040044, [], 0x0, 0x1F, 0x0, 0x0, 0x0, 0x0, 0x0⟩  -- SCHED_INT_EN
  , ⟨0x20040050, [(0x4, 10)], 0x0, 0x0, 0x0, 0x0, 0x0, 0x0, 0xFFFFFFFF⟩  -- SCHED_CNT
  , ⟨0x20040100, [(0x4, 8)], 0x0, 0x0, 0x0, 0x0, 0x0, 0x0, 0x7FF⟩  -- SCHED_LEVEL
  , ⟨0x20040200, [(0x4, 9)], 0x0, 0x0, 0x0, 0x0, 0x0, 0x0, 0x8FFF03FF⟩  -- SCHED_SERVER
  , ⟨0x20040300, [(0x4, 8)], 0x0, 0x0, 0x0, 0x0, 0x0, 0x0, 0xFFFFFFFF⟩  -- SCHED_FLOW_BUSY
  , ⟨0x20048000, [], 0x1, 0x1, 0x0, 0x0, 0x0, 0x0, 0x0⟩  -- OBS_CTRL
  , ⟨0x20048004, [], 0x3E8, 0x3FFF, 0x0, 0x0, 0x0, 0x0, 0x0⟩  -- OBS_WINDOW
  , ⟨0x20048010, [(0x10, 9)], 0x0, 0x0, 0x0, 0x0, 0x0, 0x0, 0xFFFFFFFF⟩  -- OBS_DEPTH
  , ⟨0x20048014, [(0x10, 9)], 0x0, 0x0, 0x0, 0x0, 0x0, 0x0, 0xFFFFFFFF⟩  -- OBS_WAIT
  , ⟨0x20048018, [(0x10, 9)], 0x0, 0x0, 0x0, 0x0, 0x0, 0x0, 0x3FF⟩  -- OBS_LOAD
  ]

/-- The rows of block XBAR. -/
def regRowsXbar : List RegDef := [
  ⟨0x20050000, [], 0x3, 0x1, 0x2, 0x0, 0x0, 0x0, 0x0⟩  -- XBAR_CTRL
  , ⟨0x20050004, [], 0x10000, 0x0, 0xFFFFFF, 0x0, 0x0, 0x0, 0x0⟩  -- XBAR_TIMEOUT
  , ⟨0x20050008, [], 0xFFFE, 0x0, 0x0, 0x0, 0x0, 0x0, 0xFFFF⟩  -- XBAR_MASK
  , ⟨0x2005000C, [], 0x0, 0x0, 0x0, 0x0, 0x0, 0x0, 0xFFF⟩  -- XBAR_FAILED
  , ⟨0x20050010, [], 0x0, 0x0, 0x0, 0x0, 0x0, 0x0, 0xFFFFFFFF⟩  -- XBAR_ERR_LO
  , ⟨0x20050014, [], 0x0, 0x0, 0x0, 0x0, 0x0, 0x0, 0xFF⟩  -- XBAR_ERR_HI
  , ⟨0x20050018, [], 0x0, 0x0, 0x0, 0x80000000, 0x0, 0x0, 0x1FF0F⟩  -- XBAR_ERR_INFO
  , ⟨0x20050040, [], 0x0, 0x0, 0x0, 0x1F, 0x0, 0x0, 0x0⟩  -- XBAR_INT_STATUS
  , ⟨0x20050044, [], 0x0, 0x1F, 0x0, 0x0, 0x0, 0x0, 0x0⟩  -- XBAR_INT_EN
  , ⟨0x20050050, [(0x4, 13)], 0x0, 0x0, 0x0, 0x0, 0x0, 0x0, 0xFFFFFFFF⟩  -- XBAR_CNT
  , ⟨0x20050100, [(0x4, 12)], 0x0, 0xF, 0x0, 0x0, 0x0, 0x0, 0x0⟩  -- XBAR_DEFAULT
  , ⟨0x20050200, [(0x4, 16)], 0x0, 0x0, 0x0, 0x0, 0x0, 0x0, 0x1F003F⟩  -- XBAR_OUT
  , ⟨0x20051000, [(0x4, 64)], 0x0, 0x0, 0x0, 0x0, 0x0, 0x0, 0xC000000F⟩  -- LOCK_ACQ
  , ⟨0x20051400, [(0x4, 64)], 0x0, 0x0, 0x0, 0x0, 0x0, 0x1, 0x0⟩  -- LOCK_REL
  , ⟨0x20051800, [(0x4, 64)], 0x0, 0x0, 0x0, 0x0, 0x0, 0x0, 0xC000000F⟩  -- LOCK_STATE
  , ⟨0x20051C00, [], 0x0, 0x0, 0x0, 0x0, 0x0, 0x0, 0xFFFFFFFF⟩  -- LOCK_HELD_LO
  , ⟨0x20051C04, [], 0x0, 0x0, 0x0, 0x0, 0x0, 0x0, 0xFFFFFFFF⟩  -- LOCK_HELD_HI
  ]

/-- The rows of block DDRC. -/
def regRowsDdrc : List RegDef := [
  ⟨0x20060000, [], 0x6, 0x7, 0x0, 0x0, 0x0, 0x0, 0x0⟩  -- DDRC_CTRL
  , ⟨0x20060004, [], 0x4, 0x0, 0x0, 0x0, 0x0, 0x0, 0xFF⟩  -- DDRC_STATUS
  , ⟨0x20060008, [], 0xFF, 0xFF, 0x0, 0x0, 0x0, 0x0, 0x0⟩  -- DDRC_KEEP
  , ⟨0x2006000C, [], 0x4000, 0xFFFF, 0x0, 0x0, 0x0, 0x0, 0x0⟩  -- DDRC_ROWGUARD
  , ⟨0x20060010, [], 0x0, 0x0, 0x0, 0x0, 0x0, 0x0, 0xFFF⟩  -- DDRC_MR4
  , ⟨0x20060018, [], 0x0, 0x0, 0x0, 0x0, 0x0, 0x0, 0xFFFFFFFF⟩  -- DDRC_ERR_LO
  , ⟨0x2006001C, [], 0x0, 0x0, 0x0, 0x0, 0x0, 0x0, 0x7FF⟩  -- DDRC_ERR_HI
  , ⟨0x20060040, [], 0x0, 0x0, 0x0, 0x3F, 0x0, 0x0, 0x0⟩  -- DDRC_INT_STATUS
  , ⟨0x20060044, [], 0x0, 0x3F, 0x0, 0x0, 0x0, 0x0, 0x0⟩  -- DDRC_INT_EN
  , ⟨0x20060050, [(0x4, 8)], 0x0, 0x0, 0x0, 0x0, 0x0, 0x0, 0xFFFFFFFF⟩  -- DDRC_CNT
  , ⟨0x20060100, [(0x10, 8)], 0x0, 0xFFFF, 0x0, 0x0, 0x0, 0x0, 0x0⟩  -- DDRC_PORT_TARGET
  , ⟨0x20060104, [(0x10, 8)], 0x0, 0x0, 0x0, 0x0, 0x0, 0x0, 0x2FF⟩  -- DDRC_PORT_STAT
  , ⟨0x20060108, [(0x10, 8)], 0x0, 0x0, 0x0, 0x0, 0x0, 0x0, 0xFFFFFFFF⟩  -- DDRC_PORT_LATE
  , ⟨0x20060200, [(0x4, 64)], 0x0, 0x0, 0x0, 0x0, 0x0, 0x0, 0x80000FFF⟩  -- DDRC_RETIRED
  , ⟨0x20061000, [(0x40, 4), (0x4, 9)], 0x0, 0xFF, 0x0, 0x0, 0x0, 0x0, 0x100⟩  -- DDRC_DLY
  ]

/-- The rows of block MBX. -/
def regRowsMbx : List RegDef := [
  ⟨0x20032000, [], 0x0, 0x0, 0x0, 0x0, 0xFF, 0x0, 0x0⟩  -- MBX_DOORBELL
  , ⟨0x20032004, [], 0x0, 0x0, 0x0, 0x0, 0x0, 0x0, 0xFFFFFF⟩  -- MBX_SLOT_STATE
  , ⟨0x20032008, [], 0x0, 0x0, 0x0, 0xFF, 0x0, 0x0, 0x0⟩  -- MBX_DONE
  , ⟨0x2003200C, [], 0x1, 0x0, 0x0, 0x0, 0x0, 0x0, 0xFF0F000F⟩  -- MBX_DEV_STATE
  , ⟨0x20032010, [], 0x0, 0x0, 0x0, 0x300, 0x0, 0x0, 0xFF⟩  -- MBX_INT_STATUS
  , ⟨0x20032014, [], 0x0, 0x3FF, 0x0, 0x0, 0x0, 0x0, 0x0⟩  -- MBX_INT_EN
  , ⟨0x20032020, [], 0x0, 0xFFFFF000, 0x0, 0x0, 0x0, 0x0, 0x0⟩  -- MBX_EVR_BASE_LO
  , ⟨0x20032024, [], 0x0, 0xFFFFFFFF, 0x0, 0x0, 0x0, 0x0, 0x0⟩  -- MBX_EVR_BASE_HI
  , ⟨0x20032028, [], 0x6, 0x8000001F, 0x0, 0x0, 0x0, 0x0, 0x0⟩  -- MBX_EVR_CFG
  , ⟨0x2003202C, [], 0x0, 0x0, 0x0, 0x0, 0x0, 0x0, 0xFFFFFFFF⟩  -- MBX_EVR_PROD
  , ⟨0x20032030, [], 0x0, 0xFFFFFFFF, 0x0, 0x0, 0x0, 0x0, 0x0⟩  -- MBX_EVR_CONS
  , ⟨0x20032050, [(0x4, 8)], 0x0, 0x0, 0x0, 0x0, 0x0, 0x0, 0xFFFFFFFF⟩  -- MBX_CNT
  ]

/-- The rows of block HOSTIF. -/
def regRowsHostif : List RegDef := [
  ⟨0x20130004, [], 0x0, 0x0, 0x0, 0x0, 0x0, 0x0, 0x3FF⟩  -- HOSTIF_STATUS
  , ⟨0x20130008, [], 0x0, 0x0, 0x0, 0x0, 0x0, 0x0, 0xFFF⟩  -- HOSTIF_BAR2_BASE
  , ⟨0x2013000C, [], 0x0, 0x0, 0x0, 0x0, 0x0, 0x0, 0xFF⟩  -- HOSTIF_BAR2_SIZE
  , ⟨0x20130010, [], 0x0, 0x1FFFFF, 0x0, 0x0, 0x0, 0x0, 0x0⟩  -- HOSTIF_DBG_WIN
  , ⟨0x20130040, [], 0x0, 0x0, 0x0, 0x7, 0x0, 0x0, 0x0⟩  -- HOSTIF_INT_STATUS
  , ⟨0x20130044, [], 0x0, 0x7, 0x0, 0x0, 0x0, 0x0, 0x0⟩  -- HOSTIF_INT_EN
  , ⟨0x20130050, [(0x4, 4)], 0x0, 0x0, 0x0, 0x0, 0x0, 0x0, 0xFFFFFFFF⟩  -- HOSTIF_CNT
  ]

/-- The rows of block MIRROR. -/
def regRowsMirror : List RegDef := [
  ⟨0x20100000, [], 0x302, 0x2, 0x1F01, 0x0, 0x0, 0x0, 0x0⟩  -- MIR_CTRL
  , ⟨0x20100004, [], 0x0, 0x0, 0x0, 0x0, 0x0, 0x0, 0x7FFF⟩  -- MIR_STATUS
  , ⟨0x20100008, [], 0x0, 0x0, 0x0, 0x0, 0x0, 0x0, 0x1F⟩  -- MIR_HB_MISS
  , ⟨0x2010000C, [], 0x0, 0x0, 0x0, 0x0, 0x0, 0x0, 0xFFFFFFFF⟩  -- MIR_HANDOVER_Q
  , ⟨0x20100010, [], 0x0, 0x0, 0x0, 0x0, 0x0, 0x0, 0xFFFFFFFF⟩  -- MIR_LAST_CHANGE
  , ⟨0x20100040, [], 0x0, 0x0, 0x0, 0x3F, 0x0, 0x0, 0x0⟩  -- MIR_INT_STATUS
  , ⟨0x20100044, [], 0x0, 0x3F, 0x0, 0x0, 0x0, 0x0, 0x0⟩  -- MIR_INT_EN
  , ⟨0x20100050, [(0x4, 9)], 0x0, 0x0, 0x0, 0x0, 0x0, 0x0, 0xFFFFFFFF⟩  -- MIR_CNT
  ]

/-- The rows of block SYS. -/
def regRowsSys : List RegDef := [
  ⟨0x20000000, [], 0x961000B0, 0x0, 0x0, 0x0, 0x0, 0x0, 0xFFFFFFFF⟩  -- SYS_ID
  , ⟨0x20000004, [], 0x1, 0x0, 0x0, 0x0, 0x0, 0x0, 0x1FF⟩  -- SYS_MODE
  , ⟨0x20000008, [], 0x9, 0x0, 0x0, 0x0, 0x0, 0x0, 0x3B⟩  -- SYS_STATUS
  , ⟨0x2000000C, [], 0x0, 0x0, 0x0, 0x0, 0x0, 0x0, 0x1F⟩  -- SYS_STRAPS
  , ⟨0x20000010, [], 0x7, 0x0, 0x0, 0x0, 0x0, 0x0, 0x3FF⟩  -- SYS_PWR_STATUS
  , ⟨0x20000014, [], 0x7, 0x3F8, 0x0, 0x0, 0x0, 0x0, 0x7⟩  -- SYS_PWR_REQ
  , ⟨0x20000018, [], 0x0, 0x0, 0x0, 0x0, 0x0, 0x0, 0x7⟩  -- SYS_RESET_CAUSE
  , ⟨0x2000001C, [], 0x0, 0x0, 0x0, 0x80000000, 0x0, 0x0, 0xFFFFF⟩  -- SYS_FATAL
  , ⟨0x20000020, [], 0x64, 0x0, 0xFFFF, 0x0, 0x0, 0x40000000, 0x80000000⟩  -- SYS_WDT
  , ⟨0x20000024, [], 0x3E80000, 0xFFFF0000, 0x0, 0x0, 0x0, 0x0, 0xFFFF⟩  -- SYS_THERM
  , ⟨0x20000028, [], 0x0, 0x0, 0x0, 0x0, 0x0, 0x0, 0x3⟩  -- SYS_AUTO_RESET
  , ⟨0x20000040, [], 0x0, 0x0, 0x0, 0xF, 0x0, 0x0, 0x0⟩  -- SYS_INT_STATUS
  , ⟨0x20000044, [], 0x0, 0xF, 0x0, 0x0, 0x0, 0x0, 0x0⟩  -- SYS_INT_EN
  , ⟨0x20000050, [(0x4, 5)], 0x0, 0x0, 0x0, 0x0, 0x0, 0x0, 0xFFFFFFFF⟩  -- SYS_CNT
  ]

/-- The rows of block PERF. -/
def regRowsPerf : List RegDef := [
  ⟨0x20110100, [(0x4, 128)], 0x0, 0x7, 0x0, 0x0, 0x0, 0x0, 0x0⟩  -- PERF_CFG
  , ⟨0x20111000, [(0x8, 128)], 0x0, 0x0, 0x0, 0x0, 0x0, 0x0, 0xFFFFFFFF⟩  -- PERF_CNT_LO
  , ⟨0x20111004, [(0x8, 128)], 0x0, 0x0, 0x0, 0x0, 0x0, 0x0, 0xFFFF⟩  -- PERF_CNT_HI
  ]

/-- The rows of block TRACE. -/
def regRowsTrace : List RegDef := [
  ⟨0x20120000, [], 0x2, 0x7, 0x0, 0x0, 0x0, 0x0, 0x8⟩  -- TRACE_CTRL
  , ⟨0x20120004, [], 0x0, 0x3F, 0x0, 0x0, 0x0, 0x0, 0x0⟩  -- TRACE_SRC
  , ⟨0x20120008, [], 0x0, 0x0, 0x0, 0x0, 0x0, 0x0, 0xFFFFFFFF⟩  -- TRACE_BASE
  , ⟨0x2012000C, [], 0x0, 0x0, 0x7F, 0x0, 0x0, 0x0, 0x0⟩  -- TRACE_SIZE
  , ⟨0x20120010, [], 0x0, 0x0, 0x0, 0x0, 0x0, 0x0, 0xFFF⟩  -- TRACE_STATUS
  , ⟨0x20120014, [], 0x0, 0x0, 0x0, 0x0, 0x0, 0x0, 0xFFFFFFFF⟩  -- TRACE_WRITTEN
  , ⟨0x20120018, [], 0x0, 0x0, 0x0, 0x0, 0x0, 0x0, 0xFFFFFFFF⟩  -- TRACE_LOST
  , ⟨0x20120040, [], 0x0, 0x0, 0x0, 0x3, 0x0, 0x0, 0x0⟩  -- TRACE_INT_STATUS
  , ⟨0x20120044, [], 0x0, 0x3, 0x0, 0x0, 0x0, 0x0, 0x0⟩  -- TRACE_INT_EN
  ]

/-- The rows of block GPIO. -/
def regRowsGpio : List RegDef := [
  ⟨0x20140000, [], 0x0, 0x0, 0x0, 0x0, 0x0, 0x0, 0xF⟩  -- PAD_BANK
  , ⟨0x20140010, [], 0x0, 0x0, 0x0, 0x0, 0x0, 0x0, 0xFFFF⟩  -- GPIO_IN
  , ⟨0x20140014, [], 0x0, 0xFFFF, 0x0, 0x0, 0x0, 0x0, 0x0⟩  -- GPIO_OUT
  , ⟨0x20140018, [], 0x0, 0xFFFF, 0x0, 0x0, 0x0, 0x0, 0x0⟩  -- GPIO_OE
  , ⟨0x2014001C, [], 0xFFFF, 0xFFFF, 0x0, 0x0, 0x0, 0x0, 0x0⟩  -- GPIO_PULL
  , ⟨0x20140020, [], 0xFFFFFFFF, 0xFFFFFFFF, 0x0, 0x0, 0x0, 0x0, 0x0⟩  -- PAD_TDM_PULL_LO
  , ⟨0x20140024, [], 0xFFFFFFFF, 0xFFFFFFFF, 0x0, 0x0, 0x0, 0x0, 0x0⟩  -- PAD_TDM_PULL_HI
  , ⟨0x20140028, [], 0xFFFF, 0xFFFF, 0x0, 0x0, 0x0, 0x0, 0x0⟩  -- PAD_CLK_PULL
  , ⟨0x20140030, [], 0x55, 0x0, 0xFF, 0x0, 0x0, 0x0, 0x0⟩  -- PAD_DRIVE
  , ⟨0x20140034, [], 0x1, 0x1, 0x0, 0x0, 0x0, 0x0, 0x0⟩  -- PAD_CTRL
  ]

/-- The rows of the register block with the number of R518 (13 and 14 are the two MACs, 21 shows no register). -/
def regRowsOf (block : Nat) : List RegDef :=
  match block with
  | 0 => regRowsSys
  | 1 => regRowsClk
  | 2 => regRowsTime
  | 3 => regRowsMbx
  | 4 => regRowsSched
  | 5 => regRowsXbar
  | 6 => regRowsDdrc
  | 7 => regRowsPrism
  | 8 => regRowsMeta
  | 9 => regRowsFocus
  | 10 => regRowsLens
  | 11 => regRowsPorts
  | 12 => regRowsDecim
  | 13 => regRowsMac
  | 14 => regRowsMac
  | 15 => regRowsStream
  | 16 => regRowsMirror
  | 17 => regRowsPerf
  | 18 => regRowsTrace
  | 19 => regRowsHostif
  | 20 => regRowsGpio
  | _ => []

/-- Whether an offset from a row's base falls on one of the row's registers. -/
def dimsHit : List (Nat × Nat) → Nat → Bool
  | [], off => off == 0
  | (stride, count) :: ds, off => decide (off / stride < count) && dimsHit ds (off % stride)

/-- The row that defines the register at an address, if any (R13, R518, R520). -/
def regDef? (a : Nat) : Option RegDef :=
  let rows := if 0x14000000 ≤ a ∧ a < 0x14200000 then regRowsFcore
    else if 0x20000000 ≤ a ∧ a < 0x20160000 then regRowsOf ((a - 0x20000000) / 0x10000) else []
  rows.find? (fun r => decide (r.base ≤ a) && dimsHit r.dims (a - r.base))

end Sys2Proof.Machine
end

