-- ==== Sys2Proof/Config.lean ====
section
/-! DEFINITION. Config: what the spec leaves open. Every constant here is opaque: it has no body, so nothing can be
proved of its value, and a claim about the model holds for every value it may have. The Nat argument of most of them is
the model's counter of free values (State.freeCnt), so that each use is a fresh value. -/

namespace Sys2Proof.Config

/-- A free byte (undefined memory contents, undefined data). -/
opaque freeByte : Nat → Byte

/-- A free natural number. -/
opaque freeNat : Nat → Nat

/-- A free truth value. -/
opaque freeBool : Nat → Bool

/-- Whether a conversion whose rounding the spec does not state rounds its remainder up: the kind of the conversion
(1 path gain, 2 shelf coefficient, 3 shelf low-pass state, 4 shelf output, 5 gain product, 6 interpolator tie, others as
notes/assumptions/7 lists) and the exact numerator. One function of the operands, so
equal operands always give equal results (R84). -/
opaque roundUp : Nat → Int → Bool

/-- The interpolator taps of Prism (R82) other than those R82 gives: phase 1 to 255 and tap, in Q1.23. The spec gives
the construction and its accuracy, not the numbers. -/
opaque interpTap : Nat → Nat → Int

/-- Whether the DRAM unit at an address is granted to a Facet task's far accesses (R291): the spec does not say by what means
a region is granted. -/
opaque facetGrant : Nat → Nat → Bool

/-- What the binary32 transforms of the Lens tail (R130, R138) add to the exact convolution, in units of 2^-149: a function of
the partitions' taps, the FDL entries they meet and the sample. The spec says that the order of operations is fixed, not which. -/
opaque tailErr : List (List Nat) → List (List Nat) → Nat → Int

/-- Word w of the 512-point binary32 spectrum of a list of samples: the order of the transform's steps is open (R130, R139). -/
opaque tailSpectrum : List Nat → Nat → Nat

/-- A tap of a coefficient spectrum that was lost and moved with its region: count of free values drawn, bus, bank, tap (R140). -/
opaque lostTap : Nat → Nat → Nat → Nat → Nat

/-- A coefficient of half-band stage 1, 2 or 3 under a preset, in units of 2^-31 (R157, R158). The spec gives the accuracy and the
delays of the stages, not their coefficients. -/
opaque halfTap : Nat → Nat → Nat → Int

/-- What the binary32 evaluation of the sweep (R165) adds to the phase, in units of 2^-96 turns, and to the sample: functions of the
sweep's settings (f1, f2, T, level in 0.01 dB, W, rate) and the sample. The spec does not give the order of operations. -/
opaque sweepPhase : List Int → Nat → Int

/-- See sweepPhase. -/
opaque sweepErr : List Int → Nat → Int

/-- The 32-bit maximal-length noise generator (R166, R415): the low 32 coefficients of its polynomial. -/
opaque noisePoly : Nat

/-- The states the noise generator goes on per sample. -/
opaque noiseStride : Nat

/-- How a state of the noise generator is read as a word. -/
opaque noiseRead : Nat

/-- The pink filter (R166, R415): pole and gain of its sections, in units of 2^-24. -/
opaque pinkSections : List (Int × Int)

/-- The gain of the pink filter's direct path, in units of 2^-24. -/
opaque pinkDirect : Int

/-- What an output slot carries in a frame between two blocks (R193, R195): a slave group that runs ahead of the media clock has a frame
for which no sample is there. Arguments: port × 16 + rank of the slot, tick of the frame edge. -/
opaque gapSample : Nat → Nat → Int

/-- Fields of the datagrams firmware sends of its own (scene frames, status frames, PTP): 0 TTL, 1 type of service, 2 UDP source port, 3 type of
service of PTP messages. The spec does not state them. -/
opaque fwField : Nat → Nat

/-- The Ethernet address that a unicast IPv4 address of firmware's datagrams is sent to: what ARP finds on the network. -/
opaque ethOf : Nat → Nat

/-- Whether a firmware item, by its argument, serves SAFE (R319). -/
opaque servesSafe : List Nat → Bool

/-- What a Facet instruction leaves where the spec states no value (a carry, a shift by 32 or more, LC outside a loop, the registers at the
start of an instance): a function of the operands alone, so that a task's results depend on nothing else (R300). The list names the kind,
then the operands. -/
opaque facetFree : List Nat → Nat

/-- What the look-ahead taps of R80 find of a Facet output channel while its instance for that quantum still runs (R23, R293): the
spec gives the taps, but no sample exists yet. Channel and media sample index. -/
opaque facetAhead : Nat → Nat → Int

end Sys2Proof.Config
end

