-- ==== Sys2Proof/Machine/State.lean ====
section
/-! DEFINITION. State: every piece of state the spec gives the MK9610, as plain data, with the state after reset.
Register-backed values stand in the table regs, keyed by the register's address in the 40-bit map; what the spec gives
no register for stands in the named structures below. -/

namespace Sys2Proof.Machine

/-- The block never stops with a fault of its own: every command of the table has an effect the spec gives. -/
inductive Fault where
  deriving DecidableEq, Repr

/-- Why a command has no meaning here. -/
inductive Refusal where
  /-- Raised by Dispatch for a command that has no meaning yet; safe (nothing can be proved of what it would do). -/
  | notModelled (mnemonic : String)
  deriving DecidableEq, Repr

/-- The six modes of R9. -/
inductive Mode where
  | boot | park | measure | render | mirror | safe
  deriving DecidableEq, Repr

/-- The mode code of R9. -/
def Mode.code : Mode → Nat
  | .boot => 1 | .park => 2 | .measure => 3 | .render => 4 | .mirror => 5 | .safe => 6

/-! ### Power, modes, resets, boot (chapters 14 and 17) -/

/-- Where the device stands with respect to its resets: running; PORST_N held low (R456); the warm-reset hold of R457;
a power-fail hold (R458). `testMode` is the state of R489. -/
inductive ResetPhase where
  | running | porst | warmHold | powerFail | testMode
  deriving DecidableEq, Repr

/-- A mode change asked for by MODE_SET and not yet entered (R403 to R405): the target and the command. -/
structure ModeReq where
  target : Mode
  hdr : Hdr
  deriving DecidableEq, Repr

/-- A fatal error being handled (R460): cause, failing address, mode and time at its tick. -/
structure Fatal where
  cause : Nat
  detail : Nat
  mode : Mode
  tick : Nat
  deriving DecidableEq, Repr

/-- The state of SYS, the boot ROM and the resets: mode and the MODE_SET that runs; order code and DRAM fitted; straps sampled; domains
powered (as SYS_PWR_STATUS); reset phase, the event tick of the last reset (R35) and what ends it; the start-up mute (R455); the image (entered, firmware running, host boot
waiting, boot error, the slot being loaded, versions, trial); watchdog; automatic resets and the entry to SAFE (R462); the fatal error
being handled, whether the boot ROM runs in SAFE (R461), whether the engines stop; the steps of start-up that are done (R452). -/
structure Sys where
  mode : Mode
  modeReq : Option ModeReq
  orderIL : Bool
  dram8 : Bool
  straps : Straps
  pwr : Nat
  phase : ResetPhase
  resetAt : Option Nat
  sysResetDue : Option Nat
  muted : Bool
  imageEntered : Bool
  fwRunning : Bool
  hostBootWait : Bool
  bootErr : Nat
  bootSlot : Nat
  bootTry : Option Nat
  imgVersion : Nat
  imgSecVersion : Nat
  trialFailed : Bool
  trialRunning : Bool
  wdtRunning : Bool
  wdtTick : Nat
  autoTicks : List Nat
  safeTick : Nat
  fatal : Option Fatal
  romInSafe : Bool
  enginesStop : Bool
  sweepPassed : Bool
  netUp : Bool
  dumpPlaced : Bool
  thermWarn : Bool
  deriving DecidableEq, Repr

/-- Flash staging of FW_STAGE (R377): its number, slot, total, bytes received and programmed, state and failing check as FW_STATUS
reports them, and the versions of the staged image. -/
structure Staging where
  num : Nat
  slot : Nat
  total : Nat
  got : Nat
  programmed : Nat
  state : Nat
  failCode : Nat
  version : Nat
  secVersion : Nat
  deriving DecidableEq, Repr

/-- One chunk that waits for its flash programming (R377): the staging it belongs to, the command, its offset and bytes. -/
structure StageChunk where
  num : Nat
  hdr : Hdr
  off : Nat
  data : Bytes
  deriving DecidableEq, Repr

/-- OTP, debug lock and firmware update (R374 to R380, R519). -/
structure Sec where
  keyHash : Tbl Bytes
  keyRevoked : Tbl Bool
  floor : Nat
  debugState : Nat
  unlocked : Bool
  uniqueId : Nat
  nonce : Option Bytes
  unlockFails : Nat
  staging : Option Staging
  stagings : Nat
  chunks : List StageChunk
  raiseFloor : Bool
  flashFitted : Bool
  deriving DecidableEq, Repr

/-! ### Time and clocks (chapter 9) -/

/-- The servo states of R253. -/
inductive ServoState where
  | acquiring | locked | holdover | freeRun
  deriving DecidableEq, Repr

/-- A time step waiting to be applied (R256, R257): the command (none for the standing step of SYNC_IN), whether the
value is absolute, the value in 1/65536 ns, and the named quantum of a TIMED step. -/
structure StepReq where
  hdr : Option Hdr
  absolute : Bool
  value : Int
  quantum : Option Nat
  deriving DecidableEq, Repr

/-- One record of an edge capture queue (R267). -/
structure CapRec where
  stamp : Nat
  input : Nat
  rising : Bool
  lostBefore : Bool
  sample : Nat
  deriving DecidableEq, Repr

/-- TIME and CLK: the system counter in event ticks (R242), a count of event ticks that no step moves, the steps of the last
512 ticks (event tick and length), the last marked boundary,
stages, servo, PLLs (relock: the event tick of a clock loss being recovered; lossAt: of the last clock loss; tickBack: the tick returns to the PLL at the next
window end), SYNC_OUT, PTP settings, captures. -/
structure TimeSt where
  tick : Nat
  eventTick : Nat
  jumps : List (Nat × Int)
  rate96 : Bool
  lastQ : Nat
  objInsert : Bool
  busInsert : Bool
  stepQuantum : Bool
  servo : ServoState
  lockRun : Nat
  badRun : Nat
  integral : Int
  target : Int
  word : Int
  dfilt : Option Int
  lastOffset : Int
  refused : Option Int
  step : Option StepReq
  syncRun : Nat
  syncLocked : Bool
  ptpPort : Option Nat
  gmId : Nat
  refclkOk : Bool
  rootLock : Bool
  ddrLock : Bool
  sdLock : Bool
  pcieLock : Bool
  lockRunWin : Nat
  expectWord : Int
  tickSrc : Nat
  relock : Option Nat
  lossAt : Option Nat
  ddrRelock : Bool
  tickBack : Bool
  syncOut : Bool
  syncDue : Bool
  syncOutTicks : Nat
  ptpProfile : Nat
  ptpDomain : Nat
  ptpDelayMech : Nat
  ptpRole : Nat
  ptpIntervals : List Int
  ptpPrio : List Nat
  ptpMask : Nat
  capQ : Tbl (List CapRec)
  capLost : Tbl Bool
  capLevel : Tbl Bool
  deriving DecidableEq, Repr

/-! ### The mailbox (chapter 14) -/

/-- The slot states of R389. -/
inductive SlotState where
  | idle | posted | held | executing | done
  deriving DecidableEq, Repr

/-- The record firmware keeps of the last answered command of a slot (R390, check 3), with the response it wrote. -/
structure SlotRec where
  seq : Nat
  crc : Nat
  resp : Bytes
  deriving DecidableEq, Repr

/-- One mailbox slot: its state, its write lock, and the record of R390. -/
structure Slot where
  st : SlotState
  locked : Bool
  last : Option SlotRec
  deriving DecidableEq, Repr

/-- The reset state of a slot. -/
def Slot.init : Slot := ⟨.idle, false, none⟩

/-- A bulk command whose buffer transfer runs in the background (R391), or a held command (R392): header, opcode, payload. -/
structure Job where
  hdr : Hdr
  op : Nat
  payload : Bytes
  deriving DecidableEq, Repr

/-- The work of a command that returned ACCEPTED (R401): the command, the pieces of work left, the status and detail its
COMMAND_DONE will carry. -/
structure AccJob where
  hdr : Hdr
  op : Nat
  left : Nat
  status : Nat
  detail : Bytes
  deriving DecidableEq, Repr

/-- MBX and the firmware's mailbox state: slots, the event tick (plus 1) at which a slot was last rung (R35), posted slots in doorbell order, held commands, bulk commands in progress,
accepted work by job number, event sequence and mask, the last events of R478, and the claim table of R396. -/
structure Mbx where
  slots : Tbl Slot
  rung : Tbl Nat
  queue : List Nat
  held : List Job
  bulk : List Job
  jobs : Tbl AccJob
  nextJob : Nat
  evSeq : Nat
  lostBefore : Bool
  evMask : Tbl Bool
  lastEvents : List Bytes
  claims : Tbl Nat
  deriving DecidableEq, Repr

/-- The PCIe function and the host views (R381 to R385, R521 to R523). -/
structure HostIf where
  linkUp : Bool
  speed : Nat
  width : Nat
  perstN : Bool
  msix : Tbl Nat
  pba : Nat
  vectors : Tbl Nat
  regionUnit : Nat
  regionUnits : Nat
  jtagIr : Nat
  jtagOut : Nat
  deriving DecidableEq, Repr

/-! ### Redundant pairs and hierarchy (chapter 16) -/

/-- The Mirror controller states of R435 (`off` with Mirror disabled). -/
inductive MirState where
  | off | idle | standby | pending | active
  deriving DecidableEq, Repr

/-- A HANDOVER due (R416, R439): its quantum, the command, and the Mirror state at which it was accepted. -/
structure HandoverReq where
  quantum : Nat
  hdr : Hdr
  at_ : MirState
  acted : Bool
  deriving DecidableEq, Repr

/-- The redundancy controller (R424 to R439). -/
structure Mirror where
  st : MirState
  actOut : Bool
  actInForce : Bool
  raiseFor : Option Nat
  lowerFor : Option Nat
  actIn : Bool
  fallSeen : Option Nat
  view : Bool
  viewNext : Option (Nat × Bool)
  gateOpen : Bool
  hbOut : Bool
  hbIn : Bool
  hbPresent : Bool
  hbRun : Nat
  hbMiss : Nat
  withheld : Nat
  synced : Bool
  ready : Bool
  handover : Option HandoverReq
  cause : Nat
  parking : Bool
  deriving DecidableEq, Repr

/-- A manager's or worker's hierarchy state (R417, R440 to R447). -/
structure Hier where
  role : Nat
  id : Nat
  interval : Nat
  group : Nat
  scenePort : Nat
  statusPort : Nat
  manager : Nat
  pend : List (Nat × Bytes)
  seq : Nat
  resyncSeq : Nat
  lastScene : Nat
  statusSeq : Nat
  heard : Tbl Nat
  lost : Tbl Bool
  deriving DecidableEq, Repr

/-! ### Counters, trace and dump (chapter 18) -/

/-- PERF counters and the read latches of each master (R467 to R470). -/
structure Perf where
  cnt : Tbl Nat
  latch : Tbl Nat
  chained : Tbl (Nat × Nat)
  cond : List Nat
  deriving DecidableEq, Repr

/-- The trace unit (Loupe) and the post-mortem dump (R473 to R479). -/
structure Trace where
  fifo : List Bytes
  fifoLost : Nat
  bufUnit : Nat
  bufUnits : Nat
  written : Nat
  read : Nat
  lost : Nat
  lostAtRead : Nat
  stopped : Bool
  tail : List Bytes
  dumpValid : Bool
  dumpSeq : Nat
  deriving DecidableEq, Repr

/-! ### Scene model, trajectories, placement and paths (chapters 2 to 4) -/

/-- A point or direction with three integer components. -/
structure V3 where
  x : Int
  y : Int
  z : Int
  deriving DecidableEq, Repr

/-- A speaker record (R44). -/
structure Speaker where
  bus : Nat
  array : Bool
  disabled : Bool
  pos : V3
  azimuth : Int
  elevation : Int
  trimGain : Int
  segment : Nat
  trimDelay : Int
  groups : Nat
  deriving DecidableEq, Repr

/-- A triplet record (R45): three speaker indices and nine binary32 patterns. -/
structure Triplet where
  a : Nat
  b : Nat
  c : Nat
  m : List Nat
  deriving DecidableEq, Repr

/-- An array segment descriptor (R46). -/
structure Segment where
  id : Nat
  first : Nat
  count : Nat
  taper : Nat
  aperture : Nat
  deriving DecidableEq, Repr

/-- A layout (R41 to R46). -/
structure Layout where
  ref : V3
  preDelay : Int
  rRef : Nat
  rNear : Nat
  tag : Nat
  groups : List Nat
  speakers : List Speaker
  triplets : List Triplet
  segments : List Segment
  deriving DecidableEq, Repr

/-- An object metadata record (R64). -/
structure Rec where
  object : Nat
  doppler : Bool
  air : Bool
  hold : Bool
  mute : Bool
  stamp : Nat
  pos : V3
  gain : Int
  spread : Nat
  law : Nat
  filter : Nat
  priority : Nat
  k : Nat
  deriving DecidableEq, Repr

/-- The trajectory model an update leaves (R105): newest time and position (1/256 mm), velocity and acceleration in
2^-48 of 1/256 mm per sample (and per sample squared). -/
structure Traj where
  t2 : Int
  p2 : V3
  v : V3
  a : V3
  hold : Bool
  deriving DecidableEq, Repr

/-- An applied update (R109, R111): first affected quantum, convergence length, model, record and generation. -/
structure Upd where
  f : Int
  k : Nat
  traj : Traj
  md : Rec
  gen : Nat
  deriving DecidableEq, Repr

/-- One time and position the model is built from (R105). -/
structure Fix where
  t : Int
  p : V3
  deriving DecidableEq, Repr

/-- The alignment delay of an object (R90 to R93): value in use, target of a running change, its phase (0 idle, 1 accepted,
2 to 5 its quanta 1 to 4 fading out, 6 to 9 its quanta 5 to 8 fading in),
the job of the change, a request held one deep with its job, the DRAM line (unit and eighth of the unit), and the bursts of 16 samples,
numbered by sample index, whose read failed and whose samples are still to come. -/
structure Align where
  cur : Nat
  target : Nat
  phase : Nat
  job : Option Nat
  held : Option (Nat × Option Nat)
  line : Option (Nat × Nat)
  bad : List Int
  deriving DecidableEq, Repr

/-- The reset state of an alignment delay. -/
def Align.init : Align := ⟨0, 0, 0, none, none, none, []⟩

/-- An update handled since the last path setup started (R116): its record, its source, and its first affected quantum (none while it
is queued). -/
structure Since where
  md : Rec
  src : Nat
  f : Option Int
  deriving DecidableEq, Repr

/-- What is worked out ahead for a quantum inside the horizon (R103, R114): the quantum, the generation it was computed from, the predicted
position, and the buses of the speakers the law selects there. -/
structure Spec where
  q : Int
  gen : Nat
  pos : V3
  sel : List Nat
  deriving DecidableEq, Repr

/-- What the metadata engine and firmware hold for one object (R67, R105 to R116, R63). `fixes` are the last three
applied updates, newest first; `upds` the applied updates whose quanta are still ahead or converging, newest first; `prior` the model
before the newest update's (R112); `spec` the work ahead, by quantum; `since` the updates of the present interval and `relDue` whether an
OBJECT_RELEASE waits for the next setup (R116). -/
structure Obj where
  present : Bool
  mark : Option (Nat × Nat)
  newest : Option Rec
  fixes : List Fix
  upds : List Upd
  queue : List Rec
  gen : Nat
  second : Bool
  direct : List (Nat × Int)
  cur : Nat
  sticky : Nat
  absent : Bool
  converging : Bool
  waiting : Nat
  align : Align
  prior : Option Traj
  spec : List Spec
  since : List Since
  relDue : Bool
  deriving DecidableEq, Repr

/-- The reset state of an object. -/
def Obj.init : Obj := ⟨false, none, none, [], [], [], 0, false, [], 0, 0, false, false, 0, Align.init, none, [], [], false⟩

/-- A scene listener (R70). -/
structure Listener where
  enable : Bool
  ip : Nat
  port : Nat
  deriving DecidableEq, Repr

/-- A remembered scene source (R71): its newest sequence first; the list of sources is kept most recent first. -/
structure SceneSrc where
  id : Nat
  seqs : List Nat
  deriving DecidableEq, Repr

/-- The scene model's tables. Speeds of sound are in 2^-32 of 0.1 mm/s. The SCENE counters are `cnt`: 0 SCENE_EARLY,
1 BAD_MAGIC, 2 BAD_VERSION, 3 BAD_LEN, 4 BAD_SOURCE, 5 DUP, 6 FRAMES, 7 SEQ_GAP. `loadAt` says whether a LAYOUT_COMMIT waited when the
LAYOUT_LOAD whose buffer is being copied was handled (R49). -/
structure Scene where
  airT : Int
  c : Int
  cTarget : Int
  cLeft : Nat
  active : Option Layout
  staged : Option Layout
  commitWait : Bool
  loadAt : Option Bool
  objs : Tbl Obj
  listeners : Tbl Listener
  sources : List SceneSrc
  inputMap : Tbl (Nat × Nat)
  inputNew : Tbl (Nat × Nat)
  outputMap : Tbl (List (Nat × Nat))
  outputNew : Tbl (List (Nat × Nat))
  cfgNew : Option (Nat × Nat × Nat)
  cnt : Tbl Nat
  deriving DecidableEq, Repr

/-- A running delay cross-fade (R86): destination and quanta done. -/
structure Xfade where
  dest : Int
  step : Nat
  deriving DecidableEq, Repr

/-- A path (R96): identity, current and target delay (1/256 sample), gain (Q2.30) and shelf (Q0.16), shelf state
(Q2.30, as stored between quanta), linear gain with object gain and trim (fixed point), ramp fraction in quarters, whether its speaker is
selected, cross-fade state, the quantum since which a cross-fade waits for admission, DOPPLER and AIR as read by the setup, generation,
whether its ramps pause for the quantum (R24); the linear law gain and the speaker's trim gain last read, and whether an OBJECT_RELEASE
ramps it out (R107, R116). -/
structure Path where
  obj : Nat
  bus : Nat
  d0 : Int
  d1 : Int
  g0 : Int
  g1 : Int
  a0 : Nat
  a1 : Nat
  lp : Int
  lin : Int
  quarters : Nat
  selected : Bool
  xfade : Option Xfade
  waitFrom : Option Int
  doppler : Bool
  air : Bool
  clamped : Bool
  gen : Nat
  paused : Bool
  law : Int
  trim : Int
  released : Bool
  deriving DecidableEq, Repr

/-- An entering path written into a staging record (R96, R118), and the quantum it enters in. -/
structure StageRec where
  q : Int
  path : Path
  deriving DecidableEq, Repr

/-- The result of a path setup, speculative until its commit (R22, R103): quantum, paths, per-object status bits,
per-object deferred entering paths, cross-fade reads admitted, records moved, staging records in use; the lane of each bus, and the
generation in force of each object (R114, R121 to R123). -/
structure Setup where
  q : Int
  paths : List Path
  flags : Tbl Nat
  waiting : Tbl Nat
  xfades : Nat
  moves : Nat
  staged : Nat
  lanes : Tbl Nat
  gens : Tbl Nat
  deriving DecidableEq, Repr

/-- A change of half B (R98, R99): requested state, its job, and quanta run. -/
structure HalfChange where
  on : Bool
  job : Nat
  step : Nat
  deriving DecidableEq, Repr

/-- Prism and Focus: the setup in progress, the committed table with its quantum and report, half B, the lanes and their cycles, the
committed layout of the table (first record of each lane, lane of each bus), the staging records, and the count of placements. -/
structure Prism where
  setup : Option Setup
  paths : List Path
  committedQ : Nat
  commitInfo : Option Setup
  halfRecorded : Bool
  half : Bool
  halfChange : Option HalfChange
  lanes : Nat
  running : Bool
  laneCyc : Tbl Nat
  laneStart : Tbl Nat
  busLane : Tbl Nat
  staging : List StageRec
  epoch : Nat
  deriving DecidableEq, Repr

/-- What the failed reads of a quantum cover: objects late altogether, and bursts (16 entries) of an object's line that read as
zero (R93). -/
structure BulkBad where
  late : List Nat
  ecc : List (Nat × Nat)
  deriving DecidableEq, Repr

/-- Audio held between pipeline stages (R21, R23), Q1.31. Channels have keys (type × 65,536 + index) × 8 + sample with the types of
R73. `half` holds what is known of the quantum in assembly (samples 0 to 3 of ports, whole quanta of streams and test generators),
`here` the channels present in it (R74; none where no assembly ran for it); `rawIns` and `hereIns` the quantum in the object-insert stage; `facetOut` the Facet output
channels collected (index × 8 + sample); `bulkNext` the alignment reads that
fail of the quantum after the one that entered the windows last (R24, R80, R93); `rendered` the bus samples rendered (bus × 8 + sample), `busIns` those in the bus-insert stage;
`maps` the input maps of the newest quanta, newest first, each with the old sources of entries that change in it (R75). -/
structure Pipe where
  half : Tbl Int
  here : Option (List Nat)
  rawIns : Tbl Int
  hereIns : Option (List Nat)
  facetOut : Tbl Int
  rendered : Tbl Int
  busIns : Tbl Int
  maps : List (Tbl (Nat × Nat) × Tbl (Nat × Nat))
  bulkNext : BulkBad
  deriving DecidableEq, Repr

/-! ### The DRAM controller (chapter 13) -/

/-- A sweep in progress (R361 to R363): why it runs (0 boot, 1 speed change, 2 DDR_CAL), the jobs it completes, and whether
a lane has already failed once. -/
structure Sweep where
  kind : Nat
  jobs : List Nat
  retried : Bool
  deriving DecidableEq, Repr

/-- The DRAM controller: data rate, flags, the sweep and a deferred speed change with its job (R363), smallest window and
failing lane of the last sweep, shadow delays (R360), open rows by channel × 8 + bank (row + 1), row trackers (R357),
throttled ports (R358), the threshold in force, MR4 codes, requests that wait for service, the
scrubber's next burst (R351), retired units with the port that lost them (R350), and the units placed by Focus (R124). -/
structure Ddrc where
  rate : Nat
  derated : Bool
  selfRefresh : Bool
  sweep : Option Sweep
  deferred : Option (Nat × Nat)
  window : Nat
  failLane : Nat
  shadow : Tbl Nat
  openRow : Tbl Nat
  tracker : Tbl (List (Nat × Nat))
  throttled : List Nat
  threshold : Nat
  mr4 : Tbl Nat
  waiting : List DramReq
  scrub : Nat
  retired : List (Nat × Nat)
  alloc : Tbl Nat
  parkLoad : Bool
  deriving DecidableEq, Repr

/-! ### The bus matrix and the locks (chapter 12) -/

/-- Where a request of the matrix stands (R324, R331, R333): not issued because the master has no room, held back by its
tag, visible to the target's arbiter, granted and outstanding. -/
inductive XState where
  | stalled | held | visible | granted
  deriving DecidableEq, Repr

/-- A request in the matrix: the request, its target, its state, whether its one retry is running, and whether its
response will be discarded (R336). -/
structure XEntry where
  req : XReq
  target : Nat
  st : XState
  retried : Bool
  discard : Bool
  deriving DecidableEq, Repr

/-- A hardware lock (R338): owner + 1 (0 free), the last owner, and the BROKEN bit. -/
structure Lock where
  held : Bool
  owner : Nat
  broken : Bool
  deriving DecidableEq, Repr

/-- A lock at reset. -/
def Lock.init : Lock := ⟨false, 0, false⟩

/-- The matrix: requests oldest first, round-robin pointers and parks per target, masters masked by SYS beyond what power
domains imply, failed targets, failed register blocks (R329), locks. -/
structure Xbar where
  reqs : List XEntry
  ptr : Tbl Nat
  park : Tbl Nat
  resetMask : Nat
  failed : List Nat
  failedBlocks : List Nat
  locks : Tbl Lock
  deriving DecidableEq, Repr

/-! ### Facet cores and the scheduler (chapters 10 and 11) -/

/-- The registers of one task instance (R270): data registers, 72-bit accumulators, pointers PX0 to PX3 and PY0 to PY3,
modifiers in the same order, LX, LY, AMCR, SR, FSEG, loop stack (first and last program offset, count left; innermost
first), call stack, program counter, pending RPT count, the flags the last instruction wrote (as SR bits), address registers
loaded by TFRA with the stall cycles they still cost, and the cycles charged (R294). -/
structure FCtx where
  d : Tbl Nat
  a : Tbl Nat
  ptr : Tbl Nat
  md : Tbl Nat
  lx : Nat
  ly : Nat
  amcr : Nat
  sr : Nat
  fseg : Nat
  loops : List (Nat × Nat × Nat)
  calls : List Nat
  pc : Nat
  rpt : Option Nat
  flagsBy : Nat
  late : List (Nat × Nat)
  charged : Nat
  deriving DecidableEq, Repr

/-- The context of an item that has no Facet instance. -/
def FCtx.init : FCtx := ⟨[], [], [], [], 0, 0, 0, 0, 0, [], [], 0, none, 0, [], 0⟩

/-- A Facet task (R301, R302): image, settings, channel list (role, type, index), enable state and a change waiting for its
boundary, with the place an enable of a task still running takes (core and bases); placement, consecutive misses (R25), reserved slot,
whether the quantum's instance has yielded, the buses that stay at zero until the next enable (R25). -/
structure FTask where
  image : Option Bytes
  attach : Nat
  level : Nat
  mask : Nat
  flow : Option Nat
  chans : Nat
  chan : Tbl (Nat × Nat × Nat)
  enabled : Bool
  change : Option Bool
  moveTo : Option (Nat × Nat × Nat × Nat)
  core : Nat
  pBase : Nat
  xBase : Nat
  yBase : Nat
  misses : Nat
  slot : Option Nat
  armed : Bool
  yielded : Bool
  mute : List Nat
  deriving DecidableEq, Repr

/-- A task nobody set. -/
def FTask.init : FTask := ⟨none, 0, 0, 0, none, 0, [], false, none, none, 0, 0, 0, 0, 0, none, false, false, []⟩

/-- The state of a task slot (R478). -/
inductive SlotUse where
  | rtReserved | delayed | ready | resident | preempted
  deriving DecidableEq, Repr

/-- A work item in its slot (R303, R304): task (none for a firmware item), class 0 RT 1 HOST 2 EVENT, level, flow, servers,
state, server, arrival stamp, tick of becoming ready, whether it has been dispatched, whether its flow block was counted,
whether it is considered first at its level (R310), firmware argument, and its context. -/
structure Item where
  task : Option Nat
  cls : Nat
  level : Nat
  flow : Option Nat
  mask : Nat
  use : SlotUse
  server : Nat
  stamp : Nat
  tick : Nat
  dispatched : Bool
  blocked : Bool
  front : Bool
  arg : Bytes
  ctx : FCtx
  deriving DecidableEq, Repr

/-- A delay-list entry (R315): list, expiry tick, period (0 none), insertion order, and its slot. -/
structure Timer where
  list : Nat
  expiry : Nat
  period : Nat
  order : Nat
  slot : Nat
  deriving DecidableEq, Repr

/-- An entry of the spill ring (R317): task (none for a firmware item), level, flow, servers, firmware argument, and whether its burst of DRAM
has failed lastingly (R318). -/
structure Spilled where
  task : Option Nat
  level : Nat
  flow : Option Nat
  mask : Nat
  arg : Bytes
  bad : Bool
  deriving DecidableEq, Repr

/-- Observation sums of one server within a window (R321). -/
structure Obs where
  area : Nat
  deepest : Nat
  busy : Nat
  waited : Nat
  started : Nat
  deriving DecidableEq, Repr

/-- Facet tasks, the scheduler's pool, the spill ring, timers, the observation window, and the cycles charged to
RT instances in the running quantum by core; the event tick at which an EVENT slot was last freed (R307); the place in the ring of its oldest
entry, and the losses since the last EVENT_LOST record (R320). -/
structure Sched where
  tasks : Tbl FTask
  items : Tbl Item
  server : Tbl Nat
  stamp : Nat
  timers : Tbl Timer
  timerOrder : Nat
  listTick : Tbl Nat
  spill : List Spilled
  spillUnit : Nat
  spillPlaced : Bool
  lost : Nat
  lostTick : Nat
  obs : Tbl Obs
  obsTick : Nat
  obsStart : Nat
  used : Tbl Nat
  rtReleased : Bool
  freedAt : Nat
  spillAt : Nat
  lostRec : Nat
  deriving DecidableEq, Repr

/-! ### Detectors, and the output correction chain (chapter 5) -/

/-- The three detectors of R148: peak, samples it has been held, mean square and envelope (binary32 patterns). -/
structure Det where
  peak : Nat
  held : Nat
  ms : Nat
  env : Nat
  deriving DecidableEq, Repr

/-- Detectors at reset. -/
def Det.init : Det := ⟨0, 0, 0, 0⟩

/-- A detector profile (R148): peak hold ms, decay in 0.1 dB/s, RMS time ms, envelope attack and release ms. -/
structure DetProfile where
  hold : Nat
  decay : Nat
  rms : Nat
  attack : Nat
  release : Nat
  deriving DecidableEq, Repr

/-- A profile at reset. -/
def DetProfile.init : DetProfile := ⟨1000, 200, 300, 10, 300⟩

/-- A loaded coefficient bank (R150): 96 kHz flag, set tag, 80 biquad coefficients, head taps and tail taps (binary32).
A bank that was never loaded is the flat set. -/
structure LensBank where
  rate96 : Bool
  tag : Nat
  biquads : List Nat
  head : List Nat
  tail : List Nat
  deriving DecidableEq, Repr

/-- The states of a bus's banks (R142). -/
inductive FadeSt where
  | steady | waiting | fading | fadingQueued
  deriving DecidableEq, Repr

/-- A swap request (R142, R145): target bank, F, named start quantum of a timed request, command and job. -/
structure SwapReq where
  target : Nat
  f : Nat
  timed : Option Nat
  late : Bool
  hdr : Hdr
  job : Nat
  deriving DecidableEq, Repr

/-- A scheduled or running fade: start quantum S, request. -/
structure Fade where
  start : Int
  req : SwapReq
  deriving DecidableEq, Repr

/-- One bus of Lens: trim (0.01 dB), polarity, linear gain at the ramp's start and end (binary32), ramp samples in all and left;
banks, active bank, fade state, waiting, running and held requests; loading marks; granted partitions, the pending
grant changes in order (partitions, tail block of effect, job); biquad states by bank × 16 + section, FIR history newest first, the
tail block being collected, the last complete one, the FDL entries newest first (block, samples of two blocks, what its
spectrum is taken of), the tail blocks whose result will be on time with the reads that failed (bank or 0xFF, partition), the
results of the tail block being rendered (bank 0, bank 1), the first tail block that owes a result, the coefficient spectra (bank, partition) whose reads fail (R140); limiter settings and smoothed
gain (binary32); detectors and profile; sticky CLIP. -/
structure LensBus where
  trim : Int
  invert : Bool
  gain : Nat
  goal : Nat
  rampLen : Nat
  rampLeft : Nat
  bank0 : Option LensBank
  bank1 : Option LensBank
  active : Nat
  st : FadeSt
  wait : Option SwapReq
  fade : Option Fade
  held : Option SwapReq
  load0 : Bool
  load1 : Bool
  parts : Nat
  grants : List (Nat × Nat × Nat)
  bq : Tbl (Nat × Nat)
  hist : List Nat
  block : List Nat
  prev : List Nat
  fdl : List (Nat × List Nat)
  tailDue : List (Nat × List (Nat × Nat))
  tailNow : List Nat × List Nat
  dueFrom : Nat
  bad : List (Nat × Nat)
  limEn : Bool
  thr : Int
  knee : Nat
  attack : Nat
  release : Nat
  gr : Nat
  det : Det
  profile : Nat
  clip : Bool
  deriving DecidableEq, Repr

/-- A bus at reset: no trim, the flat set in both banks, bank 0 active, limiter off. -/
def LensBus.init : LensBus :=
  { trim := 0, invert := false, gain := 0x3F800000, goal := 0x3F800000, rampLen := 0, rampLeft := 0, bank0 := none, bank1 := none, active := 0
    st := .steady, wait := none, fade := none, held := none, load0 := false, load1 := false, parts := 0, grants := []
    bq := [], hist := [], block := [], prev := [], fdl := [], tailDue := [], tailNow := ([], []), dueFrom := 0, bad := [], limEn := false, thr := 0, knee := 12
    attack := 1000, release := 200, gr := 0, det := Det.init, profile := 0, clip := false }

/-- A bank load in progress (R151, R451): job, the banks left (bus, bank, image bytes), banks in all, whether it runs in PARK. -/
structure LensLoad where
  job : Nat
  left : List (Nat × Nat × Bytes)
  total : Nat
  inPark : Bool
  deriving DecidableEq, Repr

/-- Lens: buses, the wait queue in order (bus numbers), timed requests not yet due (due quantum, bus), profiles,
loads in progress, the smallest tail margin seen. -/
structure Lens where
  buses : Tbl LensBus
  queue : List Nat
  timed : List (Nat × Nat)
  profiles : Tbl DetProfile
  loads : List LensLoad
  margin : Nat
  deriving DecidableEq, Repr

/-! ### The measurement chain (chapter 6) -/

/-- A compensation bank (R161): set tag and 32 taps (binary32). -/
structure CompBank where
  tag : Nat
  taps : List Nat
  deriving DecidableEq, Repr

/-- A compensation swap (R162): target, F and job. -/
structure CompReq where
  target : Nat
  f : Nat
  job : Nat
  deriving DecidableEq, Repr

/-- One microphone channel: enabled; the current and sticky stuck bits, the sample index since which the current bit is set and the
last span in which it was (R156); CIC integrators and combs (R157); half-band histories, newest first; the tap samples of the
newest quantum received (fs, 2 fs, 4 fs) with the fs samples that are delivered as zero; fs history (binary32, newest first);
the sample index at which settling ends (R159); compensation banks, active bank and swap state (R162); detectors, profile, CLIP. -/
structure Mic where
  on : Bool
  stuck : Bool
  stuckSticky : Bool
  stuckAt : Option Nat
  wasStuck : Option (Nat × Nat)
  integ : List Int
  comb : List Int
  h1 : List Int
  h2 : List Int
  h3 : List Int
  tap1 : List Int
  tap2 : List Int
  tap4 : List Int
  quiet : List Bool
  hist : List Nat
  settleTo : Nat
  comp0 : Option CompBank
  comp1 : Option CompBank
  active : Nat
  st : FadeSt
  wait : Option CompReq
  fade : Option (Int × CompReq)
  held : Option CompReq
  load0 : Bool
  load1 : Bool
  det : Det
  profile : Nat
  clip : Bool
  deriving DecidableEq, Repr

/-- A microphone channel at reset. -/
def Mic.init : Mic :=
  { on := false, stuck := false, stuckSticky := false, stuckAt := none, wasStuck := none, integ := [0, 0, 0, 0], comb := [0, 0, 0, 0]
    h1 := [], h2 := [], h3 := [], tap1 := [], tap2 := [], tap4 := [], quiet := [], hist := [], settleTo := 0, comp0 := none
    comp1 := none, active := 0, st := .steady, wait := none, fade := none, held := none, load0 := false, load1 := false
    det := Det.init, profile := 0, clip := false }

/-- A compensation load in progress (R161, R451): job and images (channel, bank, tag, taps). -/
structure CompLoad where
  job : Nat
  images : List (Nat × Nat × CompBank)
  deriving DecidableEq, Repr

/-- Generator settings (R165 to R167). -/
structure GenSet where
  f1 : Nat
  f2 : Nat
  len : Nat
  level : Int
  fade : Nat
  reps : Nat
  pink : Bool
  noise : Int
  gap : Nat
  seed : Nat
  deriving DecidableEq, Repr

/-- The generator: settings, drive list (bus, source), start quantum while armed or running, noise state, the samples left of a
stop's fade-out, and whether the end of the sweep has been reported. -/
structure Gen where
  cfg : Option GenSet
  drive : List (Nat × Nat)
  start : Option Int
  noiseState : Nat
  pink : List Int
  stopping : Option Nat
  sweepDone : Bool
  deriving DecidableEq, Repr

/-- A capture (R170 to R174): tap, channel codes, Q, set tag, MiB, state (0 set, 1 armed or running, 2 ended), start index, frames
written, frames valid, status, cause, validity end, the frequency word at B(C), whether a stop was commanded, whether B(C) has
been reached, and by how many quanta time steps have renumbered the pipeline since. -/
structure Capture where
  tap : Nat
  codes : List Nat
  q : Nat
  tag : Nat
  mib : Nat
  st : Nat
  start : Nat
  written : Nat
  valid : Nat
  status : Nat
  cause : Nat
  validEnd : Option Nat
  word : Int
  stopping : Bool
  begun : Bool
  shift : Int
  deriving DecidableEq, Repr

/-- A test generator channel (R415): kind, frequency, level, phase counter, noise state. -/
structure TestGen where
  kind : Nat
  freq : Nat
  level : Int
  pos : Nat
  noise : Nat
  pink : List Int
  deriving DecidableEq, Repr

/-- A test generator channel at reset. -/
def TestGen.init : TestGen := ⟨0, 0, 0, 0, 0, []⟩

/-- The measurement chain: preset and mask in force, channels, compensation loads, generator, its reference samples (key: source ×
2^64 + index), capture, test generator channels and new settings. -/
structure Meas where
  preset : Nat
  mask : Nat
  mics : Tbl Mic
  loads : List CompLoad
  gen : Gen
  refs : Tbl Int
  capture : Option Capture
  testGen : Tbl TestGen
  testNew : Tbl TestGen
  deriving DecidableEq, Repr

/-! ### Serial audio ports (chapter 7) -/

/-- Non-audio detection of one slot or channel (R199, R200): whether the last word was Pa, whether it is muted, the samples passed
since the last preamble, whether a release waits for its fade, and how the quantum in assembly is delivered (0 as it is, 1 zero,
2 fading in). -/
structure NaSt where
  lastPa : Bool
  muted : Bool
  count : Nat
  fade : Bool
  how : Nat
  deriving DecidableEq, Repr

/-- Detection at reset. -/
def NaSt.init : NaSt := ⟨false, false, 0, false, 0⟩

/-- A quantum block being received or held (R191, R192): quantum, slot samples (key slot × 8 + sample index), the mask in
force at each sample received, the tick of its first frame edge, the tick at which it became ready (none while it is received). -/
structure PortBlk where
  q : Nat
  data : Tbl Int
  masks : Tbl Nat
  tick : Nat
  ready : Option Nat
  deriving DecidableEq, Repr

/-- One port: whether it runs (R197), settings in force at the frame edge (mask, TRI_INACTIVE) and the writes (tick, mask, TRI_INACTIVE) not yet in
force (R189), input blocks held (oldest first), detection per slot, the quantum whose samples 0 to 3 were assembled, the last quantum
whose output is zero after an enable, the first quantum an enabled input delivers, and the tick of its last block's first frame edge
(R191). -/
structure PortSt where
  active : Bool
  mask : Nat
  tri : Bool
  pend : List (Nat × Nat × Bool)
  blocks : List PortBlk
  na : Tbl NaSt
  half : Option Nat
  zeroOut : Option Nat
  first : Nat
  ts : Nat
  deriving DecidableEq, Repr

/-- A port at reset (R187). -/
def PortSt.init : PortSt := ⟨false, 0x00FF, false, [], [], [], none, none, 0, 0⟩

/-- One clock group: tick of the last frame edge, sample index of the frame that began at it (none while frames belong to no
block), lost and drifting (R186, R195), drift D, phase φ (R185), a re-alignment due at the next boundary (its PORT_ALERT kind, 0 none),
the boundary from whose instant blocks are formed afresh, whether the next frame edge re-derives the index (R202), the muted quantum; for a
master group the ticks by which its divider lags the grid (R183, R184) and whether SYNC_IN has reloaded it in a tick; the output block being
driven with the frame of it (R193) and the tick of its first frame edge. -/
structure GrpSt where
  edge : Option Nat
  index : Option Nat
  lost : Bool
  drift : Bool
  d : Int
  phase : Nat
  due : Option Nat
  freshAt : Option Nat
  rederive : Bool
  muteQ : Option Nat
  ph : Nat
  loaded : Option Nat
  pos : Option (Nat × Nat)
  blockAt : Nat
  deriving DecidableEq, Repr

/-- A group at reset. -/
def GrpSt.init : GrpSt := ⟨none, none, false, false, 0, 0, none, none, false, none, 0, none, none, 0⟩

/-- The ports: port and group states, the output samples of the quantum being driven and of the one before (key channel × 8 + sample) with
its quantum, the output ports without a block for a quantum (R193), what the data pins drive now by port × 16 + slot (none: not driven) and what they
drove in the frame before, the ticks by which the PDM divider lags its grid (R174, R202), whether SYNC_IN
has moved a group since SYNC_MOVED was counted, whether the master dividers are to be restored at the next boundary (R184), and the bank supplies sensed (true 3.3 V). -/
structure Ports where
  port : Tbl PortSt
  grp : Tbl GrpSt
  outQ : Nat
  out : Tbl Int
  outPrev : Tbl Int
  outLate : List (Nat × Nat)
  pins : Tbl (Option Int)
  last : Tbl (Option Int)
  pdmPh : Nat
  syncMoved : Bool
  rephase : Bool
  bankA33 : Bool
  bankB33 : Bool
  bankC33 : Bool
  bankD33 : Bool
  deriving DecidableEq, Repr

/-! ### Ethernet ports and media streams (chapter 8) -/

/-- What the Mirror gate means for a queued frame (R238, R428): nothing, or it is transmitted only while the gate is open: a media packet
(counted STR_GATED when withheld) or a scene frame of a manager. -/
inductive Gated where
  | no | media | scene
  deriving DecidableEq, Repr

/-- A frame queued for transmission (R213): its bytes without FCS (none for a ring frame whose bytes are read from its buffer when it is
chosen), for a forwarded frame its reception timestamp (2^-16 ns), for a ring frame its ring and descriptor, and whether it is gated. -/
structure TxFrame where
  data : Bytes
  rxStamp : Option Int
  ring : Option (Nat × Nat)
  gate : Gated
  deriving DecidableEq, Repr

/-- One Ethernet port: block lock, retraining and failed link (R210), address, the three transmit queues and the frame that waits in
the transmit FIFO behind the one on the wire (R213), receive rings (HEAD, FREE), transmit heads, ring frames that have started
(ring, descriptor, transmit timestamp; none for one dropped while the link was down) and are not yet written back, host filter entries (kind,
ring, value), the frame whose transmission started last, as it left, the forwarded frames that left this port's receive buffer (core cycle,
bytes) since the last frame began to arrive (R212), and the frames of NET_HOST_TX that wait for a descriptor of ring 1 (R414). -/
structure MacSt where
  linkUp : Bool
  retraining : Bool
  failed : Bool
  ip : Nat
  prefixLen : Nat
  q0 : List TxFrame
  q1 : List TxFrame
  q2 : List TxFrame
  next : Option TxFrame
  head : Tbl Nat
  free : Tbl Nat
  txHead : Tbl Nat
  started : List (Nat × Nat × Option Int)
  filters : List (Nat × Nat × Nat)
  sent : Bytes
  left : List (Nat × Nat)
  hostTx : List Bytes
  deriving DecidableEq, Repr

/-- A port at reset. -/
def MacSt.init : MacSt := ⟨false, false, false, 0, 0, [], [], [], none, [], [], [], [], [], [], [], []⟩

/-- One leg of a context (R226, R234): destination, source, UDP ports; whether it is up, the newest sequence number, quanta
without a packet, and the Ethernet address a unicast destination resolved to. -/
structure Leg where
  dst : Nat
  src : Nat
  dport : Nat
  sport : Nat
  up : Bool
  seq : Option Nat
  idle : Nat
  arp : Nat
  deriving DecidableEq, Repr

/-- A leg at reset. -/
def Leg.init : Leg := ⟨0, 0, 0, 0, false, none, 0, 0⟩

/-- A stream context (R226): settings, legs; enabled and running (R240); the sample indices with a written mark (R233); the DRAM
place of its jitter buffer (unit, KiB within it; R235); non-audio states; for an output context the first sample index of the next
packet; the samples (channel, index) of the jitter buffer whose burst has failed lastingly (R349). -/
structure StreamCtx where
  isSet : Bool
  output : Bool
  chans : Nat
  format : Nat
  ptime : Nat
  paired : Bool
  legAOn : Bool
  legBOn : Bool
  link : Nat
  offset : Nat
  ssrc : Nat
  ptype : Nat
  dscp : Nat
  ttl : Nat
  vlan : Nat
  seq0 : Nat
  legA : Leg
  legB : Leg
  enabled : Bool
  running : Bool
  marks : List Int
  lost : List (Nat × Int)
  place : Option (Nat × Nat)
  na : Tbl NaSt
  nextP : Nat
  deriving DecidableEq, Repr

/-- A context nobody set. -/
def StreamCtx.init : StreamCtx :=
  { isSet := false, output := false, chans := 0, format := 0, ptime := 0, paired := false, legAOn := false, legBOn := false
    link := 0, offset := 0, ssrc := 0, ptype := 0, dscp := 0, ttl := 0, vlan := 0, seq0 := 0, legA := Leg.init
    legB := Leg.init, enabled := false, running := false, marks := [], lost := [], place := none, na := [], nextP := 0 }

/-- A STREAM_ENABLE that waits for ARP answers (R240): the command, its payload, and the legs (context, leg, address) that wait. -/
structure ArpWait where
  hdr : Hdr
  payload : Bytes
  need : List (Nat × Nat × Nat)
  deriving DecidableEq, Repr

/-- A clock heard in Announce messages (R247): its port identity, the port it is heard on, its data set (priority1, class, accuracy,
variance, priority2, grandmaster, steps removed), the event tick of its last message, and whether two came close enough to qualify it. -/
structure Foreign where
  src : Nat
  port : Nat
  data : List Nat
  last : Nat
  qualified : Bool
  deriving DecidableEq, Repr

/-- A peer delay measurement of a port (R215, R247): the sequence of the last request, its transmission time, a two-step answer that waits
for its follow-up (request receipt time, correction, arrival, sender), and the delay measured; times in 2^-16 ns. -/
structure PeerDelay where
  seq : Nat
  sent : Option Int
  resp : Option (Int × Int × Int × Nat)
  delay : Option Int
  deriving DecidableEq, Repr

/-- The PTP engine of firmware (R247, R249): since when it listens; the clocks heard; the master followed; whether this clock is the master;
a two-step Sync that waits for its Follow_Up (sequence, arrival, correction); the last difference measured from the master; a
Delay_Req that waits (sequence, transmission time); the end-to-end delay; the peer delays; peer requests whose answer is on its way
(port, sequence, requester, correction); ports whose last message came over Layer 2; sequence counters; and when messages are due
(0 Announce, 1 Sync, 2 Delay_Req, 3 Pdelay_Req), in event ticks. -/
structure Ptp where
  since : Nat
  heard : List Foreign
  parent : Option (Nat × Nat)
  leads : Bool
  sync : Option (Nat × Int × Int)
  diff : Option Int
  req : Option (Nat × Option Int)
  delay : Option Int
  peer : Tbl PeerDelay
  answers : List (Nat × Nat × Nat × Int)
  layer2 : Tbl Bool
  seqs : Tbl Nat
  due : Tbl Nat
  deriving DecidableEq, Repr

/-- The network: both ports, contexts, output samples waiting for their packets (key (context × 64 + channel) × 2^48 + index),
a STREAM_ENABLE waiting for ARP, and the PTP engine. -/
structure Net where
  mac : Tbl MacSt
  ctx : Tbl StreamCtx
  outSmp : Tbl Int
  arpWait : Option ArpWait
  ptp : Ptp
  deriving DecidableEq, Repr


/-! ### The whole state -/

/-- The state of the block. -/
structure State where
  pending : List Instr
  sys : Sys
  sec : Sec
  time : TimeSt
  mbx : Mbx
  host : HostIf
  mir : Mirror
  hier : Hier
  perf : Perf
  trace : Trace
  scene : Scene
  prism : Prism
  ddrc : Ddrc
  xbar : Xbar
  sched : Sched
  lens : Lens
  meas : Meas
  ports : Ports
  net : Net
  pipe : Pipe
  regs : Tbl Word
  mem : List Host.Cell
  hostMem : List Host.Cell
  flash : List Host.Cell
  freeCnt : Nat
  rdata : Bytes
  rstat : Nat
  deriving DecidableEq, Repr

/-! ### Reset -/

/-- SYS while PORST_N is low. The straps are not sampled yet and are held low; 4 GiB and the MK9610-IE are choices the log names. -/
def Sys.reset : Sys :=
  { mode := .boot, modeReq := none, orderIL := false, dram8 := false, straps := ⟨false, false, false, false, false, false⟩, pwr := 7
    phase := .porst, resetAt := none, sysResetDue := none, muted := true, imageEntered := false, fwRunning := false
    hostBootWait := false, bootErr := 0, bootSlot := 0, bootTry := none, imgVersion := 0, imgSecVersion := 0, trialFailed := false
    trialRunning := false, wdtRunning := false, wdtTick := 0, autoTicks := [], safeTick := 0, fatal := none, romInSafe := false
    enginesStop := false, sweepPassed := false, netUp := false, dumpPlaced := false, thermWarn := false }

/-- OTP and firmware update: no key, floor 0, debug OPEN and locked until boot, unique ID 0, flash fitted (the log names them). -/
def Sec.reset : Sec :=
  { keyHash := [], keyRevoked := [], floor := 0, debugState := 0, unlocked := false, uniqueId := 0, nonce := none, unlockFails := 0
    staging := none, stagings := 0, chunks := [], raiseFloor := false, flashFitted := true }

/-- TIME and CLK: the tick comes from REFCLK_IN (SYS_STATUS), 48 kHz, the servo ACQUIRING, PTP settings of the AES67 profile. -/
def TimeSt.reset : TimeSt :=
  { tick := 0, eventTick := 0, jumps := [], rate96 := false, lastQ := 0, objInsert := false, busInsert := false, stepQuantum := false
    servo := .acquiring, lockRun := 0, badRun := 0, integral := 0, target := 0, word := 0, dfilt := none, lastOffset := 0
    refused := none, step := none, syncRun := 0, syncLocked := false, ptpPort := none, gmId := 0, refclkOk := false, rootLock := false
    ddrLock := false, sdLock := false, pcieLock := false, lockRunWin := 0, expectWord := 0, tickSrc := 1, relock := none, lossAt := none
    ddrRelock := false, tickBack := false, syncOut := false, syncDue := false, syncOutTicks := 0, ptpProfile := 0, ptpDomain := 0
    ptpDelayMech := 0, ptpRole := 0, ptpIntervals := [0, 0, 0], ptpPrio := [128, 128], ptpMask := 0, capQ := [], capLost := []
    capLevel := [] }

/-- The mailbox: every slot IDLE, nothing queued, held or claimed. -/
def Mbx.reset : Mbx :=
  { slots := [], rung := [], queue := [], held := [], bulk := [], jobs := [], nextJob := 0, evSeq := 0, lostBefore := false, evMask := []
    lastEvents := [], claims := [] }

/-- The host interface: link down. -/
def HostIf.reset : HostIf :=
  { linkUp := false, speed := 0, width := 0, perstN := true, msix := [], pba := 0, vectors := [], regionUnit := 0, regionUnits := 0
    jtagIr := 0, jtagOut := 0 }

/-- Mirror disabled, ACT low, the partner reads as not active (R424). -/
def Mirror.reset : Mirror :=
  { st := .off, actOut := false, actInForce := false, raiseFor := none, lowerFor := none, actIn := false, fallSeen := none
    view := false, viewNext := none, gateOpen := false, hbOut := false, hbIn := false
    hbPresent := false, hbRun := 0, hbMiss := 0, withheld := 0, synced := false, ready := false, handover := none
    cause := 0, parking := false }

/-- Role none (R440). -/
def Hier.reset : Hier :=
  { role := 0, id := 0, interval := 0, group := 0, scenePort := 0, statusPort := 0, manager := 0, pend := [], seq := 0, resyncSeq := 0
    lastScene := 0, statusSeq := 0, heard := [], lost := [] }

/-- Every counter at 0. -/
def Perf.reset : Perf := ⟨[], [], [], []⟩

/-- Loupe empty, no dump (R456, R479). -/
def Trace.reset : Trace :=
  { fifo := [], fifoLost := 0, bufUnit := 0, bufUnits := 0, written := 0, read := 0, lost := 0, lostAtRead := 0, stopped := false
    tail := [], dumpValid := false, dumpSeq := 0 }

/-- The scene: 20.0 °C (R39), both layout slots empty (R49), no object, listener or map entry. -/
def Scene.reset : Scene :=
  { airT := 200, c := 3434200 * 2 ^ 32, cTarget := 3434200 * 2 ^ 32, cLeft := 0, active := none, staged := none, commitWait := false, loadAt := none
    objs := [], listeners := [], sources := [], inputMap := [], inputNew := [], outputMap := [], outputNew := [], cfgNew := none
    cnt := [] }

/-- Prism without a path; the recorded state of half B is on (R100). -/
def Prism.reset : Prism :=
  { setup := none, paths := [], committedQ := 0, commitInfo := none, halfRecorded := true, half := false, halfChange := none, lanes := 0
    running := false, laneCyc := [], laneStart := [], busLane := [], staging := [], epoch := 0 }

/-- No audio in the pipeline. -/
def Pipe.reset : Pipe := ⟨[], none, [], none, [], [], [], [], ⟨[], []⟩⟩

/-- The DRAM controller before its first sweep: 4,266 MT/s (R346), nothing retired or placed. -/
def Ddrc.reset : Ddrc :=
  { rate := 0, derated := false, selfRefresh := false, sweep := none, deferred := none, window := 0, failLane := 0xFF, shadow := []
    openRow := [], tracker := [], throttled := [], threshold := 16384, mr4 := []
    waiting := [], scrub := 0, retired := [], alloc := [], parkLoad := false }

/-- The matrix: every target parked on master 0 (R326), every master in reset but the control processor (XBAR_MASK), locks free. -/
def Xbar.reset : Xbar :=
  { reqs := [], ptr := [], park := [], resetMask := 0xFFFE, failed := [], failedBlocks := [], locks := [] }

/-- No task, no item, no timer. -/
def Sched.reset : Sched :=
  { tasks := [], items := [], server := [], stamp := 0, timers := [], timerOrder := 0, listTick := [], spill := [], spillUnit := 0
    spillPlaced := false, lost := 0, lostTick := 0, obs := [], obsTick := 0, obsStart := 0, used := [], rtReleased := false, freedAt := 0, spillAt := 0, lostRec := 0 }

/-- Every bus at its reset settings; LENS_TAIL_MARGIN at 63. -/
def Lens.reset : Lens := ⟨[], [], [], [], [], 63⟩

/-- The measurement chain off, preset 1 (DECIM_CTRL). -/
def Meas.reset : Meas :=
  { preset := 1, mask := 0, mics := [], loads := [], gen := ⟨none, [], none, 0, [], none, false⟩, refs := [], capture := none
    testGen := [], testNew := [] }

/-- The ports off; the bank supplies are sensed when PORST_N is released (R179, R485). -/
def Ports.reset : Ports :=
  { port := [], grp := [], outQ := 0, out := [], outPrev := [], outLate := [], pins := [], last := [], pdmPh := 0, syncMoved := false, rephase := false
    bankA33 := false, bankB33 := false, bankC33 := false, bankD33 := false }

/-- The PTP engine before it has heard anything. -/
def Ptp.reset : Ptp :=
  { since := 0, heard := [], parent := none, leads := false, sync := none, diff := none, req := none, delay := none, peer := [], answers := []
    layer2 := [], seqs := [], due := [] }

/-- The network at reset. -/
def Net.reset : Net := ⟨[], [], [], none, Ptp.reset⟩

/-- The machine right after power-on reset, PORST_N still low (R456): every domain in reset, every register at its reset value, no
memory contents, no command waiting. -/
def State.reset : State :=
  { pending := [], sys := Sys.reset, sec := Sec.reset, time := TimeSt.reset, mbx := Mbx.reset, host := HostIf.reset, mir := Mirror.reset
    hier := Hier.reset, perf := Perf.reset, trace := Trace.reset, scene := Scene.reset, prism := Prism.reset, ddrc := Ddrc.reset
    xbar := Xbar.reset, sched := Sched.reset, lens := Lens.reset, meas := Meas.reset, ports := Ports.reset, net := Net.reset
    pipe := Pipe.reset, regs := [], mem := [], hostMem := [], flash := [], freeCnt := 0, rdata := [], rstat := 0 }

end Sys2Proof.Machine
end

