-- ==== Sys2Proof/Machine/Table.lean ====
section
/-! DEFINITION. The sparse tables in which the model keeps everything indexed: reading and writing one entry, with the
value that an unlisted key reads as given at each use. Writing that value removes the entry, so equal tables are equal
lists. Memory is such a table of bytes. -/

namespace Sys2Proof.Machine

/-- The entry of key k; d when it is not listed. -/
def tget {α : Type} (d : α) : Tbl α → Nat → α
  | [], _ => d
  | (i, v) :: t, k => if i = k then v else tget d t k

/-- The table without key k. -/
def tdel {α : Type} : Tbl α → Nat → Tbl α
  | [], _ => []
  | (i, v) :: t, k => if i = k then tdel t k else (i, v) :: tdel t k

/-- The table with key k put at its place in the order of keys. -/
def tput {α : Type} : Tbl α → Nat → α → Tbl α
  | [], k, v => [(k, v)]
  | (i, w) :: t, k, v =>
    if k < i then (k, v) :: (i, w) :: t
    else if i = k then (k, v) :: t
    else (i, w) :: tput t k v

/-- The table with entry k set to v, where d is what an unlisted key k reads as. -/
def tset {α : Type} [DecidableEq α] (d : α) (t : Tbl α) (k : Nat) (v : α) : Tbl α :=
  if v = d then tdel t k else tput t k v

/-- The table with entry k changed by f. -/
def tmod {α : Type} [DecidableEq α] (d : α) (t : Tbl α) (k : Nat) (f : α → α) : Tbl α :=
  tset d t k (f (tget d t k))

/-- The canonical form: keys strictly rising, and no entry equal to what its key reads as when unlisted. -/
abbrev tblWf {α : Type} (dflt : Nat → α) (t : Tbl α) : Prop :=
  t.Pairwise (fun a b => a.1 < b.1) ∧ ∀ e ∈ t, e.2 ≠ dflt e.1

/-- The byte at an address of a memory: an unlisted byte reads as zero (the model's choice, notes/assumptions/2). -/
def mget (m : List (Nat × Byte)) (a : Nat) : Byte := tget 0 m a

/-- A memory with one byte written. -/
def mset (m : List (Nat × Byte)) (a : Nat) (b : Byte) : List (Nat × Byte) := tset 0 m a b

/-- The n bytes of a memory from address a. -/
def mread (m : List (Nat × Byte)) (a : Nat) : Nat → Bytes
  | 0 => []
  | n + 1 => mget m a :: mread m (a + 1) n

/-- A memory with a byte string written from address a. -/
def mwrite (m : List (Nat × Byte)) (a : Nat) : Bytes → List (Nat × Byte)
  | [] => m
  | b :: bs => mwrite (mset m a b) (a + 1) bs

/-- A memory with the n bytes from address a cleared (to what unlisted bytes read as). -/
def mclear (m : List (Nat × Byte)) (a n : Nat) : List (Nat × Byte) :=
  m.filter (fun c => decide (c.1 < a ∨ a + n ≤ c.1))

/-- A memory whose n bytes from address b are those that another memory has from address a. -/
def mmove (m old : List (Nat × Byte)) (a b n : Nat) : List (Nat × Byte) :=
  (old.filter (fun c => decide (a ≤ c.1 ∧ c.1 < a + n))).foldl (fun t c => mset t (c.1 - a + b) c.2) (mclear m b n)

/-- The canonical form of a memory. -/
abbrev memWf (m : List (Nat × Byte)) : Prop := tblWf (fun _ => (0 : Byte)) m

end Sys2Proof.Machine
end

