-- ==== Sys2Proof/Machine/Ops.lean ====
section
/-! DEFINITION. The operations every meaning is made of: registers, counters, interrupt bits, free values, time, trace
records, events, host buffers, resource claims and the completion of accepted work. -/

namespace Sys2Proof.Machine

/-! ### Changing one part of the state -/

/-- The state with SYS and the resets changed. -/
def State.onSys (s : State) (f : Sys → Sys) : State := { s with sys := f s.sys }

/-- The state with OTP, debug and firmware update changed. -/
def State.onSec (s : State) (f : Sec → Sec) : State := { s with sec := f s.sec }

/-- The state with time and clocks changed. -/
def State.onTime (s : State) (f : TimeSt → TimeSt) : State := { s with time := f s.time }

/-- The state with the mailbox changed. -/
def State.onMbx (s : State) (f : Mbx → Mbx) : State := { s with mbx := f s.mbx }

/-- The state with the host interface changed. -/
def State.onHost (s : State) (f : HostIf → HostIf) : State := { s with host := f s.host }

/-- The state with the redundancy controller changed. -/
def State.onMir (s : State) (f : Mirror → Mirror) : State := { s with mir := f s.mir }

/-- The state with the hierarchy changed. -/
def State.onHier (s : State) (f : Hier → Hier) : State := { s with hier := f s.hier }

/-- The state with the performance counters changed. -/
def State.onPerf (s : State) (f : Perf → Perf) : State := { s with perf := f s.perf }

/-- The state with the trace unit changed. -/
def State.onTrace (s : State) (f : Trace → Trace) : State := { s with trace := f s.trace }

/-- The state with the scene model changed. -/
def State.onScene (s : State) (f : Scene → Scene) : State := { s with scene := f s.scene }

/-- The state with Prism and Focus changed. -/
def State.onPrism (s : State) (f : Prism → Prism) : State := { s with prism := f s.prism }

/-- The state with the pipeline changed. -/
def State.onPipe (s : State) (f : Pipe → Pipe) : State := { s with pipe := f s.pipe }

/-- The state with the DRAM controller changed. -/
def State.onDdrc (s : State) (f : Ddrc → Ddrc) : State := { s with ddrc := f s.ddrc }

/-- The state with the bus matrix changed. -/
def State.onXbar (s : State) (f : Xbar → Xbar) : State := { s with xbar := f s.xbar }

/-- The state with the scheduler changed. -/
def State.onSched (s : State) (f : Sched → Sched) : State := { s with sched := f s.sched }

/-- The state with Lens changed. -/
def State.onLens (s : State) (f : Lens → Lens) : State := { s with lens := f s.lens }

/-- The state with the measurement chain changed. -/
def State.onMeas (s : State) (f : Meas → Meas) : State := { s with meas := f s.meas }

/-- The state with the serial ports changed. -/
def State.onPorts (s : State) (f : Ports → Ports) : State := { s with ports := f s.ports }

/-- The state with the network changed. -/
def State.onNet (s : State) (f : Net → Net) : State := { s with net := f s.net }

/-- The state with its memory replaced. -/
def State.withMem (s : State) (m : List Host.Cell) : State := { s with mem := m }

/-- The state with the host's memory replaced. -/
def State.withHostMem (s : State) (m : List Host.Cell) : State := { s with hostMem := m }

/-- The state with the boot flash replaced. -/
def State.withFlash (s : State) (m : List Host.Cell) : State := { s with flash := m }

/-- The state with its register table replaced. -/
def State.withRegs (s : State) (t : Tbl Word) : State := { s with regs := t }

/-- The state with the data of the last access replaced. -/
def State.withRdata (s : State) (d : Bytes) : State := { s with rdata := d }

/-- The state with the outcome of the last access replaced. -/
def State.withRstat (s : State) (n : Nat) : State := { s with rstat := n }

/-! ### Registers -/

/-- The natural mode of PERF counter n (R472): level for the conditions of the catalogue. -/
def perfCondition (n : Nat) : Bool :=
  n == 14 || n == 16 || n == 17 || n == 54 || (decide (64 ≤ n ∧ n ≤ 79)) || n == 120 || n == 126

/-- The target latencies of R352 at reset. -/
def ddrTargets : List Nat := [8000, 8000, 2000, 2000, 1000, 1600, 4000, 4000]

/-- What a register reads as when nothing has written it since reset: its reset value, with the values the spec gives by
index for PORT_CFG, DDRC_PORT_TARGET and PERF_CFG. -/
def regReset (a : Nat) : Word :=
  if Reg.PORT_CFG 0 ≤ a ∧ a < Reg.PORT_CFG 64 ∧ (a - Reg.PORT_CFG 0) % 16 = 0 then
    BitVec.ofNat 32 (0x4000000 + 16 * ((a - Reg.PORT_CFG 0) / 16))
  else if Reg.DDRC_PORT_TARGET 0 ≤ a ∧ a < Reg.DDRC_PORT_TARGET 8 ∧ (a - Reg.DDRC_PORT_TARGET 0) % 16 = 0 then
    BitVec.ofNat 32 (ddrTargets.getD ((a - Reg.DDRC_PORT_TARGET 0) / 16) 0)
  else if Reg.PERF_CFG 0 ≤ a ∧ a < Reg.PERF_CFG 128 then
    BitVec.ofNat 32 (b2n (perfCondition ((a - Reg.PERF_CFG 0) / 4)))
  else BitVec.ofNat 32 (((regDef? a).map (·.reset)).getD 0)

/-- The stored value of the register at an address. -/
@[irreducible] def State.rd (s : State) (a : Nat) : Nat := (tget (regReset a) s.regs a).toNat

/-- The state with the register at an address holding v (taken to 32 bits). -/
@[irreducible] def State.wr (s : State) (a v : Nat) : State :=
  s.withRegs (tset (regReset a) s.regs a (BitVec.ofNat 32 v))

/-- Bits hi:lo of a register. -/
def State.fld (s : State) (a hi lo : Nat) : Nat := bitsOf (s.rd a) hi lo

/-- Bit k of a register. -/
def State.bit (s : State) (a k : Nat) : Bool := bitOf (s.rd a) k

/-- The state with bits hi:lo of a register set to v. -/
def State.setFld (s : State) (a hi lo v : Nat) : State := s.wr a (withBits (s.rd a) hi lo v)

/-- The state with a wrapping counter register advanced by n. -/
def State.bump (s : State) (a : Nat) (n : Nat := 1) : State := if n = 0 then s else s.wr a (s.rd a + n)

/-- The state with bit k of an interrupt or status register set. -/
def State.raise (s : State) (a k : Nat) : State := s.setFld a k k 1

/-! ### Free values -/

/-- The state after one free value has been taken; the value is Config.freeX applied to freeCnt before. -/
def State.fresh (s : State) : State := { s with freeCnt := s.freeCnt + 1 }

/-- The state after n free values have been taken. -/
def State.freshBy (s : State) (n : Nat) : State := { s with freeCnt := s.freeCnt + n }

/-! ### Time -/

/-- Event ticks per sample (R16). -/
def TimeSt.tps (t : TimeSt) : Nat := if t.rate96 then 256 else 512

/-- Event ticks per quantum (R17). -/
def TimeSt.tq (t : TimeSt) : Nat := 8 * t.tps

/-- The media rate in Hz. -/
def TimeSt.fs (t : TimeSt) : Nat := if t.rate96 then 96000 else 48000

/-- The media sample index (R243). -/
def TimeSt.sample (t : TimeSt) : Nat := t.tick / t.tps

/-- The quantum index (R19). -/
def TimeSt.quantum (t : TimeSt) : Nat := t.tick / t.tq

/-- System time of a tick count in 2^-32 ns (R242): three ticks are exactly 122.0703125 ns. -/
def nsFrac (tick : Nat) : Nat := tick * 15625 * 2 ^ 32 / 384

/-- System time of a tick count: seconds. -/
def secOf (tick : Nat) : Nat := nsFrac tick / (10 ^ 9 * 2 ^ 32)

/-- System time of a tick count: nanoseconds of the second. -/
def nsOf (tick : Nat) : Nat := nsFrac tick / 2 ^ 32 % 10 ^ 9

/-- System time of a tick count: fraction of a nanosecond in 2^-32. -/
def fracOf (tick : Nat) : Nat := nsFrac tick % 2 ^ 32

/-- Buses at the rate in force (R7). -/
def State.busCount (s : State) : Nat := if s.time.rate96 then 512 else 1024

/-- Whether the tick is locked to media samples (R32). -/
def State.tickLocked (s : State) : Bool := s.time.tickSrc == 0

/-- TIME_LOCKED (R254). -/
def State.timeLocked (s : State) : Bool := s.time.servo == .locked

/-! ### Performance counters -/

/-- Adds n occurrences to PERF counter i, wrapping at 48 bits and carrying into a chained neighbour (R467, R469). -/
@[irreducible] def State.perfRaw (s : State) (i n : Nat) : State :=
  let v := tget 0 s.perf.cnt i + n
  let s1 := s.onPerf (fun x => { x with cnt := tset 0 s.perf.cnt i (v % 2 ^ 48) })
  if v / 2 ^ 48 ≠ 0 ∧ i % 2 = 0 ∧ s.bit (Reg.PERF_CFG (i + 1)) 1 then
    s1.onPerf (fun x => { x with cnt := tset 0 s1.perf.cnt (i + 1) ((tget 0 s1.perf.cnt (i + 1) + v / 2 ^ 48) % 2 ^ 48) })
  else s1

/-- n occurrences of the event of PERF counter i in one step (R468). A chained odd counter ignores its own event (R469).
In level mode the counter adds 1 for each cycle with an occurrence; how the occurrences of a step fall into cycles is open. -/
@[irreducible] def State.perfAdd (s : State) (i : Nat) (n : Nat := 1) : State :=
  if n = 0 then s
  else if i % 2 = 1 ∧ s.bit (Reg.PERF_CFG i) 1 then s
  else if s.bit (Reg.PERF_CFG i) 0 ∧ 1 < n then (s.perfRaw i (1 + Config.freeNat s.freeCnt % n)).fresh
  else s.perfRaw i n

/-! ### Trace (R473 to R476) -/

/-- The first address of DRAM unit u of 2 MiB (R124, R516). -/
def unitAddr (u : Nat) : Nat := 0x100000000 + u * 0x200000

/-- The records a trace buffer of the set size holds (R474). -/
def State.traceCap (s : State) : Nat := s.fld Reg.TRACE_SIZE 6 0 * 65536

/-- Appends a record to the tail ring of the newest 4,096 (R476). -/
def State.tailPut (s : State) (r : Bytes) : State :=
  s.onTrace (fun x => { x with tail := (s.trace.tail ++ [r]).drop (s.trace.tail.length + 1 - 4096) })

/-- One record lost (R474). -/
def State.traceLose (s : State) : State :=
  (s.onTrace (fun x => { x with lost := s.trace.lost + 1, fifoLost := s.trace.fifoLost + 1 })).raise Reg.TRACE_INT_STATUS 0
    |>.perfAdd 95

/-- Stores a record in the placed buffer, in mode 0 or 1 (R474); a mode 0 buffer that fills sets STOPPED. -/
def State.bufStore (s : State) (r : Bytes) : State :=
  let cap := s.traceCap
  if !s.bit Reg.TRACE_CTRL 2 && decide (s.trace.read + cap ≤ s.trace.written) then s.traceLose
  else
    let a := unitAddr s.trace.bufUnit + 16 * (s.trace.written % cap)
    let s1 := (s.withMem (mwrite s.mem a r)).onTrace (fun x => { x with written := x.written + 1 })
    let s2 := s1.perfAdd 94
    if !s.bit Reg.TRACE_CTRL 2 && decide (s.trace.read + cap ≤ s2.trace.written) then
      (s2.onTrace (fun x => { x with stopped := true })).raise Reg.TRACE_INT_STATUS 1
    else s2

/-- Writes a new record to the placed buffer and, when there is room, to the tail ring. -/
def State.bufPut (s : State) (r : Bytes) : State :=
  if !s.bit Reg.TRACE_CTRL 2 && decide (s.trace.read + s.traceCap ≤ s.trace.written) then s.traceLose
  else (s.tailPut r).bufStore r

/-- A record into the FIFO, or past it into the buffer when one is placed; a record without room is lost (R474). -/
def State.fifoPut (s : State) (r : Bytes) : State :=
  if s.trace.bufUnits ≠ 0 ∧ s.trace.fifo = [] then s.bufPut r
  else if s.trace.fifo.length < 512 then
    (s.onTrace (fun x => { x with fifo := s.trace.fifo ++ [r] })).tailPut r
  else s.traceLose

/-- The 16 bytes of a trace record (R473). The core cycle within the tick is an open value, 0 to 49. -/
def State.traceBytes (s : State) (kind : Nat) (body : Bytes) : Bytes :=
  le32 s.time.tick ++ le8 (Config.freeNat s.freeCnt % 50) ++ le8 kind ++ fitBytes 10 body

/-- Whether records of a source bit are recorded (R473, R474). -/
def State.tracing (s : State) (src : Nat) : Bool := s.bit Reg.TRACE_CTRL 0 && s.bit Reg.TRACE_SRC src

/-- One trace record of a source (R473). A record that reports lost records goes first when there is room again (R474).
Fault records (kind 0x60) reach the tail ring even when they are not traced (R476). -/
@[irreducible] def State.traceRec (s : State) (src kind : Nat) (body : Bytes) : State :=
  let r := s.traceBytes kind body
  let s := s.fresh
  if s.tracing src then
    let room := if s.trace.bufUnits ≠ 0 then s.bit Reg.TRACE_CTRL 2 || decide (s.trace.written < s.trace.read + s.traceCap)
      else decide (s.trace.fifo.length < 511)
    let s := if s.trace.fifoLost ≠ 0 ∧ room then
        (s.onTrace (fun x => { x with fifoLost := 0 })).fifoPut
          (s.traceBytes 0xFF (zeros 2 ++ le32 s.trace.fifoLost))
      else s
    s.fifoPut r
  else if kind = 0x60 then s.tailPut r else s

/-! ### Interrupts to the host and events (R384, R393, R394) -/

/-- The mask bit of an MSI-X table entry: entries are masked at reset (PRESUMED, the PCIe Base Specification). -/
def State.msixMasked (s : State) (v : Nat) : Bool := bitOf (tget 1 s.host.msix (4 * v + 3)) 0

/-- Signals MSI-X vector v under PCIe when its bit of MBX_INT_EN is set: a message when its entry is unmasked, otherwise
its pending bit (R384). -/
@[irreducible] def State.signal (s : State) (v : Nat) : State :=
  if s.bit Reg.MBX_INT_EN v && !s.sys.straps.hostIf && s.host.linkUp then
    if s.msixMasked v then s.onHost (fun x => { x with pba := s.host.pba ||| 2 ^ v })
    else s.onHost (fun x => { x with vectors := tmod 0 s.host.vectors v (· + 1) })
  else s

/-- The value of MBX_DEV_STATE (chapter 14). -/
def State.devState (s : State) : Nat :=
  s.sys.mode.code + b2n s.sys.hostBootWait * 2 ^ 16 + b2n s.sys.fwRunning * 2 ^ 17 + b2n s.timeLocked * 2 ^ 18
    + b2n s.sec.unlocked * 2 ^ 19 + s.sys.bootErr * 2 ^ 24

/-- The state s, reached from s0, with the change of MBX_DEV_STATE reported if there is one. -/
def State.noteDev (s s0 : State) : State :=
  if s.devState = s0.devState then s else (s.raise Reg.MBX_INT_STATUS 9).signal 9

/-- The records the event ring holds (R394): 512 under SPI. -/
def State.ringSize (s : State) : Nat :=
  if s.sys.straps.hostIf then 512 else 2 ^ (min 16 (max 6 (s.fld Reg.MBX_EVR_CFG 4 0)))

/-- Writes event record bytes at ring index i: in host memory under PCIe, in MBX at 0x4000 under SPI (R394). -/
def State.ringWrite (s : State) (i : Nat) (r : Bytes) : State :=
  if s.sys.straps.hostIf then s.withMem (mwrite s.mem (0x20034000 + 32 * i) r)
  else s.withHostMem (mwrite s.hostMem (s.rd Reg.MBX_EVR_BASE_LO + 2 ^ 32 * s.rd Reg.MBX_EVR_BASE_HI + 32 * i) r)

/-- Whether an event code is enabled: every code at reset but CAP_EDGE (R420). -/
def State.evEnabled (s : State) (code : Nat) : Bool := tget (code != 0x5004) s.mbx.evMask code

/-- Firmware posts an event (R393, R394, R421). A disabled code, or no running firmware, posts nothing; a full or disabled
ring discards and counts it. -/
@[irreducible] def State.postRaw (s : State) (code group flags op status tag : Nat) (detail : Bytes) : State :=
  if !s.sys.fwRunning || !s.evEnabled code then s
  else
    let r := le16 code ++ le8 group ++ le8 (flags + b2n s.mbx.lostBefore) ++ le32 s.mbx.evSeq ++ le64 s.time.sample
      ++ le16 op ++ le16 status ++ le32 tag ++ fitBytes 8 detail
    let s := s.onMbx (fun x => { x with lastEvents := (s.mbx.lastEvents ++ [r]).drop (s.mbx.lastEvents.length + 1 - 64) })
    let prod := s.rd Reg.MBX_EVR_PROD
    let used := (prod + 2 ^ 32 - s.rd Reg.MBX_EVR_CONS) % 2 ^ 32
    if !s.bit Reg.MBX_EVR_CFG 31 || decide (s.ringSize ≤ used) then
      ((s.onMbx (fun x => { x with lostBefore := true })).bump (Reg.MBX_CNT 6)).perfAdd 93
    else
      let s1 := (s.ringWrite (prod % s.ringSize) r).wr Reg.MBX_EVR_PROD (prod + 1)
      let s2 := s1.onMbx (fun x => { x with lostBefore := false, evSeq := (s.mbx.evSeq + 1) % 2 ^ 32 })
      (((s2.raise Reg.MBX_INT_STATUS 8).signal 8).perfAdd 92).traceRec 1 0x22
        (le8 group ++ le8 (flags + b2n s.mbx.lostBefore) ++ le16 code ++ zeros 2 ++ le32 s.mbx.evSeq)

/-- A device or block event: the group byte is bits 15:12 of the code (R421). -/
def State.post (s : State) (code : Nat) (detail : Bytes) : State := s.postRaw code (code / 4096) 0 0 0 0 detail

/-! ### Status codes (R395) -/

/-- OK. -/
def stOk : Nat := 0x0000
/-- ACCEPTED. -/
def stAccepted : Nat := 0x0001
/-- BUSY. -/
def stBusy : Nat := 0x0010
/-- BOOTING. -/
def stBooting : Nat := 0x0011
/-- ERR_OPCODE. -/
def stOpcode : Nat := 0x0100
/-- ERR_LEN. -/
def stLen : Nat := 0x0101
/-- ERR_CRC. -/
def stCrc : Nat := 0x0102
/-- ERR_RANGE. -/
def stRange : Nat := 0x0103
/-- ERR_MODE. -/
def stMode : Nat := 0x0104
/-- ERR_RESOURCE. -/
def stResource : Nat := 0x0105
/-- ERR_BUDGET. -/
def stBudget : Nat := 0x0106
/-- ERR_BANK_BUSY. -/
def stBankBusy : Nat := 0x0107
/-- ERR_ORDER. -/
def stOrder : Nat := 0x0108
/-- ERR_AUTH. -/
def stAuth : Nat := 0x0109
/-- ERR_STATE. -/
def stState : Nat := 0x010A
/-- ERR_CLOCK. -/
def stClock : Nat := 0x010B

/-- A response: status and payload (R400). -/
structure Resp where
  status : Nat
  payload : Bytes
  deriving DecidableEq, Repr

/-- OK with a payload. -/
def Resp.ok (p : Bytes := []) : Resp := ⟨stOk, p⟩
/-- ACCEPTED. -/
def Resp.accepted : Resp := ⟨stAccepted, []⟩
/-- An error with the entry and offset form of R400. -/
def Resp.err (st entry off : Nat) : Resp := ⟨st, le16 entry ++ le16 off⟩
/-- An error that lies in no entry (R400): entry 0xFFFF and the byte offset of the field. -/
def Resp.errF (st off : Nat) : Resp := Resp.err st 0xFFFF off
/-- A failure of state, budget or ownership with no entry involved (R400). -/
def Resp.errS (st : Nat) : Resp := Resp.err st 0xFFFF 0xFFFF
/-- ERR_RESOURCE (R396): resource ID, owner function, detail. -/
def Resp.resource (id owner detail : Nat) : Resp := ⟨stResource, le16 id ++ le8 owner ++ le8 0 ++ le16 detail ++ le16 0⟩
/-- ERR_AUTH with its check code (R400). -/
def Resp.auth (code : Nat) : Resp := ⟨stAuth, le8 code ++ zeros 3⟩

/-! ### Accepted work (R401) -/

/-- Records the work of an ACCEPTED command, in n pieces; the job's number is nextJob before. -/
def State.newJob (s : State) (h : Hdr) (op n : Nat) (detail : Bytes := []) : State :=
  s.onMbx (fun x => { x with jobs := tput s.mbx.jobs s.mbx.nextJob ⟨h, op, n, stOk, detail⟩, nextJob := s.mbx.nextJob + 1 })

/-- A job nobody started. -/
def AccJob.none : AccJob := ⟨⟨0, 0, 0, false⟩, 0, 0, 0, []⟩

/-- Ends a job: its COMMAND_DONE with the COMPLETION flag (R401, R421). -/
def State.endJob (s : State) (id status : Nat) (detail : Bytes) : State :=
  match s.mbx.jobs.find? (fun e => e.1 == id) with
  | none => s
  | some (_, j) =>
    (s.onMbx (fun x => { x with jobs := tdel s.mbx.jobs id })).postRaw 0x0001 (j.op / 4096) 2 j.op status j.hdr.tag detail

/-- One piece of a job's work ends, leaving the detail its COMMAND_DONE will carry; the last piece ends the job. -/
def State.pieceDone (s : State) (id : Nat) (status : Nat) (detail : Bytes) : State :=
  match s.mbx.jobs.find? (fun e => e.1 == id) with
  | none => s
  | some (_, j) =>
    let st := if status = stOk then j.status else status
    if j.left ≤ 1 then s.endJob id st detail
    else s.onMbx (fun x => { x with jobs := tput s.mbx.jobs id { j with left := j.left - 1, status := st, detail := detail } })

/-- One piece of the work of a job given as an option. -/
def State.pieceDone? (s : State) (id : Option Nat) (status : Nat) (detail : Bytes) : State :=
  match id with
  | none => s
  | some i => s.pieceDone i status detail

/-! ### Host buffers (R388) -/

/-- A host buffer descriptor: the space code, the address within it and the length. -/
structure Buf where
  space : Nat
  addr : Nat
  len : Nat
  deriving DecidableEq, Repr

/-- The descriptor at a byte offset of a payload. -/
def bufAt (p : Bytes) (i : Nat) : Buf :=
  let a := u64At p i
  ⟨a / 2 ^ 62, if a / 2 ^ 62 = 0 then a % 2 ^ 62 else a % 2 ^ 40, u32At p (i + 8)⟩

/-- The bytes of a buffer's space that exist now. -/
def State.bufSpace (s : State) (b : Buf) : Nat :=
  match b.space with
  | 0 => if s.sys.straps.hostIf then 0 else 2 ^ 62
  | 2 => s.host.regionUnits * 0x200000
  | 3 => 0x8000
  | _ => 0

/-- Whether a buffer lies within its space (R388). -/
def State.bufOk (s : State) (b : Buf) : Bool := decide (b.addr + b.len ≤ s.bufSpace b) && b.space != 1

/-- The first n bytes of a buffer. -/
def State.bufRead (s : State) (b : Buf) (n : Nat) : Bytes :=
  match b.space with
  | 0 => mread s.hostMem b.addr n
  | 2 => mread s.mem (unitAddr s.host.regionUnit + b.addr) n
  | _ => mread s.mem (0x20038000 + b.addr) n

/-- Bytes written to the start of a buffer. -/
def State.bufWrite (s : State) (b : Buf) (d : Bytes) : State :=
  match b.space with
  | 0 => s.withHostMem (mwrite s.hostMem b.addr d)
  | 2 => s.withMem (mwrite s.mem (unitAddr s.host.regionUnit + b.addr) d)
  | _ => s.withMem (mwrite s.mem (0x20038000 + b.addr) d)

/-! ### Resource claims (R396) -/

/-- The function that holds a resource (0 none). -/
def State.owner (s : State) (r : Nat) : Nat := tget 0 s.mbx.claims r

/-- The state with a resource held by a function (0 releases it). -/
def State.claim (s : State) (r fn : Nat) : State :=
  s.onMbx (fun x => { x with claims := tset 0 s.mbx.claims r fn })

/-- The first resource of a list that a function other than fn holds. -/
def State.conflict (s : State) (fn : Nat) (rs : List Nat) : Option Nat :=
  rs.find? (fun r => s.owner r != 0 && s.owner r != fn)

/-! ### Objects and iteration -/

/-- The object with an ID. -/
def State.obj (s : State) (j : Nat) : Obj := tget Obj.init s.scene.objs j

/-- The state with an object changed. -/
def State.setObj (s : State) (j : Nat) (o : Obj) : State :=
  s.onScene (fun x => { x with objs := tset Obj.init s.scene.objs j o })

/-- A scene counter of R65, R70 or R71 advanced. -/
def State.sceneCnt (s : State) (i : Nat) (n : Nat := 1) : State :=
  s.onScene (fun x => { x with cnt := tmod 0 s.scene.cnt i (fun v => (v + n) % 2 ^ 32) })

/-- Applies a step to the state once for each element of a list, in order. -/
def State.each {α : Type} (s : State) (l : List α) (f : State → α → State) : State := l.foldl f s

/-- The first index and element of a list that satisfy a test. -/
def findIdx {α : Type} (t : Nat → α → Bool) (l : List α) : Option (Nat × α) :=
  ((List.range l.length).zip l).find? (fun e => t e.1 e.2)

end Sys2Proof.Machine
end

