-- ==== Sys2Proof/Machine/Mailbox.lean ====
section
/-! DEFINITION. The mailbox protocol of chapter 14 that every command shares: slots, responses, the order of the checks
of R390, held and bulk commands. The table of commands itself is in Machine/Commands.lean. -/

namespace Sys2Proof.Machine

/-- The address of command slot n (chapter 14, The mailbox). -/
def cmdSlotAddr (n : Nat) : Nat := 0x20030000 + 0x100 * n

/-- The address of response slot n. -/
def rspSlotAddr (n : Nat) : Nat := 0x20031000 + 0x100 * n

/-- Whether an offset of MBX lies behind the 8 slots of a kind, where nothing is defined: it reads 0 and ignores writes (R13). -/
def mbxHole (o : Nat) : Bool := decide (0x800 ≤ o ∧ o < 0x1000) || decide (0x1800 ≤ o ∧ o < 0x2000)

/-- The 16 header bytes of a slot with its CRC (R387). The last argument of the header is the flags or the status. -/
def slotBytes (op seq flags tag : Nat) (payload : Bytes) : Bytes :=
  let h := le16 op ++ le16 seq ++ le16 payload.length ++ le16 flags ++ le32 tag
  h ++ le32 (crc32 (h ++ zeros 4 ++ payload)) ++ payload

/-- The CRC a command's slot carries (R387). -/
def cmdCrc (h : Hdr) (op : Nat) (p : Bytes) : Nat := u32At (slotBytes op h.seq (b2n h.notify) h.tag p) 12

/-- Slot n. -/
def State.slot (s : State) (n : Nat) : Slot := tget Slot.init s.mbx.slots n

/-- The state with slot n changed. -/
def State.setSlot (s : State) (n : Nat) (v : Slot) : State :=
  s.onMbx (fun x => { x with slots := tset Slot.init s.mbx.slots n v })

/-- The CRC that is recorded with a command's answer (R390): the word its slot holds, which counts the reserved flags too; a command that
a row brings without a slot's bytes has the CRC of its header and payload (DEDUCED, notes/assumptions/13). -/
def State.recCrc (s : State) (h : Hdr) (op : Nat) (p : Bytes) : Nat :=
  let b := mread s.mem (cmdSlotAddr h.slot) 16
  if (s.slot h.slot).locked ∧ u16At b 0 = op ∧ u16At b 2 = h.seq ∧ u32At b 8 = h.tag then u32At b 12 else cmdCrc h op p

/-- The code of a slot state in MBX_SLOT_STATE. -/
def SlotState.code : SlotState → Nat
  | .idle => 0 | .posted => 1 | .held => 2 | .executing => 3 | .done => 4

/-- Writes response bytes to slot n and enters DONE: the DONE bit, vector n, trace and, with NOTIFY, the
COMMAND_RESPONSE event (R387, R389, R421). -/
def State.putResponse (s : State) (h : Hdr) (op status : Nat) (bytes : Bytes) (keep : Slot → Option SlotRec) : State :=
  let s1 := s.withMem (mwrite s.mem (rspSlotAddr h.slot) bytes)
  let s2 := s1.setSlot h.slot ⟨.done, false, keep (s.slot h.slot)⟩
  let s3 := (s2.raise Reg.MBX_DONE h.slot).signal h.slot
  let s4 := s3.traceRec 1 0x21 (le8 h.slot ++ le8 0 ++ le16 op ++ le16 status ++ le32 h.tag)
  if h.notify then s4.postRaw 0x0002 (op / 4096) 0 op status h.tag (le8 h.slot ++ le8 0 ++ le16 h.seq) else s4

/-- Firmware writes a response (R387, R389) and records the command's sequence and CRC with it, unless it is BUSY (R390). -/
def State.respond (s : State) (h : Hdr) (op : Nat) (p : Bytes) (r : Resp) : State :=
  let bytes := slotBytes op h.seq r.status h.tag r.payload
  s.putResponse h op r.status bytes
    (fun sl => if r.status = stBusy then sl.last else some ⟨h.seq, s.recCrc h op p, bytes⟩)

/-- A response to a command that did not pass check 2, or the boot ROM's BOOTING: nothing is recorded (R390). -/
def State.respondUnrecorded (s : State) (h : Hdr) (op : Nat) (r : Resp) : State :=
  s.putResponse h op r.status (slotBytes op h.seq r.status h.tag r.payload) (fun sl => sl.last)

/-- The boot ROM's answer to a doorbell: BOOTING, the echoed header, nothing recorded, no event (R392, R421). -/
def State.answerBooting (s : State) (h : Hdr) (op : Nat) : State :=
  (s.respondUnrecorded { h with notify := false } op ⟨stBooting, []⟩).bump (Reg.MBX_CNT 7)

/-- What a mailbox command is: opcode, modes in which it is legal (R398), expected lengths (R525), whether its payload
names a host buffer (R391), and its own checks with its effect. -/
structure CmdDef where
  op : Nat
  legal : List Mode
  len : Bytes → Bool
  bulk : Bytes → Bool
  body : Hdr → Bytes → State → State × Resp

/-- Legal-in code All of R398. -/
def modesAll : List Mode := [.boot, .park, .measure, .render, .mirror, .safe]
/-- Legal-in code Any. -/
def modesAny : List Mode := [.park, .measure, .render, .mirror, .safe]
/-- Legal-in code Cfg. -/
def modesCfg : List Mode := [.park, .measure, .render, .mirror]
/-- Legal-in code Scn. -/
def modesScn : List Mode := [.park, .render, .mirror]
/-- Legal-in code Live. -/
def modesLive : List Mode := [.measure, .render, .mirror]

/-- Expected length of a payload of fixed size (R525). -/
def lenIs (n : Nat) (p : Bytes) : Bool := p.length == n

/-- Expected length of a fixed part and 1 to k entries of e bytes with no count field (R525). -/
def lenEntries (fixed e k : Nat) (p : Bytes) : Bool :=
  decide (fixed + e ≤ p.length) && (p.length - fixed) % e == 0 && decide ((p.length - fixed) / e ≤ k)

/-- No host buffer. -/
def notBulk (_ : Bytes) : Bool := false

/-- Every form of the payload names a host buffer. -/
def isBulk (_ : Bytes) : Bool := true

/-- A command is taken: counted and traced (R390, R473). -/
def State.taken (s : State) (h : Hdr) (op : Nat) : State :=
  ((s.bump (Reg.MBX_CNT 0)).perfAdd 90).traceRec 1 0x20
    (le8 h.slot ++ le8 0 ++ le16 op ++ le16 h.seq ++ le32 h.tag)

/-- Not a status code: the command's response is written later (STREAM_ENABLE while it waits for ARP, R240). -/
def stPending : Nat := 0x10000

/-- A command that passed checks 1 to 6 runs its own checks and effect, and its response is written (R390). -/
def CmdDef.finish (c : CmdDef) (h : Hdr) (p : Bytes) (s : State) : State :=
  let (s1, r) := c.body h p s
  if r.status = stPending then s1.setSlot h.slot ⟨.executing, true, (s1.slot h.slot).last⟩
  else s1.respond h c.op p r

/-- A command is held until PARK, one per slot (R392). -/
def State.hold (s : State) (h : Hdr) (op : Nat) (p : Bytes) : State :=
  let s1 := s.setSlot h.slot ⟨.held, true, (s.slot h.slot).last⟩
  (s1.onMbx (fun x => { x with held := s1.mbx.held ++ [⟨h, op, p⟩] }))

/-- Whether a command is held: between the start of firmware and PARK, everything whose code is not All (R392). -/
def CmdDef.holds (c : CmdDef) (s : State) : Bool := s.sys.mode == .boot && !c.legal.contains .boot

/-- The modes in which a command is judged legal (check 6 of R390). -/
def CmdDef.legalIn (c : CmdDef) (s : State) : Bool := c.legal.contains s.sys.mode

/-- Checks 5 and 6 of R390 with the limit of R391: what a command that fails one of them, or is held, comes to. -/
def CmdDef.early (c : CmdDef) (h : Hdr) (p : Bytes) (s : State) : Option State :=
  if !c.len p then some (s.respond h c.op p ⟨stLen, []⟩)
  else if c.holds s then some (s.hold h c.op p)
  else if !c.legalIn s then some (s.respond h c.op p (Resp.errS stMode))
  else if c.bulk p && decide (4 ≤ s.mbx.bulk.length) then some (s.respond h c.op p ⟨stBusy, []⟩)
  else none

/-- The handling of a command whose slot passed checks 1 to 4 (R390): length, mode or holding, then its own checks and
effect. Before firmware runs the boot ROM answers BOOTING (R392); under a reset nothing answers (R457). -/
def CmdDef.run (c : CmdDef) (h : Hdr) (p : Bytes) (s : State) : State :=
  if s.sys.phase ≠ .running then s
  else if !s.sys.fwRunning then s.answerBooting h c.op
  else
    let s1 := s.taken h c.op
    match c.early h p s1 with
    | some t => t
    | none => c.finish h p s1

end Sys2Proof.Machine
end

