-- ==== Sys2Proof/Machine/Cmd.lean ====
section
/-! DEFINITION. Small helpers shared by the bodies of the commands: ordered checks, entry checks, jobs by header. -/

namespace Sys2Proof.Machine

/-- The response of the first failing check of a list. -/
def firstBad (l : List (Bool × Resp)) : Option Resp := (l.find? (fun e => e.1)).map (fun e => e.2)

/-- A body that answers the first failing check, and otherwise has its effect. -/
def checked (s : State) (l : List (Bool × Resp)) (ok : State × Resp) : State × Resp :=
  match firstBad l with
  | some r => (s, r)
  | none => ok

/-- The first failing entry of a list of entries, with its response. -/
def badEntry (es : List Bytes) (bad : Nat → Bytes → Option Resp) : Option Resp :=
  ((List.range es.length).zip es).findSome? (fun e => bad e.1 e.2)

/-- A body over entries: nothing is applied unless every entry passes. -/
def checkedEntries (s : State) (es : List Bytes) (bad : Nat → Bytes → Option Resp) (ok : State × Resp) : State × Resp :=
  match badEntry es bad with
  | some r => (s, r)
  | none => ok

/-- The number of the running job of a command. -/
def State.jobOf (s : State) (op : Nat) (h : Hdr) : Option Nat :=
  (s.mbx.jobs.find? (fun e => e.2.op == op && e.2.hdr == h)).map (fun e => e.1)

/-- A mailbox command: its slot's checks, then its own (R390). -/
def CmdDef.exec (c : CmdDef) (h : Hdr) (p : Bytes) (s : State) : Host.Outcome State Fault Refusal := .next (c.run h p s)

/-- A command that names no host buffer. -/
def mkCmd (op : Nat) (legal : List Mode) (len : Bytes → Bool) (body : Hdr → Bytes → State → State × Resp) : CmdDef :=
  ⟨op, legal, len, notBulk, body⟩

/-- A bulk command: its payload names a host buffer (R391). -/
def mkBulk (op : Nat) (legal : List Mode) (len : Bytes → Bool) (body : Hdr → Bytes → State → State × Resp) : CmdDef :=
  ⟨op, legal, len, isBulk, body⟩

/-- The detail a job's COMMAND_DONE would carry now. -/
def State.jobDetail (s : State) (id : Nat) : Bytes := ((s.mbx.jobs.find? (fun e => e.1 == id)).map (·.2.detail)).getD []

/-- A piece of a job's work that ends without one of its own changes; the detail stays. -/
def State.pieceDrop (s : State) (id : Option Nat) : State :=
  match id with
  | none => s
  | some i => s.pieceDone i stOk (s.jobDetail i)

/-- One more piece of work for a job. -/
def State.addPiece (s : State) (id : Nat) : State :=
  s.onMbx (fun x => { x with jobs := x.jobs.map (fun e => if e.1 = id then (e.1, { e.2 with left := e.2.left + 1 }) else e) })

/-- A job that was opened with one piece to hold it while its command's entries were handled: with work left the command
returns ACCEPTED, without it OK and no completion (R401). -/
def State.settleJob (s : State) (id : Nat) : State × Resp :=
  match s.mbx.jobs.find? (fun e => e.1 == id) with
  | none => (s, Resp.ok)
  | some (_, j) =>
    if j.left ≤ 1 then (s.onMbx (fun x => { x with jobs := tdel x.jobs id }), Resp.ok)
    else (s.onMbx (fun x => { x with jobs := tput x.jobs id { j with left := j.left - 1 } }), Resp.accepted)

/-- Whether a live mode is in force (MEASURE, RENDER, MIRROR). -/
def State.live (s : State) : Bool := s.sys.mode == .measure || s.sys.mode == .render || s.sys.mode == .mirror

end Sys2Proof.Machine
end

