-- ==== Sys2Proof/Machine/MirrorOps.lean ====
section
/-! DEFINITION. The redundancy controller (Mirror): the view of the partner, activity, the output gate, the heartbeat and
the forced drop (R424 to R439). -/

namespace Sys2Proof.Machine

/-- Whether Mirror is enabled (MIR_CTRL.ENABLE). -/
def State.mirrorOn (s : State) : Bool := s.bit Reg.MIR_CTRL 0

/-- N of R433: below 2 acts as 2, above 16 as 16. -/
def State.hbCount (s : State) : Nat := min 16 (max 2 (s.fld Reg.MIR_CTRL 12 8))

/-- The state code of MIR_STATUS.STATE. -/
def MirState.code : MirState → Nat
  | .off => 0 | .idle => 1 | .standby => 2 | .pending => 3 | .active => 4

/-- Render-ready (R434). -/
def State.renderReady (s : State) : Bool :=
  (s.sys.mode == .measure || s.sys.mode == .render || s.sys.mode == .mirror)
    && (s.timeLocked || s.fld Reg.TIME_CTRL 4 3 != 0) && s.tickLocked

/-- The first boundary at which an event of this tick can act. A boundary that falls in the tick is handled before every event of orders 2
to 9, also where its row has not come yet (R34). -/
def State.nextBoundary (s : State) : Nat :=
  let n := s.time.tick / s.time.tq
  if s.time.lastQ < n ∧ s.time.tick % s.time.tq = 0 then n + 1 else max (s.time.lastQ + 1) n

/-- An activity-change trace record (R473, kind 0x30). -/
def State.actTrace (s : State) : State :=
  s.traceRec 2 0x30 (le8 (b2n s.mir.actInForce) ++ le8 (b2n s.mir.view) ++ le8 (b2n s.mir.gateOpen) ++ le8 s.mir.st.code
    ++ le32 s.time.lastQ)

/-- A heartbeat trace record (kind 0x31): 1 loss, 2 stray, 3 self-drop. -/
def State.hbTrace (s : State) (kind : Nat) : State := s.traceRec 2 0x31 (le8 kind ++ zeros 3 ++ le32 s.time.lastQ)

/-- MIR_ACT_OUT set to a level counted for boundary n; the change of activity is recorded (MIR_LAST_CHANGE). -/
def State.setAct (s : State) (up : Bool) (n : Nat) : State :=
  (s.onMir (fun x => { x with actOut := up })).wr Reg.MIR_LAST_CHANGE n

/-- A raise of ACT counted for boundary n (R435): state ACTIVE, with the takeover count, interrupt and event when Mirror is
enabled. Causes: 0 heartbeat, 1 MIR_ACT_IN fell, 2 HANDOVER (its event follows at the boundary, as the example of R438 shows), 3 raised
from IDLE. -/
def State.raiseAct (s : State) (n cause : Nat) : State :=
  let s1 := s.setAct true n
  if s.mirrorOn then
    let s2 := s1.onMir (fun x => { x with st := .active, raiseFor := some n, cause := cause })
    let s3 := ((s2.bump (Reg.MIR_CNT 0)).raise Reg.MIR_INT_STATUS 0).perfAdd 124
    (if cause = 2 then s3 else s3.post 0x8001 (le32 n ++ le8 cause)).actTrace
  else s1.actTrace

/-- A lowering of ACT counted for boundary n, to a given controller state; in MEASURE the state is IDLE (R435). -/
def State.lowerAct (s : State) (n : Nat) (dest : MirState) : State :=
  let st := if s.sys.mode = .measure ∧ dest = .standby then MirState.idle else dest
  let s1 := s.setAct false n
  (s1.onMir (fun x => { x with st := if s.mirrorOn then st else .off, lowerFor := some n })).actTrace

/-- The data pins are at high impedance while the gate is closed (R198, R428). -/
def State.gatePins (s : State) : State := if s.mir.gateOpen then s else s.onPorts (fun x => { x with pins := [] })

/-- A forced drop (R429, R435): the gate closes and ACT falls in this tick; an armed takeover is disarmed; a unit in MIRROR
stays STANDBY. -/
def State.forcedDrop (s : State) : State :=
  let st := match s.mir.st with
    | .off => MirState.off
    | .standby => .standby
    | .pending => .standby
    | _ => .idle
  let was := s.mir.actOut || s.mir.actInForce
  let s1 := (s.onMir (fun x => { x with st := st, actOut := false, actInForce := false, gateOpen := false, withheld := 0 })).gatePins
  if was then
    (((s1.bump (Reg.MIR_CNT 5)).raise Reg.MIR_INT_STATUS 4).wr Reg.MIR_LAST_CHANGE s.time.lastQ).actTrace
  else s1

/-- SYNCED clears, and MIR_HB_OUT falls on a unit that is not in force (R438). -/
def State.dropSynced (s : State) : State :=
  s.onMir (fun x => { x with synced := false, hbOut := if s.mir.actInForce then s.mir.hbOut else false })

/-- SYNCED clears when the unit is no longer render-ready (R438). -/
def State.keepReady (s : State) : State := if s.mir.synced && !s.renderReady then s.dropSynced else s

/-- The conditions of SYNCED (R438), judged now. -/
def State.judgeSynced (s : State) : State :=
  if s.mir.synced then s.keepReady
  else if s.mirrorOn && s.sys.mode == .mirror && s.mir.ready && s.renderReady && decide (512 ≤ s.mir.hbRun) then
    (((s.onMir (fun x => { x with synced := true, hbOut := true })).raise Reg.MIR_INT_STATUS 5).post 0x8002 (le32 s.time.lastQ))
  else s

/-! ### The view of the partner (R427) -/

/-- The switch tick S(n) of boundary n (R426). -/
def State.switchTick (s : State) (n : Nat) : Nat := n * s.time.tq - 512

/-- The boundary whose switch window a time stamp lies in, within ±64 ticks of its switch tick. -/
def State.windowOf (s : State) (stamp : Nat) : Option Nat :=
  let n := (stamp + 512 + s.time.tq / 2) / s.time.tq
  let x := s.switchTick n
  if n ≠ 0 ∧ x ≤ stamp + 64 ∧ stamp ≤ x + 64 then some n else none

/-- The view of an edge (R427). A rise outside every window acts at once and closes the gate. -/
def State.viewEdge (s : State) (level : Bool) (stamp : Nat) : State :=
  let put := fun (n : Nat) => s.onMir (fun x => { x with viewNext := some (n, level) })
  match s.windowOf stamp with
  | some n =>
    match s.mir.viewNext with
    | some (m, l) => if m = n ∧ l ≠ level then s.onMir (fun x => { x with viewNext := none }) else put n
    | none => put n
  | none =>
    if level then
      ((s.onMir (fun x => { x with view := true, viewNext := none,
                                     gateOpen := if s.mirrorOn then false else s.mir.gateOpen })).gatePins).bump (Reg.MIR_CNT 8)
    else put s.nextBoundary

/-- An ACTIVE unit sees its partner's rise (R435): in the window of its own raise role B withdraws and role A does nothing; in
the window of any other switch tick it is displaced. A unit that raised from IDLE and withdraws enters MIRROR anew, and MIRROR_READY is
waited for again (R438). -/
def State.partnerRise (s : State) (stamp : Nat) : State :=
  match s.mir.st, s.windowOf stamp with
  | .active, some n =>
    if s.mir.raiseFor = some n then
      if s.sys.straps.mirRole then
        (((s.lowerAct n .standby).onMir (fun x => { x with ready := x.ready && x.cause != 3 })).bump (Reg.MIR_CNT 3)).raise
          Reg.MIR_INT_STATUS 2
      else s
    else ((s.lowerAct n .standby).bump (Reg.MIR_CNT 4)).raise Reg.MIR_INT_STATUS 3
  | _, _ => s

/-- An edge of MIR_ACT_IN with its time stamp (R427, R435). A PENDING unit that sees it high is disarmed. With Mirror disabled
the input is ignored (R430). -/
def State.actInEdge (s : State) (level : Bool) (stamp : Nat) : State :=
  let s0 := s.onMir (fun x => { x with actIn := level, fallSeen := if level then none else some stamp })
  if !s.mirrorOn then s0
  else
    let s1 := s0.viewEdge level stamp
    if level then
      let s2 := if s1.mir.st = .pending then s1.onMir (fun x => { x with st := .standby }) else s1
      s2.partnerRise stamp
    else s1

/-- The second observation of a low MIR_ACT_IN (R435): a STANDBY unit answers a fall in a switch window by raising ACT in this
tick when it is render-ready, and otherwise arms a takeover. -/
def State.actInConfirmed (s : State) : State :=
  match s.mir.st, s.mir.fallSeen with
  | .standby, some stamp =>
    match s.windowOf stamp with
    | some n => if s.renderReady ∧ s.sys.fatal.isNone then s.raiseAct n 1 else s.onMir (fun x => { x with st := .pending, cause := 1 })
    | none => s.onMir (fun x => { x with st := .pending, cause := 1 })
  | _, _ => s

/-! ### The heartbeat (R431 to R433) -/

/-- One heartbeat check of a standby: whether an edge fell in the window (R433). -/
def State.hbCheck (s : State) (present : Bool) : State :=
  if present then
    (s.onMir (fun x => { x with hbPresent := true, hbRun := s.mir.hbRun + 1, hbMiss := 0 })).judgeSynced
  else
    let miss := s.mir.hbMiss + 1
    let s1 := (s.onMir (fun x => { x with hbPresent := false, hbRun := 0, hbMiss := min 31 miss })).perfAdd 123
    if miss = s.hbCount then
      let s2 := (((s1.bump (Reg.MIR_CNT 1)).raise Reg.MIR_INT_STATUS 1).hbTrace 1).dropSynced.post 0x8003 (le32 s.time.lastQ)
      if s2.mir.st = .standby ∧ !s2.mir.actIn then s2.onMir (fun x => { x with st := .pending, cause := 0 }) else s2
    else s1

/-- Stray heartbeat edges (R433). -/
def State.hbStray (s : State) (n : Nat) : State := if n = 0 then s else (s.bump (Reg.MIR_CNT 2) n).hbTrace 2

/-- The heartbeat of a boundary (R431, R432): an active unit toggles when its pipeline delivered; two withheld toggles in a
row drop ACT by force; a unit not in force holds the level of SYNCED. None inside a step quantum. -/
def State.heartbeat (s : State) (delivered : Bool) : State :=
  if !s.mirrorOn then s.onMir (fun x => { x with hbOut := false })
  else if !s.mir.actInForce then s.onMir (fun x => { x with hbOut := s.mir.synced, withheld := 0 })
  else if delivered && !s.time.stepQuantum then
    (s.onMir (fun x => { x with hbOut := !s.mir.hbOut, withheld := 0 })).perfAdd 122
  else
    let k := s.mir.withheld + 1
    let s1 := s.onMir (fun x => { x with withheld := k })
    if 2 ≤ k then ((s1.forcedDrop).bump (Reg.MIR_CNT 6)).hbTrace 3 else s1

/-! ### Boundaries (R426 to R428) -/

/-- The view takes the change that counts for boundary n (R427). -/
def State.viewBoundary (s : State) (n : Nat) : State :=
  match s.mir.viewNext with
  | some (m, l) => if m ≤ n then s.onMir (fun x => { x with view := l, viewNext := none }) else s
  | none => s

/-- Own ACT comes into force, and the gate opens or closes (R426, R428, R430). -/
def State.gateBoundary (s : State) : State :=
  let s1 := s.onMir (fun x => { x with actInForce := s.mir.actOut })
  (s1.onMir (fun x => { x with gateOpen := s1.mir.actInForce && (!s1.mirrorOn || !s1.mir.view) })).gatePins

end Sys2Proof.Machine
end

