-- ==== Sys2Proof/Machine/Sched.lean ====
section
/-! DEFINITION. The hardware task scheduler (chapter 11): slots, order of service, atomic flows, pre-emption, timers, the
EVENT spill ring, trace records and the observation block. -/

namespace Sys2Proof.Machine

/-! ### Items, slots and records -/

/-- The item in a slot, if any. -/
def State.item? (s : State) (slot : Nat) : Option Item := (s.sched.items.find? (fun e => e.1 == slot)).map (·.2)

/-- The state with the item of a slot replaced. -/
def State.setItem (s : State) (slot : Nat) (i : Item) : State :=
  s.onSched (fun x => { x with items := tput s.sched.items slot i })

/-- A Facet task. -/
def State.task (s : State) (t : Nat) : FTask := tget FTask.init s.sched.tasks t

/-- The state with a Facet task changed. -/
def State.setTask (s : State) (t : Nat) (v : FTask) : State :=
  s.onSched (fun x => { x with tasks := tset FTask.init s.sched.tasks t v })

/-- Slots in use by a class (R304): 0 RT reserved, 1 HOST, 2 EVENT. -/
def State.slotsOf (s : State) (cls : Nat) : Nat := (s.sched.items.filter (fun e => e.2.cls == cls)).length

/-- HOST_MAX and EVENT_MAX (SCHED_SLOT_CFG). -/
def State.hostMax (s : State) : Nat := s.fld Reg.SCHED_SLOT_CFG 26 16
/-- EVENT_MAX. -/
def State.eventMax (s : State) : Nat := s.fld Reg.SCHED_SLOT_CFG 10 0

/-- The lowest free slot. -/
def State.freeSlot (s : State) : Option Nat :=
  (List.range 1024).find? (fun n => !s.sched.items.any (fun e => e.1 == n))

/-- A scheduler trace record (R320), when TRACE_EN is set. -/
def State.schedRec (s : State) (kind server : Nat) (slot : Option Nat) (i : Item) (arg : Nat) : State :=
  if s.bit Reg.SCHED_CTRL 2 then
    s.traceRec 0 kind (le8 server ++ le8 (i.level + 8 * i.cls) ++ le16 (i.task.getD 0xFFFF) ++ le16 (slot.getD 0xFFFF)
      ++ le16 (i.flow.getD 0xFFFF) ++ le16 arg)
  else s

/-- The 9 servers that exist: Facet cores 4 to 7 are absent on the MK9610-IL (R5, R303). -/
def State.coreExists (s : State) (n : Nat) : Bool := decide (n < (if s.sys.orderIL then 4 else 8))

/-- Whether a core can execute: present, its domain powered, no fatal error in force. -/
def State.coreAlive (s : State) (n : Nat) : Bool := s.coreExists n && bitOf s.sys.pwr 6 && s.sys.fatal.isNone

/-- Whether a core is halted: HALT set with debug unlocked (FCORE_CTRL). -/
def State.coreHalted (s : State) (n : Nat) : Bool := s.bit (Reg.FCORE_CTRL n) 1 && s.sec.unlocked

/-- Whether a core accepts dispatches: it can execute, is enabled and not halted. -/
def State.coreOpen (s : State) (n : Nat) : Bool := s.coreAlive n && s.bit (Reg.FCORE_CTRL n) 0 && !s.coreHalted n

/-- Whether a server may take work now. -/
def State.serverOpen (s : State) (n : Nat) : Bool := if n = 8 then s.sys.fwRunning else s.coreOpen n

/-- Whether an item may be dispatched in the present mode: in SAFE only a firmware item that serves SAFE (R319); which ones do, the spec does
not say (Config.servesSafe). -/
def State.mayServe (s : State) (i : Item) : Bool := s.sys.mode != .safe || (i.task.isNone && Config.servesSafe (i.arg.map (·.toNat)))

/-- The slot of the item resident on a server. -/
def State.resident (s : State) (n : Nat) : Option Nat :=
  let v := tget 0 s.sched.server n
  if v = 0 then none else some (v - 1)

/-! ### The observation block (R321) -/

/-- An observation sum at the start of a window. -/
def Obs.init : Obs := ⟨0, 0, 0, 0, 0⟩

/-- The ready items server n may take. -/
def State.readyFor (s : State) (n : Nat) : Nat :=
  (s.sched.items.filter (fun e => e.2.use == .ready && bitOf e.2.mask n)).length

/-- Brings the observation sums up to the present tick, before the pool changes. -/
def State.obsTouch (s : State) : State :=
  if !s.bit Reg.OBS_CTRL 0 then s.onSched (fun x => { x with obsTick := s.time.eventTick })
  else
    let dt := s.time.eventTick - s.sched.obsTick
    let upd := fun (t : Tbl Obs) n =>
      let o := tget Obs.init t n
      let k := s.readyFor n
      tset Obs.init t n { o with area := o.area + k * dt, deepest := max o.deepest k
                                 busy := o.busy + (if (s.resident n).isSome then dt else 0) }
    s.onSched (fun x => { x with obs := (List.range 9).foldl upd s.sched.obs, obsTick := s.time.eventTick })

/-! ### Flows (R310, R311) -/

/-- Whether an item is in service. -/
def Item.inService (i : Item) : Bool := i.use == .resident || i.use == .preempted

/-- The slot of the item in service on a flow. -/
def State.flowHolder (s : State) (f : Nat) : Option (Nat × Item) :=
  s.sched.items.find? (fun e => e.2.flow == some f && e.2.inService)

/-- The level an item in service takes for dispatch decisions: the highest among itself and the items that wait on its flow
(R311). Level 0 is the highest. -/
def State.effLevel (s : State) (i : Item) : Nat :=
  match i.flow with
  | none => i.level
  | some f => (s.sched.items.filter (fun e => e.2.use == .ready && e.2.flow == some f)).foldl (fun l e => min l e.2.level) i.level

/-- Whether a ready item's flow is in service. -/
def State.flowBlocked (s : State) (i : Item) : Bool :=
  match i.flow with
  | none => false
  | some f => (s.flowHolder f).isSome

/-- Counts and traces the blocks of ready items that are not yet noted (R310). -/
def State.noteBlocks (s : State) : State :=
  s.each s.sched.items (fun t e =>
    match t.item? e.1 with
    | some i =>
      if i.use == .ready && t.flowBlocked i && !i.blocked then
        let h := (i.flow.bind t.flowHolder).map (·.2)
        (((t.setItem e.1 { i with blocked := true }).bump (Reg.SCHED_CNT 9)).perfAdd 88).schedRec 10 0xFF (some e.1) i
          ((h.bind (·.task)).getD 0xFFFF)
      else t
    | none => t)

/-- When a flow is free again nothing waits on it any more, and its oldest waiting item is considered first at its level (R310). -/
def State.flowFreed (s : State) (f : Option Nat) : State :=
  match f with
  | none => s
  | some f =>
    let waiting := s.sched.items.filter (fun e => e.2.use == .ready && e.2.flow == some f)
    let s1 := s.each waiting (fun t e => t.setItem e.1 { e.2 with blocked := false })
    match waiting.foldl (fun (b : Option (Nat × Item)) e =>
        match b with
        | none => some e
        | some x => if e.2.stamp < x.2.stamp then some e else b) none with
    | none => s1
    | some (slot, i) => s1.setItem slot { i with front := true, blocked := false }

/-! ### Becoming ready (R306, R307) -/

/-- An item becomes ready with the next arrival stamp, and may wait on its flow from then on; `source` is the argument of its READY record. -/
def State.makeReady (s : State) (slot source : Nat) : State :=
  match s.item? slot with
  | none => s
  | some i =>
    let s0 := s.obsTouch
    let i1 := { i with use := .ready, stamp := s0.sched.stamp, tick := s0.time.eventTick, dispatched := false, blocked := false, front := false }
    let s1 := s0.setItem slot i1
    ((s1.onSched (fun x => { x with stamp := s1.sched.stamp + 1 })).schedRec 1 0xFF (some slot) i1 source).noteBlocks

/-! ### Dispatch (R306 to R309) -/

/-- The order of service: level, then first-at-its-level items, then arrival stamp. -/
def Item.before (a b : Item) : Bool :=
  decide (a.level < b.level) || (a.level == b.level && ((a.front && !b.front) || (a.front == b.front && decide (a.stamp < b.stamp))))

/-- The best of the ready items that are not flow-blocked, with a test. -/
def State.bestReady (s : State) (ok : Item → Bool) : Option (Nat × Item) :=
  (s.sched.items.filter (fun e => e.2.use == .ready && !s.flowBlocked e.2 && ok e.2)).foldl
    (fun (b : Option (Nat × Item)) e =>
      match b with
      | none => some e
      | some x => if e.2.before x.2 then some e else b) none

/-- The contexts a core holds. -/
def State.contexts (s : State) (n : Nat) : List (Nat × Item) :=
  s.sched.items.filter (fun e => e.2.use == .preempted && e.2.server == n)

/-- Whether server n is idle for an item: nothing resident, and no context of the same or a higher priority waits to resume. -/
def State.idleFor (s : State) (i : Item) (n : Nat) : Bool :=
  bitOf i.mask n && s.serverOpen n && (s.resident n).isNone && (s.contexts n).all (fun e => decide (i.level < s.effLevel e.2))

/-- The level of the item resident on a server for pre-emption decisions. -/
def State.residentLevel (s : State) (n : Nat) : Option Nat := ((s.resident n).bind s.item?).map s.effLevel

/-- The server an item would pre-empt: among those it may use, never server 8, the one whose resident has the lowest
priority, strictly lower than its own; the lowest number among equals. -/
def State.victim (s : State) (i : Item) : Option Nat :=
  ((List.range 8).foldl (fun (b : Option (Nat × Nat)) n =>
    if bitOf i.mask n && s.serverOpen n then
      match s.residentLevel n, b with
      | some l, none => if i.level < l then some (n, l) else none
      | some l, some (m, k) => if k < l then some (n, l) else some (m, k)
      | none, b => b
    else b) none).map (·.1)

/-- The server a ready item goes to (R308). -/
def State.serverFor (s : State) (i : Item) : Option Nat :=
  match (List.range 9).find? (s.idleFor i) with
  | some n => some n
  | none => s.victim i

/-- Registers are undefined at the start of an instance (R297): each takes an open value, a function of what the task's results may depend
on, `k` (R300); SR starts at its reset value. -/
def freshCtx (k : List Nat) (entry : Nat) : FCtx :=
  let open_ := fun (i w : Nat) => Config.facetFree (0 :: i :: k) % 2 ^ w
  let fill := fun (off n w : Nat) => (List.range n).foldl (fun (t : Tbl Nat) i => tset 0 t i (open_ (off + i) w)) []
  { d := fill 0 16 32, a := fill 16 4 72, ptr := fill 20 8 16, md := fill 28 8 16, lx := open_ 36 15
    ly := open_ 37 15, amcr := open_ 38 16, sr := 0x900
    fseg := open_ 39 8, loops := [], calls := [], pc := entry, rpt := none, flagsBy := 0
    late := [], charged := 0 }

/-- The program offset at which a task's instances start (R301). -/
def FTask.entry (t : FTask) : Nat := u16At (t.image.getD []) 14

/-- What a task's results may depend on at the start of an instance: its image and the contents of its regions, the channel area among them
(R300). -/
def State.startKey (s : State) (t : FTask) : List Nat :=
  let w := 0x14000000 + t.core * 0x40000
  let b := t.image.getD []
  (b ++ mread s.mem (w + 4 * t.xBase) (4 * u16At b 6) ++ mread s.mem (w + 0x10000 + 4 * t.yBase) (4 * u16At b 8)).map (·.toNat)

/-- A resident instance saved to its core's context store for another item (R295, R308). -/
def State.preempt (s : State) (n : Nat) (by_ : Item) : State :=
  match s.resident n with
  | none => s
  | some v =>
    match s.item? v with
    | none => s
    | some w =>
      ((((s.setItem v { w with use := .preempted }).bump (Reg.SCHED_CNT 1)).perfAdd 81).bump (Reg.FCORE_CNT n 3)).schedRec 4 n
        (some v) w (by_.task.getD 0xFFFF)

/-- Whether server n cannot give up its resident yet: repetitions of an RPT remain (R287, R295). -/
def State.repeating (s : State) (n : Nat) : Bool := (((s.resident n).bind s.item?).map (fun i => i.ctx.rpt.isSome)).getD false

/-- Dispatches an item to a server, pre-empting what is resident there (R308, R295); other items of its flow wait on it from then on (R310).
`lat` is the number of core cycles from READY, as its record carries it. -/
def State.dispatchTo (s : State) (slot : Nat) (i : Item) (n lat : Nat) : State :=
  let s1 := s.obsTouch.preempt n i
  let ctx := (i.task.map (fun t => freshCtx (s1.startKey (s1.task t)) (s1.task t).entry)).getD FCtx.init
  let i1 := { i with use := .resident, server := n, dispatched := true, front := false, ctx := ctx }
  let o := tget Obs.init s1.sched.obs n
  let waited := { o with waited := o.waited + (s1.time.eventTick - i.tick), started := o.started + 1 }
  let s2 := s1.setItem slot i1
  let s3 := (s2.onSched (fun x => { x with server := tset 0 x.server n (slot + 1), obs := tset Obs.init x.obs n waited }))
  (((s3.bump (Reg.SCHED_CNT 0)).perfAdd 80).schedRec 2 n (some slot) i1 (min lat 65535)).noteBlocks

/-- Resumes the highest context of a core that has no ready or resident item of higher priority (R309). A resident item of lower priority
than the context's (raised under R311 since) gives way to it as to a dispatch. -/
def State.resumeCore (s : State) (n : Nat) : State :=
  if !s.serverOpen n || s.repeating n then s
  else
    match (s.contexts n).foldl (fun (b : Option (Nat × Item)) e =>
        match b with
        | none => some e
        | some x => if s.effLevel e.2 < s.effLevel x.2 then some e else b) none with
    | none => s
    | some (slot, i) =>
      if (s.bestReady (fun j => bitOf j.mask n && decide (j.level < s.effLevel i))).isSome then s
      else if ((s.residentLevel n).map (fun l => decide (l ≤ s.effLevel i))).getD false then s
      else
        let s0 := s.obsTouch.preempt n i
        let s1 := s0.setItem slot { i with use := .resident, ctx := { i.ctx with charged := i.ctx.charged + 32 } }
        let s2 := s1.onSched (fun x => { x with server := tset 0 s1.sched.server n (slot + 1) })
        s2.schedRec 5 n (some slot) i ((s2.contexts n).length)

/-! ### The spill ring (R317, R318) -/

/-- The ring size in force. -/
def State.ringEntries (s : State) : Nat := min 65536 (max 1024 (s.fld Reg.SCHED_SPILL_CFG 16 0))

/-- An item made of a spilled or new EVENT entry. -/
def Spilled.item (e : Spilled) : Item :=
  ⟨e.task, 2, e.level, e.flow, e.mask, .ready, 0, 0, 0, false, false, false, e.arg, FCtx.init⟩

/-- One second in event ticks. -/
def lossSecond : Nat := 24576000

/-- The losses so far are reported by a host event. -/
def State.reportLoss (s : State) : State :=
  let s1 := s.post 0x7004 (le32 s.sched.lost)
  s1.onSched (fun x => { x with lost := 0, lostTick := s1.time.eventTick })

/-- One more EVENT item is lost: counted and marked. -/
def State.countLoss (s : State) : State :=
  let s1 := s.onSched (fun x => { x with lost := s.sched.lost + 1 })
  (((s1.bump (Reg.SCHED_CNT 7)).perfAdd 87).setFld Reg.SCHED_SPILL_STATE 17 17 1).raise Reg.SCHED_INT_STATUS 1

/-- Whether losses are due to be reported: 1,024 of them, or a second since the last report. -/
def State.lossDue (s : State) : Bool := decide (1024 ≤ s.sched.lost) || decide (lossSecond ≤ s.time.eventTick - s.sched.lostTick)

/-- The EVENT_LOST record, with the losses since the last one (R320). -/
def State.lossRecord (s : State) (i : Item) : State :=
  let s1 := s.onSched (fun x => { x with lostRec := x.lostRec + 1 })
  if s1.bit Reg.SCHED_CTRL 2 then (s1.schedRec 13 0xFF none i (min 65535 s1.sched.lostRec)).onSched (fun x => { x with lostRec := 0 }) else s1

/-- An EVENT item is lost (R318): counted, the sticky bit set, traced; the host event once per 1,024 losses or once per second. -/
def State.eventLost (s : State) (i : Item) : State :=
  let s1 := s.countLoss.lossRecord i
  if s1.lossDue then s1.reportLoss else s1

/-- Losses that no host event has told of are reported when a second has passed since the last report (R318). -/
def State.lossBoundary (s : State) : State := if 0 < s.sched.lost ∧ s.lossDue then s.reportLoss else s


/-- The place in the ring of the entry k behind the oldest. -/
def State.spillIdx (s : State) (k : Nat) : Nat := (s.sched.spillAt + k) % s.ringEntries

/-- The oldest ring entry is taken. -/
def State.spillPop (s : State) (rest : List Spilled) : State := s.onSched (fun x => { x with spill := rest, spillAt := s.spillIdx 1 })

/-- A burst of DRAM fails lastingly: the ring entries that lie in it are lost when their turn comes (R318). -/
def State.spillFail (s : State) (a : Nat) : State :=
  let hit := fun (k : Nat) => (unitAddr s.sched.spillUnit + 32 * s.spillIdx k) / 64 == a / 64
  if s.sched.spillPlaced then
    s.onSched (fun x => { x with spill := ((List.range x.spill.length).zip x.spill).map (fun e => if hit e.1 then { e.2 with bad := true } else e.2) })
  else s

/-- Refills the oldest ring entry into a free EVENT slot (R317); one that remains unreadable is lost (R318). -/
def State.refill (s : State) : State :=
  match s.sched.spill, s.freeSlot with
  | e :: rest, some slot =>
    if s.slotsOf 2 < s.eventMax then
      let s1 := s.spillPop rest
      if e.bad then s1.eventLost e.item
      else
      let s2 := s1.setItem slot e.item
      (((s2.bump (Reg.SCHED_CNT 5)).perfAdd 85).schedRec 8 0xFF (some slot) e.item (rest.length % 65536)).makeReady slot 4
    else s
  | _, _ => s

/-- The refills that are due: an EVENT slot is free and the ring is not empty. -/
def State.refillAll (s : State) : State :=
  s.each (List.range s.sched.spill.length) (fun t _ => t.refill)

/-- The refills due since an earlier tick (R307): they come before the timer expiries of the present one. -/
def State.refillOlder (s : State) : State := if s.sched.freedAt < s.time.eventTick then s.refillAll else s

/-- One dispatch decision (R306 to R308), after the refills of the cycle (R307): the first item in the order of service that a server can
take. Items that no server can take are passed over; a server with repetitions of an RPT to run makes its item wait (R295). -/
def State.dispatchNext (s : State) (lat : Nat) : State :=
  if !s.bit Reg.SCHED_CTRL 0 then s
  else
    let s := s.refillAll.noteBlocks
    match s.bestReady (fun i => s.mayServe i && (s.serverFor i).isSome) with
    | none => s
    | some (slot, i) =>
      match s.serverFor i with
      | none => s
      | some n => if s.repeating n then s else s.dispatchTo slot i n lat

/-- Writes an EVENT item to the ring, or loses it when the ring is full (R317, R318). -/
def State.toRing (s : State) (e : Spilled) : State :=
  if s.sched.spill.length < s.ringEntries then
    let s1 := s.onSched (fun x => { x with spill := s.sched.spill ++ [e] })
    (((s1.bump (Reg.SCHED_CNT 4)).perfAdd 84).raise Reg.SCHED_INT_STATUS 0).schedRec 7 0xFF none e.item (s1.sched.spill.length % 65536)
  else s.eventLost e.item

/-- A new EVENT item (R317), after the refills of the cycle (R307): into a free slot while the ring is empty, otherwise into the ring,
otherwise lost. -/
def State.newEvent (s0 : State) (e : Spilled) : State :=
  let s := s0.refillAll
  match s.freeSlot with
  | some slot =>
    if s.sched.spill.isEmpty && decide (s.slotsOf 2 < s.eventMax) then (s.setItem slot e.item).makeReady slot 3
    else s.toRing e
  | none => s.toRing e

/-! ### Completion, termination, discarding (R307, R313, R319) -/

/-- The timer entry of a task. -/
def State.timer? (s : State) (t : Nat) : Option Timer := (s.sched.timers.find? (fun e => e.1 == t)).map (·.2)

/-- The item leaves service or the pool: its server is freed; an RT slot returns to reservation, the slot of an item with a
timer entry goes back to its delay list, any other slot is freed (R303, R313, R316). The refill of an EVENT slot follows the arrivals that
come before it in the cycle (R307). -/
def State.leaveSlot (s : State) (slot : Nat) (i : Item) : State :=
  let s0 := s.obsTouch
  let srv := if i.use = .resident then tset 0 s0.sched.server i.server 0 else s0.sched.server
  let s1 := s0.onSched (fun x => { x with server := srv })
  let timed := ((i.task.bind s1.timer?).map (fun t => t.slot == slot)).getD false
  let reset := { i with server := 0, dispatched := false, blocked := false, front := false, ctx := FCtx.init }
  let s2 := if i.cls = 0 then s1.setItem slot { reset with use := .rtReserved }
    else if timed then s1.setItem slot { reset with use := .delayed }
    else s1.onSched (fun x => { x with items := tdel s1.sched.items slot })
  let s3 := if i.inService then s2.flowFreed i.flow else s2
  if i.cls = 2 then s3.onSched (fun x => { x with freedAt := s3.time.eventTick }) else s3

/-- An item completes (YIELD, or firmware finishes it). -/
def State.completeItem (s : State) (slot : Nat) (i : Item) : State :=
  let s1 := ((s.bump (Reg.SCHED_CNT 2)).perfAdd 82).schedRec 3 i.server (some slot) i (min 65535 (i.ctx.charged / 4))
  s1.leaveSlot slot i

/-- An item is terminated: reason 1 cut-off, 2 declared cycles, 3 fault, 4 mode change (R320). -/
def State.terminateItem (s : State) (slot : Nat) (i : Item) (reason : Nat) : State :=
  let s1 := ((s.bump (Reg.SCHED_CNT 3)).perfAdd 83).schedRec 6 (if i.inService then i.server else 0xFF) (some slot) i reason
  s1.leaveSlot slot i

/-- Leaving a rendering mode, or SAFE: every Facet work item is discarded; timer entries of Facet tasks are cancelled, RT
reservations, firmware items and their ring entries are kept (R319). -/
def State.discardFacet (s : State) : State :=
  let s1 := s.onSched (fun x => { x with timers := [], spill := x.spill.filter (fun e => e.task.isNone) })
  s1.each s.sched.items (fun t e =>
    if e.2.task.isNone then t
    else match e.2.use with
      | .rtReserved => t
      | .delayed => t.onSched (fun x => { x with items := tdel t.sched.items e.1 })
      | _ => t.terminateItem e.1 e.2 4)

/-! ### Timers (R314 to R316) -/

/-- The tick length of a delay list in event ticks. -/
def State.listPeriod (s : State) (n : Nat) : Nat := min 24576 (max 25 (s.fld (Reg.SCHED_TICK n) 14 0))

/-- The entries of a list that have expired, in list order: by expiry, then in the order of insertion (R315). -/
def State.expired (s : State) (n now : Nat) : List (Nat × Timer) :=
  let es := s.sched.timers.filter (fun e => e.2.list == n && decide (e.2.expiry ≤ now))
  es.foldr (fun e (l : List (Nat × Timer)) =>
    (l.filter (fun x => decide (x.2.expiry < e.2.expiry ∨ (x.2.expiry = e.2.expiry ∧ x.2.order < e.2.order)))) ++ [e] ++
    (l.filter (fun x => !decide (x.2.expiry < e.2.expiry ∨ (x.2.expiry = e.2.expiry ∧ x.2.order < e.2.order))))) []

/-- One expired entry becomes ready, or counts TIMER_OVERRUN while its previous instance is ready or in service; a periodic
entry is re-armed at expiry plus period, inserted behind those with that expiry (DEDUCED, notes/assumptions/48), a single one leaves the
list (R315, R316). -/
def State.expire (s : State) (task : Nat) (t : Timer) : State :=
  let busy := ((s.item? t.slot).map (fun i => i.use == .ready || i.inService)).getD false
  let s1 := if t.period = 0 then s.onSched (fun x => { x with timers := tdel s.sched.timers task })
    else s.onSched (fun x => { x with
      timers := tput x.timers task { t with expiry := t.expiry + t.period, order := x.timerOrder }, timerOrder := x.timerOrder + 1 })
  if busy then
    match s1.item? t.slot with
    | some i => ((s1.bump (Reg.SCHED_CNT 8)).raise Reg.SCHED_INT_STATUS 3).schedRec 11 0xFF (some t.slot) i t.list
    | none => s1
  else (s1.perfAdd 89).makeReady t.slot 1

/-- A tick edge of a delay list. -/
def State.listTickEdge (s : State) (n : Nat) : State :=
  let now := tget 0 s.sched.listTick n + 1
  let s1 := s.onSched (fun x => { x with listTick := tput s.sched.listTick n now })
  if s1.bit Reg.SCHED_CTRL 0 then s1.each (s1.expired n now) (fun u e => u.expire e.1 e.2) else s1

/-- Removes a task's timer entry: its slot is freed at once unless the instance is in service (R316). -/
def State.cancelTimer (s : State) (task : Nat) : State :=
  match s.timer? task with
  | none => s
  | some t =>
    let s1 := s.onSched (fun x => { x with timers := tdel s.sched.timers task })
    match s1.item? t.slot with
    | some i => if i.inService then s1 else s1.leaveSlot t.slot i
    | none => s1

end Sys2Proof.Machine
end

