-- ==== Sys2Proof/Machine/Fatal.lean ====
section
/-! DEFINITION. Changes of mode and fatal errors (R452, R459, R460, R463). -/

namespace Sys2Proof.Machine

/-- A change of mode (R452): the state, the interrupt bit, MODE_CHANGED with its cause, and the change of MBX_DEV_STATE. -/
def State.setMode (s : State) (m : Mode) (cause : Nat) : State :=
  let s1 := s.onSys (fun x => { x with mode := m })
  let s2 := (s1.raise Reg.SYS_INT_STATUS 1).post 0xF001 (le8 s.sys.mode.code ++ le8 m.code ++ le8 cause ++ le8 0 ++ le32 s.time.lastQ)
  s2.noteDev s

/-- Whether an event of orders 2 to 9 of R33 is discarded: a reset is handled in its tick, or still holds the device (R35, R456). -/
def State.discards (s : State) : Bool := s.sys.phase != .running

/-- The fault trace record of a fatal error (kind 0x60, class 1). -/
def State.fatalTrace (s : State) (cause addr : Nat) : State :=
  s.traceRec 5 0x60 (le8 1 ++ le8 cause ++ le8 0 ++ le8 0 ++ le32 addr ++ le16 (addr / 2 ^ 32))

/-- Counts a fatal error in SYS_FATAL.COUNT and SYS_CNT2. -/
def State.countFatal (s : State) : State := (s.setFld Reg.SYS_FATAL 19 16 (min 15 (s.fld Reg.SYS_FATAL 19 16 + 1))).bump (Reg.SYS_CNT 2)

/-- A fatal error that meets an earlier one: it becomes the secondary cause; of two in one tick the lower code is the cause
(R463). A lasting clock loss that is listed as the cause already changes nothing in the record. -/
def State.secondFatal (s : State) (f : Fatal) (cause detail : Nat) : State :=
  if f.tick = s.time.tick ∧ cause < f.cause then
    let s1 := s.onSys (fun x => { x with fatal := some { f with cause := cause, detail := detail } })
    (s1.setFld Reg.SYS_FATAL 7 0 cause).setFld Reg.SYS_FATAL 15 8 f.cause
  else if f.cause = 3 ∧ cause = 3 then s
  else s.setFld Reg.SYS_FATAL 15 8 cause

/-- What the fault record lists for a fatal error: its cause, and a secondary cause. A thermal trip in the tick of a clock loss lists both,
clock loss first (R35). -/
def State.faultList (s : State) (cause : Nat) : Nat × Nat :=
  if cause = 0x0C ∧ s.time.lossAt = some s.time.eventTick then (0x03, 0x0C) else (cause, 0)

/-- A MODE_SET that runs is abandoned by a fatal error; its COMMAND_DONE carries ERR_STATE (R460, R463). -/
def State.abandonMode (s : State) : State :=
  match s.sys.modeReq with
  | none => s
  | some r =>
    let s1 := s.onSys (fun x => { x with modeReq := none })
    match s1.mbx.jobs.find? (fun j => j.2.op == 0x0003 && j.2.hdr == r.hdr) with
    | some (id, _) => s1.endJob id stState []
    | none => s1

/-- A fatal error with its cause (R459) and failing address: forced drop (a watchdog expiry lowers ACT at the next switch tick
instead), SYS_FATAL, Facet cores stop, the engines stop at the next boundary (R460). Nothing while a reset holds the
device. -/
def State.fatalError (s : State) (cause detail : Nat) : State :=
  if s.sys.phase ≠ .running then s
  else
    let s0 := (s.fatalTrace cause detail).countFatal
    match s0.sys.fatal with
    | some f => s0.secondFatal f cause detail
    | none =>
      let s1 := if cause = 0x0B then s0 else s0.forcedDrop
      let s2 := s1.onSys (fun x => { x with fatal := some ⟨(s.faultList cause).1, detail, s.sys.mode, s.time.tick⟩, enginesStop := true })
      let s3 := ((s2.setFld Reg.SYS_FATAL 31 31 1).setFld Reg.SYS_FATAL 7 0 (s.faultList cause).1).setFld Reg.SYS_FATAL 15 8 (s.faultList cause).2
      ((s3.raise Reg.SYS_INT_STATUS 0).discardFacet).abandonMode

end Sys2Proof.Machine
end

