-- ==== Sys2Proof/Machine/Frame.lean ====
section
/-! DEFINITION. Ethernet, IPv4 and UDP framing as the network formats need it (R209, R218, R227, R236): reading the headers of a
frame, their checksums, and building frames. A frame is its bytes from the destination address to the last byte before the FCS.
Header layouts are those of the published standards the rules name (PRESUMED: IEEE 802.3, 802.1Q, RFC 768, 791, 826, 3550). -/

namespace Sys2Proof.Machine

/-- The EtherType of a frame, after one 802.1Q tag, and the byte offset of what follows it (R209). -/
def etherType (f : Bytes) : Nat × Nat := if be16At f 12 = 0x8100 then (be16At f 16, 18) else (be16At f 12, 14)

/-- Whether a frame carries an 802.1Q tag. -/
def tagged (f : Bytes) : Bool := be16At f 12 == 0x8100

/-- The Ethernet destination. -/
def etherDst (f : Bytes) : Nat := be48At f 0

/-- The one's-complement sum of the 16-bit words of a byte string, not yet folded. -/
def onesSum : Bytes → Nat
  | [] => 0
  | [a] => 256 * a.toNat
  | a :: b :: t => 256 * a.toNat + b.toNat + onesSum t

/-- A one's-complement sum folded to 16 bits. -/
def fold16 (n : Nat) : Nat :=
  let a := n % 65536 + n / 65536
  let b := a % 65536 + a / 65536
  b % 65536 + b / 65536

/-- The Internet checksum of a byte string. -/
def inetSum (p : Bytes) : Nat := 0xFFFF - fold16 (onesSum p)

/-- What the IPv4 header of a frame says: offset, header length, protocol, source, destination, DSCP, whether it is a fragment,
offset of the payload, payload length, and whether version, lengths and checksum are right. -/
structure IpHead where
  off : Nat
  proto : Nat
  src : Nat
  dst : Nat
  dscp : Nat
  frag : Bool
  body : Nat
  len : Nat
  ok : Bool
  deriving DecidableEq, Repr

/-- The IPv4 header of a frame of EtherType 0x0800. -/
def ipHead (f : Bytes) : Option IpHead :=
  let (ty, o) := etherType f
  if ty ≠ 0x0800 then none
  else
    let hl := 4 * (u8At f o % 16)
    let total := be16At f (o + 2)
    let shape := decide (u8At f o / 16 = 4 ∧ 20 ≤ hl ∧ hl ≤ total ∧ o + total ≤ f.length)
    some { off := o, proto := u8At f (o + 9), src := be32At f (o + 12), dst := be32At f (o + 16), dscp := u8At f (o + 1) / 4
           frag := decide (be16At f (o + 6) % 0x4000 ≠ 0), body := o + hl, len := total - hl
           ok := shape && fold16 (onesSum (slice f o hl)) == 0xFFFF }

/-- What the UDP header of a frame says: its offset, ports, checksum field and payload. -/
structure UdpHead where
  off : Nat
  sport : Nat
  dport : Nat
  sum : Nat
  data : Bytes
  deriving DecidableEq, Repr

/-- The UDP header of an IPv4 frame; a fragment beyond the first has none. -/
def udpHead (f : Bytes) (ip : IpHead) : Option UdpHead :=
  if ip.proto ≠ 17 ∨ be16At f (ip.off + 6) % 0x2000 ≠ 0 then none
  else
    let o := ip.body
    some ⟨o, be16At f o, be16At f (o + 2), be16At f (o + 6), slice f (o + 8) (be16At f (o + 4) - 8)⟩

/-- The pseudo-header of a UDP checksum. -/
def pseudoHeader (src dst len : Nat) : Bytes := beBytes 4 src ++ beBytes 4 dst ++ beBytes 2 17 ++ beBytes 2 len

/-- Whether a UDP datagram's checksum stands: zero means none (R218). -/
def udpOk (f : Bytes) (ip : IpHead) (u : UdpHead) : Bool :=
  let len := be16At f (u.off + 4)
  u.sum == 0 || (decide (8 ≤ len ∧ len ≤ ip.len) &&
    fold16 (onesSum (pseudoHeader ip.src ip.dst len) + onesSum (slice f u.off len)) == 0xFFFF)

/-- Whether an IPv4 frame must be dropped under row 2 of R218: wrong header checksum, fragmented, or a wrong UDP checksum. -/
def ipBad (f : Bytes) : Bool :=
  match ipHead f with
  | none => false
  | some ip => !ip.ok || ip.frag || (match udpHead f ip with
    | some u => !udpOk f ip u
    | none => false)

/-- The UDP datagram of a frame, if it is one: IPv4 header and UDP header. -/
def udpOf (f : Bytes) : Option (IpHead × UdpHead) := (ipHead f).bind (fun ip => (udpHead f ip).map (fun u => (ip, u)))

/-- The offset of the PTP message of a PTP frame (R213, R218): EtherType 0x88F7, or UDP/IPv4 to port 319 or 320. -/
def ptpOffset (f : Bytes) : Option Nat :=
  let (ty, o) := etherType f
  if ty = 0x88F7 then some o
  else match udpOf f with
    | some (_, u) => if u.dport = 319 ∨ u.dport = 320 then some (u.off + 8) else none
    | none => none

/-- The PTP message type of a frame. -/
def ptpType (f : Bytes) : Option Nat := (ptpOffset f).map (fun o => u8At f o % 16)

/-- Whether an Ethernet address is a multicast address. -/
def isMulticast (a : Nat) : Bool := bitOf a 40

/-- Whether an address is one of 01-80-C2-00-00-00 to 01-80-C2-00-00-0F (R211). -/
def isLinkLocal (a : Nat) : Bool := a / 16 == 0x0180C200000

/-- The broadcast address. -/
def broadcast : Nat := 0xFFFFFFFFFFFF

/-- The MAC_MHASH bit of a multicast address: bits 31:20 of its CRC-32 (R218). -/
def hashBit (a : Nat) : Nat := crc32 (beBytes 6 a) / 2 ^ 20

/-- Whether an IPv4 address is a multicast address. -/
def ipMulticast (a : Nat) : Bool := a / 2 ^ 28 == 0xE

/-- The Ethernet address of a multicast IPv4 address, as RFC 1112 maps it (R236). -/
def multicastMac (ip : Nat) : Nat := 0x01005E000000 + ip % 2 ^ 23

/-- Firmware lets both ports accept a multicast Ethernet address (R218). -/
def State.hashEther (s : State) (a : Nat) : State :=
  s.each [0, 1] (fun t m => t.raise (Reg.MAC_MHASH m (hashBit a / 32)) (hashBit a % 32))

/-- Firmware lets both ports accept a multicast IPv4 address (R218). -/
def State.hashIn (s : State) (ip : Nat) : State := if ipMulticast ip then s.hashEther (multicastMac ip) else s

/-- An Ethernet header: destination, source, an 802.1Q tag when it is not 0, EtherType. -/
def etherHeader (dst src tag ty : Nat) : Bytes :=
  beBytes 6 dst ++ beBytes 6 src ++ (if tag % 4096 = 0 then [] else beBytes 2 0x8100 ++ beBytes 2 tag) ++ beBytes 2 ty

/-- An IPv4 header without options, DF set, with its checksum (R236). -/
def ipHeader (tos len id ttl src dst : Nat) : Bytes :=
  let a := beBytes 1 0x45 ++ beBytes 1 tos ++ beBytes 2 len ++ beBytes 2 id ++ beBytes 2 0x4000 ++ beBytes 1 ttl ++ beBytes 1 17
  let b := beBytes 4 src ++ beBytes 4 dst
  a ++ beBytes 2 (inetSum (a ++ b)) ++ b

/-- A UDP datagram with its checksum computed; a computed zero is sent as all ones. -/
def udpDatagram (src dst sport dport : Nat) (data : Bytes) : Bytes :=
  let len := 8 + data.length
  let h := beBytes 2 sport ++ beBytes 2 dport ++ beBytes 2 len
  let c := inetSum (pseudoHeader src dst len ++ h ++ data)
  h ++ beBytes 2 (if c = 0 then 0xFFFF else c) ++ data

/-- A byte string with bytes of it replaced from an index on. -/
def patch (f : Bytes) (i : Nat) (p : Bytes) : Bytes := f.take i ++ p ++ f.drop (i + p.length)

/-- An ARP query for an address. -/
def arpQuery (mac ip target : Nat) : Bytes :=
  fitBytes 60 (etherHeader broadcast mac 0 0x0806 ++ beBytes 2 1 ++ beBytes 2 0x0800 ++ beBytes 1 6 ++ beBytes 1 4 ++ beBytes 2 1
    ++ beBytes 6 mac ++ beBytes 4 ip ++ zeros 6 ++ beBytes 4 target)

/-- The sender's IPv4 and Ethernet address of an ARP answer. -/
def arpAnswer (f : Bytes) : Option (Nat × Nat) :=
  let (ty, o) := etherType f
  if ty = 0x0806 ∧ be16At f (o + 6) = 2 then some (be32At f (o + 14), be48At f (o + 8)) else none

/-- A frame padded with zeros to the 60 bytes of the shortest frame without its FCS (R224). -/
def padFrame (f : Bytes) : Bytes := f ++ zeros (60 - f.length)

end Sys2Proof.Machine
end

