-- ==== Sys2Proof/Machine/Real.lean ====
section
/-! DEFINITION. Real arithmetic for the rules stated in real numbers (square roots, sines, powers of ten): fixed-point
integers with 96 fraction bits. Where a rule says how its result is rounded, the rounding is made on this value;
notes/assumptions/6 says how close that is. -/

namespace Sys2Proof.Machine

/-- The unit of the fixed-point reals. -/
def fxOne : Int := 2 ^ 96

/-- A fixed-point real from a quotient of integers. -/
def fxDiv (n d : Int) : Int := if d = 0 then 0 else n * fxOne / d

/-- Product of two fixed-point reals. -/
def fxMul (a b : Int) : Int := a * b / fxOne

/-- Quotient of two fixed-point reals (0 when the divisor is 0). -/
def fxQuot (a b : Int) : Int := if b = 0 then 0 else a * fxOne / b

/-- Newton steps of the integer square root from above, at most `fuel` of them. -/
def isqrtIter : Nat → Nat → Nat → Nat
  | 0, _, x => x
  | fuel + 1, n, x =>
    let y := (x + n / x) / 2
    if y < x then isqrtIter fuel n y else x

/-- Integer square root, rounded down. -/
def isqrt (n : Nat) : Nat := if n = 0 then 0 else isqrtIter (n.log2 + 4) n (2 ^ (n.log2 / 2 + 1))

/-- Square root of a fixed-point real (0 for negative values). -/
def fxSqrt (a : Int) : Int := (isqrt (a.toNat * 2 ^ 96) : Nat)

/-- π as a fixed-point real. -/
def fxPi : Int := 248902613312231085230521944622

/-- ln 10 as a fixed-point real. -/
def fxLn10 : Int := 182429585950654714090129938606

/-- ln 2 as a fixed-point real. -/
def fxLn2 : Int := 54916777467707473351141471128

/-- The terms of a Taylor series: term k+1 is term k times x divided by the next divisor of the list. -/
def taylor (x : Int) : List Nat → Int → Int
  | [], _ => 0
  | d :: ds, t => t + taylor x ds (fxMul t x / (d : Int))

/-- e^x for a fixed-point real x between −1 and 1. -/
def fxExpSmall (x : Int) : Int := taylor x ((List.range 33).map (· + 1)) fxOne

/-- e^x for a fixed-point real x, by halving the argument's multiples of ln 2. -/
def fxExp (x : Int) : Int :=
  let k := x / fxLn2
  let r := x - k * fxLn2
  let e := fxExpSmall r
  if 0 ≤ k then e * 2 ^ k.toNat else e / 2 ^ (-k).toNat

/-- 10^x for a fixed-point real x. -/
def fxPow10 (x : Int) : Int := fxExp (fxMul x fxLn10)

/-- The sine series of a fixed-point angle in radians between −π and π. -/
def fxSinRad (x : Int) : Int :=
  let y := -(fxMul x x)
  taylor y ((List.range 24).map (fun i => (2 * i + 2) * (2 * i + 3))) x

/-- The cosine series of a fixed-point angle in radians between −π and π. -/
def fxCosRad (x : Int) : Int :=
  let y := -(fxMul x x)
  taylor y ((List.range 24).map (fun i => (2 * i + 1) * (2 * i + 2))) fxOne

/-- An angle given as a quotient of degrees, reduced to −180 to 180, in radians. -/
def fxRad (num den : Int) : Int :=
  let m := (num + 180 * den) % (360 * den) - 180 * den
  fxMul fxPi (fxDiv m (180 * den))

/-- Sine of num/den degrees. -/
def fxSinDeg (num den : Int) : Int := fxSinRad (fxRad num den)

/-- Cosine of num/den degrees. -/
def fxCosDeg (num den : Int) : Int := fxCosRad (fxRad num den)

/-- Natural logarithm of a positive fixed-point real: Newton steps on e^y = x from a binary starting point. -/
def fxLnIter : Nat → Int → Int → Int
  | 0, _, y => y
  | n + 1, x, y =>
    let e := fxExp y
    fxLnIter n x (y + fxQuot (2 * (x - e)) (x + e))

/-- Natural logarithm of a positive fixed-point real. -/
def fxLn (x : Int) : Int :=
  if x ≤ 0 then 0 else fxLnIter 7 x ((((x.toNat.log2 : Nat) : Int) - 96) * fxLn2)

/-- 20 · log10 of a positive fixed-point real, as a fixed-point real. -/
def fxDb (x : Int) : Int := fxQuot (20 * fxLn x) fxLn10

/-- A fixed-point real times k, rounded to the nearest integer, halves away from zero. -/
def fxRound (a k : Int) : Int := divHalfAway (a * k) fxOne

/-- A fixed-point real times k, rounded down. -/
def fxFloor (a k : Int) : Int := a * k / fxOne

/-- A binary32 pattern as a fixed-point real (subnormals read as zero, R130; NaN and infinities read as zero). -/
def fxOfBin32 (n : Nat) : Int :=
  let e := bitsOf n 30 23
  let m := (2 ^ 23 + bitsOf n 22 0 : Nat)
  let v : Int := if e = 0 ∨ e = 255 then 0
    else if 54 ≤ e then (m : Int) * 2 ^ (e - 54) else (m : Int) / 2 ^ (54 - e)
  if bitOf n 31 then -v else v

end Sys2Proof.Machine
end

