-- ==== Sys2Proof/Machine/Law.lean ====
section
/-! DEFINITION. The rendering laws of chapter 2: from a layout, an object's record and its position, the paths' bus,
target delay, linear gain and distance, with the object's status flags. Pure functions of their arguments. -/

namespace Sys2Proof.Machine

/-- An exact quotient n / 2^k brought to an integer where the spec states no rounding: the floor, or one more where
Config.roundUp says so; exact values stay exact. -/
def shrOpen (kind : Nat) (n : Int) (k : Nat) : Int :=
  let q := n / (2 ^ k : Nat)
  if n % (2 ^ k : Nat) = 0 then q else q + b2n (Config.roundUp kind n)

/-- n / 2^k rounded to nearest; a tie, whose direction the spec does not state, goes as Config.roundUp says. -/
def shrNearest (kind : Nat) (n : Int) (k : Nat) : Int :=
  let h : Int := (2 ^ (k - 1) : Nat)
  let q := n / (2 ^ k : Nat)
  let r := n % (2 ^ k : Nat)
  if r < h then q else if h < r then q + 1 else q + b2n (Config.roundUp kind n)

/-- A fixed-point real times 2^k as an integer with open rounding. -/
def fxOpen (kind : Nat) (a : Int) (k : Nat) : Int := shrOpen kind a (96 - k)

/-- Component-wise difference. -/
def V3.sub (a b : V3) : V3 := ⟨a.x - b.x, a.y - b.y, a.z - b.z⟩

/-- Scalar product. -/
def V3.dot (a b : V3) : Int := a.x * b.x + a.y * b.y + a.z * b.z

/-- Scalar product of fixed-point vectors. -/
def V3.fxDot (a b : V3) : Int := fxMul a.x b.x + fxMul a.y b.y + fxMul a.z b.z

/-- Cross product of fixed-point vectors. -/
def V3.fxCross (a b : V3) : V3 :=
  ⟨fxMul a.y b.z - fxMul a.z b.y, fxMul a.z b.x - fxMul a.x b.z, fxMul a.x b.y - fxMul a.y b.x⟩

/-- A fixed-point multiple of a fixed-point vector. -/
def V3.fxScale (k : Int) (a : V3) : V3 := ⟨fxMul k a.x, fxMul k a.y, fxMul k a.z⟩

/-- Component-wise sum. -/
def V3.add (a b : V3) : V3 := ⟨a.x + b.x, a.y + b.y, a.z + b.z⟩

/-- An integer vector (any unit) as its fixed-point unit vector; the zero vector stays zero. -/
def V3.fxUnit (a : V3) : V3 :=
  let n := fxSqrt (a.dot a * fxOne)
  ⟨fxQuot (a.x * fxOne) n, fxQuot (a.y * fxOne) n, fxQuot (a.z * fxOne) n⟩

/-- A position in millimetres as one in 1/256 mm (R105). -/
def V3.fine (a : V3) : V3 := ⟨a.x * 256, a.y * 256, a.z * 256⟩

/-- The distance in millimetres between two positions in 1/256 mm, as a fixed-point real. -/
def distMm (a b : V3) : Int :=
  let d := a.sub b
  fxSqrt (d.dot d * fxOne) / 256

/-- The unit vector of azimuth and elevation in 0.01 degree (R37). -/
def axisOf (az el : Int) : V3 :=
  let ce := fxCosDeg el 100
  ⟨fxMul ce (fxSinDeg az 100), fxMul ce (fxCosDeg az 100), fxSinDeg el 100⟩

/-- One candidate of a law: the speaker index (none for a DIRECT bus without a speaker record), bus, law delay in
samples and linear law gain (fixed-point reals), the distance in millimetres, and whether a DIRECT entry mutes it. -/
structure Cand where
  spk : Option Nat
  bus : Nat
  delay : Int
  gain : Int
  dist : Int
  mute : Bool
  deriving DecidableEq, Repr

/-- The filter entry an object selects; entry 0 reads as all groups (R43). -/
def groupMask (l : Layout) (i : Nat) : Nat := if i = 0 then 0xFFFFFFFF else l.groups.getD i 0

/-- Eligibility of a speaker (R43). -/
def eligible (l : Layout) (r : Rec) (s : Speaker) : Bool :=
  (s.groups &&& groupMask l r.filter) != 0 && !s.disabled

/-- The speakers of a layout with their indices. -/
def Layout.indexed (l : Layout) : List (Nat × Speaker) := (List.range l.speakers.length).zip l.speakers

/-- The aperture of a DELAY object at a speaker (R54), in 0.01 degree. -/
def apertureOf (l : Layout) (r : Rec) (s : Speaker) : Nat :=
  if r.spread ≠ 0 then r.spread
  else ((l.segments.find? (fun g => g.id == s.segment)).map (·.aperture)).getD 0

/-- How far below the aperture's cosine a speaker still counts as inside: the reach of the fixed-point arithmetic. -/
def angleSlack : Int := 2 ^ 40

/-- Whether a speaker is a DELAY candidate of an object at a position in 1/256 mm (R54). -/
def delayCandidate (l : Layout) (r : Rec) (pos : V3) (s : Speaker) : Bool :=
  let v := s.pos.fine.sub pos
  let u := v.fxUnit
  eligible l r s && s.array && (v != ⟨0, 0, 0⟩) &&
    decide (fxCosDeg (apertureOf l r s) 200 ≤ (axisOf s.azimuth s.elevation).fxDot u + angleSlack)

/-- The number of consecutive indices above i that are kept and lie in the same segment, at most `fuel`. -/
def runUp (keep : Nat → Bool) : Nat → Nat → Nat
  | 0, _ => 0
  | fuel + 1, i => if keep (i + 1) then runUp keep fuel (i + 1) + 1 else 0

/-- The number of consecutive indices below i that are kept, at most `fuel`. -/
def runDown (keep : Nat → Bool) : Nat → Nat → Nat
  | 0, _ => 0
  | fuel + 1, i => if 0 < i && keep (i - 1) then runDown keep fuel (i - 1) + 1 else 0

/-- The weight of the j-th speaker from an end of a run with taper length L (R56). -/
def taperWeight (L j : Nat) : Int :=
  if j ≤ L then let s := fxSinDeg (90 * j) (L + 1); fxMul s s else fxOne

/-- The edge taper of speaker i among the kept candidates (R56). -/
def edgeTaper (l : Layout) (kept : List Nat) (i : Nat) : Int :=
  let segOf := fun j => (l.speakers[j]?).map (·.segment)
  let keep := fun j => kept.contains j && segOf j == segOf i
  let L := ((segOf i).bind (fun id => (l.segments.find? (fun g => g.id == id)).map (·.taper))).getD 0
  min (taperWeight L (runDown keep 1024 i + 1)) (taperWeight L (runUp keep 1024 i + 1))

/-- Insertion of an element into a list by an order. -/
def insertBy {α : Type} (le : α → α → Bool) (a : α) : List α → List α
  | [] => [a]
  | b :: bs => if le a b then a :: b :: bs else b :: insertBy le a bs

/-- A list put in order; equal elements keep their order. -/
def sortBy {α : Type} (le : α → α → Bool) (l : List α) : List α := l.foldr (insertBy le) []

/-- The n candidates of smallest distance, ties to the lower speaker index, in speaker order (R59, R61). -/
def nearest (n : Nat) (cs : List (Nat × Int)) : List (Nat × Int) :=
  let best := (sortBy (fun a b => decide (a.2 < b.2 ∨ (a.2 = b.2 ∧ a.1 ≤ b.1))) cs).take n
  sortBy (fun a b => decide (a.1 ≤ b.1)) best

/-- The status flags of R409: bits NO_SPEAKERS 3, NO_TRIPLET 4, PATH_LIMIT 2. -/
def flagPathLimit : Nat := 4
/-- NO_SPEAKERS. -/
def flagNoSpeakers : Nat := 8
/-- NO_TRIPLET. -/
def flagNoTriplet : Nat := 16

/-- DELAY: candidates kept (at most 256, R61) with their law delay and gain (R54 to R56). `c` is the speed of sound in
2^-32 of 0.1 mm/s and `fs` the media rate. -/
def lawDelay (l : Layout) (r : Rec) (pos : V3) (c : Int) (fs : Nat) : List Cand × Nat :=
  let all := (l.indexed.filter (fun e => delayCandidate l r pos e.2)).map (fun e => (e.1, distMm pos e.2.pos.fine))
  let kept := nearest 256 all
  let idx := kept.map (·.1)
  let dref := distMm pos l.ref.fine
  let cand := kept.filterMap (fun e =>
    (l.speakers[e.1]?).map (fun s =>
      let delay := (e.2 - dref) * (fs * 10 * 2 ^ 32) / c + fxDiv l.preDelay 256
      let g := fxMul (fxQuot ((l.rRef : Int) * fxOne) (max e.2 ((l.rNear : Int) * fxOne))) (edgeTaper l idx e.1)
      ⟨some e.1, s.bus, delay, g, e.2, false⟩))
  (cand, if 256 < all.length then flagPathLimit else 0)

/-- The raw gains of a triplet for a direction: M · p (R57). -/
def rawGains (t : Triplet) (p : V3) : List Int :=
  let m := fun i => fxOfBin32 (t.m.getD i 0)
  [ fxMul (m 0) p.x + fxMul (m 1) p.y + fxMul (m 2) p.z
  , fxMul (m 3) p.x + fxMul (m 4) p.y + fxMul (m 5) p.z
  , fxMul (m 6) p.x + fxMul (m 7) p.y + fxMul (m 8) p.z ]

/-- The smallest of three raw gains. -/
def minGain (g : List Int) : Int := g.foldl min (g.headD 0)

/-- Whether every speaker of a triplet is eligible. -/
def tripletOk (l : Layout) (r : Rec) (t : Triplet) : Bool :=
  [t.a, t.b, t.c].all (fun i => ((l.speakers[i]?).map (eligible l r)).getD false)

/-- The gains of three loudspeakers normalised to unit power. -/
def normGains (g : List Int) : List Int :=
  let n := fxSqrt ((g.map (fun x => fxMul x x)).foldl (· + ·) 0)
  g.map (fun x => fxQuot x n)

/-- The better of two fallback triplets: the one whose smallest raw gain is greater; the earlier on a tie. -/
def betterFallback (best : Option (Triplet × List Int)) (t : Triplet × List Int) : Option (Triplet × List Int) :=
  match best with
  | none => some t
  | some b => if minGain b.2 < minGain t.2 then some t else some b

/-- One panned direction (R57): squared gains per speaker index (none when the direction contributes no power), and
whether the fallback search was used. -/
def panDirection (l : Layout) (r : Rec) (p : V3) : List (Nat × Int) × Bool :=
  let ts := (l.triplets.filter (tripletOk l r)).map (fun t => (t, rawGains t p))
  let sq := fun (t : Triplet) (g : List Int) =>
    let n := (normGains g).map (fun x => fxMul x x)
    [(t.a, n.getD 0 0), (t.b, n.getD 1 0), (t.c, n.getD 2 0)]
  match ts.find? (fun e => e.2.all (fun g => decide (fxDiv (-1) 10000 ≤ g))) with
  | some (t, g) => (sq t g, false)
  | none =>
    match ts.foldl betterFallback none with
    | none => ([], true)
    | some (t, g) =>
      let pos := g.map (fun x => max x 0)
      if pos.all (fun x => decide (x = 0)) then ([], true) else (sq t pos, true)

/-- The nine directions of a spread pan (R58), or p alone. -/
def spreadDirs (p : V3) (spread : Nat) : List V3 :=
  if spread = 0 then [p] else
    let zp : V3 := ⟨-(fxMul p.z p.x), -(fxMul p.z p.y), fxOne - fxMul p.z p.z⟩
    let u : V3 := if p.x = 0 ∧ p.y = 0 then ⟨0, fxOne, 0⟩ else zp.fxUnit
    let w := p.fxCross u
    let cs := fxCosDeg spread 200
    let sn := fxSinDeg spread 200
    p :: (List.range 8).map (fun (k : Nat) =>
      (p.fxScale cs).add (((u.fxScale (fxCosDeg (45 * k) 1)).add (w.fxScale (fxSinDeg (45 * k) 1))).fxScale sn))

/-- VECTOR: power per speaker as the mean of squared gains over the panned directions, normalised (R57, R58). Open in R57, and settled
here: a raw gain between −0.0001 and 0 of an accepted triplet counts with its square, so with its magnitude; at spread 0 too a speaker of
the triplet whose power is 0 gets no path (DESIGN CHOICE, notes/assumptions/59). -/
def lawVector (l : Layout) (r : Rec) (pos : V3) : List Cand × Nat :=
  let d := pos.sub l.ref.fine
  let p : V3 := if d = ⟨0, 0, 0⟩ then ⟨0, fxOne, 0⟩ else d.fxUnit
  let pans := (spreadDirs p r.spread).map (panDirection l r)
  let sums : Tbl Int := (pans.flatMap (·.1)).foldl (fun t e => tmod 0 t e.1 (· + e.2)) []
  let total := (sums.map (·.2)).foldl (· + ·) 0
  let cand := sums.filterMap (fun e =>
    if e.2 ≤ 0 then none else
    (l.speakers[e.1]?).map (fun s =>
      ⟨some e.1, s.bus, 0, fxSqrt (fxQuot e.2 total), distMm pos s.pos.fine, false⟩))
  (cand, if pans.any (·.2) then flagNoTriplet else 0)

/-- NEAREST: the k nearest eligible speakers with inverse-distance weights of constant power (R59). -/
def lawNearest (l : Layout) (r : Rec) (pos : V3) : List Cand × Nat :=
  let all := (l.indexed.filter (fun e => eligible l r e.2)).map (fun e => (e.1, distMm pos e.2.pos.fine))
  let sel := (nearest r.k all).map (fun e => (e, fxQuot fxOne (max e.2 ((l.rNear : Int) * fxOne))))
  let norm := fxSqrt ((sel.map (fun e => fxMul e.2 e.2)).foldl (· + ·) 0)
  (sel.filterMap (fun e => (l.speakers[e.1.1]?).map (fun s =>
    ⟨some e.1.1, s.bus, 0, fxQuot e.2 norm, e.1.2, false⟩)), 0)

/-- A level in 0.01 dB as a linear gain; −32,768 is mute (R38). -/
def gainOfDb (g : Int) : Int := if g = -32768 then 0 else fxPow10 (fxDiv g 2000)

/-- DIRECT: the object's list; a bus with a speaker record takes that speaker's trims (R53, R60). -/
def lawDirect (l : Layout) (direct : List (Nat × Int)) (pos : V3) : List Cand × Nat :=
  (direct.map (fun e =>
    match l.indexed.find? (fun s => s.2.bus == e.1) with
    | some (i, s) => ⟨some i, e.1, 0, gainOfDb e.2, distMm pos s.pos.fine, decide (e.2 = -32768)⟩
    | none => ⟨none, e.1, 0, gainOfDb e.2, 0, decide (e.2 = -32768)⟩), 0)

/-- A law's target for one path: bus, delay in 1/256 sample before clamping, linear gain with object gain and trims (fixed
point) with its parts, the linear law gain and the speaker's trim gain, the distance in millimetres (fixed point), and whether the bus has
a speaker record (R53). -/
structure Target where
  bus : Nat
  delay : Int
  gain : Int
  law : Int
  trim : Int
  dist : Int
  hasSpk : Bool
  deriving DecidableEq, Repr

/-- The linear gain of a path: object gain, speaker trim and law gain, zero where one of them mutes (R38, R53, R62). -/
def linGain (r : Rec) (law trim : Int) : Int :=
  if r.mute || decide (r.gain = -32768) || decide (trim = -32768) then 0 else fxMul (fxPow10 (fxDiv (r.gain + trim) 2000)) law

/-- The candidates of an object's law at a position (R52). -/
def lawOf (l : Layout) (r : Rec) (direct : List (Nat × Int)) (pos : V3) (c : Int) (fs : Nat) : List Cand × Nat :=
  match r.law with
  | 0 => lawDelay l r pos c fs
  | 1 => lawVector l r pos
  | 2 => lawNearest l r pos
  | _ => lawDirect l direct pos

/-- The targets of an object (R53, R61, R62), with its status flags; no layout gives none and NO_SPEAKERS (R49). -/
def targetsOf (l : Option Layout) (r : Rec) (direct : List (Nat × Int)) (pos : V3) (c : Int) (fs : Nat) :
    List Target × Nat :=
  match l with
  | none => ([], flagNoSpeakers)
  | some l =>
    let (cs, fl) := lawOf l r direct pos c fs
    let ts := cs.map (fun k =>
      let spk := k.spk.bind (fun i => l.speakers[i]?)
      let trimD := (spk.map (·.trimDelay)).getD 0
      let trimG := (spk.map (·.trimGain)).getD 0
      let law := if k.mute then 0 else k.gain
      (⟨k.bus, fxRound (k.delay + fxDiv trimD 256) 256, linGain r law trimG, law, trimG, k.dist, spk.isSome⟩ : Target))
    (ts, if cs.isEmpty then fl ||| flagNoSpeakers else fl)

end Sys2Proof.Machine
end

