-- ==== Sys2Proof/Machine/Meta.lean ====
section
/-! DEFINITION. The metadata engine: records and precedence (R64 to R72), trajectories, horizon, convergence and
generations (R102 to R116). -/

namespace Sys2Proof.Machine

/-- A metadata record from its 32 bytes (R64). -/
def recAt (b : Bytes) : Rec :=
  let fl := u16At b 2
  { object := u16At b 0, doppler := bitOf fl 0, air := bitOf fl 1, hold := bitOf fl 2, mute := bitOf fl 3
    stamp := u32At b 4, pos := ⟨s32At b 8, s32At b 12, s32At b 16⟩, gain := s16At b 20, spread := u16At b 22
    law := u8At b 24, filter := u8At b 25, priority := u8At b 26, k := u8At b 27 }

/-- The 32 bytes of a record (R64). -/
def Rec.bytes (r : Rec) : Bytes :=
  le16 r.object ++ le16 (b2n r.doppler + 2 * b2n r.air + 4 * b2n r.hold + 8 * b2n r.mute) ++ le32 r.stamp
    ++ leS32 r.pos.x ++ leS32 r.pos.y ++ leS32 r.pos.z ++ leS16 r.gain ++ le16 r.spread ++ le8 r.law ++ le8 r.filter
    ++ le8 r.priority ++ le8 r.k ++ zeros 4

/-- The validity rules of R65. -/
def Rec.valid (r : Rec) : Bool :=
  decide (r.object ≤ 1023) && decide (r.law ≤ 3)
    && (r.law != 1 || decide (r.spread ≤ 18000)) && (r.law != 0 || decide (r.spread ≤ 36000))
    && (r.law != 2 || decide (1 ≤ r.k ∧ r.k ≤ 16))

/-- Whether a valid record is accepted against an object's precedence mark (R67). -/
def accepts (mark : Option (Nat × Nat)) (stamp src : Nat) : Bool :=
  match mark with
  | none => true
  | some (t, m) => after32 stamp t || (stamp == t && decide (src ≤ m))

/-- Render horizon H in quanta (META_HORIZON; 0 acts as 1, above 48 as 48). -/
def State.horizon (s : State) : Nat := min 48 (max 1 (s.fld Reg.META_HORIZON 5 0))

/-- Convergence length K (META_CONV; 0 acts as 1, above 64 as 64). -/
def State.convLen (s : State) : Nat := min 64 (max 1 (s.fld Reg.META_CONV 6 0))

/-- Extrapolation limit E in quanta (META_EXTRAP; 0 acts as 1). -/
def State.extrap (s : State) : Nat := max 1 (s.fld Reg.META_EXTRAP 15 0)

/-- Whether the object-insert stage is on (FACET_STAGE_SET). -/
def State.objInsert (s : State) : Bool := s.time.objInsert
/-- Whether the bus-insert stage is on. -/
def State.busInsert (s : State) : Bool := s.time.busInsert

/-- The setup frontier Qs in the period of boundary p (R102). -/
def State.frontier (s : State) : Int := (s.time.lastQ : Int) - 1 - b2n s.objInsert

/-- Whether paths are set up now: RENDER or MIRROR. -/
def State.rendering (s : State) : Bool := s.sys.mode == .render || s.sys.mode == .mirror

/-- The magnitude of a vector, rounded down. -/
def V3.norm (a : V3) : Int := (isqrt (a.dot a).toNat : Nat)

/-- A vector scaled to magnitude m when it is longer. -/
def V3.limit (a : V3) (m : Int) : V3 :=
  if m < a.norm then ⟨a.x * m / a.norm, a.y * m / a.norm, a.z * m / a.norm⟩ else a

/-- A vector times n / d, rounded to nearest. -/
def V3.ratio (a : V3) (n d : Int) : V3 := ⟨divHalfAway (a.x * n) d, divHalfAway (a.y * n) d, divHalfAway (a.z * n) d⟩

/-- The unit of trajectory velocities: 2^-48 of 1/256 mm per sample. -/
def vOne : Int := 2 ^ 48

/-- c/2 in velocity units (R105): c is in 2^-32 of 0.1 mm/s. -/
def vLimit (c : Int) (fs : Nat) : Int := c * 256 * 2 ^ 16 / (20 * fs)

/-- 98,100 mm/s² in acceleration units (R105). -/
def aLimit (fs : Nat) : Int := 98100 * 256 * vOne / ((fs : Int) * fs)

/-- The velocity of the first-order model between two fixes (R105). -/
def slope (b a : Fix) : V3 := if b.t = a.t then ⟨0, 0, 0⟩ else (b.p.sub a.p).ratio vOne (b.t - a.t)

/-- The model of the newest fixes (R105), with whether the c/2 clamp acted. `prev` is the previous model. -/
def modelOf (fixes : List Fix) (hold second : Bool) (prev : Option Traj) (c : Int) (fs : Nat) : Traj × Bool :=
  let fin := fun (t2 : Int) (p2 v a : V3) =>
    ((⟨t2, p2, v.limit (vLimit c fs), a.limit (aLimit fs), hold⟩ : Traj), decide (vLimit c fs < v.norm))
  match fixes with
  | [] => (⟨0, ⟨0, 0, 0⟩, ⟨0, 0, 0⟩, ⟨0, 0, 0⟩, hold⟩, false)
  | [f2] => (⟨f2.t, f2.p, ⟨0, 0, 0⟩, ⟨0, 0, 0⟩, hold⟩, false)
  | f2 :: f1 :: rest =>
    if f2.t - f1.t < 8 then
      let v := (prev.map (·.v)).getD ⟨0, 0, 0⟩
      let a := (prev.map (·.a)).getD ⟨0, 0, 0⟩
      (⟨f2.t, f2.p, v, a, hold⟩, false)
    else
      let v := slope f2 f1
      match rest with
      | f0 :: _ =>
        if second && decide (8 ≤ f1.t - f0.t) then
          let v1 := slope f1 f0
          -- a = (v - v1) / (m2 - m1) with m2 - m1 = (t2 - t0) / 2; v at t2 = v + a (t2 - m2), t2 - m2 = (t2 - t1) / 2
          let a := (v.sub v1).ratio 2 (f2.t - f0.t)
          fin f2.t f2.p (v.add (a.ratio (f2.t - f1.t) 2)) a
        else fin f2.t f2.p v ⟨0, 0, 0⟩
      | [] => fin f2.t f2.p v ⟨0, 0, 0⟩

/-- One component of pos(s) of a model, `ds` samples from t2: the position rounded to the nearest 1/256 mm, halves away from zero (R105). -/
def posComp (p v a ds : Int) : Int := divHalfAway (p * (2 * vOne) + v * ds * 2 + a * ds * ds) (2 * vOne)

/-- The sample distance from t2 at which a model is evaluated (R105). -/
def Traj.reach (m : Traj) (smp : Int) (e : Nat) : Int :=
  if m.hold then 0 else min (smp - m.t2) (8 * (e : Int))

/-- Whether a model is stale at a sample (R105). -/
def Traj.stale (m : Traj) (smp : Int) (e : Nat) : Bool := !m.hold && decide (m.t2 + 8 * (e : Int) < smp)

/-- The position a model yields at a sample, in 1/256 mm (R105). -/
def Traj.pos (m : Traj) (smp : Int) (e : Nat) : V3 :=
  let ds := m.reach smp e
  ⟨posComp m.p2.x m.v.x m.a.x ds, posComp m.p2.y m.v.y m.a.y ds, posComp m.p2.z m.v.z m.a.z ds⟩

/-- One component of a converging position: i K-ths of the way from the old one to the new one (R111). Its rounding to 1/256 mm is open;
the position is rounded as R105 rounds those of a model, halves away from zero (DESIGN CHOICE, notes/assumptions/59). -/
def mixComp (old new : Int) (i k : Int) : Int := divHalfAway (old * k + (new - old) * i) k

/-- A converging position. -/
def V3.mix (old new : V3) (i k : Int) : V3 := ⟨mixComp old.x new.x i k, mixComp old.y new.y i k, mixComp old.z new.z i k⟩

/-- The position of quantum q from applied updates, newest first, with convergence (R106, R111); none before the first
affected quantum of the first update (R107). -/
def posOf (e : Nat) : List Upd → Int → Option V3
  | [], _ => none
  | u :: us, q =>
    if q < u.f then posOf e us q
    else
      let new := u.traj.pos (8 * q + 7) e
      if q < u.f + u.k then
        match posOf e us q with
        | some old => some (old.mix new (q - u.f + 1) u.k)
        | none => some new
      else some new

/-- The update in force for quantum q: the newest with F at most q (R114). -/
def updAt (us : List Upd) (q : Int) : Option Upd := us.find? (fun u => decide (u.f ≤ q))

/-- Whether a convergence runs at quantum q: that of the update in force, from an earlier position (R111). -/
def convergingAt : List Upd → Int → Bool
  | [], _ => false
  | u :: us, q => if q < u.f then convergingAt us q else decide (q < u.f + u.k) && (posOf 1 us q).isSome

/-- Applied updates that can still matter from quantum q on: those up to the first whose convergence has ended. -/
def pruneUpds (q : Int) : List Upd → List Upd
  | [] => []
  | u :: us => if u.f + u.k ≤ q then [u] else u :: pruneUpds q us

/-! ### Work ahead (R103, R114, R115) -/

/-- The work ahead that a test of object and quantum picks is discarded: each prediction, each selection and each staged path counts as
one item of ITEM_DISCARD. It is worked out again at the next setup (DESIGN CHOICE, notes/assumptions/60). -/
def State.discardItems (s : State) (p : Nat → Int → Bool) : State :=
  let lost := (s.scene.objs.map (fun (e : Nat × Obj) => (e.2.spec.filter (fun x => p e.1 x.q)).length)).foldl (· + ·) 0
  let gone := (s.prism.staging.filter (fun x => p x.path.obj x.q)).length
  let n := 2 * lost + gone
  if n = 0 then s
  else
    let s1 := s.onScene (fun x => { x with objs := x.objs.map (fun (e : Nat × Obj) => (e.1, { e.2 with spec := e.2.spec.filter (fun y => !p e.1 y.q) })) })
    let s2 := s1.onPrism (fun x => { x with staging := x.staging.filter (fun y => !p y.path.obj y.q) })
    (s2.bump (Reg.META_CNT 4) n).perfAdd 10 n

/-! ### Updates -/

/-- The sample index a 32-bit timestamp stands for, against the frontier (R109): d as a signed distance. -/
def stampIndex (qs : Int) (stamp : Nat) : Int :=
  8 * (qs + 1) + toSigned 32 (((stamp : Int) - 8 * (qs + 1)) % (2 ^ 32 : Nat)).toNat

/-- d of R109 at a frontier. -/
def stampDist (qs : Int) (stamp : Nat) : Nat := (((stamp : Int) - 8 * (qs + 1)) % (2 ^ 32 : Nat)).toNat

/-- An object with an update applied whose time is t and whose first affected quantum is f, and whether the c/2 clamp acted. One that
replaces its equal-timestamp predecessor builds on the update before that one (R112). -/
def Obj.applied (o : Obj) (r : Rec) (t f : Int) (k : Nat) (c : Int) (fs : Nat) : Obj × Bool :=
  let repl := (o.fixes.head?.map (fun x => decide (x.t = t))).getD false
  let fixes := (⟨t, r.pos.fine⟩ :: (if repl then o.fixes.drop 1 else o.fixes)).take 3
  let prev := if repl then o.prior else o.upds.head?.map (·.traj)
  let (m, clamped) := modelOf fixes r.hold o.second prev c fs
  let gen := (o.gen + 1) % 65536
  ({ o with fixes := fixes, upds := ⟨f, k, m, r, gen⟩ :: o.upds, gen := gen, prior := prev }, clamped)

/-- Applies an update with first affected quantum F (R109, R111, R112, R114): the work ahead from F on is discarded. -/
def State.applyUpd (s : State) (r : Rec) (f : Int) : State :=
  let (o, clamped) := (s.obj r.object).applied r (stampIndex s.frontier r.stamp) f s.convLen s.scene.c s.time.fs
  let s1 := ((s.setObj r.object o).discardItems (fun j q => j == r.object && decide (f ≤ q))).perfAdd 8
  if clamped then s1.bump (Reg.META_CNT 5) else s1

/-- A late update (R109). -/
def State.applyLate (s : State) (r : Rec) : State :=
  (((s.applyUpd r (s.frontier + 1)).bump (Reg.META_CNT 0)).raise Reg.META_INT_STATUS 0).perfAdd 9

/-- An update inside the horizon, d samples from the frontier (R109). -/
def State.applyInside (s : State) (r : Rec) (d : Nat) : State := (s.applyUpd r (s.frontier + 1 + (d / 8 : Nat))).bump (Reg.META_CNT 1)

/-- The queue with a record put into it: it takes the entry of one of its own timestamp, or the newest entry of a full queue (R110). -/
def Obj.enqueued (o : Obj) (r : Rec) : Obj :=
  if o.queue.any (fun x => x.stamp == r.stamp) then { o with queue := o.queue.map (fun x => if x.stamp = r.stamp then r else x) }
  else { o with queue := o.queue.take 3 ++ (if o.queue.length < 4 then o.queue.drop 3 else []) ++ [r] }

/-- A queued update beyond the horizon (R110): a full queue replaces its newest entry. -/
def State.enqueue (s : State) (r : Rec) : State :=
  let o := s.obj r.object
  let s1 := s.setObj r.object (o.enqueued r)
  if o.queue.length < 4 then s1 else (s1.bump (Reg.META_CNT 3)).raise Reg.META_INT_STATUS 1

/-- An update handled in the present interval is noted (R116). -/
def State.noteSince (s : State) (r : Rec) (src : Nat) (f : Option Int) : State :=
  s.setObj r.object { s.obj r.object with since := (s.obj r.object).since ++ [⟨r, src, f⟩] }

/-- An accepted record becomes an update (R109, R110). A record that replaces a still queued predecessor of its own
timestamp takes the predecessor's entry and changes nothing else. -/
def State.update (s : State) (r : Rec) (src : Nat) (sameStamp : Bool) : State :=
  let o := s.obj r.object
  let d := stampDist s.frontier r.stamp
  if sameStamp && o.queue.any (fun x => x.stamp == r.stamp) then (s.setObj r.object (o.enqueued r)).noteSince r src none
  else if 2 ^ 31 ≤ d then (s.applyLate r).noteSince r src (some (s.frontier + 1))
  else if d / 8 < s.horizon then (s.applyInside r d).noteSince r src (some (s.frontier + 1 + (d / 8 : Nat)))
  else ((s.enqueue r).bump (Reg.META_CNT 2)).noteSince r src none

/-- A manager pends an accepted record for its workers, one per object, replaced in place (R442). -/
def State.pendRec (s : State) (r : Rec) : State :=
  if s.hier.role = 1 then
    let p := s.hier.pend
    let p1 := if p.any (fun e => e.1 == r.object) then
        p.map (fun e => if e.1 = r.object then (r.object, r.bytes) else e)
      else p ++ [(r.object, r.bytes)]
    (s.onHier (fun x => { x with pend := p1 }))
  else s

/-- The result of judging one record. -/
inductive Verdict where
  | accepted | superseded | invalid
  deriving DecidableEq, Repr

/-- Judges one record of a source (R65, R67, R68, R108). `own` marks records a manager received from its own scene group,
which it does not pend again (R442). -/
def State.judge (s : State) (src : Nat) (own : Bool) (r : Rec) : State × Verdict :=
  if !r.valid then (s.bump (Reg.META_CNT 6), .invalid)
  else
    let o := s.obj r.object
    if !accepts o.mark r.stamp src then (s.bump (Reg.META_CNT 7), .superseded)
    else
      let same := (o.mark.map (fun m => m.1 == r.stamp)).getD false
      let o1 := { o with present := true, mark := some (r.stamp, src), newest := some r }
      let s1 := s.setObj r.object o1
      let s2 := if own then s1 else s1.pendRec r
      (if s2.rendering then s2.update r src same else s2, .accepted)

/-- Judges records in their order (R68) and counts accepted, superseded and invalid ones. -/
def State.judgeAll (s : State) (src : Nat) (own : Bool) : List Rec → State × (Nat × Nat × Nat)
  | [] => (s, (0, 0, 0))
  | r :: rs =>
    let (s1, v) := s.judge src own r
    let (s2, n) := s1.judgeAll src own rs
    match v with
    | .accepted => (s2, (n.1 + 1, n.2.1, n.2.2))
    | .superseded => (s2, (n.1, n.2.1 + 1, n.2.2))
    | .invalid => (s2, (n.1, n.2.1, n.2.2 + 1))

/-- An object as an OBJECT_RELEASE leaves it: model, queue, convergence and mark cleared, generation advanced (R107, R114). -/
def Obj.released (o : Obj) : Obj :=
  { o with present := false, mark := none, newest := none, fixes := [], upds := [], queue := [], prior := none, converging := false
           gen := (o.gen + 1) % 65536 }

/-- An update of the interval acts again, after a release that was handled after it (R116). -/
def State.again (s : State) (j : Nat) (e : Since) : State :=
  let o := { s.obj j with present := true, mark := some (e.md.stamp, e.src), newest := some e.md }
  match e.f with
  | some f => s.setObj j (o.applied e.md (stampIndex s.frontier e.md.stamp) f s.convLen s.scene.c s.time.fs).1
  | none => s.setObj j (o.enqueued e.md)

/-- OBJECT_RELEASE of one object (R107, R108, R114). While paths render it acts before the updates of the same interval, which then make
the object present again (R116); the paths ramp out from the next setup. An object that is not present is left alone (R128). -/
def State.release (s : State) (j : Nat) : State :=
  let o := s.obj j
  if !o.present then s
  else if !s.rendering then s.setObj j o.released
  else
    let n := (o.since.filter (fun e => e.f.isSome)).length
    let o1 := { o with gen := (o.gen + 65536 - n % 65536) % 65536 }
    let s1 := (s.setObj j { o1.released with relDue := true }).discardItems (fun k _ => k == j)
    s1.each o.since (fun t e => t.again j e)

/-- Releases the queued updates of one object that fall inside the horizon or have become late (R110). -/
def State.releaseQueue (s : State) (j : Nat) : Nat → State
  | 0 => s
  | fuel + 1 =>
    let o := s.obj j
    match o.queue with
    | [] => s
    | r :: rs =>
      let d := stampDist s.frontier r.stamp
      let s0 := s.setObj j { o with queue := rs }
      if 2 ^ 31 ≤ d then (s0.applyLate r).releaseQueue j fuel
      else if d / 8 < s.horizon then (s0.applyInside r d).releaseQueue j fuel
      else s

/-- The objects with any state of their own. -/
def State.objKeys (s : State) : List Nat := s.scene.objs.map (·.1)

/-- The settings of META_CFG_SET take effect at the next boundary, in every mode (R113): the work beyond a shorter horizon is
discarded. -/
def State.metaConfig (s : State) : State :=
  match s.scene.cfgNew with
  | none => s
  | some (h, k, e) =>
    let s1 := ((s.setFld Reg.META_HORIZON 5 0 h).setFld Reg.META_CONV 6 0 k).setFld Reg.META_EXTRAP 15 0 e
    (s1.onScene (fun x => { x with cfgNew := none })).discardItems (fun _ q => decide (s.frontier + (h : Int) < q))

/-- At a boundary where paths render, after the frontier has advanced: queued entries are released (R110). -/
def State.metaBoundary (s : State) : State :=
  if s.rendering then s.each s.objKeys (fun t j => t.releaseQueue j 4) else s

/-- Entry to RENDER or MIRROR (R108): every object with a kept record is present, with that record as its only update,
from the first setup of R526. -/
def State.metaEntry (s : State) : State :=
  s.each s.objKeys (fun t j =>
    let o := { t.obj j with fixes := [], upds := [], queue := [], prior := none, spec := [], since := [], relDue := false }
    match o.newest with
    | none => t.setObj j { o with present := false }
    | some r =>
      let tm := stampIndex t.frontier r.stamp
      let m : Traj := ⟨tm, r.pos.fine, ⟨0, 0, 0⟩, ⟨0, 0, 0⟩, r.hold⟩
      let gen := (o.gen + 1) % 65536
      t.setObj j { o with present := true, fixes := [⟨tm, r.pos.fine⟩], upds := [⟨t.frontier, 0, m, r, gen⟩], gen := gen })

/-- Leaving RENDER or MIRROR for PARK (R108): marks and newest records stay, everything else starts afresh. No quantum is committed any
more: the current bits of R63 are cleared with it (DESIGN CHOICE, notes/assumptions/59); the sticky bits stay. -/
def State.metaPark (s : State) : State :=
  s.each s.objKeys (fun t j =>
    let o := t.obj j
    t.setObj j { o with fixes := [], upds := [], queue := [], cur := 0, converging := false, waiting := 0, prior := none, spec := []
                        since := [], relDue := false })

end Sys2Proof.Machine
end

