-- ==== Sys2Proof/Machine/Focus.lean ====
section
/-! DEFINITION. The placement engine (Focus): path setup, ramps, budget admission, delay cross-fade admission, the path
table on its lanes, and DRAM placement (R50, R61 to R63, R79, R85 to R88, R95, R117 to R125, R441). -/

namespace Sys2Proof.Machine

/-! ### Budget and allowance -/

/-- Whether the full budget is in force: MK9610-IE with half B on and not being changed (R95, R98, R99). -/
def State.fullBudget (s : State) : Bool := !s.sys.orderIL && s.prism.half

/-- The path budget in force (R95). -/
def State.pathBudget (s : State) : Nat :=
  (if s.fullBudget then 131072 else 65536) / (if s.time.rate96 then 2 else 1)

/-- The cross-fade allowance in force (R87). -/
def State.xfadeAllow (s : State) : Nat :=
  (if s.fullBudget then 32768 else 16384) / (if s.time.rate96 then 2 else 1)

/-- Whether a bus is owned: every bus with role none, otherwise the mapped ones (R441). A new map acts on setups from
the first that starts after the command, so a map still waiting for serialisation counts already. -/
def State.owned (s : State) (bus : Nat) : Bool :=
  s.hier.role == 0 ||
    !((match s.scene.outputNew.find? (fun (e : Nat × List (Nat × Nat)) => e.1 == bus) with
      | some (_, l) => l
      | none => tget [] s.scene.outputMap bus).isEmpty)

/-! ### Setup of one object -/

/-- What the law asks of one object for one quantum: its targets, status flags and record. -/
structure ObjSetup where
  obj : Nat
  targets : List Target
  flags : Nat
  md : Option Rec
  gen : Nat
  deriving DecidableEq, Repr

/-- The flag bits of R409 that setup decides: BUDGET_DEFERRED 0, WINDOW_CLAMPED 1, STALE 6. -/
def flagDeferred : Nat := 1
/-- WINDOW_CLAMPED. -/
def flagClamped : Nat := 2
/-- STALE. -/
def flagStale : Nat := 64
/-- SOURCE_ABSENT. -/
def flagAbsent : Nat := 32

/-- The largest path delay, 4,087 samples (R79). -/
def delayMax : Int := 1046272

/-- A target delay clamped to the window (R79). -/
def clampDelay (d : Int) : Int := clampInt 0 delayMax d

/-- Whether a target delay is clamped (R79). -/
def delayClamped (d : Int) : Bool := decide (d < 0 ∨ delayMax < d)

/-- The law's targets of object j for quantum q (R106), with the flags the law decides. An object without a position has none; with no
active layout a present one is flagged NO_SPEAKERS all the same (R49). -/
def State.objSetup (s : State) (j : Nat) (q : Int) : ObjSetup :=
  let o := s.obj j
  match posOf s.extrap o.upds q, updAt o.upds q with
  | some pos, some u =>
    let (ts, fl) := targetsOf s.scene.active u.md o.direct pos s.scene.c s.time.fs
    let newest := o.upds.head?.map (·.traj)
    let stale := (newest.map (fun m => m.stale (8 * q + 7) s.extrap)).getD false
    ⟨j, ts.filter (fun t => s.owned t.bus), if stale then fl ||| flagStale else fl, some u.md, u.gen⟩
  | _, _ => ⟨j, [], if o.present && s.scene.active.isNone then flagNoSpeakers else 0, none, o.gen⟩

/-! ### Path targets -/

/-- A linear gain as Q2.30, saturating just under +6.02 dB (R38). -/
def gainQ (lin : Int) : Int := min (2 ^ 31 - 1) (fxOpen 1 lin 30)

/-- The gain target of a path at a ramp fraction: that fraction of the path gain (R38, R117). -/
def rampGain (lin : Int) (quarters : Nat) : Int := shrOpen 10 (gainQ lin * quarters) 2

/-- α in force (PRISM_AIR; above 1,000 acts as 1,000). -/
def State.airAlpha (s : State) : Nat := min 1000 (s.fld Reg.PRISM_AIR 9 0)

/-- The shelf coefficient of a path (R88) in Q0.16 with 0xFFFF for bypass. `dist` is in millimetres, fixed point. -/
def State.shelfOf (s : State) (air hasSpk : Bool) (dist : Int) : Nat :=
  if !air || !hasSpk then 0xFFFF
  else
    let g := max (-(24 * fxOne)) (-((s.airAlpha : Int) * dist / 1000000))
    min 0xFFFF (fxOpen 2 (fxPow10 (g / 20)) 16).toNat

/-- The cross-fade threshold (PRISM_XFADE_STEP; 0 acts as 1). -/
def State.xfadeStep (s : State) : Int := max 1 (s.fld Reg.PRISM_XFADE_STEP 15 0 : Nat)

/-- What a path to a bus whose speaker the law does not select still follows: the record in force, its position, and the speaker of the
bus in the active layout (R53, R88, R117). -/
structure Aim where
  md : Rec
  pos : V3
  spk : Option Speaker
  deriving DecidableEq, Repr

/-- The aim of object j's path to a bus for quantum q; none where no update is in force. -/
def State.aim (s : State) (j bus : Nat) (q : Int) : Option Aim :=
  let o := s.obj j
  match posOf s.extrap o.upds q, updAt o.upds q with
  | some pos, some u => some ⟨u.md, pos, s.scene.active.bind (fun l => l.speakers.find? (fun x => x.bus == bus))⟩
  | _, _ => none

/-- The delay the law gives towards an aim, before clamping; without a speaker record the last one, d (R53, R55, R117). -/
def State.aimDelay (s : State) (a : Aim) (d : Int) : Int :=
  match a.spk, s.scene.active with
  | some x, some l =>
    if a.md.law = 0 then
      fxRound ((distMm a.pos x.pos.fine - distMm a.pos l.ref.fine) * (s.time.fs * 10 * 2 ^ 32) / s.scene.c
        + fxDiv (l.preDelay + x.trimDelay) 256) 256
    else x.trimDelay
  | _, _ => d

/-- The shelf coefficient towards an aim: without a speaker record the last one, a, while AIR is set (R88, R89). -/
def State.aimShelf (s : State) (x : Aim) (a : Nat) : Nat :=
  match x.spk with
  | some k => s.shelfOf x.md.air true (distMm x.pos k.pos.fine)
  | none => if x.md.air then a else 0xFFFF

/-- A leaving path with its targets for the next quantum (R117): it falls. Object gain, mute, trim, delay, shelf and clamping follow the
object (R62, R79, R88); the law gain is the last the law gave (DESIGN CHOICE, notes/assumptions/60). Of a released object everything stays as
it was. -/
def State.leavePath (s : State) (q : Int) (p : Path) : Path :=
  let n := p.quarters - 1
  let p0 := { p with selected := false, quarters := n }
  match (if p.released then none else s.aim p.obj p.bus q) with
  | none => { p0 with g1 := rampGain p.lin n, a1 := p.a0 }
  | some x =>
    let d := s.aimDelay x p.d1
    let trim := (x.spk.map (·.trimGain)).getD p.trim
    let lin := linGain x.md p.law trim
    { p0 with d1 := clampDelay d, clamped := delayClamped d, trim := trim, lin := lin, g1 := rampGain lin n, a1 := s.aimShelf x p.a0
              doppler := x.md.doppler, air := x.md.air }

/-- A continuing path with its targets for the next quantum (R117): selected again rises, otherwise falls. -/
def State.stepPath (s : State) (su : ObjSetup) (q : Int) (p : Path) : Path :=
  match (if p.released then none else su.targets.find? (fun t => t.bus == p.bus)), su.md with
  | some t, some r =>
    let n := min 4 (p.quarters + 1)
    { p with selected := true, quarters := n, lin := t.gain, law := t.law, trim := t.trim, d1 := clampDelay t.delay
             clamped := delayClamped t.delay, g1 := rampGain t.gain n, a1 := s.shelfOf r.air t.hasSpk t.dist, doppler := r.doppler
             air := r.air, gen := su.gen }
  | _, _ => { s.leavePath q p with gen := if p.released then p.gen else su.gen }

/-- A path entering for a target (R89, R117): it starts at its target delay with no gain and the shelf state at zero. -/
def State.newPath (s : State) (su : ObjSetup) (t : Target) : Path :=
  let dop := (su.md.map (·.doppler)).getD false
  let air := (su.md.map (·.air)).getD false
  let d := clampDelay t.delay
  let a := s.shelfOf air t.hasSpk t.dist
  { obj := su.obj, bus := t.bus, d0 := d, d1 := d, g0 := 0, g1 := rampGain t.gain 1, a0 := a, a1 := a, lp := 0
    lin := t.gain, quarters := 1, selected := true, xfade := none, waitFrom := none, doppler := dop, air := air
    clamped := delayClamped t.delay, gen := su.gen, paused := false, law := t.law, trim := t.trim, released := false }

/-! ### Admission (R119, R120) -/

/-- Running totals of admission: room, entry slots, admitted paths, deferred objects with their count, and objects deferred
by the entry limit alone. -/
structure Admit where
  room : Nat
  slots : Nat
  paths : List Path
  deferred : Tbl Nat
  limited : Nat
  deriving DecidableEq, Repr

/-- Admits or defers one object's entering paths whole (R119). -/
def admitObj (a : Admit) (e : Nat × List Path) : Admit :=
  let n := e.2.length
  if n ≤ a.room ∧ n ≤ a.slots then
    { a with room := a.room - n, slots := a.slots - n, paths := a.paths ++ e.2 }
  else { a with deferred := tput a.deferred e.1 n, limited := a.limited + b2n (decide (n ≤ a.room)) }

/-! ### The path table (R121, R122) -/

/-- Whether a change of half B to a state runs, past a number of its steps (R98, R99). -/
def State.halfChanging (s : State) (on : Bool) : Option Nat :=
  (s.prism.halfChange.filter (fun c => c.on == on)).map (·.step)

/-- The lanes a new table is packed on: 8, or 4 with half B off; 8 again once half B has passed its test (R98, R99). -/
def State.laneCount (s : State) : Nat :=
  if s.fullBudget || (!s.sys.orderIL && decide (0 < (s.halfChanging true).getD 0)) then 8 else 4

/-- The lanes that render: half B keeps its share until the re-packed table is committed (R98). -/
def State.renderLanes (s : State) : Nat :=
  if s.fullBudget || (!s.sys.orderIL && (match s.halfChanging false with
    | some k => decide (k < 2)
    | none => false)) then 8 else 4

/-- The load of each bus: its paths plus its cross-fade reads (R121). -/
def busLoads (ps : List Path) : Tbl Nat := ps.foldl (fun t p => tmod 0 t p.bus (· + 1 + b2n p.xfade.isSome)) []

/-- The least-loaded lane, the lowest on a tie. -/
def leastLane (n : Nat) (loads : Tbl Nat) : Nat :=
  (List.range n).foldl (fun best i => if tget 0 loads i < tget 0 loads best then i else best) 0

/-- The state of the assignment of buses to lanes: lanes given, load of each lane, records moved. -/
structure Packing where
  lanes : Tbl Nat
  loads : Tbl Nat
  moves : Nat
  deriving DecidableEq, Repr

/-- One bus assigned to the least-loaded of n lanes (R121). A bus whose continuing records would take the quantum past 8,192 moves stays
on its lane (R123): a record counts as moved when its lane changes (DESIGN CHOICE, notes/assumptions/60). `b` is the bus and its load. -/
def packBus (n : Nat) (old : Tbl Nat) (cont : Tbl Nat) (a : Packing) (b : Nat × Nat) : Packing :=
  let l := leastLane n a.loads
  let k := tget 0 cont b.1
  let was := tget l old b.1
  let stays := decide (was = l) || decide (8192 < a.moves + k)
  let lane := if stays && decide (0 < k) then was else l
  ⟨tput a.lanes b.1 lane, tmod 0 a.loads lane (· + b.2), if decide (0 < k) && lane != was then a.moves + k else a.moves⟩

/-- Buses assigned to n lanes: largest load first, ties in ascending bus ID, each to the least-loaded lane (R121). `old` gives the lanes of
the committed table and `cont` the continuing records of each bus. -/
def assignLanes (n : Nat) (old cont : Tbl Nat) (ps : List Path) : Packing :=
  (sortBy (fun a b => decide (b.2 < a.2 ∨ (a.2 = b.2 ∧ a.1 ≤ b.1))) (busLoads ps)).foldl (packBus n old cont) ⟨[], [], 0⟩

/-- The sort key of a path in the table: lane, bus, then the order of R122 within the bus. The order of the buses of a lane, ascending, and
that of objects whose IDs are equal modulo 64, ascending, are open (DESIGN CHOICE, notes/assumptions/59). -/
def pathKey (lanes : Tbl Nat) (p : Path) : Nat :=
  let l := tget 0 lanes p.bus
  ((l * 1024 + p.bus) * 64 + (p.obj % 64 + 64 - (8 * l) % 64) % 64) * 1024 + p.obj

/-- The paths in table order. -/
def tableOrder (lanes : Tbl Nat) (ps : List Path) : List Path :=
  sortBy (fun a b => decide (pathKey lanes a ≤ pathKey lanes b)) ps

/-! ### Delay cross-fades (R86, R87) -/

/-- Whether a path without DOPPLER is due a cross-fade: none runs, and the target differs from H by the threshold. -/
def xfadeDue (step : Int) (p : Path) : Bool :=
  !p.doppler && p.xfade.isNone && decide (step ≤ (p.d1 - p.d0).natAbs)

/-- The paths with their waiting marks brought up to date for quantum q: newly due ones start to wait, others stop. -/
def markDue (step q : Int) (p : Path) : Path :=
  if xfadeDue step p then { p with waitFrom := some (p.waitFrom.getD q) } else { p with waitFrom := none }

/-- The due quanta in ascending order: cross-fades are considered oldest first, each quantum's in table order (R87). -/
def dueOrder (ps : List Path) : List (Int × Nat × Nat) :=
  sortBy (fun a b => decide (a.1 ≤ b.1)) (ps.filterMap (fun p => p.waitFrom.map (fun w => (w, p.obj, p.bus))))

/-- Starts the admitted cross-fades: the first `room` of the due order. -/
def startXfades (room : Nat) (ps : List Path) : List Path :=
  let adm := (dueOrder ps).take room
  ps.map (fun p =>
    if adm.any (fun e => e.2.1 == p.obj && e.2.2 == p.bus) then { p with xfade := some ⟨p.d1, 0⟩, waitFrom := none } else p)

/-! ### The setup of a quantum -/

/-- The fully ramped-out paths leave the table (R117). -/
def livePaths (ps : List Path) : List Path := ps.filter (fun p => p.selected || p.quarters != 0)

/-- The paths of an object's law at a quantum that the table does not hold: they enter (R117). A path that ramps out for an OBJECT_RELEASE
is not taken up again (R116). -/
def State.entering (s : State) (prev : List Path) (u : ObjSetup) : List Path :=
  (u.targets.filter (fun t => !prev.any (fun p => p.obj == u.obj && p.bus == t.bus && !p.released))).map (s.newPath u)

/-- Records of each bus. -/
def busCounts (ps : List Path) : Tbl Nat := ps.foldl (fun t p => tmod 0 t p.bus (· + 1)) []

/-- The table of a setup: paths in order, lanes and moves. -/
structure TableSet where
  paths : List Path
  packing : Packing
  deriving DecidableEq, Repr

/-- The path table for quantum q from the continuing paths, which stand in the order of the committed table, and the admitted ones (R86,
R87, R121 to R123): due cross-fades are admitted in that order, then the buses are packed and the records put in order. -/
def State.buildTable (s : State) (q : Int) (cont new : List Path) : TableSet :=
  let marked := cont.map (markDue s.xfadeStep q)
  let running := (marked.filter (fun p => p.xfade.isSome)).length
  let all := startXfades (s.xfadeAllow - running) marked ++ new
  let pk := assignLanes s.laneCount s.prism.busLane (busCounts cont) all
  ⟨tableOrder pk.lanes all, pk⟩

/-- The setup of quantum q (R117 to R123): continuing paths stepped, entering paths admitted by priority and object ID, the table, and
what the commit will put in force. `setups` are the objects' own setups. -/
def State.setupOf (s : State) (q : Int) (setups : List ObjSetup) : Setup × Admit :=
  let prev := livePaths s.prism.paths
  let find := fun j => ((setups.find? (fun u => u.obj == j)).getD ⟨j, [], 0, none, 0⟩)
  let cont := prev.map (fun p => s.stepPath (find p.obj) q p)
  let entering := (setups.map (fun u => (u, s.entering prev u))).filter (fun e => !e.2.isEmpty)
  let prio := fun (u : ObjSetup) => ((u.md.map (·.priority)).getD 0) * 1024 + u.obj
  let order := (sortBy (fun a b => decide (prio a.1 ≤ prio b.1)) entering).map (fun e => (e.1.obj, e.2))
  let adm := order.foldl admitObj ⟨s.pathBudget - cont.length, 8192, [], [], 0⟩
  let tb := s.buildTable q cont adm.paths
  let reads := (tb.paths.filter (fun p => p.xfade.isSome)).length
  let bent : Tbl Nat := (tb.paths.filter (·.clamped)).foldl (fun t p => tput t p.obj flagClamped) []
  let flags : Tbl Nat := setups.foldl (fun t u =>
    tset 0 t u.obj (u.flags ||| tget 0 bent u.obj ||| (if adm.deferred.any (fun d => d.1 == u.obj) then flagDeferred else 0))) bent
  let gens : Tbl Nat := setups.foldl (fun t u => tput t u.obj u.gen) []
  (⟨q, tb.paths, flags, adm.deferred, reads, tb.packing.moves, 0, tb.packing.lanes, gens⟩, adm)

/-! ### Work ahead (R103, R114, R118) -/

/-- The work ahead of an object inside the horizon after a setup of quantum q: what has been worked out stays, the rest is worked out. -/
def State.specOf (s : State) (j : Nat) (q : Int) : List Spec :=
  let o := s.obj j
  (List.range s.horizon).filterMap (fun (i : Nat) =>
    let r := q + 1 + (i : Int)
    match o.spec.find? (fun x => x.q == r) with
    | some x => some x
    | none =>
      (posOf s.extrap o.upds r).map (fun p =>
        let u := s.objSetup j r
        ⟨r, u.gen, p, u.targets.map (·.bus)⟩))

/-- The ramp fractions of an object's paths by bus, one quantum on, and the buses that enter (R117): a selected bus rises, another falls
and is dropped after the quantum in which it reaches zero. -/
def rampNext (t : Tbl Nat) (sel : List Nat) : Tbl Nat × List Nat :=
  let live := t.filter (fun e => e.2 != 0 || sel.contains e.1)
  let new := sel.filter (fun b => !live.any (fun e => e.1 == b))
  (new.foldl (fun u b => tput u b 1) (live.map (fun e => (e.1, if sel.contains e.1 then min 4 (e.2 + 1) else e.2 - 1))), new)

/-- The entering paths that the work ahead of an object foresees: quantum and bus. -/
def foreseen (t : Tbl Nat) : List Spec → List (Int × Nat)
  | [] => []
  | x :: xs => let (u, new) := rampNext t x.sel; new.map (fun b => (x.q, b)) ++ foreseen u xs

/-- The staging record of an entering path: its fields as its law gives them at the predicted position, tagged with the generation of the
prediction (R96, R114, R118). -/
def State.stageRec (s : State) (j : Nat) (e : Int × Nat) : Option StageRec :=
  let u := s.objSetup j e.1
  (u.targets.find? (fun t => t.bus == e.2)).map (fun t => ⟨e.1, { s.newPath u t with quarters := 0, g1 := rampGain t.gain 1 }⟩)

/-- The entering paths of an object that are foreseen and not staged yet. -/
def State.toStage (s : State) (paths : List Path) (j : Nat) : List (Nat × (Int × Nat)) :=
  let mine := paths.filter (fun p => p.obj == j && !p.released)
  let now : Tbl Nat := mine.foldl (fun t p => tput t p.bus p.quarters) []
  ((foreseen now (s.obj j).spec).filter (fun e =>
    !s.prism.staging.any (fun x => x.path.obj == j && x.path.bus == e.2 && x.q == e.1))).map (fun e => (j, e))

/-- The work ahead after the setup of quantum q, whose paths are given: predictions and selections are completed, entering paths staged as far
as records are free; those that wait are counted (R118). -/
def State.workAhead (s : State) (q : Int) (paths : List Path) : State :=
  let s1 := s.each s.objKeys (fun t j => t.setObj j { t.obj j with spec := t.specOf j q })
  let want := sortBy (fun a b => decide (a.2.1 ≤ b.2.1)) (s1.objKeys.flatMap (s1.toStage paths))
  let room := 32768 - s1.prism.staging.length
  let recs := (want.take room).filterMap (fun e => s1.stageRec e.1 e.2)
  let s2 := s1.onPrism (fun x => { x with staging := x.staging ++ recs })
  let late := want.length - room
  if late = 0 then s2 else ((s2.bump (Reg.FOCUS_CNT 1) late).raise Reg.FOCUS_INT_STATUS 1).perfAdd 13 late

/-! ### The setup of a quantum -/

/-- The objects once the setup of quantum q has read them: convergence, updates that no longer matter, and the interval's notes. -/
def State.setupRead (s : State) (q : Int) : State :=
  s.each s.objKeys (fun t j =>
    let o := t.obj j
    t.setObj j { o with converging := convergingAt o.upds q, upds := pruneUpds q o.upds, since := [], relDue := false })

/-- The counters and interrupts of a setup (R87, R105, R119, R120, R123). -/
def State.setupCounts (s : State) (u : Setup) (limited : Nat) (stale : Bool) : State :=
  let nd := u.waiting.length
  let waits := (u.paths.filter (fun p => p.waitFrom.isSome)).length
  let s1 := ((s.bump (Reg.FOCUS_CNT 0) nd).bump (Reg.FOCUS_CNT 2) limited).perfAdd 11 nd
  let s2 := if nd = 0 then s1 else s1.raise Reg.FOCUS_INT_STATUS 0
  let s3 := ((s2.bump (Reg.PRISM_CNT 2) waits).perfAdd 7 waits).perfAdd 12 u.moves
  if stale then s3.raise Reg.META_INT_STATUS 2 else s3

/-- The paths of the objects that OBJECT_RELEASE has released since the last setup ramp out whatever follows (R107, R116). -/
def State.markReleased (s : State) : State :=
  s.onPrism (fun x => { x with paths := x.paths.map (fun p => if (s.obj p.obj).relDue then { p with released := true } else p) })

/-- Path setup for quantum q, and the work ahead of it (R102, R103, R117 to R123). -/
def State.pathSetup (s : State) (q : Int) : State :=
  let setups := s.objKeys.map (fun j => s.objSetup j q)
  let s0 := s.markReleased
  let (u, adm) := s0.setupOf q setups
  let stale := setups.any (fun x => x.flags.testBit 6 && !(s.obj x.obj).cur.testBit 6)
  let s1 := (s0.onPrism (fun x => { x with setup := some u })).setupRead q
  (s1.setupCounts u adm.limited stale).workAhead q u.paths

/-- The speed of sound of the next setup (R40): one sixty-fourth of the ramp. -/
def State.stepAir (s : State) : State :=
  match s.scene.cLeft with
  | 0 => s
  | n + 1 =>
    let c := if n = 0 then s.scene.cTarget else s.scene.c + divHalfAway (s.scene.cTarget - s.scene.c) (n + 1)
    (s.onScene (fun x => { x with c := c, cLeft := n }))

/-- A waiting LAYOUT_COMMIT takes effect at the setup that starts now (R48, R115): the layouts change places and every
speculative item is discarded. Its place before the releases and updates of the interval (R116) shows nowhere else: they discard what it
would discard, and no model or queue depends on the layout. -/
def State.commitLayout (s : State) : State :=
  if s.scene.commitWait then
    (s.onScene (fun x => { x with active := s.scene.staged, staged := s.scene.active, commitWait := false })).discardItems (fun _ _ => true)
  else s

/-- The paths of objects whose setup was late go on with the delay and gain they had, held (R24). -/
def State.heldPaths (s : State) (late : List Nat) : List Path :=
  (s.prism.paths.filter (fun p => late.contains p.obj)).map (fun p => { p with d1 := p.d0, g1 := p.g0, a1 := p.a0, paused := true })

/-- The lanes of the buses of a table: those of its setup, and for a bus that the setup does not know the committed one. -/
def lanesFor (old lanes : Tbl Nat) (ps : List Path) : Tbl Nat :=
  ps.foldl (fun t p => if t.any (fun e => e.1 == p.bus) then t else tput t p.bus (tget 0 old p.bus)) lanes

/-- The first record of each lane of a table in order, and the end of the last (R121). -/
def laneStarts (lanes : Tbl Nat) (ps : List Path) : Tbl Nat :=
  (List.range 9).foldl (fun t n => tset 0 t n (ps.filter (fun p => decide (tget 0 lanes p.bus < n))).length) []

/-- The most recently started setup becomes committed at the boundary at which its quantum starts to render (R22, R63): its paths, flags and
table layout are in force (R123), and the staging records of its quantum are free again (R118). Objects whose setup was late keep their
previous paths, held, and the flags of those (R24). -/
def State.commitSetup (s : State) (late : List Nat) : State :=
  match s.prism.setup with
  | none => s
  | some v =>
    let staging := s.prism.staging.filter (fun x => decide (v.q < x.q))
    let u := { v with staged := staging.length }
    let all := if late.isEmpty then u.paths else s.heldPaths late ++ u.paths.filter (fun p => !late.contains p.obj)
    let lanes := lanesFor s.prism.busLane u.lanes all
    let paths := if late.isEmpty then all else tableOrder lanes all
    let s1 := s.onPrism (fun x => { x with paths := paths, setup := none, commitInfo := some { u with paths := paths }, committedQ := u.q.toNat
                                           laneStart := laneStarts lanes paths, busLane := lanes, staging := staging })
    let s2 := s1.each s.objKeys (fun t j =>
      let o := t.obj j
      let set := if late.contains j then withBits o.cur 5 5 0 else tget 0 u.flags j
      let cur := set ||| (if o.absent then flagAbsent else 0)
      t.setObj j { o with cur := cur, sticky := o.sticky ||| cur, waiting := tget 0 u.waiting j })
    let s3 := (((s2.bump (Reg.PRISM_CNT 3) late.length).perfAdd 4 late.length).perfAdd 1 paths.length).perfAdd 2 u.xfades
    let s4 := if late.isEmpty then s3 else s3.raise Reg.PRISM_INT_STATUS 1
    s4.traceRec 4 0x50 (le16 u.waiting.length ++ le32 paths.length ++ le32 u.staged)

/-! ### DRAM placement (R124, R125, R345, R364, R365) -/

/-- Units of 2 MiB of usable DRAM: 3.5 GiB or 7 GiB (R345). -/
def State.dramUnits (s : State) : Nat := if s.sys.dram8 then 3584 else 1792

/-- Units of one keep segment (R364). -/
def State.segUnits (s : State) : Nat := s.dramUnits / 7

/-- The region kinds of R124: 1 dump, 2 Lens tails, 3 alignment lines, 4 capture, 5 spill ring, 6 jitter buffers,
7 host region, 8 trace buffer. A unit's tag is kind × 65536 + index. -/
def regionTag (kind idx : Nat) : Nat := kind * 65536 + idx

/-- Whether a unit is retired (R125, R350). -/
def State.unitRetired (s : State) (u : Nat) : Bool := s.ddrc.retired.any (fun r => r.1 == u)

/-- Whether a unit lies in a segment that is kept through PARK (R364, R365): persistent regions go only there. -/
def State.unitKept (s : State) (u : Nat) : Bool := u / s.segUnits == 0 || s.bit Reg.DDRC_KEEP (u / s.segUnits)

/-- Whether a unit is free to be placed for a region. -/
def State.unitFree (s : State) (persistent : Bool) (u : Nat) : Bool :=
  !(s.ddrc.alloc.any (fun e => e.1 == u)) && !s.unitRetired u && (!persistent || s.unitKept u)

/-- The free units, lowest first. -/
def State.freeUnits (s : State) (persistent : Bool) : List Nat :=
  (List.range s.dramUnits).filter (s.unitFree persistent)

/-- The first run of n consecutive free units from unit u, among `fuel` candidates. -/
def State.freeRun (s : State) (persistent : Bool) (n : Nat) : Nat → Nat → Option Nat
  | 0, _ => none
  | fuel + 1, u =>
    if u + n ≤ s.dramUnits ∧ (List.range n).all (fun i => s.unitFree persistent (u + i)) then some u
    else s.freeRun persistent n fuel (u + 1)

/-- Places a region of n consecutive units under a tag: its first unit, or nothing when it does not fit (R124). The
placement of a region of no units is unit 0. -/
def State.place (s : State) (kind idx n : Nat) : Option (Nat × State) :=
  if n = 0 then some (0, s)
  else
    (s.freeRun (kind == 1 || kind == 2 || kind == 5) n s.dramUnits 0).map (fun u =>
      (u, (s.onDdrc (fun x => { x with alloc := (List.range n).foldl (fun t i => tput t (u + i) (regionTag kind idx)) x.alloc })).onPrism
        (fun x => { x with epoch := x.epoch + 1 })))

/-- Frees every unit of a region. -/
def State.unplace (s : State) (kind idx : Nat) : State :=
  if s.ddrc.alloc.any (fun e => e.2 == regionTag kind idx) then
    (s.onDdrc (fun x => { x with alloc := x.alloc.filter (fun e => e.2 != regionTag kind idx) })).onPrism (fun x => { x with epoch := x.epoch + 1 })
  else s

/-- The first unit of a region, if it is placed. -/
def State.regionUnit? (s : State) (kind idx : Nat) : Option Nat :=
  (s.ddrc.alloc.find? (fun e => e.2 == regionTag kind idx)).map (·.1)

/-! ### Alignment delay lines (R90, R91) -/

/-- The delay lines in use. -/
def State.linesInUse (s : State) : List (Nat × Nat) := s.scene.objs.filterMap (fun e => e.2.align.line)

/-- A free eighth of a unit that already holds delay lines. -/
def State.freeEighth (s : State) : Option (Nat × Nat) :=
  let units := (s.ddrc.alloc.filter (fun e => e.2 == regionTag 3 0)).map (·.1)
  let slots := units.flatMap (fun u => (List.range 8).map (fun i => (u, i)))
  slots.find? (fun x => !s.linesInUse.contains x && !s.unitRetired x.1)

/-- Places a delay line for object j, 256 KiB, eight to a unit (R90, R124). -/
def State.placeLine (s : State) (j : Nat) : Option State :=
  let put := fun (t : State) (x : Nat × Nat) =>
    let o := t.obj j
    (t.setObj j { o with align := { o.align with line := some x } }).withMem (mclear t.mem (unitAddr x.1 + x.2 * 0x40000) 0x40000)
  match s.freeEighth with
  | some x => some (put s x)
  | none => (s.place 3 0 1).map (fun e => put e.2 (e.1, 0))

/-- Releases object j's delay line, and its unit when it held the last one. -/
def State.freeLine (s : State) (j : Nat) : State :=
  let o := s.obj j
  match o.align.line with
  | none => s
  | some x =>
    let s1 := s.setObj j { o with align := { o.align with line := none } }
    if s1.linesInUse.any (fun y => y.1 == x.1) then s1
    else (s1.onDdrc (fun y => { y with alloc := tdel y.alloc x.1 })).onPrism (fun y => { y with epoch := y.epoch + 1 })

/-- Releases object j's delay line when nothing needs it: neither the delay in use, nor the target, nor a held request (R90, R91). -/
def State.tidyLine (s : State) (j : Nat) : State :=
  let a := (s.obj j).align
  if a.cur = 0 ∧ a.target = 0 ∧ !(a.held.any (fun h => h.1 != 0)) then s.freeLine j else s

/-- Object j's delay line with its contents on a unit that is not retired (R125); nothing when it does not fit. -/
def State.relocateLine (s : State) (j : Nat) : Option State :=
  match (s.obj j).align.line with
  | none => some s
  | some x =>
    if !s.unitRetired x.1 then some s
    else
      ((s.freeLine j).placeLine j).map (fun t =>
        match (t.obj j).align.line with
        | none => t
        | some y => t.withMem (mmove t.mem s.mem (unitAddr x.1 + x.2 * 0x40000) (unitAddr y.1 + y.2 * 0x40000) 0x40000))

end Sys2Proof.Machine
end

