-- ==== Sys2Proof/Machine/F32.lean ====
section
/-! DEFINITION. IEEE 754 binary32 arithmetic on patterns, as R130 uses it: round to nearest even, subnormal inputs and results
flushed to zero. -/

namespace Sys2Proof.Machine

/-- +0. -/
def f32Zero : Nat := 0
/-- 1.0. -/
def f32One : Nat := 0x3F800000
/-- The NaN that operations produce. -/
def f32NaN : Nat := 0x7FC00000

/-- The sign bit. -/
def f32Neg (n : Nat) : Bool := bitOf n 31
/-- Whether a pattern is a NaN. -/
def f32IsNaN (n : Nat) : Bool := bitsOf n 30 23 == 255 && bitsOf n 22 0 != 0
/-- Whether a pattern is an infinity. -/
def f32IsInf (n : Nat) : Bool := bitsOf n 30 23 == 255 && bitsOf n 22 0 == 0
/-- Whether a pattern is a NaN or an infinity. -/
def f32Special (n : Nat) : Bool := bitsOf n 30 23 == 255
/-- Whether a pattern is a subnormal number. -/
def f32Subnormal (n : Nat) : Bool := bitsOf n 30 23 == 0 && bitsOf n 22 0 != 0
/-- Whether a pattern reads as zero. -/
def f32IsZero (n : Nat) : Bool := bitsOf n 30 23 == 0

/-- The infinity of a sign. -/
def f32Inf (neg : Bool) : Nat := 0x7F800000 + b2n neg * 2 ^ 31
/-- The zero of a sign. -/
def f32SZero (neg : Bool) : Nat := b2n neg * 2 ^ 31

/-- The signed significand of a finite pattern; a subnormal reads as zero. -/
def f32Sig (n : Nat) : Int :=
  let m : Int := if f32IsZero n then 0 else (2 ^ 23 + bitsOf n 22 0 : Nat)
  if f32Neg n then -m else m

/-- The exponent that goes with the significand. -/
def f32Exp (n : Nat) : Int := (bitsOf n 30 23 : Int) - 150

/-- A magnitude brought to k significant bits, nearest even: its significand and the number of bits dropped (negative when
bits were added). -/
def roundSig (k a : Nat) : Nat × Int :=
  let n := a.log2 + 1
  if n ≤ k then (a * 2 ^ (k - n), (n : Int) - k)
  else
    let d := n - k
    let q := (divHalfEven a (2 ^ d : Nat)).toNat
    if q = 2 ^ k then (2 ^ (k - 1), (d : Int) + 1) else (q, d)

/-- v × 2^e as a binary32 pattern; an exact zero takes the sign given. -/
def f32Round (zneg : Bool) (v e : Int) : Nat :=
  if v = 0 then f32SZero zneg
  else
    let neg := decide (v < 0)
    let (q, d) := roundSig 24 v.natAbs
    let x := e + d + 150
    if 255 ≤ x then f32Inf neg
    else if x ≤ 0 then f32SZero neg
    else b2n neg * 2 ^ 31 + x.toNat * 2 ^ 23 + (q - 2 ^ 23)

/-- num / den × 2^e as a binary32 pattern (den > 0), rounded once. -/
def f32RoundQ (zneg : Bool) (num : Int) (den : Nat) (e : Int) : Nat :=
  let s := 40 + den.log2
  let a := num.natAbs * 2 ^ s
  let q := 2 * (a / den) + b2n (a % den != 0)
  f32Round zneg (if num < 0 then -(q : Int) else q) (e - s - 1)

/-- A fixed-point real as a binary32 pattern. -/
def f32OfFx (a : Int) : Nat := f32Round false a (-96)

/-- Negation. -/
def f32Negate (n : Nat) : Nat := if f32Neg n then n - 2 ^ 31 else n + 2 ^ 31
/-- Absolute value. -/
def f32Abs (n : Nat) : Nat := n % 2 ^ 31

/-- A product. -/
def f32Mul (a b : Nat) : Nat :=
  let neg := f32Neg a != f32Neg b
  if f32IsNaN a || f32IsNaN b then f32NaN
  else if f32IsInf a || f32IsInf b then (if f32IsZero a || f32IsZero b then f32NaN else f32Inf neg)
  else f32Round neg (f32Sig a * f32Sig b) (f32Exp a + f32Exp b)

/-- Two scaled integers brought to one exponent: the integers and it. -/
def alignExp (v1 e1 v2 e2 : Int) : Int × Int × Int :=
  let e := min e1 e2
  (v1 * 2 ^ (e1 - e).toNat, v2 * 2 ^ (e2 - e).toNat, e)

/-- A sum. -/
def f32Add (a b : Nat) : Nat :=
  if f32IsNaN a || f32IsNaN b then f32NaN
  else if f32IsInf a then (if f32IsInf b && f32Neg a != f32Neg b then f32NaN else a)
  else if f32IsInf b then b
  else
    let (x, y, e) := alignExp (f32Sig a) (f32Exp a) (f32Sig b) (f32Exp b)
    f32Round (f32Neg a && f32Neg b) (x + y) e

/-- A difference. -/
def f32Sub (a b : Nat) : Nat := f32Add a (f32Negate b)

/-- A quotient by a positive integer. -/
def f32DivNat (a n : Nat) : Nat :=
  if f32Special a || n == 0 then a else f32RoundQ (f32Neg a) (f32Sig a) n (f32Exp a)

/-- Whether a < b; false when either is a NaN. -/
def f32Lt (a b : Nat) : Bool :=
  if f32IsNaN a || f32IsNaN b then false
  else if f32IsInf a then f32Neg a && a != b
  else if f32IsInf b then !f32Neg b
  else
    let (x, y, _) := alignExp (f32Sig a) (f32Exp a) (f32Sig b) (f32Exp b)
    decide (x < y)

/-- Whether a ≤ b; false when either is a NaN. -/
def f32Le (a b : Nat) : Bool := !(f32IsNaN a || f32IsNaN b) && !f32Lt b a

/-- The natural logarithm of a positive finite pattern, as a fixed-point real. -/
def f32Ln (n : Nat) : Int :=
  let m : Int := bitsOf n 22 0
  let x := bitsOf n 30 23
  fxLn (fxOne + m * 2 ^ 73) + ((x : Int) - 127) * fxLn2

/-- 20 log10 of a positive finite pattern, as a fixed-point real. -/
def f32Db (n : Nat) : Int := fxQuot (20 * f32Ln n) fxLn10

/-- e^x of a fixed-point real as a pattern, with its full relative precision. -/
def f32ExpFx (x : Int) : Nat :=
  let k := x / fxLn2
  f32Round false (fxExpSmall (x - k * fxLn2)) (k - 96)

/-- A finite pattern as a fixed-point real. -/
def fxOfF32 (n : Nat) : Int :=
  let e := f32Exp n + 96
  if 0 ≤ e then f32Sig n * 2 ^ e.toNat else f32Sig n / 2 ^ (-e).toNat

/-- 10^(g/20) of a pattern g in decibels. -/
def f32OfDb (g : Nat) : Nat :=
  if f32IsNaN g then f32NaN
  else if f32IsInf g then (if f32Neg g then f32Zero else g)
  else f32ExpFx (fxMul (fxOfF32 g) fxLn10 / 20)

/-- The one-pole coefficient 1 − e^(−1/(τ fs)) for τ × fs = num / den samples. -/
def f32Pole (num den : Nat) : Nat :=
  if num = 0 then f32One else f32OfFx (fxOne - fxExp (-(fxDiv den num)))

/-- A pattern as Q1.31, rounded to nearest with halves away from zero and saturated, with whether it saturated or was a NaN
(R149). -/
def f32ToQ31 (n : Nat) : Int × Bool :=
  if f32IsNaN n then (0, true)
  else if f32IsInf n then (if f32Neg n then (-(2 ^ 31), true) else (2 ^ 31 - 1, true))
  else
    let e := f32Exp n + 31
    let v := if 0 ≤ e then f32Sig n * 2 ^ e.toNat else divHalfAway (f32Sig n) (2 ^ (-e).toNat)
    (clampInt (-(2 ^ 31)) (2 ^ 31 - 1) v, decide (v < -(2 ^ 31) ∨ 2 ^ 31 - 1 < v))

/-- A level in 0.01 dB of 20 log10 of a pattern, halved for a mean square: below −140.00 dB it reads −32,768 (R148). -/
def levelOf (ms : Bool) (n : Nat) : Int :=
  if f32IsZero n || f32IsNaN n then -32768
  else if f32IsInf n then 32767
  else
    let d := if ms then f32Db n / 2 else f32Db n
    let v := fxRound d 100
    if v < -14000 then -32768 else min 32767 v

/-! ### The wide accumulator of the head FIR (R130) -/

/-- The sum of the accumulator with one exact product, rounded to 40 significant bits, nearest even. -/
def acc40 (acc : Int × Int) (x h : Nat) : Int × Int :=
  let v := f32Sig x * f32Sig h
  if v = 0 then acc
  else
    let (a, b, e) := alignExp acc.1 acc.2 v (f32Exp x + f32Exp h)
    let t := a + b
    if t = 0 then (0, e)
    else
      let (q, d) := roundSig 40 t.natAbs
      (if t < 0 then -(q : Int) else q, e + d)

/-- What special values make of a sum of products: nothing when there are none. -/
def sumSpecial (xs hs : List Nat) : Option Nat :=
  let ps := (xs.zip hs).filter (fun e => f32Special e.1 || f32Special e.2)
  if ps.isEmpty then none
  else
    let vs := ps.map (fun e => f32Mul e.1 e.2)
    if vs.any f32IsNaN || (vs.any f32Neg && vs.any (fun v => !f32Neg v)) then some f32NaN else vs.head?

/-- A sum of products in tap order, rounded once (R130). -/
def firSum (xs hs : List Nat) : Nat :=
  match sumSpecial xs hs with
  | some v => v
  | none =>
    let acc := (xs.zip hs).foldl (fun a e => acc40 a e.1 e.2) (0, 0)
    f32Round false acc.1 acc.2

/-- A weighted mix of two values (R141). -/
def f32Mix (w old new : Nat) : Nat := f32Add (f32Mul (f32Sub f32One w) old) (f32Mul w new)

/-- The fade weight of sample i of n (R141). -/
def fadeWeight (i n : Nat) : Nat := f32OfFx ((fxOne - fxCosDeg (180 * (i + 1)) n) / 2)

end Sys2Proof.Machine
end

