-- ==== Sys2Proof/Machine/Lens.lean ====
section
/-! DEFINITION. The output correction chain of one bus (R129 to R141, R146 to R149): trim, biquads, head and tail FIR, limiter,
detectors, conversion. Pure functions of a bus's record and its samples. -/

namespace Sys2Proof.Machine

/-- Object-insert latency in quanta that moves setup and render (R22, R23). -/
def State.osLag (s : State) : Nat := b2n s.time.objInsert

/-! ### Trim (R131) -/

/-- The linear gain of one ramp sample: the straight line from gain to goal. -/
def LensBus.rampGain (b : LensBus) : Nat :=
  let (x, y, e) := alignExp (f32Sig b.gain) (f32Exp b.gain) (f32Sig b.goal) (f32Exp b.goal)
  f32RoundQ false (x * b.rampLen + (y - x) * (b.rampLen - b.rampLeft + 1 : Nat)) b.rampLen e

/-- The gain of the next sample, and the bus after it. -/
def LensBus.stepTrim (b : LensBus) : LensBus × Nat :=
  if b.rampLeft = 0 then (b, b.goal)
  else if b.rampLeft = 1 then ({ b with rampLeft := 0, gain := b.goal }, b.goal)
  else ({ b with rampLeft := b.rampLeft - 1 }, b.rampGain)

/-- The gain reached so far. -/
def LensBus.gainNow (b : LensBus) : Nat :=
  if b.rampLeft = 0 then b.goal
  else if b.rampLeft = b.rampLen then b.gain
  else ({ b with rampLeft := b.rampLeft + 1 } : LensBus).rampGain

/-! ### Biquads (R132, R133) -/

/-- The bank with a number. -/
def LensBus.bank (b : LensBus) (k : Nat) : Option LensBank := if k = 0 then b.bank0 else b.bank1

/-- Whether a bank is loading. -/
def LensBus.loading (b : LensBus) (k : Nat) : Bool := if k = 0 then b.load0 else b.load1

/-- Whether a bank's image names the other rate (R137); the flat set names none. -/
def LensBus.mismatch (b : LensBus) (rate96 : Bool) (k : Nat) : Bool := ((b.bank k).map (fun x => x.rate96 != rate96)).getD false

/-- One section in transposed direct form II: the output and the new state. -/
def biquad (c : List Nat) (z : Nat × Nat) (x : Nat) : Nat × (Nat × Nat) :=
  let y := f32Add (f32Mul (c.getD 0 0) x) z.1
  let z1 := f32Add (f32Sub (f32Mul (c.getD 1 0) x) (f32Mul (c.getD 3 0) y)) z.2
  (y, (z1, f32Sub (f32Mul (c.getD 2 0) x) (f32Mul (c.getD 4 0) y)))

/-- Whether a section is the exact bypass: b0 = 1 and the others zero, of either sign. -/
def isBypass (c : List Nat) : Bool := c.headD 0 == f32One && (c.drop 1).all f32IsZero

/-- The coefficients of section n of a bank. -/
def LensBank.section (k : LensBank) (n : Nat) : List Nat := (k.biquads.drop (5 * n)).take 5

/-- Section n of bank k run on a sample: the states by bank × 16 + section, and the output. -/
def runSection (k : Nat) (bank : LensBank) (acc : Tbl (Nat × Nat) × Nat) (n : Nat) : Tbl (Nat × Nat) × Nat :=
  let c := bank.section n
  if isBypass c then acc
  else
    let (y, z) := biquad c (tget (0, 0) acc.1 (16 * k + n)) acc.2
    (tset (0, 0) acc.1 (16 * k + n) z, y)

/-- The chain of bank k on a sample (R133): a loading bank does not run. -/
def LensBus.chain (b : LensBus) (rate96 : Bool) (k x : Nat) : LensBus × Nat :=
  if b.loading k then (b, 0)
  else
    match b.bank k with
    | none => (b, x)
    | some bank =>
      let (t, y) := (List.range 16).foldl (runSection k bank) (b.bq, x)
      ({ b with bq := t }, if b.mismatch rate96 k then 0 else y)

/-! ### The FIR (R134 to R138) -/

/-- The head of bank k over the shared history, newest first. -/
def LensBus.headOut (b : LensBus) (k : Nat) : Nat :=
  match b.bank k with
  | none => b.hist.headD 0
  | some bank => firSum b.hist bank.head

/-- The taps of partition j of bank k. -/
def LensBus.partTaps (b : LensBus) (k j : Nat) : List Nat :=
  match b.bank k with
  | none => []
  | some bank => (bank.tail.drop (256 * j)).take 256

/-- The partitions that contribute to block m: taps and FDL entries, without those whose reads failed. -/
def LensBus.partsFor (b : LensBus) (k m : Nat) (fails : List (Nat × Nat)) : List (List Nat × List Nat) :=
  (List.range b.parts).filterMap (fun j =>
    if fails.contains (k, j) ∨ fails.contains (0xFF, j) ∨ m < 2 + j then none
    else (b.fdl.find? (fun e => e.1 == m - 2 - j)).map (fun e => (b.partTaps k j, e.2)))

/-- Exact sum of the products of one partition for sample i of its block: taps u against window samples 256 + i − u. -/
def partSum (i : Nat) (p : List Nat × List Nat) : Int × Int :=
  let xs := ((p.2.take (257 + i)).reverse).take 256
  (p.1.zip xs).foldl (fun acc e =>
    let (a, b, x) := alignExp acc.1 acc.2 (f32Sig e.1 * f32Sig e.2) (f32Exp e.1 + f32Exp e.2)
    (a + b, x)) (0, 0)

/-- Sample i of a tail result: the exact convolution, brought to binary32 with an error the spec leaves open; nothing but zeros
stays zero, and a value that is no number spoils its block. -/
def tailSample (ps : List (List Nat × List Nat)) (i : Nat) : Nat :=
  if ps.all (fun p => p.1.all f32IsZero || p.2.all f32IsZero) then 0
  else if ps.any (fun p => p.2.any f32Special) then f32NaN
  else
    let (v, e) := (ps.map (partSum i)).foldl (fun acc p =>
      let (a, b, x) := alignExp acc.1 acc.2 p.1 p.2
      (a + b, x)) (0, 0)
    let (a, b, x) := alignExp v e (Config.tailErr (ps.map (·.1)) (ps.map (·.2)) i) (-149)
    f32Round false (a + b) x

/-- The 256 samples bank k's tail contributes to block m. -/
def LensBus.tailOf (b : LensBus) (k m : Nat) (fails : List (Nat × Nat)) : List Nat :=
  let ps := b.partsFor k m fails
  if ps.isEmpty then [] else (List.range 256).map (tailSample ps)

/-- At the first quantum of tail block m its result comes into use, or is missed (R138): the bus, and whether it was late. -/
def LensBus.startBlock (b : LensBus) (m : Nat) : LensBus × Bool :=
  let b1 := { b with tailDue := b.tailDue.filter (fun e => m < e.1), tailNow := ([], []) }
  if b.parts = 0 then (b1, false)
  else
    match b.tailDue.find? (fun e => e.1 == m) with
    | some (_, fails) => ({ b1 with tailNow := (b.tailOf 0 m fails, b.tailOf 1 m fails) }, false)
    | none => (b1, decide (b.dueFrom ≤ m))

/-- The FIR of bank k for sample i of the tail block (R134, R137). -/
def LensBus.fir (b : LensBus) (rate96 : Bool) (k i : Nat) : Nat :=
  if b.mismatch rate96 k then 0
  else f32Add (b.headOut k) ((if k = 0 then b.tailNow.1 else b.tailNow.2).getD i 0)

/-! ### Limiter (R146, R147) -/

/-- The target gain in dB for a level in dB (fixed point), threshold in 0.01 dB, knee in 0.5 dB. -/
def limTarget (thr : Int) (knee : Nat) (l : Int) : Int :=
  let t := fxDiv thr 100
  let w := fxDiv knee 2
  if l < t - w / 2 then 0
  else if knee ≠ 0 ∧ l ≤ t + w / 2 then
    let d := l - t + w / 2
    fxQuot (0 - fxMul d d) (2 * w)
  else t - l

/-- The target gain of a sample as binary32. -/
def LensBus.limGoal (b : LensBus) (x : Nat) : Nat :=
  if !b.limEn || f32IsZero x then 0
  else if f32IsNaN x then f32NaN
  else if f32IsInf x then f32Inf true
  else f32OfFx (limTarget b.thr b.knee (f32Db (f32Abs x)))

/-- The limiter on one sample. -/
def LensBus.limit (b : LensBus) (fs x : Nat) : LensBus × Nat :=
  if !b.limEn && f32IsZero b.gr then (b, x)
  else
    let g := b.limGoal x
    let c := if f32Lt g b.gr then f32Pole (b.attack * fs) 1000000 else f32Pole (b.release * fs) 1000
    let gr := f32Add b.gr (f32Mul (f32Sub g b.gr) c)
    ({ b with gr := gr }, f32Mul x (f32OfDb gr))

/-! ### Detectors (R148) -/

/-- The peak detector: a larger sample is held; past the hold time the value falls at the decay rate. -/
def Det.stepPeak (d : Det) (p : DetProfile) (fs a : Nat) : Det :=
  if f32Lt d.peak a then { d with peak := a, held := 0 }
  else if d.held < p.hold * fs / 1000 then { d with held := d.held + 1 }
  else { d with peak := f32Mul d.peak (f32ExpFx (-(fxMul (fxDiv p.decay (200 * fs)) fxLn10))) }

/-- The three detectors on one sample. -/
def Det.step (d : Det) (p : DetProfile) (fs x : Nat) : Det :=
  let a := f32Abs x
  let d1 := d.stepPeak p fs a
  let ms := f32Add d.ms (f32DivNat (f32Sub (f32Mul x x) d.ms) (p.rms * fs / 1000))
  let c := if f32Lt d.env a then f32Pole (p.attack * fs) 1000 else f32Pole (p.release * fs) 1000
  { d1 with ms := ms, env := f32Add d.env (f32Mul (f32Sub a d.env) c) }

/-! ### One quantum of one bus -/

/-- Whether a bus counts as fading (R143). -/
def LensBus.fading (b : LensBus) : Bool := b.fade.isSome

/-- The fade a quantum lies in: its target bank, first sample and length in samples. -/
def LensBus.fadeAt (b : LensBus) (q : Int) : Option (Nat × Nat × Nat) :=
  match b.fade with
  | none => none
  | some f =>
    if f.start ≤ q ∧ q < f.start + f.req.f then some (f.req.target, 8 * (q - f.start).toNat, 8 * f.req.f) else none

/-- One sample through stages 1 to 6: the bus, the Q1.31 output, and whether it saturated. -/
def LensBus.sample (b : LensBus) (rate96 : Bool) (p : DetProfile) (q : Int) (k x : Nat) : LensBus × Int × Bool :=
  let fs := if rate96 then 96000 else 48000
  let (b1, g) := b.stepTrim
  let v := f32Mul x g
  let (b2, y0) := b1.chain rate96 0 v
  let (b3, y1) := b2.chain rate96 1 v
  let pick := fun (n : Nat) => if n = 0 then y0 else y1
  let i := 8 * (q % 32).toNat + k
  let push := fun (z : Nat) => { b3 with hist := (z :: b3.hist).take 512, block := b3.block ++ [z] }
  let (b4, out) := match b.fadeAt q with
    | none =>
      let b4 := push (pick b.active)
      (b4, b4.fir rate96 b.active i)
    | some (target, first, len) =>
      let w := fadeWeight (first + k) len
      let b4 := push (f32Mix w (pick b.active) (pick target))
      (b4, f32Mix w (b4.fir rate96 b.active i) (b4.fir rate96 target i))
  let (b5, z) := b4.limit fs out
  let (o, sat) := f32ToQ31 z
  ({ b5 with det := b5.det.step p fs z, clip := b5.clip || sat }, o, sat)

/-- A quantum of 8 samples: the bus, the outputs, the saturated samples. -/
def LensBus.samples (b : LensBus) (rate96 : Bool) (p : DetProfile) (q : Int) : Nat → List Nat → LensBus × List Int × Nat
  | _, [] => (b, [], 0)
  | k, x :: xs =>
    let (b1, o, sat) := b.sample rate96 p q k x
    let (b2, os, n) := b1.samples rate96 p q (k + 1) xs
    (b2, o :: os, n + b2n sat)

/-- A quantum of one bus (R129, R138): at the first quantum of a tail block its tail result comes into use. -/
def LensBus.quantum (b : LensBus) (rate96 : Bool) (p : DetProfile) (q : Int) (xs : List Nat) :
    LensBus × List Int × Nat × Bool :=
  let (b1, late) := if q % 32 = 0 then b.startBlock (q / 32).toNat else (b, false)
  let (b2, os, n) := b1.samples rate96 p q 0 xs
  (b2, os, n, late)

/-! ### Buses in the state -/

/-- A bus of Lens. -/
def State.lensBus (s : State) (b : Nat) : LensBus := tget LensBus.init s.lens.buses b

/-- The state with a bus of Lens changed. -/
def State.setLensBus (s : State) (b : Nat) (v : LensBus) : State :=
  s.onLens (fun x => { x with buses := tset LensBus.init x.buses b v })

/-- The profile a bus selects. -/
def State.detProfile (s : State) (n : Nat) : DetProfile := tget DetProfile.init s.lens.profiles n

/-- One bus rendered for quantum q: the state with its counters, and its outputs (R149, R138). -/
def State.lensQuantum (s : State) (b : Nat) (q : Int) (xs : List Nat) : State × List Int :=
  let v := s.lensBus b
  let (w, out, sat, late) := v.quantum s.time.rate96 (s.detProfile v.profile) q xs
  let s1 := s.setLensBus b w
  let s2 := if sat = 0 then s1 else ((s1.bump (Reg.LENS_CNT 1) sat).perfAdd 19 sat).raise Reg.LENS_INT_STATUS 2
  (if late then ((s2.bump (Reg.LENS_CNT 0)).perfAdd 18).raise Reg.LENS_INT_STATUS 3 else s2, out)

end Sys2Proof.Machine
end

