-- ==== Sys2Proof/Machine/Tails.lean ====
section
/-! DEFINITION. The tail regions of Lens in DRAM (R139, R140): where each bus's arrays of spectra lie, what a byte of them reads as, and
what a failed read of them leaves. -/

namespace Sys2Proof.Machine

/-! ### Layout (R139) -/

/-- The bus whose region holds byte o of the buses' regions, packed in ascending bus order (log 64): its number and the offset in it. -/
def tailBusAt : Tbl LensBus → Nat → Option (Nat × Nat)
  | [], _ => none
  | (b, v) :: rest, o => if o < 6144 * v.parts then some (b, o) else tailBusAt rest (o - 6144 * v.parts)

/-- The offset of a bus's region: the regions of the buses before it. -/
def tailBase (bs : Tbl LensBus) (b : Nat) : Nat := bs.foldl (fun a (e : Nat × LensBus) => if e.1 < b then a + 6144 * e.2.parts else a) 0

/-- What an address of the tail regions holds: bus, array (0 the FDL ring, 1 and 2 the banks), index in the array, byte of the spectrum. -/
def State.tailAt (s : State) (a : Nat) : Option (Nat × Nat × Nat × Nat) :=
  match s.regionUnit? 2 0 with
  | none => none
  | some u =>
    if a < unitAddr u then none
    else (tailBusAt s.lens.buses (a - unitAddr u)).map (fun e =>
      let i := e.2 / 2048
      let p := (s.lensBus e.1).parts
      (e.1, i / p, i % p, e.2 % 2048))

/-- The address of spectrum i of an array of a bus. -/
def State.tailAddr (s : State) (b array i : Nat) : Nat :=
  unitAddr ((s.regionUnit? 2 0).getD 0) + tailBase s.lens.buses b + 2048 * ((s.lensBus b).parts * array + i)

/-- The 512 samples whose spectrum entry i of an array holds: a block and the one before it, or 256 taps and as many zeros. -/
def LensBus.spectrumOf (b : LensBus) (array i : Nat) : List Nat :=
  if array = 0 then ((b.fdl.find? (fun e => e.1 % b.parts == i)).map (·.2)).getD []
  else b.partTaps (array - 1) i

/-- Word w of the spectrum of samples xs: DC, Nyquist, then bins 1 to 255; the spectrum of zeros is zero. -/
def spectrumWord (xs : List Nat) (w : Nat) : Nat := if xs.all f32IsZero then 0 else Config.tailSpectrum xs w % 2 ^ 32

/-- A byte of the tail regions. -/
def State.tailByte (s : State) (a : Nat) : Option Byte :=
  (s.tailAt a).map (fun (b, array, i, o) => (le32 (spectrumWord ((s.lensBus b).spectrumOf array i) (o / 4))).getD (o % 4) 0)

/-- n bytes of DRAM from an address on. -/
def State.dramRead (s : State) (a n : Nat) : Bytes :=
  if (s.regionUnit? 2 0).isNone then mread s.mem a n
  else (List.range n).map (fun i => (s.tailByte (a + i)).getD (mget s.mem (a + i)))

/-! ### Failed reads (R140) -/

/-- LENS_TAIL_ECC and its count for one failed read. -/
def State.tailEcc (s : State) (b bank k : Nat) : State :=
  (((s.bump (Reg.LENS_CNT 4)).perfAdd 23).raise Reg.LENS_INT_STATUS 4).post 0x2002 (le16 b ++ le8 bank ++ le8 0 ++ le32 k)

/-- Whether the tail engine reads bank k: the active bank, and both while the bus fades. -/
def LensBus.readsBank (b : LensBus) (k : Nat) : Bool := b.active == k || b.fading

/-- A failed read of a partition: a coefficient spectrum is read again, and fails again, at the next block. -/
def LensBus.spoil (b : LensBus) (bank j : Nat) : LensBus :=
  if bank = 0xFF ∨ b.bad.contains (bank, j) then b else { b with bad := (bank, j) :: b.bad }

/-- The newest tail result loses what a read did not give it. -/
def LensBus.loseRead (b : LensBus) (bank j : Nat) : LensBus :=
  match b.tailDue with
  | [] => b.spoil bank j
  | (m, fs) :: rest => { b.spoil bank j with tailDue := (m, (bank, j) :: fs) :: rest }

/-- A lasting error of a read on a Lens port: the spectrum it hit contributes nothing to the block being computed. -/
def State.tailFail (s : State) (port a : Nat) : State :=
  match s.tailAt a with
  | none => s
  | some (b, array, i, _) =>
    let v := s.lensBus b
    let k := ((v.fdl.map (·.1)).head?).getD 0
    let bank := if array = 0 then 0xFF else array - 1
    let j := if array = 0 then (k + v.parts - i) % v.parts else i
    if 1 < port then s else (s.setLensBus b (v.loseRead bank j)).tailEcc b bank k

/-- The reads of a block that fail: those the environment names, of a partition and a bank that is read, and the coefficient spectra that
failed before. -/
def LensBus.failsOf (b : LensBus) (fs : List (Nat × Nat)) : List (Nat × Nat) :=
  let mine := fs.filter (fun f => decide (f.2 < b.parts) && (f.1 == 0xFF || b.readsBank f.1) && !b.bad.contains f)
  mine ++ b.bad.filter (fun f => b.readsBank f.1)

/-- Bank k of bus n whose partitions `bad` were lost when its region moved: nothing says what their taps are until it is loaded again. -/
def loseTaps (cnt n k : Nat) (bad : List (Nat × Nat)) (bank : Option LensBank) : Option LensBank :=
  bank.map (fun x => { x with tail := (List.range x.tail.length).map (fun i =>
    if bad.contains (k, i / 256) then Config.lostTap cnt n k i % 2 ^ 32 else x.tail.getD i 0) })

/-- The tail regions have moved: a coefficient spectrum that failed lastingly keeps wrong content (R140). -/
def LensBus.afterMove (b : LensBus) (cnt n : Nat) : LensBus :=
  { b with bank0 := loseTaps cnt n 0 b.bad b.bank0, bank1 := loseTaps cnt n 1 b.bad b.bank1, bad := [] }

end Sys2Proof.Machine
end

