-- ==== Sys2Proof/Machine/Dram.lean ====
section
/-! DEFINITION. The DRAM controller (chapter 13): address mapping, quality of service, ECC and retired units, refresh codes,
row disturbance, delays and sweeps. -/

namespace Sys2Proof.Machine

/-! ### Addresses (R345, R347, R348) -/

/-- Rows per bank R (R345). -/
def State.dramRows (s : State) : Nat := if s.sys.dram8 then 131072 else 65536

/-- Whether an address is usable DRAM. -/
def State.dramUsable (s : State) (a : Nat) : Bool := decide (0x100000000 ≤ a ∧ a < unitAddr s.dramUnits)

/-- The channel of an offset (R347). -/
def dramChan (o : Nat) : Nat := bitsOf o 9 8 ^^^ bitsOf o 17 16 ^^^ bitsOf o 25 24

/-- The bank of an offset. -/
def dramBank (o : Nat) : Nat := bitsOf o 15 13 ^^^ bitsOf o 21 19 ^^^ bitsOf o 29 27

/-- The row of an offset. -/
def State.dramRow (s : State) (o : Nat) : Nat := if s.sys.dram8 then bitsOf o 32 16 else bitsOf o 31 16

/-- The key of a bank in the tables of banks. -/
def bankKey (chan bank : Nat) : Nat := chan * 8 + bank

/-- The row that holds the check data of a data row (R348). -/
def State.checkRow (s : State) (r : Nat) : Nat := 7 * s.dramRows / 8 + r / 8

/-! ### Service state -/

/-- Whether the DDRC serves requests: enabled, powered, out of self-refresh, locked, no sweep. -/
def State.dramServing (s : State) : Bool :=
  s.bit Reg.DDRC_CTRL 0 && bitOf s.sys.pwr 7 && s.ddrc.sweep.isNone && !s.ddrc.selfRefresh && s.time.ddrLock

/-- The latency target of a port in ns (R352): below 100 acts as 100. -/
def State.dramTarget (s : State) (p : Nat) : Nat := max 100 (s.fld (Reg.DDRC_PORT_TARGET p) 15 0)

/-- The urgency of a request of a given age (R353). -/
def urgency (target age : Nat) : Nat :=
  if 90 * target ≤ 100 * age then 3 else if 75 * target ≤ 100 * age then 2 else if 50 * target ≤ 100 * age then 1 else 0

/-- Whether a request would hit the open row. -/
def State.rowHit (s : State) (r : DramReq) : Bool :=
  let o := r.addr - 0x100000000
  tget 0 s.ddrc.openRow (bankKey (dramChan o) (dramBank o)) == s.dramRow o + 1

/-- Whether a request needs an activation by a throttled port (R354, R358). -/
def State.throttledAct (s : State) (r : DramReq) : Bool := s.ddrc.throttled.contains r.port && !s.rowHit r

/-- The order of R354: throttled activations last, then urgency, row hits, age. -/
def State.dramBefore (s : State) (a b : DramReq) : Bool :=
  let ua := urgency (s.dramTarget a.port) a.age
  let ub := urgency (s.dramTarget b.port) b.age
  let key := fun (x : DramReq) (u : Nat) => (b2n (s.throttledAct x), 3 - u, b2n (!s.rowHit x))
  let ka := key a ua
  let kb := key b ub
  if ka.1 ≠ kb.1 then decide (ka.1 < kb.1)
  else if ka.2.1 ≠ kb.2.1 then decide (ka.2.1 < kb.2.1)
  else if ka.2.2 ≠ kb.2.2 then decide (ka.2.2 < kb.2.2)
  else decide (b.age < a.age)

/-! ### Row disturbance (R357, R358) -/

/-- A tracker after an activation of row r, with the row's new count (R357). -/
def trackRow (t : List (Nat × Nat)) (r : Nat) : List (Nat × Nat) × Nat :=
  match t.find? (fun e => e.1 == r) with
  | some (_, n) => (t.map (fun e => if e.1 = r then (r, e.2 + 1) else e), n + 1)
  | none =>
    if t.length < 16 then (t ++ [(r, 1)], 1)
    else
      let low := t.foldl (fun m e => min m e.2) (t.headD (0, 0)).2
      match findIdx (fun _ e => e.2 == low) t with
      | some (i, _) => (t.set i (r, low + 1), low + 1)
      | none => (t, 0)

/-- The threshold in force (R358, R368). -/
def State.rowThreshold (s : State) : Nat := max 1024 s.ddrc.threshold

/-- An activation of a row by a port (R357, R358). -/
def State.activate (s : State) (port chan bank row : Nat) : State :=
  let k := bankKey chan bank
  let (t, n) := trackRow (tget [] s.ddrc.tracker k) row
  let s1 := (s.onDdrc (fun x => { x with tracker := tset [] x.tracker k t, openRow := tset 0 x.openRow k (row + 1) })).perfAdd 48
  if n = s1.rowThreshold then
    let s2 := s1.onDdrc (fun x => { x with throttled := if x.throttled.contains port then x.throttled else x.throttled ++ [port] })
    (((s2.bump (Reg.DDRC_CNT 3)).perfAdd 49).raise Reg.DDRC_INT_STATUS 3).post 0x9002
      (le8 port ++ le8 chan ++ le8 bank ++ le8 0 ++ le32 row)
  else s1

/-- Opens a row of a bank for a port when it is not open. -/
def State.openRow (s : State) (port chan bank row : Nat) : State :=
  if tget 0 s.ddrc.openRow (bankKey chan bank) = row + 1 then s else s.activate port chan bank row

/-! ### ECC and retired units (R349, R350) -/

/-- Retires the unit of an address for a port (R350): the 64 entries of the list full is a fatal error. -/
def State.retire (s : State) (port addr : Nat) : State :=
  let u := (addr - 0x100000000) / 0x200000
  let n := s.ddrc.retired.length
  if s.unitRetired u then s
  else if 64 ≤ n then s.fatalError 0x08 addr
  else
    let s1 := s.onDdrc (fun x => { x with retired := x.retired ++ [(u, port)] })
    (s1.raise Reg.DDRC_INT_STATUS 2).post 0x9001 (le16 u ++ le8 port)

/-- A burst of a jitter buffer fails lastingly: the samples it holds read as zero (R349, R232). -/
def State.streamFail (s : State) (a : Nat) : State :=
  let hit := fun (v : StreamCtx) =>
    match v.place with
    | none => []
    | some p =>
      let base := unitAddr p.1 + p.2 * 1024
      let o := a / 64 * 64 - base
      if base ≤ a ∧ o < 8192 * v.chans then
        (v.marks.filter (fun x => decide (o % 8192 / 4 ≤ (x % 2048).toNat ∧ (x % 2048).toNat < o % 8192 / 4 + 16))).map (fun x => (o / 8192, x))
      else []
  s.onNet (fun n => { n with ctx := n.ctx.map (fun e => if (hit e.2).isEmpty then e else (e.1, { e.2 with lost := e.2.lost ++ hit e.2 })) })

/-- A burst of object j's delay line, that of the samples from f on, stays uncorrectable (R93): counted, with its event; its samples are
zero. -/
def State.burstBad (s : State) (j : Nat) (f : Int) : State :=
  let o := s.obj j
  let s1 := s.setObj j { o with align := { o.align with bad := o.align.bad ++ [f] } }
  ((s1.bump (Reg.PRISM_CNT 5)).raise Reg.PRISM_INT_STATUS 3).post 0x1001 (le16 j)

/-- A lasting error of a read on the bulk-delay port: the burst of the delay line it hit, whose samples are those last written there (R93). -/
def State.bulkFail (s : State) (port a : Nat) : State :=
  let base := fun (l : Nat × Nat) => unitAddr l.1 + l.2 * 0x40000
  let hit := fun (e : Nat × Obj) => (e.2.align.line.map (fun l => decide (base l ≤ a ∧ a < base l + 0x40000))).getD false
  if port ≠ 2 then s
  else match s.scene.objs.find? hit with
    | none => s
    | some (j, o) =>
      let newest : Int := 8 * s.time.lastQ + 7
      let f := newest - (newest - ((a - base (o.align.line.getD (0, 0))) / 64 * 16 : Nat)) % 65536
      if o.align.bad.contains f then s else s.burstBad j f

/-- What a read's ECC outcome leaves (R349). -/
def State.eccOutcome (s : State) (port addr : Nat) : Ecc → State
  | .clean => s
  | .corrected => ((s.bump (Reg.DDRC_CNT 0)).perfAdd 50).raise Reg.DDRC_INT_STATUS 0
  | .retryOk => ((s.bump (Reg.DDRC_CNT 1)).perfAdd 51).raise Reg.DDRC_INT_STATUS 1
  | .lasting =>
    let s1 := s.bump (Reg.DDRC_CNT 2)
    ((((s1.wr Reg.DDRC_ERR_LO addr).wr Reg.DDRC_ERR_HI (port % 8 * 256 + addr / 2 ^ 32 % 256)).retire port addr).spillFail addr).streamFail addr

/-! ### Requests (R348, R354, R355) -/

/-- The length of an access. -/
def accLen : Access → Nat
  | .read n => n
  | .write d => d.length

/-- Whether a request reads the array: a read, or the read-modify-write of a burst written in part (R348). -/
def DramReads (r : DramReq) : Bool :=
  match r.acc with
  | .read _ => true
  | .write d => r.addr % 64 != 0 || d.length != 64

/-- The byte that the newest of the queued writes puts at an address, if one does (R354). -/
def queuedByte (older : List DramReq) (a : Nat) : Option Byte :=
  older.foldl (fun b w =>
    match w.acc with
    | .write d => if w.addr ≤ a ∧ a < w.addr + d.length then d[a - w.addr]? else b
    | .read _ => b) none

/-- Whether queued writes answer a read whole, so that it does not reach the array (R354). -/
def answered (older : List DramReq) (r : DramReq) : Bool :=
  match r.acc with
  | .read n => decide (0 < n) && (List.range n).all (fun i => (queuedByte older (r.addr + i)).isSome)
  | .write _ => false

/-- The data a request's read returns: what the writes queued before it put there, and the rest from the array, where a lasting error gives
zeros. -/
def State.dramData (s : State) (older : List DramReq) (r : DramReq) : Bytes :=
  match r.acc with
  | .read n =>
    let base := if r.ecc = .lasting then zeros n else s.dramRead r.addr n
    ((List.range n).zip base).map (fun e => (queuedByte older (r.addr + e.1)).getD e.2)
  | .write _ => []

/-- The write of a request; a read-modify-write whose read fails lastingly discards it (R349). -/
def State.dramWrite (s : State) (r : DramReq) : State :=
  match r.acc with
  | .read _ => s
  | .write d => if DramReads r && r.ecc == Ecc.lasting then s else s.withMem (mwrite s.mem r.addr d)

/-- The result of a request: its data is put after what the command has read so far; rstat reports an error response. -/
def State.dramResult (s : State) (r : DramReq) (d : Bytes) : State :=
  let bad := r.ecc == Ecc.lasting && DramReads r && r.port != 3
  (s.withRdata (s.rdata ++ (if bad then zeros d.length else d))).withRstat (if bad then 1 else s.rstat)

/-- Rows opened by a request: the data row, then the check row when its check data must be fetched (R348). -/
def State.dramRowsFor (s : State) (r : DramReq) : State :=
  let o := r.addr - 0x100000000
  let s1 := s.openRow r.port (dramChan o) (dramBank o) (s.dramRow o)
  if r.check then s1.openRow r.port (dramChan o) (dramBank o) (s.checkRow (s.dramRow o)) else s1

/-- Serves one request of usable DRAM that reaches the array; `older` are the requests that came before it and still wait. -/
def State.dramArray (s : State) (older : List DramReq) (r : DramReq) : State :=
  let d := s.dramData older r
  let s1 := (s.dramRowsFor r).perfAdd (32 + r.port)
  let rmw := match r.acc with
    | .read _ => false
    | .write _ => DramReads r
  let s2 := if rmw then (s1.bump (Reg.DDRC_CNT 5)).perfAdd 52 else s1
  let s3 := if DramReads r then s2.eccOutcome r.port r.addr r.ecc else s2
  (if DramReads r && r.ecc == Ecc.lasting then (s3.tailFail r.port r.addr).bulkFail r.port r.addr else (s3.dramWrite r)).dramResult r d

/-- Serves one request; a read that queued writes answer whole does not reach the array. One beyond its port's target is counted (R355). -/
def State.dramServe (s : State) (older : List DramReq) (r : DramReq) : State :=
  let s1 := if answered older r then (s.perfAdd (32 + r.port)).dramResult { r with ecc := .clean } (s.dramData older { r with ecc := .clean })
    else s.dramArray older r
  if s1.dramTarget r.port < r.done then (s1.bump (Reg.DDRC_PORT_LATE r.port)).perfAdd (40 + r.port) else s1

/-- Whether a request is a write. -/
def isWrite (r : DramReq) : Bool :=
  match r.acc with
  | .read _ => false
  | .write _ => true

/-- Whether two requests touch a byte in common. -/
def reqMeets (a b : DramReq) : Bool := decide (a.addr < b.addr + accLen b.acc ∧ b.addr < a.addr + accLen a.acc)

/-- The requests that came before one. -/
def olderThan (ws : List DramReq) (r : DramReq) : List DramReq := ws.takeWhile (fun x => x != r)

/-- The requests a channel chooses among (R354): its writes once 48 are queued, but for those that meet a read that came before them;
otherwise the reads while one is pending. -/
def dramChoice (ws : List DramReq) : List DramReq :=
  let writes := ws.filter isWrite
  let chan := fun (r : DramReq) => dramChan (r.addr - 0x100000000)
  let full := writes.filter (fun w => decide (48 ≤ (writes.filter (fun x => chan x == chan w)).length))
  let due := full.filter (fun w => !(olderThan ws w).any (fun x => !isWrite x && reqMeets x w))
  let reads := ws.filter (fun r => !isWrite r)
  if !due.isEmpty then due else if !reads.isEmpty then reads else ws

/-- Serves the waiting requests in the order of R354, at most `fuel` of them. -/
def State.dramDrain (s : State) : Nat → State
  | 0 => s
  | fuel + 1 =>
    match dramChoice s.ddrc.waiting with
    | [] => s
    | r :: rs =>
      let best := rs.foldl (fun b x => if s.dramBefore x b then x else b) r
      let older := olderThan s.ddrc.waiting best
      let s1 := s.onDdrc (fun x => { x with waiting := x.waiting.erase best })
      (if s1.dramUsable best.addr then s1.dramServe older best else s1.withRstat 1).dramDrain fuel

/-- Serves what waits, when the DDRC serves requests. -/
def State.dramServeAll (s : State) : State := if s.dramServing then s.dramDrain s.ddrc.waiting.length else s

/-- DRAM_REQUEST (R354): requests reach their ports and are served in the controller's order; while the DDRC serves none they
wait. The bytes read appear in rdata in the order served. -/
def execDramRequest (reqs : List DramReq) (s : State) : Host.Outcome State Fault Refusal :=
  let s0 := (s.withRdata []).withRstat 0
  .next ((s0.onDdrc (fun x => { x with waiting := x.waiting ++ reqs })).dramServeAll)

/-! ### Refresh and temperature (R356) -/

/-- REFRESH (R356): one per-bank refresh, which leaves its bank precharged. -/
def execRefresh (chan bank : Nat) (s : State) : Host.Outcome State Fault Refusal :=
  if bitOf s.sys.pwr 7 && !s.ddrc.selfRefresh && s.time.ddrLock && decide (chan < 4 ∧ bank < 8) then
    .next ((s.onDdrc (fun x => { x with openRow := tset 0 x.openRow (bankKey chan bank) 0 })).perfAdd 53)
  else .next s

/-- A channel's refresh-rate code as read: a change is reported (R356). -/
def State.mr4Code (s : State) (c code : Nat) : State :=
  if tget 0 s.ddrc.mr4 c = code then s
  else ((s.onDdrc (fun x => { x with mr4 := tset 0 x.mr4 c code })).raise Reg.DDRC_INT_STATUS 4).post 0x9003 (le8 c ++ le8 code)

/-- MR4_POLL (R356): the codes of channels 0 to 3, and what a channel that read 0b111 reads at once again; a second 0b111 is a
fatal error. -/
def execMr4Poll (codes again : List Nat) (s : State) : Host.Outcome State Fault Refusal :=
  if bitOf s.sys.pwr 7 && !s.ddrc.selfRefresh then
    let s1 := s.each ((List.range 4).zip codes) (fun t e =>
      let t1 := t.mr4Code e.1 (e.2 % 8)
      if e.2 % 8 = 7 then
        let k := again.getD e.1 7 % 8
        if k = 7 then t1.fatalError 0x09 0 else t1.mr4Code e.1 k
      else t1)
    .next s1
  else .next s

/-- ROW_WINDOW_END (R357, R368): every tracker is emptied, throttles end, and a new threshold comes into force. -/
def execRowWindowEnd (s : State) : Host.Outcome State Fault Refusal :=
  .next (s.onDdrc (fun x => { x with tracker := [], throttled := [], threshold := s.fld Reg.DDRC_ROWGUARD 15 0 }))

/-- SCRUB (R351): the patrol scrubber reads the next usable burst on the control port. -/
def execScrub (e : Ecc) (s : State) : Host.Outcome State Fault Refusal :=
  if s.bit Reg.DDRC_CTRL 2 && s.dramServing then
    let a := 0x100000000 + 64 * s.ddrc.scrub
    let s1 := s.dramRowsFor ⟨4, a, .read 64, 0, 0, false, e⟩
    let s2 := (s1.perfAdd 36).eccOutcome 4 a e
    let next := s.ddrc.scrub + 1
    let last := s.dramUnits * 32768
    if last ≤ next then .next ((s2.onDdrc (fun x => { x with scrub := 0 })).bump (Reg.DDRC_CNT 6))
    else .next (s2.onDdrc (fun x => { x with scrub := next }))
  else .next s

/-! ### Delays and sweeps (R359 to R363) -/

/-- The key of delay k of channel c in the shadow table. -/
def dlyKey (c k : Nat) : Nat := c * 16 + k

/-- A write of a delay register goes to its shadow (R360). -/
def State.dlyWrite (s : State) (c k v : Nat) : State := s.onDdrc (fun x => { x with shadow := tput x.shadow (dlyKey c k) (v % 256) })

/-- DLY_APPLY (R360): the pending delay writes of a channel are applied together. -/
def execDlyApply (chan : Nat) (s : State) : Host.Outcome State Fault Refusal :=
  let mine := s.ddrc.shadow.filter (fun e => e.1 / 16 == chan)
  if mine.isEmpty then .next s
  else
    let s1 := s.each mine (fun t e => t.setFld (Reg.DDRC_DLY chan (e.1 % 16)) 7 0 e.2)
    let s2 := s1.onDdrc (fun x => { x with shadow := x.shadow.filter (fun e => e.1 / 16 != chan)
                                           openRow := x.openRow.filter (fun e => e.1 / 8 != chan) })
    .next (s2.bump (Reg.DDRC_CNT 4))

/-- The trained delays a sweep leaves: firmware writes them; what they are is open (R359, R361). -/
def State.trainDelays (s : State) : State :=
  s.each (List.range 36) (fun t i => (t.setFld (Reg.DDRC_DLY (i / 9) (i % 9)) 7 0 (Config.freeNat t.freeCnt % 256)).fresh)

/-- The COMMAND_DONE detail of DDR_SPEED_SET and DDR_CAL (R422). -/
def State.sweepDetail (s : State) : Bytes := le8 s.ddrc.rate ++ le8 s.ddrc.window ++ le8 s.ddrc.failLane

/-- Ends the jobs of a sweep with a status. -/
def State.endSweepJobs (s : State) (jobs : List Nat) (st : Nat) : State := s.each jobs (fun t j => t.endJob j st t.sweepDetail)

/-- Starts a sweep: why it runs (0 boot, 1 speed change, 2 DDR_CAL) and the jobs it completes. The DDR domain is powered and the
DRAM leaves self-refresh for it (R361). -/
def State.startSweep (s : State) (kind : Nat) (jobs : List Nat) : State :=
  (s.onDdrc (fun x => { x with sweep := some ⟨kind, jobs, false⟩, openRow := [], selfRefresh := false })).onSys
    (fun x => { x with pwr := x.pwr ||| 128 })

/-- The DRAM in self-refresh with the DDR domain off (R366). -/
def State.ddrSleep (s : State) : State :=
  (s.onDdrc (fun x => { x with selfRefresh := true, openRow := [] })).onSys (fun x => { x with pwr := x.pwr - (x.pwr &&& 128) })

/-- A sweep ends with its result; in PARK the DRAM returns to self-refresh (R361). -/
def State.sweepOver (s : State) : State :=
  let s1 := s.onDdrc (fun x => { x with sweep := none })
  if s.sys.mode = .park ∧ s.lens.loads = [] then s1.ddrSleep else s1

/-- A lasting failure of a sweep (R362): the fallback at boot, a fatal error at 3,200 MT/s, otherwise the command ends with a
status the spec does not give. -/
def State.sweepFailed (s : State) (w : Sweep) : State :=
  if w.kind = 0 ∧ s.ddrc.rate = 0 then (s.onDdrc (fun x => { x with rate := 1, derated := true })).startSweep 0 w.jobs
  else if w.kind ≠ 2 ∧ s.ddrc.rate = 1 then (s.sweepOver.endSweepJobs w.jobs stState).fatalError 0x0A 0
  else s.fresh.sweepOver.endSweepJobs w.jobs (Config.freeNat s.freeCnt % 65536)

/-- The dump region is placed once DRAM is in service (R124, R453). -/
def State.placeDump (s : State) : State :=
  if s.sys.dumpPlaced then s
  else match s.place 1 0 1 with
    | some (_, t) => t.onSys (fun x => { x with dumpPlaced := true })
    | none => s

/-- A sweep that passed (R361, R362). -/
def State.sweepPassed (s : State) (w : Sweep) : State :=
  let s1 := s.trainDelays.sweepOver.placeDump
  (s1.onSys (fun x => { x with sweepPassed := true })).endSweepJobs w.jobs stOk

/-- A completed or failed sweep with its smallest window per channel (R362, R363): a deferred speed change discards its result
and sweeps at the new speed. -/
def State.sweepEnd (s : State) (w : Sweep) (windows : List Nat) (failLane : Option Nat) : State :=
  let s1 := s.onDdrc (fun x => { x with window := windows.foldl min (windows.headD 0) % 256, failLane := failLane.getD 0xFF })
  let s2 := (s1.bump (Reg.DDRC_CNT 7)).raise Reg.DDRC_INT_STATUS 5
  match s2.ddrc.deferred with
  | some (r, j) => (s2.onDdrc (fun x => { x with deferred := none, rate := r })).startSweep 1 (w.jobs ++ [j])
  | none => if failLane.isSome then s2.sweepFailed w else s2.sweepPassed w

/-- SWEEP_DONE (R361 to R363): a sweep ends, with the smallest passing window of each channel and a lane without one if any;
the first such lane is swept exactly once more. -/
def execSweepDone (windows : List Nat) (failLane : Option Nat) (s : State) : Host.Outcome State Fault Refusal :=
  match s.ddrc.sweep with
  | none => .next s
  | some w =>
    if failLane.isSome && !w.retried then .next (s.onDdrc (fun x => { x with sweep := some { w with retried := true } }))
    else .next ((s.sweepEnd w windows failLane).dramServeAll)

end Sys2Proof.Machine
end

