-- ==== Sys2Proof/Machine/FacetAlu.lean ====
section
/-! DEFINITION. The arithmetic and addressing of a Facet core (R270 to R288): pure functions of one task instance's
registers. What an instruction does to the scheduler, to memory and to the fabric is in Machine/FacetRun.lean. -/

namespace Sys2Proof.Machine

/-- One instruction of R278, its fields decoded. -/
inductive FOp where
  | mac (op : Nat) (a : MacArgs)
  | acc (op : Nat) (a : AccArgs)
  | dat (op : Nat) (a : DataArgs)
  | mov (a : MovArgs)
  | reg (op : Nat) (a : RegArgs)
  | addr (op : Nat) (a : AddrArgs)
  | rptN (reg : Bool) (n : Nat)
  | loopN (reg : Bool) (body n : Nat)
  | leave (cc : Nat)
  | nop
  | bra (cc t : Nat)
  | bsr (cc t : Nat)
  | rts (cc : Nat)
  | jmp (m : Nat)
  | yield
  | trap (k : Nat)
  | fence (wait : Nat)
  | setm (mask v : Nat)
  | seg (k : Nat)
  | long (op : Nat) (a : LongArgs) (f : Far)
  | illegal
  deriving DecidableEq, Repr

/-- What an instruction of one cycle group does besides its register changes. -/
inductive FEff where
  | none
  | store (y : Bool) (off v : Nat)
  | store2 (y : Bool) (off v : Nat) (y2 : Bool) (off2 v2 : Nat)
  deriving DecidableEq, Repr

/-- The result of one execution: a fault cause of R298, or the registers, the stores, and the cycles it took. -/
structure FRes where
  ctx : FCtx
  eff : FEff
  cyc : Nat
  deriving DecidableEq, Repr

/-- The declared sizes of a task's regions, in words, and a reader of its data memories. -/
structure FMem where
  xs : Nat
  ys : Nat
  x : List Host.Cell
  xa : Nat
  ya : Nat

/-! ### Registers -/

/-- Data register n. -/
def FCtx.dr (c : FCtx) (n : Nat) : Nat := tget 0 c.d (n % 16)
/-- The context with data register n written. -/
def FCtx.setD (c : FCtx) (n v : Nat) : FCtx := { c with d := tset 0 c.d (n % 16) (v % 2 ^ 32) }
/-- Accumulator n as a signed 72-bit value. -/
def FCtx.ac (c : FCtx) (n : Nat) : Int := toSigned 72 (tget 0 c.a (n % 4))
/-- The context with accumulator n written (taken to 72 bits). -/
def FCtx.setA (c : FCtx) (n : Nat) (v : Int) : FCtx := { c with a := tset 0 c.a (n % 4) (ofSigned 72 v) }
/-- Pointer n: 0 to 3 PX0 to PX3, 4 to 7 PY0 to PY3. -/
def FCtx.pt (c : FCtx) (n : Nat) : Nat := tget 0 c.ptr (n % 8)
/-- The context with a pointer written. -/
def FCtx.setP (c : FCtx) (n v : Nat) : FCtx := { c with ptr := tset 0 c.ptr (n % 8) (v % 2 ^ 16) }
/-- Modifier n, signed. -/
def FCtx.mo (c : FCtx) (n : Nat) : Int := toSigned 16 (tget 0 c.md (n % 8))

/-- SR with bit k set to b. -/
def srBit (sr k : Nat) (b : Bool) : Nat := withBits sr k k (b2n b)

/-- SR with V written; a set V sets SV (R270). -/
def srV (sr : Nat) (v : Bool) : Nat := let s := srBit sr 3 v; if v then srBit s 5 true else s

/-- The implemented bits of SR; reserved bits read 0. -/
def srMask : Nat := 0x0F7F

/-- Whether a condition code holds (R285). -/
def ccHolds (sr cc : Nat) : Bool :=
  let z := bitOf sr 0
  let n := bitOf sr 1
  let c := bitOf sr 2
  let v := bitOf sr 3
  match cc % 16 with
  | 0 => true | 1 => z | 2 => !z | 3 => n != v | 4 => n == v | 5 => z || n != v | 6 => !z && n == v | 7 => v | 8 => !v
  | 9 => bitOf sr 4 | 10 => !bitOf sr 4 | 11 => bitOf sr 5 | 12 => bitOf sr 6 | 13 => c | 14 => !c | _ => false

/-- The SR bits a condition code tests. -/
def ccBits (cc : Nat) : Nat :=
  match cc % 16 with
  | 1 => 1 | 2 => 1 | 3 => 10 | 4 => 10 | 5 => 11 | 6 => 11 | 7 => 8 | 8 => 8 | 9 => 16 | 10 => 16 | 11 => 32 | 12 => 64
  | 13 => 4 | 14 => 4 | _ => 0

/-! ### Values (R274, R275) -/

/-- An exact result brought to 72 bits. -/
def wrap72 (v : Int) : Int := toSigned 72 (ofSigned 72 v)

/-- An exact result brought to 32 bits. -/
def wrap32 (v : Int) : Int := toSigned 32 (ofSigned 32 v)

/-- Whether a 72-bit value lies outside the Q1.63 range. -/
def guardX (v : Int) : Bool := decide (v < -(2 ^ 63) ∨ 2 ^ 63 ≤ v)

/-- The product of two data words, shifted left by one under FRAC (R274). -/
def FCtx.prod (c : FCtx) (x y : Nat) : Int :=
  let p := toSigned 32 x * toSigned 32 y
  if bitOf c.sr 11 then 2 * p else p

/-- A 72-bit value rounded to bit 32 under RND (R275). -/
def roundQ (sr : Nat) (v : Int) : Int :=
  match bitsOf sr 10 9 with
  | 1 => (v + 2 ^ 31) / 2 ^ 32
  | 2 => v / 2 ^ 32
  | _ => divHalfEven v (2 ^ 32)

/-- The quantised view of a 72-bit value: its Q1.31 word, and whether saturation limited it (R275). -/
def quantQ (sr : Nat) (v : Int) : Nat × Bool :=
  let r := roundQ sr v
  if bitOf sr 8 && (r != clampInt (-(2 ^ 31)) (2 ^ 31 - 1) r) then
    (ofSigned 32 (clampInt (-(2 ^ 31)) (2 ^ 31 - 1) r), true)
  else (ofSigned 32 r, false)

/-- A word written to A.Q: bits 63:32, sign-extended, bits 31:0 cleared. -/
def fromQ (w : Nat) : Int := toSigned 32 w * 2 ^ 32

/-- Reads a register of R282: its value, and whether a saturation limited it. -/
def FCtx.readReg (c : FCtx) (r : Nat) : Nat × Bool :=
  let raw := tget 0 c.a (r % 4)
  if r < 16 then (c.dr r, false)
  else if r < 20 then quantQ c.sr (c.ac r)
  else if r < 24 then (bitsOf raw 63 32, false)
  else if r < 28 then (bitsOf raw 31 0, false)
  else (ofSigned 32 (toSigned 8 (bitsOf raw 71 64)), false)

/-- Writes a register of R282. -/
def FCtx.writeReg (c : FCtx) (r v : Nat) : FCtx :=
  let raw := tget 0 c.a (r % 4)
  let put := fun (x : Nat) => { c with a := tset 0 c.a (r % 4) x }
  if r < 16 then c.setD r v
  else if r < 20 then c.setA r (fromQ v)
  else if r < 24 then put (withBits raw 63 32 v)
  else if r < 28 then put (withBits raw 31 0 v)
  else put (withBits raw 71 64 v)

/-- The context with the sticky saturation bit set when `b`. -/
def FCtx.ss (c : FCtx) (b : Bool) : FCtx := if b then { c with sr := srBit c.sr 6 true } else c

/-! ### Addressing (R277) -/

/-- The AMCR mode of pointer n. -/
def FCtx.pmode (c : FCtx) (n : Nat) : Nat := bitsOf c.amcr (2 * (n % 8) + 1) (2 * (n % 8))

/-- The modulo length of pointer n: 0 acts as 16,384. -/
def FCtx.plen (c : FCtx) (n : Nat) : Nat :=
  let l := if n % 8 < 4 then c.lx else c.ly
  if l = 0 then 16384 else l

/-- The smallest k with 2^k at least n. -/
def log2up (n : Nat) : Nat := if n ≤ 1 then 0 else (n - 1).log2 + 1

/-- The low k bits of n in reverse order. -/
def revBits : Nat → Nat → Nat
  | 0, _ => 0
  | k + 1, n => (n % 2) * 2 ^ k + revBits k (n / 2)

/-- Whether a pointer may be used at all: mode 3, and bit-reverse with a length that is no power of two, are illegal. -/
def FCtx.pOk (c : FCtx) (n : Nat) : Bool :=
  match c.pmode n with
  | 3 => false
  | 2 => let l := c.plen n; decide (2 ≤ l ∧ l ≤ 16384) && (2 ^ log2up l == l)
  | _ => true

/-- The offset p of pointer n stepped by d under its mode; none is an illegal instruction. -/
def FCtx.stepped (c : FCtx) (n : Nat) (d : Int) : Option Nat :=
  let p := c.pt n
  let l := c.plen n
  let k := log2up l
  match c.pmode n with
  | 0 => some (ofSigned 16 (p + d))
  | 1 =>
    if (l : Int) < d.natAbs then none
    else
      let base := p - p % 2 ^ k
      some (ofSigned 16 (base + (((p : Int) - base + d) % l)))
  | 2 => some (p - p % 2 ^ k + revBits k ((revBits k (p % 2 ^ k) + revBits k (ofSigned k d)) % 2 ^ k))
  | _ => none

/-- The step of a post-modify code: 0 none, 1 +1, 2 −1, 3 +M, 4 −M. -/
def FCtx.stepBy (c : FCtx) (n code : Nat) : Int :=
  match code with
  | 1 => 1 | 2 => -1 | 3 => c.mo n | 4 => -(c.mo n) | _ => 0

/-- One X or Y access by pointer n with an address mode of R281 (0 to 5): the address, and the context with the pointer
stepped; faults: 1 illegal instruction, 2 bounds (R271). -/
def FCtx.access (c : FCtx) (m : FMem) (n mode : Nat) : Except Nat (Nat × Nat) :=
  if 5 < mode ∨ !c.pOk n then .error 1
  else
    let p := c.pt n
    let lim := if n % 8 < 4 then m.xs else m.ys
    if mode = 5 then
      match c.stepped n (c.mo n) with
      | none => .error 1
      | some a => if a < lim then .ok (a, p) else .error 2
    else if mode = 0 then (if p < lim then .ok (p, p) else .error 2)
    else
      match c.stepped n (c.stepBy n mode) with
      | none => .error 1
      | some q => if p < lim then .ok (p, q) else .error 2

/-- A word of a task's data memory. -/
def FMem.word (m : FMem) (y : Bool) (off : Nat) : Nat := u32At (mread m.x ((if y then m.ya else m.xa) + 4 * off) 4) 0

/-! ### Parallel loads (R279) -/

/-- The parallel loads of an instruction, applied to the context `c` its operation leaves, with operands of `c0` before it. -/
def doLoads (c0 : FCtx) (m : FMem) (pm : PMove) (c : FCtx) : Except Nat FCtx :=
  let x : Except Nat FCtx := if pm.xe then
      match c0.access m (pm.xp % 4) (pm.xm % 4) with
      | .error e => .error e
      | .ok (a, p) => .ok ((c.setP (pm.xp % 4) p).setD (pm.xp % 4) (m.word false a))
    else .ok c
  match x with
  | .error e => .error e
  | .ok c1 =>
    if pm.ye then
      match c0.access m (4 + pm.yp % 4) (pm.ym % 4) with
      | .error e => .error e
      | .ok (a, p) => .ok ((c1.setP (4 + pm.yp % 4) p).setD (4 + pm.yp % 4) (m.word true a))
    else .ok c1

/-- Whether unused parallel-move fields are zero (R278). -/
def pmTidy (pm : PMove) : Bool :=
  (pm.xe || (pm.xp == 0 && pm.xm == 0)) && (pm.ye || (pm.yp == 0 && pm.ym == 0))

/-! ### The MAC class (R280) -/

/-- Whether a MAC-class encoding is legal: dual forms need Aa ≠ Ab, single forms zero fields, and a CH target that is no load
destination. -/
def macLegal (op : Nat) (a : MacArgs) : Bool :=
  pmTidy a.pm
    && (if 4 ≤ op then a.aa % 4 != a.ab % 4 else a.ab % 4 == 0 && a.v % 8 == 0 && (a.pm.ch || a.u % 8 == 0))
    && (decide (6 ≤ op ∨ op < 4) || a.v % 8 == 0)
    && !(a.pm.ch && ((a.pm.xe && a.pm.xp % 4 == a.u % 8) || (a.pm.ye && 4 + a.pm.yp % 4 == a.u % 8)))

/-- The exact results of a MAC-class operation: the new Aa, and the new Ab of a dual form. -/
def FCtx.macVal (c : FCtx) (op : Nat) (a : MacArgs) : Int × Option Int :=
  let p := c.prod (c.dr (a.s % 8)) (c.dr (a.t % 8))
  let x := c.ac a.aa
  let y := c.ac a.ab
  let su := c.prod (c.dr (a.s % 8)) (c.dr (a.u % 8))
  let uv := c.prod (c.dr (a.u % 8)) (c.dr (a.v % 8))
  match op with
  | 0 => (p, none)
  | 1 => (x + p, none)
  | 2 => (x - p, none)
  | 3 => (x + p, none)
  | 4 => (x + p, some (y + su))
  | 5 => (x - p, some (y - su))
  | 6 => (x + p, some (y + uv))
  | _ => (x + p, some (y - uv))

/-- A MAC-class operation on the registers, without its loads. -/
def FCtx.macDo (c : FCtx) (op : Nat) (a : MacArgs) : FCtx :=
  let (x, y) := c.macVal op a
  let w := wrap72 x
  let q := quantQ c.sr w
  let xa := if op = 3 then fromQ q.1 else w
  let v := decide (w ≠ x) || (y.map (fun z => decide (wrap72 z ≠ z))).getD false
  let g := guardX xa || (y.map (fun z => guardX (wrap72 z))).getD false
  let c1 := c.setA a.aa xa
  let c2 := match y with
    | some z => c1.setA a.ab (wrap72 z)
    | none => c1
  let c3 := { c2 with sr := srBit (srV c2.sr v) 4 g }
  let c4 := if op = 3 then c3.ss q.2 else c3
  if a.pm.ch then c4.setD (a.u % 8) (c.dr (a.t % 8)) else c4

/-- A MAC-class instruction. -/
def FCtx.mac (c : FCtx) (m : FMem) (op : Nat) (a : MacArgs) : Except Nat FRes :=
  if !macLegal op a then .error 1
  else
    match doLoads c m a.pm (c.macDo op a) with
    | .error e => .error e
    | .ok c1 => .ok ⟨{ c1 with flagsBy := if op = 3 then 0x78 else 0x38 }, .none, 1⟩

/-! ### The accumulator class (R286, R276) -/

/-- Dm of an accumulator-class instruction. -/
def accM (a : AccArgs) : Nat := a.km / 16 % 16

/-- The shift count of an accumulator-class instruction. -/
def accK (a : AccArgs) : Nat := a.km % 128

/-- Whether an accumulator-class encoding is legal: unused fields zero, the count at most 71, and no load of Dm's register by
rule of R279 (bit 0 is reserved). -/
def accLegal (op : Nat) (a : AccArgs) : Bool :=
  let usesAb := op == 1 || op == 2 || op == 7 || op == 15 || op == 16 || op == 17
  let usesM := op == 3 || op == 4 || op == 12 || op == 13 || op == 14
  let usesK := op == 10 || op == 11
  pmTidy a.pm && !a.pm.ch && (usesAb || a.ab % 4 == 0)
    && (if usesM then a.km % 16 == 0 else if usesK then decide (a.km ≤ 71) else a.km == 0) && decide (op ≤ 17)

/-- The redundant sign bits of a 72-bit value, minus 8 (R276). -/
def expOf (v : Int) : Int :=
  let n := if v < 0 then (-v - 1).toNat else v.toNat
  if n = 0 then 63 else 70 - (n.log2 : Int) - 8

/-- An arithmetic shift of a 72-bit value, left when positive; the exact value. -/
def shiftA (v : Int) (k : Int) : Int :=
  if 0 ≤ k then v * 2 ^ (min k.toNat 160) else v / 2 ^ (min (-k).toNat 160)

/-- The carry out of bit w−1 of a sum of w-bit patterns. -/
def carryOut (w x y ci : Nat) : Bool := decide (2 ^ w ≤ x + y + ci)

/-- What an accumulator-class operation computes: the exact result, the carry where the spec defines one, whether Aa (or Ab,
for TFR) takes it, and a word for Dm. -/
structure AccOut where
  v : Int
  carry : Option Bool
  dest : Option Nat
  dm : Option Int
  lim : Bool

/-- The operation OP of the accumulator class. -/
def FCtx.accOp (c : FCtx) (op : Nat) (a : AccArgs) : AccOut :=
  let x := c.ac a.aa
  let y := c.ac a.ab
  let px := ofSigned 72 x
  let py := ofSigned 72 y
  let dw := fromQ (c.dr (accM a))
  let pd := ofSigned 72 dw
  let inv := fun (p : Nat) => 2 ^ 72 - 1 - p
  let to_ := some (a.aa % 4)
  match op with
  | 0 => ⟨0, none, to_, none, false⟩
  | 1 => ⟨x + y, some (carryOut 72 px py 0), to_, none, false⟩
  | 2 => ⟨x - y, some (carryOut 72 px (inv py) 1), to_, none, false⟩
  | 3 => ⟨x + dw, some (carryOut 72 px pd 0), to_, none, false⟩
  | 4 => ⟨x - dw, some (carryOut 72 px (inv pd) 1), to_, none, false⟩
  | 5 => ⟨-x, some (carryOut 72 0 (inv px) 1), to_, none, false⟩
  | 6 => ⟨if x < 0 then -x else x, none, to_, none, false⟩
  | 7 => ⟨x, none, some (a.ab % 4), none, false⟩
  | 8 => let q := quantQ c.sr x; ⟨fromQ q.1, none, to_, none, q.2⟩
  | 9 => let q := quantQ c.sr x; ⟨fromQ q.1, none, to_, none, q.2⟩
  | 10 => ⟨shiftA x (accK a), none, to_, none, false⟩
  | 11 => ⟨shiftA x (-(accK a : Int)), none, to_, none, false⟩
  | 12 => ⟨shiftA x (toSigned 32 (c.dr (accM a))), none, to_, none, false⟩
  | 13 => if x = 0 then ⟨0, none, to_, some 0, false⟩ else ⟨shiftA x (expOf x), none, to_, some (expOf x), false⟩
  | 14 => ⟨expOf x, none, none, some (expOf x), false⟩
  | 15 => ⟨max x y, none, to_, none, false⟩
  | 16 => ⟨min x y, none, to_, none, false⟩
  | _ => ⟨x - y, some (carryOut 72 px (inv py) 1), none, none, false⟩

/-- The value C takes after an accumulator-class operation for which the spec defines no carry: open, and a function of the operands
(R300). -/
def FCtx.accCarry (c : FCtx) (op : Nat) (a : AccArgs) : Bool :=
  Config.facetFree [4, op, tget 0 c.a (a.aa % 4), tget 0 c.a (a.ab % 4), c.dr (accM a), accK a, c.sr] % 2 == 1

/-- An accumulator-class operation on the registers, without its loads. -/
def FCtx.accDo (c : FCtx) (op : Nat) (a : AccArgs) : FCtx :=
  let o := c.accOp op a
  let w := wrap72 o.v
  let c1 := match o.dest with
    | some n => c.setA n w
    | none => c
  let c2 := match o.dm with
    | some d => c1.setD (accM a) (ofSigned 32 d)
    | none => c1
  let s1 := srV (srBit (srBit (srBit c2.sr 0 (decide (w = 0))) 1 (decide (w < 0))) 2 (o.carry.getD (c.accCarry op a)))
    (decide (w ≠ o.v))
  { c2 with sr := srBit s1 4 (guardX (if op = 14 then c.ac a.aa else w)) }.ss o.lim

/-- An accumulator-class instruction. -/
def FCtx.accI (c : FCtx) (m : FMem) (op : Nat) (a : AccArgs) : Except Nat FRes :=
  if !accLegal op a then .error 1
  else
    match doLoads c m a.pm (c.accDo op a) with
    | .error e => .error e
    | .ok c1 => .ok ⟨{ c1 with flagsBy := if op = 8 ∨ op = 9 then 0x7F else 0x3F }, .none, 1⟩

/-! ### The data class (R286) -/

/-- Whether a data-class encoding is legal: unused fields zero. -/
def datLegal (op : Nat) (a : DataArgs) : Bool :=
  (if a.i then a.t % 16 == 0 else a.imm == 0) && (op != 11 || a.d % 16 == 0)
    && (op != 5 || (a.t % 16 == 0 && a.imm == 0 && !a.i)) && decide (op ≤ 12)

/-- The result of a data-class operation as an exact integer, the carry where the spec defines one; none where the spec
states no result (a shift count outside 0 to 31). -/
def dataOp (op x y : Nat) : Option (Int × Option Bool) :=
  let sx := toSigned 32 x
  let sy := toSigned 32 y
  let shift := fun (v : Int) => if y < 32 then some (v, (none : Option Bool)) else none
  match op with
  | 0 => some (sx + sy, some (carryOut 32 x y 0))
  | 1 => some (sx - sy, some (carryOut 32 x (2 ^ 32 - 1 - y) 1))
  | 2 => some (toSigned 32 (x &&& y), none)
  | 3 => some (toSigned 32 (x ||| y), none)
  | 4 => some (toSigned 32 (x ^^^ y), none)
  | 5 => some (toSigned 32 (2 ^ 32 - 1 - x), none)
  | 6 => shift (sx * 2 ^ (y % 32))
  | 7 => shift (sx / 2 ^ (y % 32))
  | 8 => shift (toSigned 32 (x / 2 ^ (y % 32)))
  | 9 => some (min sx sy, none)
  | 10 => some (max sx sy, none)
  | 11 => some (sx - sy, some (carryOut 32 x (2 ^ 32 - 1 - y) 1))
  | _ => some (sx * sy, none)

/-- SR after a data-class result (R289: C, V, Z, N, SV). -/
def srData (sr : Nat) (r : Int) (carry v : Bool) : Nat :=
  let w := wrap32 r
  srV (srBit (srBit (srBit sr 0 (decide (w = 0))) 1 (decide (w < 0))) 2 carry) v

/-- A data-class operation of two words into register d (none for CMP). What the spec leaves open is a function of the operands (R300). -/
def FCtx.dataDo (c : FCtx) (op : Nat) (d : Option Nat) (x y : Nat) : FCtx :=
  let open_ := fun (kind : Nat) => Config.facetFree [5, kind, op, x, y, c.sr]
  let (r, carry, v) := match dataOp op x y with
    | some (r, cy) => (r, cy.getD (open_ 0 % 2 == 1), decide (wrap32 r ≠ r))
    | none => (toSigned 32 (open_ 1), open_ 0 % 2 == 1, open_ 2 % 2 == 1)
  let c1 := match d with
    | some n => c.setD n (ofSigned 32 r)
    | none => c
  { c1 with sr := srData c1.sr r carry v, flagsBy := 0x2F }

/-- A data-class instruction. -/
def FCtx.dataI (c : FCtx) (op : Nat) (a : DataArgs) : Except Nat FRes :=
  if !datLegal op a then .error 1
  else
    let y := if a.i then ofSigned 32 (toSigned 10 a.imm) else c.dr a.t
    .ok ⟨c.dataDo op (if op = 11 then none else some a.d) (c.dr a.s) y, .none, 1⟩

/-! ### Memory moves (R281) -/

/-- One access of a memory move on memory `y`: its effect on the context so far (operands come from `c0`), or a store. -/
def moveOne (c0 : FCtx) (m : FMem) (y : Bool) (a : MovAcc) (c : FCtx) : Except Nat (FCtx × Option (Bool × Nat × Nat)) :=
  let n := (if y then 4 else 0) + a.p % 4
  match c0.access m n (a.mode % 8) with
  | .error e => .error e
  | .ok (off, p) =>
    let c1 := if a.mode % 8 = 5 ∨ a.mode % 8 = 0 then c else c.setP n p
    if a.store then
      let r := c0.readReg (a.reg % 32)
      .ok (c1.ss r.2, some (y, off, r.1))
    else .ok (c1.writeReg (a.reg % 32) (m.word y off), none)

/-- Whether an access stores a quantised view that saturation limits. -/
def FCtx.limits (c : FCtx) (a : MovAcc) : Bool := a.store && (c.readReg (a.reg % 32)).2

/-- A memory move. -/
def FCtx.move (c : FCtx) (m : FMem) (a : MovArgs) : Except Nat FRes :=
  let clash := match a.a2 with
    | some b => !a.a1.store && !b.store && a.a1.reg % 32 == b.reg % 32
    | none => false
  if clash then .error 1
  else
    match moveOne c m a.memY a.a1 c with
    | .error e => .error e
    | .ok (c1, s1) =>
      let lim := c.limits a.a1 || (a.a2.map c.limits).getD false
      let fl := fun (x : FCtx) => { x with flagsBy := if lim then 0x40 else 0 }
      let e1 : FEff := match s1 with
        | some (y, o, v) => .store y o v
        | none => .none
      match a.a2 with
      | none => .ok ⟨fl c1, e1, 1⟩
      | some b =>
        match moveOne c m (!a.memY) b c1 with
        | .error e => .error e
        | .ok (c2, s2) =>
          let e2 : FEff := match s1, s2 with
            | some (y, o, v), some (y2, o2, v2) => .store2 y o v y2 o2 v2
            | none, some (y2, o2, v2) => .store y2 o2 v2
            | _, none => e1
          .ok ⟨fl c2, e2, 1⟩

/-! ### Register moves (R283) -/

/-- TFR, LDS and LDH. -/
def FCtx.regMove (c : FCtx) (op : Nat) (a : RegArgs) : Except Nat FRes :=
  match op with
  | 0 =>
    if a.imm ≠ 0 then .error 1
    else
      let r := c.readReg (a.src % 32)
      .ok ⟨{ (c.writeReg (a.dst % 32) r.1).ss r.2 with flagsBy := if r.2 then 0x40 else 0 }, .none, 1⟩
  | 1 =>
    if a.src ≠ 0 then .error 1
    else .ok ⟨{ c.writeReg (a.dst % 32) (ofSigned 32 (toSigned 16 a.imm)) with flagsBy := 0 }, .none, 1⟩
  | 2 =>
    if a.src ≠ 0 then .error 1
    else
      let r := c.readReg (a.dst % 32)
      .ok ⟨{ (c.writeReg (a.dst % 32) (withBits r.1 31 16 a.imm)).ss r.2 with flagsBy := if r.2 then 0x40 else 0 }, .none, 1⟩
  | _ => .error 1

/-! ### The address class (R286) -/

/-- Reads an address register; LC with no running LOOP is an open value. -/
def FCtx.readAddr (c : FCtx) (r : Nat) : Nat :=
  if r < 8 then c.pt r
  else if r < 16 then tget 0 c.md (r - 8)
  else if r = 16 then c.lx
  else if r = 17 then c.ly
  else if r = 18 then c.amcr
  else if r = 19 then c.sr
  else match c.loops with
    | (_, _, n) :: _ => n
    | [] => Config.facetFree [8] % 2 ^ 16

/-- Writes an address register other than LC. -/
def FCtx.writeAddr (c : FCtx) (r v : Nat) : FCtx :=
  if r < 8 then c.setP r v
  else if r < 16 then { c with md := tset 0 c.md (r - 8) (v % 2 ^ 16) }
  else if r = 16 then { c with lx := v % 2 ^ 15 }
  else if r = 17 then { c with ly := v % 2 ^ 15 }
  else if r = 18 then { c with amcr := v % 2 ^ 16 }
  else if r = 19 then { c with sr := v &&& srMask }
  else c

/-- The operation OP of the address class: 0 LDA, 1 ADDA, 2 ADDL, 3 MOVA, 4 TFRA, 5 TFRD. -/
def FCtx.addrI (c : FCtx) (op : Nat) (a : AddrArgs) : Except Nat FRes :=
  let r := a.r
  let wr : Bool := op != 5
  let bad := decide (20 < r) || (wr && r == 20) || ((op == 1 || op == 2) && r == 19)
    || (op == 3 && (decide (20 < a.imm))) || ((op == 4 || op == 5) && decide (15 < a.imm)) || decide (5 < op)
  let done := fun (x : FCtx) => Except.ok (ε := Nat) (⟨{ x with flagsBy := if wr && r == 19 then 0x7F else 0 }, .none, 1⟩ : FRes)
  if bad then .error 1
  else match op with
    | 0 => done (c.writeAddr r a.imm)
    | 1 =>
      if r < 8 then
        match (if c.pOk r then c.stepped r (toSigned 16 a.imm) else none) with
        | none => .error 1
        | some p => done (c.setP r p)
      else done (c.writeAddr r (ofSigned 16 ((c.readAddr r : Int) + toSigned 16 a.imm)))
    | 2 => done (c.writeAddr r (ofSigned 16 ((c.readAddr r : Int) + toSigned 16 a.imm)))
    | 3 => done (c.writeAddr r (c.readAddr a.imm))
    | 4 => done { c.writeAddr r (c.dr a.imm) with late := (r, 2) :: c.late }
    | _ => done (c.setD a.imm (c.readAddr r))

/-! ### Interlocks (R289) -/

/-- The address registers an access by pointer n with a step code reads. -/
def FCtx.addrUse (c : FCtx) (n mode : Nat) : List Nat :=
  [n, 18] ++ (if 3 ≤ mode then [8 + n] else []) ++ (if c.pmode n = 0 then [] else [if n < 4 then 16 else 17])

/-- The address registers an instruction's address generation reads. -/
def FCtx.uses (c : FCtx) : FOp → List Nat
  | .mac _ a => (if a.pm.xe then c.addrUse (a.pm.xp % 4) a.pm.xm else []) ++ (if a.pm.ye then c.addrUse (4 + a.pm.yp % 4) a.pm.ym else [])
  | .acc _ a => (if a.pm.xe then c.addrUse (a.pm.xp % 4) a.pm.xm else []) ++ (if a.pm.ye then c.addrUse (4 + a.pm.yp % 4) a.pm.ym else [])
  | .mov a =>
    let one := fun (y : Bool) (b : MovAcc) => c.addrUse ((if y then 4 else 0) + b.p % 4) b.mode
    one a.memY a.a1 ++ (match a.a2 with
      | some b => one (!a.memY) b
      | none => [])
  | .addr 1 a => if a.r < 8 then c.addrUse a.r 0 else [a.r]
  | .addr 2 a => [a.r]
  | .addr 3 a => [a.imm]
  | _ => []

/-- The stall cycles of an instruction: pointers loaded by TFRA, and flags set by the instruction before (R289). -/
def FCtx.stall (c : FCtx) (o : FOp) : Nat :=
  let u := c.uses o
  let p := (c.late.filter (fun e => u.contains e.1)).foldl (fun m e => max m e.2) 0
  let flow := match o with
    | .leave cc => ccBits cc &&& c.flagsBy
    | .bra cc _ => ccBits cc &&& c.flagsBy
    | .bsr cc _ => ccBits cc &&& c.flagsBy
    | .rts cc => ccBits cc &&& c.flagsBy
    | _ => 0
  p + b2n (flow != 0)

/-- The context one issued instruction later: stalls owed fall by the cycles that have passed. -/
def FCtx.aged (c : FCtx) (stall : Nat) : FCtx :=
  { c with late := (c.late.map (fun e => (e.1, e.2 - 1 - stall))).filter (fun e => e.2 != 0) }

end Sys2Proof.Machine
end

