-- ==== Sys2Proof/Machine/Perf.lean ====
section
/-! DEFINITION. Reading the performance counters (R467 to R471): the latches each master has. -/

namespace Sys2Proof.Machine

/-- The key of counter n for a master. -/
def perfKey (master n : Nat) : Nat := master * 128 + n % 128

/-- Whether counter n + 1 is chained to an even counter n (R469). -/
def State.perfChained (s : State) (n : Nat) : Bool := n % 2 == 0 && s.bit (Reg.PERF_CFG (n + 1)) 1

/-- The pair a master latched of a chained odd counter, if any (R470). -/
def State.perfPair (s : State) (master n : Nat) : Option (Nat × Nat) :=
  (s.perf.chained.find? (fun e => e.1 == perfKey master n)).map (·.2)

/-- A master's read of PERF_CNTn_LO: the value, and the state with bits 47:32 latched (R470). -/
def State.perfLo (s : State) (master n : Nat) : State × Nat :=
  match s.perfPair master n with
  | some (lo, hi) =>
    (s.onPerf (fun x => { x with chained := tdel x.chained (perfKey master n), latch := tset 0 x.latch (perfKey master n) hi }), lo)
  | none =>
    let v := tget 0 s.perf.cnt n
    let w := tget 0 s.perf.cnt (n + 1)
    let s1 := s.onPerf (fun x => { x with latch := tset 0 x.latch (perfKey master n) (v / 2 ^ 32) })
    let s2 := if s.perfChained n then
        s1.onPerf (fun x => { x with chained := tput x.chained (perfKey master (n + 1)) (w % 2 ^ 32, w / 2 ^ 32) })
      else s1
    (s2, v % 2 ^ 32)

/-- A master's read of PERF_CNTn_HI: the value latched for it (R470). -/
def State.perfHi (s : State) (master n : Nat) : Nat :=
  match s.perfPair master n with
  | some (_, hi) => hi
  | none => tget 0 s.perf.latch (perfKey master n)

/-- PERF_CNT_LO_READ (R470). -/
def execPerfCntLoRead (master n : Nat) (s : State) : Host.Outcome State Fault Refusal :=
  let (s1, v) := s.perfLo master (n % 128)
  .next (s1.withRdata (le32 v))

/-- PERF_CNT_HI_READ (R470). -/
def execPerfCntHiRead (master n : Nat) (s : State) : Host.Outcome State Fault Refusal :=
  .next (s.withRdata (le32 (s.perfHi master (n % 128))))

end Sys2Proof.Machine
end

