-- ==== Sys2Proof/Machine/FacetRun.lean ====
section
/-! DEFINITION. Running a Facet task instance: instruction words, loops, branches, far access, traps, faults and the end
of an instance (R271, R278 to R291, R294, R297, R298). -/

namespace Sys2Proof.Machine

/-! ### Windows and images (R270, R301) -/

/-- The base of core n's window. -/
def facetWin (n : Nat) : Nat := 0x14000000 + n * 0x40000

/-- The program words P of a task. -/
def FTask.pWords (t : FTask) : Nat := u16At (t.image.getD []) 4
/-- The X words of a task. -/
def FTask.xWords (t : FTask) : Nat := u16At (t.image.getD []) 6
/-- The Y words of a task. -/
def FTask.yWords (t : FTask) : Nat := u16At (t.image.getD []) 8
/-- The declared cycles of a task at a rate. -/
def FTask.cycles (t : FTask) (rate96 : Bool) : Nat := u32At (t.image.getD []) (if rate96 then 20 else 16)
/-- Whether a task is an insert task. -/
def FTask.insert (t : FTask) : Bool := decide (t.attach ≤ 1)

/-- The data memories of a task, on the core where its regions are. -/
def State.facetMem (s : State) (t : FTask) : FMem :=
  ⟨t.xWords, t.yWords, s.mem, facetWin t.core + 4 * t.xBase, facetWin t.core + 0x10000 + 4 * t.yBase⟩

/-- A program word of a task. -/
def State.facetWord (s : State) (t : FTask) (off : Nat) : Nat :=
  u32At (mread s.mem (facetWin t.core + 0x20000 + 4 * (t.pBase + off)) 4) 0

/-- The length in words of the instruction at an offset. -/
def State.facetLen (s : State) (t : FTask) (off : Nat) : Nat := if s.facetWord t off / 2 ^ 28 = 15 then 2 else 1

/-- The offset k instructions after an offset. -/
def State.facetSkip (s : State) (t : FTask) : Nat → Nat → Nat
  | 0, off => off
  | k + 1, off => s.facetSkip t k (off + s.facetLen t off)

/-! ### Decoding (R278 to R286) -/

/-- The parallel-move field of a word. -/
def pmAt (w : Nat) : PMove :=
  ⟨bitOf w 10, bitsOf w 9 8, bitsOf w 7 6, bitOf w 5, bitsOf w 4 3, bitsOf w 2 1, bitOf w 0⟩

/-- A memory move's second access. -/
def movSecond (w : Nat) : Option MovAcc :=
  if bitOf w 15 then some ⟨bitOf w 14, bitsOf w 13 12, bitsOf w 11 9, bitsOf w 8 4⟩ else none

/-- Whether a memory move's unused fields are zero. -/
def movTidy (w : Nat) : Bool := bitsOf w 3 0 == 0 && (bitOf w 15 || bitsOf w 14 4 == 0)

/-- A loop-class word. -/
def loopAt (w : Nat) : FOp :=
  match bitsOf w 27 24 with
  | 0 => if bitsOf w 23 12 = 0 then .rptN false (bitsOf w 11 0) else .illegal
  | 1 => if bitsOf w 23 4 = 0 then .rptN true (bitsOf w 3 0) else .illegal
  | 2 => .loopN false (bitsOf w 23 16) (bitsOf w 15 0)
  | 3 => if bitsOf w 15 4 = 0 then .loopN true (bitsOf w 23 16) (bitsOf w 3 0) else .illegal
  | 4 => if bitsOf w 23 4 = 0 then .leave (bitsOf w 3 0) else .illegal
  | _ => .illegal

/-- A control-class word. -/
def ctlAt (w : Nat) : FOp :=
  let cc := bitsOf w 23 20
  match bitsOf w 27 24 with
  | 0 => if bitsOf w 23 0 = 0 then .nop else .illegal
  | 1 => if bitsOf w 19 14 = 0 then .bra cc (bitsOf w 13 0) else .illegal
  | 2 => if bitsOf w 19 14 = 0 then .bsr cc (bitsOf w 13 0) else .illegal
  | 3 => if bitsOf w 19 0 = 0 then .rts cc else .illegal
  | 4 => if bitsOf w 23 4 = 0 then .jmp (bitsOf w 3 0) else .illegal
  | 5 => if bitsOf w 23 0 = 0 then .yield else .illegal
  | 6 => if bitsOf w 23 8 = 0 then .trap (bitsOf w 7 0) else .illegal
  | 7 => if bitsOf w 23 0 = 0 then .fence 0 else .illegal
  | 8 => if bitsOf w 23 16 = 0 then .setm (bitsOf w 15 8) (bitsOf w 7 0) else .illegal
  | 9 => if bitsOf w 23 8 = 0 then .seg (bitsOf w 7 0) else .illegal
  | _ => .illegal

/-- The instruction of a word and its second word; `f` is how a far access would end. -/
def facetDecode (w w2 : Nat) (f : Far) : FOp :=
  match w / 2 ^ 28 % 16 with
  | 4 => .acc (bitsOf w 27 23) ⟨bitsOf w 22 21, bitsOf w 20 19, bitsOf w 18 11, pmAt w⟩
  | 5 => .dat (bitsOf w 27 23) ⟨bitsOf w 22 19, bitsOf w 18 15, bitsOf w 14 11, bitOf w 10, bitsOf w 9 0⟩
  | 6 => if movTidy w then .mov ⟨bitOf w 26, ⟨bitOf w 27, bitsOf w 25 24, bitsOf w 23 21, bitsOf w 20 16⟩, movSecond w⟩ else .illegal
  | 7 => .reg (bitsOf w 27 26) ⟨bitsOf w 25 21, bitsOf w 20 16, bitsOf w 15 0⟩
  | 8 => if bitsOf w 18 16 = 0 then .addr (bitsOf w 27 24) ⟨bitsOf w 23 19, bitsOf w 15 0⟩ else .illegal
  | 9 => loopAt w
  | 10 => ctlAt w
  | 15 => if bitsOf w 14 0 = 0 then .long (bitsOf w 27 24) ⟨bitsOf w 23 19, bitsOf w 18 15, BitVec.ofNat 32 w2⟩ f else .illegal
  | k => if k < 4 then .mac (bitsOf w 29 27) ⟨bitsOf w 26 25, bitsOf w 24 23, bitsOf w 22 20, bitsOf w 19 17, bitsOf w 16 14, bitsOf w 13 11, pmAt w⟩
    else .illegal

/-! ### Flow within an instance -/

/-- The length of an instruction. -/
def FOp.len : FOp → Nat
  | .long _ _ _ => 2
  | _ => 1

/-- The classes that RPT may repeat (R287): 0x0 to 0x8. -/
def FOp.repeatable : FOp → Bool
  | .mac _ _ => true | .acc _ _ => true | .dat _ _ => true | .mov _ => true | .reg _ _ => true | .addr _ _ => true
  | .illegal => true
  | _ => false

/-- The instructions that must not end a LOOP body (R288). -/
def FOp.flow : FOp → Bool
  | .rptN _ _ => true | .loopN _ _ _ => true | .leave _ => true | .bra _ _ => true | .bsr _ _ => true | .rts _ => true
  | .jmp _ => true | .yield => true
  | _ => false

/-- Where the instruction after the one at pc is, with LOOP entries that end there counted down or popped (R288). -/
def loopNext (pc len : Nat) : List (Nat × Nat × Nat) → List (Nat × Nat × Nat) × Nat
  | [] => ([], pc + len)
  | (f, l, n) :: rest =>
    if pc = l then (if n ≤ 1 then loopNext pc len rest else ((f, l, n - 1) :: rest, f))
    else ((f, l, n) :: rest, pc + len)

/-- The context moved past an instruction of `len` words. -/
def FCtx.advance (c : FCtx) (len : Nat) : FCtx :=
  let r := loopNext c.pc len c.loops
  { c with loops := r.1, pc := r.2 }

/-- Whether pc is the last offset of the innermost LOOP body. -/
def FCtx.atLast (c : FCtx) : Bool :=
  match c.loops with
  | (_, l, _) :: _ => c.pc == l
  | [] => false

/-! ### Items and tasks -/

/-- Disables a task at once: its reservation, pending instances and timer go, and its regions are free (R298, R302, R313). -/
def State.disableTask (s : State) (t : Nat) : State :=
  let s1 := s.cancelTimer t
  let s2 := s1.each (s1.sched.items.filter (fun e => e.2.task == some t)) (fun u e =>
    match u.item? e.1 with
    | none => u
    | some i =>
      let u1 := if i.inService then u.leaveSlot e.1 i else u
      u1.onSched (fun x => { x with items := tdel x.items e.1 }))
  s2.setTask t { s2.task t with enabled := false, change := none, moveTo := none, slot := none, misses := 0, armed := false, yielded := false }

/-- An instance charged some more cycles. -/
def Item.spent (i : Item) (k : Nat) : Item := { i with ctx := { i.ctx with charged := i.ctx.charged + k } }

/-- The declared cycles that bound an instance: those of an insert task. -/
def State.facetLimit (s : State) (i : Item) : Option Nat :=
  match i.task with
  | some t => if (s.task t).insert then some ((s.task t).cycles s.time.rate96) else none
  | none => none

/-- Whether an instance has been charged its declared cycles (R294). -/
def State.spentOut (s : State) (i : Item) : Bool :=
  match s.facetLimit i with
  | some l => decide (l ≤ i.ctx.charged)
  | none => false

/-! ### Outputs (R24, R292) -/

/-- The address of channel area entry i of a task. -/
def areaAddr (t : FTask) (i : Nat) : Nat := facetWin t.core + 4 * t.xBase + 32 * i

/-- The channel list of a task in force: the entries below its channel count. -/
def FTask.list (t : FTask) : List (Nat × (Nat × Nat × Nat)) := t.chan.filter (fun e => decide (e.1 < t.chans))

/-- What a task's output or in-place entry delivers at the cut-off: its area when it has yielded, zeros otherwise. -/
def State.collectEntry (s : State) (t : FTask) (ok : Bool) (e : Nat × (Nat × Nat × Nat)) : State :=
  let v := fun (k : Nat) => if ok then s32At (mread s.mem (areaAddr t e.1 + 4 * k) 4) 0 else 0
  let put := fun (tb : Tbl Int) (base : Nat) => (List.range 8).foldl (fun x k => tset 0 x (base + k) (v k)) tb
  if e.2.2.1 = 3 then s.onPipe (fun p => { p with facetOut := put p.facetOut (e.2.2.2 * 8) })
  else if e.2.2.1 = 5 then s.onPipe (fun p => { p with busIns := put p.busIns (e.2.2.2 * 8) })
  else s

/-- The outputs of an insert task that ends within its period are zero for the quantum (R24, R298). -/
def State.zeroOutputs (s : State) (t : FTask) : State :=
  if s.sched.rtReleased ∧ t.insert ∧ t.armed then s.each t.list (fun u x => u.collectEntry t false x) else s

/-- The buses of a bus-insert task. -/
def FTask.buses (t : FTask) : List Nat := (t.list.filter (fun e => e.2.2.1 == 5 && t.attach == 1)).map (fun e => e.2.2.2)

/-- Adds the cycles of an ended RT instance to its core's sum of the quantum (FCORE_USED). -/
def State.noteUsed (s : State) (n : Nat) (i : Item) : State :=
  if i.cls = 0 then s.onSched (fun x => { x with used := tmod 0 x.used n (· + i.ctx.charged) }) else s

/-- A fault of the resident instance (R298). -/
def State.facetFault (s : State) (n slot : Nat) (i : Item) (cause : Nat) : State :=
  let t := i.task.getD 0
  let s1 := s.wr (Reg.FCORE_FAULT n) (t % 1024 * 2 ^ 18 + i.ctx.pc % 2 ^ 14 * 16 + cause)
  let s2 := ((s1.bump (Reg.FCORE_CNT n 2)).raise (Reg.FCORE_INT_STATUS n) 0).post 0x7001
    (le16 t ++ le8 cause ++ le8 n ++ le16 i.ctx.pc)
  (((s2.noteUsed n i).terminateItem slot i 3).zeroOutputs (s.task t)).disableTask t

/-- A missed deadline of a task: counted with its host event; on the 16th in a row the task is disabled, and its buses
stay at zero until it is enabled again (R25, R313). -/
def State.missDeadline (s : State) (t : Nat) : State :=
  let k := (s.task t).misses + 1
  let n := (s.task t).core
  let s1 := s.setTask t { s.task t with misses := k }
  let s2 := ((s1.bump (Reg.FCORE_CNT n 0)).raise (Reg.FCORE_INT_STATUS n) 1).post 0x7002 (le16 t ++ le8 k)
  if k < 16 then s2
  else
    let k0 := s.task t
    let i := ((s2.task t).slot.bind s2.item?)
    let s3 := s2.raise Reg.SCHED_INT_STATUS 4
    let s4 := match i with
      | some i => s3.schedRec 12 0xFF (s3.task t).slot i 16
      | none => s3
    let s5 := (((s4.post 0x7003 (le16 t)).zeroOutputs k0).disableTask t)
    s5.setTask t { s5.task t with mute := k0.buses }

/-- An instance reached its declared cycles (R294): terminated as if it had missed its deadline, and counted as both. -/
def State.facetOverrun (s : State) (n slot : Nat) (i : Item) : State :=
  ((((s.bump (Reg.FCORE_CNT n 1)).raise (Reg.FCORE_INT_STATUS n) 2).noteUsed n i).terminateItem slot i 2).missDeadline (i.task.getD 0)

/-- The instance after an instruction: its registers and charge stored, terminated at its declared cycles (R294). -/
def State.facetDone (s : State) (n slot : Nat) (i : Item) (c : FCtx) (cyc : Nat) : State :=
  let i1 := { i with ctx := { c with charged := i.ctx.charged + cyc } }
  let s1 := s.setItem slot i1
  if s1.spentOut i1 then s1.facetOverrun n slot i1 else s1

/-- A YIELD (R285): the instance completes. -/
def State.facetYield (s : State) (n slot : Nat) (i : Item) (cyc : Nat) : State :=
  let i1 := { i with ctx := { i.ctx with charged := i.ctx.charged + cyc } }
  let s1 := match i.task with
    | some t => s.setTask t { s.task t with yielded := true }
    | none => s
  (s1.noteUsed n i1).completeItem slot i1

/-- A TRAP (R285): an EVENT-class firmware item with k and D0; the level of the item is open among 2 to 7. -/
def State.facetTrap (s : State) (n : Nat) (i : Item) (k : Nat) : State :=
  let s1 := ((s.bump (Reg.FCORE_CNT n 5)).raise (Reg.FCORE_INT_STATUS n) 3).fresh
  s1.newEvent ⟨none, 2 + Config.freeNat s.freeCnt % 6, none, 256, le8 k ++ le32 (i.ctx.dr 0), false⟩

/-! ### Far access (R291) -/

/-- The far address FSEG:(Dm + imm32). -/
def FCtx.farAddr (c : FCtx) (a : LongArgs) : Nat := 2 ^ 32 * (c.fseg % 256) + (c.dr a.m + a.imm.toNat) % 2 ^ 32

/-- The performance counter a far read names: number and whether the high half (R471). -/
def perfAt (addr : Nat) : Option (Nat × Bool) :=
  if Reg.PERF_CNT_LO 0 ≤ addr ∧ addr < Reg.PERF_CNT_LO 128 then
    some ((addr - Reg.PERF_CNT_LO 0) / 8, (addr - Reg.PERF_CNT_LO 0) % 8 != 0)
  else none

/-- Whether a task may reach an address of memory: shared SRAM, or DRAM granted to it. -/
def State.farMem (s : State) (t addr : Nat) : Bool :=
  decide (0x13000000 ≤ addr ∧ addr < 0x13400000)
    || (decide (0x100000000 ≤ addr ∧ addr < unitAddr (if s.sys.dram8 then 3584 else 1792)) && Config.facetGrant t addr)

/-- Whether a task may read the performance counter at an address. -/
def State.farPerf (s : State) (addr : Nat) : Bool :=
  match perfAt addr with
  | some (k, _) => s.bit (Reg.PERF_CFG k) 2
  | none => false

/-- The word a far read returns, and the state after it. -/
def State.farRead (s : State) (n addr : Nat) : State × Nat :=
  match perfAt addr with
  | some (k, hi) => if hi then (s, s.perfHi (n + 1) k) else s.perfLo (n + 1) k
  | none => (s, u32At (mread s.mem addr 4) 0)

/-- FLD and FST: a fault cause, or the context and the state after it. -/
def State.farAccess (s : State) (n t : Nat) (c : FCtx) (a : LongArgs) (f : Far) (store : Bool) : Except Nat (State × FCtx) :=
  let addr := c.farAddr a
  let ok := addr % 4 == 0 && (s.farMem t addr || (!store && s.farPerf addr))
  if !ok then .error 5
  else if f.lasting then .error 6
  else if store then
    let r := c.readReg (a.r % 32)
    .ok (s.withMem (mwrite s.mem addr (le32 r.1)), c.ss r.2)
  else
    .ok ((s.farRead n addr).1, c.writeReg (a.r % 32) (s.farRead n addr).2)

/-! ### One instruction -/

/-- An instruction of classes 0x0 to 0x8 on the registers (R280 to R286). -/
def FCtx.basic (c : FCtx) (m : FMem) : FOp → Except Nat FRes
  | .mac op a => c.mac m op a
  | .acc op a => c.accI m op a
  | .dat op a => c.dataI op a
  | .mov a => c.move m a
  | .reg op a => c.regMove op a
  | .addr op a => c.addrI op a
  | _ => .error 1

/-- A data word stored by an instance. -/
def State.facetStore (s : State) (t : FTask) (y : Bool) (off v : Nat) : State :=
  s.withMem (mwrite s.mem (facetWin t.core + (if y then 0x10000 + 4 * t.yBase else 4 * t.xBase) + 4 * off) (le32 v))

/-- The stores of an instruction. -/
def State.facetEff (s : State) (t : FTask) : FEff → State
  | .none => s
  | .store y o v => s.facetStore t y o v
  | .store2 y o v y2 o2 v2 => (s.facetStore t y o v).facetStore t y2 o2 v2

/-- `k` executions of an instruction of classes 0x0 to 0x8: the state, the context, the cycles, and the cause of a fault. `room` are the
cycles the instance may still be charged; none is executed once they are gone (R294). -/
def State.facetTimes (t : FTask) (o : FOp) (room : Option Nat) : Nat → State → FCtx → Nat → State × FCtx × Nat × Option Nat
  | 0, s, c, cyc => (s, c, cyc, none)
  | k + 1, s, c, cyc =>
    if (room.map (fun r => decide (r ≤ cyc))).getD false then (s, c, cyc, none)
    else match c.basic (s.facetMem t) o with
      | .error e => (s, c, cyc + 1, some e)
      | .ok r => State.facetTimes t o room k (s.facetEff t r.eff) r.ctx (cyc + r.cyc)

/-- Classes 0x0 to 0x8, once or as often as a pending RPT says. -/
def State.facetBasic (s : State) (n slot : Nat) (i : Item) (t : FTask) (c : FCtx) (o : FOp) (stall : Nat) : State :=
  let times := c.rpt.getD 1
  match State.facetTimes t o ((s.facetLimit i).map (· - i.ctx.charged)) times s { c with rpt := none } stall with
  | (s1, _, cyc, some e) => s1.facetFault n slot (i.spent cyc) e
  | (s1, c1, cyc, none) => s1.facetDone n slot i (c1.advance 1) cyc

/-- A branch to a target, or on to the next instruction (R285): a target beyond the program words is a bounds fault. -/
def State.facetBranch (s : State) (n slot : Nat) (i : Item) (t : FTask) (c : FCtx) (taken : Bool) (target stall : Nat) : State :=
  if !taken then s.facetDone n slot i (c.advance 1) (1 + stall)
  else if t.pWords ≤ target then s.facetFault n slot (i.spent (1 + stall)) 2
  else s.facetDone n slot i { c with pc := target } (3 + stall)

/-- RPT (R284, R287). -/
def State.facetRpt (s : State) (n slot : Nat) (i : Item) (c : FCtx) (reg : Bool) (k stall : Nat) : State :=
  let times := if reg then c.dr k else k % 4096 + 1
  if 4096 < times then s.facetFault n slot (i.spent (1 + stall)) 8
  else s.facetDone n slot i { c.advance 1 with rpt := some times } (1 + stall)

/-- LOOP (R284, R288). A body that is skipped ends where it would have ended: an enclosing body that ends there too is counted. -/
def State.facetLoop (s : State) (n slot : Nat) (i : Item) (t : FTask) (c : FCtx) (reg : Bool) (body k stall : Nat) : State :=
  let times := if reg then c.dr k else k % 65536
  let last := s.facetSkip t (body % 256) (c.pc + 1)
  let past := loopNext last (s.facetLen t last) c.loops
  if 65535 < times then s.facetFault n slot (i.spent (1 + stall)) 8
  else if times = 0 then s.facetDone n slot i { c with loops := past.1, pc := past.2 } (2 + stall)
  else if 4 ≤ c.loops.length then s.facetFault n slot (i.spent (1 + stall)) 3
  else s.facetDone n slot i { c with loops := (c.pc + 1, last, times) :: c.loops, pc := c.pc + 1 } (2 + stall)

/-- LEAVE (R284, R288): an enclosing body that ends with the one that is left is counted. With no LOOP running it is a loop-stack fault (the model's choice). -/
def State.facetLeave (s : State) (n slot : Nat) (i : Item) (t : FTask) (c : FCtx) (cc stall : Nat) : State :=
  match c.loops with
  | [] => s.facetFault n slot (i.spent (1 + stall)) 3
  | (_, l, _) :: rest =>
    if ccHolds c.sr cc then
      s.facetDone n slot i { c with loops := (loopNext l (s.facetLen t l) rest).1, pc := (loopNext l (s.facetLen t l) rest).2 } (3 + stall)
    else s.facetDone n slot i (c.advance 1) (1 + stall)

/-- BSR (R285). -/
def State.facetCall (s : State) (n slot : Nat) (i : Item) (t : FTask) (c : FCtx) (cc target stall : Nat) : State :=
  if ccHolds c.sr cc && decide (8 ≤ c.calls.length) then s.facetFault n slot (i.spent (1 + stall)) 4
  else s.facetBranch n slot i t (if ccHolds c.sr cc then { c with calls := (c.pc + 1) :: c.calls } else c) (ccHolds c.sr cc) target stall

/-- RTS (R285). -/
def State.facetReturn (s : State) (n slot : Nat) (i : Item) (t : FTask) (c : FCtx) (cc stall : Nat) : State :=
  match ccHolds c.sr cc, c.calls with
  | false, _ => s.facetBranch n slot i t c false 0 stall
  | true, [] => s.facetFault n slot (i.spent (1 + stall)) 4
  | true, a :: rest => s.facetBranch n slot i t { c with calls := rest } true a stall

/-- The long class (R286, R291). -/
def State.facetLong (s : State) (n slot : Nat) (i : Item) (c : FCtx) (op : Nat) (a : LongArgs) (f : Far) (stall : Nat) : State :=
  let imm := a.imm.toNat
  match op with
  | 0 => if a.m ≠ 0 then s.facetFault n slot (i.spent (1 + stall)) 1
    else s.facetDone n slot i ({ c.writeReg (a.r % 32) imm with flagsBy := 0 }.advance 2) (2 + stall)
  | 1 => if 16 ≤ a.r ∨ a.m ≠ 0 then s.facetFault n slot (i.spent (1 + stall)) 1
    else s.facetDone n slot i ((c.dataDo 0 (some a.r) (c.dr a.r) imm).advance 2) (2 + stall)
  | 2 => if 16 ≤ a.r ∨ a.m ≠ 0 then s.facetFault n slot (i.spent (1 + stall)) 1
    else s.facetDone n slot i ((c.dataDo 11 none (c.dr a.r) imm).advance 2) (2 + stall)
  | 3 =>
    match s.farAccess n (i.task.getD 0) c a f false with
    | .error e => s.facetFault n slot (i.spent (1 + stall)) e
    | .ok (s1, c1) => s1.facetDone n slot i ({ c1 with flagsBy := 0 }.advance 2) (2 + f.wait + stall)
  | 4 =>
    match s.farAccess n (i.task.getD 0) c a f true with
    | .error e => s.facetFault n slot (i.spent (1 + stall)) e
    | .ok (s1, c1) => s1.facetDone n slot i ({ c1 with flagsBy := 0 }.advance 2) (2 + f.wait + stall)
  | _ => s.facetFault n slot (i.spent (1 + stall)) 1

/-- One instruction of the resident instance: `c` is its context with stalls aged. -/
def State.facetOne (s : State) (n slot : Nat) (i : Item) (t : FTask) (c : FCtx) (stall : Nat) : FOp → State
  | .mac op a => s.facetBasic n slot i t c (.mac op a) stall
  | .acc op a => s.facetBasic n slot i t c (.acc op a) stall
  | .dat op a => s.facetBasic n slot i t c (.dat op a) stall
  | .mov a => s.facetBasic n slot i t c (.mov a) stall
  | .reg op a => s.facetBasic n slot i t c (.reg op a) stall
  | .addr op a => s.facetBasic n slot i t c (.addr op a) stall
  | .rptN reg k => s.facetRpt n slot i c reg k stall
  | .loopN reg body k => s.facetLoop n slot i t c reg body k stall
  | .leave cc => s.facetLeave n slot i t c cc stall
  | .nop => s.facetDone n slot i (c.advance 1) (1 + stall)
  | .bra cc target => s.facetBranch n slot i t c (ccHolds c.sr cc) (target % 2 ^ 14) stall
  | .bsr cc target => s.facetCall n slot i t c cc (target % 2 ^ 14) stall
  | .rts cc => s.facetReturn n slot i t c cc stall
  | .jmp m => s.facetBranch n slot i t c true (c.dr m) stall
  | .yield => s.facetYield n slot i (1 + stall)
  | .trap k => (s.facetTrap n i k).facetDone n slot i (c.advance 1) (1 + stall)
  | .fence wait => s.facetDone n slot i (c.advance 1) (1 + wait + stall)
  | .setm mask v =>
    s.facetDone n slot i ({ c with sr := withBits c.sr 15 8 ((bitsOf c.sr 15 8 &&& (255 - mask % 256)) ||| (v &&& mask % 256 &&& 0x0F)) }.advance 1)
      (1 + stall)
  | .seg k => s.facetDone n slot i ({ c with fseg := k % 256 }.advance 1) (1 + stall)
  | .long op a f => s.facetLong n slot i c op a f stall
  | .illegal => s.facetFault n slot (i.spent (1 + stall)) 1

/-- The resident instance of core n issues an instruction: a fetch beyond the program words is a bounds fault, an instruction
RPT cannot repeat a repeat fault, a flow instruction at the end of a LOOP body illegal (R271, R287, R288); one whose declared cycles end
while it waits is not executed (R294). -/
def State.facetIssue (s : State) (n slot : Nat) (i : Item) (o : FOp) : State :=
  let t := s.task (i.task.getD 0)
  let c := i.ctx
  let st := c.stall o
  if t.pWords < c.pc + o.len then s.facetFault n slot (i.spent 1) 2
  else if c.rpt.isSome && !o.repeatable then s.facetFault n slot (i.spent 1) 7
  else if o.flow && c.atLast then s.facetFault n slot (i.spent 1) 1
  else if s.spentOut (i.spent st) then s.facetOverrun n slot (i.spent st)
  else s.facetOne n slot i t { c.aged st with flagsBy := 0 } st o

/-- Core n executes an instruction with its resident instance; without one, or with the core not executing, nothing happens. -/
def State.facetExec (s : State) (n : Nat) (o : FOp) : State :=
  match s.resident n with
  | none => s
  | some slot =>
    match s.item? slot with
    | none => s
    | some i => if s.coreAlive n && !s.coreHalted n then s.facetIssue n slot i o else s

/-- STEP: a halted core executes the instruction at its program counter (FCORE_CTRL). -/
def State.facetStep (s : State) (n : Nat) (f : Far) : State :=
  match s.resident n with
  | none => s
  | some slot =>
    match s.item? slot with
    | none => s
    | some i =>
      if s.coreAlive n && s.coreHalted n then
        let t := s.task (i.task.getD 0)
        s.facetIssue n slot i (facetDecode (s.facetWord t i.ctx.pc) (s.facetWord t (i.ctx.pc + 1)) f)
      else s

end Sys2Proof.Machine
end

