-- ==== Sys2Proof/Machine/Xbar.lean ====
section
/-! DEFINITION. The bus matrix and the locks (chapter 12): masters and their masks, targets, permissions, error responses, and
the lock unit. The commands of the matrix are in Machine/XbarRows.lean. -/

namespace Sys2Proof.Machine

/-! ### Masters (R323, R336) -/

/-- The power domain of a master, as a bit of SYS_PWR_STATUS. -/
def masterDomain (m : Nat) : Nat :=
  if 1 ≤ m ∧ m ≤ 8 then 6
  else match m with
    | 10 => 8 | 11 => 3 | 12 => 5 | 13 => 3 | 14 => 9 | 15 => 2 | _ => 1

/-- Whether a master is masked (R323, R336): its domain is off, it is in reset, or it is a fused core of the MK9610-IL. -/
def State.masked (s : State) (m : Nat) : Bool :=
  !bitOf s.sys.pwr (masterDomain m) || bitOf s.xbar.resetMask m || (s.sys.orderIL && decide (5 ≤ m ∧ m ≤ 8))

/-- Whether a master may take locks (R323). -/
def mayLock (m : Nat) : Bool := m == 0 || decide (10 ≤ m ∧ m ≤ 15)

/-! ### Targets (R326) -/

/-- The target of an address for a master: none is a decode error. -/
def State.targetOf (s : State) (m a : Nat) : Option Nat :=
  if a < 0x20000 then some 0
  else if 0x08000000 ≤ a ∧ a < 0x08180000 then some 1
  else if 0x10000000 ≤ a ∧ a < 0x10500000 then some 2
  else if 0x11000000 ≤ a ∧ a < 0x11C00000 then some 3
  else if 0x12000000 ≤ a ∧ a < 0x12600000 then some 4
  else if 0x13000000 ≤ a ∧ a < 0x13400000 then some 5
  else if 0x14000000 ≤ a ∧ a < 0x14200000 then some 6
  else if 0x20000000 ≤ a ∧ a < 0x20160000 then some 7
  else if s.dramUsable a then
    some (if 1 ≤ m ∧ m ≤ 8 then 9 else if m = 9 then 10 else if m = 14 ∨ m = 15 then 11 else 8)
  else none

/-- The power domain of a register block by its place in the map of 64 KiB blocks (R449, R448). -/
def blockDomain (a : Nat) : Nat :=
  match (a - 0x20000000) / 0x10000 with
  | 3 => 1 | 4 => 2 | 5 => 2 | 6 => 7 | 7 => 3 | 8 => 3 | 9 => 3 | 10 => 5 | 11 => 9 | 12 => 9 | 13 => 8 | 14 => 8 | 15 => 8
  | 17 => 2 | 18 => 2 | 19 => 1 | 21 => 1 | _ => 0

/-- Whether the domain that serves an address is on (R328). -/
def State.targetOn (s : State) (t a : Nat) : Bool :=
  match t with
  | 2 => bitOf s.sys.pwr 3
  | 3 => bitOf s.sys.pwr 3
  | 4 => bitOf s.sys.pwr 5
  | 6 => bitOf s.sys.pwr 6
  | 7 => bitOf s.sys.pwr (blockDomain a)
  | 8 => bitOf s.sys.pwr 7
  | 9 => bitOf s.sys.pwr 7
  | 10 => bitOf s.sys.pwr 7
  | 11 => bitOf s.sys.pwr 7
  | _ => true

/-- Whether an address is a lock register (LOCK_ACQ, LOCK_REL, LOCK_STATE, LOCK_HELD). -/
def isLockReg (a : Nat) : Bool := decide (Reg.LOCK_ACQ 0 ≤ a ∧ a < 0x20052000)

/-- Whether a master may use a target for an access (R342, R327, R291, R323). -/
def State.permitted (s : State) (m t a : Nat) (write : Bool) : Bool :=
  let dbg := m == 15 && s.sec.unlocked
  match t with
  | 0 => !write && (m == 0 || dbg)
  | 1 => m == 0 || dbg
  | 2 => if write then m == 0 && !s.bit Reg.PRISM_CTRL 0 else m == 0 || dbg
  | 3 => if write then m == 0 && !s.bit Reg.PRISM_CTRL 0 else m == 0 || dbg
  | 4 => if write then m == 12 else m == 0 || dbg
  | 5 => decide (m ≤ 14) || dbg
  | 6 => m == 0 || dbg
  | 7 =>
    if 1 ≤ m ∧ m ≤ 8 then !write && s.farPerf a
    else if 0x20150000 ≤ a then m == 0
    else m == 0 || dbg || (mayLock m && m != 15 && isLockReg a)
  | _ => if 1 ≤ m ∧ m ≤ 8 then (match (s.resident (m - 1)).bind s.item? with
      | some i => Config.facetGrant (i.task.getD 0) a
      | none => false) else m != 13

/-! ### Error responses (R327, R328) -/

/-- XBAR_ERR: address, kind, target, master of the last error logged. -/
def State.noteErr (s : State) (m t a kind : Nat) (write : Bool) : State :=
  ((s.wr Reg.XBAR_ERR_LO a).wr Reg.XBAR_ERR_HI (a / 2 ^ 32 % 256)).wr Reg.XBAR_ERR_INFO
    (2 ^ 31 + b2n write * 2 ^ 16 + kind * 2 ^ 12 + t % 16 * 256 + m % 16)

/-- Logs an error of a request that gets an error response (R327). -/
def State.logErr (s : State) (m t a kind : Nat) (write : Bool) : State := (s.noteErr m t a kind write).raise Reg.XBAR_INT_STATUS 0

/-- What an error response does to its master (R327): a bus-error exception of the control processor and a completer abort of the
host, which HOSTIF counts, are reported in rstat; a Facet core takes a far-access fault of cause 5, or 6 where the error lasted through the
retry (R291, R298); any other master's is fatal. -/
def State.errorTo (s : State) (m a : Nat) (cause : Nat := 5) : State :=
  let s0 := ((s.withRstat 1).raise Reg.XBAR_INT_STATUS 0).perfAdd 58
  if m = 0 then s0
  else if m = 9 then (s0.raise Reg.HOSTIF_INT_STATUS 2).bump (Reg.HOSTIF_CNT 2)
  else if 1 ≤ m ∧ m ≤ 8 then
    match s0.resident (m - 1) with
    | none => s0
    | some slot =>
      match s0.item? slot with
      | none => s0
      | some i => s0.facetFault (m - 1) slot i cause
  else s0.fatalError 0x06 a

/-- The counter of an error kind: 1 decode, 2 denied, 5 domain off. -/
def errCounter (kind : Nat) : Option Nat :=
  match kind with
  | 1 => some 1 | 2 => some 2 | 5 => some 3 | _ => none

/-- An error response: a read returns zeros, a write is discarded (R327). -/
def State.busError (s : State) (m t a kind len : Nat) (write : Bool) : State :=
  let s1 := s.logErr m t a kind write
  let s2 := match errCounter kind with
    | some n => s1.bump (Reg.XBAR_CNT n)
    | none => s1
  (s2.withRdata (if write then [] else zeros len)).errorTo m a

/-- Why a request cannot be forwarded: its error kind and target, if it cannot (R327 to R329). A domain that is off answers every access
(R328, R342), a failed target at once. -/
def State.refusal (s : State) (m a : Nat) (write : Bool) : Option (Nat × Nat) :=
  match s.targetOf m a with
  | none => some (1, 15)
  | some t =>
    if !s.targetOn t a then some (5, t)
    else if !s.permitted m t a write then some (2, t)
    else if s.xbar.failed.contains t || (t == 7 && s.xbar.failedBlocks.contains (a / 0x10000)) then some (4, t)
    else none

/-! ### Locks (R338 to R341) -/

/-- A lock. -/
def State.lock (s : State) (n : Nat) : Lock := tget Lock.init s.xbar.locks n

/-- The state with a lock changed. -/
def State.setLock (s : State) (n : Nat) (l : Lock) : State := s.onXbar (fun x => { x with locks := tset Lock.init x.locks n l })

/-- The word of LOCK_STATEn. -/
def Lock.word (l : Lock) : Nat := b2n l.held * 2 ^ 31 + b2n l.broken * 2 ^ 30 + l.owner

/-- Whether n is higher than every lock a master holds. -/
def State.lockAbove (s : State) (m n : Nat) : Bool := s.xbar.locks.all (fun e => !(e.2.held && e.2.owner == m) || decide (e.1 < n))

/-- A read of LOCK_ACQn by a master that may take locks (R338): the state after it and the word read. -/
def State.lockAcq (s : State) (m n : Nat) : State × Nat :=
  let l := s.lock n
  if m = 15 then (s, l.word)
  else if !s.lockAbove m n then ((s.bump (Reg.XBAR_CNT 7)).perfAdd 60, 3 * 2 ^ 30 + l.owner)
  else if l.held then (s.perfAdd 61, 2 * 2 ^ 30 + l.owner)
  else ((s.setLock n ⟨true, m, false⟩).perfAdd 59, b2n l.broken * 2 ^ 30 + m)

/-- A write of 1 to LOCK_RELn (R339). -/
def State.lockRel (s : State) (m n : Nat) : State :=
  let l := s.lock n
  if l.held && l.owner == m then s.setLock n { l with held := false } else s.bump (Reg.XBAR_CNT 9)

/-- LOCK_ACQ (R338): a master reads LOCK_ACQn; a masked master has withdrawn it, one that may not take locks is denied. -/
def execLockAcq (master n : Nat) (s : State) : Host.Outcome State Fault Refusal :=
  if s.masked master || decide (64 ≤ n) then .next s
  else if !mayLock master || (master == 15 && !s.sec.unlocked) then .next (s.busError master 7 (Reg.LOCK_ACQ n) 2 4 false)
  else
    let (s1, w) := s.lockAcq master n
    .next ((s1.withRdata (le32 w)).withRstat 0)

/-- LOCK_REL (R339): a master writes 1 to LOCK_RELn. -/
def execLockRel (master n : Nat) (s : State) : Host.Outcome State Fault Refusal :=
  if s.masked master || decide (64 ≤ n) then .next s
  else if !mayLock master || (master == 15 && !s.sec.unlocked) then .next (s.busError master 7 (Reg.LOCK_REL n) 2 4 true)
  else .next ((s.lockRel master n).withRstat 0)

/-- The locks of newly masked masters are freed with BROKEN set (R340), their requests leave the matrix, and responses to granted
ones will be discarded (R336). `was` is the state before the mask rose. -/
def State.maskEvents (s was : State) : State :=
  let newly := (List.range 16).filter (fun m => s.masked m && !was.masked m)
  let broken := s.xbar.locks.filter (fun e => e.2.held && newly.contains e.2.owner)
  let s1 := s.each broken (fun t e =>
    (((t.setLock e.1 { e.2 with held := false, broken := true }).bump (Reg.XBAR_CNT 8)).perfAdd 63).raise Reg.XBAR_INT_STATUS 3)
  let keep := fun (e : XEntry) => !newly.contains e.req.master || e.st == XState.granted
  let mark := fun (e : XEntry) => if newly.contains e.req.master then { e with discard := true } else e
  s1.onXbar (fun x => { x with reqs := (x.reqs.filter keep).map mark })

/-- The power domains changed to `p`, with what that does to masters (R449). -/
def State.setPwr (s : State) (p : Nat) : State := (s.onSys (fun x => { x with pwr := p })).maskEvents s

/-- The domains of MEASURE, RENDER and MIRROR (R450): all, PRISM_B with the recorded state of half B in the rendering modes. -/
def State.livePwr (s : State) (m : Mode) : Nat := 0x3EF + 16 * b2n (m != .measure && s.prism.halfRecorded && !s.sys.orderIL)

/-- The domains of a mode that is being entered are powered, and the DRAM leaves self-refresh (R404). -/
def State.wakeFor (s : State) (m : Mode) : State := (s.setPwr (s.livePwr m)).onDdrc (fun x => { x with selfRefresh := false })

end Sys2Proof.Machine
end

