-- ==== Sys2Proof/Machine/NetPort.lean ====
section
/-! DEFINITION. The Ethernet ports' own work (R207 to R214, R220 to R225, R245): links, transmit queues, transmit and receive rings,
timestamps, and the transparent clock. -/

namespace Sys2Proof.Machine

/-- A port's state. -/
def State.mac (s : State) (m : Nat) : MacSt := tget MacSt.init s.net.mac m

/-- The state with a port changed. -/
def State.setMac (s : State) (m : Nat) (v : MacSt) : State := s.onNet (fun x => { x with mac := tset MacSt.init x.mac m v })

/-- A port changed by a function. -/
def State.onMac (s : State) (m : Nat) (f : MacSt → MacSt) : State := s.setMac m (f (s.mac m))

/-- Whether a port runs: NET is powered and MAC_CTRL.ENABLE is set. -/
def State.macOn (s : State) (m : Nat) : Bool := decide (m < 2) && bitOf s.sys.pwr 8 && s.bit (Reg.MAC_CTRL m) 0

/-- DUAL mode (R207). -/
def State.dual (s : State) : Bool := s.bit (Reg.MAC_CTRL 0) 1

/-- Jumbo frames on a port (R208). -/
def State.jumbo (s : State) (m : Nat) : Bool := s.bit (Reg.MAC_CTRL m) 2

/-- The longest frame without FCS that may be sent (R224). -/
def State.txMax (s : State) (m : Nat) : Nat := if s.jumbo m then 9212 else 1518

/-- A port's own Ethernet address. -/
def State.macAddr (s : State) (m : Nat) : Nat := s.fld (Reg.MAC_ADDR_HI m) 15 0 * 2 ^ 32 + s.rd (Reg.MAC_ADDR_LO m)

/-- A MAC counter advanced. -/
def State.macCnt (s : State) (m n : Nat) : State := s.bump (Reg.MAC_CNT m n)

/-! ### Timestamps (R245, R246) -/

/-- A time of ticks and core cycles in 2^-16 ns; the fraction below that is cut. -/
def stamp16 (ticks cyc : Nat) : Nat := (50 * ticks + cyc) * 15625 * 65536 / 19200

/-- What the counter read at a past event tick: the steps applied since are taken off again (R245). -/
def State.tickAt (s : State) (e : Nat) : Nat :=
  let later := (s.time.jumps.filter (fun j => decide (e < j.1))).foldl (fun a j => a + j.2) 0
  ((s.time.tick : Int) - later - ((s.time.eventTick : Int) - e)).toNat

/-- The reception timestamp of a frame whose start character passed `ago` ticks and some core cycles back, in 2^-16 ns: what the counter
read in that tick. -/
def State.rxStamp (s : State) (m ago cyc : Nat) : Int :=
  (stamp16 (s.tickAt (s.time.eventTick - ago)) cyc : Nat) + toSigned 32 (s.rd (Reg.TS_RX_ADJ m))

/-- The transmission timestamp of a frame that starts now. -/
def State.txStamp (s : State) (m cyc : Nat) : Int := (stamp16 s.time.tick cyc : Nat) + toSigned 32 (s.rd (Reg.TS_TX_ADJ m))

/-- The timestamps of the residence time (R214): core cycles from a count that no time step moves. -/
def State.coreStamp (s : State) (ago cyc : Nat) (adj : Nat) : Int := (stamp16 (s.time.eventTick - ago) cyc : Nat) + toSigned 32 (s.rd adj)

/-- The timestamp record of R222. -/
def stampRecord (t : Int) (len port flags : Nat) : Bytes :=
  let ns := t.toNat / 65536
  let sec := ns / 10 ^ 9
  le32 (ns % 10 ^ 9) ++ le32 sec ++ le16 (sec / 2 ^ 32) ++ le16 (t.toNat % 65536) ++ le16 len ++ le8 port ++ le8 flags

/-- Whether a frame is a PTP event message. -/
def isPtpEvent (f : Bytes) : Bool := ((ptpType f).map (fun k => decide (k < 4))).getD false

/-! ### Links (R210) -/

/-- LINK_EVENT: 1 FLAP, 2 FAILED, 3 RESTORED. -/
def State.linkEvent (s : State) (m kind : Nat) : State := s.post 0x4001 (le8 m ++ le8 kind)

/-- The core cycles since reset at cycle `cyc` of the event tick. -/
def State.coreNow (s : State) (cyc : Nat) : Nat := 50 * s.time.eventTick + cyc

/-- A frame leaves the receive buffer of the port it arrived on at a core cycle (R212). -/
def State.leaveBuffer (s : State) (m at_ : Nat) (f : TxFrame) : State :=
  if f.rxStamp.isSome then s.onMac (1 - m) (fun v => { v with left := v.left ++ [(at_, f.data.length + 4)] }) else s

/-- A frame queued for a port whose link is down: dropped, counted FWD_DROP (R210). The descriptor of a ring frame is taken with it: nothing is
held back, and it completes without a transmit timestamp (DEDUCED, notes/assumptions/67). -/
def State.dropFrame (s : State) (m : Nat) (f : TxFrame) : State :=
  let s1 := ((s.macCnt m 16).perfAdd 102).leaveBuffer m (s.coreNow 0) f
  match f.ring with
  | some (t, i) => s1.onMac m (fun v => { v with started := v.started ++ [(t, i, none)] })
  | none => s1

/-- The frames queued for a port, in the order in which they would leave. -/
def MacSt.queue (v : MacSt) : List TxFrame := v.next.toList ++ v.q0 ++ v.q1 ++ v.q2

/-- Frames queued for a port whose link is down are dropped (R210). -/
def State.dropQueued (s : State) (m : Nat) : State :=
  let s1 := s.onMac m (fun v => { v with q0 := [], q1 := [], q2 := [], next := none })
  s1.each (s.mac m).queue (fun t f => t.dropFrame m f)

/-- LINK_UP changes. -/
def State.setLink (s : State) (m : Nat) (up : Bool) : State :=
  if (s.mac m).linkUp = up then s else (s.onMac m (fun v => { v with linkUp := up })).raise (Reg.MAC_INT_STATUS m) 0

/-- A port loses block lock (R210): retraining starts, frames queued for the port are dropped. -/
def State.loseLock (s : State) (mac : Nat) : State :=
  if !s.macOn mac ∨ !(s.mac mac).linkUp then s
  else ((s.setLink mac false).onMac mac (fun v => { v with retraining := true })).dropQueued mac

/-- BLOCK_LOCK_LOSS (R210): a port loses block lock. Where the SerDes PLL has lost lock, both do (R265). -/
def execBlockLockLoss (lost : LockLoss) (s : State) : Host.Outcome State Fault Refusal :=
  if s.discards then .next s
  else match lost with
    | .port mac => .next (s.loseLock mac)
    | .serdesPll => .next ((((s.onTime (fun x => { x with sdLock := false })).raise Reg.CLK_INT_STATUS 3).loseLock 0).loseLock 1)

/-- The SerDes PLL is locked: a link has block lock again (R265). -/
def State.sdLocked (s : State) : State := s.onTime (fun x => { x with sdLock := true })

/-- RETRAIN_END (R210): block lock regained, a flap; or the link is marked failed. -/
def execRetrainEnd (mac : Nat) (ok : Bool) (s : State) : Host.Outcome State Fault Refusal :=
  if !s.macOn mac ∨ !(s.mac mac).retraining then .next s
  else
    let s1 := s.onMac mac (fun v => { v with retraining := false, failed := !ok })
    .next (if ok then ((s1.sdLocked.setLink mac true).macCnt mac 18).linkEvent mac 1
      else ((s1.macCnt mac 19).raise (Reg.MAC_INT_STATUS mac) 1).linkEvent mac 2)

/-- LINK_POLL (R210): a failed link, or one not yet trained, is tested; block lock returns it to service. -/
def execLinkPoll (mac : Nat) (ok : Bool) (s : State) : Host.Outcome State Fault Refusal :=
  let v := s.mac mac
  if !s.macOn mac ∨ v.linkUp ∨ v.retraining ∨ !ok then .next s
  else
    let s1 := (s.sdLocked.setMac mac { v with failed := false }).setLink mac true
    .next (if v.failed then s1.linkEvent mac 3 else s1)

/-! ### Transmit queues (R213) -/

/-- A frame put at the end of a queue; while the link is down it is dropped (R210). -/
def State.txQueue (s : State) (m q : Nat) (f : TxFrame) : State :=
  if !s.macOn m then s
  else if !(s.mac m).linkUp then s.dropFrame m f
  else s.onMac m (fun v =>
    if q = 0 then { v with q0 := v.q0 ++ [f] } else if q = 1 then { v with q1 := v.q1 ++ [f] } else { v with q2 := v.q2 ++ [f] })

/-- A frame of the device's own, from firmware or the stream engine. -/
def State.sendOwn (s : State) (m q : Nat) (f : Bytes) : State := s.txQueue m q ⟨padFrame f, none, none, .no⟩

/-- The bytes that a port's receive buffer held at a core cycle (R212): the frames that still wait to be forwarded, and those that entered the
other port's transmit FIFO, or were dropped, after it. -/
def State.rxHeld (s : State) (m at_ : Nat) : Nat :=
  let v := s.mac (1 - m)
  ((v.q0 ++ v.q1 ++ v.q2).filter (fun f => f.rxStamp.isSome)).foldl (fun n f => n + f.data.length + 4) 0
    + ((s.mac m).left.filter (fun e => decide (at_ < e.1))).foldl (fun n e => n + e.2) 0

/-- What left a port's receive buffer before the first byte of a frame that is now received: no longer needed. -/
def State.forgetLeft (s : State) (m at_ : Nat) : State :=
  s.onMac m (fun v => { v with left := v.left.filter (fun e => decide (at_ < e.1)) })

/-- The size of a ring. -/
def State.ringLen (s : State) (cfg : Nat) : Nat := min 4096 (max 16 (s.fld cfg 12 0))

/-- The address of descriptor i of an array whose register holds bits 39:8. -/
def State.arrayAt (s : State) (reg i : Nat) : Nat := s.rd reg * 256 + 16 * i

/-- The bytes master 10 reads; an address it may not reach is an error (R327). -/
def State.dmaRead (s : State) (a n : Nat) : State × Bytes :=
  match s.refusal 10 a false with
  | some (k, t) => (s.busError 10 t a k n false, zeros n)
  | none => (s, mread s.mem a n)

/-- Bytes written by master 10. -/
def State.dmaWrite (s : State) (a : Nat) (d : Bytes) : State :=
  match s.refusal 10 a true with
  | some (k, t) => s.busError 10 t a k d.length true
  | none => s.withMem (mwrite s.mem a d)

/-- A transmit descriptor: buffer address, length, status. -/
def State.txDesc (s : State) (m t i : Nat) : State × (Nat × Nat × Nat) :=
  let (s1, d) := s.dmaRead (s.arrayAt (Reg.TX_RING_DESC m t) i) 16
  (s1, (u64At d 0 % 2 ^ 40, u16At d 8, u16At d 10))

/-- Whether a descriptor's length may be sent (R224). -/
def State.txLenOk (s : State) (m len : Nat) : Bool := decide (0 < len ∧ len ≤ s.txMax m)

/-- A ring is enabled. -/
def State.txRingOn (s : State) (m t : Nat) : Bool := s.bit (Reg.TX_RING_CFG m t) 31

/-- Whether the Mirror gate withholds a frame (R238, R428). -/
def State.withheld (s : State) (f : TxFrame) : Bool := f.gate != .no && !s.mir.gateOpen

/-- A frame withheld by the gate is not transmitted; a media packet is counted STR_GATED (R238). -/
def State.withhold (s : State) (f : TxFrame) : State := if f.gate = .media then (s.bump (Reg.STR_CNT 2)).perfAdd 110 else s

/-- The bytes of a queued frame when it is chosen; a ring frame whose descriptor may not be sent has none (R224), and a frame that the gate
withholds is not taken (R238). -/
def State.frameBytes (s : State) (m : Nat) (f : TxFrame) : State × Option Bytes :=
  if s.withheld f then (s.withhold f, none)
  else match f.ring with
    | none => (s, some f.data)
    | some (t, i) =>
      let (s1, d) := s.txDesc m t i
      if s1.txRingOn m t && s1.txLenOk m d.2.1 then
        if f.data.isEmpty then
          let (s2, b) := s1.dmaRead d.1 d.2.1
          (s2, some (padFrame b))
        else (s1, some (padFrame f.data))
      else (s1, none)

/-- The frame of highest priority, taken from its queue (R213). -/
def MacSt.take (v : MacSt) : Option (TxFrame × MacSt) :=
  match v.q0, v.q1, v.q2 with
  | f :: r, _, _ => some (f, { v with q0 := r })
  | [], f :: r, _ => some (f, { v with q1 := r })
  | [], [], f :: r => some (f, { v with q2 := r })
  | [], [], [] => none

/-- When a frame of `n` bytes is whole in the 16 KiB transmit FIFO beside one of `wire` bytes that starts at a core cycle (R212): when enough of
the other has left, at 0.8 ns a byte. -/
def fifoEntry (now wire n : Nat) : Nat := now + ((wire + n - 16384) * 768 + 999) / 1000

/-- The frame chosen to be next in the transmit FIFO, behind `wire` bytes; it leaves the receive buffer when it is whole there (R212). -/
def State.setNext (s : State) (m cyc wire : Nat) (f : TxFrame) : State :=
  (s.onMac m (fun v => { v with next := some f })).leaveBuffer m (fifoEntry (s.coreNow cyc) wire (f.data.length + 4)) f

/-- The transmit FIFO takes its next frame; one that may not be sent is passed over. -/
def State.fillNext (s : State) (m cyc wire : Nat) : Nat → State
  | 0 => s
  | k + 1 =>
    if (s.mac m).next.isSome then s
    else match (s.mac m).take with
      | none => s
      | some (f, v) =>
        let (s1, b) := (s.setMac m v).frameBytes m f
        match b with
        | none => s1.fillNext m cyc wire k
        | some d => s1.setNext m cyc wire { f with data := d }

/-- Frames in a port's queues. -/
def MacSt.queued (v : MacSt) : Nat := v.q0.length + v.q1.length + v.q2.length

/-! ### The transparent clock (R214, R215) -/

/-- Whether a forwarded frame is corrected: a Sync or Delay_Req message. -/
def isCorrected (f : Bytes) : Bool := ptpType f == some 0 || ptpType f == some 1

/-- The transparent clock of a port runs (R214). -/
def State.tcOn (s : State) (m : Nat) : Bool := s.bit (Reg.MAC_CTRL m) 4

/-- It uses the peer-to-peer delay mechanism: TC_P2P is also set (R215). -/
def State.tcP2p (s : State) (m : Nat) : Bool := s.tcOn m && s.bit (Reg.MAC_CTRL m) 5

/-- The correction of a forwarded frame: residence, and for a Sync with TC_P2P the ingress link delay (R214, R215). -/
def State.correction (s : State) (m : Nat) (f : Bytes) (residence : Int) : Int :=
  residence + (if ptpType f == some 0 && s.tcP2p m then ((s.rd (Reg.MAC_LINK_DELAY (1 - m)) : Nat) : Int) else 0)

/-- A UDP checksum updated for bytes that change (R214); zero stays zero. -/
def sumUpdate (c : Nat) (old new : Bytes) : Nat :=
  if c = 0 then 0
  else
    let n := 0xFFFF - fold16 ((0xFFFF - c) + onesSum (old.map (fun b => ~~~b)) + onesSum new)
    if n = 0 then 0xFFFF else n

/-- A forwarded frame with an amount added to its correctionField, and its UDP checksum updated. -/
def correctFrame (f : Bytes) (add : Int) : Bytes :=
  match ptpOffset f with
  | none => f
  | some o =>
    let old := slice f (o + 8) 8
    let new := beBytes 8 (ofSigned 64 (toSigned 64 (be64At f (o + 8)) + add))
    let f1 := patch f (o + 8) new
    match udpOf f with
    | some (_, u) => if (etherType f).1 = 0x0800 then patch f1 (u.off + 6) (beBytes 2 (sumUpdate u.sum old new)) else f1
    | none => f1

/-- What leaves the port when a frame starts: a forwarded Sync or Delay_Req is corrected while TC_EN is set. -/
def State.corrected (s : State) (m cyc : Nat) (f : TxFrame) : State × Bytes :=
  match f.rxStamp with
  | none => (s, f.data)
  | some t =>
    if s.tcOn m && isCorrected f.data then
      ((s.macCnt m 17).perfAdd 104, correctFrame f.data (s.correction m f.data (s.coreStamp 0 cyc (Reg.TS_TX_ADJ m) - t)))
    else (s, f.data)

/-- The counts of a frame that starts (R213): sent; forwarded, at the port it arrived on. -/
def State.countSent (s : State) (m : Nat) (f : TxFrame) : State :=
  let s1 := (s.macCnt m 13).perfAdd (98 + m)
  if f.rxStamp.isSome then (s1.macCnt (1 - m) 15).perfAdd (100 + (1 - m)) else s1

/-- A frame starts on the wire. -/
def State.startFrame (s : State) (m cyc : Nat) (f : TxFrame) : State :=
  let (s1, d) := (s.countSent m f).corrected m cyc f
  s1.onMac m (fun v => { v with
    next := none, sent := d
    started := match f.ring with
      | some (t, i) => v.started ++ [(t, i, some (s.txStamp m cyc))]
      | none => v.started })

/-- A frame in the transmit FIFO that the gate now withholds is not sent (R238). -/
def State.gateNext (s : State) (m : Nat) : State :=
  match (s.mac m).next with
  | some f => if s.withheld f then (s.withhold f).onMac m (fun v => { v with next := none }) else s
  | none => s

/-! ### Transmit rings (R224, R225) -/

/-- TX_RING_TAIL_WRITE (R224): the descriptors from the old tail to the new one are queued in order. -/
def execTxRingTailWrite (mac ring v : Nat) (s : State) : Host.Outcome State Fault Refusal :=
  if 2 ≤ mac ∨ 2 ≤ ring ∨ !bitOf s.sys.pwr 8 then .next s
  else
    let size := s.ringLen (Reg.TX_RING_CFG mac ring)
    let old := s.fld (Reg.TX_RING_TAIL mac ring) 11 0
    let new := v % 4096
    let s1 := s.setFld (Reg.TX_RING_TAIL mac ring) 11 0 new
    if !s.txRingOn mac ring then .next s1
    else
      let n := (new + size - old % size) % size
      .next (s1.each (List.range n) (fun t k => t.txQueue mac (2 * ring) ⟨[], none, some (ring, (old + k) % size), .no⟩))

/-- The frames of NET_HOST_TX that wait take the descriptors of ring 1 that are free, in order (R414): length and status written at TAIL, TAIL
advanced. The buffer firmware copies a frame to is its own, and is not kept (DESIGN CHOICE, notes/assumptions/67). -/
def State.hostPush (s : State) (m : Nat) : Nat → State
  | 0 => s
  | k + 1 =>
    let size := s.ringLen (Reg.TX_RING_CFG m 1)
    let tail := s.fld (Reg.TX_RING_TAIL m 1) 11 0
    let used := (tail + size - tget 0 (s.mac m).txHead 1) % size
    match (s.mac m).hostTx with
    | [] => s
    | f :: rest =>
      if !s.macOn m ∨ !s.txRingOn m 1 ∨ size ≤ used + 1 then s
      else
        let s1 := s.dmaWrite (s.arrayAt (Reg.TX_RING_DESC m 1) tail + 8) (le16 f.length ++ le16 0)
        let s2 := (s1.setFld (Reg.TX_RING_TAIL m 1) 11 0 ((tail + 1) % size)).onMac m (fun v => { v with hostTx := rest })
        (s2.txQueue m 2 ⟨f, none, some (1, tail), .no⟩).hostPush m k

/-- All that fit. -/
def State.hostSend (s : State) (m : Nat) : State := s.hostPush m (s.mac m).hostTx.length

/-- TX_RING_ENABLE (R224): HEAD and TAIL are 0; no frame of the ring is queued. -/
def execTxRingEnable (mac ring : Nat) (s : State) : Host.Outcome State Fault Refusal :=
  if 2 ≤ mac ∨ 2 ≤ ring ∨ !bitOf s.sys.pwr 8 then .next s
  else
    let s1 := (s.setFld (Reg.TX_RING_CFG mac ring) 31 31 1).setFld (Reg.TX_RING_TAIL mac ring) 11 0 0
    let mine := fun (f : TxFrame) => (f.ring.map (·.1)) == some ring
    let s2 := s1.onMac mac (fun v => { v with
      txHead := tset 0 v.txHead ring 0, started := v.started.filter (fun e => e.1 != ring)
      q0 := v.q0.filter (fun f => !mine f), q2 := v.q2.filter (fun f => !mine f)
      next := v.next.map (fun f => if mine f then { f with ring := none } else f) })
    .next (if ring = 1 then s2.hostSend mac else s2)

/-- The descriptors from HEAD to TAIL of an enabled ring that are neither queued nor sent are taken again, from HEAD (R224). -/
def State.requeueRing (s : State) (m t : Nat) : State :=
  let v := s.mac m
  let size := s.ringLen (Reg.TX_RING_CFG m t)
  let head := tget 0 v.txHead t
  let n := (s.fld (Reg.TX_RING_TAIL m t) 11 0 + size - head) % size
  let held := fun (i : Nat) => v.queue.any (fun f => f.ring == some (t, i)) || v.started.any (fun e => e.1 == t && e.2.1 == i)
  if s.txRingOn m t then
    s.each (((List.range n).map (fun k => (head + k) % size)).filter (fun i => !held i)) (fun u i => u.txQueue m (2 * t) ⟨[], none, some (t, i), .no⟩)
  else s

/-- A port was turned on: it takes the descriptors of its rings from HEAD. -/
def State.portOn (s : State) (m : Nat) : State := ((s.requeueRing m 0).requeueRing m 1).hostSend m

/-- The status word of a transmit descriptor written back, HEAD advanced (R224). -/
def State.txWriteBack (s : State) (m t i status : Nat) : State :=
  let s1 := s.dmaWrite (s.arrayAt (Reg.TX_RING_DESC m t) i + 10) (le16 status)
  s1.onMac m (fun v => { v with
    txHead := tset 0 v.txHead t ((i + 1) % s.ringLen (Reg.TX_RING_CFG m t))
    started := v.started.filter (fun e => !(e.1 == t && e.2.1 == i)) })

/-- A descriptor that ends in ERR (R224). -/
def State.txReject (s : State) (m t i status code : Nat) : State :=
  let drop := fun (l : List TxFrame) => l.filter (fun f => f.ring != some (t, i))
  let s0 := s.onMac m (fun v => { v with q0 := drop v.q0, q2 := drop v.q2 })
  ((s0.txWriteBack m t i (status % 2 + 0x4000 + 0x1000 * code)).macCnt m 14).raise (Reg.MAC_INT_STATUS m) 7

/-- A descriptor of ring 1 was taken: the next frame of NET_HOST_TX has room. -/
def State.hostNext (s : State) (m ring : Nat) : State := if ring = 1 then s.hostSend m else s

/-- A descriptor whose frame has left, or was dropped while the link was down: its timestamp record when it asks for one and the frame was
sent, then DONE and HEAD (R224, R225). -/
def State.txComplete (s : State) (m ring i len : Nat) (d : Nat × Nat × Nat) (t : Option Int) : State :=
  let ev := b2n (isPtpEvent (mread s.mem d.1 len))
  let s1 := match bitOf d.2.2 0, t with
    | true, some x => (s.dmaWrite (s.arrayAt (Reg.TX_RING_TS m ring) i) (stampRecord x (max 60 len) m ev)).perfAdd 103 ev
    | _, _ => s
  ((s1.txWriteBack m ring i (d.2.2 % 2 + 0x8000)).raise (Reg.MAC_INT_STATUS m) 6).hostNext m ring

/-- TX_DESCRIPTOR_DONE (R224, R225): the descriptor at HEAD is rejected for its length, or was sent; its timestamp record goes first. -/
def execTxDescriptorDone (mac ring : Nat) (s : State) : Host.Outcome State Fault Refusal :=
  if 2 ≤ ring ∨ !s.macOn mac ∨ !s.bit (Reg.TX_RING_CFG mac ring) 31 then .next s
  else
    let i := tget 0 (s.mac mac).txHead ring
    if i = s.fld (Reg.TX_RING_TAIL mac ring) 11 0 then .next s
    else
      let (s1, d) := s.txDesc mac ring i
      let len := d.2.1
      if len = 0 then .next ((s1.txReject mac ring i d.2.2 1).hostNext mac ring)
      else if s1.txMax mac < len then .next ((s1.txReject mac ring i d.2.2 2).hostNext mac ring)
      else match (s1.mac mac).started.find? (fun e => e.1 == ring && e.2.1 == i) with
        | none => .next s1
        | some (_, _, t) => .next (s1.txComplete mac ring i len d t)

/-! ### Receive rings (R220 to R223) -/

/-- Descriptors a ring has left. -/
def State.rxFree (s : State) (m r : Nat) : Nat := tget 0 (s.mac m).free r

/-- The fill length of a ring (R220). -/
def State.ringFill (s : State) (m r : Nat) : Nat :=
  let k := s.fld (Reg.RX_RING_CFG m r) 20 16
  128 * (if k = 0 ∨ 16 < k then 16 else k)

/-- One descriptor of a stored frame: its buffer and its length field; the status follows. -/
def State.rxPiece (s : State) (m r i : Nat) (d : Bytes) : State :=
  let a := s.arrayAt (Reg.RX_RING_DESC m r) i
  let (s1, b) := s.dmaRead a 8
  (s1.dmaWrite (u64At b 0 % 2 ^ 40) d).dmaWrite (a + 8) (le16 d.length)

/-- The status of piece k of n (R220): DONE, FIRST, LAST, VLAN, and on the FIRST, at whose index the record stands (R222), TS. -/
def rxStatus (f : Bytes) (k n : Nat) : Nat :=
  2 ^ 15 + b2n (k == 0) * 2 ^ 14 + b2n (k + 1 == n) * 2 ^ 13 + b2n (tagged f) * 2 ^ 12 + b2n (k == 0) * 2 ^ 11

/-- A frame dropped at a ring (R221). -/
def State.rxRingDrop (s : State) (m n : Nat) : State := (s.macCnt m n).raise (Reg.MAC_INT_STATUS m) 8

/-- A frame stored whole on a ring: its buffers, its record, its descriptors in order, the FIRST status last. -/
def State.rxStore (s : State) (m r : Nat) (t : Int) (f : Bytes) : State :=
  let size := s.ringLen (Reg.RX_RING_CFG m r)
  let h := tget 0 (s.mac m).head r
  let ps := (List.range 4096).zip (chunks (f.length + 1) (s.ringFill m r) f)
  let n := ps.length
  let at_ := fun (k : Nat) => s.arrayAt (Reg.RX_RING_DESC m r) ((h + k) % size) + 10
  let s1 := s.each ps (fun u e => u.rxPiece m r ((h + e.1) % size) e.2)
  let s2 := s1.dmaWrite (s1.arrayAt (Reg.RX_RING_TS m r) h) (stampRecord t f.length m (b2n (isPtpEvent f)))
  let s3 := s2.each ((List.range n).drop 1) (fun u k => u.dmaWrite (at_ k) (le16 (rxStatus f k n)))
  let s4 := s3.dmaWrite (at_ 0) (le16 (rxStatus f 0 n))
  (s4.onMac m (fun v => { v with
    head := tset 0 v.head r ((h + n) % size)
    free := tset 0 v.free r (tget 0 v.free r - n) })).raise (Reg.MAC_INT_STATUS m) (2 + r)

/-- A frame routed to a receive ring (R221, R223): the state, and whether it was stored. -/
def State.rxToRing (s : State) (m r : Nat) (t : Int) (f : Bytes) : State × Bool :=
  let size := s.ringLen (Reg.RX_RING_CFG m r)
  let n := (f.length + s.ringFill m r - 1) / s.ringFill m r
  if !s.bit (Reg.RX_RING_CFG m r) 31 then (s.rxRingDrop m 11, false)
  else if size < n then (s.rxRingDrop m 12, false)
  else if s.rxFree m r < n then (s.rxRingDrop m 11, false)
  else ((s.rxStore m r t f).perfAdd 103 (b2n (isPtpEvent f)), true)

/-- Descriptors returned to a ring; too many is an error and nothing changes (R223). -/
def State.rxReturn (s : State) (m r n : Nat) : State :=
  if s.ringLen (Reg.RX_RING_CFG m r) < s.rxFree m r + n then s.raise (Reg.MAC_INT_STATUS m) 9
  else s.onMac m (fun v => { v with free := tset 0 v.free r (tget 0 v.free r + n) })

/-- RX_RING_RETURN (R223). -/
def execRxRingReturn (mac ring n : Nat) (s : State) : Host.Outcome State Fault Refusal :=
  if 2 ≤ mac ∨ 4 ≤ ring ∨ !bitOf s.sys.pwr 8 ∨ n % 8192 = 0 then .next s else .next (s.rxReturn mac ring (n % 8192))

/-- RX_RING_ENABLE (R223): FREE is the ring size, HEAD 0. -/
def execRxRingEnable (mac ring : Nat) (s : State) : Host.Outcome State Fault Refusal :=
  if 2 ≤ mac ∨ 4 ≤ ring ∨ !bitOf s.sys.pwr 8 then .next s
  else
    let s1 := s.setFld (Reg.RX_RING_CFG mac ring) 31 31 1
    .next (s1.onMac mac (fun v => { v with head := tset 0 v.head ring 0, free := tset 0 v.free ring (s.ringLen (Reg.RX_RING_CFG mac ring)) }))

end Sys2Proof.Machine
end

