-- ==== Sys2Proof/Machine/Capture.lean ====
section
/-! DEFINITION. The capture engine (R170 to R176): its buffer, header, beginning, frames, invalidation and endings. -/

namespace Sys2Proof.Machine

/-- Frames per sample instant at the tap (R170). -/
def Capture.m (c : Capture) : Nat := 2 ^ c.tap

/-- Channels. -/
def Capture.chans (c : Capture) : Nat := c.codes.length

/-- Frames requested. -/
def Capture.total (c : Capture) : Nat := 8 * c.m * c.q

/-- The bytes a capture needs (R170). -/
def captureBytes (tap q chans : Nat) : Nat := 64 + 32 * 2 ^ tap * q * chans

/-- The delay of R158 at a tap (0 fs, 1 2 fs, 2 4 fs), in samples of the tap. -/
def tapDelay (preset tap : Nat) : Nat :=
  match preset, tap with
  | 0, 0 => 9 | 0, 1 => 10 | 0, _ => 12
  | 2, 0 => 47 | 2, 1 => 34 | 2, _ => 24
  | _, 0 => 21 | _, 1 => 18 | _, _ => 16

/-- The delay in samples at fs, rounded up. -/
def tapDelayFs (preset tap : Nat) : Nat := (tapDelay preset tap + 2 ^ tap - 1) / 2 ^ tap

/-- The capture, when it is armed or running. -/
def State.captureOn (s : State) : Option Capture := s.meas.capture.filter (fun c => c.st == 1)

/-- The state with the capture changed. -/
def State.onCapture (s : State) (f : Capture → Capture) : State := s.onMeas (fun x => { x with capture := x.capture.map f })

/-- The address of the capture buffer. -/
def State.captureAddr (s : State) : Nat := unitAddr ((s.regionUnit? 4 0).getD 0)

/-- The header of R172: the frames written so far while the capture runs. -/
def State.captureHeader (s : State) (c : Capture) : Bytes :=
  le32 0x50434B4D ++ le8 1 ++ le8 c.tap ++ le8 s.meas.preset ++ le8 c.chans ++ le64 (8 * c.start) ++ le32 c.total ++ le32 (if c.st = 1 then c.written else c.valid)
    ++ le8 c.status ++ le8 c.cause ++ le16 (b2n s.time.rate96) ++ le32 c.tag
    ++ le64 (if c.status = 3 then c.validEnd.getD (2 ^ 64 - 1) else 2 ^ 64 - 1)
    ++ (c.codes.map (BitVec.ofNat 8) ++ List.replicate (18 - c.chans) 0xFF) ++ zeros 6

/-- Writes the header. -/
def State.putHeader (s : State) : State :=
  match s.meas.capture with
  | none => s
  | some c => s.withMem (mwrite s.mem s.captureAddr (s.captureHeader c))

/-- B(C): the capture runs; the word then in force is kept (R174, R175). -/
def State.captureBegin (s : State) (n : Nat) : State :=
  match s.captureOn with
  | none => s
  | some c =>
    if c.begun ∨ n < c.start then s
    else (s.onCapture (fun x => { x with begun := true, word := s.time.word })).putHeader

/-- An invalidating condition (R174): its cause and the first sample index that is not valid. The first condition counts. -/
def State.invalidateCapture (s : State) (cause vend : Nat) : State :=
  match s.captureOn with
  | none => s
  | some c => if c.begun ∧ c.validEnd = none then s.onCapture (fun x => { x with cause := cause, validEnd := some vend }) else s

/-- The first sample of the quantum now running. -/
def State.quantumSample (s : State) : Nat := 8 * (s.time.tick / s.time.tq)

/-- Cause 1 of R174: the word in force from boundary n on lies more than 4 ppm from its value at B(C); recording stops at the next one. -/
def State.captureWord (s : State) (n : Nat) : State :=
  match s.captureOn with
  | none => s
  | some c => if 262144 < (s.time.word - c.word).natAbs then s.invalidateCapture 1 (8 * n) else s

/-- Ends the capture: header, state, event (R173, R174). -/
def State.endCapture (s : State) (status valid : Nat) : State :=
  let s1 := (s.onCapture (fun x => { x with st := 2, status := status, valid := valid })).putHeader
  if status = 3 then
    let v := ((s.meas.capture.map (fun c => c.validEnd.getD 0)).getD 0)
    ((s1.raise Reg.DECIM_INT_STATUS 1).bump (Reg.DECIM_CNT 2)).post 0x6003 (le64 v)
  else (s1.raise Reg.DECIM_INT_STATUS 0).post 0x6002 (le8 status ++ zeros 3 ++ le32 valid)

/-- The frames that lie before the validity end. -/
def Capture.validFrames (c : Capture) : Nat :=
  match c.validEnd with
  | none => c.total
  | some v => min c.total ((v - 8 * c.start) * c.m)

/-- The last whole quantum written (R173). -/
def Capture.wholeQuanta (c : Capture) : Nat := c.written / (8 * c.m) * (8 * c.m)

/-- The boundary at which a capture completes (R173). -/
def Capture.endBoundary (c : Capture) (preset : Nat) : Nat := (8 * c.start + 8 * c.q - 1 + tapDelayFs preset c.tap) / 8 + 2

/-- The ending of the capture at boundary n, if it has one (R173, R174). -/
def State.captureEnding (s : State) (n : Nat) : State :=
  match s.captureOn with
  | none => s
  | some c =>
    if c.validEnd.isSome then s.endCapture 3 c.validFrames
    else if c.stopping then s.endCapture 2 c.wholeQuanta
    else if c.begun ∧ c.endBoundary s.meas.preset ≤ n then s.endCapture 1 c.total
    else s

/-- How many frames may be written: all of a running capture, and those before the end of one that has ended (R174). -/
def Capture.writeLimit (c : Capture) : Nat := if c.st = 1 then c.validFrames else c.valid

/-- The bytes of the buffer that may be read: the header and the frames written and valid so far (R176). -/
def Capture.readable (c : Capture) : Nat := 64 + 4 * c.chans * (if c.st = 2 then min c.valid c.written else c.written)

/-- Frees the capture and its buffer: a running one ends as stopped by command (R176, R405). -/
def State.freeCapture (s : State) : State :=
  let s1 := match s.captureOn with
    | none => s
    | some c => s.endCapture 2 c.wholeQuanta
  ((s1.onMeas (fun x => { x with capture := none })).unplace 4 0).claim 0x301 0

end Sys2Proof.Machine
end

