-- ==== Sys2Proof/Machine/Time.lean ====
section
/-! DEFINITION. Time and clocks (chapter 9): latch, servo, sources, steps asked for, lock detector, clock loss, SYNC_OUT, edge
capture, and the time commands. Applying a step, which moves the pipeline, is in Machine/Boundary.lean. -/

namespace Sys2Proof.Machine

/-! ### The system counter (R242 to R244) -/

/-- System time and sample index copied in one tick (R243). -/
def State.latchTime (s : State) : State :=
  let t := s.time.tick
  let s1 := ((s.wr Reg.TIME_NS (nsOf t)).wr Reg.TIME_SEC_LO (secOf t)).wr Reg.TIME_SEC_HI (secOf t / 2 ^ 32 % 65536)
  ((s1.wr Reg.TIME_FRAC (fracOf t)).wr Reg.TIME_SAMPLE_LO s.time.sample).wr Reg.TIME_SAMPLE_HI (s.time.sample / 2 ^ 32)

/-- LATCH (R243): system time and sample index are copied in one tick. -/
def execLatchTime (s : State) : Host.Outcome State Fault Refusal := .next s.latchTime

/-- A SYNC_OUT pulse of W ticks starts (R266). -/
def State.syncPulse (s : State) : State :=
  let w := max 1 (s.fld Reg.CLK_SYNC_OUT 15 8)
  s.onTime (fun x => { x with syncOut := true, syncOutTicks := w, syncDue := false })

/-- The source SYNC_OUT drives (R266). -/
def State.syncSrc (s : State) : Nat := s.fld Reg.CLK_SYNC_OUT 1 0

/-- PPS (R244). -/
def execPps (s : State) : Host.Outcome State Fault Refusal :=
  if s.discards then .next s else
  let s1 := (s.bump (Reg.TIME_CNT 4)).perfAdd 121
  .next (if s1.syncSrc = 2 then s1.syncPulse else s1)

/-! ### The servo (R250 to R255) -/

/-- The code of a servo state. -/
def ServoState.code : ServoState → Nat
  | .acquiring => 0 | .locked => 1 | .holdover => 2 | .freeRun => 3

/-- The interrupt bit a change of servo state sets, if any. -/
def servoInt (a b : ServoState) : Option Nat :=
  match a, b with
  | _, .locked => some 1
  | .locked, .acquiring => some 2
  | _, .holdover => some 3
  | _, _ => none

/-- A servo state change (R253): runs restart; a change is reported; LOCKED and free-run end the start-up mute (R254, R255). -/
def State.setServo (s : State) (st : ServoState) : State :=
  let s1 := s.onTime (fun x => { x with servo := st, lockRun := 0, badRun := 0 })
  if s.time.servo = st then s1
  else
    let s2 := match servoInt s.time.servo st with
      | some k => s1.raise Reg.TIME_INT_STATUS k
      | none => s1
    let s3 := s2.post 0x5002 (le8 s.time.servo.code ++ le8 st.code)
    let s4 := if st = .locked ∨ st = .freeRun then s3.onSys (fun x => { x with muted := false }) else s3
    (s4.noteDev s).keepReady

/-- A servo register between bounds. -/
def State.servoReg (s : State) (a lo hi : Nat) : Nat := min hi (max lo (s.rd a))

/-- The step threshold in 2^-16 ns. -/
def State.stepThr (s : State) : Int := s.servoReg Reg.SERVO_STEP_THR 1000 1000000000 * 65536

/-- LOCK_THR in 2^-16 ns. -/
def State.lockThr (s : State) : Int := s.servoReg Reg.SERVO_LOCK_THR 10 1000000 * 65536

/-- The word limit. -/
def State.wordLimit (s : State) : Int := s.servoReg Reg.SERVO_LIMIT 0 65536000

/-- gain × o / 16 in word units, o in 2^-16 ns, rounded halves away from zero (R250). -/
def gainTerm (gain : Nat) (o : Int) : Int := divHalfAway ((gain : Int) * o) (16 * 65536)

/-- The integral and the target after an accepted offset (R250). With TIME_CTRL.ENABLE clear the target is not driven. -/
def State.servoStep (s : State) (o : Int) : State :=
  let lim := s.wordLimit
  let i := clampInt (-lim) lim (s.time.integral - gainTerm (s.fld Reg.SERVO_GAIN 31 16) o)
  let t := clampInt (-lim) lim (i - gainTerm (s.fld Reg.SERVO_GAIN 15 0) o)
  s.onTime (fun x => { x with integral := i, target := if s.bit Reg.TIME_CTRL 0 then t else x.target })

/-- The state change of an accepted offset (R253). -/
def State.servoAccept (s : State) (o : Int) : State :=
  let a : Int := o.natAbs
  match s.time.servo with
  | .acquiring =>
    if a ≤ s.lockThr then
      if s.time.lockRun + 1 = 16 then s.setServo .locked else s.onTime (fun x => { x with lockRun := x.lockRun + 1 })
    else s.onTime (fun x => { x with lockRun := 0 })
  | .locked =>
    if 4 * s.lockThr < a then
      if s.time.badRun + 1 = 4 then s.setServo .acquiring else s.onTime (fun x => { x with badRun := x.badRun + 1 })
    else s.onTime (fun x => { x with badRun := 0 })
  | .holdover => if a ≤ s.lockThr then s.setServo .locked else s.setServo .acquiring
  | .freeRun => s

/-- A servo trace record (kind 0x40): bit 0 refused, bit 1 delay jump. -/
def State.servoTrace (s : State) (flags : Nat) (o : Int) : State :=
  s.traceRec 3 0x40 (le8 s.time.servo.code ++ le8 flags ++ leS32 (clampInt (-(2 ^ 31)) (2 ^ 31 - 1) (divHalfAway o 65536))
    ++ leS32 s.time.target)

/-- An offset refused under R250. -/
def State.servoRefuse (s : State) (o : Int) : State :=
  let s1 := s.onTime (fun x => { x with refused := some o })
  let s2 := s1.wr Reg.SERVO_REFUSED (ofSigned 32 (o / 65536))
  let s3 := (((s2.bump (Reg.TIME_CNT 1)).perfAdd 119).raise Reg.TIME_INT_STATUS 0).post 0x5001 (leS64 (divHalfAway o 65536))
  (s3.setServo .acquiring).servoTrace 1 o

/-- The filtered path delay after a measurement, in 2^-16 ns (R250). -/
def delayFilter (f : Option Int) (d : Int) : Int :=
  match f with
  | none => d
  | some x => x + divHalfAway (d - x) 16

/-- Whether a path delay is a jump (R250). -/
def State.delayJump (s : State) (d : Int) : Bool :=
  match s.time.dfilt with
  | none => false
  | some f => decide (s.rd Reg.SERVO_JUMP_THR ≠ 0) && decide ((s.rd Reg.SERVO_JUMP_THR : Int) * 65536 < (d - f).natAbs)

/-- UPDATE (R250): with the source PTP, the servo handles the measurement firmware wrote. -/
def State.servoUpdate (s : State) : State :=
  let o := toSigned 32 (s.rd Reg.SERVO_IN_OFFSET) * 65536 + s.fld Reg.SERVO_IN_FRAC 15 0
  let d : Int := (s.rd Reg.SERVO_IN_DELAY : Int) * 65536
  if s.fld Reg.TIME_CTRL 4 3 ≠ 0 then s
  else
    let s1 := ((s.bump (Reg.TIME_CNT 0)).perfAdd 118).onTime (fun x => { x with lastOffset := o })
    if s1.delayJump d then (s1.bump (Reg.TIME_CNT 2)).servoTrace 2 o
    else
      let s2 := s1.onTime (fun x => { x with dfilt := some (delayFilter x.dfilt d) })
      if s2.stepThr < o.natAbs then s2.servoRefuse o
      else ((s2.servoStep o).servoAccept o).servoTrace 0 o

/-- UPDATE (R250). -/
def execUpdateServo (s : State) : Host.Outcome State Fault Refusal := .next s.servoUpdate

/-- HOLD_TIMEOUT (R253): no accepted update for the hold timeout. -/
def execHoldTimeout (s : State) : Host.Outcome State Fault Refusal :=
  let put := s.onTime (fun x => { x with target := x.integral })
  match s.time.servo with
  | .acquiring => .next put
  | .locked => .next (put.setServo .holdover)
  | _ => .next s

/-- The offset of a SYNC_IN edge in 2^-16 ns (R255): (time stamp − SYNC_DELAY) less the nearest sample instant; `stamp` is the
edge's time in ticks. Ticks are 15625/384 ns; times are taken in units of 2^-16/384 ns. -/
def State.syncOffset (s : State) (stamp : Nat) : Int :=
  let u : Int := (stamp : Int) * 15625 * 65536 - (s.rd Reg.SERVO_SYNC_DELAY : Int) * 384 * 65536
  let smp : Int := (s.time.tps : Int) * 15625 * 65536
  let k := (2 * u + smp) / (2 * smp)
  divHalfAway (u - k * smp) 384

/-- A SYNC_IN edge as a servo reference (R255). -/
def State.syncServo (s : State) (stamp : Nat) : State :=
  let o := s.syncOffset stamp
  if s.fld Reg.TIME_CTRL 4 3 ≠ 1 ∨ s.time.step.isSome then s
  else
    let s1 := ((s.bump (Reg.TIME_CNT 6))).onTime (fun x => { x with lastOffset := o })
    if s1.stepThr < o.natAbs then
      let q := if s.live then some (s.time.lastQ + 1) else none
      s1.onTime (fun x => { x with step := some ⟨none, false, -o, q⟩, syncRun := 0 })
    else
      let run := if (o.natAbs : Int) ≤ s1.lockThr then s1.time.syncRun + 1 else 0
      (s1.servoStep o).onTime (fun x => { x with syncRun := min 16 run, syncLocked := x.syncLocked || decide (16 ≤ run) })

/-- A SYNC_IN edge regenerated on SYNC_OUT in the next tick (R266). -/
def State.syncRegen (s : State) : State := if s.syncSrc = 1 then s.onTime (fun x => { x with syncDue := true }) else s

/-- The slice of the word at a quantum boundary (R251). -/
def State.sliceWord (s : State) : State :=
  s.onTime (fun x => { x with word := x.word + clampInt (-262144) 262144 (x.target - x.word) })

/-! ### The lock detector and clock loss (R260 to R265, R32) -/

/-- The tick follows another source: the master dividers are to be restored (R184), and where the PDM divider stands is not known. -/
def State.losePhase (s : State) (k : Nat) : State :=
  let s1 := s.onPorts (fun x => { x with rephase := true })
  if k = 0 then s1 else s1.fresh.onPorts (fun x => { x with pdmPh := Config.freeNat s.freeCnt % (s.time.tps / 64) })

/-- A change of the tick's source, reported and recorded, invalidating a running capture (R32, R174): 0 root PLL, 1 REFCLK_IN, 2 AON oscillator. -/
def State.setTickSrc (s : State) (k : Nat) : State :=
  if s.time.tickSrc = k then s
  else
    let s0 := s.losePhase k
    let s1 := ((s0.onTime (fun x => { x with tickSrc := k })).bump (Reg.CLK_CNT 3)).bump (Reg.SYS_CNT 3)
    let s2 := (s1.raise Reg.SYS_INT_STATUS 3).traceRec 3 0x42 (le8 s.time.tickSrc ++ le8 k ++ le32 s.time.lastQ)
    (s2.invalidateCapture 3 s.quantumSample).keepReady

/-- The tick's source while the root PLL is not locked. -/
def State.fallbackSrc (s : State) : Nat := if s.time.refclkOk then 1 else 2

/-- Clock loss (R263): forced drop, the tick changes source, the servo acquires, one recovery attempt starts. -/
def State.clockLoss (s : State) : State :=
  let s1 := (s.forcedDrop).setTickSrc s.fallbackSrc
  let s2 := s1.onTime (fun x => { x with rootLock := false, lockRunWin := 0, tickBack := false, lossAt := some x.eventTick,
                                         relock := if x.relock.isSome then x.relock else some x.eventTick })
  if s2.time.servo = .freeRun then s2 else s2.setServo .acquiring

/-- Root PLL unlock: counted, and clock loss. -/
def State.rootUnlock (s : State) : State :=
  (((s.bump (Reg.CLK_CNT 0)).raise Reg.CLK_INT_STATUS 0).invalidateCapture 3 s.quantumSample).clockLoss

/-- The expected count of a window in 1/16 count (R261): 409.6 × (1 + w × 2^-16 × 10^-6). -/
def expected16 (w : Int) : Int := (65536 * (65536 * 1000000 + w)) / (10 * 65536 * 1000000)

/-- Whether a count lies within k of the expected value 409.6 × (1 + w × 2^-16 × 10^-6). -/
def withinCounts (w : Int) (count k : Nat) : Bool :=
  let scale : Int := 10 * 65536 * 1000000
  decide (((count : Int) * scale - 4096 * (65536 * 1000000 + w)).natAbs ≤ k * scale.toNat)

/-- LOCK_WINDOW_END (R261): a detector window ends with its count. -/
def execLockWindowEnd (count : Nat) (s : State) : Host.Outcome State Fault Refusal :=
  if !s.time.refclkOk || s.discards then .next s
  else
    let w := s.time.expectWord
    let s0 := s.wr Reg.CLK_LOCK_WIN (min 65535 (expected16 w).toNat * 65536 + count % 65536)
    let run := if withinCounts w count 1 then min 8 (s.time.lockRunWin + 1) else 0
    let s1 := s0.onTime (fun x => { x with lockRunWin := run, expectWord := x.word })
    if s1.time.rootLock then
      if !withinCounts w count 4 then .next s1.rootUnlock
      else if s1.time.tickBack then .next ((s1.onTime (fun x => { x with tickBack := false })).setTickSrc 0)
      else .next s1
    else if run = 8 then
      let s2 := (s1.onTime (fun x => { x with rootLock := true })).onPorts (fun x => { x with rephase := true })
      .next (if s2.time.relock.isSome then s2 else s2.setTickSrc 0)
    else .next s1

/-- CLOCK_LOSS (R263): the root PLL loses lock. -/
def execClockLoss (s : State) : Host.Outcome State Fault Refusal :=
  .next (if s.discards then s else if s.time.rootLock then s.rootUnlock else s.clockLoss)

/-- REFCLK_IN goes or comes while a reset holds the other domains: the tick follows it (R32), and SYS in AON records the change of source,
unless it falls in the tick of the reset (R35). -/
def State.heldRefclk (s : State) (ok : Bool) : State :=
  let s1 := s.onTime (fun x => { x with refclkOk := ok, tickSrc := if ok then 1 else 2 })
  if s.sys.phase = .porst ∨ s.sys.phase = .testMode then s
  else if s1.time.tickSrc = s.time.tickSrc ∨ s.sys.resetAt = some s.time.eventTick then s1
  else (s1.bump (Reg.SYS_CNT 3)).raise Reg.SYS_INT_STATUS 3

/-- The DDR PLL has lost lock: its one relock attempt starts (R265, R367). -/
def State.ddrUnlock (s : State) : State :=
  (s.onTime (fun x => { x with ddrLock := false, ddrRelock := true })).raise Reg.CLK_INT_STATUS 3

/-- REFCLK_MISSING (R262): the loss is counted, and is clock loss and a loss of DDR PLL lock. -/
def execRefclkMissing (s : State) : Host.Outcome State Fault Refusal :=
  if s.discards then .next (s.heldRefclk false) else
  let s1 := (((s.onTime (fun x => { x with refclkOk := false })).bump (Reg.CLK_CNT 1)).raise Reg.CLK_INT_STATUS 1).clockLoss
  .next (if s.time.ddrLock then s1.ddrUnlock else s1)

/-- REFCLK_PRESENT (R262): 4,096 edges in a row have been seen, and a lock-detector window starts, judged by the word in force now (R261). -/
def execRefclkPresent (s : State) : Host.Outcome State Fault Refusal :=
  if s.discards then .next (s.heldRefclk true) else
  let s1 := s.onTime (fun x => { x with refclkOk := true, lockRunWin := 0, expectWord := x.word })
  .next (if s1.time.rootLock then s1 else s1.setTickSrc s1.fallbackSrc)

/-- RELOCK_END (R263): the recovery attempt ends. -/
def execRelockEnd (s : State) : Host.Outcome State Fault Refusal :=
  match s.time.relock with
  | none => .next s
  | some t =>
    let s1 := s.onTime (fun x => { x with relock := none })
    if s.time.refclkOk && s.time.rootLock then
      .next ((((s1.bump (Reg.CLK_CNT 2)).raise Reg.CLK_INT_STATUS 2).post 0x5003 (le32 (s.time.eventTick - t))).onTime
        (fun x => { x with tickBack := true }))
    else .next (s1.fatalError 0x03 0)

/-- DDR_PLL_LOSS (R367). -/
def execDdrPllLoss (s : State) : Host.Outcome State Fault Refusal := .next (if s.discards then s else s.ddrUnlock)

/-- DDR_RELOCK_END (R265): the relock attempt of the DDR PLL ends. -/
def execDdrRelockEnd (locked : Bool) (s : State) : Host.Outcome State Fault Refusal :=
  if !s.time.ddrRelock then .next s
  else
    let s1 := s.onTime (fun x => { x with ddrRelock := false, ddrLock := locked })
    .next (if locked then s1.dramServeAll else s1.fatalError 0x04 0)

/-! ### Edge capture (R267, R268) -/

/-- The 16 bytes of a capture record. -/
def CapRec.bytes (r : CapRec) : Bytes :=
  le32 (nsOf r.stamp) ++ le32 (secOf r.stamp) ++ le16 (secOf r.stamp / 2 ^ 32) ++ le8 r.input
    ++ le8 (b2n r.rising + 2 * b2n r.lostBefore) ++ le32 r.sample

/-- CAP_EDGE (R267, R268): an edge of a capture input, timestamped under R31. -/
def execCapEdge (input : Nat) (rising : Bool) (s : State) : Host.Outcome State Fault Refusal :=
  let mode := s.fld (Reg.CAP_CFG input) 1 0
  let s0 := s.onTime (fun x => { x with capLevel := tset false x.capLevel input rising })
  if 8 ≤ input ∨ s.discards ∨ !(if rising then bitOf mode 0 else bitOf mode 1) then .next s0
  else
    let q := tget [] s.time.capQ input
    if 32 ≤ q.length then .next ((s0.onTime (fun x => { x with capLost := tset false x.capLost input true })).bump (Reg.TIME_CNT 5))
    else
      let r : CapRec := ⟨s.time.tick - 2, input, rising, tget false s.time.capLost input, s.time.sample % 2 ^ 32⟩
      let s1 := s0.onTime (fun x => { x with capQ := tset [] x.capQ input (q ++ [r]), capLost := tset false x.capLost input false })
      .next ((s1.raise Reg.TIME_INT_STATUS 5).post 0x5004 (le8 input ++ le8 (q.length + 1)))

/-! ### The time commands (R269) -/

/-- The range checks of TIME_PTP_SET. -/
def ptpChecks (p : Bytes) : List (Bool × Resp) :=
  let r := fun (i : Nat) => Resp.errF stRange i
  [ (decide (2 < u8At p 0), r 0), (decide (127 < u8At p 1), r 1), (decide (1 < u8At p 2), r 2), (decide (1 < u8At p 3), r 3)
  , (decide (s8At p 4 < -7 ∨ 1 < s8At p 4), r 4), (decide (s8At p 5 < -3 ∨ 3 < s8At p 5), r 5)
  , (decide (s8At p 6 < -7 ∨ 5 < s8At p 6), r 6), (decide (3 < u8At p 9), r 9) ]

/-- The PTP engine begins to listen anew: it follows no master. -/
def State.ptpRestart (s : State) : State :=
  (s.onTime (fun x => { x with ptpPort := none, gmId := 0 })).onNet (fun x => { x with
    ptp := { Ptp.reset with since := s.time.eventTick, peer := x.ptp.peer, layer2 := x.ptp.layer2, seqs := x.ptp.seqs } })

/-- The effect of TIME_PTP_SET: where the clock's ports, role, domain or delay mechanism change, it chooses its master anew (R249). -/
def State.ptpSet (s : State) (p : Bytes) : State :=
  let moved := u8At p 0 != s.time.ptpProfile || u8At p 1 != s.time.ptpDomain || u8At p 2 != s.time.ptpDelayMech
  let again := moved || u8At p 3 != s.time.ptpRole || u8At p 9 != s.time.ptpMask
  let s0 := if again then s.ptpRestart else s
  let s1 := s0.onTime (fun x => { x with
    ptpProfile := u8At p 0, ptpDomain := u8At p 1, ptpDelayMech := u8At p 2, ptpRole := u8At p 3,
    ptpIntervals := [s8At p 4, s8At p 5, s8At p 6], ptpPrio := [u8At p 7, u8At p 8], ptpMask := u8At p 9 })
  if moved ∧ (s.time.servo = .locked ∨ s.time.servo = .holdover) then s1.setServo .acquiring else s1

/-- TIME_PTP_SET. -/
def cmdTimePtpSet : CmdDef := mkCmd 0x5001 modesCfg (lenIs 12) (fun _ p s => checked s (ptpChecks p) (s.ptpSet p, Resp.ok))

/-- The range checks of TIME_SERVO_SET. -/
def servoChecks (p : Bytes) : List (Bool × Resp) :=
  let r := fun (i : Nat) => Resp.errF stRange i
  [ (decide (u32At p 4 < 1000 ∨ 1000000000 < u32At p 4), r 4), (decide (u32At p 8 < 10 ∨ 1000000 < u32At p 8), r 8)
  , (decide (65536000 < u32At p 12), r 12), (decide (u16At p 20 < 100 ∨ 60000 < u16At p 20), r 20) ]

/-- The effect of TIME_SERVO_SET. -/
def State.servoSet (s : State) (p : Bytes) : State :=
  let s1 := (s.wr Reg.SERVO_GAIN (u16At p 2 * 65536 + u16At p 0)).wr Reg.SERVO_STEP_THR (u32At p 4)
  let s2 := (s1.wr Reg.SERVO_LOCK_THR (u32At p 8)).wr Reg.SERVO_LIMIT (u32At p 12)
  (s2.wr Reg.SERVO_JUMP_THR (u32At p 16)).wr Reg.SERVO_HOLD (u16At p 20)

/-- TIME_SERVO_SET. -/
def cmdTimeServoSet : CmdDef := mkCmd 0x5002 modesCfg (lenIs 24) (fun _ p s => checked s (servoChecks p) (s.servoSet p, Resp.ok))

/-- The full quantum index a 32-bit quantum names: the one nearest after the last boundary (R20). -/
def State.quantumAt (s : State) (q : Nat) : Nat :=
  s.nextBoundary + (((q : Int) - s.nextBoundary) % (2 ^ 32 : Nat)).toNat

/-- Whether a named 32-bit quantum is later than the next boundary (R20, R257). -/
def State.laterThanNext (s : State) (q : Nat) : Bool := after32 (q % 2 ^ 32) (s.nextBoundary % 2 ^ 32)

/-- The step TIME_STEP asks for. -/
def State.stepOf (s : State) (h : Hdr) (p : Bytes) : StepReq :=
  let fl := u8At p 0
  let v := if bitOf fl 1 then -(s.time.refused.getD 0) else s64At p 8 * 65536
  let q := if !s.live then none else if bitOf fl 2 then some (s.quantumAt (u32At p 4)) else some s.nextBoundary
  ⟨some h, bitOf fl 0, v, q⟩

/-- The checks of TIME_STEP (R256, R257). -/
def State.stepChecks (s : State) (p : Bytes) : List (Bool × Resp) :=
  let fl := u8At p 0
  [ (decide (8 ≤ fl) || (bitOf fl 0 && bitOf fl 1), Resp.errF stRange 0)
  , (bitOf fl 2 && (!s.live || !s.laterThanNext (u32At p 4)), Resp.errF stRange 4)
  , (bitOf fl 1 && s.time.refused.isNone, Resp.errS stState)
  , (s.time.step.isSome, Resp.errS stState) ]

/-- TIME_STEP: the step waits for its boundary, or for the next tick in PARK. -/
def cmdTimeStep : CmdDef := mkCmd 0x5003 modesCfg (lenIs 16) (fun h p s =>
  checked s (s.stepChecks p)
    ((s.newJob h 0x5003 1).onTime (fun x => { x with step := some (s.stepOf h p) }), Resp.accepted))

/-- The effect of TIME_SOURCE_SET (R253, R255). -/
def State.sourceSet (s : State) (src : Nat) (word : Int) (delay : Nat) : State :=
  let s1 := (s.setFld Reg.TIME_CTRL 4 3 src).wr Reg.SERVO_SYNC_DELAY delay
  let s2 := s1.onTime (fun x => { x with syncRun := 0, syncLocked := false, target := if src = 2 then word else x.target })
  if src = 0 then (if s.time.servo = .freeRun then s2.setServo .acquiring else s2) else s2.setServo .freeRun

/-- TIME_SOURCE_SET. -/
def cmdTimeSourceSet : CmdDef := mkCmd 0x5004 modesCfg (lenIs 12) (fun _ p s =>
  let w := s32At p 4
  checked s [(decide (2 < u8At p 0), Resp.errF stRange 0), (decide (w < -65536000 ∨ 65536000 < w), Resp.errF stRange 4)]
    (s.sourceSet (u8At p 0) w (u32At p 8), Resp.ok))

/-- The 40 bytes of TIME_STATUS_GET. -/
def State.timeStatus (s : State) : Bytes :=
  let t := s.time
  le8 t.servo.code ++ le8 (min 2 (s.fld Reg.TIME_CTRL 4 3))
    ++ le8 (b2n s.timeLocked + 2 * b2n t.syncLocked + 4 * b2n t.step.isSome + 8 * b2n t.refused.isSome)
    ++ le8 (t.ptpPort.getD 0xFF) ++ leS32 t.word ++ leS32 t.target ++ leS32 t.integral ++ leS32 (t.lastOffset / 65536)
    ++ le32 (shrOpen 33 (t.dfilt.getD 0) 16).toNat ++ le64 t.sample ++ beBytes 8 t.gmId

/-- TIME_STATUS_GET. -/
def cmdTimeStatusGet : CmdDef := mkCmd 0x5005 modesAny (lenIs 0) (fun _ _ s => (s, Resp.ok s.timeStatus))

/-- The effect of TS_ADJ_SET (R246). -/
def State.tsAdjSet (s : State) (p : Bytes) : State :=
  ((((s.wr (Reg.TS_RX_ADJ 0) (u32At p 0)).wr (Reg.TS_TX_ADJ 0) (u32At p 4)).wr (Reg.TS_RX_ADJ 1) (u32At p 8)).wr
    (Reg.TS_TX_ADJ 1) (u32At p 12))

/-- TS_ADJ_SET. -/
def cmdTsAdjSet : CmdDef := mkCmd 0x5006 [.park] (lenIs 16) (fun _ p s => (s.tsAdjSet p, Resp.ok))

/-- SYNC_OUT drives low while its source is off (R266). -/
def State.syncOff (s : State) : State :=
  if s.syncSrc = 0 then s.onTime (fun x => { x with syncOut := false, syncOutTicks := 0, syncDue := false }) else s

/-- The effect of SYNC_OUT_SET (R266). -/
def State.syncOutSet (s : State) (p : Bytes) : State :=
  (s.wr Reg.CLK_SYNC_OUT (u16At p 2 * 65536 + u8At p 1 * 256 + u8At p 0)).syncOff

/-- SYNC_OUT_SET. -/
def cmdSyncOutSet : CmdDef := mkCmd 0x5010 modesCfg (lenIs 4) (fun _ p s =>
  checked s [(decide (3 < u8At p 0), Resp.errF stRange 0), (decide (u8At p 1 = 0), Resp.errF stRange 1),
      (decide (u16At p 2 = 0), Resp.errF stRange 2)]
    (s.syncOutSet p, Resp.ok))

/-- What is wrong with an entry of CAP_SET: a range, or a GPIO held by another function. -/
def State.capBad (s : State) (i : Nat) (e : Bytes) : Option Resp :=
  if 7 < u8At e 0 then some (Resp.err stRange i (2 * i))
  else if 3 < u8At e 1 then some (Resp.err stRange i (2 * i + 1))
  else if u8At e 1 ≠ 0 ∧ s.owner (0x200 + u8At e 0) ≠ 0 ∧ s.owner (0x200 + u8At e 0) ≠ 3 then
    some (Resp.resource (0x200 + u8At e 0) (s.owner (0x200 + u8At e 0)) 0xFFFF)
  else none

/-- One entry of CAP_SET: the mode, with the claim of its GPIO taken or released. -/
def State.capSetOne (s : State) (e : Bytes) : State :=
  let r := 0x200 + u8At e 0
  let s1 := s.setFld (Reg.CAP_CFG (u8At e 0)) 1 0 (u8At e 1)
  if u8At e 1 ≠ 0 then s1.claim r 3 else if s.owner r = 3 then s1.claim r 0 else s1

/-- CAP_SET. -/
def cmdCapSet : CmdDef := mkCmd 0x5020 modesCfg (lenEntries 0 2 8) (fun _ p s =>
  let es := entries 2 p
  checkedEntries s es s.capBad (s.each es (fun t e => t.capSetOne e), Resp.ok))

/-- CAP_READ: the oldest records are returned and removed. -/
def cmdCapRead : CmdDef := mkCmd 0x5021 modesAny (lenIs 4) (fun _ p s =>
  let c := u8At p 0
  let q := tget [] s.time.capQ c
  let n := min (u8At p 1) q.length
  checked s [(decide (7 < c), Resp.errF stRange 0), (decide (u8At p 1 = 0 ∨ 14 < u8At p 1), Resp.errF stRange 1)]
    (s.onTime (fun x => { x with capQ := tset [] x.capQ c (q.drop n) }),
      Resp.ok (le8 n ++ zeros 3 ++ (q.take n).flatMap CapRec.bytes)))

/-- TIME_PTP_SET (R269). -/
def execTimePtpSet (h : Hdr) (p : Bytes) (s : State) : Host.Outcome State Fault Refusal := cmdTimePtpSet.exec h p s
/-- TIME_SERVO_SET (R269). -/
def execTimeServoSet (h : Hdr) (p : Bytes) (s : State) : Host.Outcome State Fault Refusal := cmdTimeServoSet.exec h p s
/-- TIME_STEP (R256). -/
def execTimeStep (h : Hdr) (p : Bytes) (s : State) : Host.Outcome State Fault Refusal := cmdTimeStep.exec h p s
/-- TIME_SOURCE_SET (R255). -/
def execTimeSourceSet (h : Hdr) (p : Bytes) (s : State) : Host.Outcome State Fault Refusal := cmdTimeSourceSet.exec h p s
/-- TIME_STATUS_GET (R269). -/
def execTimeStatusGet (h : Hdr) (p : Bytes) (s : State) : Host.Outcome State Fault Refusal := cmdTimeStatusGet.exec h p s
/-- TS_ADJ_SET (R246). -/
def execTsAdjSet (h : Hdr) (p : Bytes) (s : State) : Host.Outcome State Fault Refusal := cmdTsAdjSet.exec h p s
/-- SYNC_OUT_SET (R266). -/
def execSyncOutSet (h : Hdr) (p : Bytes) (s : State) : Host.Outcome State Fault Refusal := cmdSyncOutSet.exec h p s
/-- CAP_SET (R267). -/
def execCapSet (h : Hdr) (p : Bytes) (s : State) : Host.Outcome State Fault Refusal := cmdCapSet.exec h p s
/-- CAP_READ (R268). -/
def execCapRead (h : Hdr) (p : Bytes) (s : State) : Host.Outcome State Fault Refusal := cmdCapRead.exec h p s

end Sys2Proof.Machine
end

