-- ==== Sys2Proof/Machine/Ptp.lean ====
section
/-! DEFINITION. The ordinary clock that firmware runs (R215, R247 to R250): its messages, the choice of a master, the measurements it submits to
the servo, peer delay, and what it sends. Message formats, data set comparison, default clock quality and timeouts are those of IEEE 1588-2019
(PRESUMED, notes/assumptions/42). Times are in 2^-16 ns. -/

namespace Sys2Proof.Machine

/-! ### Messages -/

/-- A PTP message of version 2 and SdoId 0: type, domain, twoStepFlag, correctionField, sourcePortIdentity, sequenceId, and where it starts. -/
structure PtpMsg where
  type : Nat
  domain : Nat
  twoStep : Bool
  corr : Int
  src : Nat
  seq : Nat
  at_ : Nat
  deriving DecidableEq, Repr

/-- The bytes a message of a type has at least. -/
def ptpLength (type : Nat) : Nat := if type = 11 then 64 else if type = 0 ∨ type = 1 ∨ type = 8 then 44 else 54

/-- A port identity: clockIdentity and port number. -/
def portIdAt (f : Bytes) (i : Nat) : Nat := be64At f i * 65536 + be16At f (i + 8)

/-- The PTP message of a frame. -/
def ptpMsg (f : Bytes) : Option PtpMsg :=
  match ptpOffset f with
  | none => none
  | some o =>
    let type := u8At f o % 16
    if u8At f o / 16 ≠ 0 ∨ u8At f (o + 1) % 16 ≠ 2 ∨ f.length < o + ptpLength type then none
    else some ⟨type, u8At f (o + 4), bitOf (u8At f (o + 6)) 1, toSigned 64 (be64At f (o + 8)), portIdAt f (o + 20), be16At f (o + 30), o⟩

/-- A Timestamp: 48 bits of seconds and 32 of nanoseconds. -/
def ptpTimeAt (f : Bytes) (i : Nat) : Int := ((be48At f i * 10 ^ 9 + be32At f (i + 6) : Nat) : Int) * 65536

/-- The Timestamp of a time; what is below a nanosecond goes to the correctionField. -/
def ptpTime (t : Int) : Bytes := let ns := (t / 65536).toNat; beBytes 6 (ns / 10 ^ 9) ++ beBytes 4 (ns % 10 ^ 9)

/-- A time below its nanosecond. -/
def ptpFrac (t : Int) : Int := t % 65536

/-- The controlField of a message type. -/
def ptpControl (type : Nat) : Nat := match type with | 0 => 0 | 1 => 1 | 8 => 2 | 9 => 3 | _ => 5

/-- A message built from its fields; an Announce says that its time is on the PTP timescale (R242). -/
def ptpBytes (g : PtpMsg) (log : Int) (body : Bytes) : Bytes :=
  beBytes 1 g.type ++ beBytes 1 0x12 ++ beBytes 2 (34 + body.length) ++ beBytes 1 g.domain ++ beBytes 1 0 ++ beBytes 2 (512 * b2n g.twoStep + 8 * b2n (g.type == 11))
    ++ beBytes 8 (ofSigned 64 g.corr) ++ zeros 4 ++ beBytes 10 g.src ++ beBytes 2 g.seq ++ beBytes 1 (ptpControl g.type) ++ beBytes 1 (ofSigned 8 log)
    ++ body

/-! ### The clock and its ports (R249, R269) -/

/-- The PTP engine changed. -/
def State.onPtp (s : State) (f : Ptp → Ptp) : State := s.onNet (fun x => { x with ptp := f x.ptp })

/-- Whether a port carries firmware's traffic. -/
def State.ptpReady (s : State) (m : Nat) : Bool := s.sys.fwRunning && s.macOn m && s.bit (Reg.MAC_CTRL m) 6

/-- Whether the ordinary clock runs on a port: its bit of the port mask is set. -/
def State.ptpOn (s : State) (m : Nat) : Bool := s.ptpReady m && bitOf s.time.ptpMask m

/-- Whether a port measures and answers peer delay: the transparent clock does, or the ordinary clock's delay mechanism is peer-to-peer
(R215). -/
def State.ptpPeer (s : State) (m : Nat) : Bool := s.ptpReady m && (s.tcP2p m || (bitOf s.time.ptpMask m && s.time.ptpDelayMech == 1))

/-- The clockIdentity: MAC0's address with FF-FE in its middle. -/
def State.clockId (s : State) : Nat :=
  let a := s.macAddr 0
  a / 2 ^ 24 * 2 ^ 40 + 0xFFFE * 2 ^ 24 + a % 2 ^ 24

/-- The identity of the clock's port: one node under CHAIN, one for each port under DUAL (R249). -/
def State.portId (s : State) (m : Nat) : Nat := s.clockId * 65536 + (if s.dual then m + 1 else 1)

/-- The identity under which a port measures peer delay. -/
def State.peerId (s : State) (m : Nat) : Nat := s.clockId * 65536 + m + 1

/-- A logarithmic interval in event ticks. -/
def intervalTicks (log : Int) : Nat := if 0 ≤ log then 24576000 * 2 ^ log.toNat else 24576000 / 2 ^ (-log).toNat

/-- An interval of TIME_PTP_SET: 0 Sync, 1 Announce, 2 Delay_Req. -/
def State.ptpInterval (s : State) (k : Nat) : Nat := intervalTicks (s.time.ptpIntervals.getD k 0)

/-! ### Sending -/

/-- A message in its frame, over the transport last heard on the port: Layer 2 or UDP. -/
def State.ptpFrame (s : State) (m : Nat) (peer event : Bool) (d : Bytes) : Bytes :=
  if tget false s.net.ptp.layer2 m then etherHeader (if peer then 0x0180C200000E else 0x011B19000000) (s.macAddr m) 0 0x88F7 ++ d
  else
    let src := (s.mac m).ip
    let dst := if peer then 0xE000006B else 0xE0000181
    let port := if event then 319 else 320
    etherHeader (multicastMac dst) (s.macAddr m) 0 0x0800
      ++ ipHeader (Config.fwField 3) (28 + d.length) (Config.freeNat s.freeCnt) (Config.fwField 0) src dst ++ udpDatagram src dst port port d

/-- A message of the clock sent on a port, first in priority (R213). -/
def State.ptpSend (s : State) (m : Nat) (g : PtpMsg) (log : Int) (body : Bytes) : State :=
  let peer := g.type == 2 || g.type == 3 || g.type == 10
  s.fresh.sendOwn m 0 (s.ptpFrame m peer (decide (g.type < 4)) (ptpBytes g log body))

/-- The next sequence number of a counter: 0 Announce, 1 Sync, 2 Delay_Req, 3 Pdelay_Req. -/
def State.ptpSeq (s : State) (k : Nat) : Nat := tget 0 s.net.ptp.seqs k

/-- That number taken, and the time at which the next message is due. -/
def State.ptpNext (s : State) (k ticks : Nat) : State :=
  s.onPtp (fun x => { x with seqs := tset 0 x.seqs k ((tget 0 x.seqs k + 1) % 65536), due := tset 0 x.due k (s.time.eventTick + ticks) })

/-- Whether a message is due. -/
def State.ptpDue (s : State) (k : Nat) : Bool := decide (tget 0 s.net.ptp.due k ≤ s.time.eventTick)

/-! ### Choosing a master (R247, R249) -/

/-- Lexicographic comparison: a is better, that is lower at the first difference. -/
def lexLess : List Nat → List Nat → Bool
  | [], [] => false
  | [], _ :: _ => true
  | _ :: _, [] => false
  | a :: as, b :: bs => decide (a < b) || (a == b && lexLess as bs)

/-- This clock's own data set. -/
def State.ownData (s : State) : List Nat :=
  [s.time.ptpPrio.getD 0 128, if s.time.ptpRole = 1 then 248 else 255, 0xFE, 0xFFFF, s.time.ptpPrio.getD 1 128, s.clockId, 0]

/-- The best of the qualified clocks. -/
def State.bestForeign (s : State) : Option Foreign :=
  (s.net.ptp.heard.filter (·.qualified)).foldl (fun b e =>
    match b with
    | none => some e
    | some x => if lexLess (e.data ++ [e.src]) (x.data ++ [x.src]) then some e else b) none

/-- A master followed: measurements of another are given up. -/
def State.ptpFollow (s : State) (b : Foreign) : State :=
  let s1 := s.onTime (fun x => { x with ptpPort := some b.port, gmId := b.data.getD 5 0 })
  if s.net.ptp.parent = some (b.src, b.port) then s1
  else s1.onPtp (fun x => { x with
    parent := some (b.src, b.port), leads := false, sync := none, diff := none, req := none, delay := none, due := tset 0 x.due 2 s.time.eventTick })

/-- No master followed: this clock is the master, or listens. -/
def State.ptpAlone (s : State) (leads : Bool) : State :=
  let s1 := s.onTime (fun x => { x with ptpPort := none, gmId := s.clockId })
  if s.net.ptp.parent = none ∧ s.net.ptp.leads = leads then s1
  else s1.onPtp (fun x => { x with
    parent := none, leads := leads, sync := none, diff := none, req := none, delay := none
    due := tset 0 (tset 0 x.due 0 s.time.eventTick) 1 s.time.eventTick })

/-- The state decision: the best clock heard, if it is better than this one; this one when it may lead and has listened for 3 announce
intervals; else it listens. -/
def State.ptpDecide (s : State) : State :=
  let wait := s.net.ptp.since + 3 * s.ptpInterval 1
  match s.bestForeign with
  | some b => if s.time.ptpRole ≠ 1 ∨ lexLess b.data s.ownData then s.ptpFollow b else s.ptpAlone true
  | none => s.ptpAlone (s.time.ptpRole == 1 && (s.net.ptp.leads || decide (wait ≤ s.time.eventTick)))

/-- An Announce message: its sender qualifies with a second one within 4 announce intervals. This clock's own, and one 255 steps away, are
ignored. -/
def State.ptpAnnounce (s : State) (m : Nat) (g : PtpMsg) (f : Bytes) : State :=
  let o := g.at_
  let now := s.time.eventTick
  let old := s.net.ptp.heard.find? (fun e => e.src == g.src && e.port == m)
  let close := (old.map (fun e => e.qualified || decide (now ≤ e.last + 4 * s.ptpInterval 1))).getD false
  let d := [u8At f (o + 47), u8At f (o + 48), u8At f (o + 49), be16At f (o + 50), u8At f (o + 52), be64At f (o + 53), be16At f (o + 61)]
  if g.src / 65536 = s.clockId ∨ 255 ≤ be16At f (o + 61) then s
  else (s.onPtp (fun x => { x with heard := x.heard.filter (fun e => !(e.src == g.src && e.port == m)) ++ [⟨g.src, m, d, now, close⟩] })).ptpDecide

/-! ### Measuring (R250) -/

/-- A measurement written to the servo's registers and submitted (R250): the offset to 2^-16 ns, or the extreme value; the delay to the
nearest nanosecond. -/
def State.ptpSubmit (s : State) (o d : Int) : State :=
  let ns := clampInt (-(2 ^ 31)) (2 ^ 31 - 1) (o / 65536)
  let s1 := (s.wr Reg.SERVO_IN_OFFSET (ofSigned 32 ns)).wr Reg.SERVO_IN_FRAC (if ns = o / 65536 then (o % 65536).toNat else 0)
  (s1.wr Reg.SERVO_IN_DELAY (min (2 ^ 32 - 1) (divHalfAway (max 0 d) 65536).toNat)).servoUpdate

/-- The mean path delay to the master followed. -/
def State.ptpDelay (s : State) (m : Nat) : Option Int :=
  if s.time.ptpDelayMech = 1 then (s.net.ptp.peer.find? (fun e => e.1 == m)).bind (·.2.delay) else s.net.ptp.delay

/-- The time from the master to here was measured; with the path delay known, the offset is submitted. -/
def State.ptpMeasure (s : State) (m : Nat) (x : Int) : State :=
  let s1 := s.onPtp (fun p => { p with sync := none, diff := some x })
  match s1.ptpDelay m with
  | some d => s1.ptpSubmit (x - d) d
  | none => s1

/-- A Sync of the master followed: one-step, or waiting for its Follow_Up. -/
def State.ptpSync (s : State) (m : Nat) (t : Int) (g : PtpMsg) (f : Bytes) : State :=
  if s.net.ptp.parent ≠ some (g.src, m) then s
  else if g.twoStep then s.onPtp (fun x => { x with sync := some (g.seq, t, g.corr) })
  else s.ptpMeasure m (t - ptpTimeAt f (g.at_ + 34) - g.corr)

/-- A Follow_Up of the Sync that waits. -/
def State.ptpFollowUp (s : State) (m : Nat) (g : PtpMsg) (f : Bytes) : State :=
  match s.net.ptp.sync with
  | some (q, t, c) => if s.net.ptp.parent = some (g.src, m) ∧ q = g.seq then s.ptpMeasure m (t - ptpTimeAt f (g.at_ + 34) - c - g.corr) else s
  | none => s

/-- A Delay_Resp to the request that waits: the mean of the two ways is the path delay. -/
def State.ptpDelayResp (s : State) (m : Nat) (g : PtpMsg) (f : Bytes) : State :=
  match s.net.ptp.req, s.net.ptp.diff with
  | some (q, some t3), some x =>
    if s.net.ptp.parent = some (g.src, m) ∧ q = g.seq ∧ portIdAt f (g.at_ + 44) = s.portId m then
      s.onPtp (fun p => { p with req := none, delay := some ((x + (ptpTimeAt f (g.at_ + 34) - t3 - g.corr)) / 2) })
    else s
  | _, _ => s

/-- A Delay_Req heard by the master: answered with its arrival. -/
def State.ptpDelayReq (s : State) (m : Nat) (t : Int) (g : PtpMsg) : State :=
  if s.net.ptp.leads then
    s.ptpSend m ⟨9, g.domain, false, g.corr - ptpFrac t, s.portId m, g.seq, 0⟩ (s.time.ptpIntervals.getD 2 0) (ptpTime t ++ beBytes 10 g.src)
  else s

/-! ### Peer delay (R215) -/

/-- A port's peer delay measurement. -/
def State.peerOf (s : State) (m : Nat) : PeerDelay := tget ⟨0, none, none, none⟩ s.net.ptp.peer m

/-- The measurement changed. -/
def State.setPeer (s : State) (m : Nat) (v : PeerDelay) : State := s.onPtp (fun x => { x with peer := tset ⟨0, none, none, none⟩ x.peer m v })

/-- A Pdelay_Req answered: Pdelay_Resp carries its arrival, and its follow-up the departure of the answer. -/
def State.peerReq (s : State) (m : Nat) (t : Int) (g : PtpMsg) : State :=
  (s.ptpSend m ⟨3, g.domain, true, -(ptpFrac t), s.peerId m, g.seq, 0⟩ 0x7F (ptpTime t ++ beBytes 10 g.src)).onPtp (fun x => { x with
    answers := (x.answers ++ [(m, g.seq, g.src, g.corr)]).drop (x.answers.length - 15) })

/-- The link delay measured, which MAC_LINK_DELAY holds. -/
def State.peerDone (s : State) (m : Nat) (d : Int) : State :=
  (s.setPeer m { s.peerOf m with sent := none, resp := none, delay := some d }).wr (Reg.MAC_LINK_DELAY m) (min (2 ^ 32 - 1) (max 0 d).toNat)

/-- A Pdelay_Resp to the request that waits. -/
def State.peerResp (s : State) (m : Nat) (t : Int) (g : PtpMsg) (f : Bytes) : State :=
  let v := s.peerOf m
  match v.sent with
  | some t1 =>
    if v.seq ≠ g.seq ∨ portIdAt f (g.at_ + 44) ≠ s.peerId m then s
    else if g.twoStep then s.setPeer m { v with resp := some (ptpTimeAt f (g.at_ + 34), g.corr, t, g.src) }
    else s.peerDone m ((t - t1 - g.corr) / 2)
  | none => s

/-- A Pdelay_Resp_Follow_Up. -/
def State.peerFollowUp (s : State) (m : Nat) (g : PtpMsg) (f : Bytes) : State :=
  let v := s.peerOf m
  match v.sent, v.resp with
  | some t1, some (t2, c, t4, src) =>
    if v.seq ≠ g.seq ∨ portIdAt f (g.at_ + 44) ≠ s.peerId m ∨ src ≠ g.src then s
    else s.peerDone m ((t4 - t1 - (ptpTimeAt f (g.at_ + 34) - t2) - c - g.corr) / 2)
  | _, _ => s

/-! ### Receiving -/

/-- A message of the clock's domain on one of its ports. -/
def State.ptpClock (s : State) (m : Nat) (t : Int) (g : PtpMsg) (f : Bytes) : State :=
  if g.type = 0 then s.ptpSync m t g f
  else if g.type = 1 then s.ptpDelayReq m t g
  else if g.type = 8 then s.ptpFollowUp m g f
  else if g.type = 9 then s.ptpDelayResp m g f
  else if g.type = 11 then s.ptpAnnounce m g f
  else s

/-- A peer delay message. -/
def State.ptpPeerMsg (s : State) (m : Nat) (t : Int) (g : PtpMsg) (f : Bytes) : State :=
  if g.type = 2 then s.peerReq m t g else if g.type = 3 then s.peerResp m t g f else s.peerFollowUp m g f

/-- A frame of the PTP ring, with the time it was stamped, read by firmware (R215, R247). -/
def State.ptpHear (s : State) (m : Nat) (t : Int) (f : Bytes) : State :=
  match ptpMsg f with
  | none => s
  | some g =>
    let peer := g.type == 2 || g.type == 3 || g.type == 10
    if !(if peer then s.ptpPeer m else s.ptpOn m && g.domain == s.time.ptpDomain) then s
    else
      let s1 := s.onPtp (fun x => { x with layer2 := tset false x.layer2 m ((etherType f).1 == 0x88F7) })
      if peer then s1.ptpPeerMsg m t g f else s1.ptpClock m t g f

/-! ### Sent -/

/-- What firmware does with the transmission time of its own event message: a Follow_Up for a Sync or a Pdelay_Resp, a time for a request. -/
def State.ptpStamped (s : State) (m : Nat) (t : Int) (g : PtpMsg) : State :=
  if g.type = 0 then s.ptpSend m { g with type := 8, twoStep := false, corr := ptpFrac t } (s.time.ptpIntervals.getD 0 0) (ptpTime t)
  else if g.type = 1 then s.onPtp (fun x => { x with req := if x.req = some (g.seq, none) then some (g.seq, some t) else x.req })
  else if g.type = 2 then (if (s.peerOf m).seq = g.seq then s.setPeer m { s.peerOf m with sent := some t, resp := none } else s)
  else match s.net.ptp.answers.find? (fun e => e.1 == m && e.2.1 == g.seq) with
    | some (_, q, src, c) =>
      (s.ptpSend m { g with type := 10, twoStep := false, corr := c + ptpFrac t } 0x7F (ptpTime t ++ beBytes 10 src)).onPtp (fun x => { x with
        answers := x.answers.filter (fun e => !(e.1 == m && e.2.1 == q && e.2.2.1 == src)) })
    | none => s

/-- A frame has started on the wire: firmware takes the timestamp of an event message of its own (R225, R247). -/
def State.ptpSent (s : State) (m cyc : Nat) (f : TxFrame) : State :=
  match f.ring, f.rxStamp, ptpMsg f.data with
  | none, none, some g => if g.type < 4 then (s.perfAdd 103).ptpStamped m (s.txStamp m cyc) g else s
  | _, _, _ => s

/-- FORWARD_TRANSMIT (R213): the frame in the transmit FIFO starts, or with none there the one of highest priority; then the FIFO takes
the next. `cyc` is the core cycle within the tick. -/
def execForwardTransmit (mac cyc : Nat) (s : State) : Host.Outcome State Fault Refusal :=
  if !s.macOn mac ∨ !(s.mac mac).linkUp then .next s
  else
    let s1 := (s.gateNext mac).fillNext mac (cyc % 50) 0 ((s.mac mac).queued)
    match (s1.mac mac).next with
    | none => .next s1
    | some f =>
      let s2 := (s1.startFrame mac (cyc % 50) f).ptpSent mac (cyc % 50) f
      .next (s2.fillNext mac (cyc % 50) (f.data.length + 4) ((s2.mac mac).queued))

/-! ### At a boundary -/

/-- The ports the clock runs on. -/
def State.ptpPorts (s : State) : List Nat := [0, 1].filter s.ptpOn

/-- An Announce message of the master on each of its ports. -/
def State.sendAnnounce (s : State) : State :=
  if !(s.net.ptp.leads && s.ptpDue 0) then s
  else
    let d := s.ownData
    let body := zeros 13 ++ beBytes 1 (d.getD 0 0) ++ beBytes 1 (d.getD 1 0) ++ beBytes 1 (d.getD 2 0) ++ beBytes 2 (d.getD 3 0) ++ beBytes 1 (d.getD 4 0)
      ++ beBytes 8 s.clockId ++ zeros 2 ++ beBytes 1 0xA0
    (s.each s.ptpPorts (fun t m =>
      t.ptpSend m ⟨11, s.time.ptpDomain, false, 0, s.portId m, s.ptpSeq 0, 0⟩ (s.time.ptpIntervals.getD 1 0) body)).ptpNext 0 (s.ptpInterval 1)

/-- A two-step Sync of the master on each of its ports. -/
def State.sendSync (s : State) : State :=
  if !(s.net.ptp.leads && s.ptpDue 1) then s
  else (s.each s.ptpPorts (fun t m =>
    t.ptpSend m ⟨0, s.time.ptpDomain, true, 0, s.portId m, s.ptpSeq 1, 0⟩ (s.time.ptpIntervals.getD 0 0) (zeros 10))).ptpNext 1 (s.ptpInterval 0)

/-- A Delay_Req to the master followed, once a Sync has been measured. -/
def State.sendDelayReq (s : State) : State :=
  match s.net.ptp.parent with
  | some (_, m) =>
    if !(s.time.ptpDelayMech == 0 && s.net.ptp.diff.isSome && s.ptpDue 2) then s
    else ((s.ptpSend m ⟨1, s.time.ptpDomain, false, 0, s.portId m, s.ptpSeq 2, 0⟩ 0x7F (zeros 10)).onPtp (fun x => { x with
      req := some (s.ptpSeq 2, none) })).ptpNext 2 (s.ptpInterval 2)
  | none => s

/-- A Pdelay_Req on each port that measures its link. -/
def State.sendPeerReq (s : State) : State :=
  let ms := [0, 1].filter s.ptpPeer
  if ms.isEmpty || !s.ptpDue 3 then s
  else (s.each ms (fun t m =>
    (t.setPeer m { t.peerOf m with seq := s.ptpSeq 3, sent := none, resp := none }).ptpSend m
      ⟨2, s.time.ptpDomain, false, 0, s.peerId m, s.ptpSeq 3, 0⟩ 0x7F (zeros 20))).ptpNext 3 (s.ptpInterval 2)

/-- The PTP engine at a quantum boundary: clocks not heard for 3 announce intervals are forgotten, the master is chosen, and what is due is
sent. -/
def State.ptpBoundary (s : State) : State :=
  let s1 :=
    if s.time.ptpMask = 0 then s
    else
      let s0 := s.onPtp (fun x => { x with heard := x.heard.filter (fun e => decide (s.time.eventTick < e.last + 3 * s.ptpInterval 1)) })
      ((s0.ptpDecide).sendAnnounce.sendSync).sendDelayReq
  s1.sendPeerReq

end Sys2Proof.Machine
end

