-- ==== Sys2Proof/Machine/SceneNet.lean ====
section
/-! DEFINITION. Scene frames and the manager-worker exchange (R69 to R71, R440 to R447): receiving scene frames and status frames,
sending them at boundaries. -/

namespace Sys2Proof.Machine

/-! ### Receiving scene frames (R70, R71) -/

/-- 16-bit serial comparison: a comes after b. -/
def after16 (a b : Nat) : Bool :=
  let d := (a + 65536 - b % 65536) % 65536
  decide (0 < d ∧ d < 32768)

/-- The newest of the remembered sequence numbers. R71 does not say whether that is the one accepted last or the one that comes last in
serial order: it is the latter (DESIGN CHOICE, notes/assumptions/59). -/
def newestSeq (l : List Nat) : Option Nat := l.head?.map (fun a => l.foldl (fun b x => if after16 x b then x else b) a)

/-- The header check of a scene frame: the counter of the first condition it meets (R70). -/
def sceneBad (d : Bytes) : Option Nat :=
  let n := u8At d 3
  if u16At d 0 ≠ 0x4D4B then some 1
  else if u8At d 2 ≠ 1 then some 2
  else if 44 < n ∨ d.length ≠ 16 + 32 * n then some 3
  else if u16At d 4 = 0 ∨ u16At d 4 = 0xFFFF then some 4
  else none

/-- The remembered sequences of a source. -/
def State.sceneSeqs (s : State) (id : Nat) : List Nat := ((s.scene.sources.find? (fun e => e.id == id)).map (·.seqs)).getD []

/-- A sequence remembered for a source, which is now the one heard last; the table holds 64 (R71). -/
def State.sceneRemember (s : State) (id seq : Nat) : State :=
  let e : SceneSrc := ⟨id, (seq :: s.sceneSeqs id).take 32⟩
  s.onScene (fun x => { x with sources := (e :: x.sources.filter (fun y => y.id != id)).take 64 })

/-- A source heard again: it is the one heard last (R71). -/
def State.sceneHeard (s : State) (id : Nat) : State :=
  s.onScene (fun x => { x with sources := x.sources.filter (fun y => y.id == id) ++ x.sources.filter (fun y => y.id != id) })

/-- The gap a new sequence leaves (R71). -/
def State.sceneGap (s : State) (id seq : Nat) : Nat :=
  match newestSeq (s.sceneSeqs id) with
  | none => 0
  | some o =>
    let d := (seq + 65536 - o) % 65536
    if 2 ≤ d ∧ d < 32768 then d - 1 else 0

/-- WORKER_BACK when an ID that was declared lost is heard again; the time of hearing is kept (R447). -/
def State.hearId (s : State) (id : Nat) : State :=
  let was := tget false s.hier.lost id
  let now := s.time.eventTick
  let s1 := s.onHier (fun x => { x with heard := tput x.heard id now, lost := tset false x.lost id false })
  if was then s1.post 0x8011 (le8 id) else s1

/-- The manager's frames on a worker, its resynchronisations among them: the sequence last accepted from 65,534, and that the manager is
present (R446, R447). -/
def State.sceneFrom (s : State) (src seq : Nat) : State :=
  let s1 := if src = 65534 then s.onHier (fun x => { x with lastScene := seq }) else s
  if s.hier.role = 2 ∧ (src = 65534 ∨ src = 65533) then s1.hearId 0 else s1

/-- A scene frame that reached an enabled listener (R70, R71). -/
def State.sceneFrame (s : State) (own : Bool) (d : Bytes) : State :=
  match sceneBad d with
  | some k => s.sceneCnt k
  | none =>
    let src := u16At d 4
    let seq := u16At d 6
    if (s.sceneSeqs src).contains seq then (s.sceneHeard src).sceneCnt 5
    else
      let s1 := ((((s.sceneCnt 7 (s.sceneGap src seq)).sceneRemember src seq).sceneCnt 6).perfAdd 125).sceneFrom src seq
      (s1.judgeAll src own ((entries 32 (d.drop 16)).map recAt)).1

/-- A datagram for a scene listener: counted SCENE_EARLY before the listener is enabled (R70). -/
def State.toListener (s : State) (own : Bool) (l : Listener) (d : Bytes) : State :=
  if l.enable then s.sceneFrame own d else s.sceneCnt 0

/-! ### The manager's and the workers' frames (R442 to R446) -/

/-- Whether this manager sends: its ACT is in force, or it is no unit of a pair (R445). -/
def State.leads (s : State) : Bool := s.hier.role == 1 && (!s.mirrorOn || s.mir.actInForce)

/-- Whether this manager's scene frames go out: the gate is open (R428). While it is closed none is formed and the records stay pending (DESIGN
CHOICE, notes/assumptions/67). -/
def State.sendsScene (s : State) : Bool := s.leads && s.mir.gateOpen

/-- Whether an address and port are the manager's scene group. -/
def State.isSceneGroup (s : State) (ip port : Nat) : Bool := s.hier.role == 1 && s.hier.group == ip && s.hier.scenePort == port

/-- Whether a port sends firmware's datagrams: it runs and the network has started. -/
def State.netReady (s : State) (m : Nat) : Bool := s.macOn m && s.bit (Reg.MAC_CTRL m) 6

/-- A datagram of firmware's own on a port, and whether it is gated (R428). -/
def State.sendDatagram (s : State) (m dmac dst port : Nat) (d : Bytes) (g : Gated := .no) : State :=
  if !s.netReady m then s
  else
    let src := (s.mac m).ip
    let f := etherHeader dmac (s.macAddr m) 0 0x0800
      ++ ipHeader (Config.fwField 1) (28 + d.length) (Config.freeNat s.freeCnt) (Config.fwField 0) src dst
      ++ udpDatagram src dst (Config.fwField 2) port d
    s.fresh.txQueue m 2 ⟨padFrame f, none, none, g⟩

/-- The Ethernet destination of an IPv4 address for firmware's datagrams. -/
def ethDst (ip : Nat) : Nat := if ipMulticast ip then multicastMac ip else Config.ethOf ip

/-- A datagram on both ports: both networks under DUAL, both directions under CHAIN. -/
def State.sendBoth (s : State) (dst port : Nat) (d : Bytes) (g : Gated := .no) : State :=
  (s.sendDatagram 0 (ethDst dst) dst port d g).sendDatagram 1 (ethDst dst) dst port d g

/-- The bytes of a scene frame (R69). -/
def State.sceneBytes (s : State) (src seq : Nat) (recs : List Bytes) : Bytes :=
  le16 0x4D4B ++ le8 1 ++ le8 recs.length ++ le16 src ++ le16 seq ++ le64 s.time.sample ++ recs.flatten

/-- Records in groups of 44; with none, one empty group. -/
def sceneGroups : Nat → List Bytes → List (List Bytes)
  | 0, _ => []
  | k + 1, l => if l.length ≤ 44 then [l] else l.take 44 :: sceneGroups k (l.drop 44)

/-- The manager's send at a boundary (R442). -/
def State.sceneSend (s : State) : State :=
  let gs := sceneGroups 32 (s.hier.pend.map (·.2))
  (s.each gs (fun t g =>
    let q := (t.hier.seq + 1) % 65536
    (t.onHier (fun x => { x with seq := q })).sendBoth t.hier.group t.hier.scenePort (t.sceneBytes 65534 q g) .scene)).onHier
    (fun x => { x with pend := [] })

/-- The status frame of a worker (R446). -/
def State.statusBytes (s : State) (n : Nat) : Bytes :=
  let c := s.prism.commitInfo
  le16 0x5357 ++ le8 1 ++ le8 s.hier.id
    ++ le8 (b2n s.sys.straps.mirRole + 2 * b2n s.mir.actInForce + 4 * b2n s.mir.synced + 8 * b2n s.timeLocked) ++ le8 s.sys.mode.code
    ++ le16 s.hier.statusSeq ++ le64 n ++ le32 ((c.map (·.paths.length)).getD 0) ++ le16 ((c.map (·.waiting.length)).getD 0)
    ++ le16 s.hier.lastScene ++ le32 (tget 0 s.scene.cnt 7) ++ zeros 4

/-- A worker's send at a boundary (R446). -/
def State.statusSend (s : State) (n : Nat) : State :=
  (s.sendBoth s.hier.manager s.hier.statusPort (s.statusBytes n)).onHier (fun x => { x with statusSeq := (x.statusSeq + 1) % 65536 })

/-- What the hierarchy sends at boundary n (R442, R446). -/
def State.hierBoundary (s : State) (n : Nat) : State :=
  if s.sendsScene ∧ n % (max 1 s.hier.interval) = 0 then s.sceneSend
  else if s.hier.role = 2 ∧ n % 8 = 0 then s.statusSend n
  else s

/-- A worker ID resynchronised by unicast (R444): the newest record of every present object, in object order. The sequence of source 65,533
runs on over all workers (DESIGN CHOICE, notes/assumptions/67). -/
def State.resync (s : State) (m dmac ip : Nat) : State :=
  let recs := s.scene.objs.filterMap (fun (e : Nat × Obj) => if e.2.present then e.2.newest.map Rec.bytes else none)
  s.each (sceneGroups 32 recs) (fun t g =>
    let q := (t.hier.resyncSeq + 1) % 65536
    (t.onHier (fun x => { x with resyncSeq := q })).sendDatagram m dmac ip t.hier.scenePort (t.sceneBytes 65533 q g) .scene)

/-- A status frame heard by a manager (R444, R446, R447): dropped with a wrong magic, version or ID. -/
def State.statusFrame (s : State) (m smac ip : Nat) (d : Bytes) : State :=
  let id := u8At d 3
  if d.length ≠ 32 ∨ u16At d 0 ≠ 0x5357 ∨ u8At d 2 ≠ 1 ∨ id = 0 ∨ 63 < id then s
  else
    let fresh := s.hier.heard.all (fun e => e.1 != id)
    let s1 := s.hearId id
    if fresh && s.sendsScene then s1.resync m smac ip else s1

/-- The standby manager follows its partner's sequence (R445). -/
def State.followScene (s : State) (d : Bytes) : State :=
  if (sceneBad d).isNone ∧ u16At d 4 = 65534 then s.onHier (fun x => { x with seq := u16At d 6 }) else s

/-- WORKER_LOST (R447): 64 quanta without a status frame of an ID; on a worker, ID 0, without a scene frame. -/
def execWorkerLost (id : Nat) (s : State) : Host.Outcome State Fault Refusal :=
  match s.hier.heard.find? (fun e => e.1 == id) with
  | none => .next s
  | some (_, t) =>
    let watched := if s.hier.role = 1 then decide (1 ≤ id ∧ id ≤ 63) else s.hier.role == 2 && id == 0
    if !watched ∨ s.time.eventTick < t + 64 * s.time.tq then .next s
    else .next ((s.onHier (fun x => { x with heard := tdel x.heard id, lost := tset false x.lost id true })).post 0x8010 (le8 id))

/-- The present mask of HIER_STATUS_GET: IDs heard within the last 64 quanta. -/
def State.presentMask (s : State) : Nat :=
  s.hier.heard.foldl (fun n e => if s.time.eventTick ≤ e.2 + 64 * s.time.tq ∧ e.1 < 64 then n + 2 ^ e.1 else n) 0

/-- The lost mask. -/
def State.lostMask (s : State) : Nat := s.hier.lost.foldl (fun n e => if e.2 ∧ e.1 < 64 then n + 2 ^ e.1 else n) 0

end Sys2Proof.Machine
end

