-- ==== Sys2Proof/Machine/Ports.lean ====
section
/-! DEFINITION. The serial audio ports (chapter 7): frame edges, quantum blocks, drift and re-alignment, non-audio detection, the
boundary work of the ports, SYNC_IN. -/

namespace Sys2Proof.Machine

/-! ### Settings (R180, R181, R187) -/

/-- A port's state. -/
def State.port (s : State) (p : Nat) : PortSt := tget PortSt.init s.ports.port p

/-- The state with a port changed. -/
def State.setPort (s : State) (p : Nat) (v : PortSt) : State := s.onPorts (fun x => { x with port := tset PortSt.init x.port p v })

/-- A group's state. -/
def State.grp (s : State) (g : Nat) : GrpSt := tget GrpSt.init s.ports.grp g

/-- The state with a group changed. -/
def State.setGrp (s : State) (g : Nat) (v : GrpSt) : State := s.onPorts (fun x => { x with grp := tset GrpSt.init x.grp g v })

/-- Group mode: 0 off, 1 master, 2 slave; 3 acts as 0. -/
def State.grpMode (s : State) (g : Nat) : Nat := if s.fld (Reg.GRP_CFG g) 29 28 = 3 then 0 else s.fld (Reg.GRP_CFG g) 29 28

/-- Format: 0 I²S, 1 left-justified, 2 TDM; 3 acts as 2. -/
def State.grpFormat (s : State) (g : Nat) : Nat := min 2 (s.fld (Reg.GRP_CFG g) 27 26)

/-- Slots in a frame: 2 for the stereo formats. -/
def State.grpSlots (s : State) (g : Nat) : Nat := if s.grpFormat g = 2 then s.fld (Reg.GRP_CFG g) 19 16 + 1 else 2

/-- A width from its code: 0 16, 1 24, 2 or 3 32. -/
def widthOf (c : Nat) : Nat := if c = 0 then 16 else if c = 1 then 24 else 32

/-- Slot width W. -/
def State.grpWidth (s : State) (g : Nat) : Nat := widthOf (s.fld (Reg.GRP_CFG g) 21 20)

/-- Data delay in bit clocks: fixed for the stereo formats (R181). -/
def State.grpDelay (s : State) (g : Nat) : Nat :=
  match s.grpFormat g with
  | 0 => 1 | 1 => 0 | _ => s.fld (Reg.GRP_CFG g) 22 22

/-- Whether a frame starts at the rising edge of FS (R180, R181): the falling one for I²S, and either with FS polarity 1. -/
def State.frameRising (s : State) (g : Nat) : Bool := (s.grpFormat g != 0) != s.bit (Reg.GRP_CFG g) 24

/-- Frame length L. -/
def State.grpLen (s : State) (g : Nat) : Nat := s.fld (Reg.GRP_CFG g) 10 0

/-- Whether a port is an output. -/
def State.portOut (s : State) (p : Nat) : Bool := s.bit (Reg.PORT_CFG p) 30

/-- Data width. -/
def State.portWidth (s : State) (p : Nat) : Nat := widthOf (s.fld (Reg.PORT_CFG p) 27 26)

/-- Base channel. -/
def State.portBase (s : State) (p : Nat) : Nat := s.fld (Reg.PORT_CFG p) 9 0

/-- The active slots of a mask among n slots, ascending (R188). -/
def maskSlots (n mask : Nat) : List Nat := (List.range n).filter (fun k => bitOf mask k)

/-- The ports of a group. -/
def grpPorts (g : Nat) : List Nat := (List.range 8).map (8 * g + ·)

/-- Whether the port logic runs: PORT is powered in a live mode and PORTS_CTRL.ENABLE is set. -/
def State.portsRun (s : State) : Bool := s.live && s.bit Reg.PORTS_CTRL 0

/-- A PORT_ALERT event: 1 LOST, 2 DRIFT, 3 NONAUDIO, 4 SYNC_MOVED. -/
def State.portAlert (s : State) (who kind slot : Nat) : State := s.post 0x3001 (le8 who ++ le8 kind ++ le16 slot)

/-! ### Non-audio detection (R199, R200) -/

/-- Whether a sample is a word of a value: its remaining bits zero. -/
def isNaWord (w : Nat) (x : Int) : Bool := ofSigned 32 x == w * 65536

/-- Pa. -/
def isPa (x : Int) : Bool := isNaWord 0xF872 x
/-- Pb. -/
def isPb (x : Int) : Bool := isNaWord 0x4E1F x

/-- One sample judged; `pair` says that the pair of slots or channels shows the preamble. Whether a preamble was found. -/
def NaSt.judge (a : NaSt) (x : Int) (pair : Bool) : NaSt × Bool :=
  let hit := (a.lastPa && isPb x) || pair
  ({ a with lastPa := isPa x, count := if hit then 0 else a.count + 1 }, hit)

/-- Samples judged in order: whether any completed a preamble. -/
def NaSt.judgeAll (a : NaSt) (xs : List (Int × Bool)) : NaSt × Bool :=
  xs.foldl (fun acc e =>
    let (b, h) := acc.1.judge e.1 e.2
    (b, acc.2 || h)) (a, false)

/-- The start of a quantum's assembly: muted, fading in after a release, or as it is. -/
def NaSt.begin_ (a : NaSt) : NaSt := { a with how := if a.muted then 1 else if a.fade then 2 else 0, fade := false }

/-- A judged part of a quantum: whether a mute starts. -/
def NaSt.part (a : NaSt) (xs : List (Int × Bool)) : NaSt × Bool :=
  let (b, hit) := a.judgeAll xs
  if hit then ({ b with muted := true, how := 1, fade := false }, !b.muted) else (b, false)

/-- What the slot delivers for sample k of the quantum (R200). -/
def NaSt.deliver (a : NaSt) (k : Nat) (x : Int) : Int :=
  if a.how = 1 then 0 else if a.how = 2 then shrOpen 40 (x * (k + 1)) 3 else x

/-! ### Receiving (R189 to R192, R195) -/

/-- The first 32 bits of slot k of a frame, most significant first, from the levels at the edges of the bit clock (R180, R182): sampled at
the rising edge with BCLK polarity 0. -/
def State.slotWord (s : State) (g levels k : Nat) : Nat :=
  let w := s.grpWidth g
  let odd := b2n (s.bit (Reg.GRP_CFG g) 23)
  (List.range w).foldl (fun a b => a + b2n (bitOf levels (2 * (s.grpDelay g + k * w + b) + odd)) * 2 ^ (31 - b)) 0

/-- An input word as a Q1.31 sample of the data width (R190). -/
def narrowIn (w word : Nat) : Int := toSigned 32 (word % 2 ^ 32 / 2 ^ (32 - w) * 2 ^ (32 - w))

/-- A Q1.31 sample rounded and saturated to the data width (R149, R190). -/
def narrowOut (w : Nat) (x : Int) : Int :=
  clampInt (-(2 ^ (w - 1))) (2 ^ (w - 1) - 1) (divHalfAway x (2 ^ (32 - w))) * 2 ^ (32 - w)

/-- The quantum assembled whole by now. -/
def State.assembled (s : State) (q : Nat) : Bool := decide (q + 2 ≤ s.time.lastQ)

/-- An input block dropped or discarded (R192). -/
def State.rxOverrun (s : State) (p : Nat) : State := ((s.bump (Reg.PORT_CNT p 0)).perfAdd 114).raise Reg.PORTS_INT_STATUS 0

/-- The block being received becomes ready: kept, or dropped when 2 are held or its quantum has one or is over (R192). -/
def State.blockReady (s : State) (p : Nat) (b : PortBlk) : State :=
  let v := s.port p
  let held := v.blocks.filter (fun x => x.ready.isSome)
  if 2 ≤ held.length ∨ held.any (fun x => x.q == b.q) ∨ s.assembled b.q then
    (s.setPort p { v with blocks := held }).rxOverrun p
  else s.setPort p { v with blocks := held ++ [{ b with ready := some s.time.tick }], ts := b.tick }

/-- The frame of sample i, begun at tick t, put into the block being received; a block begun before the port's first quantum is not
received (R197). -/
def State.frameIn (s : State) (p n i t : Nat) (ok : Bool) (levels : Nat) : State :=
  let v := s.port p
  let q := i / 8
  let k := i % 8
  let held := v.blocks.filter (fun x => x.ready.isSome)
  let cur := if k = 0 then (if v.first ≤ q then some (⟨q, [], [], t, none⟩ : PortBlk) else none) else v.blocks.find? (fun x => x.ready.isNone && x.q == q)
  match cur with
  | none => s
  | some b =>
    let w := s.portWidth p
    let data := (List.range n).foldl (fun u j => tset 0 u (8 * j + k) (if ok then narrowIn w (s.slotWord (p / 8) levels j) else 0)) b.data
    let b1 := { b with data := data, masks := tput b.masks k v.mask }
    let s1 := s.setPort p { v with blocks := held ++ [b1], ts := b1.tick }
    if k = 7 then s1.blockReady p b1 else s1

/-- What the output pins of a group drove in the frame that ends: 0 in a discarded frame (R186). -/
def State.endDrive (s : State) (g : Nat) (ok : Bool) : State :=
  let mine := s.ports.pins.filter (fun (e : Nat × Option Int) => e.1 / 128 == g)
  s.onPorts (fun x => { x with
    last := mine.foldl (fun t (e : Nat × Option Int) => tset none t e.1 (if ok then e.2 else e.2.map (fun _ => 0)))
      (x.last.filter (fun (e : Nat × Option Int) => e.1 / 128 != g)) })

/-- The frame in progress of a group ends at a frame edge: a slave frame of the wrong length is discarded (R186). -/
def State.closeFrame (s0 : State) (g bits : Nat) (data : PinData) : State :=
  let ok := s0.grpMode g == 1 || bits == s0.grpLen g
  let s := s0.endDrive g ok
  let v := s.grp g
  let s1 := if ok || v.edge.isNone then s else (s.bump (Reg.GRP_CNT g 0)).raise Reg.PORTS_INT_STATUS 2
  match v.index.filter (fun i => !(v.freshAt.map (fun m => decide (8 * m ≤ i))).getD false) with
  | none => s1
  | some i =>
    let ins := (grpPorts g).filter (fun p => (s1.port p).active && !s1.portOut p)
    s1.each ins (fun t p => t.frameIn p (t.grpSlots g) i (v.edge.getD 0) ok (tget 0 data p))

/-- The timestamp of a frame edge (R191): the sampled tick, less 2 for a slave group. -/
def State.edgeTick (s : State) (g : Nat) : Nat := if s.grpMode g = 2 then s.time.tick - 2 else s.time.tick

/-- A group aligned at a frame edge under R28. -/
def GrpSt.align (v : GrpSt) (i : Nat) : GrpSt := { v with index := some i, drift := false, d := 0, freshAt := none, rederive := false, pos := none }

/-- A group that must re-align at the next boundary, with its PORT_ALERT. -/
def State.realignDue (s : State) (g kind : Nat) : State :=
  (s.setGrp g { s.grp g with due := some kind }).portAlert g kind 0

/-- An edge of SYNC_IN has moved a group: SYNC_MOVED counts it once. -/
def State.noteMoved (s : State) : State :=
  if s.ports.syncMoved then s
  else ((s.onPorts (fun x => { x with syncMoved := true })).bump (Reg.PORTS_CNT 1)).raise Reg.PORTS_INT_STATUS 6

/-- A frame edge whose index is re-derived after SYNC_IN (R202). -/
def State.rederiveEdge (s : State) (g i now : Nat) : State :=
  let s1 := s.setGrp g ((s.grp g).align now)
  if i = now then s1
  else
    (s1.realignDue g 4).noteMoved

/-- The drift after a counted frame (R195). -/
def State.driftEdge (s : State) (g i now : Nat) : State :=
  let d : Int := (i : Int) - now
  let s1 := s.setGrp g { s.grp g with index := some i, d := clampInt (-3) 3 d }
  if d.natAbs < 3 ∨ (s.grp g).due.isSome then s1
  else ((s1.setGrp g { s1.grp g with drift := true }).raise (Reg.GRP_STAT g) 29).realignDue g 2

/-- The index of the frame that begins at edge e, the sample instant before it being `now` (R28, R186, R195). -/
def State.indexFrame (s : State) (g e now : Nat) : State :=
  let v := s.grp g
  if v.lost then s.setGrp g { v with lost := false, index := none, due := some 1 }
  else
    match v.index, v.freshAt with
    | i, some m =>
      if m * s.time.tq ≤ e then s.setGrp g (v.align now) else s.setGrp g { v with index := i.map (· + 1) }
    | none, none => if v.due.isSome && s.grpMode g != 1 then s else s.setGrp g (v.align now)
    | some i, none =>
      if s.grpMode g = 1 then s.setGrp g { v with index := some (max (i + 1) now) }
      else if v.rederive then s.rederiveEdge g (i + 1) now
      else s.driftEdge g (i + 1) now

/-- The output block and frame of it that an edge drives (R28, R193): a block from the first edge at or after the instant of its first
index, then one frame after another; after an alignment the sample of the edge's own index. -/
def GrpSt.place (v : GrpSt) (e now : Nat) : GrpSt :=
  match v.index, v.pos with
  | none, _ => { v with pos := none }
  | some _, none => { v with pos := some (now / 8, now % 8), blockAt := e }
  | some _, some (q, k) => if q < now / 8 then { v with pos := some (now / 8, 0), blockAt := e } else { v with pos := some (q, k + 1) }

/-- A frame edge of a group: its phase, its index, and what its outputs drive from it. -/
def State.openFrame (s : State) (g : Nat) : State :=
  let e := s.edgeTick g
  let now := e / s.time.tps
  let v0 := s.grp g
  let s1 := s.setGrp g { v0 with edge := some e, phase := if s.grpMode g = 2 then e % s.time.tps else 0
                                 ph := if s.grpMode g = 1 && !s.tickLocked then e % s.time.tps else v0.ph }
  let s2 := s1.indexFrame g e now
  s2.setGrp g ((s2.grp g).place e now)

/-- Whether an edge begins a frame of a group (R180, R183, R185): the active edge of FS; for a master group at the phase of its divider,
once, or in the tick in which SYNC_IN reloads it (R35). While the tick is not locked to media samples the divider runs on its own. -/
def State.isFrameEdge (s : State) (g : Nat) (rising : Bool) : Bool :=
  let v := s.grp g
  let t := s.time.tick
  rising == s.frameRising g
    && (s.grpMode g == 2 || !s.tickLocked || ((t % s.time.tps == v.ph || v.loaded == some t) && v.edge != some t))

/-- The last mask or TRI_INACTIVE write that completed before this tick takes effect (R189, R204). -/
def State.adoptMask (s : State) (p : Nat) : State :=
  let v := s.port p
  match (v.pend.filter (fun e => decide (e.1 < s.time.eventTick))).getLast? with
  | some (_, m, tri) => s.setPort p { v with mask := m, tri := tri, pend := v.pend.filter (fun e => decide (s.time.eventTick ≤ e.1)) }
  | none => s

/-! ### Driving (R190, R193, R195, R198) -/

/-- The output sample of a channel for sample index i: of the quantum being driven or the one before; zero otherwise. -/
def State.outSample (s : State) (ch i : Nat) : Int :=
  if i / 8 = s.ports.outQ then tget 0 s.ports.out (8 * ch + i % 8)
  else if i / 8 + 1 = s.ports.outQ then tget 0 s.ports.outPrev (8 * ch + i % 8)
  else 0

/-- Whether an output port drives zeros in its active slots in the frames of block q: muted, without a block, newly enabled, re-aligned, or
in a step quantum (R193, R195, R197, R198, R259). -/
def State.outZero (s : State) (p q : Nat) : Bool :=
  s.sys.muted || s.time.stepQuantum || s.ports.outLate.contains (q, p) || ((s.port p).zeroOut.map (fun z => decide (q ≤ z))).getD false
    || (s.grp (p / 8)).muteQ == some q

/-- The value an active slot of rank r carries in frame k of block q; zero in a frame that belongs to no block. In a frame after the last of a
block nothing says what it is. -/
def State.slotValue (s : State) (p : Nat) (at_ : Option (Nat × Nat)) (r : Nat) : Int :=
  match at_ with
  | none => 0
  | some (q, k) =>
    if s.outZero p q then 0
    else narrowOut (s.portWidth p) (if k < 8 then s.outSample (s.portBase p + r) (8 * q + k) else clampInt (-(2 ^ 31)) (2 ^ 31 - 1) (Config.gapSample (16 * p + r) s.time.tick))

/-- What slot k of an output port drives in a frame. -/
def State.slotDrive (s : State) (p : Nat) (at_ : Option (Nat × Nat)) (slots : List Nat) (k : Nat) : Option Int :=
  match findIdx (fun _ x => x == k) slots with
  | some (r, _) => some (s.slotValue p at_ r)
  | none => if (s.port p).tri then none else some 0

/-- The pins of a port driven with a frame; nothing while the gate is closed or the port is not an active output. -/
def State.drivePort (s : State) (p : Nat) (at_ : Option (Nat × Nat)) : State :=
  let n := s.grpSlots (p / 8)
  let on := (s.port p).active && s.portOut p && s.mir.gateOpen
  let slots := maskSlots n (s.port p).mask
  let put := fun (t : Tbl (Option Int)) (k : Nat) => tset none t (16 * p + k) (if on && decide (k < n) then s.slotDrive p at_ slots k else none)
  s.onPorts (fun x => { x with pins := (List.range 16).foldl put x.pins })

/-- An output port's block takes its timestamp (R191). -/
def State.stampBlock (s : State) (p t : Nat) : State :=
  if (s.port p).active && s.portOut p then s.setPort p { s.port p with ts := t } else s

/-- The pins of a group driven with the frame that begins. -/
def State.driveGroup (s : State) (g : Nat) : State :=
  let v := s.grp g
  s.each (grpPorts g) (fun t p => (if v.pos.isSome then t.stampBlock p v.blockAt else t).drivePort p v.pos)

/-- PORT_FRAME_EDGE (R189): an edge of a group's FS, rising or falling, after `bits` bit clocks since the frame edge before; `data` is what the
input pins carried in the frame that ends. Only the active edge begins a frame. -/
def execPortFrameEdge (grp bits : Nat) (data : FsEdge) (s : State) : Host.Outcome State Fault Refusal :=
  if 8 ≤ grp ∨ !s.portsRun ∨ s.grpMode grp = 0 ∨ !s.isFrameEdge grp data.rising ∨ s.discards then .next s
  else
    let s1 := (s.closeFrame grp bits data.pins).openFrame grp
    .next ((s1.each (grpPorts grp) (fun t p => t.adoptMask p)).driveGroup grp)

/-- The pins of a port are not driven. -/
def State.undrive (s : State) (p : Nat) : State :=
  s.onPorts (fun x => { x with pins := x.pins.filter (fun e => e.1 / 16 != p) })

/-- GRP_LOST (R186): no frame edge of a slave group for 4 frame periods. -/
def execGrpLost (grp : Nat) (s : State) : Host.Outcome State Fault Refusal :=
  let v := s.grp grp
  let soon := (v.edge.map (fun e => decide (s.time.tick < e + 4 * s.time.tps))).getD false
  if 8 ≤ grp ∨ !s.portsRun ∨ s.grpMode grp ≠ 2 ∨ v.lost ∨ soon then .next s
  else
    let s1 := s.setGrp grp { v with lost := true, index := none, due := none, freshAt := none }
    let s2 := ((s1.raise (Reg.GRP_STAT grp) 28).bump (Reg.GRP_CNT grp 1)).raise Reg.PORTS_INT_STATUS 3
    .next ((s2.portAlert grp 1 0).each (grpPorts grp) (fun t p => t.undrive p))

/-! ### Input assembly (R192, R199) -/

/-- Whether a port's block of quantum q holds samples 0 to 3. -/
def PortBlk.hasHalf (b : PortBlk) : Bool := (List.range 4).all (fun k => b.masks.any (fun e => e.1 == k))

/-- The block of a quantum held by a port. -/
def PortSt.blk (v : PortSt) (q : Nat) : Option PortBlk := v.blocks.find? (fun b => b.q == q)

/-- Slot samples before detection: zero for a muted quantum, and where they did not arrive in time. -/
def State.slotRaw (s : State) (p q : Nat) (late : Bool) (slot k : Nat) : Int :=
  let v := s.port p
  if (s.grp (p / 8)).muteQ = some q ∨ v.half ≠ some q ∨ (late ∧ 4 ≤ k) then 0
  else ((v.blk q).map (fun b => tget 0 b.data (8 * slot + k))).getD 0

/-- Detection over samples a to b−1 of a slot; the even slot of a pair gives Pa, the odd one Pb. -/
def State.slotJudge (s : State) (p n q : Nat) (late : Bool) (ks : List Nat) (slot : Nat) : State :=
  let e := slot / 2 * 2
  let raw := fun (j k : Nat) => s.slotRaw p q late j k
  let xs := ks.map (fun k => (raw slot k, decide (e + 1 < n) && isPa (raw e k) && isPb (raw (e + 1) k)))
  let v := s.port p
  let a := tget NaSt.init v.na slot
  let (b, new) := (if ks.head? = some 0 then a.begin_ else a).part xs
  let s1 := s.setPort p { v with na := tset NaSt.init v.na slot b }
  if new then
    ((((s1.raise (Reg.PORT_NA p) (16 + slot)).bump (Reg.PORT_CNT p 2)).perfAdd 116).raise Reg.PORTS_INT_STATUS 5).portAlert p 3 slot
  else s1

/-- The channel values a port delivers: for samples ks, its active slots compacted under the mask of each sample (R188, R189). -/
def State.portValues (s : State) (p n q : Nat) (late : Bool) (ks : List Nat) : List (Nat × Int) :=
  let v := s.port p
  let masks := ((v.blk q).map (·.masks)).getD []
  ks.flatMap (fun k =>
    let slots := maskSlots n (tget v.mask masks k)
    ((List.range slots.length).zip slots).map (fun e =>
      ((65536 + s.portBase p + e.1) * 8 + k, (tget NaSt.init v.na e.2).deliver k (s.slotRaw p q late e.2 k))))

/-- An input quantum that is missing, or whose second half is (R192). -/
def State.rxMissing (s : State) (p q : Nat) : State :=
  if (s.grp (p / 8)).muteQ = some q then s else (s.bump (Reg.PORT_CNT p 1)).perfAdd 114

/-- The first part of quantum q of an input port, at its first deadline: the state and the channel values. -/
def State.portFirst (s : State) (q : Nat) (acc : Tbl Int) (p : Nat) : State × Tbl Int :=
  let n := s.grpSlots (p / 8)
  let got := (((s.port p).blk q).map (·.hasHalf)).getD false
  let s1 := if got then s.setPort p { s.port p with half := some q } else s.rxMissing p q
  let s2 := s1.each (List.range n) (fun t k => t.slotJudge p n q false [0, 1, 2, 3] k)
  (s2, (s2.portValues p n q false [0, 1, 2, 3]).foldl (fun t e => tset 0 t e.1 e.2) acc)

/-- Whether a block became ready by the second deadline: two sample periods after B(q + 1). -/
def State.inTime (s : State) (q : Nat) (b : PortBlk) : Bool :=
  (b.ready.map (fun t => decide (t ≤ (q + 1) * s.time.tq + 2 * s.time.tps))).getD false

/-- The second part of quantum q of an input port: the whole quantum's channel values; the block leaves the port (R192). -/
def State.portSecond (s : State) (q : Nat) (acc : Tbl Int) (p : Nat) : State × Tbl Int :=
  let n := s.grpSlots (p / 8)
  let blk := (s.port p).blk q
  let ok := (blk.map (s.inTime q)).getD false
  let half := (s.port p).half == some q
  let s1 := if half && !ok then s.rxMissing p q else s
  let s2 := s1.each (List.range n) (fun t k => t.slotJudge p n q (!ok) [4, 5, 6, 7] k)
  let t := (s2.portValues p n q (!ok) (List.range 8)).foldl (fun t e => tset 0 t e.1 e.2) acc
  let late := (s2.port p).blocks.any (fun b => decide (b.q ≤ q) && b.ready.isSome && !(b.q == q && ok))
  let s3 := s2.setPort p { s2.port p with blocks := (s2.port p).blocks.filter (fun b => decide (q < b.q) || b.ready.isNone) }
  let s4 := if half && ok then s3.perfAdd 112 else s3
  (if late then s4.rxOverrun p else s4, t)

/-- The input ports that deliver quantum q (R197). -/
def State.inPorts (s : State) (q : Nat) : List Nat :=
  (List.range 64).filter (fun p => (s.port p).active && !s.portOut p && decide ((s.port p).first ≤ q))

/-- The input channels that active ports have in quantum q (R74): the active slots of their masks. -/
def State.portChannels (s : State) (q : Nat) : List Nat :=
  (s.inPorts q).flatMap (fun p =>
    (List.range (maskSlots (s.grpSlots (p / 8)) (s.port p).mask).length).map (fun r => 65536 + s.portBase p + r))

/-- The first parts of quantum q of all ports. -/
def State.portsFirst (s : State) (q : Nat) : State × Tbl Int := (s.inPorts q).foldl (fun a p => a.1.portFirst q a.2 p) (s, [])

/-- The second parts of quantum q of all ports, into what is known of the quantum. -/
def State.portsSecond (s : State) (q : Nat) (t : Tbl Int) : State × Tbl Int :=
  (s.inPorts q).foldl (fun a p => a.1.portSecond q a.2 p) (s, t)

/-! ### The boundary -/

/-- A port's enable takes effect at boundary n (R197): an enabled input delivers from the first quantum whose first frame edge follows, an
enabled output drives zeros up to quantum n, a disabled port is at high impedance. -/
def State.portEnableStep (s : State) (n p : Nat) : State :=
  let on := s.bit (Reg.PORT_CFG p) 31
  let v := s.port p
  if on = v.active then s
  else if on then
    let begun := ((s.grp (p / 8)).index.map (fun i => decide (8 * n ≤ i))).getD false
    s.setPort p { v with active := true, blocks := [], half := none, zeroOut := some n, first := n + b2n begun }
  else (s.setPort p { v with active := false, blocks := [], half := none, zeroOut := none, na := [] }).undrive p

/-- A group's re-alignment at boundary n: quantum n is muted, blocks are formed afresh from B(n + 1). GRP_DRIFT counts it after a drift and
after a loss (R195, R186), not after SYNC_IN or a restored divider (R202, R184). -/
def State.realign (s : State) (n g kind : Nat) : State :=
  let v := s.grp g
  let fresh := if kind ≠ 4 then some (n + 1) else none
  let s1 := s.setGrp g { v with due := none, muteQ := some n, freshAt := fresh }
  let ps := (grpPorts g).filter (fun p => (s1.port p).active)
  let s2 := s1.each ps (fun t p => (t.bump (Reg.PORT_CNT p 3)).perfAdd 115)
  if kind = 1 ∨ kind = 2 then (s2.bump (Reg.GRP_CNT g 2)).raise Reg.PORTS_INT_STATUS 4 else s2

/-- The re-alignments due at boundary n. -/
def State.groupStep (s : State) (n g : Nat) : State :=
  match (s.grp g).due with
  | some k => s.realign n g k
  | none => s

/-- A master group's divider is at the grid phase again (R183, R184): its frame edges move, so its frames are counted afresh. -/
def GrpSt.reload (v : GrpSt) : GrpSt := { v with ph := 0, index := none, pos := none }

/-- The divider of a master group restored at boundary n: a group whose edges this moves mutes one quantum, which in a step quantum is over
(R184, R259). -/
def State.restoreMaster (s : State) (n g : Nat) : State :=
  let v := s.grp g
  if s.grpMode g ≠ 1 ∨ v.ph = 0 then s
  else if v.freshAt.isSome then s.setGrp g v.reload
  else (s.setGrp g v.reload).realign n g 0

/-- The master dividers restored at a boundary (R184). -/
def State.restoreMasters (s : State) (n : Nat) : State :=
  if !s.ports.rephase || s.time.tickSrc != 0 then s
  else (s.onPorts (fun x => { x with rephase := false })).each (List.range 8) (fun t g => t.restoreMaster n g)

/-- The enables and disables that take effect at boundary n, before its stages start. -/
def State.portsEnable (s : State) (n : Nat) : State := s.each (List.range 64) (fun t p => t.portEnableStep n p)

/-- The re-alignments and restored dividers of boundary n. -/
def State.portsBoundary (s : State) (n : Nat) : State := (s.each (List.range 8) (fun t g => t.groupStep n g)).restoreMasters n

/-- The output samples of pin quantum n taken by the output stage (R193): ports named late have no block and drive zeros. -/
def State.portsOutput (s : State) (n : Nat) (out : Tbl Int) (late : List Nat) : State :=
  let outs := (List.range 64).filter (fun p => (s.port p).active && s.portOut p && !((s.port p).zeroOut.map (fun z => decide (n ≤ z))).getD false)
  let bad := outs.filter (fun p => late.contains p)
  let s1 := s.onPorts (fun x => { x with
    outQ := n, outPrev := if x.outQ + 1 = n then x.out else [], out := out
    outLate := bad.map (n, ·) ++ x.outLate.filter (fun e => e.1 + 1 == n) })
  let s2 := s1.perfAdd 112 (outs.length - bad.length)
  s2.each bad (fun t p => ((t.bump (Reg.PORT_CNT p 1)).perfAdd 113).raise Reg.PORTS_INT_STATUS 1)

/-- The port logic at an entry to a live mode (R204): groups and ports start afresh; masks written take effect. -/
def State.portsStart (s : State) : State :=
  let s1 := s.each (List.range 64) (fun t p =>
    t.setPort p { t.port p with
      active := false, mask := t.fld (Reg.PORT_MASK p) 15 0, tri := t.bit (Reg.PORT_CFG p) 29, pend := [], blocks := []
      na := [], half := none, zeroOut := none, first := 0 })
  (s1.setFld Reg.PORTS_CTRL 0 0 1).onPorts (fun x => { x with
    grp := [], out := [], outPrev := [], outLate := [], pins := [], last := [], pdmPh := 0 })

/-- The port logic when PORT loses its supply. -/
def State.portsStop (s : State) : State :=
  let s1 := s.each (List.range 64) (fun t p =>
    t.setPort p { t.port p with active := false, pend := [], blocks := [], na := [], half := none, zeroOut := none, first := 0 })
  (s1.setFld Reg.PORTS_CTRL 0 0 0).onPorts (fun x => { x with grp := [], out := [], outPrev := [], outLate := [], pins := [], last := [] })

/-- NONAUDIO_RELEASE of a port slot (R200): 4,096 samples without a preamble release the mute. -/
def State.naRelease (s : State) (p slot : Nat) : State :=
  let v := s.port p
  let a := tget NaSt.init v.na slot
  if a.muted ∧ 4096 ≤ a.count then s.setPort p { v with na := tset NaSt.init v.na slot { a with muted := false, fade := true } } else s

/-! ### SYNC_IN (R202) -/

/-- SYNC_IN on the PDM divider of group 7 (R174, R202). -/
def State.syncPdm (s : State) : State :=
  if s.ports.pdmPh = 0 then s
  else ((s.invalidateCapture 4 ((s.time.tick + s.time.tps - 1) / s.time.tps)).onPorts (fun x => { x with pdmPh := 0 })).noteMoved

/-- SYNC_IN on one group: the divider of a master group, and the PDM divider, go to their grid phase; a slave group's index is derived
afresh from its next frame edge. -/
def State.syncGroup (s : State) (g : Nat) : State :=
  let v := s.grp g
  if !s.bit (Reg.GRP_CFG g) 30 then s
  else if g = 7 ∧ s.owner 0x107 = 2 then s.syncPdm
  else if s.grpMode g = 2 then
    s.setGrp g { v with d := 0, rederive := v.index.isSome && v.freshAt.isNone && v.due.isNone }
  else if s.grpMode g = 1 ∧ v.ph ≠ 0 then
    ((s.setGrp g { v.reload with loaded := some s.time.tick }).realignDue g 4).noteMoved
  else s

/-- SYNC_IN_EDGE (R202, R255, R266): the groups, while PORT runs; then SYNC_IN as a servo reference and its regeneration. -/
def execSyncInEdge (rise : Bool) (s : State) : Host.Outcome State Fault Refusal :=
  if s.discards || !rise then .next s
  else
    let s1 := if s.portsRun then
        ((s.bump (Reg.PORTS_CNT 0)).onPorts (fun x => { x with syncMoved := false })).each (List.range 8) (fun t g => t.syncGroup g)
      else s
    .next ((s1.syncServo (s.time.tick - 2)).syncRegen)

end Sys2Proof.Machine
end

