-- ==== Sys2Proof/Machine/Streams.lean ====
section
/-! DEFINITION. The stream engine (R226 to R240): receiving packets into jitter buffers, input assembly, legs, output packets, and
what a boundary does to contexts. -/

namespace Sys2Proof.Machine

/-- A context. -/
def State.ctx (s : State) (c : Nat) : StreamCtx := tget StreamCtx.init s.net.ctx c

/-- The state with a context changed. -/
def State.setCtx (s : State) (c : Nat) (v : StreamCtx) : State := s.onNet (fun x => { x with ctx := tset StreamCtx.init x.ctx c v })

/-- A context counter advanced. -/
def State.ctxCnt (s : State) (c n : Nat) : State := s.bump (Reg.STR_CTX_CNT c n)

/-- Bytes per sample of a format: L16, L24, L32 (R226). -/
def formatBytes (f : Nat) : Nat := if f = 0 then 2 else if f = 1 then 3 else 4

/-- Samples in a packet time at 48 kHz. -/
def ptimeBase (p : Nat) : Nat :=
  match p with
  | 0 => 6 | 1 => 12 | 2 => 16 | _ => 48

/-- Samples in a context's packet time (R228). -/
def State.packetLen (s : State) (p : Nat) : Nat := ptimeBase p * (if s.time.rate96 then 2 else 1)

/-- Leg A (0) or B (1). -/
def StreamCtx.leg (v : StreamCtx) (l : Nat) : Leg := if l = 0 then v.legA else v.legB

/-- A context with a leg changed. -/
def StreamCtx.setLeg (v : StreamCtx) (l : Nat) (g : Leg) : StreamCtx := if l = 0 then { v with legA := g } else { v with legB := g }

/-- Whether a leg is in use: enabled, and leg B only when PAIRED (R226). -/
def StreamCtx.legOn (v : StreamCtx) (l : Nat) : Bool := if l = 0 then v.legAOn else v.legBOn && v.paired

/-- Whether the stream engine runs a context (R240). -/
def State.ctxRuns (s : State) (c : Nat) : Bool := (s.ctx c).running && s.bit Reg.STR_CTRL 0

/-! ### Receiving (R229 to R234) -/

/-- What a datagram carries as RTP: sequence, timestamp, payload; none for the header errors of R229. -/
def rtpOf (v : StreamCtx) (d : Bytes) : Option (Nat × Nat × Bytes) :=
  let b0 := u8At d 0
  let cc := 12 + 4 * (b0 % 16)
  let ext := if bitOf b0 4 then 4 + 4 * be16At d (cc + 2) else 0
  let pad := if bitOf b0 5 then u8At d (d.length - 1) else 0
  let bad := decide (d.length < 12) || b0 / 64 != 2 || (v.ptype != 0 && v.ptype != u8At d 1 % 128) || (v.ssrc != 0 && v.ssrc != be32At d 8)
  if bad then none else some (be16At d 2, be32At d 4, (d.drop (cc + ext)).take (d.length - cc - ext - pad))

/-- The media sample index of a timestamp (R230). -/
def State.rtpIndex (s : State) (v : StreamCtx) (t : Nat) : Int :=
  let now := s.time.sample
  (now : Int) + toSigned 32 ((t + 2 ^ 33 - v.offset - now % 2 ^ 32) % 2 ^ 32)

/-- Whether an input sample is in time: its packet ends at least 1 µs before the boundary at which its quantum's assembly starts
(R231). -/
def State.sampleInTime (s : State) (x : Int) : Bool :=
  let b := x / 8 + 1
  decide ((s.time.lastQ : Int) < b ∧ 1000 * (s.time.tick : Int) + 24576 ≤ 1000 * b * (s.time.tq : Int))

/-- The address of a sample of a jitter buffer (R230, R235). -/
def StreamCtx.cell (v : StreamCtx) (ch : Nat) (x : Int) : Nat :=
  let p := v.place.getD (0, 0)
  unitAddr p.1 + p.2 * 1024 + (ch * 2048 + (x % 2048).toNat) * 4

/-- A big-endian sample of a packet as Q1.31. -/
def sampleOf (b : Nat) (p : Bytes) : Int := toSigned 32 ((p.take b).foldl (fun n x => 256 * n + x.toNat) 0 * 2 ^ (32 - 8 * b))

/-- One frame of a packet written at a sample index. -/
def writeFrame (v : StreamCtx) (m : List Host.Cell) (x : Int) (f : Bytes) : List Host.Cell :=
  let b := formatBytes v.format
  (List.range v.chans).foldl (fun m ch => mwrite m (v.cell ch x) (leS32 (sampleOf b (f.drop (b * ch))))) m

/-- The frames of a packet whose slots are not yet marked written, marked (R233). -/
def State.writePacket (s : State) (c : Nat) (fs : List (Int × Bytes)) : State :=
  let v := s.ctx c
  let s1 := s.withMem (fs.foldl (fun m e => writeFrame v m e.1 e.2) s.mem)
  (s1.setCtx c { v with marks := v.marks ++ fs.map (·.1) }).ctxCnt c 0 |>.perfAdd 105

/-- STR_LATE or STR_PART_LATE counted. -/
def State.streamLate (s : State) (c n : Nat) : State := ((s.ctxCnt c n).raise Reg.STR_INT_STATUS 1).perfAdd 107

/-- The frames of a packet by input sample index (R230). -/
def packetFrames (v : StreamCtx) (x : Int) (p : Bytes) : List (Int × Bytes) :=
  let w := v.chans * formatBytes v.format
  let fs := entries w p
  ((List.range fs.length).map (fun (i : Nat) => x + (i : Int) + (v.link : Int))).zip fs

/-- A packet placed by its timestamp (R231 to R233). -/
def State.placePacket (s : State) (c : Nat) (fs : List (Int × Bytes)) : State :=
  let top := 8 * ((s.time.lastQ : Int) - 1) + 2048
  let last := ((fs.getLast?).map (·.1)).getD 0
  let good := fs.filter (fun e => s.sampleInTime e.1)
  if top ≤ last then (s.ctxCnt c 3).raise Reg.STR_INT_STATUS 2
  else if good.isEmpty then s.streamLate c 1
  else
    let new := good.filter (fun e => !(s.ctx c).marks.contains e.1)
    let s1 := if new.isEmpty then (s.ctxCnt c 7).perfAdd 109 else s.writePacket c new
    if good.length < fs.length then s1.streamLate c 2 else s1

/-- The sequence number of a packet on a leg: a gap is counted for the leg (R233). -/
def State.legSeq (s : State) (c l n : Nat) : State :=
  let v := s.ctx c
  let g := v.leg l
  let d := match g.seq with
    | none => 1
    | some o => (n + 65536 - o) % 65536
  let s1 := if d = 0 ∨ 32768 ≤ d then s else s.setCtx c (v.setLeg l { g with seq := some n })
  if 2 ≤ d ∧ d < 32768 then (s1.ctxCnt c (5 + l)).raise Reg.STR_INT_STATUS 7 else s1

/-- A leg delivers a packet: a leg that was down is up (R234). -/
def State.legAlive (s : State) (c l : Nat) : State :=
  let v := s.ctx c
  let g := v.leg l
  let s1 := s.setCtx c (v.setLeg l { g with up := true, idle := 0 })
  if g.up then s1 else (s1.raise Reg.STR_INT_STATUS 6).post 0x4003 (le8 c ++ le8 l)

/-- A datagram routed to a leg of a receive context (R219, R229 to R234). -/
def State.streamIn (s : State) (c l : Nat) (d : Bytes) : State :=
  let v := s.ctx c
  match rtpOf v d with
  | none => s.bump (Reg.STR_CNT 3)
  | some (n, t, p) =>
    let s0 := s.bump (Reg.STR_CNT 0)
    if !s.ctxRuns c then s0.ctxCnt c 8
    else
      let w := v.chans * formatBytes v.format
      if p.length % w ≠ 0 ∨ p.length < w ∨ 96 * w < p.length then s0.ctxCnt c 9
      else ((s0.legAlive c l).legSeq c l n).placePacket c (packetFrames v (s.rtpIndex v t) p)

/-- LEG_DOWN (R234): a running receive context's leg has delivered no packet in 64 quanta. -/
def execLegDown (ctx leg : Nat) (s : State) : Host.Outcome State Fault Refusal :=
  let v := s.ctx ctx
  let g := v.leg leg
  if 255 ≤ ctx ∨ 2 ≤ leg ∨ v.output ∨ !s.ctxRuns ctx ∨ !v.legOn leg ∨ !g.up ∨ g.idle < 64 then .next s
  else
    let s1 := s.setCtx ctx (v.setLeg leg { g with up := false })
    .next (((s1.ctxCnt ctx 11).raise Reg.STR_INT_STATUS 5).post 0x4002 (le8 ctx ++ le8 leg))

/-! ### Input assembly (R232, R234) -/

/-- The contexts that run in a direction. -/
def State.running (s : State) (output : Bool) : List Nat :=
  (s.net.ctx.filter (fun e => e.2.running && e.2.output == output && s.bit Reg.STR_CTRL 0)).map (·.1)

/-- The sample of a channel at an input index: zero when nothing was written, or its burst has failed (R232, R349). -/
def State.streamSample (s : State) (v : StreamCtx) (ch : Nat) (x : Int) : Int :=
  if v.marks.contains x && !v.lost.contains (ch, x) then toSigned 32 (u32At (mread s.mem (v.cell ch x) 4) 0) else 0

/-- Detection over a quantum of channel ch; the even channel of a pair gives Pa, the odd one Pb (R199, R234). -/
def State.chanJudge (s : State) (c q : Nat) (ch : Nat) : State :=
  let v := s.ctx c
  let e := ch / 2 * 2
  let raw := fun (j k : Nat) => s.streamSample v j (8 * (q : Int) + (k : Int))
  let xs := (List.range 8).map (fun k => (raw ch k, decide (e + 1 < v.chans) && isPa (raw e k) && isPb (raw (e + 1) k)))
  let (b, new) := (tget NaSt.init v.na ch).begin_.part xs
  let s1 := s.setCtx c { v with na := tset NaSt.init v.na ch b }
  if new then ((s1.ctxCnt c 10).perfAdd 116).raise Reg.STR_INT_STATUS 4 else s1

/-- The channel values of a context for quantum q. -/
def State.ctxValues (s : State) (c q : Nat) : List (Nat × Int) :=
  let v := s.ctx c
  (List.range v.chans).flatMap (fun ch => (List.range 8).map (fun k =>
    ((2 * 65536 + c * 64 + ch) * 8 + k, (tget NaSt.init v.na ch).deliver k (s.streamSample v ch (8 * (q : Int) + (k : Int))))))

/-- One context's input assembly of quantum q: values, underrun count, marks of the past dropped. -/
def State.assembleCtx (s : State) (q : Nat) (acc : Tbl Int) (c : Nat) : State × Tbl Int :=
  let v := s.ctx c
  let lacks := (List.range 8).any (fun k =>
    let x := 8 * (q : Int) + (k : Int)
    !v.marks.contains x || v.lost.any (fun e => e.2 == x))
  let s1 := if lacks then ((s.ctxCnt c 4).raise Reg.STR_INT_STATUS 0).perfAdd 108 else s
  let s2 := s1.each (List.range v.chans) (fun t ch => t.chanJudge c q ch)
  let t := (s2.ctxValues c q).foldl (fun t e => tset 0 t e.1 e.2) acc
  let w := s2.ctx c
  (s2.setCtx c { w with
    marks := w.marks.filter (fun x => decide (8 * (q : Int) + 8 ≤ x)), lost := w.lost.filter (fun e => decide (8 * (q : Int) + 8 ≤ e.2)) }, t)

/-- Input assembly of quantum q of all contexts, into what is known of the quantum. -/
def State.streamsAssemble (s : State) (q : Nat) (t : Tbl Int) : State × Tbl Int :=
  (s.running false).foldl (fun a c => a.1.assembleCtx q a.2 c) (s, t)

/-- The stream channels present (R74, R240). -/
def State.streamChannels (s : State) : List Nat :=
  (s.running false).flatMap (fun c => (List.range (s.ctx c).chans).map (fun ch => 2 * 65536 + c * 64 + ch))

/-- A quantum passes without a packet on the legs of a running receive context (R234). -/
def State.legsIdle (s : State) : State :=
  s.each (s.running false) (fun t c =>
    let v := t.ctx c
    t.setCtx c { v with legA := { v.legA with idle := v.legA.idle + 1 }, legB := { v.legB with idle := v.legB.idle + 1 } })

/-- NONAUDIO_RELEASE of a stream channel (R200). -/
def State.naReleaseCtx (s : State) (c ch : Nat) : State :=
  let v := s.ctx c
  let a := tget NaSt.init v.na ch
  if a.muted ∧ 4096 ≤ a.count then s.setCtx c { v with na := tset NaSt.init v.na ch { a with muted := false, fade := true } } else s

/-- NONAUDIO_RELEASE (R200) of a port slot or a stream channel. -/
def execNonaudioRelease (stream : Bool) (index slot : Nat) (s : State) : Host.Outcome State Fault Refusal :=
  if stream then (if index < 255 ∧ slot < 64 then .next (s.naReleaseCtx index slot) else .next s)
  else if index < 64 ∧ slot < 16 then .next (s.naRelease index slot) else .next s

/-! ### Output (R236 to R238) -/

/-- The ports an output context's leg leaves on (R226): under CHAIN leg A on both, under DUAL leg A on MAC0 and leg B on MAC1. -/
def State.legPorts (s : State) (v : StreamCtx) : List (Nat × Nat) :=
  if s.dual then (if v.legOn 0 then [(0, 0)] else []) ++ (if v.legOn 1 then [(1, 1)] else [])
  else if v.legOn 0 then [(0, 0), (0, 1)] else []

/-- The key of an output sample. -/
def outKey (c ch x : Nat) : Nat := (c * 64 + ch) * 2 ^ 48 + x

/-- A sample in a context's format, big-endian (R149, R227). -/
def packSample (b : Nat) (x : Int) : Bytes := beBytes b (ofSigned (8 * b) (narrowOut (8 * b) x / 2 ^ (32 - 8 * b)))

/-- The sample data of a packet: n frames from index p, channels in order. -/
def State.packetData (s : State) (c : Nat) (v : StreamCtx) (p n : Nat) : Bytes :=
  (List.range n).flatMap (fun i => (List.range v.chans).flatMap (fun ch =>
    packSample (formatBytes v.format) (tget 0 s.net.outSmp (outKey c ch (p + i)))))

/-- The RTP packet of a run (R30, R236). -/
def State.rtpPacket (s : State) (c : Nat) (v : StreamCtx) (p n : Nat) : Bytes :=
  beBytes 1 0x80 ++ beBytes 1 v.ptype ++ beBytes 2 (v.seq0 + p / n) ++ beBytes 4 (p + v.offset) ++ beBytes 4 v.ssrc ++ s.packetData c v p n

/-- The frame of a packet on a leg and port (R236). -/
def State.mediaFrame (s : State) (v : StreamCtx) (l m : Nat) (rtp : Bytes) (seq : Nat) : Bytes :=
  let g := v.leg l
  let src := if g.src = 0 then (s.mac m).ip else g.src
  let dst := if ipMulticast g.dst then multicastMac g.dst else g.arp
  etherHeader dst (s.macAddr m) v.vlan 0x0800 ++ ipHeader (4 * v.dscp) (28 + rtp.length) (seq % 65536) v.ttl src g.dst
    ++ udpDatagram src g.dst g.sport g.dport rtp

/-- A packet queued on its ports, or withheld by the Mirror gate (R237, R238). -/
def State.sendCopies (s : State) (v : StreamCtx) (rtp : Bytes) (seq : Nat) : State :=
  s.each (s.legPorts v) (fun t e =>
    if t.mir.gateOpen then ((t.bump (Reg.STR_CNT 1)).perfAdd 106).txQueue e.2 1 ⟨padFrame (t.mediaFrame v e.1 e.2 rtp seq), none, none, .media⟩
    else (t.bump (Reg.STR_CNT 2)).perfAdd 110)

/-- The samples of a run that was sent are dropped. -/
def State.dropRun (s : State) (c chans p n : Nat) : State :=
  s.onNet (fun x => { x with outSmp := x.outSmp.filter (fun e =>
    !decide (outKey c 0 0 ≤ e.1 ∧ e.1 < outKey c chans 0 ∧ e.1 % 2 ^ 48 < p + n)) })

/-- One context sends its packet when its run is due: at the instant of index p + n (R237). -/
def State.sendPacket (s : State) (c : Nat) : State :=
  let v := s.ctx c
  let n := s.packetLen v.ptime
  let p := v.nextP
  if s.time.sample < p + n then s
  else
    let s1 := s.sendCopies v (s.rtpPacket c v p n) (v.seq0 + p / n)
    (s1.setCtx c { v with nextP := p + n }).dropRun c v.chans p n

/-- STREAM_PACKET_SEND (R237): every running output context with a due run queues its packet, in ascending context ID. -/
def execStreamPacketSend (s : State) : Host.Outcome State Fault Refusal :=
  .next (s.each (s.running true) (fun t c => t.sendPacket c))

/-- The samples of pin quantum n kept for the contexts' packets; contexts named late send zeros (R24, R237). `value` gives the sample of
a destination channel. -/
def State.streamsOutput (s : State) (n : Nat) (value : Nat → Nat → Int) (late : List Nat) : State :=
  s.each (s.running true) (fun t c =>
    let v := t.ctx c
    if late.contains c then ((t.ctxCnt c 4).raise Reg.STR_INT_STATUS 3).perfAdd 108
    else
      let put := fun (ch : Nat) (u : Tbl Int) (k : Nat) => tset 0 u (outKey c ch (8 * n + k)) (value (c * 64 + ch) k)
      let all := fun (u : Tbl Int) (ch : Nat) => (List.range 8).foldl (put ch) u
      t.onNet (fun x => { x with outSmp := (List.range v.chans).foldl all x.outSmp }))

/-! ### Starting and stopping (R235, R240) -/

/-- The first multiple of n at or after x. -/
def nextMultiple (n x : Nat) : Nat := (x + n - 1) / n * n

/-- A context starts at boundary n. -/
def State.ctxStart (s : State) (n c : Nat) : State :=
  let v := s.ctx c
  let up := fun (l : Nat) (g : Leg) => { g with up := !v.output && v.legOn l, seq := none, idle := 0 }
  s.setCtx c { v with
    running := true, marks := [], lost := [], na := [], legA := up 0 v.legA, legB := up 1 v.legB, nextP := nextMultiple (s.packetLen v.ptime) (8 * n) }

/-- A context stops: its samples and marks go. -/
def State.ctxStop (s : State) (c : Nat) : State :=
  let v := s.ctx c
  let down := fun (g : Leg) => { g with up := false, seq := none, idle := 0 }
  (s.setCtx c { v with running := false, marks := [], lost := [], na := [], legA := down v.legA, legB := down v.legB }).dropRun c 64 0 (2 ^ 48)

/-- The jitter buffers placed: unit, KiB offset, KiB size. -/
def State.buffers (s : State) : List (Nat × Nat × Nat) :=
  s.net.ctx.filterMap (fun e => e.2.place.map (fun p => (p.1, p.2, 8 * e.2.chans)))

/-- Whether `size` KiB from an offset of a unit are free. -/
def State.bufferFree (s : State) (u off size : Nat) : Bool :=
  decide (off + size ≤ 2048) && s.buffers.all (fun b => b.1 != u || decide (b.2.1 + b.2.2 ≤ off ∨ off + size ≤ b.2.1))

/-- Room for a jitter buffer in a unit that already holds some (R235). -/
def State.bufferRoom (s : State) (size : Nat) : Option (Nat × Nat) :=
  let units := (s.ddrc.alloc.filter (fun e => e.2 == regionTag 6 0)).map (·.1)
  (units.flatMap (fun u => (List.range 256).map (fun k => (u, 8 * k)))).find? (fun p => s.bufferFree p.1 p.2 size && !s.unitRetired p.1)

/-- A jitter buffer placed for a receive context (R235). -/
def State.placeBuffer (s : State) (c : Nat) : Option State :=
  let v := s.ctx c
  match s.bufferRoom (8 * v.chans) with
  | some p => some (s.setCtx c { v with place := some p })
  | none => (s.place 6 0 1).map (fun e => e.2.setCtx c { e.2.ctx c with place := some (e.1, 0) })

/-- A jitter buffer freed, with its unit when it held the last one. -/
def State.freeBuffer (s : State) (c : Nat) : State :=
  match (s.ctx c).place with
  | none => s
  | some p =>
    let s1 := s.setCtx c { s.ctx c with place := none }
    if s1.buffers.any (fun b => b.1 == p.1) then s1
    else (s1.onDdrc (fun x => { x with alloc := tdel x.alloc p.1 })).onPrism (fun x => { x with epoch := x.epoch + 1 })

/-- The output contexts that STREAM_ENABLE turned on start at boundary n, before its quantum goes to the outputs: their first run begins at or
after sample 8n, which is serialised from there on (R240). -/
def State.streamsFirst (s : State) (n : Nat) : State :=
  s.each (s.net.ctx.map (·.1)) (fun t c =>
    let v := t.ctx c
    if v.enabled && !v.running && v.output then t.ctxStart n c else t)

/-- The states of STREAM_ENABLE take effect at boundary n of a live mode (R240); a context that stops frees its buffer. -/
def State.streamsBoundary (s : State) (n : Nat) : State :=
  s.each (s.net.ctx.map (·.1)) (fun t c =>
    let v := t.ctx c
    if v.enabled && !v.running then t.ctxStart n c else if !v.enabled && v.running then (t.ctxStop c).freeBuffer c else t)

/-- Every context stops (leaving a live mode). -/
def State.streamsStop (s : State) : State := s.each (s.net.ctx.map (·.1)) (fun t c => t.ctxStop c)

/-- A time step: the runs that the jump cuts are not sent; the contexts go on from boundary n. -/
def State.streamsStep (s : State) (n : Nat) : State :=
  (s.each (s.running true) (fun t c =>
    let v := t.ctx c
    t.setCtx c { v with nextP := nextMultiple (t.packetLen v.ptime) (8 * n) })).onNet (fun x => { x with outSmp := [] })

end Sys2Proof.Machine
end

