-- ==== Sys2Proof/Machine/Net.lean ====
section
/-! DEFINITION. A received frame (R208, R209, R211, R218, R219): judging, forwarding and local delivery; the ARP answers a STREAM_ENABLE
waits for (R240). -/

namespace Sys2Proof.Machine

/-- Whether a port accepts an address for local delivery (R218). -/
def State.accepts (s : State) (m a : Nat) : Bool :=
  a == s.macAddr m || a == broadcast ||
    (isMulticast a && s.bit (Reg.MAC_MHASH m (hashBit a / 32)) (hashBit a % 32))

/-- Whether an EtherType is one the port delivers (R209). -/
def State.knownType (s : State) (m ty : Nat) : Bool :=
  [0x0800, 0x0806, 0x88F7, 0x88CC].contains ty || (s.mac m).filters.any (fun e => e.1 == 0 && e.2.2 == ty)

/-- Local delivery is on. -/
def State.localOn (s : State) (m : Nat) : Bool := s.bit (Reg.MAC_CTRL m) 6

/-- The core cycle in which a received frame began to arrive. -/
def State.rxStart (s : State) (x : RxMeta) : Nat := 50 * (s.time.eventTick - x.ago) + x.cyc % 50

/-- The counter under which a received frame is dropped, if it is (R208, R209, R212); the free space of the receive buffer is that of its
first byte. -/
def State.rxBad (s : State) (m : Nat) (x : RxMeta) (f : Bytes) : Option Nat :=
  let len := f.length + 4
  if 65536 < s.rxHeld m (s.rxStart x) + len then some 7
  else if len ≤ 63 then some 1
  else if 9216 < len ∨ (1522 < len ∧ !s.jumbo m) then some 2
  else if x.fcsBad then some 3
  else if x.alignBad then some 4
  else if be16At f 12 = 0x8808 then some 6
  else if s.accepts m (etherDst f) ∧ s.localOn m ∧ !s.knownType m (etherType f).1 then some 5
  else none

/-! ### Forwarding (R211, R213, R215) -/

/-- Whether a message is one of the Pdelay messages. -/
def isPdelay (f : Bytes) : Bool := [some 2, some 3, some 10].contains (ptpType f)

/-- Whether an intact frame is forwarded (R211, R215, R217). -/
def State.forwards (s : State) (m : Nat) (f : Bytes) : Bool :=
  !s.dual && s.bit (Reg.MAC_CTRL m) 3 && etherDst f != s.macAddr m && !isLinkLocal (etherDst f)
    && !(s.tcP2p m && isPdelay f)

/-- The queue of a forwarded frame (R213). -/
def forwardQueue (f : Bytes) : Nat :=
  if (ptpOffset f).isSome then 0
  else match ipHead f with
    | some ip => if ip.dscp = 34 ∨ ip.dscp = 46 then 1 else 2
    | none => 2

/-- An intact frame forwarded to the other port. -/
def State.forward (s : State) (m : Nat) (x : RxMeta) (f : Bytes) : State :=
  s.txQueue (1 - m) (forwardQueue f) ⟨f, some (s.coreStamp x.ago (x.cyc % 50) (Reg.TS_RX_ADJ m)), none, .no⟩

/-! ### Local delivery (R218) -/

/-- Where an accepted frame goes. -/
inductive Dest where
  | ptp | ipBad
  | stream (ctx leg : Nat)
  | scene (l : Listener) (own : Bool)
  | follow
  | status
  | ring (r : Nat)
  | noMatch
  deriving DecidableEq, Repr

/-- Whether a datagram is for a leg of a context (R218, R226). -/
def legTakes (g : Leg) (ip : IpHead) (u : UdpHead) : Bool :=
  g.dst == ip.dst && g.dport == u.dport && (g.src == 0 || g.src == ip.src) && (g.sport == 0 || g.sport == u.sport)

/-- The receive context and leg a datagram on port m is for: leg A on either port under CHAIN, each leg on its own under DUAL. -/
def State.streamLeg (s : State) (m : Nat) (ip : IpHead) (u : UdpHead) : Option (Nat × Nat) :=
  let legs := if s.dual then [m] else [0]
  s.net.ctx.findSome? (fun e =>
    if e.2.isSet && !e.2.output then (legs.find? (fun l => e.2.legOn l && legTakes (e.2.leg l) ip u)).map (fun l => (e.1, l)) else none)

/-- The scene listener a datagram reaches (R70). Of several with one address and port, which R70 does not speak of, an enabled one comes
before a disabled one, and then the lower index (DESIGN CHOICE, notes/assumptions/59). -/
def State.listenerFor (s : State) (ip port : Nat) : Option Listener :=
  let mine := (s.scene.listeners.filter (fun e => e.2.ip == ip && e.2.port == port)).map (·.2)
  (mine.find? (·.enable)).orElse (fun _ => mine.head?)

/-- The destination of a UDP datagram among rows 3 and 4 of R218, the manager's scene group (R445) and its status port (R446). -/
def State.udpDest (s : State) (m : Nat) (ip : IpHead) (u : UdpHead) : Option Dest :=
  match s.streamLeg m ip u with
  | some (c, l) => some (.stream c l)
  | none =>
    if s.isSceneGroup ip.dst u.dport ∧ !s.leads then some .follow
    else match s.listenerFor ip.dst u.dport with
      | some l => some (.scene l (s.isSceneGroup ip.dst u.dport))
      | none => if s.hier.role = 1 ∧ u.dport = s.hier.statusPort then some .status else none

/-- The ring a host filter entry names for a frame (row 5). -/
def State.filterRing (s : State) (m : Nat) (f : Bytes) : Option Nat :=
  let port := (udpOf f).map (fun e => e.2.dport)
  ((s.mac m).filters.find? (fun e => if e.1 = 0 then e.2.2 == (etherType f).1 else port == some e.2.2)).map (fun e => e.2.1)

/-- Row 6 of R218: ARP, ICMP, IGMP, LLDP, or IPv4 to the port's own address. -/
def State.isControl (s : State) (m : Nat) (f : Bytes) : Bool :=
  let ty := (etherType f).1
  ty == 0x0806 || ty == 0x88CC || (match ipHead f with
    | some ip => ip.proto == 1 || ip.proto == 2 || ip.dst == (s.mac m).ip
    | none => false)

/-- The first destination an accepted frame matches (R218). -/
def State.dest (s : State) (m : Nat) (f : Bytes) : Dest :=
  if (ptpOffset f).isSome then .ptp
  else if ipBad f then .ipBad
  else match (udpOf f).bind (fun e => s.udpDest m e.1 e.2) with
    | some d => d
    | none =>
      match s.filterRing m f with
      | some r => .ring r
      | none => if s.isControl m f then .ring 1 else .noMatch

/-- The payload of a datagram. -/
def udpData (f : Bytes) : Bytes := ((udpOf f).map (fun e => e.2.data)).getD []

/-- The IPv4 source of a frame. -/
def ipSource (f : Bytes) : Nat := ((ipHead f).map (·.src)).getD 0

/-! ### ARP answers (R240) -/

/-- An ARP answer resolves the legs that wait for its address. -/
def State.arpLearn (s : State) (ip eth : Nat) : State :=
  match s.net.arpWait with
  | none => s
  | some w =>
    let got := w.need.filter (fun e => e.2.2 == ip)
    let s1 := s.each got (fun t e => t.setCtx e.1 ((t.ctx e.1).setLeg e.2.1 { (t.ctx e.1).leg e.2.1 with arp := eth }))
    s1.onNet (fun x => { x with arpWait := some { w with need := w.need.filter (fun e => e.2.2 != ip) } })

/-- A frame stored on a ring, at the time it was stamped; firmware reads PTP messages from the PTP ring, and ARP answers from the control
ring. -/
def State.ringFrame (s : State) (m r : Nat) (x : RxMeta) (f : Bytes) : State :=
  let t := s.rxStamp m x.ago (x.cyc % 50)
  let (s1, ok) := s.rxToRing m r t f
  if ok ∧ r = 0 then s1.ptpHear m t f
  else match ok && r == 1, arpAnswer f with
    | true, some (ip, eth) => s1.arpLearn ip eth
    | _, _ => s1

/-- An accepted frame delivered (R218, R219). -/
def State.deliver (s : State) (m : Nat) (x : RxMeta) (f : Bytes) : State :=
  match s.dest m f with
  | .ptp => s.ringFrame m 0 x f
  | .ipBad => s.macCnt m 10
  | .stream c l => s.streamIn c l (udpData f)
  | .scene l own => s.toListener own l (udpData f)
  | .follow => s.followScene (udpData f)
  | .status => s.statusFrame m (be48At f 6) (ipSource f) (udpData f)
  | .ring r => s.ringFrame m r x f
  | .noMatch => s.macCnt m 9

/-- An intact frame: counted, forwarded, delivered. -/
def State.frameIntact (s : State) (m : Nat) (x : RxMeta) (f : Bytes) : State :=
  let s1 := (s.macCnt m 0).perfAdd (96 + m)
  let s2 := if s1.forwards m f then s1.forward m x f else s1
  if !s2.accepts m (etherDst f) then s2
  else if !s2.localOn m then s2.macCnt m 8
  else s2.deliver m x f

end Sys2Proof.Machine
end

