-- ==== Sys2Proof/Machine/NetCmds.lean ====
section
/-! DEFINITION. The network and stream commands (R207, R218, R226, R239 to R241, R413, R414, R524), FRAME_RECEIVED and ARP_TIMEOUT. -/

namespace Sys2Proof.Machine

/-! ### Modes, addresses, filters, status -/

/-- NET_MODE_SET applied to a port. -/
def State.netModePort (s : State) (p : Bytes) (m : Nat) : State :=
  let c := Reg.MAC_CTRL m
  let chain := u8At p 0 = 0
  ((((s.setFld c 1 1 (b2n (!chain))).setFld c 2 2 (b2n (bitOf (u8At p 1) m))).setFld c 3 3 (b2n chain)).setFld c 4 4
    (u8At p 2 % 2)).setFld c 5 5 (u8At p 2 / 2 % 2)

/-- NET_MODE_SET (R207). -/
def cmdNetModeSet : CmdDef := mkCmd 0x4001 [.park] (lenIs 4) (fun _ p s =>
  checked s [(decide (1 < u8At p 0), Resp.errF stRange 0), (decide (3 < u8At p 1), Resp.errF stRange 1)]
    (s.each [0, 1] (fun t m => t.netModePort p m), Resp.ok))

/-- One port record of R524 applied. -/
def State.netAddrPort (s : State) (p : Bytes) (m : Nat) : State :=
  let e := slice p (16 * m) 16
  let s1 := (s.wr (Reg.MAC_ADDR_HI m) (be16At e 0)).wr (Reg.MAC_ADDR_LO m) (be32At e 2)
  s1.onMac m (fun v => { v with ip := u32At e 8, prefixLen := u8At e 12 })

/-- NET_ADDR_SET (R524). -/
def cmdNetAddrSet : CmdDef := mkCmd 0x4002 modesCfg (lenIs 32) (fun _ p s =>
  checked s [(decide (32 < u8At p 12), Resp.err stRange 0 12), (decide (32 < u8At p 28), Resp.err stRange 1 28)]
    (s.each [0, 1] (fun t m => t.netAddrPort p m), Resp.ok))

/-- What is wrong with a filter entry: its kind, 0 EtherType or 1 UDP port, or its ring, 2 host or 3 spare. -/
def filterBad (i : Nat) (e : Bytes) : Option Resp :=
  firstBad [(decide (1 < u8At e 0), Resp.err stRange i (2 + 4 * i)), (decide (u8At e 1 < 2 ∨ 3 < u8At e 1), Resp.err stRange i (3 + 4 * i))]

/-- NET_FILTER_SET (R218). -/
def cmdNetFilterSet : CmdDef := mkCmd 0x4003 modesCfg (fun p => p.length == 2 + 4 * u8At p 1 && decide (2 ≤ p.length)) (fun _ p s =>
  let es := entries 4 (p.drop 2)
  checked s [(decide (1 < u8At p 0), Resp.errF stRange 0), (decide (8 < u8At p 1), Resp.errF stRange 1)]
    (checkedEntries s es filterBad
      (s.onMac (u8At p 0) (fun v => { v with filters := es.map (fun e => (u8At e 0, u8At e 1, u16At e 2)) }), Resp.ok)))

/-- Whether forwarding runs on a port (MAC_STATUS.FWD_ACTIVE). -/
def State.forwarding (s : State) (m : Nat) : Bool := s.macOn m && !s.dual && s.bit (Reg.MAC_CTRL m) 3

/-- The flags of NET_STATUS_GET. -/
def State.netFlags (s : State) (m : Nat) : Nat :=
  b2n (s.mac m).linkUp + 2 * b2n (s.mac m).failed + 4 * b2n (s.forwarding m) + 8 * b2n s.dual

/-- NET_STATUS_GET. -/
def cmdNetStatusGet : CmdDef := mkCmd 0x4004 modesAny (lenIs 4) (fun _ p s =>
  let m := u8At p 0
  checked s [(decide (1 < m), Resp.errF stRange 0)]
    (if bitOf (u8At p 1) 0 then s.wr (Reg.MAC_INT_STATUS m) 0 else s,
      Resp.ok (le8 (s.netFlags m) ++ zeros 3 ++ (List.range 20).flatMap (fun n => le32 (s.rd (Reg.MAC_CNT m n))))))

/-! ### Host frames (R413, R414) -/

/-- The oldest frame of the host ring: its record and bytes, and the descriptors it takes. -/
def State.oldestFrame (s : State) (m : Nat) : Option (Bytes × Bytes × Nat) :=
  let size := s.ringLen (Reg.RX_RING_CFG m 2)
  let held := size - s.rxFree m 2
  if held = 0 ∨ !s.bit (Reg.RX_RING_CFG m 2) 31 then none
  else
    let i := (tget 0 (s.mac m).head 2 + s.rxFree m 2) % size
    let rec_ := mread s.mem (s.arrayAt (Reg.RX_RING_TS m 2) i) 16
    let len := u16At rec_ 12
    let n := (len + s.ringFill m 2 - 1) / s.ringFill m 2
    let piece := fun (k : Nat) =>
      let d := mread s.mem (s.arrayAt (Reg.RX_RING_DESC m 2) ((i + k) % size)) 16
      mread s.mem (u64At d 0 % 2 ^ 40) (u16At d 8)
    some (rec_, (List.range n).flatMap piece, n)

/-- A byte string padded to a multiple of 4. -/
def pad4 (p : Bytes) : Bytes := p ++ zeros ((4 - p.length % 4) % 4)

/-- Frames moved from the host ring while they fit in `room` bytes: the state, the frames moved, their bytes. -/
def State.hostFrames (s : State) (m room : Nat) : Nat → State × Nat × Bytes
  | 0 => (s, 0, [])
  | k + 1 =>
    match s.oldestFrame m with
    | none => (s, 0, [])
    | some (r, f, n) =>
      let b := r ++ pad4 f
      if room < b.length then (s, 0, [])
      else
        let (s1, c, d) := (s.rxReturn m 2 n).hostFrames m (room - b.length) k
        (s1, c + 1, b ++ d)

/-- Whether the oldest frame cannot fit the whole buffer. -/
def State.hostTooLong (s : State) (m len : Nat) : Bool :=
  match s.oldestFrame m with
  | none => false
  | some (r, f, _) => decide (len < (r ++ pad4 f).length)

/-- NET_HOST_RX (R413). -/
def cmdNetHostRx : CmdDef := mkBulk 0x4005 modesCfg (lenIs 16) (fun _ p s =>
  let m := u8At p 0
  let b := bufAt p 4
  checked s [(decide (1 < m), Resp.errF stRange 0), (!s.bufOk b, Resp.errF stRange 4), (s.hostTooLong m b.len, Resp.errF stRange 12)]
    (let (s1, n, d) := s.hostFrames m b.len 4096
     (s1.bufWrite b d, Resp.ok (le16 n ++ zeros 2 ++ le32 d.length))))

/-- The frames of a NET_HOST_TX buffer in order; a frame that runs beyond the buffer, or whose length may not be sent, is given by its
index and offset. -/
def hostTxFrames (maxLen : Nat) (d : Bytes) (i o : Nat) : Nat → List Bytes ⊕ (Nat × Nat)
  | 0 => .inl []
  | k + 1 =>
    if d.length ≤ o then .inl []
    else
      let n := u16At d o
      if n = 0 ∨ maxLen < n ∨ d.length < o + 4 + n ∨ 64 ≤ i then .inr (i, o)
      else match hostTxFrames maxLen d (i + 1) (o + 4 + (n + 3) / 4 * 4) k with
        | .inl l => .inl (slice d (o + 4) n :: l)
        | .inr e => .inr e

/-- NET_HOST_TX (R414): the frames go to transmit ring 1 in order (R218). -/
def cmdNetHostTx : CmdDef := mkBulk 0x4006 modesCfg (lenIs 16) (fun _ p s =>
  let m := u8At p 0
  let b := bufAt p 4
  checked s [(decide (1 < m), Resp.errF stRange 0), (!s.bufOk b, Resp.errF stRange 4), (decide (b.len = 0), Resp.errF stRange 12)]
    (match hostTxFrames (s.txMax m) (s.bufRead b b.len) 0 0 65 with
     | .inr (i, o) => (s, Resp.err stRange i o)
     | .inl l => ((s.onMac m (fun v => { v with hostTx := v.hostTx ++ l })).hostSend m, Resp.ok (le16 l.length ++ zeros 2))))

/-- The range checks of MDIO_ACCESS. -/
def mdioChecks (p : Bytes) : List (Bool × Resp) :=
  [ (decide (1 < u8At p 0), Resp.errF stRange 0), (u8At p 1 != 22 && u8At p 1 != 45, Resp.errF stRange 1)
  , (decide (1 < u8At p 2), Resp.errF stRange 2), (decide (31 < u8At p 3), Resp.errF stRange 3), (decide (31 < u16At p 4), Resp.errF stRange 4)
  , (u8At p 1 == 22 && decide (31 < u16At p 6), Resp.errF stRange 6) ]

/-- MDIO_ACCESS (R206): what an external PHY answers to a read is an open value. -/
def cmdMdioAccess : CmdDef := mkCmd 0x4007 modesCfg (lenIs 10) (fun _ p s =>
  checked s (mdioChecks p)
    (if u8At p 2 = 0 then (s.fresh, Resp.ok (le16 (Config.freeNat s.freeCnt))) else (s, Resp.ok (le16 0))))

/-! ### Contexts -/

/-- The leg at a byte offset of the record of R226. -/
def legAt (p : Bytes) (i : Nat) : Leg := { Leg.init with dst := u32At p i, src := u32At p (i + 4), dport := u16At p (i + 8), sport := u16At p (i + 10) }

/-- The context a STREAM_SET payload describes. -/
def ctxAt (p : Bytes) : StreamCtx :=
  let f := u8At p 5
  { StreamCtx.init with
    isSet := true, output := u8At p 1 == 1, chans := u8At p 2, format := u8At p 3, ptime := u8At p 4, paired := bitOf f 0, legAOn := bitOf f 1
    legBOn := bitOf f 2, link := u16At p 6, offset := u32At p 8, ssrc := u32At p 12, ptype := u8At p 16, dscp := u8At p 17, ttl := u8At p 18
    vlan := u16At p 20, seq0 := u16At p 22, legA := legAt p 24, legB := legAt p 36 }

/-- The ports a context uses. -/
def State.ctxPorts (s : State) (v : StreamCtx) : List Nat :=
  if s.dual then (if v.legOn 0 then [0] else []) ++ (if v.legOn 1 then [1] else []) else [0, 1]

/-- The most channels a context may have (R228). -/
def State.chanLimit (s : State) (v : StreamCtx) : Nat :=
  let limit := if (s.ctxPorts v).all s.jumbo then 8192 else 1440
  min 64 (limit / (formatBytes v.format * s.packetLen v.ptime))

/-- The longest link offset (R226). -/
def State.linkMax (s : State) : Nat := if s.time.rate96 then 768 else 384

/-- The range checks of STREAM_SET (R226, R228, R241). -/
def State.streamChecks (s : State) (p : Bytes) : List (Bool × Resp) :=
  let v := ctxAt p
  let r := fun (o : Nat) => Resp.errF stRange o
  [ (u8At p 0 == 255, r 0), (decide (1 < u8At p 1), r 1), (decide (2 < v.format), r 3), (decide (3 < v.ptime), r 4)
  , (!s.dual && (v.paired || v.legBOn), r 5), (decide (v.chans = 0 ∨ s.chanLimit v < v.chans), r 2)
  , (if v.output then v.link != 0 else decide (v.link < s.packetLen v.ptime ∨ s.linkMax < v.link), r 6)
  , (!decide (96 ≤ v.ptype ∧ v.ptype ≤ 127) && (v.output || v.ptype != 0), r 16), (v.output && decide (63 < v.dscp), r 17)
  , (v.output && v.ttl == 0, r 18) ]

/-- Whether two legs are the same for R226: destination, destination port and source filter. -/
def sameLeg (a b : Leg) : Bool := a.dst == b.dst && a.dport == b.dport && a.src == b.src

/-- The legs in use of a receive context. -/
def StreamCtx.rxLegs (v : StreamCtx) : List Leg :=
  if v.output || !v.isSet then [] else (if v.legOn 0 then [v.legA] else []) ++ (if v.legOn 1 then [v.legB] else [])

/-- Another configured context with a leg of this one (R226). -/
def State.legClash (s : State) (c : Nat) (v : StreamCtx) : Option Nat :=
  (s.net.ctx.find? (fun e => e.1 != c && e.2.rxLegs.any (fun a => v.rxLegs.any (sameLeg a)))).map (·.1)

/-- STREAM_SET (R226). -/
def cmdStreamSet : CmdDef := mkCmd 0x4010 modesCfg (lenIs 48) (fun _ p s =>
  let c := u8At p 0
  let v := ctxAt p
  let old := s.ctx c
  checked s (s.streamChecks p ++ [(old.enabled || old.running, Resp.errS stState)])
    (match s.legClash c v with
     | some k => (s, Resp.resource 0xFFFF 0 k)
     | none => ((s.each (v.rxLegs.map (·.dst)) (fun t ip => t.hashIn ip)).setCtx c v, Resp.ok)))

/-- The load a context puts on a port in bit/s × its packet length (R239). -/
def State.ctxLoad (s : State) (v : StreamCtx) : Nat :=
  let n := s.packetLen v.ptime
  let frame := 18 + (if v.vlan % 4096 = 0 then 0 else 4) + 40 + v.chans * formatBytes v.format * n
  (max 64 frame + 20) * 8 * s.time.fs / n

/-- The scheduled load of a port for a set of enabled output contexts (R239). -/
def State.portLoad (s : State) (cs : List StreamCtx) (m : Nat) : Nat :=
  cs.foldl (fun t v => t + (if (s.legPorts v).any (fun e => e.2 == m) then s.ctxLoad v else 0)) 0

/-- Bit c of a 32-byte mask. -/
def maskBit (p : Bytes) (o c : Nat) : Bool := bitOf (u8At p (o + c / 8)) (c % 8)

/-- The contexts a STREAM_ENABLE turns on, or off. -/
def State.turned (s : State) (p : Bytes) (on : Bool) : List Nat :=
  (List.range 255).filter (fun c => maskBit p 0 c && maskBit p 32 c == on && (s.ctx c).enabled != on)

/-- The output contexts that are enabled. -/
def State.sending (s : State) : List StreamCtx := (s.net.ctx.filter (fun e => e.2.enabled && e.2.output)).map (·.2)

/-- The output contexts that would be enabled. -/
def State.wouldSend (s : State) (p : Bytes) : List StreamCtx :=
  let on := s.turned p true
  let off := s.turned p false
  ((List.range 255).filter (fun c => ((s.ctx c).enabled && !off.contains c) || on.contains c)).map s.ctx |>.filter (·.output)

/-- The jitter buffers of the receive contexts turned on, placed (R235). -/
def State.placeBuffers (s : State) : List Nat → Option State
  | [] => some s
  | c :: cs =>
    if (s.ctx c).output || (s.ctx c).place.isSome then s.placeBuffers cs
    else match s.placeBuffer c with
      | none => none
      | some t => t.placeBuffers cs

/-- The states recorded; a context that does not run gives its buffer up at once. -/
def State.setEnables (s : State) (p : Bytes) : State :=
  let s1 := s.each (s.turned p true) (fun t c => t.setCtx c { t.ctx c with enabled := true })
  s1.each (s.turned p false) (fun t c =>
    let t1 := t.setCtx c { t.ctx c with enabled := false }
    if (t.ctx c).running then t1 else t1.freeBuffer c)

/-- STREAM_ENABLE checked whole and applied, without ARP (R239, R240): an enable that raises the scheduled load of a port above 9.0 Gbit/s is
refused. -/
def State.enableStreams (s : State) (p : Bytes) : State × Resp :=
  let cs := s.wouldSend p
  match (s.turned p true).find? (fun c => !(s.ctx c).isSet) with
  | some c => (s, Resp.err stState c 0)
  | none =>
    if (List.range 2).any (fun m => decide (9000000000 < s.portLoad cs m ∧ s.portLoad s.sending m < s.portLoad cs m)) then (s, Resp.errS stBudget)
    else match s.placeBuffers (s.turned p true) with
      | none => (s, Resp.resource 0xFFFF 0 0xFFFF)
      | some t => (t.setEnables p, Resp.ok)

/-- The unicast legs of the output contexts turned on: context, leg, address. -/
def State.arpNeed (s : State) (p : Bytes) : List (Nat × Nat × Nat) :=
  ((s.turned p true).filter (fun c => (s.ctx c).output)).flatMap (fun c =>
    ([0, 1].filter (fun l => (s.ctx c).legOn l && !ipMulticast ((s.ctx c).leg l).dst)).map (fun l => (c, l, ((s.ctx c).leg l).dst)))

/-- The ARP queries of a leg, on the ports it leaves on. -/
def State.arpAsk (s : State) (e : Nat × Nat × Nat) : State :=
  s.each ((s.legPorts (s.ctx e.1)).filter (fun x => x.1 == e.2.1)) (fun t x =>
    if t.netReady x.2 then t.sendOwn x.2 2 (arpQuery (t.macAddr x.2) (t.mac x.2).ip e.2.2) else t)

/-- STREAM_ENABLE (R240): with a unicast leg to resolve, the command waits for the answers. -/
def cmdStreamEnable : CmdDef := mkCmd 0x4011 modesCfg (lenIs 64) (fun h p s =>
  if maskBit p 0 255 then (s, Resp.errF stRange 31)
  else
    let r := s.enableStreams p
    let need := s.arpNeed p
    if r.2.status ≠ stOk ∨ need.isEmpty then r
    else ((s.each need (fun t e => t.arpAsk e)).onNet (fun x => { x with arpWait := some ⟨h, p, need⟩ }), ⟨stPending, []⟩))

/-- The value of STR_CTXc. -/
def StreamCtx.word (v : StreamCtx) : Nat :=
  b2n v.running * 2 ^ 31 + b2n v.output * 2 ^ 30 + b2n v.paired * 2 ^ 29 + b2n v.legA.up * 2 ^ 28 + b2n v.legB.up * 2 ^ 27
    + v.chans * 2 ^ 16 + v.format * 2 ^ 14 + v.link

/-- STREAM_STATUS_GET. -/
def cmdStreamStatusGet : CmdDef := mkCmd 0x4012 modesAny (lenIs 4) (fun _ p s =>
  let c := u8At p 0
  let n := u8At p 1
  let one := fun (i : Nat) => le32 (s.ctx (c + i)).word ++ (List.range 12).flatMap (fun k => le16 (s.rd (Reg.STR_CTX_CNT (c + i) k)))
  checked s [(decide (254 < c), Resp.errF stRange 0), (decide (n = 0 ∨ 8 < n ∨ 255 < c + n), Resp.errF stRange 1)]
    (if bitOf (u8At p 2) 0 then s.wr Reg.STR_INT_STATUS 0 else s, Resp.ok ((List.range n).flatMap one)))

/-! ### Answers to ARP -/

/-- The waiting STREAM_ENABLE ends: with every leg resolved it is checked again and takes effect, otherwise nothing is enabled and the
first context without an answer is named (R240). -/
def State.arpEnd (s : State) : State :=
  match s.net.arpWait with
  | none => s
  | some w =>
    let s1 := s.onNet (fun x => { x with arpWait := none })
    match w.need with
    | e :: _ => s1.respond w.hdr 0x4011 w.payload (Resp.err stState e.1 0)
    | [] =>
      let (s2, r) := s1.enableStreams w.payload
      s2.respond w.hdr 0x4011 w.payload r

/-- ARP_TIMEOUT (R240): 1 s without an answer. -/
def execArpTimeout (s : State) : Host.Outcome State Fault Refusal := .next s.arpEnd

/-- A STREAM_ENABLE whose last leg was resolved ends. -/
def State.arpReady (s : State) : State :=
  match s.net.arpWait with
  | some w => if w.need.isEmpty then s.arpEnd else s
  | none => s

/-- FRAME_RECEIVED (R208 to R219): a frame received whole on a port, without its FCS. -/
def execFrameReceived (mac : Nat) (m : RxMeta) (frame : Bytes) (s : State) : Host.Outcome State Fault Refusal :=
  if !s.macOn mac ∨ !(s.mac mac).linkUp then .next s
  else
    let s1 := s.forgetLeft mac (s.rxStart m)
    match s1.rxBad mac m frame with
    | some k => .next (s1.macCnt mac k)
    | none => .next (s1.frameIntact mac m frame).arpReady

/-- NET_MODE_SET (R207). -/
def execNetModeSet (h : Hdr) (p : Bytes) (s : State) : Host.Outcome State Fault Refusal := cmdNetModeSet.exec h p s
/-- NET_ADDR_SET (R524). -/
def execNetAddrSet (h : Hdr) (p : Bytes) (s : State) : Host.Outcome State Fault Refusal := cmdNetAddrSet.exec h p s
/-- NET_FILTER_SET (R218). -/
def execNetFilterSet (h : Hdr) (p : Bytes) (s : State) : Host.Outcome State Fault Refusal := cmdNetFilterSet.exec h p s
/-- NET_STATUS_GET (R241). -/
def execNetStatusGet (h : Hdr) (p : Bytes) (s : State) : Host.Outcome State Fault Refusal := cmdNetStatusGet.exec h p s
/-- NET_HOST_RX (R413). -/
def execNetHostRx (h : Hdr) (p : Bytes) (s : State) : Host.Outcome State Fault Refusal := cmdNetHostRx.exec h p s
/-- NET_HOST_TX (R414). -/
def execNetHostTx (h : Hdr) (p : Bytes) (s : State) : Host.Outcome State Fault Refusal := cmdNetHostTx.exec h p s
/-- MDIO_ACCESS (R206). -/
def execMdioAccess (h : Hdr) (p : Bytes) (s : State) : Host.Outcome State Fault Refusal := cmdMdioAccess.exec h p s
/-- STREAM_SET (R226). -/
def execStreamSet (h : Hdr) (p : Bytes) (s : State) : Host.Outcome State Fault Refusal := cmdStreamSet.exec h p s
/-- STREAM_ENABLE (R240). -/
def execStreamEnable (h : Hdr) (p : Bytes) (s : State) : Host.Outcome State Fault Refusal := cmdStreamEnable.exec h p s
/-- STREAM_STATUS_GET (R241). -/
def execStreamStatusGet (h : Hdr) (p : Bytes) (s : State) : Host.Outcome State Fault Refusal := cmdStreamStatusGet.exec h p s

end Sys2Proof.Machine
end

