-- ==== Sys2Proof/Machine/Boot.lean ====
section
/-! DEFINITION. Boot (R371 to R376), firmware update (R377, R378), the debug lock (R379, R380), and the start of forwarding, firmware and
the network (R216, R219, R392). The resets themselves are in Machine/Resets.lean. -/

namespace Sys2Proof.Machine

/-! ### Boot records (R372) -/

/-- What a valid boot record says: its active slot (0 A, 1 B), read mode, TRIAL flag and sequence number. -/
structure BootRec where
  active : Nat
  mode : Nat
  trial : Bool
  seq : Nat
  deriving DecidableEq, Repr

/-- A boot record's bytes; a record with a wrong magic or CRC is not valid. What an active slot byte above 1 names is open. -/
def bootRecOf (b : Bytes) : Option BootRec :=
  if u32At b 0 = 0x52424B4D ∧ u32At b 12 = crc32 (b.take 12) then
    some ⟨if u8At b 4 < 2 then u8At b 4 else b2n (Config.freeBool (u8At b 4)), u8At b 5, bitOf (u8At b 6) 0, u32At b 8⟩
  else none

/-- Boot record k of the flash. -/
def State.bootRecAt (s : State) (k : Nat) : Option BootRec := bootRecOf (mread s.flash (0x1000 * k) 16)

/-- The valid record with the higher sequence number, with its place. -/
def State.bootRec (s : State) : Option (Nat × BootRec) :=
  match s.bootRecAt 0, s.bootRecAt 1 with
  | some a, some b => if a.seq < b.seq then some (1, b) else some (0, a)
  | some a, none => some (0, a)
  | none, some b => some (1, b)
  | none, none => none

/-- The active slot: A without a valid record. -/
def State.activeSlot (s : State) : Nat := (s.bootRec.map (·.2.active)).getD 0

/-- The TRIAL flag of the active record. -/
def State.trialFlag (s : State) : Bool := (s.bootRec.map (·.2.trial)).getD false

/-- The flash address of an image slot. -/
def slotAddr (slot : Nat) : Nat := 0x100000 + 0x200000 * slot

/-- The bytes of a boot record. -/
def bootRecBytes (slot mode seq : Nat) (trial : Bool) : Bytes :=
  let b := le32 0x52424B4D ++ le8 slot ++ le8 mode ++ le8 (b2n trial) ++ le8 0 ++ le32 seq
  b ++ le32 (crc32 b)

/-- Firmware writes the record it is not using (R372), with the sequence incremented. -/
def State.writeBootRec (s : State) (slot : Nat) (trial : Bool) : State :=
  let k := (s.bootRec.map (fun e => 1 - e.1)).getD 0
  let mode := (s.bootRec.map (·.2.mode)).getD 0
  let seq := (s.bootRec.map (·.2.seq)).getD 0 + 1
  (s.withFlash (mwrite s.flash (0x1000 * k) (bootRecBytes slot mode seq trial)))

/-! ### Images (R373, R374) -/

/-- Check 1 of R374: magic, version, body length and entry in range. -/
def imageHeaderOk (h : Bytes) : Bool :=
  let len := u32At h 12
  u32At h 0 == 0x57464B4D && u16At h 4 == 1 && decide (4 ≤ len ∧ len ≤ 1572864) && len % 4 == 0 && decide (u32At h 16 < len)

/-- Whether a public key is that of an OTP key slot: the slot is not revoked and holds the key's hash. -/
def State.keyOk (s : State) (slot : Nat) (key : Bytes) : Bool :=
  decide (slot < 4) && !tget false s.sec.keyRevoked slot && sha256 key == tget (zeros 32) s.sec.keyHash slot

/-- The boot error code of the first check of R374 that an image fails; 0 when it is valid. -/
def State.imageError (s : State) (h : Bytes) (body : Nat → Bytes) : Nat :=
  if !imageHeaderOk h then 3
  else if !s.keyOk (u8At h 6) (slice h 64 64) then 4
  else if !ecdsaOk (slice h 64 64) (slice h 128 64) (h.take 128) then 5
  else if sha256 (body (u32At h 12)) != slice h 32 32 then 5
  else if u32At h 8 < s.sec.floor then 6
  else 0

/-- The header of the image in a flash slot. -/
def State.slotHeader (s : State) (slot : Nat) : Bytes := mread s.flash (slotAddr slot) 256

/-- The first n bytes of the body of the image in a flash slot. -/
def State.slotBody (s : State) (slot n : Nat) : Bytes := mread s.flash (slotAddr slot + 256) n

/-- The boot error code of the image in a flash slot. -/
def State.slotError (s : State) (slot : Nat) : Nat := s.imageError (s.slotHeader slot) (s.slotBody slot)

/-- The base of control TCM (R516). -/
def tcmBase : Nat := 0x08000000

/-- A verified image in place at the TCM base, started (R374, R376): boot slot 0 A, 1 B, 2 host; its versions are those SYS_INFO
reports. -/
def State.enterImage (s : State) (slot : Nat) (trial : Bool) (h body : Bytes) : State :=
  let s1 := s.withMem (mwrite s.mem tcmBase body)
  let s2 := s1.onSys (fun x => { x with
    imageEntered := true, hostBootWait := false, bootTry := none, bootErr := 0, bootSlot := slot, imgVersion := u32At h 20
    imgSecVersion := u32At h 8, trialRunning := trial })
  s2.noteDev s

/-! ### The boot ROM (R371, R375, R376) -/

/-- The boot ROM starts (R371): from the flash, the active slot first, or the other after a failed trial; or from the host. -/
def State.bootStart (s : State) : State :=
  if s.sys.straps.bootSrc && !s.sys.straps.hostIf then
    (s.onSys (fun x => { x with hostBootWait := true, bootTry := none })).noteDev s
  else
    let first := if s.trialFlag && s.sys.trialFailed then 1 - s.activeSlot else s.activeSlot
    s.onSys (fun x => { x with bootTry := some first })

/-- No slot yields a valid image (R375): the error of the last slot tried, or 7 with no valid record; then the host, or BOOT. -/
def State.bootFailed (s : State) (code : Nat) : State :=
  let e := if s.bootRec.isNone then 7 else code
  (s.onSys (fun x => { x with bootTry := none, bootErr := e, hostBootWait := !s.sys.straps.hostIf })).noteDev s

/-- IMAGE_LOAD_DONE (R374, R375): the boot ROM has loaded a slot; `bad` when a flash read failed twice. The slot tried second is
counted from 2. -/
def execImageLoadDone (bad : Bool) (s : State) : Host.Outcome State Fault Refusal :=
  match s.sys.bootTry with
  | none => .next s
  | some t =>
    if s.sys.phase ≠ .running then .next s
    else
      let slot := t % 2
      let e := if bad then 2 else s.slotError slot
      if e = 0 then
        let h := s.slotHeader slot
        .next (s.enterImage slot (s.trialFlag && slot == s.activeSlot) h (s.slotBody slot (u32At h 12)))
      else if t < 2 then .next (s.onSys (fun x => { x with bootTry := some (3 - slot) }))
      else .next (s.bootFailed e)

/-- BOOT_GO of a host boot (R376): the image in TCM is checked, moved to the TCM base and started, or refused with its error. -/
def State.bootGo (s : State) (h : Hdr) : State :=
  let hd := mread s.mem tcmBase 256
  let e := s.imageError hd (mread s.mem (tcmBase + 256))
  if e = 0 then
    (s.enterImage 2 false hd (mread s.mem (tcmBase + 256) (u32At hd 12))).respondUnrecorded { h with notify := false } 0x0001 Resp.ok
  else s.respondUnrecorded { h with notify := false } 0x0001 (Resp.auth e)

/-- BOOT_GO once firmware runs: no mode is its own. -/
def cmdBootGo : CmdDef := mkCmd 0x0001 [] (lenIs 0) (fun _ _ s => (s, Resp.errS stMode))

/-- BOOT_GO (R376): the boot ROM alone acts on it, while it waits for it. -/
def execBootGo (h : Hdr) (p : Bytes) (s : State) : Host.Outcome State Fault Refusal :=
  if s.sys.phase = .running ∧ s.sys.hostBootWait ∧ p = [] then .next (s.bootGo h) else cmdBootGo.exec h p s

/-- FIRMWARE_START (R370, R392, R362): firmware runs, the watchdog starts, the masters of the running domains are unmasked, NET is powered
and the first DRAM sweep starts. -/
def execFirmwareStart (s : State) : Host.Outcome State Fault Refusal :=
  if s.sys.phase ≠ .running ∨ !s.sys.imageEntered ∨ s.sys.fwRunning ∨ s.sys.romInSafe then .next s
  else
    let s1 := s.onSys (fun x => { x with fwRunning := true, wdtRunning := true, wdtTick := s.time.eventTick })
    let s2 := (s1.setPwr (s1.sys.pwr ||| 256)).onXbar (fun x => { x with resetMask := x.resetMask &&& 0x200 })
    let s3 := ((s2.setFld Reg.DDRC_CTRL 0 0 1).setFld Reg.SCHED_CTRL 0 0 1).onTime (fun x => { x with ddrLock := true })
    .next ((s3.startSweep 0 []).noteDev s)

/-! ### The network (R216, R219) -/

/-- The links that have block lock; a port whose lane has none yet is polled (R210). -/
def State.trainLinks (s : State) (locked : Nat) : State :=
  s.each [0, 1] (fun t m => if (t.mac m).linkUp || !bitOf locked m then t else t.setLink m true)

/-- CHAIN_BOOT_FORWARD (R216): with CHAIN_EN strapped, both lanes, forwarding and the transparent clock run before firmware; bit m of
`locked`: port m has block lock. -/
def execChainBootForward (locked : Nat) (s : State) : Host.Outcome State Fault Refusal :=
  if s.sys.phase ≠ .running ∨ !s.sys.straps.chainEn ∨ bitOf s.sys.pwr 8 then .next s
  else
    let s1 := (s.setPwr (s.sys.pwr ||| 256)).onTime (fun x => { x with sdLock := true })
    .next (s1.trainLinks locked)

/-- The multicast addresses firmware has both ports accept from the start of the network (R218): the PTP groups. -/
def ptpGroups : List Nat := [0xE0000181, 0xE000006B]

/-- The Ethernet groups of PTP over Layer 2 that firmware has both ports accept from then on (R215, R219, R247; PRESUMED, IEEE 1588-2019
Annex E): 01-1B-19-00-00-00 and 01-80-C2-00-00-0E. -/
def ptpEthers : List Nat := [0x011B19000000, 0x0180C200000E]

/-- Firmware starts a port: its lane, and local delivery. -/
def State.startPort (s : State) (m : Nat) : State := ((s.setFld (Reg.MAC_CTRL m) 0 0 1).setFld (Reg.MAC_CTRL m) 6 6 1).portOn m

/-- NETWORK_START (R219): firmware starts the network: both ports run and deliver, the stream engine runs. -/
def execNetworkStart (locked : Nat) (s : State) : Host.Outcome State Fault Refusal :=
  if s.sys.phase ≠ .running ∨ !s.sys.fwRunning ∨ s.sys.netUp ∨ !bitOf s.sys.pwr 8 then .next s
  else
    let s1 := (s.onTime (fun x => { x with sdLock := true })).each [0, 1] (fun t m => t.startPort m)
    let s2 := ((s1.each ptpGroups (fun t a => t.hashIn a)).each ptpEthers (fun t a => t.hashEther a)).setFld Reg.STR_CTRL 0 0 1
    .next ((s2.trainLinks locked).onSys (fun x => { x with netUp := true }))

/-! ### Firmware update (R377, R378) -/

/-- The staging that is in progress. -/
def State.stagingNow (s : State) : Option Staging := s.sec.staging.filter (fun g => g.state == 1)

/-- Whether a chunk's total length, or the chunk itself, is out of range (R377, R388). -/
def State.stageRange (s : State) (off total : Nat) (b : Buf) : Option Resp :=
  if 1573120 < total ∨ (off ≠ 0 ∧ (s.stagingNow.map (·.total)).getD total ≠ total) then some (Resp.errF stRange 4)
  else if !s.bufOk b then some (Resp.errF stRange 8)
  else if off ≠ 0 ∧ some off ≠ s.stagingNow.map (·.got) then none
  else if total < off + b.len then some (Resp.errF stRange 16)
  else none

/-- A chunk taken for programming; at offset 0 a new staging starts. -/
def State.stageChunk (s : State) (h : Hdr) (off total : Nat) (d : Bytes) : State :=
  let n := s.sec.stagings
  let g : Staging := match s.stagingNow with
    | some g => if off = 0 then ⟨n, 1 - s.activeSlot, total, 0, 0, 1, 0, 0, 0⟩ else g
    | none => ⟨n, 1 - s.activeSlot, total, 0, 0, 1, 0, 0, 0⟩
  (s.newJob h 0x0010 1).onSec (fun x => { x with
    staging := some { g with got := off + d.length }, stagings := if off = 0 then n + 1 else n
    chunks := x.chunks ++ [⟨g.num, h, off, d⟩] })

/-- FW_STAGE (R377). -/
def cmdFwStage : CmdDef := mkBulk 0x0010 modesAny (lenIs 20) (fun h p s =>
  let off := u32At p 0
  let total := u32At p 4
  let b := bufAt p 8
  match s.stageRange off total b with
  | some r => (s, r)
  | none =>
    checked s [(s.sys.bootSlot == 2 && !s.sec.flashFitted, Resp.errS stState),
        (off != 0 && some off != s.stagingNow.map (·.got), Resp.errF stOrder 0)]
      (s.stageChunk h off total (s.bufRead b b.len), Resp.accepted))

/-- A staging whose last chunk is programmed is checked under R374 (R377). -/
def State.stageCheck (s : State) (g : Staging) : State :=
  let e := s.slotError g.slot
  let h := s.slotHeader g.slot
  s.onSec (fun x => { x with
    staging := some { g with state := if e = 0 then 2 else 3, failCode := e, version := u32At h 20, secVersion := u32At h 8 } })

/-- A programmed chunk counts for the staging it belongs to. -/
def State.stageCount (s : State) (c : StageChunk) : State :=
  match s.sec.staging with
  | none => s
  | some g =>
    if g.num ≠ c.num then s
    else
      let g1 := { g with programmed := c.off + c.data.length }
      let s1 := s.onSec (fun x => { x with staging := some g1 })
      if g1.programmed = g1.total then s1.stageCheck g1 else s1

/-- FLASH_PROGRAM_DONE (R377): the oldest staged chunk is programmed, and its completion follows. -/
def execFlashProgramDone (s : State) : Host.Outcome State Fault Refusal :=
  match s.sec.chunks with
  | [] => .next s
  | c :: cs =>
    let slot := ((s.sec.staging.map (·.slot)).getD (1 - s.activeSlot))
    let s1 := s.withFlash (mwrite s.flash (slotAddr slot + c.off) c.data)
    let s2 := (s1.onSec (fun x => { x with chunks := cs })).stageCount c
    .next (s2.pieceDone? (s2.jobOf 0x0010 c.hdr) stOk (le32 (c.off + c.data.length)))

/-- FW_COMMIT (R378). -/
def cmdFwCommit : CmdDef := mkCmd 0x0011 modesAny (lenIs 4) (fun _ p s =>
  match s.sec.staging with
  | some g =>
    if g.state = 2 then
      ((s.writeBootRec g.slot true).onSec (fun x => { x with raiseFloor := bitOf (u8At p 0) 0 }), Resp.ok)
    else (s, Resp.errS stState)
  | none => (s, Resp.errS stState))

/-- The 16 bytes of FW_STATUS. -/
def State.fwStatus (s : State) : Bytes :=
  let g : Staging := s.sec.staging.getD ⟨0, 1 - s.activeSlot, 0, 0, 0, 0, 0, 0, 0⟩
  le8 g.state ++ le8 g.failCode ++ le8 g.slot ++ le8 (b2n s.trialFlag) ++ le32 g.got ++ le32 g.version ++ le32 g.secVersion

/-- FW_STATUS. -/
def cmdFwStatus : CmdDef := mkCmd 0x0012 modesAny (lenIs 0) (fun _ _ s => (s, Resp.ok s.fwStatus))

/-! ### The debug lock (R379, R380) -/

/-- Why the debug commands answer ERR_AUTH: 10 DISABLED, 9 the attempt limit. -/
def State.debugRefused (s : State) : Option Resp :=
  if s.sec.debugState = 2 then some (Resp.auth 10) else if 3 ≤ s.sec.unlockFails then some (Resp.auth 9) else none

/-- A fresh nonce: 16 open bytes. -/
def State.freshNonce (s : State) : Bytes := (List.range 16).map (fun i => Config.freeByte (16 * s.freeCnt + i))

/-- DEBUG_CHALLENGE (R380). -/
def cmdDebugChallenge : CmdDef := mkCmd 0x0018 modesAny (lenIs 0) (fun _ _ s =>
  match s.debugRefused with
  | some r => (s, r)
  | none => (s.fresh.onSec (fun x => { x with nonce := some s.freshNonce }), Resp.ok (s.freshNonce ++ le64 s.sec.uniqueId)))

/-- Whether a DEBUG_UNLOCK payload answers the outstanding nonce: slot 0, signature 4, key 68. -/
def State.unlockOk (s : State) (p : Bytes) : Bool :=
  match s.sec.nonce with
  | none => false
  | some n => s.keyOk (u8At p 0) (slice p 68 64) && ecdsaOk (slice p 68 64) (slice p 4 64) (n ++ le64 s.sec.uniqueId)

/-- DEBUG_UNLOCK (R380): a nonce serves one attempt. -/
def cmdDebugUnlock : CmdDef := mkCmd 0x0019 modesAny (lenIs 132) (fun _ p s =>
  match s.debugRefused with
  | some r => (s, if 3 < u8At p 0 then Resp.errF stRange 0 else r)
  | none =>
    if 3 < u8At p 0 then (s, Resp.errF stRange 0)
    else
      let s1 := s.onSec (fun x => { x with nonce := none })
      if s.unlockOk p then ((s1.onSec (fun x => { x with unlocked := true })).noteDev s, Resp.ok)
      else (s1.onSec (fun x => { x with unlockFails := x.unlockFails + 1 }), Resp.auth 8))

/-! ### SYS_INFO (R397) -/

/-- The 32 bytes of SYS_INFO. -/
def State.sysInfo (s : State) : Bytes :=
  let t := s.sys.straps
  le32 0x961000B0 ++ le8 (b2n s.sys.orderIL) ++ le8 s.sys.mode.code
    ++ le8 (b2n t.bootSrc + 2 * b2n t.hostIf + 4 * b2n t.chainEn + 8 * b2n t.failSafe) ++ le8 (s.sec.debugState + 128 * b2n s.sec.unlocked)
    ++ le32 s.sys.imgVersion ++ le8 s.sys.imgSecVersion ++ le8 s.sec.floor ++ le8 s.sys.bootSlot ++ le8 (if s.sys.dram8 then 8 else 4)
    ++ le64 s.sec.uniqueId ++ zeros 8

/-- SYS_INFO (R397). -/
def cmdSysInfo : CmdDef := mkCmd 0x0002 modesAll (lenIs 0) (fun _ _ s => (s, Resp.ok s.sysInfo))

/-- SYS_INFO (R397). -/
def execSysInfo (h : Hdr) (p : Bytes) (s : State) : Host.Outcome State Fault Refusal := cmdSysInfo.exec h p s
/-- FW_STAGE (R377). -/
def execFwStage (h : Hdr) (p : Bytes) (s : State) : Host.Outcome State Fault Refusal := cmdFwStage.exec h p s
/-- FW_COMMIT (R378). -/
def execFwCommit (h : Hdr) (p : Bytes) (s : State) : Host.Outcome State Fault Refusal := cmdFwCommit.exec h p s
/-- FW_STATUS (R377). -/
def execFwStatus (h : Hdr) (p : Bytes) (s : State) : Host.Outcome State Fault Refusal := cmdFwStatus.exec h p s
/-- DEBUG_CHALLENGE (R380). -/
def execDebugChallenge (h : Hdr) (p : Bytes) (s : State) : Host.Outcome State Fault Refusal := cmdDebugChallenge.exec h p s
/-- DEBUG_UNLOCK (R380). -/
def execDebugUnlock (h : Hdr) (p : Bytes) (s : State) : Host.Outcome State Fault Refusal := cmdDebugUnlock.exec h p s

end Sys2Proof.Machine
end

