-- ==== Sys2Proof/Machine/SchedRows.lean ====
section
/-! DEFINITION. The channel mover of insert tasks (R292, R293), missed deadlines (R24, R25), and the meanings of the
scheduler's own commands (chapter 11). -/

namespace Sys2Proof.Machine

/-! ### Channel areas (R292, R293) -/

/-- The key of sample k of a channel. -/
def chanKey (ty idx k : Nat) : Nat := (ty * 65536 + idx) * 8 + k

/-- The eight values of a channel area entry at fill: an input channel, a bus for an in-place entry, zeros for an output. -/
def State.fillValues (s : State) (e : Nat × Nat × Nat) : List Int :=
  (List.range 8).map (fun k =>
    if e.1 = 1 then 0
    else if e.2.1 = 5 then tget 0 s.pipe.busIns (e.2.2 * 8 + k)
    else tget 0 s.pipe.rawIns (chanKey e.2.1 e.2.2 k))

/-- Fills one entry of a channel area. -/
def State.fillEntry (s : State) (t : FTask) (e : Nat × (Nat × Nat × Nat)) : State :=
  s.withMem (mwrite s.mem (areaAddr t e.1) ((s.fillValues e.2).flatMap leS32))

/-- Whether insert tasks of an attachment run: the stage is on, a live mode, the Facet domain powered. -/
def State.stageRuns (s : State) (attach : Nat) : Bool :=
  (if attach = 0 then s.time.objInsert else s.time.busInsert) && bitOf s.sys.pwr 6 && s.sys.fatal.isNone
    && (s.sys.mode == .measure || s.sys.mode == .render || s.sys.mode == .mirror)

/-- The enabled insert tasks whose first quantum has come, in task ID order. -/
def State.liveInserts (s : State) : List (Nat × FTask) :=
  s.sched.tasks.filter (fun (e : Nat × FTask) => e.2.enabled && e.2.armed && e.2.insert && s.stageRuns e.2.attach)

/-- Fills the channel area of one task and releases its instance (R293, R313). -/
def State.releaseTask (s : State) (e : Nat × FTask) : State :=
  let s1 := s.each e.2.list (fun u x => u.fillEntry e.2 x)
  let s2 := s1.setTask e.1 { e.2 with yielded := false }
  match e.2.slot with
  | none => s2
  | some slot => if ((s2.item? slot).map (·.use)) = some .rtReserved then s2.makeReady slot 0 else s2

/-- RT_RELEASE (R313): at the end of the fill window the channel areas hold the quantum's samples, and the RT instances are
released in task ID order. -/
def execRtRelease (s : State) : Host.Outcome State Fault Refusal :=
  if s.bit Reg.SCHED_CTRL 0 then
    .next ((s.each s.liveInserts (fun u e => u.releaseTask e)).onSched (fun x => { x with rtReleased := true }))
  else .next s

/-! ### Deadlines (R24, R25, R293) -/

/-- The cut-off of one task (R293): an instance that has not executed YIELD is terminated and counted; the outputs are
collected. -/
def State.cutTask (s : State) (e : Nat × FTask) : State :=
  let t := s.task e.1
  let s1 := match t.slot with
    | none => s
    | some slot =>
      match s.item? slot with
      | none => s
      | some i => if i.use == SlotUse.rtReserved then s else ((s.noteUsed t.core i).terminateItem slot i 1).missDeadline e.1
  let s2 := if t.yielded then s1.setTask e.1 { s1.task e.1 with misses := 0 } else s1
  s2.each t.list (fun u x => u.collectEntry t t.yielded x)

/-- CUT_OFF (R293): the mover starts to collect output and in-place entries. -/
def execCutOff (s : State) : Host.Outcome State Fault Refusal :=
  if s.sched.rtReleased then
    .next ((s.each s.liveInserts (fun u e => u.cutTask e)).onSched (fun x => { x with rtReleased := false }))
  else .next s

/-- FACET_OVERRUN (R294): the resident instance of a core has been charged its declared cycles, waits included; it ends as if
it had missed its deadline, counted as both. -/
def execFacetOverrun (core : Nat) (s : State) : Host.Outcome State Fault Refusal :=
  match s.resident core with
  | none => .next s
  | some slot =>
    match s.item? slot with
    | none => .next s
    | some i =>
      match s.facetLimit i with
      | none => .next s
      | some l => .next (s.facetOverrun core slot { i with ctx := { i.ctx with charged := max l i.ctx.charged } })

/-! ### Dispatch, resume, timers, events (R306 to R318) -/

/-- TASK_DISPATCH (R308): one dispatch decision; `lat` is the number of core cycles since the item was ready. -/
def execTaskDispatch (lat : Nat) (s : State) : Host.Outcome State Fault Refusal := .next (s.dispatchNext lat)

/-- An instance that the restore has charged its declared cycles ends at once (R294, R295). -/
def State.resumeLimit (s : State) (n : Nat) : State :=
  match s.resident n with
  | none => s
  | some slot =>
    match s.item? slot with
    | none => s
    | some i => if s.spentOut i then s.facetOverrun n slot i else s

/-- RESUME (R309): a core restores its highest context. -/
def execResumeI (core : Nat) (s : State) : Host.Outcome State Fault Refusal :=
  .next (if core < 8 then (s.resumeCore core).resumeLimit core else s)

/-- TIMER_EXPIRY (R315): a tick edge of a delay list. -/
def execTimerExpiry (list : Nat) (s : State) : Host.Outcome State Fault Refusal :=
  .next (if list < 4 then s.refillOlder.listTickEdge list else s)

/-- The servers of an EVENT item: server 8 for a firmware item, the core mask of a Facet task. -/
def State.eventMask (s : State) (task : Option Nat) : Nat :=
  match task with
  | none => 256
  | some t => (s.task t).mask

/-- EVENT_ITEM (R317): a new EVENT item of firmware, with its level and flow, or an enabled timed or background Facet task that firmware
starts, at the level and flow the task was set to (R302, R304). -/
def execEventItem (task : Option Nat) (level : Nat) (flow : Option Nat) (arg : Bytes) (s : State) :
    Host.Outcome State Fault Refusal :=
  let ok := match task with
    | none => true
    | some t => (s.task t).enabled && !(s.task t).insert
  let lvl := match task with
    | none => level
    | some t => (s.task t).level
  let fl := match task with
    | none => flow
    | some t => (s.task t).flow
  if ok && decide (2 ≤ lvl ∧ lvl ≤ 7) && s.sys.fwRunning then .next (s.newEvent ⟨task, lvl, fl, s.eventMask task, arg, false⟩)
  else .next s

/-- FIRMWARE_ITEM_COMPLETE (R308): firmware finishes the item on server 8. -/
def execFirmwareItemComplete (s : State) : Host.Outcome State Fault Refusal :=
  match s.resident 8 with
  | none => .next s
  | some slot =>
    match s.item? slot with
    | none => .next s
    | some i => .next (s.completeItem slot i)

/-! ### The observation block (R321) -/

/-- Latches the window of one server. Means whose rounding the spec does not state round as Config.roundUp says; the mean wait of
no items is open. -/
def State.latchObs (s : State) (n : Nat) : State :=
  let o := tget Obs.init s.sched.obs n
  let dt := max 1 (s.time.eventTick - s.sched.obsStart)
  let mean := fun (kind num den : Nat) => num / den + (if num % den = 0 then 0 else b2n (Config.roundUp kind (num * 2 ^ 64 + den)))
  let depth := min 65535 (mean 30 (o.area * 256) dt)
  let ns := if o.started = 0 then Config.freeNat s.freeCnt else mean 31 (o.waited * 15625) (o.started * 384)
  if s.sys.orderIL && decide (4 ≤ n ∧ n ≤ 7) then s
  else
    (((s.wr (Reg.OBS_DEPTH n) (o.deepest % 65536 * 65536 + depth)).wr (Reg.OBS_WAIT n) ns).wr (Reg.OBS_LOAD n)
      (min 1000 (mean 32 (o.busy * 1000) dt))).fresh

/-- OBS_WINDOW_END (R321): the window's values are latched and a new window starts. -/
def execObsWindowEnd (s : State) : Host.Outcome State Fault Refusal :=
  if s.bit Reg.OBS_CTRL 0 then
    let s1 := s.obsTouch
    let s2 := s1.each (List.range 9) (fun u n => u.latchObs n)
    .next (s2.onSched (fun x => { x with obs := (List.range 9).foldl (fun t n =>
        tset Obs.init t n ⟨0, s2.readyFor n, 0, 0, 0⟩) [], obsStart := s2.time.eventTick }))
  else .next s

end Sys2Proof.Machine
end

