-- ==== Sys2Proof/Machine/FacetCmd.lean ====
section
/-! DEFINITION. The Facet, scheduler and test generator commands (R301, R302, R304, R315, R322, R126, R415). -/

namespace Sys2Proof.Machine

/-! ### Images (R301) -/

/-- The checks of a task image of which n bytes are in the buffer; `chans` is the task's channel count. -/
def imageChecks (b : Bytes) (n chans : Nat) : List (Bool × Resp) :=
  let r := fun (i : Nat) => Resp.err stRange 0 i
  let p := u16At b 4
  [ (decide (n < 32), r 0), (u16At b 0 != 0x4654, r 0), (u8At b 2 != 1, r 2), (decide (p = 0 ∨ 16384 < p), r 4)
  , (decide (16384 < u16At b 6 ∨ u16At b 6 < 8 * chans), r 6), (decide (16384 < u16At b 8), r 8)
  , (decide (u16At b 6 < u16At b 10), r 10), (decide (u16At b 8 < u16At b 12), r 12), (decide (p ≤ u16At b 14), r 14)
  , (decide (n < 32 + 4 * (p + u16At b 10 + u16At b 12)), r 4) ]

/-- The bytes of an image from a buffer: header, program and initial data. -/
def imageOf (b : Bytes) : Bytes := b.take (32 + 4 * (u16At b 4 + u16At b 10 + u16At b 12))

/-- Whether a task is enabled, or a change of it waits for its boundary. -/
def FTask.busy (t : FTask) : Bool := t.enabled || t.change.isSome

/-- FACET_TASK_LOAD. -/
def cmdFacetTaskLoad : CmdDef := mkBulk 0x7001 modesCfg (lenIs 16) (fun _ p s =>
  let t := u16At p 0
  let b := bufAt p 4
  let d := s.bufRead b b.len
  checked s ([ (decide (1023 < t), Resp.errF stRange 0), ((s.task t).busy, Resp.errS stState),
      (!s.bufOk b, Resp.errF stRange 4) ] ++ imageChecks d b.len (s.task t).chans)
    (s.setTask t { s.task t with image := some (imageOf d) }, Resp.ok))

/-- Whether a core mask names a fused or absent core. -/
def State.badMask (s : State) (m : Nat) : Bool := s.sys.orderIL && decide (16 ≤ m)

/-- FACET_TASK_SET. -/
def cmdFacetTaskSet : CmdDef := mkCmd 0x7002 modesCfg (lenIs 8) (fun _ p s =>
  let t := u16At p 0
  let att := u8At p 2
  let lvl := u8At p 3
  let badLevel := if att ≤ 1 then decide (1 < lvl) else decide (lvl < 2 ∨ 7 < lvl)
  let xw := (s.task t).xWords
  checked s
    [ (decide (1023 < t), Resp.errF stRange 0), (decide (3 < att), Resp.errF stRange 2), (badLevel, Resp.errF stRange 3)
    , (s.badMask (u8At p 4), Resp.errF stRange 4)
    , (decide (64 < u8At p 6) || (decide (att ≤ 1) && u8At p 6 == 0), Resp.errF stRange 6)
    , ((s.task t).image.isSome && decide (att ≤ 1 ∧ xw < 8 * u8At p 6), Resp.errF stRange 6)
    , ((s.task t).busy, Resp.errS stState) ]
    (s.setTask t { s.task t with
        attach := att, level := lvl, mask := u8At p 4, flow := if u8At p 5 = 0xFF then none else some (u8At p 5),
        chans := u8At p 6 }, Resp.ok))

/-- What is wrong with a channel entry of an insert task (R292): roles 0 input, 1 output, 2 in place. -/
def State.chanBad (s : State) (att i : Nat) (e : Bytes) : Option Resp :=
  let ty := u8At e 1
  let ix := u16At e 2
  let off := 4 + 4 * i
  let roleOk := if att = 0 then (u8At e 0 == 0 && (ty == 1 || ty == 2 || ty == 4)) || (u8At e 0 == 1 && ty == 3) else u8At e 0 == 2 && ty == 5
  let lim := match ty with
    | 1 => 1024 | 2 => 255 * 64 | 3 => 256 | 4 => 16 | _ => s.busCount
  if !roleOk then some (Resp.err stRange i off)
  else if lim ≤ ix then some (Resp.err stRange i (off + 2)) else none

/-- FACET_CHAN_SET. -/
def cmdFacetChanSet : CmdDef := mkCmd 0x7003 modesCfg (fun p => p.length == 4 + 4 * u8At p 3) (fun _ p s =>
  let t := u16At p 0
  let first := u8At p 2
  let n := u8At p 3
  let es := entries 4 (p.drop 4)
  let ok : State × Resp := checkedEntries s es (fun i e => s.chanBad (s.task t).attach i e)
    (let k := s.task t
     (s.setTask t { k with chan := ((List.range n).zip es).foldl (fun c e => tput c (first + e.1) (u8At e.2 0, u8At e.2 1, u16At e.2 2)) k.chan },
      Resp.ok))
  checked s
    [ (decide (1023 < t), Resp.errF stRange 0), (decide (n = 0 ∨ 56 < n), Resp.errF stRange 3)
    , (decide (64 < first + n), Resp.errF stRange 2), ((s.task t).busy || !(s.task t).insert, Resp.errS stState) ] ok)

/-! ### Admission and placement (R126, R271, R302, R312) -/

/-- Whether a task is on core n, or moves there at the next boundary. -/
def FTask.onCore (t : FTask) (n : Nat) : Bool := t.core == n || (t.moveTo.map (fun m => m.1 == n)).getD false

/-- The declared RT cycles a core has admitted. -/
def State.admitted (s : State) (n : Nat) : Nat :=
  (s.sched.tasks.filter (fun (e : Nat × FTask) => e.2.busy && e.2.insert && e.2.onCore n)).foldl
    (fun a e => a + e.2.cycles s.time.rate96) 0

/-- The admission limit (R126). -/
def State.admitLimit (s : State) : Nat := if s.time.rate96 then 81920 else 163840

/-- The cores a task may be placed on: its mask, or the core of an RT task that shares its flow (R312). -/
def State.permitCores (s : State) (k : FTask) : List Nat :=
  let mate := s.sched.tasks.find? (fun (e : Nat × FTask) => e.2.busy && e.2.insert && k.insert && k.flow.isSome && e.2.flow == k.flow)
  match mate with
  | some (_, m) => [m.core]
  | none => (List.range 8).filter (fun n => bitOf k.mask n && s.coreExists n)

/-- The permitted cores in order of preference: most unclaimed cycles first, the lower number on a tie. -/
def State.coreOrder (s : State) (k : FTask) : List Nat :=
  sortBy (fun a b => decide (s.admitted a < s.admitted b ∨ (s.admitted a = s.admitted b ∧ a ≤ b))) (s.permitCores k)

/-- A task where it moves at the next boundary. -/
def FTask.after (t : FTask) : FTask :=
  match t.moveTo with
  | none => t
  | some (n, a, b, c) => { t with core := n, pBase := a, xBase := b, yBase := c }

/-- The occupied ranges of one array of a core: `f` gives the base and length of a task's region there. -/
def State.occupied (s : State) (n : Nat) (f : FTask → Nat × Nat) : List (Nat × Nat) :=
  let ts := (s.sched.tasks.filter (fun (e : Nat × FTask) => e.2.busy)).flatMap (fun e => [e.2, e.2.after])
  (ts.filter (fun k => k.core == n)).map f

/-- The lowest place for len words among occupied ranges of an array of 16,384. -/
def fitWords (occ : List (Nat × Nat)) (len : Nat) : Option Nat :=
  let free := fun (b : Nat) => decide (b + len ≤ 16384) && occ.all (fun o => decide (b + len ≤ o.1 ∨ o.1 + o.2 ≤ b ∨ len = 0 ∨ o.2 = 0))
  let cands := 0 :: occ.map (fun o => o.1 + o.2)
  (sortBy (fun a b => decide (a ≤ b)) (cands.filter free)).head?

/-- A task placed on a core, when its memories have room. -/
def State.placeTask (s : State) (k : FTask) (n : Nat) : Option FTask :=
  match fitWords (s.occupied n (fun t => (t.pBase, t.pWords))) k.pWords,
      fitWords (s.occupied n (fun t => (t.xBase, t.xWords))) k.xWords,
      fitWords (s.occupied n (fun t => (t.yBase, t.yWords))) k.yWords with
  | some a, some b, some c => some { k with core := n, pBase := a, xBase := b, yBase := c }
  | _, _, _ => none

/-- The outputs and buses a task takes: types 3 and 5. -/
def FTask.takes (t : FTask) : List (Nat × Nat) :=
  if t.insert then t.list.filterMap (fun e => if e.2.2.1 = 3 ∨ e.2.2.1 = 5 then some e.2.2 else none) else []

/-- An enabled task that owns an output channel or bus another task wants (R292). -/
def State.chanOwner (s : State) (t : Nat) : Option Nat :=
  (s.sched.tasks.find? (fun (e : Nat × FTask) => e.1 != t && e.2.busy && e.2.takes.any (fun x => (s.task t).takes.contains x))).map (·.1)

/-- An enabled task of the other kind on a task's flow (R312). -/
def State.flowClash (s : State) (t : Nat) : Option Nat :=
  let k := s.task t
  (s.sched.tasks.find? (fun (e : Nat × FTask) => e.1 != t && e.2.busy && k.flow.isSome && e.2.flow == k.flow && e.2.insert != k.insert)).map (·.1)

/-- Whether the order of preference holds a core whose total stays in the limit. -/
def State.admits (s : State) (k : FTask) (n : Nat) : Bool :=
  !k.insert || decide (s.admitted n + k.cycles s.time.rate96 ≤ s.admitLimit)

/-- Reserves the RT slot of an insert task. -/
def State.reserve (s : State) (t : Nat) (k : FTask) : State :=
  if k.insert then
    match s.freeSlot with
    | none => s
    | some slot =>
      (s.setItem slot ⟨some t, 0, k.level, k.flow, 2 ^ k.core, .rtReserved, 0, 0, 0, false, false, false, [], FCtx.init⟩).setTask t
        { k with change := some true, slot := some slot }
  else s.setTask t { k with change := some true }

/-- An enable refused by admission: FOCUS_CNT 3 counts it (R126). -/
def State.admitRefused (s : State) : State × Resp := (s.bump (Reg.FOCUS_CNT 3), Resp.errS stBudget)

/-- An enable (R302): admission, channel ownership, placement, in that order. -/
def State.enableTask (s : State) (t : Nat) : State × Resp :=
  let k := s.task t
  match s.coreOrder k with
  | [] => s.admitRefused
  | n :: rest =>
    if !s.admits k n then s.admitRefused
    else if k.insert ∧ s.freeSlot.isNone then (s, Resp.errS stBudget)
    else match s.flowClash t, s.chanOwner t with
      | some o, _ => (s, Resp.resource 0xFFFF 0 o)
      | none, some o => (s, Resp.resource 0xFFFF 0 o)
      | none, none =>
        match ((n :: rest).filter (s.admits k)).findSome? (s.placeTask k) with
        | none => (s, Resp.resource 0xFFFF 0 0xFFFF)
        | some k1 => (s.reserve t k1, Resp.ok)

/-- An enable of a task whose disable waits for the next boundary, where its regions are free: it takes the checks with them free, and the
regions it finds are its own from that boundary on (R302). -/
def State.enableAgain (s : State) (t : Nat) : State × Resp :=
  let k := s.task t
  let (s1, r) := (s.disableTask t).enableTask t
  let k1 := s1.task t
  if r.status ≠ stOk then (s.setTask t k, r)
  else if k.enabled then (s.setTask t { k with change := some true, moveTo := some (k1.core, k1.pBase, k1.xBase, k1.yBase) }, r)
  else (s1, r)

/-- FACET_TASK_ENABLE. -/
def cmdFacetTaskEnable : CmdDef := mkCmd 0x7004 modesCfg (lenIs 4) (fun _ p s =>
  let t := u16At p 0
  let k := s.task t
  checked s
    [ (decide (1023 < t), Resp.errF stRange 0), (decide (1 < u8At p 2), Resp.errF stRange 2)
    , (u8At p 2 == 1 && k.image.isNone, Resp.errS stState) ]
    (if u8At p 2 = 1 then (if k.change = some false then s.enableAgain t else if k.busy then (s, Resp.ok) else s.enableTask t)
    else if k.busy then (s.setTask t { k with change := some false, moveTo := none }, Resp.ok)
    else (s, Resp.ok)))

/-- Writes an enabled task's image to its regions: program, initial data, and zeros (R297, R301). -/
def State.initRegions (s : State) (k : FTask) : State :=
  let b := k.image.getD []
  let p := k.pWords
  let xi := u16At b 10
  let yi := u16At b 12
  let w := facetWin k.core
  let m0 := mwrite s.mem (w + 0x20000 + 4 * k.pBase) (slice b 32 (4 * p))
  let m1 := mwrite (mclear m0 (w + 4 * k.xBase) (4 * k.xWords)) (w + 4 * k.xBase) (slice b (32 + 4 * p) (4 * xi))
  s.withMem (mwrite (mclear m1 (w + 0x10000 + 4 * k.yBase) (4 * k.yWords)) (w + 0x10000 + 4 * k.yBase) (slice b (32 + 4 * (p + xi)) (4 * yi)))

/-- Task changes take effect at a quantum boundary (R302): tasks enabled before run from now on; an enable starts with its
regions initialised and its first instance in the next period; a disable frees everything. -/
def State.taskBoundary (s : State) : State :=
  s.each s.sched.tasks (fun u (e : Nat × FTask) =>
    match e.2.change with
    | none => if e.2.enabled && !e.2.armed then u.setTask e.1 { e.2 with armed := true } else u
    | some true =>
      let u1 := if e.2.enabled then (u.disableTask e.1).reserve e.1 { (u.disableTask e.1).task e.1 with
          core := e.2.after.core, pBase := e.2.after.pBase, xBase := e.2.after.xBase, yBase := e.2.after.yBase } else u
      let k := u1.task e.1
      (if bitOf u1.sys.pwr 6 then u1.initRegions k else u1).setTask e.1 { k with enabled := true, change := none, armed := false, misses := 0, mute := [] }
    | some false => u.disableTask e.1)

/-- FACET_STAGE_SET. -/
def cmdFacetStageSet : CmdDef := mkCmd 0x7005 [.park] (lenIs 4) (fun _ p s =>
  checked s [(decide (1 < u8At p 0), Resp.errF stRange 0), (decide (1 < u8At p 1), Resp.errF stRange 1)]
    (s.onTime (fun x => { x with objInsert := u8At p 0 == 1, busInsert := u8At p 1 == 1 }), Resp.ok))

/-- The state code of a core (FCORE_STATUS.STATE). -/
def State.coreState (s : State) (n : Nat) : Nat :=
  if !s.coreExists n then 4
  else if !bitOf s.sys.pwr 6 || !s.bit (Reg.FCORE_CTRL n) 0 then 0
  else if s.coreHalted n then 3
  else if (s.resident n).isSome then 2 else 1

/-- The item resident on a core. -/
def State.residentItem (s : State) (n : Nat) : Option Item := (s.resident n).bind s.item?

/-- The 28 bytes of FACET_STATUS_GET for a core. -/
def State.coreReport (s : State) (n : Nat) : Bytes :=
  let i := s.residentItem n
  le8 (s.coreState n) ++ le8 ((i.map (·.level)).getD 0) ++ le16 ((i.bind (·.task)).getD 0) ++ le32 (s.admitted n)
    ++ le32 (s.rd (Reg.FCORE_USED n)) ++ le32 (s.rd (Reg.FCORE_FAULT n))
    ++ (List.range 6).flatMap (fun k => le16 (s.rd (Reg.FCORE_CNT n k)))

/-- FACET_STATUS_GET; cores 4 to 7 are out of range on the MK9610-IL (R6). -/
def cmdFacetStatusGet : CmdDef := mkCmd 0x7006 modesAny (lenIs 4) (fun _ p s =>
  let a := u8At p 0
  let n := u8At p 1
  let cores := if s.sys.orderIL then 4 else 8
  checked s [(decide (cores ≤ a), Resp.errF stRange 0), (decide (n = 0 ∨ cores < a + n), Resp.errF stRange 1)]
    (s, Resp.ok ((List.range n).flatMap (fun i => s.coreReport (a + i)))))

/-- FACET_TASK_UNLOAD. -/
def cmdFacetTaskUnload : CmdDef := mkCmd 0x7007 modesCfg (lenIs 4) (fun _ p s =>
  let t := u16At p 0
  checked s [(decide (1023 < t), Resp.errF stRange 0), ((s.task t).busy, Resp.errS stState)]
    (s.setTask t { s.task t with image := none }, Resp.ok))

/-! ### The scheduler's commands (R304, R314 to R317, R322) -/

/-- Ticks of a period in µs (R314): t × 24.576 rounded to nearest. -/
def listTicks (t : Nat) : Nat := (t * 24576 + 500) / 1000

/-- RT slots reserved. -/
def State.rtSlots (s : State) : Nat := s.slotsOf 0

/-- The spill ring's unit, placed when the scheduler is configured (R124, R317). -/
def State.placeSpill (s : State) : Option State :=
  if s.sched.spillPlaced then some s
  else (s.place 5 0 1).map (fun e =>
    (e.2.onSched (fun x => { x with spillPlaced := true, spillUnit := e.1 })).wr Reg.SCHED_SPILL_BASE (unitAddr e.1 / 256))

/-- The effect of SCHED_CFG_SET on the registers. -/
def State.schedCfg (s : State) (p : Bytes) : State :=
  let s1 := (s.wr Reg.SCHED_SLOT_CFG (u16At p 0 * 65536 + u16At p 2)).wr Reg.SCHED_SPILL_CFG (u32At p 4)
  s1.each (List.range 4) (fun u n => u.wr (Reg.SCHED_TICK n) (listTicks (u16At p (8 + 2 * n))))

/-- SCHED_CFG_SET. -/
def cmdSchedCfgSet : CmdDef := mkCmd 0x7010 [.park] (lenIs 16) (fun _ p s =>
  let ring := u32At p 4
  let badT := (List.range 4).find? (fun n => decide (u16At p (8 + 2 * n) = 0 ∨ 1000 < u16At p (8 + 2 * n)))
  checked s
    [ (decide (1024 < u16At p 0 + u16At p 2 + s.rtSlots), Resp.errF stRange 0)
    , (decide (ring < 1024 ∨ 65536 < ring ∨ ring % 1024 ≠ 0), Resp.errF stRange 4)
    , (badT.isSome, Resp.errF stRange (8 + 2 * badT.getD 0)) ]
    (match s.placeSpill with
     | none => (s, Resp.resource 0xFFFF 0 0xFFFF)
     | some s1 => (s1.schedCfg p, Resp.ok)))

/-- A HOST slot, when the class has one left (R305). -/
def State.hostSlot (s : State) : Option Nat := if s.slotsOf 1 < s.hostMax then s.freeSlot else none

/-- An item of HOST class of a task: it may take the cores of the task's core mask (R304). -/
def hostItem (t : Nat) (k : FTask) (use : SlotUse) : Item :=
  ⟨some t, 1, k.level, k.flow, k.mask, use, 0, 0, 0, false, false, false, [], FCtx.init⟩

/-- Back-pressure (R305): counted and traced with the mailbox slot of the refused command. -/
def State.pushBack (s : State) (i : Item) (slot : Nat) : State :=
  (((s.bump (Reg.SCHED_CNT 6)).perfAdd 86).raise Reg.SCHED_INT_STATUS 2).schedRec 9 0xFF none i slot

/-- TASK_SUBMIT. -/
def cmdTaskSubmit : CmdDef := mkCmd 0x7011 modesLive (lenIs 4) (fun h p s =>
  let t := u16At p 0
  let k := s.task t
  checked s [(decide (1023 < t), Resp.errF stRange 0), (!(k.enabled && k.attach == 3), Resp.errS stState)]
    (match s.hostSlot with
     | none => (s.pushBack (hostItem t k .ready) h.slot, ⟨stBusy, []⟩)
     | some slot => ((s.refillAll.setItem slot (hostItem t k .ready)).makeReady slot 2, Resp.ok)))

/-- Places a task's timer entry in a slot (R315). -/
def State.armTimer (s : State) (t list delay period slot : Nat) : State :=
  let e : Timer := ⟨list, tget 0 s.sched.listTick list + delay, period, s.sched.timerOrder, slot⟩
  (s.setItem slot (hostItem t (s.task t) .delayed)).onSched (fun x => { x with timers := tput x.timers t e, timerOrder := x.timerOrder + 1 })

/-- TIMER_SET. -/
def cmdTimerSet : CmdDef := mkCmd 0x7012 modesLive (lenIs 12) (fun h p s =>
  let t := u16At p 0
  let k := s.task t
  let list := u8At p 2
  let periodic := bitOf (u8At p 3) 0
  let cancel := bitOf (u8At p 3) 1
  let bad := fun (v : Nat) => decide (v = 0 ∨ 16777215 < v)
  let s1 := s.cancelTimer t
  checked s
    [ (decide (1023 < t), Resp.errF stRange 0), (decide (3 < list), Resp.errF stRange 2)
    , (!cancel && bad (u32At p 4), Resp.errF stRange 4), (!cancel && periodic && bad (u32At p 8), Resp.errF stRange 8)
    , (!(k.enabled && k.attach == 2), Resp.errS stState) ]
    (if cancel then (s1, Resp.ok)
     else match s1.hostSlot with
      | none => (s.pushBack (hostItem t k .delayed) h.slot, ⟨stBusy, []⟩)
      | some slot => (s1.armTimer t list (u32At p 4) (if periodic then u32At p 8 else 0) slot, Resp.ok)))

/-- The 56 bytes of SCHED_STATUS_GET. -/
def State.schedReport (s : State) : Bytes :=
  le16 (s.slotsOf 1) ++ le16 (s.slotsOf 2) ++ le16 s.rtSlots ++ le16 0 ++ le32 s.sched.spill.length
    ++ le8 (b2n (s.bit Reg.SCHED_SPILL_STATE 17)) ++ zeros 3 ++ (List.range 10).flatMap (fun n => le32 (s.rd (Reg.SCHED_CNT n)))

/-- SCHED_STATUS_GET. -/
def cmdSchedStatusGet : CmdDef := mkCmd 0x7013 modesAny (lenIs 4) (fun _ p s =>
  (if bitOf (u8At p 0) 0 then s.setFld Reg.SCHED_SPILL_STATE 17 17 0 else s, Resp.ok s.schedReport))

/-! ### The test generator (R415) -/

/-- The settings of a test generator channel, those waiting for a boundary included. -/
def State.testOf (s : State) (c : Nat) : TestGen :=
  match s.meas.testNew.find? (fun e => e.1 == c) with
  | some (_, g) => g
  | none => tget TestGen.init s.meas.testGen c

/-- What is wrong with a test generator entry. -/
def testBad (i : Nat) (e : Bytes) : Option Resp :=
  let k := u8At e 1
  if 15 < u8At e 0 then some (Resp.err stRange i (6 * i))
  else if 3 < k then some (Resp.err stRange i (6 * i + 1))
  else if k = 1 ∧ (u16At e 2 < 20 ∨ 20000 < u16At e 2) then some (Resp.err stRange i (6 * i + 2))
  else if k ≠ 0 ∧ (s16At e 4 < -12000 ∨ 0 < s16At e 4) then some (Resp.err stRange i (6 * i + 4))
  else none

/-- A channel's new settings: a sine starts at phase zero, noise with its seed. -/
def testSet (e : Bytes) : TestGen := ⟨u8At e 1, u16At e 2, s16At e 4, 0, 1 + u8At e 0, []⟩

/-- TESTGEN_SET. -/
def cmdTestgenSet : CmdDef := mkCmd 0x7020 modesCfg (lenEntries 0 6 16) (fun _ p s =>
  let es := entries 6 p
  let s1 := s.onMeas (fun x => { x with testNew := es.foldl (fun t e => tput t (u8At e 0) (testSet e)) x.testNew })
  let on := (List.range 16).any (fun c => (s1.testOf c).kind != 0)
  checkedEntries s es testBad
    (if on ∧ s.owner 0x302 ≠ 0 ∧ s.owner 0x302 ≠ 5 then (s, Resp.resource 0x302 (s.owner 0x302) 0xFFFF)
     else (s1.claim 0x302 (if on then 5 else 0), Resp.ok)))

/-- FACET_TASK_LOAD (R301). -/
def execFacetTaskLoad (h : Hdr) (p : Bytes) (s : State) : Host.Outcome State Fault Refusal := cmdFacetTaskLoad.exec h p s
/-- FACET_TASK_SET (R302). -/
def execFacetTaskSet (h : Hdr) (p : Bytes) (s : State) : Host.Outcome State Fault Refusal := cmdFacetTaskSet.exec h p s
/-- FACET_CHAN_SET (R292). -/
def execFacetChanSet (h : Hdr) (p : Bytes) (s : State) : Host.Outcome State Fault Refusal := cmdFacetChanSet.exec h p s
/-- FACET_TASK_ENABLE (R302). -/
def execFacetTaskEnable (h : Hdr) (p : Bytes) (s : State) : Host.Outcome State Fault Refusal := cmdFacetTaskEnable.exec h p s
/-- FACET_STAGE_SET (R302). -/
def execFacetStageSet (h : Hdr) (p : Bytes) (s : State) : Host.Outcome State Fault Refusal := cmdFacetStageSet.exec h p s
/-- FACET_STATUS_GET (R302). -/
def execFacetStatusGet (h : Hdr) (p : Bytes) (s : State) : Host.Outcome State Fault Refusal := cmdFacetStatusGet.exec h p s
/-- FACET_TASK_UNLOAD (R302). -/
def execFacetTaskUnload (h : Hdr) (p : Bytes) (s : State) : Host.Outcome State Fault Refusal := cmdFacetTaskUnload.exec h p s
/-- SCHED_CFG_SET (R304). -/
def execSchedCfgSet (h : Hdr) (p : Bytes) (s : State) : Host.Outcome State Fault Refusal := cmdSchedCfgSet.exec h p s
/-- TASK_SUBMIT (R322). -/
def execTaskSubmit (h : Hdr) (p : Bytes) (s : State) : Host.Outcome State Fault Refusal := cmdTaskSubmit.exec h p s
/-- TIMER_SET (R315). -/
def execTimerSet (h : Hdr) (p : Bytes) (s : State) : Host.Outcome State Fault Refusal := cmdTimerSet.exec h p s
/-- SCHED_STATUS_GET (R322). -/
def execSchedStatusGet (h : Hdr) (p : Bytes) (s : State) : Host.Outcome State Fault Refusal := cmdSchedStatusGet.exec h p s
/-- TESTGEN_SET (R415). -/
def execTestgenSet (h : Hdr) (p : Bytes) (s : State) : Host.Outcome State Fault Refusal := cmdTestgenSet.exec h p s

end Sys2Proof.Machine
end

