-- ==== Sys2Proof/Machine/SceneCmds.lean ====
section
/-! DEFINITION. The scene, path engine and placement commands: layouts (R41 to R51), air, records, maps, listeners, half B,
alignment delays, models, releases and placement reports. -/

namespace Sys2Proof.Machine

/-! ### Layouts (R41 to R49) -/

/-- A point at a byte offset. -/
def v3At (b : Bytes) (i : Nat) : V3 := ⟨s32At b i, s32At b (i + 4), s32At b (i + 8)⟩

/-- A speaker record from its 32 bytes (R44). -/
def speakerAt (b : Bytes) : Speaker :=
  { bus := u16At b 0, array := bitOf (u16At b 2) 0, disabled := bitOf (u16At b 2) 1, pos := v3At b 4, azimuth := s16At b 16
    elevation := s16At b 18, trimGain := s16At b 20, segment := u16At b 22, trimDelay := u32At b 24, groups := u32At b 28 }

/-- A triplet record from its 48 bytes (R45). -/
def tripletAt (b : Bytes) : Triplet :=
  ⟨u16At b 0, u16At b 2, u16At b 4, (List.range 9).map (fun i => u32At b (8 + 4 * i))⟩

/-- A segment descriptor from its 16 bytes (R46). -/
def segmentAt (b : Bytes) : Segment := ⟨u16At b 0, u16At b 2, u16At b 4, u16At b 6, u16At b 8⟩

/-- The layout a block of the right length holds (R41, R42). -/
def layoutAt (b : Bytes) : Layout :=
  let n := u16At b 4
  let t := u16At b 6
  let s := u16At b 8
  { ref := v3At b 12, preDelay := u32At b 24, rRef := u32At b 28, rNear := u32At b 32, tag := u32At b 36
    groups := (List.range 256).map (fun i => u32At b (64 + 4 * i))
    speakers := (chunks n 32 (slice b 1088 (32 * n))).map speakerAt
    triplets := (chunks t 48 (slice b (1088 + 32 * n) (48 * t))).map tripletAt
    segments := (chunks s 16 (slice b (1088 + 32 * n + 48 * t) (16 * s))).map segmentAt }

/-- The block length R41 gives for the counts in a header. -/
def layoutLen (b : Bytes) : Nat := 1088 + 32 * u16At b 4 + 48 * u16At b 6 + 16 * u16At b 8

/-- The header checks of R47: magic, version, length, fields. -/
def layoutHeadChecks (b : Bytes) (len buses : Nat) : List (Bool × Resp) :=
  let r := fun (i : Nat) => Resp.errF stRange i
  [ (decide (len < 2) || u16At b 0 != 0x4C59, r 0), (decide (len < 4) || u16At b 2 != 1, r 2)
  , (decide (len < 64 ∨ len ≠ layoutLen b), r 0xFFFF), (decide (u16At b 4 = 0 ∨ buses < u16At b 4), r 4)
  , (decide (4096 < u16At b 6), r 6), (decide (64 < u16At b 8), r 8), (decide (1046272 < u32At b 24), r 24)
  , (decide (u32At b 28 < 100 ∨ 100000 < u32At b 28), r 28), (decide (u32At b 32 < 100 ∨ u32At b 28 < u32At b 32), r 32) ]

/-- The byte offset of triplet i of a layout. -/
def Layout.tripletOff (l : Layout) (i : Nat) : Nat := 1088 + 32 * l.speakers.length + 48 * i
/-- The byte offset of segment i of a layout. -/
def Layout.segmentOff (l : Layout) (i : Nat) : Nat := l.tripletOff l.triplets.length + 16 * i

/-- A speaker's bus: below the bus count and named once (R47). -/
def Layout.busBad (l : Layout) (buses i : Nat) (x : Speaker) : Option Resp :=
  if buses ≤ x.bus ∨ (l.speakers.take i).any (fun y => y.bus == x.bus) then some (Resp.err stRange i (1088 + 32 * i)) else none

/-- A triplet's speakers: below N, all different (R47). -/
def Layout.tripletBad (l : Layout) (i : Nat) (t : Triplet) : Option Resp :=
  let n := l.speakers.length
  let o := l.tripletOff i
  if n ≤ t.a then some (Resp.err stRange i o)
  else if n ≤ t.b ∨ t.b = t.a then some (Resp.err stRange i (o + 2))
  else if n ≤ t.c ∨ t.c = t.a ∨ t.c = t.b then some (Resp.err stRange i (o + 4)) else none

/-- Whether two segments share a speaker. -/
def Segment.meets (a b : Segment) : Bool := decide (a.first < b.first + b.count ∧ b.first < a.first + a.count)

/-- A segment's fields and its place among the earlier ones (R46, R47). -/
def Layout.segmentBad (l : Layout) (i : Nat) (g : Segment) : Option Resp :=
  let o := l.segmentOff i
  let before := l.segments.take i
  if 63 < g.id ∨ before.any (fun x => x.id == g.id) then some (Resp.err stRange i o)
  else if g.count < 2 ∨ 1024 < g.count then some (Resp.err stRange i (o + 4))
  else if l.speakers.length < g.first + g.count ∨ before.any g.meets then some (Resp.err stRange i (o + 2))
  else if g.count / 2 < g.taper then some (Resp.err stRange i (o + 6))
  else if g.aperture = 0 ∨ 36000 < g.aperture then some (Resp.err stRange i (o + 8)) else none

/-- Membership: a segment's speakers carry ARRAY and its ID; a speaker with ARRAY lies in a segment (R47). -/
def Layout.memberBad (l : Layout) (i : Nat) (x : Speaker) : Option Resp :=
  match l.segments.find? (fun g => decide (g.first ≤ i ∧ i < g.first + g.count)) with
  | some g => if !x.array || x.segment != g.id then some (Resp.err stRange i (1088 + 32 * i + 2)) else none
  | none => if x.array then some (Resp.err stRange i (1088 + 32 * i + 2)) else none

/-- The first element of a list for which a check answers. -/
def firstOf {α : Type} (l : List α) (f : Nat → α → Option Resp) : Option Resp :=
  ((List.range l.length).zip l).findSome? (fun e => f e.1 e.2)

/-- The checks of R47, in its order. -/
def layoutBad (b : Bytes) (len buses : Nat) : Option Resp :=
  let l := layoutAt b
  (firstBad (layoutHeadChecks b len buses)).orElse (fun _ => (firstOf l.speakers (l.busBad buses)).orElse (fun _ =>
    (firstOf l.triplets l.tripletBad).orElse (fun _ => (firstOf l.segments l.segmentBad).orElse (fun _ =>
      firstOf l.speakers l.memberBad))))

/-- Whether a LAYOUT_COMMIT waited for its setup when a LAYOUT_LOAD was handled (R49): as noted when its copy began, or now. -/
def State.commitHeld (s : State) : Bool := s.scene.loadAt.getD s.scene.commitWait

/-- LAYOUT_LOAD: the staged layout from a host buffer (R48). -/
def cmdLayoutLoad : CmdDef := mkBulk 0x1001 modesCfg (lenIs 12) (fun _ p s0 =>
  let s := s0.onScene (fun x => { x with loadAt := none })
  let b := bufAt p 0
  let d := s.bufRead b b.len
  if !s.bufOk b || decide (275008 < b.len) then (s, Resp.errF stRange 0)
  else
    match layoutBad d b.len s.busCount with
    | some r => (s, r)
    | none =>
      checked s [(s0.commitHeld, Resp.errS stState)]
        (s.onScene (fun x => { x with staged := some (layoutAt d) }), Resp.ok (le32 (u32At d 36))))

/-- The layouts change places (R48). -/
def State.swapLayouts (s : State) : State :=
  s.onScene (fun x => { x with active := s.scene.staged, staged := s.scene.active, commitWait := false })

/-- LAYOUT_COMMIT: at the next setup in RENDER and MIRROR, at once in PARK and MEASURE (R48, R49). -/
def cmdLayoutCommit : CmdDef := mkCmd 0x1002 modesCfg (lenIs 0) (fun _ _ s =>
  checked s [(s.scene.commitWait || s.scene.staged.isNone, Resp.errS stState)]
    (if s.rendering then s.onScene (fun x => { x with commitWait := true }) else s.swapLayouts,
      Resp.ok (le32 ((s.scene.staged.map (·.tag)).getD 0))))

/-! ### Air (R39, R40) -/

/-- The speed of sound at a temperature in 0.1 °C, in 2^-32 of 0.1 mm/s (R39). -/
def airSpeed (t : Int) : Int := (3313000 + 606 * t) * 2 ^ 32

/-- AIR_SET: a new ramp of 64 setups from the value c has reached (R40). -/
def cmdAirSet : CmdDef := mkCmd 0x1010 modesCfg (lenIs 4) (fun _ p s =>
  let t := s16At p 0
  checked s [(decide (t < -200 ∨ 500 < t), Resp.errF stRange 0)]
    (s.onScene (fun x => { x with airT := t, cTarget := airSpeed t, cLeft := 64 }), Resp.ok))

/-! ### Records and objects (R60, R72, R107, R128, R409) -/

/-- OBJECT_UPDATE: 1 to 7 records of source 0, judged in order (R72). -/
def cmdObjectUpdate : CmdDef := mkCmd 0x1100 modesScn (lenEntries 0 32 7) (fun _ p s =>
  let (s1, n) := s.judgeAll 0 false ((entries 32 p).map recAt)
  (s1, Resp.ok (le16 n.1 ++ le16 n.2.1 ++ le16 n.2.2 ++ zeros 2)))

/-- What is wrong with entry i of a DIRECT list: its bus, or one named before (R60). -/
def directBad (buses base : Nat) (es : List Bytes) (i : Nat) (e : Bytes) : Option Resp :=
  if buses ≤ u16At e 0 ∨ (es.take i).any (fun x => u16At x 0 == u16At e 0) then some (Resp.err stRange i (base + 4 * i)) else none

/-- The DIRECT list replaced whole (R60). -/
def State.setDirect (s : State) (j base : Nat) (es : List Bytes) : State × Resp :=
  checkedEntries s es (directBad s.busCount base es)
    (s.setObj j { s.obj j with direct := es.map (fun e => (u16At e 0, s16At e 2)) }, Resp.ok)

/-- The expected length of OBJECT_DIRECT_SET: inline to 58 entries, a buffer descriptor above (R408, R525). -/
def directLen (p : Bytes) : Bool :=
  if u16At p 2 ≤ 58 then p.length == 8 + 4 * u16At p 2 else p.length == 20

/-- OBJECT_DIRECT_SET (R408). -/
def cmdObjectDirectSet : CmdDef :=
  ⟨0x1101, modesScn, directLen, (fun p => decide (58 < u16At p 2)), fun _ p s =>
    let j := u16At p 0
    let n := u16At p 2
    let b := bufAt p 8
    checked s [(decide (1023 < j), Resp.errF stRange 0), (decide (256 < n), Resp.errF stRange 2)]
      (if n ≤ 58 then s.setDirect j 8 (entries 4 (p.drop 8))
       else if !s.bufOk b || b.len != 4 * n then (s, Resp.errF stRange 8)
       else s.setDirect j 0 (entries 4 (s.bufRead b b.len)))⟩

/-- The current word of OBJECT_STATUS (R409). -/
def Obj.word (o : Obj) : Nat := o.cur + b2n o.converging * 128 + b2n o.present * 256

/-- OBJECT_STATUS: current and sticky words, the sticky ones cleared on request (R409). -/
def cmdObjectStatus : CmdDef := mkCmd 0x1102 modesAny (lenIs 8) (fun _ p s =>
  let first := u16At p 0
  let n := u16At p 2
  let ids := (List.range n).map (· + first)
  let out := ids.flatMap (fun j => le16 (s.obj j).word ++ le16 (s.obj j).sticky)
  let clear := fun (t : State) (j : Nat) => t.setObj j { t.obj j with sticky := 0 }
  checked s [(decide (n = 0 ∨ 56 < n), Resp.errF stRange 2), (decide (1024 < first + n), Resp.errF stRange 0)]
    (if bitOf (u8At p 4) 0 then s.each ids clear else s, Resp.ok out))

/-- TRAJ_MODEL_SET (R128). -/
def cmdTrajModelSet : CmdDef := mkCmd 0x1501 modesScn (lenEntries 0 4 60) (fun _ p s =>
  let es := entries 4 p
  checkedEntries s es (fun i e =>
      if 1023 < u16At e 0 then some (Resp.err stRange i (4 * i))
      else if 1 < u8At e 2 then some (Resp.err stRange i (4 * i + 2)) else none)
    (s.each es (fun t e => t.setObj (u16At e 0) { t.obj (u16At e 0) with second := u8At e 2 == 1 }), Resp.ok))

/-- OBJECT_RELEASE (R107, R128). -/
def cmdObjectRelease : CmdDef := mkCmd 0x1502 modesScn (lenEntries 0 2 120) (fun _ p s =>
  let es := entries 2 p
  checkedEntries s es (fun i e => if 1023 < u16At e 0 then some (Resp.err stRange i (2 * i)) else none)
    (s.each es (fun t e => t.release (u16At e 0)), Resp.ok))

/-- META_CFG_SET: at the next boundary (R113). -/
def cmdMetaCfgSet : CmdDef := mkCmd 0x1500 modesCfg (lenIs 4) (fun _ p s =>
  let h := u8At p 0
  let k := u8At p 1
  checked s [(decide (h = 0 ∨ 48 < h), Resp.errF stRange 0), (decide (k = 0 ∨ 64 < k), Resp.errF stRange 1),
      (decide (u16At p 2 = 0), Resp.errF stRange 2)]
    (s.onScene (fun x => { x with cfgNew := some (h, k, u16At p 2) }), Resp.ok))

/-! ### Maps and listeners (R73 to R77, R410) -/

/-- The number of indices of a source type (R73); type 0 takes any. -/
def sourceLimit (ty : Nat) : Nat :=
  match ty with
  | 0 => 65536 | 1 => 1024 | 2 => 16320 | 3 => 256 | 4 => 16 | _ => 0

/-- The source named by an entry of R73. -/
def sourceAt (b : Bytes) (i : Nat) : Nat × Nat := if u8At b i = 0 then (0, 0) else (u8At b i, u16At b (i + 2))

/-- INPUT_MAP_SET: at the first input assembly after it (R75). -/
def cmdInputMapSet : CmdDef := mkCmd 0x1200 modesScn (lenEntries 0 6 40) (fun _ p s =>
  let es := entries 6 p
  checkedEntries s es (fun i e =>
      if 1023 < u16At e 0 then some (Resp.err stRange i (6 * i))
      else if 4 < u8At e 2 then some (Resp.err stRange i (6 * i + 2))
      else if sourceLimit (u8At e 2) ≤ u16At e 4 then some (Resp.err stRange i (6 * i + 4)) else none)
    (s.onScene (fun x => { x with inputNew := es.foldl (fun t e => tput t (u16At e 0) (sourceAt e 2)) x.inputNew }), Resp.ok))

/-- The destinations of an OUTPUT_MAP_SET entry. -/
def entryDests (e : Bytes) : List (Nat × Nat) :=
  (List.range (u8At e 2)).map (fun k => (u8At e (4 + 4 * k), u16At e (6 + 4 * k)))

/-- What is wrong with destination k of an entry: an unused one that is not zero, a type, an index, one named twice. -/
def destBad (e : Bytes) (k : Nat) : Bool :=
  let d := (u8At e (4 + 4 * k), u16At e (6 + 4 * k))
  if u8At e 2 ≤ k then u32At e (4 + 4 * k) != 0
  else !(d.1 == 1 || d.1 == 2) || decide (sourceLimit d.1 ≤ d.2) || ((entryDests e).take k).contains d

/-- What is wrong with entry i of OUTPUT_MAP_SET (R76, R410). -/
def outEntryBad (buses : Nat) (es : List Bytes) (i : Nat) (e : Bytes) : Option Resp :=
  if buses ≤ u16At e 0 ∨ (es.take i).any (fun x => u16At x 0 == u16At e 0) then some (Resp.err stRange i (20 * i))
  else if 4 < u8At e 2 then some (Resp.err stRange i (20 * i + 2))
  else ((List.range 4).find? (destBad e)).map (fun k => Resp.err stRange i (20 * i + 4 + 4 * k))

/-- The output map with the changes that wait laid over it: the map an OUTPUT_MAP_SET is checked against, and the drivers that R76 calls
those of now, although the outputs may not use it yet (DESIGN CHOICE, notes/assumptions/59). -/
def State.outputLast (s : State) : Tbl (List (Nat × Nat)) :=
  s.scene.outputNew.foldl (fun t e => tset [] t e.1 e.2) s.scene.outputMap

/-- The buses of a map that drive a destination. -/
def driversOf (m : Tbl (List (Nat × Nat))) (d : Nat × Nat) : List Nat := (m.filter (fun e => e.2.contains d)).map (·.1)

/-- The bus R76 names for a destination two buses would drive: the one that drives it now and keeps it, otherwise that of the
earliest entry that gives it. -/
def conflictBus (old new : Tbl (List (Nat × Nat))) (es : List Bytes) (d : Nat × Nat) : Nat :=
  let two := driversOf new d
  match two.find? (fun b => (tget [] old b).contains d) with
  | some b => b
  | none => ((es.find? (fun e => (entryDests e).contains d)).map (fun e => u16At e 0)).getD 0xFFFF

/-- The bus that the detail of ERR_RESOURCE names (R76). Where a command leaves several destinations with two buses, which of them the detail
speaks of is open: the first in command order (DESIGN CHOICE, notes/assumptions/59). -/
def outConflict (old new : Tbl (List (Nat × Nat))) (es : List Bytes) : Option Nat :=
  (es.flatMap entryDests).findSome? (fun d => if 1 < (driversOf new d).length then some (conflictBus old new es d) else none)

/-- OUTPUT_MAP_SET: at the first output serialisation after it (R77). -/
def cmdOutputMapSet : CmdDef := mkCmd 0x1201 modesCfg (lenEntries 0 20 12) (fun _ p s =>
  let es := entries 20 p
  let old := s.outputLast
  let new := es.foldl (fun t e => tset [] t (u16At e 0) (entryDests e)) old
  checkedEntries s es (outEntryBad s.busCount es)
    (match outConflict old new es with
     | some b => (s, Resp.resource 0xFFFF 0 b)
     | none =>
       (s.onScene (fun x => { x with outputNew := es.foldl (fun t e => tput t (u16At e 0) (entryDests e)) x.outputNew }), Resp.ok)))

/-- SCENE_RX_SET (R70, R410, R443). -/
def cmdSceneRxSet : CmdDef := mkCmd 0x1300 modesCfg (lenEntries 0 8 4) (fun _ p s =>
  let es := entries 8 p
  let set := fun (t : Tbl Listener) (e : Bytes) => tput t (u8At e 0) ⟨u8At e 1 != 0, u32At e 4, u16At e 2⟩
  checkedEntries s es (fun i e => if 3 < u8At e 0 then some (Resp.err stRange i (8 * i)) else none)
    (checked s [(s.hier.role == 2 && es.any (fun e => decide (2 ≤ u8At e 0)), Resp.errS stState)]
      (s.each es (fun t e => t.hashIn (u32At e 4)) |>.onScene (fun x => { x with listeners := es.foldl set x.listeners }), Resp.ok)))

/-! ### Prism (R86, R88, R98 to R101, R410) -/

/-- PRISM_AIR_SET (R101). -/
def cmdPrismAirSet : CmdDef := mkCmd 0x1402 modesCfg (lenIs 4) (fun _ p s =>
  checked s [(decide (1000 < u16At p 0), Resp.errF stRange 0)] (s.setFld Reg.PRISM_AIR 9 0 (u16At p 0), Resp.ok))

/-- PRISM_XFADE_SET (R101). -/
def cmdPrismXfadeSet : CmdDef := mkCmd 0x1403 modesCfg (lenIs 4) (fun _ p s =>
  checked s [(decide (u16At p 0 = 0), Resp.errF stRange 0)] (s.setFld Reg.PRISM_XFADE_STEP 15 0 (u16At p 0), Resp.ok))

/-- Cross-fade reads in the committed quantum. -/
def State.xfadeReads (s : State) : Nat := (s.prism.commitInfo.map (·.xfades)).getD 0

/-- The half B code of PRISM_STATUS_GET. -/
def State.halfCode (s : State) : Nat := if s.prism.halfChange.isSome then 2 else b2n s.prism.half

/-- PRISM_STATUS_GET (R410). -/
def cmdPrismStatusGet : CmdDef := mkCmd 0x1404 modesAny (lenIs 0) (fun _ _ s =>
  (s, Resp.ok (le32 s.pathBudget ++ le32 s.prism.paths.length ++ le16 s.xfadeReads ++ le16 s.xfadeAllow ++ le8 s.halfCode
    ++ le8 (b2n s.time.rate96) ++ zeros 2 ++ (List.range 6).flatMap (fun n => le32 (s.rd (Reg.PRISM_CNT n))))))

/-- Whether half B off would not hold what is committed (R98). -/
def State.halfTooFull (s : State) : Bool :=
  let d := if s.time.rate96 then 2 else 1
  decide (65536 / d < s.prism.paths.length ∨ 16384 / d < s.xfadeReads)

/-- The start of a change of half B (R98, R99): off halves budget and allowance at once; on powers PRISM_B. -/
def State.startHalf (s : State) (h : Hdr) (on : Bool) : State :=
  let s1 := (s.newJob h 0x1400 1).onPrism (fun x => { x with halfChange := some ⟨on, s.mbx.nextJob, 0⟩, half := false })
  if on then s1.onSys (fun x => { x with pwr := x.pwr ||| 16 }) else s1

/-- PRISM_B follows the recorded state once a MODE_SET has powered the domains of RENDER (R100, R404). -/
def State.halfPower (s : State) : State :=
  if s.sys.modeReq.any (fun r => r.target == .render) && bitOf s.sys.pwr 3 then
    s.onSys (fun x => { x with pwr := withBits x.pwr 4 4 (b2n (s.prism.halfRecorded && !s.sys.orderIL)) })
  else s

/-- PRISM_HALF_SET (R98 to R100, R6). -/
def cmdPrismHalfSet : CmdDef := mkCmd 0x1400 modesScn (lenIs 4) (fun h p s =>
  let on := u8At p 0 == 1
  checked s [(decide (1 < u8At p 0) || s.sys.orderIL, Resp.errF stRange 0), (s.prism.halfChange.isSome, Resp.errS stState)]
    (if s.sys.mode == .park then ((s.onPrism (fun x => { x with halfRecorded := on })).halfPower, Resp.ok)
     else if on == s.prism.half then (s, Resp.ok)
     else if !on && s.halfTooFull then (s, Resp.errS stBudget)
     else (s.startHalf h on, Resp.accepted)))

/-! ### Alignment delays (R90 to R92) -/

/-- The value in force (R92). -/
def Align.value (a : Align) : Nat := if a.phase = 0 then a.cur else a.target

/-- The held request of an object is discarded. -/
def State.dropHeld (s : State) (j : Nat) : State :=
  let o := s.obj j
  match o.align.held with
  | none => s
  | some (_, job) => (s.setObj j { o with align := { o.align with held := none } }).pieceDrop job

/-- An object's delay line placed when a value needs one (R91). -/
def State.needLine (s : State) (j a : Nat) : Option State :=
  if a = 0 ∨ (s.obj j).align.line.isSome then some s else s.placeLine j

/-- The state in which object j has the line that a change to delay a needs, on a unit that is not retired (R91, R125). -/
def State.lineFor (s : State) (j a : Nat) : Option State := (s.needLine j a).bind (fun t => t.relocateLine j)

/-- A change of object j to delay a starts, as piece of a job: its line is placed, or relocated off a retired unit (R91, R125). -/
def State.alignStart (s : State) (job j a : Nat) : Option State :=
  (s.lineFor j a).map (fun t =>
    let o := (t.addPiece job).obj j
    (t.addPiece job).setObj j { o with align := { o.align with target := a, phase := 1, job := some job } })

/-- A change of object j to delay a is held behind the one that runs, with its line placed (R91, R92). -/
def State.alignHold (s : State) (job j a : Nat) : Option State :=
  (s.needLine j a).map (fun t =>
    let o := (t.addPiece job).obj j
    (t.addPiece job).setObj j { o with align := { o.align with held := some (a, some job) } })

/-- An entry of ALIGN_DELAY_SET while rendering: nothing, a change that starts, or a request that is held. -/
def State.alignEntry (s : State) (job j a : Nat) : Option State :=
  let al := (s.obj j).align
  let s0 := s.dropHeld j
  if a = al.value then some (s0.tidyLine j)
  else if al.phase = 0 then s0.alignStart job j a
  else (s0.alignHold job j a).map (fun t => t.tidyLine j)

/-- The entries of a command, in order; nothing when a line does not fit. -/
def State.alignAll (s : State) (job : Nat) : List Bytes → Option State
  | [] => some s
  | e :: es => (s.alignEntry job (u16At e 0) (u16At e 2)).bind (fun t => t.alignAll job es)

/-- ALIGN_DELAY_SET in PARK: each delay is in force at once (R91), and a line without use is released (R90). -/
def State.alignPark (s : State) (es : List Bytes) : State :=
  s.each es (fun t e =>
    let o := t.obj (u16At e 0)
    (t.setObj (u16At e 0) { o with align := { o.align with cur := u16At e 2, target := u16At e 2, phase := 0 } }).tidyLine (u16At e 0))

/-- ALIGN_DELAY_SET in RENDER and MIRROR (R91, R92). -/
def State.alignLive (s : State) (h : Hdr) (es : List Bytes) : State × Resp :=
  let id := s.mbx.nextJob
  match (s.newJob h 0x1401 1 (zeros 4)).alignAll id es with
  | none => (s, Resp.resource 0xFFFF 0 0xFFFF)
  | some t => t.settleJob id

/-- ALIGN_DELAY_SET. -/
def cmdAlignDelaySet : CmdDef := mkCmd 0x1401 modesScn (lenEntries 0 4 40) (fun h p s =>
  let es := entries 4 p
  checkedEntries s es (fun i e => if 1023 < u16At e 0 then some (Resp.err stRange i (4 * i)) else none)
    (if s.sys.mode == .park then (s.alignPark es, Resp.ok) else s.alignLive h es))

/-! ### Placement reports (R127) -/

/-- Core cycles of a lane in one quantum (R94). -/
def State.laneCap (s : State) : Nat := if s.time.rate96 then 102400 else 204800

/-- The 64-byte summary. Whether the load of a lane in percent is rounded is open: it is rounded down (DESIGN CHOICE,
notes/assumptions/59). -/
def State.placeSummary (s : State) : Bytes :=
  let c := s.prism.commitInfo
  let cyc := (List.range 8).map (fun n => tget 0 s.prism.laneCyc n)
  le64 s.prism.committedQ ++ le32 ((c.map (·.paths.length)).getD 0) ++ le32 s.pathBudget ++ le32 ((c.map (·.staged)).getD 0)
    ++ le32 s.xfadeReads ++ le32 s.xfadeAllow ++ le16 (s.scene.objs.filter (fun (e : Nat × Obj) => e.2.present)).length
    ++ le16 ((c.map (·.waiting.length)).getD 0) ++ le32 ((s.scene.active.map (·.tag)).getD 0) ++ le32 (cyc.foldl max 0)
    ++ cyc.flatMap (fun x => le8 (x * 100 / s.laneCap)) ++ le32 s.prism.epoch ++ le32 s.linesInUse.length
    ++ le32 ((c.map (·.moves)).getD 0) ++ zeros 4

/-- The committed paths a report describes. -/
def State.reportPaths (s : State) : List Path := (s.prism.commitInfo.map (·.paths)).getD []

/-- The generation in force of object j for the committed quantum (R114, R127); its own one before any is. -/
def State.genInForce (s : State) (j : Nat) : Nat :=
  ((s.prism.commitInfo.bind (fun u => u.gens.find? (fun e => e.1 == j))).map (·.2)).getD (s.obj j).gen

/-- The object record of R127. -/
def State.placeObject (s : State) (j : Nat) : Bytes :=
  let o := s.obj j
  le16 j ++ le16 (s.genInForce j) ++ le16 (s.reportPaths.filter (fun p => p.obj == j)).length ++ le16 o.waiting ++ le8 (j % 64)
    ++ le8 o.queue.length ++ le16 o.word ++ le32 ((o.align.line.map (fun x => (unitAddr x.1 + x.2 * 0x40000) / 256)).getD 0)

/-- The bus record of R127. -/
def State.placeBus (s : State) (b : Nat) : Bytes :=
  let ps := s.reportPaths.filter (fun p => p.bus == b)
  le16 b ++ le8 (if ps.isEmpty then 0xFF else tget 0 s.prism.busLane b) ++ le8 0 ++ le16 ps.length
    ++ le16 (ps.filter (fun p => p.xfade.isSome)).length

/-- The records of a report of kind 1 or 2 written to the buffer (R127). -/
def State.placeRecords (s : State) (kind first n : Nat) (b : Buf) : State × Resp :=
  let lim := if kind = 1 then 1024 else s.busCount
  let size := if kind = 1 then 16 else 8
  let ids := (List.range n).map (· + first)
  checked s [(decide (n = 0), Resp.errF stRange 4), (decide (lim < first + n), Resp.errF stRange 2),
      (!s.bufOk b || decide (b.len < size * n), Resp.errF stRange 8)]
    (s.bufWrite b (ids.flatMap (if kind = 1 then s.placeObject else s.placeBus)), Resp.ok (le16 n ++ zeros 2))

/-- PLACEMENT_REPORT. -/
def cmdPlacementReport : CmdDef :=
  ⟨0x1503, modesAny, lenIs 20, (fun p => u8At p 0 != 0), fun _ p s =>
    checked s [(decide (2 < u8At p 0), Resp.errF stRange 0)]
      (if u8At p 0 = 0 then (s, Resp.ok s.placeSummary) else s.placeRecords (u8At p 0) (u16At p 2) (u16At p 4) (bufAt p 8))⟩

/-- LAYOUT_LOAD (R48). -/
def execLayoutLoad (h : Hdr) (p : Bytes) (s : State) : Host.Outcome State Fault Refusal := cmdLayoutLoad.exec h p s
/-- LAYOUT_COMMIT (R48). -/
def execLayoutCommit (h : Hdr) (p : Bytes) (s : State) : Host.Outcome State Fault Refusal := cmdLayoutCommit.exec h p s
/-- AIR_SET (R39). -/
def execAirSet (h : Hdr) (p : Bytes) (s : State) : Host.Outcome State Fault Refusal := cmdAirSet.exec h p s
/-- OBJECT_UPDATE (R72). -/
def execObjectUpdate (h : Hdr) (p : Bytes) (s : State) : Host.Outcome State Fault Refusal := cmdObjectUpdate.exec h p s
/-- OBJECT_DIRECT_SET (R408). -/
def execObjectDirectSet (h : Hdr) (p : Bytes) (s : State) : Host.Outcome State Fault Refusal := cmdObjectDirectSet.exec h p s
/-- OBJECT_STATUS (R409). -/
def execObjectStatus (h : Hdr) (p : Bytes) (s : State) : Host.Outcome State Fault Refusal := cmdObjectStatus.exec h p s
/-- INPUT_MAP_SET (R75). -/
def execInputMapSet (h : Hdr) (p : Bytes) (s : State) : Host.Outcome State Fault Refusal := cmdInputMapSet.exec h p s
/-- OUTPUT_MAP_SET (R76). -/
def execOutputMapSet (h : Hdr) (p : Bytes) (s : State) : Host.Outcome State Fault Refusal := cmdOutputMapSet.exec h p s
/-- SCENE_RX_SET (R70). -/
def execSceneRxSet (h : Hdr) (p : Bytes) (s : State) : Host.Outcome State Fault Refusal := cmdSceneRxSet.exec h p s
/-- PRISM_HALF_SET (R98). -/
def execPrismHalfSet (h : Hdr) (p : Bytes) (s : State) : Host.Outcome State Fault Refusal := cmdPrismHalfSet.exec h p s
/-- ALIGN_DELAY_SET (R91). -/
def execAlignDelaySet (h : Hdr) (p : Bytes) (s : State) : Host.Outcome State Fault Refusal := cmdAlignDelaySet.exec h p s
/-- PRISM_AIR_SET (R101). -/
def execPrismAirSet (h : Hdr) (p : Bytes) (s : State) : Host.Outcome State Fault Refusal := cmdPrismAirSet.exec h p s
/-- PRISM_XFADE_SET (R101). -/
def execPrismXfadeSet (h : Hdr) (p : Bytes) (s : State) : Host.Outcome State Fault Refusal := cmdPrismXfadeSet.exec h p s
/-- PRISM_STATUS_GET (R410). -/
def execPrismStatusGet (h : Hdr) (p : Bytes) (s : State) : Host.Outcome State Fault Refusal := cmdPrismStatusGet.exec h p s
/-- META_CFG_SET (R113). -/
def execMetaCfgSet (h : Hdr) (p : Bytes) (s : State) : Host.Outcome State Fault Refusal := cmdMetaCfgSet.exec h p s
/-- TRAJ_MODEL_SET (R128). -/
def execTrajModelSet (h : Hdr) (p : Bytes) (s : State) : Host.Outcome State Fault Refusal := cmdTrajModelSet.exec h p s
/-- OBJECT_RELEASE (R107). -/
def execObjectRelease (h : Hdr) (p : Bytes) (s : State) : Host.Outcome State Fault Refusal := cmdObjectRelease.exec h p s
/-- PLACEMENT_REPORT (R127). -/
def execPlacementReport (h : Hdr) (p : Bytes) (s : State) : Host.Outcome State Fault Refusal := cmdPlacementReport.exec h p s

end Sys2Proof.Machine
end

