-- ==== Sys2Proof/Machine/Steps.lean ====
section
/-! DEFINITION. Time steps (R256 to R259): the length of a step, what every step does, and a step in PARK. What a step does to a running
pipeline is in Machine/Boundary.lean. -/

namespace Sys2Proof.Machine

/-- The length of a step in ticks, applied in tick t: rounded to the nearest tick, halves away from zero (R256). An absolute value is
taken against the system time of that tick. The counter does not fall below zero. -/
def StepReq.ticks (r : StepReq) (t : Nat) : Int :=
  let d : Int := 15625 * 65536
  let x := if r.absolute then divHalfAway (r.value * 384 - (t : Int) * d) d else divHalfAway (r.value * 384) d
  max (-(t : Int)) x

/-- A number of ticks in ns, rounded to the nearest. -/
def ticksNs (d : Int) : Int := divHalfAway (d * 15625) 384

/-- The report of a step of d ticks (R255 to R257, R473): counter, interrupt, trace record, the servo acquiring, the completion of its
command. -/
def State.stepReport (s : State) (r : StepReq) (d : Int) : State :=
  let s1 := ((s.bump (Reg.TIME_CNT 3)).raise Reg.TIME_INT_STATUS 4).traceRec 3 0x41 (zeros 2 ++ leS64 (ticksNs d))
  let s2 := if s1.time.servo = .freeRun then s1 else s1.setServo .acquiring
  let s3 := s2.onTime (fun x => { x with step := none, syncLocked := false, syncRun := 0 })
  match r.hdr with
  | none => s3
  | some h => s3.pieceDone? (s3.jobOf 0x5003 h) stOk (leS64 (ticksNs d))

/-- The counter moved by a step. The steps of the last 512 ticks are kept for the timestamps of frames that began before them (R245). -/
def State.moveTick (s : State) (d : Int) : State :=
  s.onTime (fun x => { x with
    tick := ((x.tick : Int) + d).toNat
    jumps := (x.eventTick, d) :: x.jumps.filter (fun e => decide (x.eventTick < e.1 + 512)) })

/-- A step in PARK (R257): the counter moves, and the boundaries with it. -/
def State.parkStep (s : State) : State :=
  match s.time.step with
  | none => s
  | some r =>
    let d := r.ticks s.time.tick
    let s1 := s.moveTick d
    (s1.onTime (fun x => { x with lastQ := x.tick / x.tq })).stepReport r d

/-- A step waits and no stage runs: it is applied in the next tick (R257). -/
def State.idleStep (s : State) : State := if s.live then s else s.parkStep

/-- k event ticks pass: the counter, the count of event ticks, and a SYNC_OUT pulse of w ticks (R266). -/
def TimeSt.pass (x : TimeSt) (w k : Nat) : TimeSt :=
  if k = 0 then x
  else
    let left := if x.syncDue then w + 1 - k else x.syncOutTicks - k
    { x with tick := x.tick + k, eventTick := x.eventTick + k, syncDue := false, syncOut := decide (0 < left), syncOutTicks := left }

/-- The counters whose conditions hold between two commands: a resident item on core n (64 + n), the tick not locked to media samples (120),
the Mirror gate closed (126) (R472). The other conditions begin and end within the work of one quantum (notes/assumptions/36). -/
def State.conditions (s : State) : List Nat :=
  ((List.range 8).filter (fun n => (s.resident n).isSome)).map (64 + ·) ++ (if s.tickLocked then [] else [120])
    ++ (if s.mir.gateOpen then [] else [126])

/-- The fab_clk cycles of k ticks: 25 each while the tick comes from the root PLL, and open otherwise (R32, R260). -/
def State.fabCycles (s : State) (k : Nat) : Nat := if s.tickLocked then 25 * k else Config.freeNat s.freeCnt

/-- What k ticks add to the counter of a condition that holds: every cycle in level mode, 1 in edge mode when it has become true (R468). A
chained odd counter ignores its own event (R469). -/
def State.condCount (s : State) (k i : Nat) : State :=
  if i % 2 = 1 ∧ s.bit (Reg.PERF_CFG i) 1 then s
  else if s.bit (Reg.PERF_CFG i) 0 then s.perfRaw i (s.fabCycles k)
  else if s.perf.cond.contains i then s
  else s.perfRaw i 1

/-- The conditions over k ticks. -/
def State.condPass (s : State) (k : Nat) : State :=
  if k = 0 then s
  else
    let s1 := (s.each s.conditions (fun t i => t.condCount k i)).onPerf (fun x => { x with cond := s.conditions })
    if s.tickLocked then s1 else s1.fresh

/-- k event ticks pass. -/
def State.passTicks (s : State) (k : Nat) : State :=
  (s.condPass k).onTime (fun x => x.pass (max 1 (s.fld Reg.CLK_SYNC_OUT 15 8)) k)

/-- The counter reaches tick t, if it has not passed it. -/
def State.tickTo (s : State) (t : Nat) : State := s.passTicks (t - s.time.tick)

/-- Whether the system counter runs: under power-on reset it stands at 0 (R242, R456), and in the test state nothing runs (R489). -/
def State.clockRuns (s : State) : Bool := s.sys.phase != .porst && s.sys.phase != .testMode

/-- An event tick without a command: a step that waits outside the live modes is applied in it (R257). -/
def State.idleTick (s : State) : State := if s.clockRuns then (s.passTicks 1).idleStep else s

/-- Whether a step waits that the next tick applies (R257). -/
def State.stepWaits (s : State) : Bool := !s.live && s.time.step.isSome

end Sys2Proof.Machine
end

