-- ==== Sys2Proof/Machine/MirrorRows.lean ====
section
/-! DEFINITION. The Mirror and hierarchy commands (R416, R417, R430, R438, R439), the switch tick (R426, R435), the interlock's inputs
(R427, R433, R435), and what Mirror does at a quantum boundary. -/

namespace Sys2Proof.Machine

/-! ### Commands -/

/-- MIRROR_CFG (R430): the view of a partner that was ignored takes the level of MIR_ACT_IN when Mirror is enabled. -/
def cmdMirrorCfg : CmdDef := mkCmd 0x8001 [.park] (lenIs 4) (fun _ p s =>
  let on := u8At p 0 == 1
  checked s [(decide (1 < u8At p 0), Resp.errF stRange 0), (decide (u8At p 1 < 2 ∨ 16 < u8At p 1), Resp.errF stRange 1)]
    (((s.setFld Reg.MIR_CTRL 0 0 (u8At p 0)).setFld Reg.MIR_CTRL 12 8 (u8At p 1)).onMir (fun x => { x with
      st := if on then .idle else .off, view := on && x.actIn, viewNext := none, hbOut := false }), Resp.ok))

/-- MIRROR_CFG (R430). -/
def execMirrorCfg (h : Hdr) (p : Bytes) (s : State) : Host.Outcome State Fault Refusal := cmdMirrorCfg.exec h p s

/-- PARTNER_SYNCED (R433): the steady level an active unit reads. -/
def State.partnerSynced (s : State) : Bool := s.mir.actInForce && s.mir.hbIn

/-- Why a HANDOVER is refused with ERR_STATE (R416, R439). -/
def State.handoverRefused (s : State) : Bool :=
  !s.mirrorOn || s.mir.handover.isSome || (s.sys.mode == .mirror && !s.mir.synced) || s.mir.st == .idle
    || (s.mir.st == .active && !s.partnerSynced)

/-- HANDOVER (R416, R439). -/
def cmdHandover : CmdDef := mkCmd 0x8002 [.render, .mirror] (lenIs 8) (fun h p s =>
  let q := s.quantumAt (u32At p 0)
  checked s [(!s.laterThanNext (u32At p 0), Resp.errF stRange 0), (s.handoverRefused, Resp.errS stState)]
    ((s.newJob h 0x8002 1 (le32 q)).onMir (fun x => { x with handover := some ⟨q, h, x.st, false⟩ }), Resp.accepted))

/-- HANDOVER (R416, R439). -/
def execHandover (h : Hdr) (p : Bytes) (s : State) : Host.Outcome State Fault Refusal := cmdHandover.exec h p s

/-- MIRROR_READY (R416, R438). -/
def cmdMirrorReady : CmdDef := mkCmd 0x8003 [.mirror] (lenIs 0) (fun _ _ s =>
  ((s.onMir (fun x => { x with ready := true })).judgeSynced, Resp.ok))

/-- MIRROR_READY (R416, R438). -/
def execMirrorReady (h : Hdr) (p : Bytes) (s : State) : Host.Outcome State Fault Refusal := cmdMirrorReady.exec h p s

/-- The 16 bytes of MIRROR_STATUS_GET. -/
def State.mirrorStatus (s : State) : Bytes :=
  le8 (b2n s.sys.straps.mirRole)
    ++ le8 (b2n s.mirrorOn + 2 * b2n (s.mir.st == .active) + 4 * b2n s.mir.actIn + 8 * b2n s.mir.synced + 16 * b2n s.mir.hbPresent)
    ++ le8 (s.fld Reg.MIR_CTRL 12 8) ++ le8 0 ++ le32 (s.rd (Reg.MIR_CNT 0)) ++ le32 (s.rd (Reg.MIR_CNT 1)) ++ le32 (s.rd Reg.MIR_LAST_CHANGE)

/-- MIRROR_STATUS_GET (R416). -/
def cmdMirrorStatusGet : CmdDef := mkCmd 0x8004 modesAny (lenIs 0) (fun _ _ s => (s, Resp.ok s.mirrorStatus))

/-- MIRROR_STATUS_GET (R416). -/
def execMirrorStatusGet (h : Hdr) (p : Bytes) (s : State) : Host.Outcome State Fault Refusal := cmdMirrorStatusGet.exec h p s

/-- The refusals of HIER_CFG (R417). -/
def hierChecks (p : Bytes) : List (Bool × Resp) :=
  let role := u8At p 0
  let id := u8At p 1
  [ (decide (2 < role), Resp.errF stRange 0), (decide (role = 2 ∧ (id = 0 ∨ 63 < id)) || decide (role = 1 ∧ id ≠ 0), Resp.errF stRange 1)
  , (decide (role = 1 ∧ (u8At p 2 = 0 ∨ 16 < u8At p 2)), Resp.errF stRange 2) ]

/-- A role taken (R440, R443): a worker's scene listeners 2 and 3 are the scene group and its own address, at the scene port; a unit that was
a worker and is one no longer gives them up. -/
def State.setHier (s : State) (p : Bytes) : State :=
  let group := u32At p 4
  let port := u16At p 8
  let h : Hier := { Hier.reset with
    role := u8At p 0, id := u8At p 1, interval := u8At p 2, group := group, scenePort := port, statusPort := u16At p 10, manager := u32At p 12 }
  let off : Listener := ⟨false, 0, 0⟩
  let s1 := s.onHier (fun _ => h)
  let put := fun (t : State) (k : Nat) (l : Listener) => t.onScene (fun x => { x with listeners := tset off x.listeners k l })
  if h.role = 2 then put (put s1 2 ⟨true, group, port⟩) 3 ⟨true, (s.mac 0).ip, port⟩
  else if s.hier.role = 2 then put (put s1 2 off) 3 off
  else s1

/-- HIER_CFG (R417). -/
def cmdHierCfg : CmdDef := mkCmd 0x8010 [.park] (lenIs 16) (fun _ p s => checked s (hierChecks p) (s.setHier p, Resp.ok))

/-- HIER_CFG (R417). -/
def execHierCfg (h : Hdr) (p : Bytes) (s : State) : Host.Outcome State Fault Refusal := cmdHierCfg.exec h p s

/-- The 28 bytes of HIER_STATUS_GET: the sequence is that of the last scene frame sent, or accepted by a worker. -/
def State.hierStatus (s : State) : Bytes :=
  le8 s.hier.role ++ le8 s.hier.id ++ zeros 2 ++ le64 s.presentMask ++ le64 s.lostMask
    ++ le32 (if s.hier.role = 1 then s.hier.seq else s.hier.lastScene) ++ zeros 4

/-- HIER_STATUS_GET (R417). -/
def cmdHierStatusGet : CmdDef := mkCmd 0x8011 modesAny (lenIs 0) (fun _ _ s => (s, Resp.ok s.hierStatus))

/-- HIER_STATUS_GET (R417). -/
def execHierStatusGet (h : Hdr) (p : Bytes) (s : State) : Host.Outcome State Fault Refusal := cmdHierStatusGet.exec h p s

/-! ### The switch tick (R426, R430, R435, R439) -/

/-- Whether the unit may raise ACT now: render-ready, no fatal error, not leaving for PARK. -/
def State.mayRaise (s : State) : Bool :=
  s.renderReady && s.sys.fatal.isNone && !s.mir.parking && !(s.sys.modeReq.map (fun r => r.target == Mode.park)).getD false

/-- A HANDOVER that cannot act ends with ERR_STATE. -/
def State.failHandover (s : State) (r : HandoverReq) : State :=
  let s1 := s.onMir (fun x => { x with handover := none })
  match s1.jobOf 0x8002 r.hdr with
  | some id => s1.endJob id stState (le32 (r.quantum % 2 ^ 32))
  | none => s1

/-- Whether the unit is what it was when the command was accepted (R439): ACTIVE, or a standby, armed or not. -/
def HandoverReq.sameRole (r : HandoverReq) (st : MirState) : Bool :=
  if r.at_ = .active then st == .active else st == .standby || st == .pending

/-- A HANDOVER at S(n): an ACTIVE unit lowers ACT, a standby that may raises it. -/
def State.switchHandover (s : State) (n : Nat) : State :=
  match s.mir.handover with
  | none => s
  | some r =>
    let act := fun (t : State) => ((t.onMir (fun x => { x with handover := some { r with acted := true } })).bump (Reg.MIR_CNT 7))
    if n < r.quantum ∨ r.acted then s
    else if r.quantum < n ∨ !r.sameRole s.mir.st then s.failHandover r
    else if r.at_ = .active then act (s.lowerAct n .standby)
    else if s.mayRaise then act (s.raiseAct n 2)
    else s.failHandover r

/-- Raises at S(n): an armed takeover; an IDLE unit with no partner active; with Mirror disabled any render-ready unit. -/
def State.switchRaise (s : State) (n : Nat) : State :=
  if !s.mayRaise then s
  else if !s.mirrorOn then
    (if (s.sys.mode == .render || s.sys.mode == .measure) && !s.mir.actOut then s.raiseAct n 3 else s)
  else if s.mir.st = .pending then s.raiseAct n s.mir.cause
  else if s.mir.st = .idle ∧ s.sys.mode ≠ .mirror ∧ !s.mir.view ∧ !s.mir.actIn then s.raiseAct n 3
  else s

/-- Leaving RENDER or MEASURE for PARK: ACT is lowered at S(n), and PARK is entered at B(n) (R435). -/
def State.switchPark (s : State) (n : Nat) : State :=
  let s1 := if s.mir.actOut then s.lowerAct n .idle else s
  s1.onMir (fun x => { x with parking := true, st := if x.st = .active ∨ x.st = .standby then .idle else x.st })

/-- Whether a MODE_SET asks for PARK from a live mode. -/
def State.leaving (s : State) : Bool := s.live && (s.sys.modeReq.map (fun r => r.target == Mode.park)).getD false

/-- Whether ACT is to be lowered for a watchdog expiry (R429). -/
def State.wdtLower (s : State) : Bool := s.mir.actOut && (s.sys.fatal.map (fun f => f.cause == 0x0B)).getD false

/-- SWITCH_TICK (R426): the tick 512 ticks before the next boundary. -/
def execSwitchTick (s : State) : Host.Outcome State Fault Refusal :=
  if s.sys.phase ≠ .running then .next s
  else
    let n := s.nextBoundary
    let s0 := s.tickTo (s.switchTick n)
    if !s0.live then .next (s0.switchHandover n)
    else if s0.leaving then .next ((s0.switchPark n).switchHandover n)
    else if s0.wdtLower then .next (s0.lowerAct n .idle)
    else .next ((s0.switchHandover n).switchRaise n)

/-! ### Inputs of the interlock (R427, R433, R435) -/

/-- MIR_ACT_IN_CHANGE (R427): an edge of MIR_ACT_IN, observed 2 ticks after its time stamp (R31). -/
def execMirActInChange (level : Bool) (s : State) : Host.Outcome State Fault Refusal :=
  if s.sys.phase ≠ .running then .next (s.onMir (fun x => { x with actIn := level }))
  else if s.mir.actIn = level then .next s
  else .next (s.actInEdge level (s.time.tick - 2))

/-- ACT_IN_CONFIRMED (R435): MIR_ACT_IN is observed low on a second tick. -/
def execActInConfirmed (s : State) : Host.Outcome State Fault Refusal :=
  if s.sys.phase ≠ .running ∨ s.mir.actIn ∨ !s.mirrorOn then .next s else .next s.actInConfirmed

/-- HEARTBEAT_CHECK (R433): the check 64 ticks after a boundary: whether an edge of MIR_HB_IN fell in the window, edges outside every
window since the last check, and the level of MIR_HB_IN. -/
def execHeartbeatCheck (present : Bool) (strays : Nat) (level : Bool) (s : State) : Host.Outcome State Fault Refusal :=
  if s.sys.phase ≠ .running then .next s
  else
    let s1 := s.onMir (fun x => { x with hbIn := level && !present && strays == 0 })
    if s1.mirrorOn ∧ (s1.mir.st = .standby ∨ s1.mir.st = .pending) then .next ((s1.hbStray strays).hbCheck present).keepReady
    else .next s1

/-! ### Boundaries (R428, R435, R438, R439) -/

/-- MIRROR entered at the present boundary; a new period of waiting for the heartbeat starts. -/
def State.toMirror (s : State) : State :=
  (s.onMir (fun x => { x with hbRun := 0, hbMiss := 0, hbPresent := false })).setMode .mirror 1

/-- A MODE_SET PARK whose unit moves into MIRROR before its entry boundary is abandoned (R405). -/
def State.dropLeaving (s : State) : State := if s.leaving && !s.mir.parking then s.abandonMode else s

/-- The changes between RENDER and MIRROR that count for the present boundary (R435). -/
def State.mirrorModes (s : State) : State :=
  if s.mir.parking ∨ s.sys.fatal.isSome then s
  else if s.sys.mode = .render ∧ (s.mir.st = .standby ∨ s.mir.st = .pending) then s.dropLeaving.toMirror
  else if s.sys.mode = .mirror ∧ s.mir.raiseFor.isSome ∧ s.mir.st ≠ .standby then s.setMode .render 1
  else if s.sys.mode = .render ∧ s.mir.st = .idle ∧ s.mir.view then
    (s.dropLeaving.onMir (fun x => { x with st := .standby, ready := false, synced := false })).toMirror
  else s

/-- A HANDOVER that acted completes after its boundary, with its MIRROR_TAKEOVER where it raised ACT (R435, R439). -/
def State.endHandover (s : State) (n : Nat) : State :=
  match s.mir.handover with
  | none => s
  | some r =>
    if !r.acted ∨ n < r.quantum then s
    else
      let s0 := s.onMir (fun x => { x with handover := none })
      let s1 := if r.at_ = .active then s0 else s0.post 0x8001 (le32 (r.quantum % 2 ^ 32) ++ le8 2)
      match s1.jobOf 0x8002 r.hdr with
      | some id => s1.endJob id stOk (le32 (r.quantum % 2 ^ 32))
      | none => s1

/-- Mirror at boundary n: the view, the gate, the mode changes, a HANDOVER's completion. -/
def State.mirrorBoundary (s : State) (n : Nat) : State :=
  let s1 := ((s.viewBoundary n).gateBoundary).mirrorModes
  (s1.onMir (fun x => { x with raiseFor := none, lowerFor := none })).endHandover n

end Sys2Proof.Machine
end

