-- ==== Sys2Proof/Machine/Facet.lean ====
section
/-! DEFINITION. The meanings of the Facet instruction commands: core n's resident task instance executes the instruction
(R278 to R291), and the debug commands of a core. -/

namespace Sys2Proof.Machine

/-- The outcome of an instruction on core n. -/
def facetNext (s : State) (n : Nat) (o : FOp) : Host.Outcome State Fault Refusal := .next (s.facetExec n o)

/-! ### The MAC class (R280) -/

/-- MUL (R280): Aa = s·t. -/
def execMulM (core : Nat) (a : MacArgs) (s : State) : Host.Outcome State Fault Refusal := facetNext s core (.mac 0 a)

/-- MAC (R280): Aa = Aa + s·t. -/
def execMac (core : Nat) (a : MacArgs) (s : State) : Host.Outcome State Fault Refusal := facetNext s core (.mac 1 a)

/-- MSB (R280): Aa = Aa − s·t. -/
def execMsb (core : Nat) (a : MacArgs) (s : State) : Host.Outcome State Fault Refusal := facetNext s core (.mac 2 a)

/-- MACQ (R280): Aa = the quantised value of Aa + s·t. -/
def execMacq (core : Nat) (a : MacArgs) (s : State) : Host.Outcome State Fault Refusal := facetNext s core (.mac 3 a)

/-- DMAC (R280): Aa + s·t and Ab + s·u. -/
def execDmac (core : Nat) (a : MacArgs) (s : State) : Host.Outcome State Fault Refusal := facetNext s core (.mac 4 a)

/-- DMSB (R280): Aa − s·t and Ab − s·u. -/
def execDmsb (core : Nat) (a : MacArgs) (s : State) : Host.Outcome State Fault Refusal := facetNext s core (.mac 5 a)

/-- CMAC (R280): Aa + s·t and Ab + u·v. -/
def execCmac (core : Nat) (a : MacArgs) (s : State) : Host.Outcome State Fault Refusal := facetNext s core (.mac 6 a)

/-- CMSB (R280): Aa + s·t and Ab − u·v. -/
def execCmsb (core : Nat) (a : MacArgs) (s : State) : Host.Outcome State Fault Refusal := facetNext s core (.mac 7 a)

/-! ### The accumulator class (R286, R276) -/

/-- ACC_CLR (R286): Aa = 0. -/
def execAccClr (core : Nat) (a : AccArgs) (s : State) : Host.Outcome State Fault Refusal := facetNext s core (.acc 0 a)

/-- ACC_ADD (R286): Aa += Ab. -/
def execAccAdd (core : Nat) (a : AccArgs) (s : State) : Host.Outcome State Fault Refusal := facetNext s core (.acc 1 a)

/-- ACC_SUB (R286): Aa −= Ab. -/
def execAccSub (core : Nat) (a : AccArgs) (s : State) : Host.Outcome State Fault Refusal := facetNext s core (.acc 2 a)

/-- ADDD (R286): Aa += Dm in bits 63:32. -/
def execAddd (core : Nat) (a : AccArgs) (s : State) : Host.Outcome State Fault Refusal := facetNext s core (.acc 3 a)

/-- SUBD (R286): Aa −= Dm in bits 63:32. -/
def execSubd (core : Nat) (a : AccArgs) (s : State) : Host.Outcome State Fault Refusal := facetNext s core (.acc 4 a)

/-- NEG (R286): Aa = −Aa. -/
def execNegA (core : Nat) (a : AccArgs) (s : State) : Host.Outcome State Fault Refusal := facetNext s core (.acc 5 a)

/-- ABS (R286): Aa = |Aa|. -/
def execAbsA (core : Nat) (a : AccArgs) (s : State) : Host.Outcome State Fault Refusal := facetNext s core (.acc 6 a)

/-- ACC_TFR (R286): Ab = Aa. -/
def execAccTfr (core : Nat) (a : AccArgs) (s : State) : Host.Outcome State Fault Refusal := facetNext s core (.acc 7 a)

/-- QNT (R286): Aa takes its quantised value. -/
def execQnt (core : Nat) (a : AccArgs) (s : State) : Host.Outcome State Fault Refusal := facetNext s core (.acc 8 a)

/-- SAT (R286): Aa takes its saturated quantised value. -/
def execSatA (core : Nat) (a : AccArgs) (s : State) : Host.Outcome State Fault Refusal := facetNext s core (.acc 9 a)

/-- ACC_ASL (R286): Aa shifted left by k. -/
def execAccAsl (core : Nat) (a : AccArgs) (s : State) : Host.Outcome State Fault Refusal := facetNext s core (.acc 10 a)

/-- ACC_ASR (R286): Aa shifted right by k. -/
def execAccAsr (core : Nat) (a : AccArgs) (s : State) : Host.Outcome State Fault Refusal := facetNext s core (.acc 11 a)

/-- ASH (R286): Aa shifted by signed Dm. -/
def execAsh (core : Nat) (a : AccArgs) (s : State) : Host.Outcome State Fault Refusal := facetNext s core (.acc 12 a)

/-- NORM (R276): Aa normalised, the count into Dm. -/
def execNormA (core : Nat) (a : AccArgs) (s : State) : Host.Outcome State Fault Refusal := facetNext s core (.acc 13 a)

/-- EXP (R276): the count of NORM into Dm. -/
def execExpA (core : Nat) (a : AccArgs) (s : State) : Host.Outcome State Fault Refusal := facetNext s core (.acc 14 a)

/-- ACC_MAX (R286): Aa = the larger of Aa and Ab. -/
def execAccMax (core : Nat) (a : AccArgs) (s : State) : Host.Outcome State Fault Refusal := facetNext s core (.acc 15 a)

/-- ACC_MIN (R286): Aa = the smaller of Aa and Ab. -/
def execAccMin (core : Nat) (a : AccArgs) (s : State) : Host.Outcome State Fault Refusal := facetNext s core (.acc 16 a)

/-- ACC_CMP (R286): flags of Aa − Ab. -/
def execAccCmp (core : Nat) (a : AccArgs) (s : State) : Host.Outcome State Fault Refusal := facetNext s core (.acc 17 a)

/-! ### The data class (R286) -/

/-- DALU_ADD (R286): Dd = Ds + operand. -/
def execDaluAdd (core : Nat) (a : DataArgs) (s : State) : Host.Outcome State Fault Refusal := facetNext s core (.dat 0 a)

/-- DALU_SUB (R286): Dd = Ds − operand. -/
def execDaluSub (core : Nat) (a : DataArgs) (s : State) : Host.Outcome State Fault Refusal := facetNext s core (.dat 1 a)

/-- AND (R286): Dd = Ds and operand. -/
def execAndD (core : Nat) (a : DataArgs) (s : State) : Host.Outcome State Fault Refusal := facetNext s core (.dat 2 a)

/-- OR (R286): Dd = Ds or operand. -/
def execOrD (core : Nat) (a : DataArgs) (s : State) : Host.Outcome State Fault Refusal := facetNext s core (.dat 3 a)

/-- XOR (R286): Dd = Ds exclusive-or operand. -/
def execXorD (core : Nat) (a : DataArgs) (s : State) : Host.Outcome State Fault Refusal := facetNext s core (.dat 4 a)

/-- NOT (R286): Dd = not Ds. -/
def execNotD (core : Nat) (a : DataArgs) (s : State) : Host.Outcome State Fault Refusal := facetNext s core (.dat 5 a)

/-- DALU_ASL (R286): Dd = Ds shifted left. -/
def execDaluAsl (core : Nat) (a : DataArgs) (s : State) : Host.Outcome State Fault Refusal := facetNext s core (.dat 6 a)

/-- DALU_ASR (R286): Dd = Ds shifted right arithmetically. -/
def execDaluAsr (core : Nat) (a : DataArgs) (s : State) : Host.Outcome State Fault Refusal := facetNext s core (.dat 7 a)

/-- LSR (R286): Dd = Ds shifted right logically. -/
def execLsr (core : Nat) (a : DataArgs) (s : State) : Host.Outcome State Fault Refusal := facetNext s core (.dat 8 a)

/-- DALU_MIN (R286): Dd = the smaller. -/
def execDaluMin (core : Nat) (a : DataArgs) (s : State) : Host.Outcome State Fault Refusal := facetNext s core (.dat 9 a)

/-- DALU_MAX (R286): Dd = the larger. -/
def execDaluMax (core : Nat) (a : DataArgs) (s : State) : Host.Outcome State Fault Refusal := facetNext s core (.dat 10 a)

/-- DALU_CMP (R286): flags of Ds − operand. -/
def execDaluCmp (core : Nat) (a : DataArgs) (s : State) : Host.Outcome State Fault Refusal := facetNext s core (.dat 11 a)

/-- MULL (R286): Dd = low 32 bits of the integer product. -/
def execMull (core : Nat) (a : DataArgs) (s : State) : Host.Outcome State Fault Refusal := facetNext s core (.dat 12 a)

/-! ### Moves and addresses (R281 to R283, R286) -/

/-- MOVE (R281): one or two accesses of X and Y memory. -/
def execMoveI (core : Nat) (a : MovArgs) (s : State) : Host.Outcome State Fault Refusal := facetNext s core (.mov a)

/-- TFR (R283): DST takes SRC. -/
def execTfr (core : Nat) (a : RegArgs) (s : State) : Host.Outcome State Fault Refusal := facetNext s core (.reg 0 a)

/-- LDS (R283): DST takes IMM16, sign-extended. -/
def execLds (core : Nat) (a : RegArgs) (s : State) : Host.Outcome State Fault Refusal := facetNext s core (.reg 1 a)

/-- LDH (R283): DST bits 31:16 take IMM16. -/
def execLdh (core : Nat) (a : RegArgs) (s : State) : Host.Outcome State Fault Refusal := facetNext s core (.reg 2 a)

/-- LDA (R286): load IMM16. -/
def execLda (core : Nat) (a : AddrArgs) (s : State) : Host.Outcome State Fault Refusal := facetNext s core (.addr 0 a)

/-- ADDA (R286): add IMM16 under the pointer's mode. -/
def execAdda (core : Nat) (a : AddrArgs) (s : State) : Host.Outcome State Fault Refusal := facetNext s core (.addr 1 a)

/-- ADDL (R286): add IMM16 linearly. -/
def execAddl (core : Nat) (a : AddrArgs) (s : State) : Host.Outcome State Fault Refusal := facetNext s core (.addr 2 a)

/-- MOVA (R286): copy an address register. -/
def execMova (core : Nat) (a : AddrArgs) (s : State) : Host.Outcome State Fault Refusal := facetNext s core (.addr 3 a)

/-- TFRA (R286): load from Dm. -/
def execTfra (core : Nat) (a : AddrArgs) (s : State) : Host.Outcome State Fault Refusal := facetNext s core (.addr 4 a)

/-- TFRD (R286): Dm takes the register. -/
def execTfrd (core : Nat) (a : AddrArgs) (s : State) : Host.Outcome State Fault Refusal := facetNext s core (.addr 5 a)

/-! ### Loops and control (R284, R285) -/

/-- RPT (R287): repeat the next instruction. -/
def execRpt (core : Nat) (reg : Bool) (n : Nat) (s : State) : Host.Outcome State Fault Refusal := facetNext s core (.rptN reg n)

/-- LOOP (R288): run the following body. -/
def execLoopI (core : Nat) (reg : Bool) (body n : Nat) (s : State) : Host.Outcome State Fault Refusal := facetNext s core (.loopN reg body n)

/-- LEAVE (R284): leave the innermost LOOP if the condition holds. -/
def execLeaveI (core cc : Nat) (s : State) : Host.Outcome State Fault Refusal := facetNext s core (.leave cc)

/-- NOP (R285): no operation. -/
def execNopI (core : Nat) (s : State) : Host.Outcome State Fault Refusal := facetNext s core .nop

/-- BRA (R285): branch if the condition holds. -/
def execBra (core cc t : Nat) (s : State) : Host.Outcome State Fault Refusal := facetNext s core (.bra cc t)

/-- BSR (R285): call if the condition holds. -/
def execBsr (core cc t : Nat) (s : State) : Host.Outcome State Fault Refusal := facetNext s core (.bsr cc t)

/-- RTS (R285): return if the condition holds. -/
def execRts (core cc : Nat) (s : State) : Host.Outcome State Fault Refusal := facetNext s core (.rts cc)

/-- JMP (R285): branch to Dm. -/
def execJmp (core m : Nat) (s : State) : Host.Outcome State Fault Refusal := facetNext s core (.jmp m)

/-- YIELD (R285): end the instance. -/
def execYieldI (core : Nat) (s : State) : Host.Outcome State Fault Refusal := facetNext s core .yield

/-- TRAP (R285): a message to firmware with k and D0. -/
def execTrapI (core k : Nat) (s : State) : Host.Outcome State Fault Refusal := facetNext s core (.trap (k % 256))

/-- FENCE (R285): wait until every far write is complete; `wait` cycles pass. -/
def execFenceI (core wait : Nat) (s : State) : Host.Outcome State Fault Refusal := facetNext s core (.fence wait)

/-- SETM (R285): mode bits of SR under a mask. -/
def execSetm (core mask v : Nat) (s : State) : Host.Outcome State Fault Refusal := facetNext s core (.setm mask v)

/-- SEG (R285): FSEG takes k. -/
def execSegI (core k : Nat) (s : State) : Host.Outcome State Fault Refusal := facetNext s core (.seg k)

/-! ### Long forms and far access (R286, R291) -/

/-- LDI (R286): register takes imm32. -/
def execLdi (core : Nat) (a : LongArgs) (s : State) : Host.Outcome State Fault Refusal := facetNext s core (.long 0 a ⟨0, false⟩)

/-- ADDI (R286): Dd += imm32. -/
def execAddi (core : Nat) (a : LongArgs) (s : State) : Host.Outcome State Fault Refusal := facetNext s core (.long 1 a ⟨0, false⟩)

/-- CMPI (R286): flags of Dd − imm32. -/
def execCmpi (core : Nat) (a : LongArgs) (s : State) : Host.Outcome State Fault Refusal := facetNext s core (.long 2 a ⟨0, false⟩)

/-- FLD (R291): far load. -/
def execFld (core : Nat) (a : LongArgs) (f : Far) (s : State) : Host.Outcome State Fault Refusal := facetNext s core (.long 3 a f)

/-- FST (R291): far store. -/
def execFst (core : Nat) (a : LongArgs) (f : Far) (s : State) : Host.Outcome State Fault Refusal := facetNext s core (.long 4 a f)

/-! ### Debug and limits (R379, R294) -/

/-- STEP (R379): a halted core executes one instruction; `f` is how a far access in it ends. -/
def execStepCore (core : Nat) (f : Far) (s : State) : Host.Outcome State Fault Refusal := .next (s.facetStep core f)

/-- HALT (R379): HALT is set; it acts only with debug unlocked. -/
def execHaltCore (core : Nat) (s : State) : Host.Outcome State Fault Refusal := 
  .next (if core < 8 ∧ s.coreExists core then s.raise (Reg.FCORE_CTRL core) 1 else s)

end Sys2Proof.Machine
end

