-- ==== Sys2Proof/Machine/LensRows.lean ====
section
/-! DEFINITION. Lens in time and its commands: fades and their queue (R141 to R145), tail blocks and grants (R135 to R138), bank
loads (R150, R151, R451), settings and reports (R131, R147, R148, R411, R412). -/

namespace Sys2Proof.Machine

/-! ### Loads in PARK (R451) -/

/-- The job of the load that is carried out now in PARK: the oldest. -/
def State.parkLoad (s : State) : Option Nat :=
  let js := s.lens.loads.map (·.job) ++ s.meas.loads.map (·.job)
  match js with
  | [] => none
  | j :: rest => some (rest.foldl min j)

/-- The domains of PARK: LENS and DDR while a Lens load is carried out, PORT while a compensation load is, DDR during a sweep; once the
loads a MODE_SET waits for have ended, the domains of the mode it asks for (R451). -/
def State.parkDomains (s : State) : State :=
  if s.sys.mode ≠ .park then s
  else if s.sys.modeReq.isSome && s.parkLoad.isNone then s.wakeFor ((s.sys.modeReq.map (·.target)).getD .render)
  else
    let j := s.parkLoad
    let lens := s.lens.loads.any (fun l => j == some l.job)
    let comp := s.meas.loads.any (fun l => j == some l.job)
    let ddr := lens || s.ddrc.sweep.isSome
    let base := s.sys.pwr - (s.sys.pwr &&& (32 + 128 + 512))
    (s.setPwr (base + 32 * b2n lens + 128 * b2n ddr + 512 * b2n comp)).onDdrc (fun x => { x with selfRefresh := !ddr })

/-! ### Fades and their queue (R142 to R145, R412) -/

/-- The buses that count as fading, with their partitions. -/
def State.fadingNow (s : State) : List (Nat × Nat) :=
  (s.lens.buses.filter (fun (e : Nat × LensBus) => e.2.fading)).map (fun e => (e.1, e.2.parts))

/-- The limit of fading partitions. -/
def State.fadeLimit (s : State) : Nat := if s.time.rate96 then 2048 else 4096

/-- The job detail of a LENS_SWAP after a fade that started at a quantum (R422). -/
def swapDetail (old : Bytes) (start : Int) (late : Bool) : Bytes :=
  le32 (start % (2 ^ 32 : Nat)).toNat ++ le8 (if late then 1 else u8At old 4)

/-- The boundary at which a timed request joins the queue (R145). -/
def SwapReq.due (r : SwapReq) : Option Nat := r.timed.map (· - 32)

/-- A request joins the queue of waiting buses, or the timed list until its boundary. -/
def State.joinQueue (s : State) (b : Nat) (r : SwapReq) : State :=
  let s1 := s.setLensBus b { s.lensBus b with st := .waiting, wait := some r }
  match r.due with
  | some d => if s.time.lastQ < d then s1.onLens (fun x => { x with timed := x.timed ++ [(d, b)] })
              else s1.onLens (fun x => { x with queue := x.queue ++ [b] })
  | none => s1.onLens (fun x => { x with queue := x.queue ++ [b] })

/-- A bus leaves the queue. -/
def State.leaveQueue (s : State) (b : Nat) : State :=
  s.onLens (fun x => { x with queue := x.queue.filter (· != b), timed := x.timed.filter (fun e => e.2 != b) })

/-- LENS_FADE_DONE (R412). -/
def State.fadeEvent (s : State) (b : Nat) (f : Fade) : State :=
  let d := le16 b ++ le8 f.req.target ++ le8 (b2n f.req.late) ++ le32 (f.start % (2 ^ 32 : Nat)).toNat
  ((s.bump (Reg.LENS_CNT 2)).raise Reg.LENS_INT_STATUS 1).postRaw 0x2001 2 0 0 0 f.req.hdr.tag d

/-- What becomes of a held request when its bus's fade has ended (R142). -/
def State.freeHeld (s : State) (b : Nat) (r : SwapReq) : State :=
  if r.target ≠ (s.lensBus b).active then s.joinQueue b r
  else (s.bump (Reg.LENS_CNT 5)).pieceDrop (some r.job)

/-- The fade of a bus ends (R142, R412). -/
def State.fadeEnd (s : State) (b : Nat) : State :=
  let v := s.lensBus b
  match v.fade with
  | none => s
  | some f =>
    let s1 := s.setLensBus b { v with active := f.req.target, fade := none, st := .steady, held := none }
    let s2 := s1.fadeEvent b f
    let s3 := s2.pieceDone f.req.job stOk (swapDetail (s2.jobDetail f.req.job) f.start f.req.late)
    match v.held with
    | none => s3
    | some r => s3.freeHeld b r

/-- The fades that end at a boundary, by bus. -/
def State.endFades (s : State) (n : Nat) : State :=
  let due := s.lens.buses.filter (fun (e : Nat × LensBus) =>
    (e.2.fade.map (fun f => decide (f.start + ((f.req.f + 2 + s.osLag : Nat) : Int) ≤ (n : Int)))).getD false)
  s.each due (fun t e => t.fadeEnd e.1)

/-- The timed requests due at a boundary join the queue (R145). -/
def State.joinTimed (s : State) (n : Nat) : State :=
  let due := s.lens.timed.filter (fun e => decide (e.1 ≤ n))
  s.onLens (fun x => { x with queue := x.queue ++ due.map (·.2), timed := x.timed.filter (fun e => decide (n < e.1)) })

/-- Admits the request of a bus at a boundary: its fade starts 32 quanta later (R144). -/
def State.admitFade (s : State) (n b : Nat) : State :=
  let v := s.lensBus b
  match v.wait with
  | none => s
  | some r =>
    let late := r.timed.isSome && r.timed != some (n + 32)
    (s.setLensBus b { v with wait := none, st := .fading, fade := some ⟨(n + 32 : Nat), { r with late := late }⟩ }).perfAdd 20

/-- Admission in strict queue order (R143). -/
def State.admitQueue (s : State) (n : Nat) : List Nat → State
  | [] => s.onLens (fun x => { x with queue := [] })
  | b :: bs =>
    let now := s.fadingNow
    let parts := now.foldl (fun a e => a + e.2) 0
    if now.length < 256 ∧ parts + (s.lensBus b).parts ≤ s.fadeLimit then (s.admitFade n b).admitQueue n bs
    else ((s.onLens (fun x => { x with queue := b :: bs })).bump (Reg.LENS_CNT 3) (bs.length + 1)).perfAdd 21 (bs.length + 1)

/-- The fade work of boundary n (R142, R143). -/
def State.lensBoundary (s : State) (n : Nat) : State :=
  let s1 := (s.endFades n).joinTimed n
  s1.admitQueue n s1.lens.queue

/-! ### LENS_SWAP -/

/-- Replaces the request a waiting bus holds: the new F and start replace the old, the place is kept (R142). A timed request that has not
joined yet joins at its new boundary, or now. -/
def State.replaceWait (s : State) (b : Nat) (old new : SwapReq) : State :=
  let r := { new with job := old.job, hdr := old.hdr }
  if s.lens.queue.contains b then s.setLensBus b { s.lensBus b with wait := some r }
  else (s.leaveQueue b).joinQueue b r

/-- A swap entry on a bus (R142); `r` is the request it makes. -/
def State.swapEntry (s : State) (b : Nat) (r : SwapReq) : State :=
  let v := s.lensBus b
  match v.st with
  | .steady => if r.target = v.active then s else (s.addPiece r.job).joinQueue b r
  | .waiting =>
    match v.wait with
    | none => s
    | some old =>
      if r.target = v.active then
        ((s.leaveQueue b).setLensBus b { v with st := .steady, wait := none }).pieceDrop (some old.job)
      else s.replaceWait b old r
  | _ =>
    let s1 := s.addPiece r.job
    let s2 := s1.setLensBus b { v with st := .fadingQueued, held := some r }
    match v.held with
    | none => s2
    | some old => s2.pieceDrop (some old.job)

/-- The full quantum index of a timed swap's start (R20, R145); it is too early unless B(S − 32) is later than the next boundary. -/
def State.swapStart (s : State) (q : Nat) : Nat := s.quantumAt ((q + 2 ^ 32 - 32) % 2 ^ 32) + 32

/-- What is wrong with an entry's fields. -/
def State.swapBad (s : State) (i : Nat) (e : Bytes) : Option Resp :=
  if s.busCount ≤ u16At e 0 then some (Resp.err stRange i (8 + 4 * i))
  else if 1 < u8At e 2 then some (Resp.err stRange i (10 + 4 * i)) else none

/-- What the state of an entry's bus forbids: a pending grant change, an idle bank that is loading (R136, R142). -/
def State.swapState (s : State) (i : Nat) (e : Bytes) : Option Resp :=
  let v := s.lensBus (u16At e 0)
  let k := u8At e 2
  if !v.grants.isEmpty || (v.st == .steady && k != v.active && v.loading k) then some (Resp.err stState i (8 + 4 * i)) else none

/-- The swaps of a command in PARK complete at once (R153). -/
def State.swapPark (s : State) (es : List Bytes) : State :=
  s.each es (fun t e => t.setLensBus (u16At e 0) { t.lensBus (u16At e 0) with active := u8At e 2 })

/-- The swaps of a command elsewhere. -/
def State.swapLive (s : State) (h : Hdr) (p : Bytes) (es : List Bytes) : State × Resp :=
  let id := s.mbx.nextJob
  let timed := if bitOf (u8At p 6) 0 then some (s.swapStart (u32At p 0)) else none
  let req := fun (e : Bytes) => (⟨u8At e 2, u16At p 4, timed, false, h, id⟩ : SwapReq)
  ((s.newJob h 0x2002 1 (zeros 5)).each es (fun t e => t.swapEntry (u16At e 0) (req e))).settleJob id

/-- LENS_SWAP. -/
def cmdLensSwap : CmdDef := mkCmd 0x2002 modesCfg (fun p => p.length == 8 + 4 * u8At p 7) (fun h p s =>
  let es := entries 4 (p.drop 8)
  let n := u8At p 7
  let early := bitOf (u8At p 6) 0 && !s.laterThanNext (u32At p 0 + 2 ^ 32 - 32)
  checked s [(decide (u16At p 4 = 0 ∨ 1024 < u16At p 4), Resp.errF stRange 4), (decide (n = 0 ∨ 58 < n), Resp.errF stRange 7)]
    (checkedEntries s es s.swapBad
      (checked s [(early, Resp.errF stRange 0)]
        (checkedEntries s es s.swapState
          (if s.sys.mode == .park then (s.swapPark es, Resp.ok) else s.swapLive h p es)))))

/-! ### Tail grants (R135, R136) -/

/-- The grant a bus has or will have when every pending change is in force. -/
def LensBus.target (b : LensBus) : Nat := (b.grants.getLast?.map (·.1)).getD b.parts

/-- The most partitions a bus has until every pending change is in force. -/
def LensBus.mostParts (b : LensBus) : Nat := b.grants.foldl (fun a g => max a g.1) b.parts

/-- The tail pool in partitions and the limit of one bus (R135). -/
def State.tailPool (s : State) : Nat := if s.time.rate96 then 7168 else 14336
/-- The most partitions of one bus. -/
def State.tailMax (s : State) : Nat := if s.time.rate96 then 32 else 64

/-- Units of 2 MiB the tail regions need: 24 bytes per tap (R139). -/
def State.tailUnits (s : State) : Nat :=
  let parts := s.lens.buses.foldl (fun a (e : Nat × LensBus) => a + e.2.mostParts) 0
  (parts * 6144 + 0x1FFFFF) / 0x200000

/-- The tail regions placed to the size they need (R124); nothing when they do not fit. -/
def State.placeTails (s : State) : Option State :=
  let n := s.tailUnits
  if (s.ddrc.alloc.filter (fun e => e.2 == regionTag 2 0)).length = n then some s
  else ((s.unplace 2 0).place 2 0 n).map (·.2)

/-- Whether a bank holds zero in every partition from p on (R136). -/
def LensBus.zeroFrom (b : LensBus) (p : Nat) : Bool :=
  [b.bank0, b.bank1].all (fun k => (k.map (fun x => (x.tail.drop (256 * p)).all f32IsZero)).getD true)

/-- A bank with its tail cut to p partitions. -/
def cutBank (p : Nat) (k : Option LensBank) : Option LensBank := k.map (fun x => { x with tail := x.tail.take (256 * p) })

/-- A grant in force (R136): lost partitions leave both banks and the FDL. -/
def LensBus.setParts (b : LensBus) (p : Nat) : LensBus :=
  { b with parts := p, bank0 := cutBank p b.bank0, bank1 := cutBank p b.bank1, fdl := b.fdl.take p
           bad := b.bad.filter (fun f => decide (f.2 < p)), grants := b.grants.drop 1 }

/-- A grant change in force from tail block m on: a bus that had no tail owes its first result after that block (R138). -/
def LensBus.grantAt (b : LensBus) (m p : Nat) : LensBus :=
  { b.setParts p with dueFrom := if b.parts = 0 then m + 1 else b.dueFrom }

/-- What is wrong with an entry's fields. -/
def State.tailBad (s : State) (i : Nat) (e : Bytes) : Option Resp :=
  if s.busCount ≤ u16At e 0 then some (Resp.err stRange i (4 * i))
  else if s.tailMax < u16At e 2 then some (Resp.err stRange i (4 * i + 2)) else none

/-- What the state of an entry's bus forbids (R136). -/
def State.tailState (s : State) (i : Nat) (e : Bytes) : Option Resp :=
  let v := s.lensBus (u16At e 0)
  let p := u16At e 2
  let bad := v.st != .steady || v.load0 || v.load1
    || (s.sys.mode != .park && decide (p < v.parts) && !v.zeroFrom p)
  if bad then some (Resp.err stState i (4 * i)) else none

/-- The first tail block boundary at least 64 quanta after now, as a tail block index (R136). -/
def State.grantBlock (s : State) : Nat :=
  let n := (s.time.tick + 64 * s.time.tq + s.time.tq - 1) / s.time.tq
  (n + 31) / 32

/-- One grant change recorded for its boundary; one that changes nothing has no effect. -/
def State.grantEntry (s : State) (m job : Nat) (e : Bytes) : State :=
  let b := u16At e 0
  let v := s.lensBus b
  let p := u16At e 2
  if v.target = p then s
  else (s.addPiece job).setLensBus b { v with grants := v.grants ++ [(p, m, job)] }

/-- The grants of all buses together. -/
def State.grantSum (s : State) : Nat := s.lens.buses.foldl (fun a (e : Nat × LensBus) => a + e.2.target) 0

/-- LENS_TAIL_SET in the live modes: room in DRAM, room in the pool, then the change waits for its boundary. -/
def State.tailLive (s : State) (h : Hdr) (es : List Bytes) : State × Resp :=
  let id := s.mbx.nextJob
  let m := s.grantBlock
  let s1 := (s.newJob h 0x2003 1 (le32 (m % 2 ^ 32))).each es (fun t e => t.grantEntry m id e)
  match s1.placeTails with
  | none => (s, Resp.resource 0xFFFF 0 0xFFFF)
  | some s2 => if s.tailPool < s2.grantSum then (s, Resp.errS stBudget) else s2.settleJob id

/-- LENS_TAIL_SET in PARK: the grants are recorded (R153). -/
def State.tailPark (s : State) (es : List Bytes) : State × Resp :=
  let s1 := s.each es (fun t e => t.setLensBus (u16At e 0) ((t.lensBus (u16At e 0)).setParts (u16At e 2)))
  if s.tailPool < s1.grantSum then (s, Resp.errS stBudget) else (s1, Resp.ok)

/-- LENS_TAIL_SET. -/
def cmdLensTailSet : CmdDef := mkCmd 0x2003 modesCfg (lenEntries 0 4 60) (fun h p s =>
  let es := entries 4 p
  checkedEntries s es s.tailBad (checkedEntries s es s.tailState
    (if s.sys.mode == .park then s.tailPark es else s.tailLive h es)))

/-- A pending grant change of a bus takes effect (R136). -/
def State.applyGrant (s : State) (m b : Nat) (g : Nat × Nat × Nat) : State :=
  if g.2.1 ≤ m then (s.setLensBus b ((s.lensBus b).grantAt m g.1)).pieceDone g.2.2 stOk (le32 (g.2.1 % 2 ^ 32)) else s

/-- The pending grants whose boundary has come take effect, each bus's in order. -/
def State.applyGrants (s : State) (m : Nat) : State :=
  s.each s.lens.buses (fun t (e : Nat × LensBus) => t.each e.2.grants (fun u g => u.applyGrant m e.1 g))

/-! ### Tail blocks (R137, R138, R140) -/

/-- A complete tail block of a bus: its FDL entry, and whether its result will be on time. `k` is the block's index. -/
def LensBus.endBlock (b : LensBus) (k : Nat) (late : Bool) (fails : List (Nat × Nat)) : LensBus :=
  let blk := b.block.take 256
  let b1 := { b with block := b.block.drop 256, prev := blk }
  if b.parts = 0 then b1
  else
    let prev := if b.prev.length = 256 then b.prev else List.replicate 256 0
    { b1 with fdl := ((k, prev ++ blk) :: b.fdl).take b.parts, tailDue := if late then b.tailDue else (k + 2, fails) :: b.tailDue }

/-- One failed read of a block: its consequence for the controller (R349, R350), and for Lens (R140). -/
def State.tailRead (s : State) (b k : Nat) (f : Nat × Nat) : State :=
  let v := s.lensBus b
  let a := if f.1 = 0xFF then s.tailAddr b 0 ((k - f.2) % v.parts) else s.tailAddr b (f.1 + 1) f.2
  let s1 := s.fresh.eccOutcome (if f.1 = 0xFF then 0 else 1) (a + 64 * (Config.freeNat s.freeCnt % 32)) .lasting
  (s1.setLensBus b ((s1.lensBus b).spoil f.1 f.2)).tailEcc b f.1 k

/-- The tail bursts a bus moves for one block (R139). -/
def State.tailBursts (s : State) (v : LensBus) : State :=
  if v.parts = 0 then s else (s.perfAdd 24 (v.parts * 64 + (if v.fading then v.parts * 32 else 0))).perfAdd 25 32

/-- The complete block of one bus. -/
def State.busBlock (s : State) (k : Nat) (late : List Nat) (fails : TailFails) (b : Nat) : State :=
  let v := s.lensBus b
  if v.block.length < 256 then s
  else
    let fs := v.failsOf ((fails.filter (fun f => f.1 == b)).map (·.2))
    let s1 := (s.setLensBus b (v.endBlock k (late.contains b) fs)).tailBursts v
    s1.each fs (fun t f => t.tailRead b k f)

/-- The smallest margin seen (R138). -/
def State.noteMargin (s : State) (spare : Nat) : State := s.onLens (fun x => { x with margin := min x.margin spare })

/-- TAIL_BLOCK_BOUNDARY (R138, R136): grants whose boundary has come take effect; where Lens has rendered the last quantum of tail block k, each
bus's block enters its delay line, and its result for block k + 2 will be on time but for the buses named late. `fails` names the
reads that stayed uncorrectable: bus, bank (0xFF the delay line), partition. `spare` is the smallest number of quanta to spare. -/
def execTailBlockBoundary (late : List Nat) (fails : TailFails) (spare : Nat) (s : State) :
    Host.Outcome State Fault Refusal :=
  if !s.live then .next s
  else
    let s1 := s.applyGrants (s.time.lastQ / 32)
    let due := s1.lens.buses.filter (fun (e : Nat × LensBus) => decide (256 ≤ e.2.block.length))
    if due.isEmpty then .next s1
    else
      let k := (s.time.lastQ - 2 - s.osLag) / 32 - 1
      .next ((s1.each due (fun t e => t.busBlock k late fails e.1)).noteMargin (if late.isEmpty then spare else 0))

/-- MARGIN_CLR (R138): LENS_TAIL_MARGIN becomes 63. -/
def execMarginClr (s : State) : Host.Outcome State Fault Refusal :=
  if !s.targetOn 7 Reg.LENS_CTRL then .next (s.busError 0 7 Reg.LENS_CTRL 5 4 true)
  else .next (s.onLens (fun x => { x with margin := 63 }))

/-! ### Bank loads (R150, R151) -/

/-- The length of an image with its header at the start of a byte string. -/
def imageLen (b : Bytes) : Nat := 2400 + 1024 * u16At b 6

/-- The images in a buffer of len bytes: the next image from its header while it fits, at most n. -/
def cutImages : Nat → Bytes → Option (List Bytes)
  | 0, b => if b.isEmpty then some [] else none
  | n + 1, b => if b.length < imageLen b then none else (cutImages n (b.drop (imageLen b))).map (b.take (imageLen b) :: ·)

/-- The index of the image at which a buffer ends wrongly. -/
def cutFault : Nat → Nat → Bytes → Nat
  | 0, i, _ => i - 1
  | n + 1, i, b => if b.length < imageLen b then i else cutFault n (i + 1) (b.drop (imageLen b))

/-- The fields of an image's header (R150). -/
def State.imageHead (s : State) (i : Nat) (b : Bytes) : Option Resp :=
  firstBad [ (u16At b 0 != 0x4C4B, Resp.err stRange i 0), (u8At b 2 != 1, Resp.err stRange i 2), (decide (1 < u8At b 3), Resp.err stRange i 3)
    , (decide (s.busCount ≤ u16At b 4), Resp.err stRange i 4), (decide ((s.lensBus (u16At b 4)).parts < u16At b 6), Resp.err stRange i 6)
    , (u32At b 8 != imageLen b, Resp.err stRange i 8) ]

/-- The rate an image was designed for. -/
def State.imageRate (s : State) (i : Nat) (b : Bytes) : Option Resp :=
  if bitOf (u32At b 16) 0 != s.time.rate96 then some (Resp.err stRange i 16) else none

/-- The coefficients of an image from byte 32 on. -/
def imageCoefs (b : Bytes) : List Nat := (entries 4 (b.drop 32)).map (fun e => u32At e 0)

/-- The byte offset of coefficient j: biquads, head and tail follow one another. -/
def coefOff (j : Nat) : Nat := 32 + 4 * j

/-- Whether a section is unstable: |a2| ≥ 1, or |a1| ≥ 1 + a2; the offset within the section. -/
def unstable (c : List Nat) : Option Nat :=
  let a1 := c.getD 3 0
  let a2 := c.getD 4 0
  let (x, y, e) := alignExp (f32Sig a2) (f32Exp a2) (f32Sig f32One) (f32Exp f32One)
  let (u, v, _) := alignExp (f32Sig (f32Abs a1)) (f32Exp a1) (x + y) e
  if f32Le f32One (f32Abs a2) then some 16 else if v ≤ u then some 12 else none

/-- The coefficients of an image (R151). -/
def imageCoefBad (i : Nat) (b : Bytes) : Option Resp :=
  let cs := imageCoefs b
  match findIdx (fun _ c => f32Special c || f32Subnormal c) cs with
  | some (j, _) => some (Resp.err stRange i (coefOff j))
  | none =>
    (List.range 16).findSome? (fun n =>
      (unstable ((cs.drop (5 * n)).take 5)).map (fun o => Resp.err stRange i (32 + 20 * n + o)))

/-- An image that names the bus and bank of an earlier one. -/
def imageTwice (is : List Bytes) (i : Nat) (b : Bytes) : Option Resp :=
  if (is.take i).any (fun x => u16At x 4 == u16At b 4 && u8At x 3 == u8At b 3) then some (Resp.err stRange i 3) else none

/-- An image for a bank that may not be loaded now (R142). -/
def State.imageBusy (s : State) (i : Nat) (b : Bytes) : Option Resp :=
  let v := s.lensBus (u16At b 4)
  if u8At b 3 = v.active ∨ v.st ≠ .steady ∨ v.loading (u8At b 3) then some (Resp.err stBankBusy i 3) else none

/-- An image for a bus with a pending grant change (R136). -/
def State.imageGrant (s : State) (i : Nat) (b : Bytes) : Option Resp :=
  if !(s.lensBus (u16At b 4)).grants.isEmpty then some (Resp.err stState i 4) else none

/-- The checks of R151 on the images, each over every image, in its order. -/
def State.imagesBad (s : State) (is : List Bytes) : Option Resp :=
  (badEntry is s.imageHead).orElse (fun _ => (badEntry is s.imageRate).orElse (fun _ => (badEntry is imageCoefBad).orElse (fun _ =>
    (badEntry is (imageTwice is)).orElse (fun _ => (badEntry is s.imageBusy).orElse (fun _ => badEntry is s.imageGrant)))))

/-- A bank marked loading, its biquad state cleared (R133). -/
def LensBus.startLoad (b : LensBus) (k : Nat) : LensBus :=
  { b with load0 := b.load0 || k == 0, load1 := b.load1 || k == 1, bq := b.bq.filter (fun e => e.1 / 16 != k) }

/-- A bank load starts (R151): in PARK under R451. -/
def State.startLoad (s : State) (h : Hdr) (is : List Bytes) : State × Resp :=
  let left := is.map (fun b => (u16At b 4, u8At b 3, b))
  let put := fun (t : State) =>
    let t1 := t.newJob h 0x2001 1 (zeros 4)
    let t2 := t1.each left (fun u e => u.setLensBus e.1 ((u.lensBus e.1).startLoad e.2.1))
    (t2.onLens (fun x => { x with loads := x.loads ++ [⟨t.mbx.nextJob, left, left.length, t.sys.mode == .park⟩] })).parkDomains
  if s.sys.mode = .park then
    match s.placeTails with
    | none => (s, Resp.resource 0xFFFF 0 0xFFFF)
    | some t => (put t, Resp.accepted)
  else (put s, Resp.accepted)

/-- LENS_BANK_LOAD. -/
def cmdLensBankLoad : CmdDef := mkBulk 0x2001 modesCfg (lenIs 16) (fun h p s =>
  let n := u16At p 0
  let b := bufAt p 4
  let d := s.bufRead b b.len
  checked s [(!s.bufOk b, Resp.errF stRange 4), (decide (n = 0 ∨ 1024 < n), Resp.errF stRange 0)]
    (match cutImages n d with
     | none => (s, Resp.err stRange (cutFault n 0 d) 8)
     | some is =>
       match s.imagesBad is with
       | some r => (s, r)
       | none => s.startLoad h is))

/-- The bank an image holds; partitions it does not name are zero (R150). -/
def bankOf (rate96 : Bool) (b : Bytes) : LensBank :=
  let cs := imageCoefs b
  ⟨rate96, u32At b 12, cs.take 80, (cs.drop 80).take 512, cs.drop 592⟩

/-- A bank complete in a bus. -/
def LensBus.endLoad (b : LensBus) (k : Nat) (bank : LensBank) : LensBus :=
  let b1 := { b with bad := b.bad.filter (fun f => f.1 != k) }
  if k = 0 then { b1 with load0 := false, bank0 := some bank } else { b1 with load1 := false, bank1 := some bank }

/-- One bank of a load becomes complete: its chain runs from the next quantum, and the last one ends the load (R151, R422). -/
def State.loadBank (s : State) (l : LensLoad) (b k : Nat) (img : Bytes) : State :=
  let rest := l.left.filter (fun e => !(e.1 == b && e.2.1 == k))
  let s1 := (s.setLensBus b ((s.lensBus b).endLoad k (bankOf (bitOf (u32At img 16) 0) img))).perfAdd 22
  if rest.isEmpty then
    let s2 := (s1.onLens (fun x => { x with loads := x.loads.filter (fun y => y.job != l.job) })).raise Reg.LENS_INT_STATUS 0
    s2.parkDomains.endJob l.job stOk (le32 (s.time.lastQ % 2 ^ 32))
  else s1.onLens (fun x => { x with loads := x.loads.map (fun y => if y.job = l.job then { y with left := rest } else y) })

/-- LENS_LOAD_DONE (R151): a bank that is loading becomes complete at a boundary. In PARK only the load being carried out proceeds. -/
def execLensLoadDone (bus bank : Nat) (s : State) : Host.Outcome State Fault Refusal :=
  let mine := fun (l : LensLoad) => l.left.any (fun e => e.1 == bus && e.2.1 == bank) && (s.sys.mode != .park || s.parkLoad == some l.job)
  match s.lens.loads.find? mine with
  | none => .next s
  | some l =>
    match l.left.find? (fun e => e.1 == bus && e.2.1 == bank) with
    | none => .next s
    | some e => .next (s.loadBank l bus bank e.2.2)

/-! ### Settings (R131, R147, R148) -/

/-- What is wrong with a trim entry. -/
def State.trimBad (s : State) (i : Nat) (e : Bytes) : Option Resp :=
  let g := s16At e 2
  if s.busCount ≤ u16At e 0 then some (Resp.err stRange i (4 + 8 * i))
  else if g ≠ -32768 ∧ (g < -12000 ∨ 2400 < g) then some (Resp.err stRange i (6 + 8 * i))
  else if 1 < u8At e 4 then some (Resp.err stRange i (8 + 8 * i)) else none

/-- The signed linear gain of a trim as binary32. -/
def trimGain (g : Int) (invert : Bool) : Nat :=
  let v := f32OfFx (gainOfDb g)
  if invert then f32Negate v else v

/-- One trim: a fresh ramp from the gain reached, at once in PARK (R131, R153). -/
def State.trimEntry (s : State) (r : Nat) (e : Bytes) : State :=
  let b := u16At e 0
  let v := s.lensBus b
  let inv := u8At e 4 == 1
  let g := trimGain (s16At e 2) inv
  let v1 := { v with trim := s16At e 2, invert := inv, gain := v.gainNow, goal := g, rampLen := 8 * r, rampLeft := 8 * r }
  s.setLensBus b (if s.live then v1 else { v1 with gain := g, rampLeft := 0 })

/-- LENS_TRIM_SET. -/
def cmdLensTrimSet : CmdDef := mkCmd 0x2004 modesCfg (lenEntries 4 8 29) (fun _ p s =>
  let es := entries 8 (p.drop 4)
  checked s [(decide (u16At p 0 = 0 ∨ 1024 < u16At p 0), Resp.errF stRange 0)]
    (checkedEntries s es s.trimBad (s.each es (fun t e => t.trimEntry (u16At p 0) e), Resp.ok)))

/-- What is wrong with a limiter entry. -/
def State.limBad (s : State) (i : Nat) (e : Bytes) : Option Resp :=
  let r := fun (o : Nat) => Resp.err stRange i (4 + 12 * i + o)
  firstBad [ (decide (s.busCount ≤ u16At e 0), r 0), (decide (1 < u8At e 2), r 2), (decide (48 < u8At e 3), r 3)
    , (decide (s16At e 4 < -6000 ∨ 0 < s16At e 4), r 4), (decide (u16At e 6 = 0 ∨ 10000 < u16At e 6), r 6)
    , (decide (u32At e 8 < 50 ∨ 100000 < u32At e 8), r 8) ]

/-- One limiter setting. -/
def State.limEntry (s : State) (e : Bytes) : State :=
  let v := s.lensBus (u16At e 0)
  s.setLensBus (u16At e 0) { v with
    limEn := u8At e 2 == 1, knee := u8At e 3, thr := s16At e 4, release := u16At e 6, attack := u32At e 8 }

/-- LENS_LIMIT_SET. -/
def cmdLensLimitSet : CmdDef := mkCmd 0x2005 modesCfg (lenEntries 4 12 19) (fun _ p s =>
  let es := entries 12 (p.drop 4)
  checkedEntries s es s.limBad (s.each es (fun t e => t.limEntry e), Resp.ok))

/-- LENS_DET_SET. -/
def cmdLensDetSet : CmdDef := mkCmd 0x2006 modesCfg (lenIs 16) (fun _ p s =>
  let d : DetProfile := ⟨u16At p 4, u16At p 6, u16At p 8, u16At p 10, u16At p 12⟩
  let r := fun (i : Nat) => Resp.errF stRange i
  checked s [ (decide (7 < u8At p 0), r 0), (decide (10000 < u16At p 4), r 4), (decide (u16At p 6 = 0 ∨ 10000 < u16At p 6), r 6)
    , (decide (u16At p 8 = 0 ∨ 10000 < u16At p 8), r 8), (decide (u16At p 10 = 0 ∨ 1000 < u16At p 10), r 10)
    , (decide (u16At p 12 = 0 ∨ 10000 < u16At p 12), r 12) ]
    (s.onLens (fun x => { x with profiles := tset DetProfile.init x.profiles (u8At p 0) d }), Resp.ok))

/-- LENS_DET_MAP. -/
def cmdLensDetMap : CmdDef := mkCmd 0x2007 modesCfg (lenEntries 0 4 60) (fun _ p s =>
  let es := entries 4 p
  checkedEntries s es (fun i e =>
      if s.busCount ≤ u16At e 0 then some (Resp.err stRange i (4 * i))
      else if 7 < u8At e 2 then some (Resp.err stRange i (4 * i + 2)) else none)
    (s.each es (fun t e => t.setLensBus (u16At e 0) { t.lensBus (u16At e 0) with profile := u8At e 2 }), Resp.ok))

/-! ### Reports (R411) -/

/-- The gain reduction in 0.01 dB (LENS_GRn). -/
def LensBus.reduction (b : LensBus) : Nat :=
  if f32Special b.gr then 65535 else min 65535 (fxRound (-(fxOfF32 b.gr)) 100).toNat

/-- The meter record of a bus. -/
def LensBus.meter (b : LensBus) : Bytes :=
  leS16 (levelOf false b.det.peak) ++ leS16 (levelOf true b.det.ms) ++ leS16 (levelOf false b.det.env) ++ le16 b.reduction

/-- The state code of LENS_BUSn. -/
def FadeSt.code : FadeSt → Nat
  | .steady => 0 | .waiting => 1 | .fading => 2 | .fadingQueued => 2

/-- The word of LENS_BUSn. -/
def LensBus.word (b : LensBus) (rate96 : Bool) : Nat :=
  b.active + 2 * b.st.code + 8 * b2n b.held.isSome + 16 * ((b.held.map (·.target)).getD 0) + 32 * b2n b.load0 + 64 * b2n b.load1
    + 128 * b2n (!b.grants.isEmpty) + 256 * b.parts + 2 ^ 15 * b2n (f32Lt b.gr 0) + 2 ^ 16 * b2n b.clip
    + 2 ^ 17 * b2n (b.mismatch rate96 0 || b.mismatch rate96 1)

/-- The set tag of the active bank; the flat set's is 0. -/
def LensBus.tag (b : LensBus) : Nat := ((b.bank b.active).map (·.tag)).getD 0

/-- The checks of a range of buses, and the records of its buses. -/
def State.busRange (s : State) (p : Bytes) (rec_ : LensBus → Bytes) : State × Resp :=
  let first := u16At p 0
  let n := u16At p 2
  checked s [(decide (n = 0 ∨ 30 < n), Resp.errF stRange 2), (decide (s.busCount < first + n), Resp.errF stRange 0)]
    (s, Resp.ok ((List.range n).flatMap (fun i => rec_ (s.lensBus (first + i)))))

/-- LENS_METER_GET. -/
def cmdLensMeterGet : CmdDef := mkCmd 0x2008 modesAny (lenIs 4) (fun _ p s => s.busRange p LensBus.meter)

/-- LENS_STATUS_GET. -/
def cmdLensStatusGet : CmdDef := mkCmd 0x2009 modesAny (lenIs 4) (fun _ p s =>
  s.busRange p (fun b => le32 (b.word s.time.rate96) ++ le32 b.tag))

/-- LENS_BANK_LOAD (R151). -/
def execLensBankLoad (h : Hdr) (p : Bytes) (s : State) : Host.Outcome State Fault Refusal := cmdLensBankLoad.exec h p s
/-- LENS_SWAP (R142). -/
def execLensSwap (h : Hdr) (p : Bytes) (s : State) : Host.Outcome State Fault Refusal := cmdLensSwap.exec h p s
/-- LENS_TAIL_SET (R135). -/
def execLensTailSet (h : Hdr) (p : Bytes) (s : State) : Host.Outcome State Fault Refusal := cmdLensTailSet.exec h p s
/-- LENS_TRIM_SET (R131). -/
def execLensTrimSet (h : Hdr) (p : Bytes) (s : State) : Host.Outcome State Fault Refusal := cmdLensTrimSet.exec h p s
/-- LENS_LIMIT_SET (R147). -/
def execLensLimitSet (h : Hdr) (p : Bytes) (s : State) : Host.Outcome State Fault Refusal := cmdLensLimitSet.exec h p s
/-- LENS_DET_SET (R148). -/
def execLensDetSet (h : Hdr) (p : Bytes) (s : State) : Host.Outcome State Fault Refusal := cmdLensDetSet.exec h p s
/-- LENS_DET_MAP (R148). -/
def execLensDetMap (h : Hdr) (p : Bytes) (s : State) : Host.Outcome State Fault Refusal := cmdLensDetMap.exec h p s
/-- LENS_METER_GET (R411). -/
def execLensMeterGet (h : Hdr) (p : Bytes) (s : State) : Host.Outcome State Fault Refusal := cmdLensMeterGet.exec h p s
/-- LENS_STATUS_GET (R153). -/
def execLensStatusGet (h : Hdr) (p : Bytes) (s : State) : Host.Outcome State Fault Refusal := cmdLensStatusGet.exec h p s

end Sys2Proof.Machine
end

