-- ==== Sys2Proof/Machine/Mic.lean ====
section
/-! DEFINITION. The microphone channels (R154 to R164): decimation chain, compensation, detectors, their boundary work, and the
writing of capture frames (R171). -/

namespace Sys2Proof.Machine

/-! ### The decimation chain (R157 to R159) -/

/-- A microphone channel. -/
def State.mic (s : State) (c : Nat) : Mic := tget Mic.init s.meas.mics c

/-- The state with a microphone channel changed. -/
def State.setMic (s : State) (c : Nat) (v : Mic) : State := s.onMeas (fun x => { x with mics := tset Mic.init x.mics c v })

/-- An integer in the 16-bit arithmetic of the CIC, which its 13-bit growth never exceeds. -/
def wrap16 (i : Int) : Int := toSigned 16 (ofSigned 16 i)

/-- The four integrators on one PDM bit (R156: 1 is +1, 0 is −1). -/
def cicBit (st : List Int) (bit : Bool) : List Int :=
  let x : Int := if bit then 1 else -1
  let a := wrap16 (st.getD 0 0 + x)
  let b := wrap16 (st.getD 1 0 + a)
  let c := wrap16 (st.getD 2 0 + b)
  [a, b, c, wrap16 (st.getD 3 0 + c)]

/-- The four combs on one sample at 8 fs: the new delays and the output. -/
def cicComb (st : List Int) (x : Int) : List Int × Int :=
  let a := wrap16 (x - st.getD 0 0)
  let b := wrap16 (a - st.getD 1 0)
  let c := wrap16 (b - st.getD 2 0)
  ([x, a, b, c], wrap16 (c - st.getD 3 0))

/-- The samples of history a half-band stage keeps. -/
def hbDepth : Nat := 128

/-- A value as Q1.31. -/
def q31 (i : Int) : Int := clampInt (-(2 ^ 31)) (2 ^ 31 - 1) i

/-- The input sample on which the response of half-band 2 or 3 is centred: its delay is the difference between the delays of R158
at its output and at its input. -/
def hbCentre (preset stage : Nat) : Nat :=
  if stage = 2 then 1 + 2 * tapDelay preset 1 - tapDelay preset 2 else 1 + 2 * tapDelay preset 0 - tapDelay preset 1

/-- The coefficient of a stage for input sample i back (R158): the group delay of half-bands 2 and 3 is constant, so they are
symmetric; half-band 1 also pads the delay of the CIC. -/
def hbTap (preset stage i : Nat) : Int :=
  let v := fun (k : Nat) => clampInt (-(2 ^ 31)) (2 ^ 31 - 1) (Config.halfTap preset stage k)
  let c := hbCentre preset stage
  if stage = 1 then v i else if 2 * c < i then 0 else v (if i ≤ c then c - i else i - c)

/-- A half-band stage on its input, newest first (R157): 32-bit data, products added in 40 bits, a sample in 32 bits; the place of the
binary point and the rounding are the model's (notes/assumptions/65). -/
def hbStage (preset stage : Nat) (h : List Int) : Int :=
  let acc := ((List.range hbDepth).zip h).foldl (fun (a : Int) (e : Nat × Int) =>
    clampInt (-(2 ^ 39)) (2 ^ 39 - 1) (a + shrOpen 45 (hbTap preset stage e.1 * e.2) 24)) 0
  q31 (shrOpen 46 acc 7)

/-- Decimation by 8 of 8 bits: the channel and one sample at 8 fs, as Q1.31. -/
def Mic.cic (m : Mic) (bits : List Bool) : Mic × Int :=
  let it := bits.foldl cicBit m.integ
  let (cb, y) := cicComb m.comb (it.getD 3 0)
  ({ m with integ := it, comb := cb }, q31 (y * 2 ^ 19))

/-- Two samples at 8 fs give one at 4 fs. -/
def Mic.half1 (m : Mic) (preset : Nat) (a b : Int) : Mic × Int :=
  let h := ([b, a] ++ m.h1).take hbDepth
  ({ m with h1 := h }, hbStage preset 1 h)

/-- Two samples at 4 fs give one at 2 fs. -/
def Mic.half2 (m : Mic) (preset : Nat) (a b : Int) : Mic × Int :=
  let h := ([b, a] ++ m.h2).take hbDepth
  ({ m with h2 := h }, hbStage preset 2 h)

/-- Two samples at 2 fs give one at fs. -/
def Mic.half3 (m : Mic) (preset : Nat) (a b : Int) : Mic × Int :=
  let h := ([b, a] ++ m.h3).take hbDepth
  ({ m with h3 := h }, hbStage preset 3 h)

/-- One sample at 4 fs from 16 bits, kept for the 4 fs tap. -/
def Mic.quarter (m : Mic) (preset : Nat) (bits : List Bool) : Mic × Int :=
  let (m1, a) := m.cic (bits.take 8)
  let (m2, b) := m1.cic (bits.drop 8)
  let (m3, y) := m2.half1 preset a b
  ({ m3 with tap4 := m3.tap4 ++ [y] }, y)

/-- One sample at 2 fs from 32 bits, kept for the 2 fs tap. -/
def Mic.halfRate (m : Mic) (preset : Nat) (bits : List Bool) : Mic × Int :=
  let (m1, a) := m.quarter preset (bits.take 16)
  let (m2, b) := m1.quarter preset (bits.drop 16)
  let (m3, y) := m2.half2 preset a b
  ({ m3 with tap2 := m3.tap2 ++ [y] }, y)

/-- One sample at fs from 64 bits. -/
def Mic.sampleIn (m : Mic) (preset : Nat) (bits : List Bool) : Mic :=
  let (m1, a) := m.halfRate preset (bits.take 32)
  let (m2, b) := m1.halfRate preset (bits.drop 32)
  let (m3, y) := m2.half3 preset a b
  { m3 with tap1 := m3.tap1 ++ [y] }

/-- Whether a sample index lies in a span. -/
def inSpan (t : Nat) (e : Nat × Nat) : Bool := decide (e.1 ≤ t ∧ t < e.2)

/-- Whether a channel is within its start-up transient (R159). -/
def Mic.settling (m : Mic) (now : Nat) : Bool := m.on && decide (now < m.settleTo)

/-- Whether the channel delivers zero at a sample index (R156). -/
def Mic.quietAt (m : Mic) (t : Nat) : Bool :=
  (m.stuckAt.map (fun a => decide (a ≤ t))).getD false || (m.wasStuck.map (inSpan t)).getD false

/-- The bits of microphone c in sample k of a quantum, from the levels of its pin at the edges of the PDM clock (R154): bit 2i of w at
rising edge i, which microphone 2n takes, bit 2i + 1 at falling edge i, which microphone 2n + 1 takes. -/
def pdmBits (w c k : Nat) : List Bool := (List.range 64).map (fun i => bitOf w (2 * (64 * k + i) + c % 2))

/-- The data pin of a microphone: microphones 2n and 2n + 1 share TDM_D(56 + n) (R154). -/
def micPin (c : Nat) : Nat := 56 + c / 2

/-- The 512 bits of microphone c in quantum q received (R154, R157). -/
def Mic.receive (m : Mic) (preset q c w : Nat) : Mic :=
  let m1 := { m with tap1 := [], tap2 := [], tap4 := [], quiet := (List.range 8).map (fun k => m.quietAt (8 * q + k)) }
  (List.range 8).foldl (fun x k => x.sampleIn preset (pdmBits w c k)) m1

/-- A channel restarted from zero filter state at a sample index (R159). -/
def Mic.restart (m : Mic) (preset at_ : Nat) : Mic :=
  { m with on := true, integ := [0, 0, 0, 0], comb := [0, 0, 0, 0], h1 := [], h2 := [], h3 := [], tap1 := [], tap2 := [], tap4 := []
           quiet := [], hist := [], settleTo := at_ + 2 * tapDelay preset 0 }

/-- A channel switched off: it delivers nothing. -/
def Mic.off (m : Mic) : Mic :=
  { m with on := false, tap1 := [], tap2 := [], tap4 := [], quiet := [], settleTo := 0, stuck := false, stuckAt := none, det := Det.init }

/-! ### Compensation (R161, R162) and detectors (R163) -/

/-- The taps of a compensation bank: tap 0 = 1.0 after reset. -/
def Mic.taps (m : Mic) (k : Nat) : List Nat :=
  (((if k = 0 then m.comp0 else m.comp1).map (·.taps)).getD (f32One :: List.replicate 31 0))

/-- Whether a bank is loading. -/
def Mic.loading (m : Mic) (k : Nat) : Bool := if k = 0 then m.load0 else m.load1

/-- A Q1.31 sample as binary32. -/
def f32OfQ31 (i : Int) : Nat := f32Round false i (-31)

/-- The compensation FIR on sample k of quantum q. -/
def Mic.compOut (m : Mic) (q : Int) (k : Nat) : Nat :=
  match m.fade with
  | none => firSum m.hist (m.taps m.active)
  | some (st, r) =>
    if st ≤ q ∧ q < st + r.f then
      f32Mix (fadeWeight (8 * (q - st).toNat + k) (8 * r.f)) (firSum m.hist (m.taps m.active)) (firSum m.hist (m.taps r.target))
    else firSum m.hist (m.taps m.active)

/-- One fs sample through compensation, conversion and detectors: the channel, the fs output, whether it saturated. -/
def Mic.process (m : Mic) (p : DetProfile) (fs : Nat) (q : Int) (k : Nat) (x : Int) : Mic × Int × Bool :=
  let m1 := { m with hist := (f32OfQ31 x :: m.hist).take 32 }
  let (o, sat) := f32ToQ31 (m1.compOut q k)
  let out := if m.quiet.getD k false then 0 else o
  ({ m1 with det := m1.det.step p fs (f32OfQ31 out), clip := m1.clip || sat }, out, sat)

/-- The eight fs samples of the quantum received last: the channel, the fs outputs, the saturated samples. -/
def Mic.processAll (m : Mic) (p : DetProfile) (fs : Nat) (q : Int) : Nat → List Int → Mic × List Int × Nat
  | _, [] => (m, [], 0)
  | k, x :: xs =>
    let (m1, o, sat) := m.process p fs q k x
    let (m2, os, n) := m1.processAll p fs q (k + 1) xs
    (m2, o :: os, n + b2n sat)

/-! ### Fades (R162) -/

/-- The fade of a channel ends at B(S + F + 1). -/
def State.compFadeEnd (s : State) (c : Nat) (n : Int) : State :=
  let m := s.mic c
  match m.fade with
  | none => s
  | some (st, r) =>
    if n < st + r.f + 1 then s
    else
      let m1 := { m with active := r.target, fade := none, st := .steady, held := none }
      let s1 := (s.setMic c m1).raise Reg.DECIM_INT_STATUS 4
      let s2 := s1.pieceDone r.job stOk (swapDetail (s1.jobDetail r.job) st false)
      match m.held with
      | none => s2
      | some h =>
        if h.target ≠ r.target then s2.setMic c { m1 with st := .waiting, wait := some h }
        else (s2.bump (Reg.DECIM_CNT 3)).pieceDrop (some h.job)

/-- A waiting request is admitted at the next boundary: it fades from the quantum after it. -/
def State.compAdmit (s : State) (c n : Nat) : State :=
  let m := s.mic c
  match m.wait with
  | none => s
  | some r => s.setMic c { m with wait := none, st := .fading, fade := some ((n + 1 : Nat), r) }

/-! ### Compensation loads (R161, R451) -/

/-- An image complete in its channel. -/
def Mic.endLoad (m : Mic) (k : Nat) (b : CompBank) : Mic :=
  if k = 0 then { m with load0 := false, comp0 := some b } else { m with load1 := false, comp1 := some b }

/-- A compensation load completes at a boundary; in PARK only the load being carried out. -/
def State.endCompLoad (s : State) (n : Nat) (l : CompLoad) : State :=
  if s.sys.mode = .park ∧ s.parkLoad ≠ some l.job then s
  else
    let s1 := s.each l.images (fun t e => t.setMic e.1 ((t.mic e.1).endLoad e.2.1 e.2.2))
    let s2 := (s1.onMeas (fun x => { x with loads := x.loads.filter (fun y => y.job != l.job) })).raise Reg.DECIM_INT_STATUS 4
    s2.parkDomains.endJob l.job stOk (le32 (n % 2 ^ 32))

/-- The compensation loads that complete at boundary n. -/
def State.endCompLoads (s : State) (n : Nat) : State := s.each s.meas.loads (fun t l => t.endCompLoad n l)

/-! ### Settings taking effect (R159) -/

/-- The mask of enabled channels that DECIM_MIC_EN and DECIM_CTRL ask for. -/
def State.micMask (s : State) : Nat := if s.bit Reg.DECIM_CTRL 0 then s.fld Reg.DECIM_MIC_EN 15 0 else 0

/-- The preset DECIM_CTRL asks for; 3 acts as 1. -/
def State.micPreset (s : State) : Nat := if s.fld Reg.DECIM_CTRL 3 2 = 3 then 1 else s.fld Reg.DECIM_CTRL 3 2

/-- One channel under new settings: restarted when newly enabled or when the preset changes, off when disabled. -/
def State.micApply (s : State) (mask preset : Nat) (changed : Bool) (c : Nat) : State :=
  let m := s.mic c
  if bitOf mask c then (if m.on && !changed then s else s.setMic c (m.restart preset (8 * s.time.lastQ)))
  else if m.on then s.setMic c m.off else s

/-- Mask and preset take effect at a boundary (R159). -/
def State.micSettings (s : State) : State :=
  let mask := s.micMask
  let preset := s.micPreset
  if mask = s.meas.mask ∧ preset = s.meas.preset then s
  else
    let s1 := s.each (List.range 16) (fun t c => t.micApply mask preset (preset != s.meas.preset) c)
    s1.onMeas (fun x => { x with mask := mask, preset := preset })

/-- The chain at an entry to MEASURE, RENDER or MIRROR: every enabled channel starts from zero filter state (R159, R160). -/
def State.micStart (s : State) : State :=
  let mask := s.micMask
  let preset := s.micPreset
  let s1 := s.each (List.range 16) (fun t c => t.micApply mask preset true c)
  s1.onMeas (fun x => { x with mask := mask, preset := preset })

/-- The chain at the end of the live modes. -/
def State.micStop (s : State) : State :=
  (s.each (List.range 16) (fun t c => if (t.mic c).on then t.setMic c (t.mic c).off else t)).onMeas (fun x => { x with mask := 0 })

/-! ### Capture frames (R171) -/

/-- The value of a channel code in the frame that stands for tap index i of a quantum (`outs` the channels' fs outputs) and instant
t, as the pipeline numbers it: a reference is held over the frames of an instant. -/
def State.captureValue (s : State) (tap i t : Nat) (outs : Tbl (List Int)) (code : Nat) : Int :=
  if code = 0x80 ∨ code = 0x81 then tget 0 s.meas.refs ((code - 0x80) * 2 ^ 64 + t)
  else if tap = 0 then (tget [] outs code).getD i 0
  else
    let m := s.mic code
    if m.quiet.getD (i / 2 ^ tap) false then 0 else (if tap = 1 then m.tap2 else m.tap4).getD i 0

/-- One frame, from tap index i of quantum q. -/
def State.captureFrame (s : State) (outs : Tbl (List Int)) (q i : Nat) : State :=
  match s.meas.capture with
  | none => s
  | some c =>
    let k := 8 * ((q : Int) - c.shift).toNat * c.m + i
    let first := 8 * c.start * c.m + tapDelay s.meas.preset c.tap
    let j := k - first
    if !c.begun || decide (k < first) || decide (c.writeLimit ≤ j) || decide (j < c.written) then s
    else
      let bytes := c.codes.flatMap (fun code => leS32 (s.captureValue c.tap i ((8 * c.start + j / c.m : Nat) + 8 * c.shift).toNat outs code))
      (s.withMem (mwrite s.mem (s.captureAddr + 64 + 4 * c.chans * j) bytes)).onCapture (fun x => { x with written := j + 1 })

/-- The frames that the samples of quantum q give, and the header with their number (R171 to R173). -/
def State.captureFrames (s : State) (outs : Tbl (List Int)) (q : Nat) : State :=
  match s.meas.capture with
  | none => s
  | some c => if c.begun then (s.each (List.range (8 * c.m)) (fun t i => t.captureFrame outs q i)).putHeader else s

/-! ### The boundary (R164) -/

/-- Channel c: the samples of quantum q processed. -/
def State.micProcess (s : State) (q : Nat) (acc : Tbl (List Int)) (c : Nat) : State × Tbl (List Int) :=
  let m := s.mic c
  if !m.on then (s, acc)
  else
    let (m1, os, sat) := m.processAll (s.detProfile m.profile) s.time.fs q 0 m.tap1
    let s1 := s.setMic c m1
    let s2 := if sat = 0 then s1 else ((s1.bump (Reg.DECIM_CNT 1) sat).perfAdd 117 sat).raise Reg.DECIM_INT_STATUS 5
    (s2, tput acc c os)

/-- All channels: the samples of quantum q processed, and their fs outputs. -/
def State.micProcessAll (s : State) (q : Nat) : State × Tbl (List Int) :=
  (List.range 16).foldl (fun a c => a.1.micProcess q a.2 c) (s, [])

/-- The bits of quantum q received on every channel. -/
def State.micReceive (s : State) (q : Nat) (pdm : List (Nat × Nat)) : State :=
  s.each (List.range 16) (fun t c =>
    let m := t.mic c
    if m.on then t.setMic c (m.receive t.meas.preset q c (tget 0 pdm (micPin c))) else t)

/-- The measurement work of boundary n in the live modes: quantum n − 2 has been processed, frames are written, the bits of
quantum n − 1 are in; then fades, loads and settings, and a capture begins. -/
def State.micBoundary (s : State) (n : Nat) (pdm : List (Nat × Nat)) : State :=
  let (s1, outs) := s.micProcessAll (n - 2)
  let s2 := ((s1.captureFrames outs (n - 2)).captureEnding n).captureWord n
  let s3 := s2.micReceive (n - 1) pdm
  let s4 := s3.each (List.range 16) (fun t c => (t.compFadeEnd c n).compAdmit c n)
  ((s4.endCompLoads n).micSettings).captureBegin n

/-! ### The rows MIC_STUCK and MIC_TRANSITION (R156) -/

/-- MIC_STUCK (R156): 1,024 bits without a transition. -/
def execMicStuck (mic : Nat) (s : State) : Host.Outcome State Fault Refusal :=
  let m := s.mic mic
  if 16 ≤ mic ∨ !m.on ∨ m.stuck then .next s
  else
    let s1 := s.setMic mic { m with stuck := true, stuckSticky := true, stuckAt := some s.time.sample }
    .next ((s1.bump (Reg.DECIM_CNT 0)).raise Reg.DECIM_INT_STATUS 3)

/-- MIC_TRANSITION (R156): the first transition after MIC_STUCK. -/
def execMicTransition (mic : Nat) (s : State) : Host.Outcome State Fault Refusal :=
  let m := s.mic mic
  if 16 ≤ mic ∨ !m.stuck then .next s
  else .next (s.setMic mic { m with stuck := false, stuckAt := none, wasStuck := m.stuckAt.map (fun a => (a, s.time.sample)) })

end Sys2Proof.Machine
end

