-- ==== Sys2Proof/Machine/Noise.lean ====
section
/-! DEFINITION. The noise source (R166, R415): a maximal-length generator of 32 bits, white samples drawn uniformly from it, and the pink
filter. What the spec leaves open (the polynomial, how far the generator goes per sample, how a state is read as a sample, the
filter) is free among the choices that keep what R166 states (notes/assumptions/65). -/

namespace Sys2Proof.Machine

/-! ### A maximal-length generator of 32 bits -/

/-- Twice a polynomial over GF(2) modulo x^32 + p. -/
def gfDouble (p x : Nat) : Nat := if 2 * x < 2 ^ 32 then 2 * x else (2 * x - 2 ^ 32) ^^^ p

/-- The product of two polynomials modulo x^32 + p. -/
def gfMul (p a b : Nat) : Nat :=
  ((List.range 32).reverse).foldl (fun acc i => if bitOf b i then gfDouble p acc ^^^ a else gfDouble p acc) 0

/-- The power of a polynomial modulo x^32 + p, for exponents of at most `bits` bits. -/
def gfPow (p a n : Nat) (bits : Nat) : Nat :=
  ((List.range bits).reverse).foldl (fun acc i => if bitOf n i then gfMul p (gfMul p acc acc) a else gfMul p acc acc) 1

/-- Whether x generates every non-zero state: its order is 2^32 − 1, whose prime factors are 3, 5, 17, 257 and 65,537. -/
def maximalPoly (p : Nat) : Bool :=
  gfPow p 2 (2 ^ 32 - 1) 32 == 1 && [3, 5, 17, 257, 65537].all (fun q => gfPow p 2 ((2 ^ 32 - 1) / q) 32 != 1)

/-- The generator's polynomial: the chip's, which is maximal; x^32 + x^22 + x^2 + x + 1 stands for one that is not. -/
def noisePoly : Nat := if maximalPoly (Config.noisePoly % 2 ^ 32) then Config.noisePoly % 2 ^ 32 else 0x400007

/-- The states the generator goes on per sample: a number that keeps the full length. -/
def noiseStride : Nat := if Nat.gcd (Config.noiseStride % 2 ^ 32) (2 ^ 32 - 1) = 1 then Config.noiseStride % 2 ^ 32 else 1

/-- The generator's next state. -/
def noiseNext (x : Nat) : Nat := gfMul noisePoly (gfPow noisePoly 2 noiseStride 32) x

/-- The word a state is read as: every non-zero word comes once in a period. -/
def noiseWord (x : Nat) : Nat := gfMul noisePoly (if Config.noiseRead % 2 ^ 32 = 0 then 1 else Config.noiseRead % 2 ^ 32) x

/-- The white sample of a state at unit RMS: uniform over ±√3. -/
def whiteUnit (x : Nat) : Int := fxExp (fxLn (3 * fxOne) / 2) * (2 * (noiseWord x : Int) - 2 ^ 32) / 2 ^ 32

/-! ### The pink filter: sections of one pole in parallel, and a direct path -/

/-- A filter: the pole and gain of each section, and the gain of the direct path, in units of 2^-24. -/
structure PinkFilter where
  sections : List (Int × Int)
  direct : Int
  deriving DecidableEq, Repr

/-- A filter of 15 sections that keeps R166. -/
def pinkDesign : PinkFilter :=
  { sections := [(3487641, 127485), (7649372, 215175), (11328512, 122808), (13786257, 68856), (15208386, 49290)] ++
      [(15973553, 36740), (16370453, 25459), (16572587, 17712), (16674587, 12880), (16725823, 9143)] ++
      [(16751500, 6528), (16764353, 4802), (16770783, 4117), (16773999, 2406), (16775608, 5900)]
    direct := 24126 }

/-- The filter's power at a frequency of t turns a sample, times the frequency: constant for −3.01 dB per octave. -/
def PinkFilter.flat (f : PinkFilter) (t : Int) : Int :=
  let c := fxCosRad (2 * fxMul fxPi t)
  let s := fxSinRad (2 * fxMul fxPi t)
  let part := fun (e : Int × Int) =>
    let p := fxDiv e.1 (2 ^ 24)
    let d := fxOne - 2 * fxMul p c + fxMul p p
    (fxQuot (e.2 * (fxOne - fxMul p c)) d, fxQuot (e.2 * fxMul p s) d)
  let (re, im) := f.sections.foldl (fun a e => (a.1 + (part e).1, a.2 + (part e).2)) (f.direct * fxOne, 0)
  fxMul (fxMul re re + fxMul im im) t

/-- The frequencies at which a filter is judged: eight an octave from 10 Hz at 96 kHz to 0.45 fs, in turns a sample. -/
def pinkGrid : List Int :=
  (List.range 97).map (fun i => fxMul (fxDiv 10 96000) (fxExp (fxLn2 * i / 8))) ++ [fxDiv 45 100]

/-- Whether a filter is stable and keeps within ±0.5 dB of −3.01 dB per octave from 10 Hz to 0.45 fs at both rates. -/
def PinkFilter.ok (f : PinkFilter) : Bool :=
  let v := pinkGrid.map f.flat
  f.sections.all (fun e => decide (e.1.natAbs < 2 ^ 24))
    && decide (fxMul (v.foldl max 0) fxOne ≤ fxMul (v.foldl min (v.headD 0)) (fxPow10 (fxOne / 10)))

/-- The pink filter: the chip's, which keeps R166; a filter that does stands for one that does not. -/
def pinkFilter : PinkFilter :=
  let f : PinkFilter := ⟨Config.pinkSections, Config.pinkDirect⟩
  if f.ok then f else pinkDesign

/-- The RMS of the filter's output for white samples of unit RMS. -/
def PinkFilter.rms (f : PinkFilter) : Int :=
  let g := f.sections.foldl (fun a e => a + e.2) 0
  let pair := fun (a b : Int × Int) => fxQuot (a.2 * b.2 * fxOne) (fxOne - fxMul (fxDiv a.1 (2 ^ 24)) (fxDiv b.1 (2 ^ 24)))
  fxSqrt ((f.direct * f.direct + 2 * f.direct * g) * fxOne +
    f.sections.foldl (fun a x => f.sections.foldl (fun b y => b + pair x y) a) 0)

/-- One step of the filter on a white sample: the new states of the sections and the sample at unit RMS. -/
def PinkFilter.step (f : PinkFilter) (st : List Int) (x : Int) : List Int × Int :=
  let st1 := ((List.range f.sections.length).zip f.sections).map (fun e => e.2.1 * st.getD e.1 0 / 2 ^ 24 + x)
  (st1, fxQuot ((st1.zip f.sections).foldl (fun a e => a + e.2.2 * e.1) (f.direct * x)) f.rms)

/-! ### Samples -/

/-- A noise sample at a level in 0.01 dB: generator state, filter state, sample in binary32. -/
def noiseStep (pinkOn : Bool) (level : Int) (x : Nat) (st : List Int) : Nat × List Int × Nat :=
  let y := noiseNext x
  let (st1, u) := if pinkOn then pinkFilter.step st (whiteUnit y) else (st, whiteUnit y)
  (y, st1, f32OfFx (fxMul (gainOfDb level) u))

/-- k noise samples: generator state, filter state, samples. -/
def noiseRun (pinkOn : Bool) (level : Int) : Nat → Nat → List Int → Nat × List Int × List Nat
  | 0, x, st => (x, st, [])
  | k + 1, x, st =>
    let (x1, st1, v) := noiseStep pinkOn level x st
    let (x2, st2, vs) := noiseRun pinkOn level k x1 st1
    (x2, st2, v :: vs)

end Sys2Proof.Machine
end

