-- ==== Sys2Proof/Machine/Gen.lean ====
section
/-! DEFINITION. The sweep and noise generator (R165 to R169). -/

namespace Sys2Proof.Machine

/-- sin(2π t) of a fixed-point number of turns. -/
def fxSinTurns (t : Int) : Int :=
  let r := (t + fxOne / 2) % fxOne - fxOne / 2
  fxSinRad (fxMul fxPi (2 * r))

/-- The window of the sweep at sample n (R165). -/
def GenSet.window (g : GenSet) (n : Nat) : Int :=
  if n < g.fade then (fxOne - fxCosDeg (180 * (n + 1)) (g.fade + 1)) / 2
  else if g.len ≤ n + g.fade then (fxOne - fxCosDeg (180 * ((g.len : Int) - n)) (g.fade + 1)) / 2
  else fxOne

/-- The largest a sample of one repeat can be: the level under the window. -/
def GenSet.envelope (g : GenSet) (n : Nat) : Int := fxMul (gainOfDb g.level) (g.window n)

/-- The phase of sample n of one repeat in turns (R165). -/
def GenSet.turns (g : GenSet) (fs n : Nat) : Int :=
  let l := fxLn (fxDiv g.f2 g.f1)
  fxMul (fxQuot (fxDiv (g.f1 * g.len) fs) l) (fxExp (l * n / g.len) - fxOne)

/-- Sample n of one repeat in binary32. The spec fixes the formula and that the sample depends on n alone, not the order of the
evaluation: its phase may be off by at most 1/16 turn, the sample itself by at most 2^-20 of the envelope, which it never leaves (bounds
of the model, notes/assumptions/65). -/
def GenSet.sweepSample (g : GenSet) (fs n : Nat) : Nat :=
  let key := [(g.f1 : Int), g.f2, g.len, g.level, g.fade, fs]
  let env := g.envelope n
  let phase := clampInt (-(fxOne / 16)) (fxOne / 16) (Config.sweepPhase key n)
  let err := clampInt (-(env / 2 ^ 20)) (env / 2 ^ 20) (Config.sweepErr key n)
  f32OfFx (clampInt (-env) env (fxMul env (fxSinTurns (g.turns fs n + phase)) + err))

/-- Generator sample n of the sweep: silent in the gaps and after the last repeat (R165). -/
def GenSet.sweepAt (g : GenSet) (fs n : Nat) : Nat :=
  let r := n / (g.len + g.gap)
  let k := n % (g.len + g.gap)
  if r < g.reps ∧ k < g.len then g.sweepSample fs k else f32Zero

/-- The generator sample after which the sweep has ended: one past the last sample of its last repeat. -/
def GenSet.sweepEnd (g : GenSet) : Nat := (g.reps - 1) * (g.len + g.gap) + g.len

/-! ### The generator in time (R168, R169) -/

/-- The first quantum whose render starts after now (R21, R22). -/
def State.firstRender (s : State) : Int := (s.time.lastQ : Int) - 1 - s.osLag

/-- The weight of fade-out sample i of 32. -/
def stopWeight (i : Nat) : Nat := f32RoundQ false (31 - i : Nat) 32 0

/-- The 8 samples of a source in the fade-out with `left` samples to go. -/
def fadeOut (left : Option Nat) (xs : List Nat) : List Nat :=
  match left with
  | none => xs
  | some l => ((List.range 8).zip xs).map (fun e => f32Mul e.2 (stopWeight (32 - l + e.1)))

/-- The Q1.31 value of a generator sample, as a capture stores it. -/
def refValue (v : Nat) : Int := (f32ToQ31 v).1

/-- Reference samples of a source kept under the indices at which they leave the pins (R171). -/
def putRefs (src : Nat) (first : Int) (xs : List Nat) (t : Tbl Int) : Tbl Int :=
  ((List.range 8).zip xs).foldl (fun u e => tset 0 u (src * 2 ^ 64 + (first + e.1).toNat) (refValue e.2)) t

/-- Reference samples older than any frame still to be written are dropped. -/
def pruneRefs (n : Nat) (t : Tbl Int) : Tbl Int := t.filter (fun e => decide (8 * n ≤ e.1 % 2 ^ 64 + 128))

/-- The generator stops: GEN_DONE with detail 1 (R169). -/
def State.genStopped (s : State) : State :=
  let s1 := s.onMeas (fun x => { x with gen := { x.gen with start := none, stopping := none } })
  (s1.raise Reg.DECIM_INT_STATUS 2).post 0x6001 (le8 1)

/-- The quantum of a fade-out is over. -/
def State.genFadeStep (s : State) : State :=
  match s.meas.gen.stopping with
  | none => s
  | some l =>
    if l ≤ 8 then s.genStopped
    else s.onMeas (fun x => { x with gen := { x.gen with stopping := some (l - 8) } })

/-- The two sources over the quantum rendered at boundary n: the state, the sweep and the noise on the buses. -/
def State.genQuantum (s : State) (n : Nat) (q : Int) : State × List Nat × List Nat :=
  let g := s.meas.gen
  match g.cfg, g.start with
  | some c, some st =>
    if q < st then (s, [], [])
    else
      let k := 8 * (q - st).toNat
      let sweep := (List.range 8).map (fun i => c.sweepAt s.time.fs (k + i))
      let (x, pk, noise) := noiseRun c.pink c.noise 8 g.noiseState g.pink
      let s1 := s.onMeas (fun y => { y with gen := { y.gen with noiseState := x, pink := pk } })
      let s2 := s1.onMeas (fun y => { y with refs := pruneRefs n (putRefs 1 (8 * q + 24) noise (putRefs 0 (8 * q + 24) sweep y.refs)) })
      (s2.genFadeStep, fadeOut g.stopping sweep, fadeOut g.stopping noise)
  | _, _ => (s, [], [])

/-- The Lens input of a bus in MEASURE (R168): zero unless the bus is on the drive list. -/
def State.driveInput (s : State) (sweep noise : List Nat) (b : Nat) : List Nat :=
  match s.meas.gen.drive.find? (fun e => e.1 == b) with
  | some (_, src) =>
    let xs := if src = 0 then sweep else noise
    if xs.isEmpty then List.replicate 8 f32Zero else xs
  | none => List.replicate 8 f32Zero

/-- GEN_STOP (R169): a running generator fades, one that has not begun stops at once. -/
def State.genStop (s : State) : State :=
  match s.meas.gen.start with
  | none => s
  | some st =>
    if s.firstRender ≤ st then s.genStopped
    else if s.meas.gen.stopping.isSome then s
    else s.onMeas (fun x => { x with gen := { x.gen with stopping := some 32 } })

/-- The end of the generator's claim (R165, R169): it stops, and its settings and drive list go. -/
def State.genRelease (s : State) : State :=
  let s1 := if s.meas.gen.start.isSome then s.genStopped else s
  (s1.onMeas (fun x => { x with gen := { x.gen with cfg := none, drive := [] }, refs := [] })).claim 0x300 0

/-- GEN_DONE (R169): the sweep has ended after its last repeat. -/
def execGenDone (s : State) : Host.Outcome State Fault Refusal :=
  match s.meas.gen.cfg, s.meas.gen.start with
  | some c, some st =>
    if s.meas.gen.sweepDone ∨ 8 * (s.firstRender - st) < c.sweepEnd then .next s
    else
      let s1 := s.onMeas (fun x => { x with gen := { x.gen with sweepDone := true } })
      .next ((s1.raise Reg.DECIM_INT_STATUS 2).post 0x6001 (le8 0))
  | _, _ => .next s

end Sys2Proof.Machine
end

