-- ==== Sys2Proof/Machine/MeasCmds.lean ====
section
/-! DEFINITION. The measurement commands (R155, R159, R161 to R164, R167 to R177). -/

namespace Sys2Proof.Machine

/-! ### Microphones -/

/-- The resources the microphone inputs need (R155): ports 56 to 63 and clock group 7. -/
def micResources : List Nat := (List.range 8).map (56 + ·) ++ [0x107]

/-- Whether a capture that is armed or running forbids new settings (R159). -/
def State.micLocked (s : State) (mask preset : Nat) : Bool :=
  match s.captureOn with
  | none => false
  | some c => preset != s.micPreset || c.codes.any (fun k => decide (k < 16) && bitOf s.micMask k && !bitOf mask k)

/-- The claim of a mask (R155): all of the resources, with the PDM divider set to its grid phase, or their release. -/
def State.micClaim (s : State) (mask : Nat) : State :=
  if mask ≠ 0 then (if s.owner 0x107 = 2 then s else s.onPorts (fun x => { x with pdmPh := 0 })).each micResources (fun t r => t.claim r 2)
  else s.each micResources (fun t r => if t.owner r = 2 then t.claim r 0 else t)

/-- The settings recorded in DECIM_MIC_EN and DECIM_CTRL; they take effect at the next boundary (R159). -/
def State.micRecord (s : State) (mask preset : Nat) : State :=
  ((s.wr Reg.DECIM_MIC_EN mask).setFld Reg.DECIM_CTRL 3 2 preset).setFld Reg.DECIM_CTRL 0 0 (b2n (mask != 0))

/-- MIC_CFG. -/
def cmdMicCfg : CmdDef := mkCmd 0x6001 modesCfg (lenIs 4) (fun _ p s =>
  let mask := u16At p 0
  let preset := u8At p 2
  checked s [(decide (2 < preset), Resp.errF stRange 2), (s.micLocked mask preset, Resp.errS stState)]
    (match if mask ≠ 0 then s.conflict 2 micResources else none with
     | some r => (s, Resp.resource r (s.owner r) 0xFFFF)
     | none => ((s.micClaim mask).micRecord mask preset, Resp.ok)))

/-- The fields of an image's header (R161). -/
def compHead (i : Nat) (b : Bytes) : Option Resp :=
  let r := fun (o : Nat) => Resp.err stRange i o
  firstBad [(u16At b 0 != 0x4D43, r 0), (u8At b 2 != 1, r 2), (decide (1 < u8At b 3), r 3), (decide (15 < u8At b 4), r 4)]

/-- The taps of an image. -/
def compTaps (b : Bytes) : List Nat := (entries 4 (b.drop 16)).map (fun e => u32At e 0)

/-- A tap that is NaN, infinite or subnormal. -/
def compTapBad (i : Nat) (b : Bytes) : Option Resp :=
  (findIdx (fun _ c => f32Special c || f32Subnormal c) (compTaps b)).map (fun e => Resp.err stRange i (16 + 4 * e.1))

/-- An image that names the channel and bank of an earlier one. -/
def compTwice (is : List Bytes) (i : Nat) (b : Bytes) : Option Resp :=
  if (is.take i).any (fun x => u8At x 4 == u8At b 4 && u8At x 3 == u8At b 3) then some (Resp.err stRange i 3) else none

/-- An image for a bank that may not be loaded now (R142, R162). -/
def State.compBusy (s : State) (i : Nat) (b : Bytes) : Option Resp :=
  let m := s.mic (u8At b 4)
  if u8At b 3 = m.active ∨ m.st ≠ .steady ∨ m.loading (u8At b 3) then some (Resp.err stBankBusy i 3) else none

/-- The checks on the images, each over every image, in the order of R161. -/
def State.compImagesBad (s : State) (is : List Bytes) : Option Resp :=
  (badEntry is compHead).orElse (fun _ => (badEntry is compTapBad).orElse (fun _ =>
    (badEntry is (compTwice is)).orElse (fun _ => badEntry is s.compBusy)))

/-- A bank marked loading. -/
def Mic.startLoad (m : Mic) (k : Nat) : Mic := { m with load0 := m.load0 || k == 0, load1 := m.load1 || k == 1 }

/-- A compensation load starts (R162): it completes at the next boundary. -/
def State.compStart (s : State) (h : Hdr) (is : List Bytes) : State :=
  let im := is.map (fun b => (u8At b 4, u8At b 3, (⟨u32At b 8, compTaps b⟩ : CompBank)))
  let s1 := (s.newJob h 0x6002 1 (zeros 4)).each im (fun t e => t.setMic e.1 ((t.mic e.1).startLoad e.2.1))
  (s1.onMeas (fun x => { x with loads := x.loads ++ [⟨s.mbx.nextJob, im⟩] })).parkDomains

/-- COMP_LOAD. -/
def cmdCompLoad : CmdDef := mkBulk 0x6002 modesCfg (lenIs 16) (fun h p s =>
  let n := u16At p 0
  let b := bufAt p 4
  let is := entries 144 (s.bufRead b b.len)
  checked s [(!s.bufOk b, Resp.errF stRange 4), (decide (n = 0 ∨ 16 < n), Resp.errF stRange 0), (b.len != 144 * n, Resp.errF stRange 12)]
    (match s.compImagesBad is with
     | some r => (s, r)
     | none => (s.compStart h is, Resp.accepted)))

/-- What is wrong with a swap entry's fields. -/
def compSwapBad (i : Nat) (e : Bytes) : Option Resp :=
  if 15 < u8At e 0 then some (Resp.err stRange i (4 + 2 * i))
  else if 1 < u8At e 1 then some (Resp.err stRange i (5 + 2 * i)) else none

/-- A swap to an idle bank that is loading (R142). -/
def State.compSwapState (s : State) (i : Nat) (e : Bytes) : Option Resp :=
  let m := s.mic (u8At e 0)
  let k := u8At e 1
  if m.st == .steady && k != m.active && m.loading k then some (Resp.err stState i (4 + 2 * i)) else none

/-- A swap entry on a channel (R142, R162); `r` is the request it makes. -/
def State.compSwapEntry (s : State) (c : Nat) (r : CompReq) : State :=
  let m := s.mic c
  match m.st with
  | .steady => if r.target = m.active then s else (s.addPiece r.job).setMic c { m with st := .waiting, wait := some r }
  | .waiting =>
    match m.wait with
    | none => s
    | some old =>
      if r.target = m.active then (s.setMic c { m with st := .steady, wait := none }).pieceDrop (some old.job)
      else s.setMic c { m with wait := some { r with job := old.job } }
  | _ =>
    let s1 := (s.addPiece r.job).setMic c { m with st := .fadingQueued, held := some r }
    match m.held with
    | none => s1
    | some old => s1.pieceDrop (some old.job)

/-- The swaps of a command in PARK complete at once (R153, R162). -/
def State.compSwapPark (s : State) (es : List Bytes) : State :=
  s.each es (fun t e => t.setMic (u8At e 0) { t.mic (u8At e 0) with active := u8At e 1 })

/-- The swaps of a command in the live modes. -/
def State.compSwapLive (s : State) (h : Hdr) (p : Bytes) (es : List Bytes) : State × Resp :=
  let id := s.mbx.nextJob
  ((s.newJob h 0x6003 1 (zeros 5)).each es (fun t e => t.compSwapEntry (u8At e 0) ⟨u8At e 1, u16At p 0, id⟩)).settleJob id

/-- COMP_SWAP. -/
def cmdCompSwap : CmdDef := mkCmd 0x6003 modesCfg (fun p => p.length == 4 + 2 * u8At p 2) (fun h p s =>
  let es := entries 2 (p.drop 4)
  checked s [(decide (u16At p 0 = 0 ∨ 1024 < u16At p 0), Resp.errF stRange 0), (decide (u8At p 2 = 0 ∨ 16 < u8At p 2), Resp.errF stRange 2)]
    (checkedEntries s es compSwapBad (checkedEntries s es s.compSwapState
      (if s.sys.mode == .park then (s.compSwapPark es, Resp.ok) else s.compSwapLive h p es))))

/-- What is wrong with an entry of MIC_DET_MAP. -/
def micDetBad (i : Nat) (e : Bytes) : Option Resp :=
  if 15 < u8At e 0 then some (Resp.err stRange i (2 * i))
  else if 7 < u8At e 1 then some (Resp.err stRange i (2 * i + 1)) else none

/-- MIC_DET_MAP. -/
def cmdMicDetMap : CmdDef := mkCmd 0x6004 modesCfg (lenEntries 0 2 16) (fun _ p s =>
  let es := entries 2 p
  checkedEntries s es micDetBad
    (s.each es (fun t e => t.setMic (u8At e 0) { t.mic (u8At e 0) with profile := u8At e 1 }), Resp.ok))

/-- The meter record of a channel. -/
def Mic.meter (m : Mic) (now : Nat) : Bytes :=
  leS16 (levelOf false m.det.peak) ++ leS16 (levelOf true m.det.ms) ++ leS16 (levelOf false m.det.env)
    ++ le16 (b2n m.stuck + 2 * b2n (m.settling now) + 4 * b2n m.clip)

/-- MIC_METER_GET. -/
def cmdMicMeterGet : CmdDef := mkCmd 0x6005 modesLive (lenIs 0) (fun _ _ s =>
  (s, Resp.ok ((List.range 16).flatMap (fun c => (s.mic c).meter s.time.sample))))

/-! ### The generator -/

/-- The highest frequency, 0.45 fs, in Hz. -/
def State.genTop (s : State) : Nat := if s.time.rate96 then 43200 else 21600

/-- The range checks of GEN_SET (R167). -/
def State.genChecks (s : State) (p : Bytes) : List (Bool × Resp) :=
  let r := fun (o : Nat) => Resp.errF stRange o
  [ (decide (u16At p 0 = 0 ∨ s.genTop < u16At p 0), r 0), (decide (s.genTop < u16At p 2 ∨ u16At p 2 ≤ u16At p 0), r 2)
  , (decide (u32At p 4 < 1024 ∨ 4194304 < u32At p 4), r 4), (decide (s16At p 8 < -12000 ∨ 0 < s16At p 8), r 8)
  , (decide (8192 < u16At p 10 ∨ u32At p 4 < 2 * u16At p 10), r 10), (decide (u8At p 12 = 0), r 12), (decide (1 < u8At p 13), r 13)
  , (decide (s16At p 14 < -12000 ∨ 0 < s16At p 14), r 14), (decide (1048576 < u32At p 16), r 16), (decide (u32At p 20 = 0), r 20) ]

/-- The settings of GEN_SET. -/
def genOf (p : Bytes) : GenSet :=
  { f1 := u16At p 0, f2 := u16At p 2, len := u32At p 4, level := s16At p 8, fade := u16At p 10, reps := u8At p 12, pink := u8At p 13 == 1
    noise := s16At p 14, gap := u32At p 16, seed := u32At p 20 }

/-- GEN_SET. -/
def cmdGenSet : CmdDef := mkCmd 0x6010 [.measure] (lenIs 24) (fun _ p s =>
  checked s (s.genChecks p ++ [ (s.meas.gen.start.isSome, Resp.errS stState)
      , (s.owner 0x300 != 0 && s.owner 0x300 != 4, Resp.resource 0x300 (s.owner 0x300) 0xFFFF) ])
    ((s.claim 0x300 4).onMeas (fun x => { x with gen := { x.gen with cfg := some (genOf p) } }), Resp.ok))

/-- The refusal of a command whose resource is not held (R177). -/
def State.notHeld (s : State) (r : Nat) : Bool × Resp := (s.owner r != 4, Resp.resource r (s.owner r) 0xFFFF)

/-- What is wrong with a drive entry. -/
def State.driveBad (s : State) (i : Nat) (e : Bytes) : Option Resp :=
  if s.busCount ≤ u16At e 0 then some (Resp.err stRange i (4 * i))
  else if 1 < u8At e 2 then some (Resp.err stRange i (4 * i + 2)) else none

/-- GEN_DRIVE. -/
def cmdGenDrive : CmdDef := mkCmd 0x6011 [.measure] (lenEntries 0 4 60) (fun _ p s =>
  let es := entries 4 p
  checkedEntries s es s.driveBad
    (checked s [(s.meas.gen.start.isSome, Resp.errS stState), s.notHeld 0x300]
      (s.onMeas (fun x => { x with gen := { x.gen with drive := es.map (fun e => (u16At e 0, u8At e 2)) } }), Resp.ok)))

/-- The start quantum of a GEN_START. -/
def State.genFirst (s : State) (p : Bytes) : Int :=
  if bitOf (u8At p 0) 0 then s.firstRender + ((((u32At p 4 : Nat) : Int) - s.firstRender) % (2 ^ 32 : Nat)) else s.firstRender

/-- Whether a named start is not later than the first quantum that can start (R20, R169). -/
def State.genEarly (s : State) (p : Bytes) : Bool :=
  bitOf (u8At p 0) 0 && !after32 (u32At p 4) (s.firstRender % (2 ^ 32 : Nat)).toNat

/-- GEN_START. -/
def cmdGenStart : CmdDef := mkCmd 0x6012 [.measure] (lenIs 8) (fun _ p s =>
  checked s [(s.genEarly p, Resp.errF stRange 4), (s.meas.gen.start.isSome, Resp.errS stState), s.notHeld 0x300]
    (let seed := (s.meas.gen.cfg.map (·.seed)).getD 1
     let st := s.genFirst p
     (s.onMeas (fun x => { x with gen := { x.gen with start := some st, noiseState := seed, pink := [], stopping := none, sweepDone := false } })
       , Resp.ok)))

/-- GEN_STOP. -/
def cmdGenStop : CmdDef := mkCmd 0x6013 [.measure] (lenIs 0) (fun _ _ s => checked s [s.notHeld 0x300] (s.genStop, Resp.ok))

/-- GEN_RELEASE. -/
def cmdGenRelease : CmdDef := mkCmd 0x6014 [.measure] (lenIs 0) (fun _ _ s => checked s [s.notHeld 0x300] (s.genRelease, Resp.ok))

/-! ### Capture -/

/-- The channel codes of a CAPTURE_SET. -/
def captureCodes (p : Bytes) : List Nat := (List.range (u8At p 1)).map (fun i => u8At p (12 + i))

/-- A channel code that names nothing, as its payload offset. -/
def captureCodeBad (p : Bytes) : Option Nat :=
  (findIdx (fun _ c => decide (15 < c) && c != 0x80 && c != 0x81) (captureCodes p)).map (fun e => 12 + e.1)

/-- The checks of CAPTURE_SET (R170, R177). -/
def State.captureChecks (s : State) (p : Bytes) : List (Bool × Resp) :=
  let r := fun (o : Nat) => Resp.errF stRange o
  let n := u8At p 1
  [ (decide (2 < u8At p 0), r 0), (decide (n = 0 ∨ 18 < n), r 1), (decide (u16At p 2 = 0 ∨ 512 < u16At p 2), r 2)
  , (decide (u32At p 4 = 0), r 4), ((captureCodeBad p).isSome, r ((captureCodeBad p).getD 0))
  , (decide (u16At p 2 * 2 ^ 20 < captureBytes (u8At p 0) (u32At p 4) n), r 2)
  , (s.captureOn.isSome, Resp.errS stState)
  , ((captureCodes p).any (fun c => decide (c < 16) && !bitOf s.micMask c), Resp.errS stState)
  , (s.owner 0x301 != 0 && s.owner 0x301 != 4, Resp.resource 0x301 (s.owner 0x301) 0xFFFF) ]

/-- The capture of a CAPTURE_SET. -/
def captureOf (p : Bytes) : Capture :=
  { tap := u8At p 0, codes := captureCodes p, q := u32At p 4, tag := u32At p 8, mib := u16At p 2, st := 0, start := 0, written := 0, valid := 0
    status := 0, cause := 0, validEnd := none, word := 0, stopping := false, begun := false, shift := 0 }

/-- CAPTURE_SET. -/
def cmdCaptureSet : CmdDef := mkCmd 0x6020 [.measure] (lenIs 32) (fun _ p s =>
  checked s (s.captureChecks p)
    (match (s.unplace 4 0).place 4 0 ((u16At p 2 + 1) / 2) with
     | none => (s, Resp.resource 0xFFFF 0 0xFFFF)
     | some (_, t) =>
       ((t.claim 0x301 4).onMeas (fun x => { x with capture := some (captureOf p) })
         , Resp.ok (le32 (captureBytes (u8At p 0) (u32At p 4) (u8At p 1))))))

/-- Whether a named start is not later than the next boundary (R171). -/
def State.captureEarly (s : State) (p : Bytes) : Bool := bitOf (u8At p 0) 0 && !s.laterThanNext (u32At p 4)

/-- CAPTURE_START. -/
def cmdCaptureStart : CmdDef := mkCmd 0x6021 [.measure] (lenIs 8) (fun _ p s =>
  checked s [(s.captureEarly p, Resp.errF stRange 4), (s.captureOn.isSome, Resp.errS stState), s.notHeld 0x301]
    (let c := if bitOf (u8At p 0) 0 then s.quantumAt (u32At p 4) else s.nextBoundary
     (s.onCapture (fun x => { x with
        st := 1, start := c, written := 0, valid := 0, status := 0, cause := 0, validEnd := none, stopping := false, begun := false, shift := 0 }), Resp.ok)))

/-- CAPTURE_STOP: it ends at the next boundary. -/
def cmdCaptureStop : CmdDef := mkCmd 0x6022 [.measure] (lenIs 0) (fun _ _ s =>
  checked s [s.notHeld 0x301] (s.onCapture (fun x => { x with stopping := x.stopping || x.st == 1 }), Resp.ok))

/-- CAPTURE_READ. -/
def cmdCaptureRead : CmdDef := mkBulk 0x6023 [.measure] (lenIs 16) (fun _ p s =>
  let off := u32At p 0
  let b := bufAt p 4
  let lim := (s.meas.capture.map (·.readable)).getD 0
  checked s [(!s.bufOk b, Resp.errF stRange 4), (decide (lim < off + b.len) && s.owner 0x301 == 4, Resp.errF stRange 0), s.notHeld 0x301]
    (s.bufWrite b (mread s.mem (s.captureAddr + off) b.len), Resp.ok (le32 b.len)))

/-- CAPTURE_RELEASE. -/
def cmdCaptureRelease : CmdDef := mkCmd 0x6024 [.measure] (lenIs 0) (fun _ _ s => checked s [s.notHeld 0x301] (s.freeCapture, Resp.ok))

/-- MIC_CFG (R159). -/
def execMicCfg (h : Hdr) (p : Bytes) (s : State) : Host.Outcome State Fault Refusal := cmdMicCfg.exec h p s
/-- COMP_LOAD (R161). -/
def execCompLoad (h : Hdr) (p : Bytes) (s : State) : Host.Outcome State Fault Refusal := cmdCompLoad.exec h p s
/-- COMP_SWAP (R162). -/
def execCompSwap (h : Hdr) (p : Bytes) (s : State) : Host.Outcome State Fault Refusal := cmdCompSwap.exec h p s
/-- MIC_DET_MAP (R163). -/
def execMicDetMap (h : Hdr) (p : Bytes) (s : State) : Host.Outcome State Fault Refusal := cmdMicDetMap.exec h p s
/-- MIC_METER_GET (R164). -/
def execMicMeterGet (h : Hdr) (p : Bytes) (s : State) : Host.Outcome State Fault Refusal := cmdMicMeterGet.exec h p s
/-- GEN_SET (R167). -/
def execGenSet (h : Hdr) (p : Bytes) (s : State) : Host.Outcome State Fault Refusal := cmdGenSet.exec h p s
/-- GEN_DRIVE (R168). -/
def execGenDrive (h : Hdr) (p : Bytes) (s : State) : Host.Outcome State Fault Refusal := cmdGenDrive.exec h p s
/-- GEN_START (R169). -/
def execGenStart (h : Hdr) (p : Bytes) (s : State) : Host.Outcome State Fault Refusal := cmdGenStart.exec h p s
/-- GEN_STOP (R169). -/
def execGenStop (h : Hdr) (p : Bytes) (s : State) : Host.Outcome State Fault Refusal := cmdGenStop.exec h p s
/-- GEN_RELEASE (R177). -/
def execGenRelease (h : Hdr) (p : Bytes) (s : State) : Host.Outcome State Fault Refusal := cmdGenRelease.exec h p s
/-- CAPTURE_SET (R170). -/
def execCaptureSet (h : Hdr) (p : Bytes) (s : State) : Host.Outcome State Fault Refusal := cmdCaptureSet.exec h p s
/-- CAPTURE_START (R171). -/
def execCaptureStart (h : Hdr) (p : Bytes) (s : State) : Host.Outcome State Fault Refusal := cmdCaptureStart.exec h p s
/-- CAPTURE_STOP (R173). -/
def execCaptureStop (h : Hdr) (p : Bytes) (s : State) : Host.Outcome State Fault Refusal := cmdCaptureStop.exec h p s
/-- CAPTURE_READ (R176). -/
def execCaptureRead (h : Hdr) (p : Bytes) (s : State) : Host.Outcome State Fault Refusal := cmdCaptureRead.exec h p s
/-- CAPTURE_RELEASE (R170). -/
def execCaptureRelease (h : Hdr) (p : Bytes) (s : State) : Host.Outcome State Fault Refusal := cmdCaptureRelease.exec h p s

end Sys2Proof.Machine
end

