-- ==== Sys2Proof/Machine/PortCmds.lean ====
section
/-! DEFINITION. The port commands (R179, R180, R183, R187, R188, R197, R203 to R205). -/

namespace Sys2Proof.Machine

/-- Settings of a port as a command would leave them. -/
structure PortSet where
  out : Bool
  width : Nat
  tri : Bool
  base : Nat
  mask : Nat
  deriving DecidableEq, Repr

/-- The settings of a port now: the mask is the one last written. -/
def State.portSetting (s : State) (p : Nat) : PortSet :=
  ⟨s.portOut p, s.portWidth p, s.bit (Reg.PORT_CFG p) 29, s.portBase p, s.fld (Reg.PORT_MASK p) 15 0⟩

/-- The active slots of a mask. -/
def maskCount (m : Nat) : Nat := (maskSlots 16 m).length

/-- The settings of all ports. -/
def State.portSettings (s : State) : List PortSet := (List.range 64).map s.portSetting

/-- A setting of one list entry. -/
def settingAt (cs : List PortSet) (p : Nat) : PortSet := cs.getD p ⟨false, 24, false, 0, 0⟩

/-- Whether the channels of two ports of one direction overlap (R188); a port without active slots has none. -/
def overlaps (a b : PortSet) : Bool :=
  a.out == b.out && decide (0 < maskCount a.mask) && decide (0 < maskCount b.mask)
    && decide (a.base < b.base + maskCount b.mask) && decide (b.base < a.base + maskCount a.mask)

/-- What is wrong with port p's settings among those of all ports, in a group of n slots of width w (R187, R188): 0 width, 1 base,
2 mask. -/
def portWrong (cs : List PortSet) (n w p : Nat) : Option Nat :=
  let c := settingAt cs p
  if w < c.width then some 0
  else if 2 ^ n ≤ c.mask then some 2
  else if 1024 < c.base + maskCount c.mask ∨ 1023 < c.base then some 1
  else if (List.range 64).any (fun q => q != p && overlaps c (settingAt cs q)) then some 1
  else none

/-! ### PORT_GROUP_SET -/

/-- The bit clock limit of a group's bank in units of fs × L (R179): 49.152 MHz at 1.8 V, 24.576 MHz at 3.3 V. -/
def State.bankLimit (s : State) (g : Nat) : Nat :=
  if (if g < 4 then s.ports.bankA33 else s.ports.bankB33) then 24576000 else 49152000

/-- Whether a width is one of 16, 24 and 32. -/
def isWidth (w : Nat) : Bool := w == 16 || w == 24 || w == 32

/-- Whether a number is a power of two from 32 to 1,024 (R183). -/
def isFrame2 (l : Nat) : Bool := [32, 64, 128, 256, 512, 1024].contains l

/-- The range checks of PORT_GROUP_SET (R179, R180, R183). -/
def State.groupChecks (s : State) (p : Bytes) : List (Bool × Resp) :=
  let r := fun (o : Nat) => Resp.errF stRange o
  let mode := u8At p 1
  let n := u8At p 3
  let w := u8At p 4
  let l := u16At p 6
  [ (decide (7 < u8At p 0), r 0), (decide (2 < mode), r 1), (decide (2 < u8At p 2), r 2)
  , (decide (n < 2 ∨ 16 < n ∨ (u8At p 2 < 2 ∧ n ≠ 2)), r 3), (!isWidth w, r 4), (decide (l < n * w ∨ 2047 < l), r 6)
  , (decide (mode ≠ 0 ∧ s.bankLimit (u8At p 0) < l * s.time.fs), r 6), (mode == 1 && !isFrame2 l, r 6) ]

/-- A port of the group whose recorded settings the new slot count or width would not allow (R187, R205). -/
def State.groupFits (s : State) (p : Bytes) : Option Resp :=
  (grpPorts (u8At p 0)).findSome? (fun q =>
    match portWrong s.portSettings (u8At p 3) (u8At p 4) q with
    | some 0 => some (Resp.errF stRange 4)
    | some 2 => some (Resp.errF stRange 3)
    | _ => none)

/-- The resources of a group (R203). -/
def grpResources (g : Nat) : List Nat := (0x100 + g) :: grpPorts g

/-- The register value of a group setting. -/
def grpCfgWord (p : Bytes) : Nat :=
  let f := u8At p 5
  let w := if u8At p 4 = 16 then 0 else if u8At p 4 = 24 then 1 else 2
  b2n (bitOf f 4) * 2 ^ 31 + b2n (bitOf f 5) * 2 ^ 30 + u8At p 1 * 2 ^ 28 + u8At p 2 * 2 ^ 26 + b2n (bitOf f 0) * 2 ^ 25
    + b2n (bitOf f 1) * 2 ^ 24 + b2n (bitOf f 2) * 2 ^ 23 + b2n (bitOf f 3) * 2 ^ 22 + w * 2 ^ 20 + (u8At p 3 - 1) * 2 ^ 16 + u16At p 6

/-- A group set (R203): claimed or released, its frames formed afresh. -/
def State.groupSet (s : State) (p : Bytes) : State :=
  let g := u8At p 0
  let s1 := s.wr (Reg.GRP_CFG g) (grpCfgWord p)
  let s2 := if u8At p 1 ≠ 0 then s1.each (grpResources g) (fun t r => t.claim r 1)
    else s1.each (grpResources g) (fun t r => if t.owner r = 1 then t.claim r 0 else t)
  s2.setGrp g GrpSt.init

/-- Whether a port is enabled, as the last command left it. -/
def State.portEnabled (s : State) (p : Nat) : Bool := s.bit (Reg.PORT_CFG p) 31

/-- PORT_GROUP_SET. -/
def cmdPortGroupSet : CmdDef := mkCmd 0x3001 modesCfg (lenIs 8) (fun _ p s =>
  let g := u8At p 0
  let busy := s.live && (grpPorts g).any (fun q => s.portEnabled q || (s.port q).active)
  checked s (s.groupChecks p)
    (match s.groupFits p with
     | some r => (s, r)
     | none =>
       if busy then (s, Resp.errS stState)
       else match s.conflict 1 (grpResources g) with
         | some r => (s, Resp.resource r (s.owner r) 0xFFFF)
         | none => (s.groupSet p, Resp.ok)))

/-! ### PORT_SET and PORT_MASK_SET -/

/-- What is wrong with an entry's own fields. -/
def portEntryBad (i : Nat) (e : Bytes) : Option Resp :=
  let r := fun (o : Nat) => Resp.err stRange i (8 * i + o)
  firstBad [ (decide (63 < u8At e 0), r 0), (decide (1 < u8At e 1), r 1), (!isWidth (u8At e 2), r 2), (decide (1 < u8At e 3), r 3)
    , (decide (1023 < u16At e 4), r 4) ]

/-- The settings all ports would have after a PORT_SET. -/
def portSetAll (cs : List PortSet) (es : List Bytes) : List PortSet :=
  es.foldl (fun l e => l.set (u8At e 0) ⟨u8At e 1 == 1, u8At e 2, u8At e 3 == 1, u16At e 4, u16At e 6⟩) cs

/-- An entry whose settings do not stand (R187, R188); the offsets are those of its width, base and mask. -/
def State.portFits (s : State) (cs : List PortSet) (size : Nat) (offs : List Nat) (i : Nat) (e : Bytes) : Option Resp :=
  let q := u8At e 0
  (portWrong cs (s.grpSlots (q / 8)) (s.grpWidth (q / 8)) q).map (fun k => Resp.err stRange i (size * i + offs.getD k 0))

/-- A direction, width or base that would change while the port is enabled (R204). -/
def State.portRunning (s : State) (i : Nat) (e : Bytes) : Option Resp :=
  let q := u8At e 0
  let c := s.portSetting q
  if s.live && (s.portEnabled q || (s.port q).active) && ((c.out != (u8At e 1 == 1)) || c.width != u8At e 2 || c.base != u16At e 4) then
    some (Resp.err stState i (8 * i + 1))
  else none

/-- An entry whose port another function holds. -/
def State.portHeld (s : State) (_ : Nat) (e : Bytes) : Option Resp :=
  let q := u8At e 0
  if s.owner q ≠ 0 ∧ s.owner q ≠ 1 then some (Resp.resource q (s.owner q) 0xFFFF) else none

/-- A mask and TRI_INACTIVE written: in force from a later frame edge, at once in PARK (R189, R204). -/
def State.maskWrite (s : State) (p mask : Nat) (tri : Bool) : State :=
  let s1 := (s.setFld (Reg.PORT_MASK p) 15 0 mask).setFld (Reg.PORT_CFG p) 29 29 (b2n tri)
  if s.live then s1.setPort p { s1.port p with pend := (s1.port p).pend ++ [(s.time.eventTick, mask, tri)] }
  else s1.setPort p { s1.port p with mask := mask, tri := tri, pend := [] }

/-- One entry of PORT_SET applied. -/
def State.portSetOne (s : State) (e : Bytes) : State :=
  let p := u8At e 0
  let w := if u8At e 2 = 16 then 0 else if u8At e 2 = 24 then 1 else 2
  let s1 := ((s.setFld (Reg.PORT_CFG p) 30 30 (u8At e 1)).setFld (Reg.PORT_CFG p) 27 26 w).setFld (Reg.PORT_CFG p) 9 0 (u16At e 4)
  s1.maskWrite p (u16At e 6) (u8At e 3 == 1)

/-- PORT_SET. -/
def cmdPortSet : CmdDef := mkCmd 0x3002 modesCfg (lenEntries 0 8 30) (fun _ p s =>
  let es := entries 8 p
  checkedEntries s es portEntryBad (checkedEntries s es (s.portFits (portSetAll s.portSettings es) 8 [2, 4, 6])
    (checkedEntries s es s.portRunning (checkedEntries s es s.portHeld (s.each es (fun t e => t.portSetOne e), Resp.ok)))))

/-- The settings all ports would have after a PORT_MASK_SET. -/
def portMaskAll (cs : List PortSet) (es : List Bytes) : List PortSet :=
  es.foldl (fun l e => l.set (u8At e 0) { settingAt l (u8At e 0) with mask := u16At e 2 }) cs

/-- An entry that names no port. -/
def maskEntryBad (i : Nat) (e : Bytes) : Option Resp := if 63 < u8At e 0 then some (Resp.err stRange i (4 * i)) else none

/-- PORT_MASK_SET. -/
def cmdPortMaskSet : CmdDef := mkCmd 0x3004 modesCfg (lenEntries 0 4 60) (fun _ p s =>
  let es := entries 4 p
  checkedEntries s es maskEntryBad (checkedEntries s es (s.portFits (portMaskAll s.portSettings es) 4 [2, 2, 2])
    (checkedEntries s es s.portHeld
      (s.each es (fun t e => t.maskWrite (u8At e 0) (u16At e 2) (t.bit (Reg.PORT_CFG (u8At e 0)) 29)), Resp.ok))))

/-! ### PORT_ENABLE and PORT_STATUS_GET -/

/-- The ports a 64-bit mask selects. -/
def selected (m : Nat) : List Nat := (List.range 64).filter (fun k => bitOf m k)

/-- PORT_ENABLE: in force from the next boundary (R197). -/
def cmdPortEnable : CmdDef := mkCmd 0x3003 modesCfg (lenIs 16) (fun _ p s =>
  let ps := selected (u64At p 0)
  match s.conflict 1 ps with
  | some r => (s, Resp.resource r (s.owner r) 0xFFFF)
  | none => (s.each ps (fun t q => t.setFld (Reg.PORT_CFG q) 31 31 (b2n (bitOf (u64At p 8) q))), Resp.ok))

/-- The current non-audio bits of a port. -/
def State.naCurrent (s : State) (p : Nat) : Nat :=
  (s.port p).na.foldl (fun a (e : Nat × NaSt) => a + b2n e.2.muted * 2 ^ e.1) 0

/-- The status record of a port. -/
def State.portStatus (s : State) (p : Nat) : Bytes :=
  let g := p / 8
  let v := s.grp g
  let st := b2n (s.port p).active + 2 * b2n v.lost + 4 * b2n v.drift + 8 * s.fld (Reg.GRP_STAT g) 28 28 + 16 * s.fld (Reg.GRP_STAT g) 29 29
  le16 (s.naCurrent p) ++ le16 (s.fld (Reg.PORT_NA p) 31 16) ++ le8 st ++ le8 0
    ++ (List.range 4).flatMap (fun k => le16 (s.rd (Reg.PORT_CNT p k)))

/-- The sticky bits of a port and its group cleared. -/
def State.portClear (s : State) (p : Nat) : State :=
  (s.setFld (Reg.PORT_NA p) 31 16 0).setFld (Reg.GRP_STAT (p / 8)) 29 28 0

/-- PORT_STATUS_GET. -/
def cmdPortStatusGet : CmdDef := mkCmd 0x3005 modesAny (lenIs 4) (fun _ p s =>
  let first := u8At p 0
  let n := u8At p 1
  let ps := (List.range n).map (first + ·)
  checked s [(decide (n = 0 ∨ 16 < n), Resp.errF stRange 1), (decide (64 < first + n), Resp.errF stRange 0)]
    (if bitOf (u8At p 2) 0 then s.each ps (fun t q => t.portClear q) else s, Resp.ok (ps.flatMap s.portStatus)))

/-- PORT_GROUP_SET (R203). -/
def execPortGroupSet (h : Hdr) (p : Bytes) (s : State) : Host.Outcome State Fault Refusal := cmdPortGroupSet.exec h p s
/-- PORT_SET (R187). -/
def execPortSet (h : Hdr) (p : Bytes) (s : State) : Host.Outcome State Fault Refusal := cmdPortSet.exec h p s
/-- PORT_ENABLE (R197). -/
def execPortEnable (h : Hdr) (p : Bytes) (s : State) : Host.Outcome State Fault Refusal := cmdPortEnable.exec h p s
/-- PORT_MASK_SET (R189). -/
def execPortMaskSet (h : Hdr) (p : Bytes) (s : State) : Host.Outcome State Fault Refusal := cmdPortMaskSet.exec h p s
/-- PORT_STATUS_GET (R205). -/
def execPortStatusGet (h : Hdr) (p : Bytes) (s : State) : Host.Outcome State Fault Refusal := cmdPortStatusGet.exec h p s

end Sys2Proof.Machine
end

