-- ==== Sys2Proof/Machine/Render.lean ====
section
/-! DEFINITION. Object inputs (R73 to R75), alignment delays (R90 to R93), delay windows (R78, R80), and the rendering of a quantum by
Prism and the Lens head (R81 to R89). -/

namespace Sys2Proof.Machine

/-! ### Object inputs -/

/-- The key of a source channel. -/
def srcKey (t : Nat × Nat) : Nat := t.1 * 65536 + t.2

/-- Sample k of a source: an input channel, or a Facet output channel. -/
def sourceVal (raw facet : Tbl Int) (t : Nat × Nat) (k : Nat) : Int :=
  if t.1 = 0 then 0 else if t.1 = 3 then tget 0 facet (t.2 * 8 + k) else tget 0 raw (srcKey t * 8 + k)

/-- An input map of a quantum with the old sources of the entries that change in it. -/
abbrev QMap := Tbl (Nat × Nat) × Tbl (Nat × Nat)

/-- Sample k of object j's input: an entry that changed cross-fades from its old source over the 8 samples (R75). The weights are open:
sample k is (7 − k)/8 of the old source and (k + 1)/8 of the new, as R86 weighs a delay cross-fade (DESIGN CHOICE,
notes/assumptions/59). -/
def objInput (m : QMap) (raw facet : Tbl Int) (j k : Nat) : Int :=
  let new := sourceVal raw facet (tget (0, 0) m.1 j) k
  match m.2.find? (fun e => e.1 == j) with
  | none => new
  | some (_, o) => shrOpen 41 (sourceVal raw facet o k * (7 - k) + new * (k + 1)) 3

/-- The input map of the quantum whose assembly starts now: new entries take effect (R75). -/
def State.pushMap (s : State) : State :=
  let old := s.scene.inputMap
  let new := s.scene.inputNew.foldl (fun t e => tset (0, 0) t e.1 e.2) old
  let olds : Tbl (Nat × Nat) := (s.scene.inputNew.filter (fun e => tget (0, 0) old e.1 != e.2)).map (fun e => (e.1, tget (0, 0) old e.1))
  (s.onScene (fun x => { x with inputMap := new, inputNew := [] })).onPipe (fun x => { x with maps := ((new, olds) :: x.maps).take 3 })

/-- The map of a quantum i quanta behind the newest. -/
def State.mapBack (s : State) (i : Nat) : QMap := s.pipe.maps.getD i (s.scene.inputMap, [])

/-! ### Alignment delays (R90 to R93) -/

/-- The address of an entry of a delay line. -/
def lineAddr (x : Nat × Nat) (i : Int) : Nat := unitAddr x.1 + x.2 * 0x40000 + 4 * (i % 65536).toNat

/-- The weight of sample k of a quantum in a change, in 32nds (R91). -/
def alignWeight (phase k : Nat) : Nat :=
  if 2 ≤ phase ∧ phase ≤ 5 then 31 - (8 * (phase - 2) + k) else if 6 ≤ phase ∧ phase ≤ 9 then 8 * (phase - 6) + k + 1 else 32

/-- The samples of a burst of 16 that ends before sample i are behind the read point. -/
def Align.passed (a : Align) (i : Int) : Align := { a with bad := a.bad.filter (fun f => decide (i - a.cur < f + 16)) }

/-- The first samples of the bursts that the reads of quantum q of object j touch: 16 entries, 64 bytes each (R93). -/
def Align.bursts (a : Align) (q : Int) : List Int :=
  let f := (8 * q - a.cur) / 16 * 16
  if (8 * q + 7 - a.cur) / 16 * 16 = f then [f] else [f, f + 16]

/-- A burst of object j's line whose read for quantum q stays uncorrectable (R93): counted once, with its event; its 16 samples are zero. -/
def State.burstFails (s : State) (q : Int) (e : Nat × Nat) : State :=
  let o := s.obj e.1
  match o.align.line, (o.align.bursts q).find? (fun f => (f % 65536).toNat / 16 == e.2) with
  | some l, some f =>
    if o.align.cur = 0 ∨ o.align.bad.contains f then s
    else
      (s.burstBad e.1 f).eccOutcome 2 (lineAddr l (16 * e.2)) .lasting
  | _, _ => s

/-- One sample of an object through its alignment delay: the state with the line written, and the window's input. `late` are the objects
whose samples are not available. -/
def State.alignSample (s : State) (late : List Nat) (j : Nat) (i : Int) (k : Nat) (x : Int) : State × Int :=
  let a := (s.obj j).align
  match a.line with
  | none => (s, shrOpen 43 (x * alignWeight a.phase k) 5)
  | some l =>
    if a.cur = 0 then (s, shrOpen 43 (x * alignWeight a.phase k) 5)
    else
      let s1 := s.withMem (mwrite s.mem (lineAddr l i) (leS32 x))
      let r := i - a.cur
      let bad := late.contains j || a.bad.any (fun f => decide (f ≤ r ∧ r < f + 16))
      let y := if bad then 0 else s32At (mread s1.mem (lineAddr l r) 4) 0
      (s1, shrOpen 43 (y * alignWeight a.phase k) 5)

/-- A change's end: its COMMAND_DONE piece names the quantum. -/
def State.alignDone (s : State) (j : Nat) (q : Nat) : State :=
  let o := s.obj j
  let s1 := s.setObj j { o with align := { o.align with phase := 0, job := none } }
  s1.pieceDone? o.align.job stOk (le32 q)

/-- The read point moves (R91): a line that leaves use is released unless a held request needs it, one that enters use starts cleared. -/
def State.alignMove (s : State) (j : Nat) : State :=
  let o := s.obj j
  let a := o.align
  let s1 := s.setObj j { o with align := { a with cur := a.target, phase := 6, bad := [] } }
  if a.target = 0 then s1.tidyLine j
  else match a.line with
    | some l => if a.cur = 0 then s1.withMem (mclear s1.mem (lineAddr l 0) 0x40000) else s1
    | none => s1

/-- A held request starts its change; a line on a retired unit is relocated at once if there is room (R92, R125). -/
def State.alignHeld (s : State) (j : Nat) : State :=
  let o := s.obj j
  match o.align.held with
  | none => s
  | some (a, job) =>
    let s1 := s.setObj j { o with align := { o.align with held := none, target := a, phase := 2, job := job } }
    ((s1.relocateLine j).getD s1).tidyLine j

/-- The step of an object's alignment change at the boundary at which assembly of quantum q starts. -/
def State.alignStep (s : State) (q j : Nat) : State :=
  let o := s.obj j
  match o.align.phase with
  | 0 => s
  | 5 => s.alignMove j
  | 9 => (s.alignDone j (q - 1)).alignHeld j
  | p => s.setObj j { o with align := { o.align with phase := p + 1 } }

/-! ### Windows (R78, R80) -/

/-- The address of sample i of object j's window (R78). -/
def winAddr (j : Nat) (i : Int) : Nat := 0x11000000 + (j % 64) * 0x30000 + (j / 64) * 0x3000 + 3 * (i % 4096).toNat

/-- A Q1.31 input as a 24-bit window sample. -/
def winSample (x : Int) : Int := min (2 ^ 23 - 1) (shrOpen 42 x 8)

/-- The window sample of object j at index i. -/
def State.win (s : State) (j : Nat) (i : Int) : Int :=
  let b := mread s.mem (winAddr j i) 3
  toSigned 24 (u8At b 0 + 256 * u8At b 1 + 65536 * u8At b 2)

/-- Samples ks of quantum q of object j written to its window. -/
def State.windowObj (s : State) (late : List Nat) (m : QMap) (raw facet : Tbl Int) (q : Int) (ks : List Nat) (j : Nat) : State :=
  s.each ks (fun t k =>
    let i := 8 * q + (k : Int)
    let (t1, y) := t.alignSample late j i k (objInput m raw facet j k)
    t1.withMem (mwrite t1.mem (winAddr j i) (leBytes 3 (ofSigned 24 (winSample y)))))

/-- Samples ks of quantum q of every object. -/
def State.windows (s : State) (late : List Nat) (m : QMap) (raw facet : Tbl Int) (q : Int) (ks : List Nat) : State :=
  s.each (List.range 1024) (fun t j => t.windowObj late m raw facet q ks j)

/-- Every object that the input map names or that has state of its own. -/
def State.mapped (s : State) (m : QMap) : List Nat :=
  s.objKeys ++ (m.1.map (·.1)).filter (fun j => !s.scene.objs.any (fun (e : Nat × Obj) => e.1 == j))

/-- The objects whose source is absent in a quantum (R74). -/
def State.markAbsent (s : State) (m : QMap) (here : List Nat) : State :=
  s.each (s.mapped m) (fun t j =>
    let e := tget (0, 0) m.1 j
    t.setObj j { t.obj j with absent := e.1 != 0 && !here.contains (srcKey e) })

/-- Late alignment reads of a quantum counted (R93). -/
def State.bulkCounts (s : State) (late : List Nat) : State :=
  let n := (late.filter (fun j => (s.obj j).align.cur != 0)).length
  if n = 0 then s else ((s.bump (Reg.PRISM_CNT 4) n).perfAdd 5 n).raise Reg.PRISM_INT_STATUS 2

/-! ### The per-sample arithmetic (R81 to R89) -/

/-- Whether the taps of a phase are as R82 states: they sum to exactly 1.0 in Q1.23, and their absolute values to at most 1.75. -/
def tapsOk (h : Nat → Int) : Bool :=
  decide ((List.range 8).foldl (fun a t => a + h t) 0 = 2 ^ 23) && decide ((List.range 8).foldl (fun a t => a + (h t).natAbs) 0 ≤ 14680064)

/-- Tap t of a phase (R82): the unit impulse at tap 4 for phase 0; the free values of the coefficient ROM, as far as they have the sums R82
states, for every other. -/
def interpTap (phi t : Nat) : Int :=
  if phi ≠ 0 ∧ tapsOk (Config.interpTap phi) then Config.interpTap phi t else if t = 4 then 2 ^ 23 else 0

/-- The interpolated read at a delay in 1/256 sample, Q2.31 (R82). -/
def interpRead (w : Int → Int) (i d : Int) : Int :=
  let n := d / 256
  let phi := (d % 256).toNat
  if phi = 0 then w (i - n) * 256
  else shrNearest 6 ((List.range 8).foldl (fun a t => a + interpTap phi t * w (i - n - 4 + t)) 0) 15

/-- An exact quotient brought to an integer where no rounding is stated. -/
def divOpen (kind : Nat) (n d : Int) : Int := if n % d = 0 then n / d else n / d + b2n (Config.roundUp kind n)

/-- The shelf coefficient as a number in 1/65,536: 0xFFFF is 1.0 (R88). -/
def shelfNum (a : Nat) : Int := if a = 0xFFFF then 65536 else a

/-- Where a path's delay goes in a quantum: at most 1,024 towards its target with DOPPLER, nowhere without (R85, R86). -/
def Path.goal (p : Path) : Int :=
  if !p.doppler || p.xfade.isSome || p.paused then p.d0 else p.d0 + clampInt (-1024) 1024 (p.d1 - p.d0)

/-- Whether the move of the quantum was limited (R85). -/
def Path.slewed (p : Path) : Bool := p.doppler && p.xfade.isNone && !p.paused && decide (1024 < (p.d1 - p.d0).natAbs)

/-- What a path reads for sample k: one read, or the mix of a delay cross-fade (R81, R86). -/
def Path.read (p : Path) (w : Int → Int) (i : Int) (k : Nat) : Int :=
  match p.xfade with
  | some x =>
    let m : Int := if p.paused then 8 * (x.step : Int) else 8 * (x.step : Int) + k + 1
    shrOpen 9 (interpRead w i p.d0 * (32 - m) + interpRead w i x.dest * m) 5
  | none => interpRead w i (p.d0 + (k + 1) * (p.goal - p.d0) / 8)

/-- The pole coefficient b of the shelf in 1/100,000 (R88). -/
def shelfPole (rate96 : Bool) : Int := if rate96 then 48029 else 72991

/-- One sample of a path: the new working shelf state (Q2.39) and the contribution to the bus (Q13.35). -/
def Path.sample (p : Path) (w : Int → Int) (rate96 : Bool) (i : Int) (lp : Int) (k : Nat) : Int × Int :=
  let v := p.read w i k * 256
  let lp1 := lp + divOpen 3 (shelfPole rate96 * (v - lp)) 100000
  let a := shelfNum p.a0 + (k + 1) * (shelfNum p.a1 - shelfNum p.a0) / 8
  let y := shrOpen 4 (lp1 * 65536 + a * (v - lp1)) 24
  let g := p.g0 + (k + 1) * (p.g1 - p.g0) / 8
  (lp1, shrOpen 5 (g * y) 26)

/-- A quantum of a path: its 8 contributions and the last working shelf state. -/
def Path.quantum (p : Path) (w : Int → Int) (rate96 : Bool) (q : Int) : Int × List Int :=
  (List.range 8).foldl (fun (acc : Int × List Int) (k : Nat) =>
    let (lp, c) := p.sample w rate96 (8 * q + (k : Int)) acc.1 k
    (lp, acc.2 ++ [c])) (p.lp * 512, [])

/-- A path at the end of a quantum (R81, R85, R86). -/
def Path.advance (p : Path) (lp : Int) : Path :=
  let xf := match p.xfade with
    | some x => if p.paused then some x else if x.step = 3 then none else some { x with step := x.step + 1 }
    | none => none
  let d := match p.xfade with
    | some x => if !p.paused && x.step == 3 then x.dest else p.d0
    | none => p.goal
  { p with d0 := d, xfade := xf, g0 := p.g1, a0 := p.a1, lp := divHalfEven lp 512, paused := false }

/-- Contributions added to the accumulators of a bus. -/
def addBus (acc : Tbl Int) (bus : Nat) (cs : List Int) : Tbl Int :=
  ((List.range 8).zip cs).foldl (fun t e => tset 0 t (bus * 8 + e.1) (tget 0 t (bus * 8 + e.1) + e.2)) acc

/-- Prism renders quantum q: the state with the paths at its end, and the bus accumulators (Q13.35). -/
def State.prismQuantum (s : State) (q : Int) : State × Tbl Int :=
  let rs := s.prism.paths.map (fun p => (p, p.quantum (s.win p.obj) s.time.rate96 q))
  let acc := rs.foldl (fun t e => addBus t e.1.bus e.2.2) []
  let slews := (s.prism.paths.filter Path.slewed).length
  let s1 := s.onPrism (fun x => { x with paths := rs.map (fun e => e.1.advance e.2.1), running := true })
  (((s1.bump (Reg.PRISM_CNT 1) slews).perfAdd 6 slews).perfAdd 0, acc)

/-- The lane of a path: that of its bus. -/
def State.laneOf (s : State) (p : Path) : Nat := tget 0 s.prism.busLane p.bus

/-- The lanes' cycles of a quantum: 8 for each path and each cross-fade read, and the waits given (R94). -/
def State.laneCounts (s : State) (waits : List Nat) : State :=
  let n := s.renderLanes
  let work := fun (l : Nat) => (s.prism.paths.filter (fun p => s.laneOf p == l)).foldl (fun c p => c + 8 + 8 * b2n p.xfade.isSome) 0
  let cyc : Tbl Nat := (List.range 8).foldl (fun t l => tset 0 t l (if l < n then work l + waits.getD l 0 else 0)) []
  let stall := ((List.range n).map (fun l => waits.getD l 0)).foldl (· + ·) 0
  ((s.onPrism (fun x => { x with laneCyc := cyc, lanes := 2 ^ n - 1 })).bump (Reg.PRISM_CNT 0) stall).perfAdd 3 stall

/-- The Lens head over all buses: `input` gives the 8 binary32 samples of a bus (R129). -/
def State.lensAll (s : State) (q : Int) (input : Nat → List Nat) : State × Tbl Int :=
  (List.range s.busCount).foldl (fun acc b =>
    let (s1, out) := acc.1.lensQuantum b q (input b)
    (s1, ((List.range 8).zip out).foldl (fun t e => tset 0 t (b * 8 + e.1) e.2) acc.2)) (s, [])

/-- The bus sums of Prism as binary32 (R83). -/
def busFloats (acc : Tbl Int) (b : Nat) : List Nat := (List.range 8).map (fun k => f32Round false (tget 0 acc (b * 8 + k)) (-35))

/-- The render stage of quantum q in RENDER or MIRROR. -/
def State.renderQuantum (s : State) (q : Int) (waits : List Nat) : State :=
  let (s1, acc) := (s.laneCounts waits).prismQuantum q
  let (s2, out) := s1.lensAll q (busFloats acc)
  s2.onPipe (fun x => { x with rendered := out })

/-- The render stage of quantum q in MEASURE, boundary n: the generator drives the buses (R168). -/
def State.measureQuantum (s : State) (n : Nat) (q : Int) : State :=
  let (s1, sweep, noise) := s.genQuantum n q
  let (s2, out) := s1.lensAll q (s1.driveInput sweep noise)
  s2.onPipe (fun x => { x with rendered := out })

end Sys2Proof.Machine
end

