-- ==== Sys2Proof/Machine/TraceBuf.lean ====
section
/-! DEFINITION. The trace buffer in DRAM: its place, what the FIFO puts into it when it is placed, and its end (R474). -/

namespace Sys2Proof.Machine

/-- The units of 2 MiB the set buffer needs; 0 when none is set. -/
def State.traceUnits (s : State) : Nat := (s.fld Reg.TRACE_SIZE 6 0 + 1) / 2

/-- The records of the FIFO go to the buffer. -/
def State.drainTrace (s : State) : State :=
  (s.onTrace (fun x => { x with fifo := [] })).each s.trace.fifo (fun t r => t.bufStore r)

/-- The trace buffer placed, when one is set and not placed yet; nothing when it does not fit. -/
def State.placeTrace (s : State) : Option State :=
  if s.trace.bufUnits ≠ 0 ∨ s.traceUnits = 0 then some s
  else (s.place 8 0 s.traceUnits).map (fun e =>
    ((e.2.onTrace (fun x => { x with bufUnit := e.1, bufUnits := s.traceUnits })).wr Reg.TRACE_BASE (unitAddr e.1 / 256)).drainTrace)

/-- Records in the buffer that are not read and not overwritten. -/
def State.traceUnread (s : State) : Nat := min s.traceCap (s.trace.written - s.trace.read)

/-- Records that were overwritten before they were read (mode 1): they count as lost, and the oldest unread record moves on. -/
def State.traceSkip (s : State) : State :=
  let n := s.trace.written - s.trace.read - s.traceUnread
  s.onTrace (fun x => { x with lost := x.lost + n, read := x.read + n })

/-- The trace buffer freed: what was not read is lost. -/
def State.freeTrace (s : State) : State :=
  if s.trace.bufUnits = 0 then s
  else
    let n := s.trace.written - s.trace.read
    let s1 := s.onTrace (fun x => { x with bufUnit := 0, bufUnits := 0, lost := x.lost + n, read := x.written, stopped := false })
    (s1.unplace 8 0).wr Reg.TRACE_BASE 0

end Sys2Proof.Machine
end

