-- ==== Sys2Proof/Machine/Modes.lean ====
section
/-! DEFINITION. Changes between PARK and the live modes (R403 to R405, R449 to R452, R526), RATE_SET (R406) and SYS_RESET (R407). -/

namespace Sys2Proof.Machine

/-! ### The refusals of R404 -/

/-- Bytes of Lens tail traffic per block on the spectra and coefficients ports (R139, R346): `parts` are the grants. -/
def tailBytes (parts : List Nat) (limit : Nat) : Nat × Nat :=
  let taps := 256 * parts.foldl (· + ·) 0
  let most := ((sortBy (fun a b => decide (b ≤ a)) parts).take 256).foldl (· + ·) 0
  (8 * taps + 2048 * (parts.filter (· != 0)).length, 8 * taps + 8 * (256 * min limit most))

/-- Whether the tail traffic exceeds the allotments at 3,200 MT/s (R346, R352): 4.5 and 5.6 GB/s. -/
def State.tailOver (s : State) : Bool :=
  let (a, b) := tailBytes (s.lens.buses.map (fun (e : Nat × LensBus) => e.2.target)) s.fadeLimit
  let blocks := if s.time.rate96 then 750 else 375
  s.ddrc.rate == 1 && decide (9000000000 < blocks * a ∨ 11200000000 < blocks * b)

/-- The delay lines of the objects that need one and have none, placed (R91); one on a retired unit was given up at the entry to PARK. -/
def State.placeLines (s : State) : List Nat → Option State
  | [] => some s
  | j :: js =>
    if (s.obj j).align.cur = 0 ∨ (s.obj j).align.line.isSome then s.placeLines js
    else match s.placeLine j with
      | none => none
      | some t => t.placeLines js

/-- Every region of R124 that is wanted and not placed yet, placed. -/
def State.placeRegions (s : State) : Option State :=
  match s.placeTrace with
  | none => none
  | some s1 =>
    match s1.placeTails with
    | none => none
    | some s2 =>
      match s2.placeLines s2.objKeys with
      | none => none
      | some s3 => s3.placeBuffers ((s3.net.ctx.filter (fun e => e.2.enabled && !e.2.output)).map (·.1))

/-- The refusals of R404, in their order; a fatal error being handled refuses like a sweep. -/
def State.leaveChecks (s : State) : List (Bool × Resp) :=
  [ (s.ddrc.sweep.isSome || s.ddrc.deferred.isSome || s.sys.fatal.isSome, Resp.errS stState)
  , (s.tailOver, Resp.errS stBudget), (s.placeRegions.isNone, Resp.resource 0xFFFF 0 0xFFFF) ]

/-! ### MODE_SET (R403) -/

/-- The mode a code of MODE_SET names: 2 to 4. -/
def modeOf (c : Nat) : Option Mode :=
  match c with
  | 2 => some .park | 3 => some .measure | 4 => some .render | _ => none

/-- The transitions of R10 that MODE_SET may ask for. -/
def modePermitted (a b : Mode) : Bool :=
  match a, b with
  | .park, .measure => true | .park, .render => true | .measure, .park => true | .render, .park => true | _, _ => false

/-- MODE_SET accepted: on leaving PARK the domains are powered, once the loads in PARK have ended (R404, R451); on leaving MEASURE the
generator fades (R169). -/
def State.startChange (s : State) (h : Hdr) (m : Mode) : State :=
  let s0 := if m = .park then s.genStop else s
  let s1 := (s0.newJob h 0x0003 1).onSys (fun x => { x with modeReq := some ⟨m, h⟩ })
  if m ≠ .park ∧ s1.parkLoad.isNone then s1.wakeFor m else s1

/-- MODE_SET (R403). -/
def cmdModeSet : CmdDef := mkCmd 0x0003 [.park, .measure, .render] (lenIs 4) (fun h p s =>
  match modeOf (u8At p 0) with
  | none => (s, Resp.errF stRange 0)
  | some m =>
    if s.sys.modeReq.isSome then (s, Resp.errS stState)
    else if m = s.sys.mode then (s, Resp.ok)
    else if !modePermitted s.sys.mode m then (s, Resp.errS stMode)
    else checked s (if s.sys.mode == .park then s.leaveChecks else []) (s.startChange h m, Resp.accepted))

/-- MODE_SET (R403). -/
def execModeSet (h : Hdr) (p : Bytes) (s : State) : Host.Outcome State Fault Refusal := cmdModeSet.exec h p s

/-! ### Entering a live mode (R404, R449, R526) -/

/-- A bus at an entry: its signal state starts afresh; banks and settings stay (R449). `z` samples of the tail block being collected lie
before the entry and are zero; m is the first tail block that owes a result (R138). -/
def LensBus.enter (b : LensBus) (z m : Nat) : LensBus :=
  { b with gain := b.goal, rampLeft := 0, bq := [], hist := [], block := List.replicate z 0, prev := [], fdl := [], tailDue := []
           tailNow := ([], []), dueFrom := m, gr := 0, det := Det.init }

/-- Every bus at an entry whose first rendered quantum is q. -/
def State.lensEnter (s : State) (q : Int) : State :=
  (s.each (List.range s.busCount) (fun t b => t.setLensBus b ((t.lensBus b).enter (8 * (q % 32).toNat) ((q / 32).toNat + 2)))).onLens
    (fun x => { x with queue := [], timed := [] })

/-- Delay windows, path state, delay lines and Facet regions start at zero (R91, R449). -/
def State.clearLive (s : State) : State :=
  let s1 := s.withMem (mclear (mclear (mclear s.mem 0x10000000 0x500000) 0x11000000 0xC00000) 0x14000000 0x200000)
  s1.each s1.linesInUse (fun t x => t.withMem (mclear t.mem (lineAddr x 0) 0x40000))

/-- Enabled tasks at an entry: their regions hold their images, and they run from the next boundary. -/
def State.tasksEnter (s : State) : State :=
  s.each s.sched.tasks (fun t (e : Nat × FTask) =>
    if e.2.enabled then (t.initRegions e.2).setTask e.1 { e.2 with armed := false, misses := 0 } else t)

/-- The ENABLE bits of the engines, and the configuration locks, in a live mode and in PARK: Prism, the metadata engine and Focus only
where paths render (R108, R168). -/
def State.engines (s : State) (on paths : Bool) : State :=
  let v := b2n on
  let w := b2n paths
  let s1 := ((s.setFld Reg.PRISM_CTRL 0 0 w).setFld Reg.PRISM_CTRL 2 2 (1 - v)).setFld Reg.PRISM_CTRL 1 1 (b2n (on && s.prism.half))
  let s2 := ((s1.setFld Reg.META_CTRL 0 0 w).setFld Reg.FOCUS_CTRL 0 0 w).setFld Reg.LENS_CTRL 0 0 v
  (s2.setFld Reg.LENS_CTRL 1 1 (1 - v)).each (List.range 8) (fun t n => if t.coreExists n then t.setFld (Reg.FCORE_CTRL n) 0 0 v else t)

/-- Mirror at an entry (R435): a unit that sees its partner active at the entry to RENDER is a standby in MIRROR; any other is IDLE. -/
def State.mirEnter (s : State) (m : Mode) : State × Mode :=
  let standby := s.mirrorOn && m == .render && s.mir.view
  let st := if !s.mirrorOn then MirState.off else if standby then .standby else .idle
  (s.onMir (fun x => { x with
    st := st, ready := false, synced := false, hbRun := 0, hbMiss := 0, parking := false, raiseFor := none
    lowerFor := none, withheld := 0 }), if standby then .mirror else m)

/-- Prism and the pipeline at an entry. -/
def State.pipeEnter (s : State) (m : Mode) : State :=
  ((s.onPipe (fun _ => Pipe.reset)).halfPower).onPrism (fun x => { x with
    setup := none, paths := [], commitInfo := none, half := x.halfRecorded && !s.sys.orderIL && m != .measure, halfChange := none
    running := false, laneCyc := [], laneStart := [], busLane := [], staging := [] })

/-- The first quantum rendered after an entry at B(n): it carries no path and no signal (R526). -/
def State.firstQuantum (s : State) (n : Nat) (q : Int) : State := if s.sys.mode = .measure then s.measureQuantum n q else s.renderQuantum q []

/-- The first path setup after an entry (R526). -/
def State.firstSetup (s : State) (n : Nat) : State :=
  if s.rendering then ((s.metaEntry.stepAir).commitLayout).pathSetup ((n : Int) - 1 - s.osLag) else s

/-- MODE_SET completes: the mode, then its COMMAND_DONE (R422). -/
def State.modeEntered (s : State) (r : ModeReq) (m : Mode) : State :=
  let s1 := (s.onSys (fun x => { x with modeReq := none })).setMode m 0
  s1.pieceDone? (s1.jobOf 0x0003 r.hdr) stOk (le8 m.code ++ zeros 3 ++ le32 s.time.lastQ)

/-- A live mode entered at the present boundary (R404). -/
def State.enterLive (s : State) (r : ModeReq) : State :=
  let n := s.time.lastQ
  let q : Int := (n : Int) - 2 - s.osLag
  let s1 := ((s.placeRegions.getD s).pipeEnter r.target).clearLive
  let s2 := (((s1.tasksEnter.lensEnter q).micStart).portsStart).engines true (r.target != .measure)
  let (s3, m) := s2.mirEnter r.target
  let s4 := s3.onSys (fun x => { x with mode := m })
  let s5 := ((s4.pushMap.streamsBoundary n).firstQuantum n q).firstSetup n
  ((s5.onSched (fun x => { x with used := [], rtReleased := false })).onSys (fun x => { x with mode := .park })).modeEntered r m

/-! ### Entering PARK (R405) -/

/-- The fades, waits and held swaps of a bus end with their last target active (R405, R153). -/
def State.parkSwap (s : State) (b : Nat) : State :=
  let s1 := s.fadeEnd b
  match (s1.lensBus b).wait with
  | none => s1
  | some r =>
    let s2 := (s1.leaveQueue b).setLensBus b { s1.lensBus b with active := r.target, wait := none, st := .steady }
    s2.pieceDrop (some r.job)

/-- The same of a microphone channel. -/
def State.parkComp (s : State) (c : Nat) : State :=
  let s1 := match (s.mic c).fade with
    | none => s
    | some (st, r) => s.compFadeEnd c (st + r.f + 1)
  match (s1.mic c).wait with
  | none => s1
  | some r => (s1.setMic c { s1.mic c with active := r.target, wait := none, st := .steady }).pieceDrop (some r.job)

/-- Bank loads complete. -/
def State.parkLoads (s : State) : State :=
  let s1 := s.each s.lens.loads (fun t l => t.each l.left (fun u e =>
    match u.lens.loads.find? (fun y => y.job == l.job) with
    | some y => u.loadBank y e.1 e.2.1 e.2.2
    | none => u))
  s1.endCompLoads s.time.lastQ

/-- An object's alignment delay at its final value: a held request is the last; the jobs of both end. -/
def State.parkAlign (s : State) (j : Nat) : State :=
  let a := (s.obj j).align
  let v := match a.held with
    | some (x, _) => x
    | none => if a.phase = 0 then a.cur else a.target
  let put := fun (t : State) => t.setObj j { t.obj j with align := { (t.obj j).align with cur := v, target := v, phase := 0, job := none, held := none } }
  if a.phase = 0 ∧ a.held.isNone then s
  else
    let d := le32 (s.time.lastQ % 2 ^ 32)
    let s1 := (put s).pieceDone? a.job stOk d
    let s2 := s1.pieceDone? (a.held.bind (·.2)) stOk d
    if v = 0 then s2.freeLine j else s2

/-- Pending grant changes complete. -/
def State.parkGrants (s : State) : State :=
  s.each s.lens.buses (fun t (e : Nat × LensBus) =>
    t.each e.2.grants (fun u g => (u.setLensBus e.1 ((u.lensBus e.1).setParts g.1)).pieceDone g.2.2 stOk (le32 (g.2.1 % 2 ^ 32))))

/-- A change of half B ends: its requested state is recorded (R100). -/
def State.parkHalf (s : State) : State :=
  let s1 := match s.prism.halfChange with
    | none => s
    | some c => (s.onPrism (fun x => { x with halfRecorded := c.on })).endJob c.job stOk (le8 (b2n c.on))
  s1.onPrism (fun x => { x with half := false, halfChange := none })

/-- Generator and capture stop (R169, R176), and what the pipeline held is gone. -/
def State.parkStop (s : State) : State :=
  let s1 := ((s.genRelease.freeCapture).discardFacet).parkHalf
  let s2 := (s1.streamsStop.portsStop).micStop
  ((s2.onPrism (fun x => { x with paths := [], setup := none, commitInfo := none, running := false, lanes := 0, staging := [] })).onPipe
    (fun _ => Pipe.reset)).metaPark

/-- The host region is gone (R383). -/
def State.freeHostRegion (s : State) : State :=
  if s.host.regionUnits = 0 then s
  else
    let s1 := (s.unplace 7 0).onHost (fun x => { x with regionUnit := 0, regionUnits := 0 })
    (s1.wr Reg.HOSTIF_BAR2_BASE 0).wr Reg.HOSTIF_BAR2_SIZE 0

/-- Whether a region holds a unit that is retired, or one its segment does not keep (R125, R365). -/
def State.mustMove (s : State) (kind : Nat) : Bool :=
  s.ddrc.alloc.any (fun e => e.2 == regionTag kind 0 && (s.unitRetired e.1 || !s.unitKept e.1))

/-- The tail regions relocated; what had failed lastingly keeps wrong content (R140). -/
def State.moveTails (s : State) : State :=
  if s.mustMove 2 then
    let s1 := (((s.unplace 2 0).place 2 0 s.tailUnits).map (·.2)).getD s
    (s1.each s1.lens.buses (fun t (e : Nat × LensBus) =>
      if e.2.bad.isEmpty then t else t.setLensBus e.1 (e.2.afterMove t.freeCnt e.1))).fresh
  else s

/-- The spill ring relocated. -/
def State.moveSpill (s : State) : State :=
  if s.mustMove 5 then
    ((((s.unplace 5 0).onSched (fun x => { x with spillPlaced := false })).placeSpill)).getD s
  else s

/-- Delay lines and jitter buffers on retired units give them up; they are placed again at the next entry. -/
def State.dropRetired (s : State) : State :=
  let s1 := s.each s.objKeys (fun t j => if ((t.obj j).align.line.map (fun x => t.unitRetired x.1)).getD false then t.freeLine j else t)
  s1.each (s1.net.ctx.map (·.1)) (fun t c => if ((t.ctx c).place.map (fun x => t.unitRetired x.1)).getD false then t.freeBuffer c else t)

/-- The segments the mask drops lose what they hold (R364 to R366). -/
def State.dropSegments (s : State) : State :=
  let seg := s.segUnits * 0x200000
  s.each ((List.range 7).filter (fun k => k != 0 && !s.bit Reg.DDRC_KEEP k)) (fun t k => t.withMem (mclear t.mem (unitAddr 0 + k * seg) seg))

/-- DRAM at the entry to PARK (R125, R365, R366). -/
def State.parkDram (s : State) : State :=
  let s1 := (s.freeHostRegion.freeTrace).dropRetired
  (s1.moveTails.moveSpill).dropSegments

/-- PARK entered at the present boundary (R405): accepted work ends, then the mode changes. -/
def State.enterPark (s : State) (r : ModeReq) : State :=
  let s1 := (s.parkLoads.each (List.range 1024) (fun t b => t.parkSwap b)).each (List.range 16) (fun t c => t.parkComp c)
  let s2 := ((s1.each s1.objKeys (fun t j => t.parkAlign j)).parkGrants.parkStop).parkStep
  let s3 := ((s2.parkDram.engines false false).onMir (fun x => { x with
    parking := false, st := if s.mirrorOn then .idle else .off, synced := false, ready := false, hbOut := false })).ddrSleep
  (s3.setPwr 0x107).modeEntered r .park

/-! ### MODE_ENTRY (R404, R405) -/

/-- MODE_ENTRY: the mode that a MODE_SET asked for is entered at the present boundary. A live mode waits for the loads of PARK (R451); PARK
for the switch tick at which the unit gave up ACT (R435) and for the end of the generator's fade (R169). -/
def execModeEntry (s : State) : Host.Outcome State Fault Refusal :=
  match s.sys.modeReq with
  | none => .next s
  | some r =>
    if s.sys.phase ≠ .running ∨ s.sys.fatal.isSome then .next s
    else if r.target = .park then .next (if s.live && s.mir.parking && s.meas.gen.stopping.isNone then s.enterPark r else s)
    else .next (if s.sys.mode = .park ∧ s.parkLoad.isNone then s.enterLive r else s)

/-! ### RATE_SET (R406) -/

/-- Whether the settings name a bus that 96 kHz does not have (R51): layouts, DIRECT lists, the output map. Whether a bus that a waiting
OUTPUT_MAP_SET has unmapped still counts is open: the map in force and the waiting changes both count (DESIGN CHOICE,
notes/assumptions/59). -/
def State.highBus (s : State) : Bool :=
  let lay := fun (l : Option Layout) => (l.map (fun x => x.speakers.any (fun k => decide (512 ≤ k.bus)))).getD false
  lay s.scene.active || lay s.scene.staged || s.scene.objs.any (fun (e : Nat × Obj) => e.2.direct.any (fun d => decide (512 ≤ d.1)))
    || (s.scene.outputMap ++ s.scene.outputNew).any (fun (e : Nat × List (Nat × Nat)) => decide (512 ≤ e.1) && !e.2.isEmpty)

/-- Whether the grants do not fit 96 kHz (R137). -/
def State.highGrant (s : State) : Bool :=
  s.lens.buses.any (fun (e : Nat × LensBus) => decide (32 < e.2.target) || (decide (512 ≤ e.1) && e.2.target != 0))
    || decide (7168 < s.grantSum)

/-- Whether a receive context does not fit the rate in force (R226, R228). -/
def State.badCtx (s : State) : Bool :=
  s.net.ctx.any (fun e => e.2.isSet && !e.2.output && (decide (s.linkMax < e.2.link) || decide (e.2.link < s.packetLen e.2.ptime) || decide (s.chanLimit e.2 < e.2.chans)))

/-- The frame lengths a master group may have (R183): powers of two at 48 kHz, without the longest at 96 kHz. -/
def State.masterLen (s : State) (l : Nat) : Bool := isFrame2 l && decide (l * s.time.tps % 32 = 0) && decide (l * (if s.time.rate96 then 2 else 1) ≤ 1024)

/-- Whether a configured group does not fit the rate in force (R179, R183). -/
def State.badGroup (s : State) : Bool :=
  (List.range 8).any (fun g => s.grpMode g != 0 &&
    (decide (s.bankLimit g < s.grpLen g * s.time.fs) || (s.grpMode g == 1 && !s.masterLen (s.grpLen g))))

/-- The state at another rate. -/
def State.atRate (s : State) (r96 : Bool) : State := s.onTime (fun x => { x with rate96 := r96 })

/-- RATE_SET in effect: the boundaries are those of the new rate. -/
def State.rateSet (s : State) (r96 : Bool) : State :=
  let s1 := s.atRate r96
  let s2 := s1.onTime (fun x => { x with lastQ := x.tick / x.tq })
  (s2.onMir (fun x => { x with viewNext := x.viewNext.map (fun e => (s2.nextBoundary, e.2)) })).setFld Reg.PRISM_CFG 0 0 (b2n r96)

/-- RATE_SET (R406). -/
def cmdRateSet : CmdDef := mkCmd 0x0004 [.park] (lenIs 4) (fun _ p s =>
  let up := u8At p 0 == 1
  let t := s.atRate up
  checked s [ (decide (1 < u8At p 0), Resp.errF stRange 0), (up && (s.highBus || s.highGrant), Resp.errS stState)
            , (t.badCtx || t.badGroup, Resp.errS stState) ] (s.rateSet up, Resp.ok))

/-- RATE_SET (R406). -/
def execRateSet (h : Hdr) (p : Bytes) (s : State) : Host.Outcome State Fault Refusal := cmdRateSet.exec h p s

/-! ### SYS_RESET (R407) -/

/-- SYS_RESET: its response is written, and the reset follows 1 ms later. -/
def cmdSysReset : CmdDef := mkCmd 0x0005 modesAny (lenIs 4) (fun _ p s =>
  checked s [(u8At p 0 != 1, Resp.errF stRange 0)]
    (s.onSys (fun x => { x with sysResetDue := some (s.time.eventTick + 24576) }), Resp.ok))

/-- SYS_RESET (R407). -/
def execSysReset (h : Hdr) (p : Bytes) (s : State) : Host.Outcome State Fault Refusal := cmdSysReset.exec h p s

end Sys2Proof.Machine
end

