-- ==== Sys2Proof/Machine/RegView.lean ====
section
/-! DEFINITION. What the registers read as (R11 to R13): the stored fields, and the live fields computed from the state. A read
through these functions has no side effect, as COUNTER_READ and the dump read (R418, R478). -/

namespace Sys2Proof.Machine

/-! ### Small views -/

/-- Bit k of a 32-bit word taken from a test of 32n + k. -/
def maskWord (n : Nat) (f : Nat → Bool) : Nat := (List.range 32).foldl (fun a k => a + b2n (f (32 * n + k)) * 2 ^ k) 0

/-- The mask of a list of numbers. -/
def maskOf (l : List Nat) : Nat := (List.range 32).foldl (fun a k => a + b2n (l.contains k) * 2 ^ k) 0

/-- ALIGN_STATEn. -/
def Align.word (a : Align) : Nat :=
  b2n a.held.isSome * 2 ^ 19 + (if a.phase = 0 then 0 else if a.phase < 6 then 1 else 2) * 2 ^ 16
    + (if a.phase = 0 then a.cur else a.target) % 65536

/-- META_OBJn. -/
def Obj.metaWord (o : Obj) : Nat :=
  b2n o.second * 2 ^ 23 + b2n o.converging * 2 ^ 22 + b2n (bitOf o.cur 6) * 2 ^ 21 + b2n ((o.newest.map (·.hold)).getD false) * 2 ^ 20
    + b2n o.present * 2 ^ 19 + o.queue.length % 8 * 2 ^ 16 + o.gen % 65536

/-- MIC_CHn. -/
def Mic.word (m : Mic) : Nat :=
  m.profile % 8 * 512 + b2n m.clip * 256 + b2n m.stuckSticky * 128 + b2n m.load1 * 64 + b2n m.load0 * 32
    + (m.held.map (·.target)).getD 0 * 16 + b2n m.held.isSome * 8 + m.st.code * 2 + m.active

/-- GEN_STATUS. A repeat has still to start when its first sample has not been rendered. -/
def State.genWord (s : State) : Nat :=
  let g := s.meas.gen
  let now := fun (st : Int) => (8 * (s.time.lastQ - 2 - s.osLag - st)).toNat
  let state := match g.start with
    | none => 0
    | some st => if g.stopping.isSome then 3 else if (s.time.lastQ : Int) - 2 - s.osLag < st then 1 else 2
  let left := match g.cfg, g.start with
    | some c, some st => if state = 1 then c.reps else c.reps - min c.reps (now st / (c.len + c.gap) + 1)
    | _, _ => 0
  g.drive.length % 64 * 2 ^ 16 + left % 256 * 256 + state

/-- The state code of CAP_STATUS. -/
def State.captureState (s : State) : Nat :=
  match s.meas.capture with
  | none => 0
  | some c => if c.st = 0 then 1 else if c.st = 2 then 3 + c.status else if c.begun then 3 else 2

/-- CAP_STATUS. -/
def State.captureStatus (s : State) : Nat :=
  match s.meas.capture with
  | none => 0
  | some c => c.tap % 4 * 2 ^ 16 + c.chans % 256 * 256 + c.cause % 8 * 16 + s.captureState

/-- The validity end as CAP_END shows it. -/
def State.captureEnd (s : State) : Nat := ((s.meas.capture.bind (·.validEnd))).getD (2 ^ 64 - 1)

/-- The live fields of GRP_STATg. -/
def GrpSt.word (v : GrpSt) : Nat := b2n v.lost * 2 ^ 31 + b2n v.drift * 2 ^ 30 + ofSigned 4 v.d * 2 ^ 16 + v.phase % 1024

/-- The current non-audio bits of a stream context. -/
def StreamCtx.naMask (v : StreamCtx) : Nat := v.na.foldl (fun a (e : Nat × NaSt) => a + b2n e.2.muted * 2 ^ e.1) 0

/-- The stream contexts that run in a direction. -/
def State.ctxRunning (s : State) (out : Bool) : Nat := (s.net.ctx.filter (fun e => e.2.running && e.2.output == out)).length

/-- The load of STR_LOADp: that of the enabled output contexts. -/
def State.loadMbps (s : State) (p : Nat) : Nat :=
  s.portLoad ((s.net.ctx.filter (fun e => e.2.enabled && e.2.output)).map (·.2)) p / 1000000

/-- FCORE_STATUS. -/
def State.coreWord (s : State) (n : Nat) : Nat :=
  let i := s.residentItem n
  ((i.bind (·.task)).getD 0) % 1024 * 2 ^ 16 + (s.contexts n).length % 8 * 256 + ((i.map (·.level)).getD 0) % 8 * 16 + s.coreState n

/-- SCHED_SERVERs. -/
def State.serverWord (s : State) (n : Nat) : Nat :=
  match s.resident n with
  | none => 0
  | some slot =>
    match s.item? slot with
    | none => 0
    | some i => 2 ^ 31 + b2n i.flow.isSome * 2 ^ 27 + i.level % 8 * 2 ^ 24 + i.flow.getD 0 % 256 * 2 ^ 16 + slot % 1024

/-- The ready items at a level. -/
def State.readyAt (s : State) (l : Nat) : Nat := (s.sched.items.filter (fun e => e.2.use == .ready && e.2.level == l)).length

/-- Reads and writes a master has outstanding (XBAR_OUTm): requests issued, held back ones included. -/
def State.outstanding (s : State) (m : Nat) (write : Bool) : Nat :=
  (s.xbar.reqs.filter (fun e => e.req.master == m && e.st != .stalled &&
    (match e.req.acc with
     | .read _ => !write
     | .write _ => write))).length

/-- DDRC_STATUS; the rate is that of initialisation until the first sweep starts (R346). -/
def State.ddrcStatus (s : State) : Nat :=
  let rate := if !s.sys.sweepPassed && s.ddrc.sweep.isNone then 2 else s.ddrc.rate % 4
  b2n s.sys.dram8 * 128 + b2n s.ddrc.derated * 64 + b2n s.ddrc.deferred.isSome * 32 + b2n s.ddrc.sweep.isSome * 16
    + b2n s.ddrc.selfRefresh * 8 + rate * 2 + b2n s.dramServing

/-- DDRC_PORTp_STAT. -/
def State.ddrcPort (s : State) (p : Nat) : Nat :=
  let mine := s.ddrc.waiting.filter (fun r => r.port == p)
  let u := mine.foldl (fun a r => max a (urgency (s.dramTarget p) r.age)) 0
  b2n (s.ddrc.throttled.contains p) * 512 + min 63 mine.length * 4 + u % 4

/-- MBX_SLOT_STATE. -/
def State.slotStates (s : State) : Nat := (List.range 8).foldl (fun a n => a + (s.slot n).st.code * 8 ^ n) 0

/-- The slots in a state. -/
def State.slotsIn (s : State) (st : SlotState) : Nat := (List.range 8).foldl (fun a n => a + b2n ((s.slot n).st == st) * 2 ^ n) 0

/-- MIR_STATUS. The steady level is the partner's only on an active unit (R433). -/
def State.mirStatus (s : State) : Nat :=
  let m := s.mir
  m.st.code * 4096 + b2n m.handover.isSome * 2048 + b2n (m.actInForce && m.hbIn) * 1024 + b2n m.ready * 512 + b2n m.synced * 256
    + b2n m.hbPresent * 128 + b2n s.renderReady * 64 + b2n m.gateOpen * 32 + b2n m.view * 16 + b2n m.actIn * 8 + b2n m.actInForce * 4
    + b2n m.actOut * 2 + b2n s.sys.straps.mirRole

/-- SYS_MODE. -/
def State.sysMode (s : State) : Nat :=
  s.sys.mode.code + (match s.sys.modeReq with
    | none => 0
    | some r => 256 + 16 * r.target.code)

/-- SYS_STATUS. -/
def State.sysStatus (s : State) : Nat :=
  b2n s.sys.orderIL * 32 + b2n s.sys.thermWarn * 16 + b2n s.sys.muted * 8 + s.time.tickSrc % 4

/-- SYS_STRAPS. -/
def strapsWord (t : Straps) : Nat :=
  b2n t.mirRole * 16 + b2n t.failSafe * 8 + b2n t.chainEn * 4 + b2n t.hostIf * 2 + b2n t.bootSrc

/-- The automatic resets within the last 600 s (R462). -/
def State.autoCount (s : State) : Nat :=
  (s.sys.autoTicks.filter (fun t => decide (s.time.eventTick < t + 600 * 24576000))).length

/-- PAD_BANK. -/
def State.bankWord (s : State) : Nat :=
  b2n s.ports.bankD33 * 8 + b2n s.ports.bankC33 * 4 + b2n s.ports.bankB33 * 2 + b2n s.ports.bankA33

/-- GPIO_IN: the levels known of the pins, GPIO0 to GPIO7 as the capture inputs (R267), GPIO8 to GPIO11 as the straps (R487). -/
def State.gpioIn (s : State) : Nat :=
  let t := s.sys.straps
  maskOf ((List.range 8).filter (fun c => tget false s.time.capLevel c)) + b2n t.bootSrc * 256 + b2n t.hostIf * 512 + b2n t.chainEn * 1024
    + b2n t.failSafe * 2048

/-- CLK_STATUS. -/
def State.clkStatus (s : State) : Nat :=
  let t := s.time
  b2n (t.word != t.target) * 128 + b2n t.pcieLock * 64 + b2n t.sdLock * 32 + b2n t.ddrLock * 16 + t.tickSrc % 4 * 4 + b2n t.refclkOk * 2
    + b2n t.rootLock

/-- TIME_STATUS. -/
def State.timeWord (s : State) : Nat :=
  let t := s.time
  b2n t.refused.isSome * 64 + b2n t.step.isSome * 32 + b2n t.syncLocked * 16 + b2n s.timeLocked * 8 + t.servo.code

/-- TRACE_STATUS. -/
def State.traceStatus (s : State) : Nat :=
  b2n s.trace.stopped * 2048 + b2n (s.trace.fifo.length == 512) * 1024 + s.trace.fifo.length % 1024

/-! ### The blocks: the live fields by offset, with the bits the stored word keeps

Each function answers the live part of the register at an offset, and nothing where the stored word is all there is. -/

/-- HALF_B_READY: half B is in use; it is still while a change to off is carried out (R98). -/
def State.halfReady (s : State) : Bool := s.prism.half || (s.halfChanging false).isSome

/-- PRISM. -/
def State.viewPrism (s : State) (o : Nat) : Option Nat :=
  if o = 0x4 then some (s.prism.lanes % 256 * 256 + b2n s.time.rate96 * 4 + b2n s.halfReady * 2 + b2n s.prism.running)
  else if o = 0x14 then some s.pathBudget
  else if o = 0x18 then some s.prism.paths.length
  else if o = 0x1C then some (s.xfadeReads * 65536 + s.xfadeAllow)
  else if 0x20 ≤ o ∧ o < 0x40 then some (tget 0 s.prism.laneCyc ((o - 0x20) / 4) % 2 ^ 18)
  else if 0x1000 ≤ o ∧ o < 0x2000 then some (s.obj ((o - 0x1000) / 4)).align.word
  else if 0x2000 ≤ o ∧ o < 0x2080 then some (maskWord ((o - 0x2000) / 4) (fun j => bitOf (s.obj j).cur 1))
  else none

/-- META. -/
def State.viewMeta (s : State) (o : Nat) : Option Nat :=
  if o = 0x10 then some (ofSigned 32 s.frontier)
  else if 0x1000 ≤ o ∧ o < 0x2000 then some (s.obj ((o - 0x1000) / 4)).metaWord
  else none

/-- FOCUS. -/
def State.viewFocus (s : State) (o : Nat) : Option Nat :=
  if o = 0x4 then some s.prism.staging.length
  else if o = 0x8 then some ((s.scene.objs.filter (fun e => bitOf e.2.cur 0)).length)
  else if o = 0xC then some ((s.prism.commitInfo.map (·.moves)).getD 0)
  else if 0x20 ≤ o ∧ o < 0x40 then some (tget 0 s.prism.laneStart ((o - 0x20) / 4))
  else if 0x2000 ≤ o ∧ o < 0x2080 then some (maskWord ((o - 0x2000) / 4) (fun j => bitOf (s.obj j).cur 0))
  else none

/-- LENS. The head's load in percent is an open value: the spec does not say what the head's MACs cost (R141). -/
def State.viewLens (s : State) (o : Nat) : Option Nat :=
  let used := s.fadingNow.foldl (fun a (e : Nat × Nat) => a + e.2) 0
  if o = 0x4 then some (b2n s.live * 2 ^ 20 + s.lens.queue.length * 512 + s.fadingNow.length)
  else if o = 0x8 then some ((s.tailPool - s.grantSum) * 2 ^ 16 + s.grantSum)
  else if o = 0xC then some (s.fadeLimit * 2 ^ 16 + used)
  else if o = 0x10 then some (if s.live then Config.freeNat s.time.lastQ % 101 else 0)
  else if o = 0x14 then some s.lens.margin
  else if 0x1000 ≤ o ∧ o < 0x2000 then some ((s.lensBus ((o - 0x1000) / 4)).word s.time.rate96)
  else if 0x2000 ≤ o ∧ o < 0x3000 then some (s.lensBus ((o - 0x2000) / 4)).reduction
  else none

/-- DECIM. -/
def State.viewDecim (s : State) (o : Nat) : Option Nat :=
  if o = 0x8 then
    some (maskWord 0 (fun c => decide (c < 16) && (s.mic c).stuck) * 2 ^ 16 + maskWord 0 (fun c => decide (c < 16) && (s.mic c).settling s.time.sample))
  else if o = 0x10 then some s.genWord
  else if o = 0x20 then some s.captureStatus
  else if o = 0x24 then some ((s.meas.capture.map (fun c => if c.st = 2 then c.valid else min c.written c.validFrames)).getD 0)
  else if o = 0x28 then some (s.captureEnd % 2 ^ 32)
  else if o = 0x2C then some (s.captureEnd / 2 ^ 32)
  else if 0x1000 ≤ o ∧ o < 0x1040 then some (s.mic ((o - 0x1000) / 4)).word
  else none

/-- PORTS. -/
def State.viewPorts (s : State) (o : Nat) : Option Nat :=
  let w := s.rd (0x200B0000 + o)
  if o = 0x4 then some (b2n s.ports.bankB33 * 2 + b2n s.ports.bankA33)
  else if 0x100 ≤ o ∧ o < 0x180 ∧ o % 16 = 4 then some (withBits (withBits 0 29 28 (bitsOf w 29 28)) 27 0 0 + (s.grp ((o - 0x100) / 16)).word)
  else if 0x400 ≤ o ∧ o < 0x800 then
    let p := (o - 0x400) / 16
    match o % 16 with
    | 0 => some (withBits w 28 28 (b2n (s.port p).active))
    | 4 => some ((s.port p).mask % 65536 * 65536 + w % 65536)
    | 8 => some (w / 65536 * 65536 + s.naCurrent p % 65536)
    | _ => none
  else if 0x800 ≤ o ∧ o < 0xA00 then
    let t := (s.port ((o - 0x800) / 8)).ts
    some (if o % 8 = 0 then nsOf t else secOf t % 2 ^ 32)
  else none

/-- MAC m. -/
def State.viewMac (s : State) (m o : Nat) : Option Nat :=
  if o = 0x4 then
    some (b2n s.sys.straps.chainEn * 8 + b2n (s.forwarding m) * 4 + b2n (s.mac m).failed * 2 + b2n (s.mac m).linkUp)
  else if 0x100 ≤ o ∧ o < 0x180 ∧ o % 32 = 0xC then
    let r := (o - 0x100) / 32
    some (tget 0 (s.mac m).free r * 65536 + tget 0 (s.mac m).head r)
  else if 0x200 ≤ o ∧ o < 0x240 ∧ o % 32 = 0xC then some (tget 0 (s.mac m).txHead ((o - 0x200) / 32))
  else none

/-- STREAM. -/
def State.viewStream (s : State) (o : Nat) : Option Nat :=
  if o = 0x4 then some (s.ctxRunning true * 256 + s.ctxRunning false)
  else if o = 0x8 then some (s.loadMbps 0)
  else if o = 0xC then some (s.loadMbps 1)
  else if 0x1000 ≤ o ∧ o < 0x13FC then some (s.ctx ((o - 0x1000) / 4)).word
  else if 0x8000 ≤ o ∧ o < 0x87F8 then
    let m := (s.ctx ((o - 0x8000) / 8)).naMask
    some (if o % 8 = 0 then m % 2 ^ 32 else m / 2 ^ 32)
  else none

/-- CLK. -/
def State.viewClk (s : State) (o : Nat) : Option Nat :=
  match o with
  | 0x4 => some s.clkStatus
  | 0x8 => some (ofSigned 32 s.time.word)
  | 0xC => some (ofSigned 32 s.time.target)
  | _ => none

/-- TIME. -/
def State.viewTime (s : State) (o : Nat) : Option Nat :=
  if o = 0x4 then some s.timeWord
  else if o = 0x128 then some (ofSigned 32 s.time.integral)
  else if 0x300 ≤ o ∧ o < 0x320 then
    some (withBits (s.rd (0x20020000 + o)) 13 8 (tget [] s.time.capQ ((o - 0x300) / 4)).length)
  else none

/-- The registers of Facet core n. -/
def State.viewCore (s : State) (n o : Nat) : Option Nat :=
  match o with
  | 0x4 => some (s.coreWord n)
  | 0x8 => some (((s.residentItem n).map (·.ctx.pc)).getD 0)
  | 0x10 => some (s.admitted n)
  | _ => none

/-- SCHED. -/
def State.viewSched (s : State) (o : Nat) : Option Nat :=
  if o = 0x4 then some (s.slotsOf 1 * 2 ^ 16 + s.slotsOf 2)
  else if o = 0x8 then some s.rtSlots
  else if o = 0x28 then some (withBits (s.rd Reg.SCHED_SPILL_STATE) 16 0 s.sched.spill.length)
  else if 0x100 ≤ o ∧ o < 0x120 then some (s.readyAt ((o - 0x100) / 4))
  else if 0x200 ≤ o ∧ o < 0x224 then some (s.serverWord ((o - 0x200) / 4))
  else if 0x300 ≤ o ∧ o < 0x320 then some (maskWord ((o - 0x300) / 4) (fun f => (s.flowHolder f).isSome))
  else none

/-- XBAR. -/
def State.viewXbar (s : State) (o : Nat) : Option Nat :=
  if o = 0x8 then some (maskOf ((List.range 16).filter (fun m => s.masked m)))
  else if o = 0xC then some (maskOf (if s.xbar.failedBlocks = [] then s.xbar.failed else 7 :: s.xbar.failed))
  else if 0x200 ≤ o ∧ o < 0x240 then some (s.outstanding ((o - 0x200) / 4) true * 2 ^ 16 + s.outstanding ((o - 0x200) / 4) false)
  else if 0x1000 ≤ o ∧ o < 0x1100 then some (s.lock ((o - 0x1000) / 4)).word
  else if 0x1800 ≤ o ∧ o < 0x1900 then some (s.lock ((o - 0x1800) / 4)).word
  else if o = 0x1C00 then some (maskWord 0 (fun n => (s.lock n).held))
  else if o = 0x1C04 then some (maskWord 1 (fun n => (s.lock n).held))
  else none

/-- DDRC. -/
def State.viewDdrc (s : State) (o : Nat) : Option Nat :=
  if o = 0x4 then some s.ddrcStatus
  else if o = 0x10 then some ((List.range 4).foldl (fun a c => a + tget 0 s.ddrc.mr4 c % 8 * 8 ^ c) 0)
  else if 0x100 ≤ o ∧ o < 0x180 ∧ o % 16 = 4 then some (s.ddrcPort ((o - 0x100) / 16))
  else if 0x200 ≤ o ∧ o < 0x300 then some ((s.ddrc.retired[(o - 0x200) / 4]?.map (fun r => 2 ^ 31 + r.1)).getD 0)
  else if 0x1000 ≤ o ∧ o < 0x1100 then
    let k := (o - 0x1000) % 64 / 4
    let p := s.ddrc.shadow.any (fun e => e.1 == dlyKey ((o - 0x1000) / 64) k)
    some (withBits (s.rd (0x20060000 + o)) 8 8 (b2n p))
  else none

/-- MBX: registers, then the slots, the ring and the bulk window as memory. -/
def State.viewMbx (s : State) (o : Nat) : Option Nat :=
  match o with
  | 0x2000 => some (s.slotsIn .posted)
  | 0x2004 => some s.slotStates
  | 0x200C => some s.devState
  | 0x2010 => some (withBits (s.rd Reg.MBX_INT_STATUS) 7 0 (s.rd Reg.MBX_DONE))
  | 0x2028 => some (if s.sys.straps.hostIf then withBits (s.rd Reg.MBX_EVR_CFG) 4 0 9 else s.rd Reg.MBX_EVR_CFG)
  | _ => if mbxHole o then some 0 else if o < 0x2000 ∨ 0x4000 ≤ o then some (u32At (mread s.mem (0x20030000 + o) 4) 0) else none

/-- HOSTIF. -/
def State.viewHostif (s : State) (o : Nat) : Option Nat :=
  match o with
  | 0x4 => some (b2n s.sys.straps.bootSrc * 512 + b2n s.sys.straps.hostIf * 256 + s.host.width % 16 * 16 + s.host.speed % 8 * 2 + b2n s.host.linkUp)
  | _ => none

/-- MIRROR. -/
def State.viewMirror (s : State) (o : Nat) : Option Nat :=
  match o with
  | 0x4 => some s.mirStatus
  | 0x8 => some (min 31 s.mir.hbMiss)
  | 0xC => some ((s.mir.handover.map (·.quantum)).getD 0 % 2 ^ 32)
  | _ => none

/-- SYS. -/
def State.viewSys (s : State) (o : Nat) : Option Nat :=
  match o with
  | 0x0 => some 0x961000B0
  | 0x4 => some s.sysMode
  | 0x8 => some s.sysStatus
  | 0xC => some (strapsWord s.sys.straps)
  | 0x10 => some s.sys.pwr
  | 0x14 => some (s.sys.pwr ||| 7)
  | 0x20 => some (withBits (s.rd Reg.SYS_WDT) 31 31 (b2n s.sys.wdtRunning))
  | 0x28 => some (min 3 s.autoCount)
  | _ => none

/-- PERF: the counters as a read without a latch shows them; the high half is what master 0 has latched (R470). -/
def State.viewPerf (s : State) (o : Nat) : Option Nat :=
  if 0x1000 ≤ o ∧ o < 0x1400 then
    let n := (o - 0x1000) / 8
    some (if o % 8 = 0 then tget 0 s.perf.cnt n % 2 ^ 32 else s.perfHi 0 n)
  else none

/-- TRACE. -/
def State.viewTrace (s : State) (o : Nat) : Option Nat :=
  match o with
  | 0x0 => some (withBits (s.rd Reg.TRACE_CTRL) 3 3 (b2n s.trace.dumpValid))
  | 0x10 => some s.traceStatus
  | 0x14 => some (s.trace.written % 2 ^ 32)
  | 0x18 => some (s.trace.lost % 2 ^ 32)
  | _ => none

/-- GPIO/PINMUX. -/
def State.viewGpio (s : State) (o : Nat) : Option Nat :=
  match o with
  | 0x0 => some s.bankWord
  | 0x10 => some s.gpioIn
  | _ => none

/-- The live value of a register at offset o of block b. -/
def State.viewBlock (s : State) (b o : Nat) : Option Nat :=
  match b with
  | 0 => s.viewSys o
  | 1 => s.viewClk o
  | 2 => s.viewTime o
  | 3 => s.viewMbx o
  | 4 => s.viewSched o
  | 5 => s.viewXbar o
  | 6 => s.viewDdrc o
  | 7 => s.viewPrism o
  | 8 => s.viewMeta o
  | 9 => s.viewFocus o
  | 10 => s.viewLens o
  | 11 => s.viewPorts o
  | 12 => s.viewDecim o
  | 13 => s.viewMac 0 o
  | 14 => s.viewMac 1 o
  | 15 => s.viewStream o
  | 16 => s.viewMirror o
  | 17 => s.viewPerf o
  | 18 => s.viewTrace o
  | 19 => s.viewHostif o
  | 20 => s.viewGpio o
  | _ => none

/-- The word at an address of the register blocks or of a Facet core's registers, without side effects: 0 where no register is
defined (R13). Write-only bits read 0. -/
def State.regWord (s : State) (a : Nat) : Nat :=
  let live := if a < 0x20000000 then s.viewCore ((a - 0x14000000) / 0x40000) (a % 0x10000)
    else s.viewBlock ((a - 0x20000000) / 0x10000) (a % 0x10000)
  match live, regDef? a with
  | some v, _ => v % 2 ^ 32
  | none, some r => s.rd a &&& (0xFFFFFFFF ^^^ r.wo)
  | none, none => 0

/-- The word COUNTER_READ and the dump see (R418, R478, R519): 0 in SEC, and in a block whose domain is off. -/
def State.blockWord (s : State) (b o : Nat) : Nat :=
  let a := 0x20000000 + 0x10000 * b + o
  if b = 21 ∨ !bitOf s.sys.pwr (blockDomain a) then 0 else s.regWord a

end Sys2Proof.Machine
end

