-- ==== Sys2Proof/Machine/PortPins.lean ====
section
/-! DEFINITION. What the pins of the serial audio ports carry (R154, R180 to R183, R197, R198): the clock pins of a group and, bit clock by
bit clock, the data pins; and what IRQ_N and the GPIO pins carry (R384, R396). All of it follows from the state. -/

namespace Sys2Proof.Machine

/-! ### Clock pins -/

/-- Whether group 7 clocks microphones: the measurement function holds it and enables some (R154, R155). -/
def State.pdmClock (s : State) (g : Nat) : Bool := g == 7 && s.owner 0x107 == 2 && s.portsRun && s.fld Reg.DECIM_MIC_EN 15 0 != 0

/-- Whether a master group drives its clock pins: always, or with the Mirror gate when CLK_GATED is set (R198). -/
def State.clockDriven (s : State) (g : Nat) : Bool :=
  s.portsRun && s.grpMode g == 1 && (!s.bit (Reg.GRP_CFG g) 31 || s.mir.gateOpen)

/-- The rate of the clock that TDM_BCLKg drives in Hz, if it drives one: 64 fs for the microphones, port_mclk over the group's divider
otherwise (R154, R183). -/
def State.bclkRate (s : State) (g : Nat) : Option Nat :=
  if s.pdmClock g then some (64 * s.time.fs)
  else if s.clockDriven g then some (49152000 / (49152000 / (s.grpLen g * s.time.fs)))
  else none

/-- Whether FS is in its first part at bit clock c of a frame: one bit clock of a pulse, or half the frame (R180, R181). -/
def State.fsFirst (s : State) (g c : Nat) : Bool :=
  if s.grpFormat g = 2 ∧ s.bit (Reg.GRP_CFG g) 25 then c == 0 else decide (2 * c < s.grpLen g)

/-- The level that TDM_FSg drives at bit clock c of a frame; nothing when the pin is not driven: FS7 never is under a PDM claim (R154). -/
def State.fsLevel (s : State) (g c : Nat) : Option Bool :=
  if s.pdmClock g || !s.clockDriven g then none else some (s.fsFirst g c == s.frameRising g)

/-! ### Data pins (R182, R190) -/

/-- Whether a port's pin is driven at all. -/
def State.pinDriven (s : State) (p : Nat) : Bool :=
  (s.port p).active && s.portOut p && s.mir.gateOpen && s.grpMode (p / 8) != 0 && (s.grp (p / 8)).edge.isSome && !(s.grp (p / 8)).lost

/-- Bit b of a slot that carries a sample, most significant first, followed by zeros. -/
def slotBit (v : Option Int) (b : Nat) : Option Bool := v.map (fun x => decide (b < 32) && bitOf (ofSigned 32 x) (31 - b))

/-- The level TDM_Dp drives at bit clock c of the frame in progress: slot k from bit clock (data delay + k × W) on, 0 where the frame carries
no slot; with data delay 1 and a full frame the last bit of the frame before falls on bit clock 0. -/
def State.dataLevel (s : State) (p c : Nat) : Option Bool :=
  let g := p / 8
  let w := s.grpWidth g
  let full := s.grpSlots g * w
  let i := c - s.grpDelay g
  if !s.pinDriven p then none
  else if c < s.grpDelay g then
    (if s.grpLen g = full then slotBit (tget none s.ports.last (16 * p + s.grpSlots g - 1)) (w - 1) else some false)
  else if full ≤ i then some false
  else slotBit (tget none s.ports.pins (16 * p + i / w)) (i % w)

/-! ### IRQ_N and the GPIO pins -/

/-- Whether IRQ_N is driven low: some bit of MBX_INT_STATUS is set with its enable, whichever interface is strapped (R384). -/
def State.irqLow (s : State) : Bool := s.regWord Reg.MBX_INT_STATUS &&& s.rd Reg.MBX_INT_EN != 0

/-- The level that GPIOn drives; nothing while it is an input: it is driven only where function 0x06 holds it and GPIO_OE is set (R396). -/
def State.gpioDrives (s : State) (n : Nat) : Option Bool :=
  if s.owner (0x200 + n) = 6 ∧ s.bit Reg.GPIO_OE n then some (s.bit Reg.GPIO_OUT n) else none

end Sys2Proof.Machine
end

