-- ==== Sys2Proof/Machine/StepLive.lean ====
section
/-! DEFINITION. A time step in MEASURE, RENDER or MIRROR (R257 to R259): the pipeline keeps its own sequence of quanta, every quantum in
flight is renumbered by k, and the step quantum that follows is silent. -/

namespace Sys2Proof.Machine

/-- A step in quanta (R258): Δ = Tq × k − r with r from 0 to Tq − 1. -/
def stepQuanta (tq : Nat) (d : Int) : Int := -((-d) / (tq : Int))

/-- A quantum or sample index moved, never below zero. -/
def moved (x : Nat) (k : Int) : Nat := ((x : Int) + k).toNat

/-! ### Audio kept by index -/

/-- Memory in which each block of `blk` bytes within a region is rotated upwards by `by_` bytes. -/
def rotateMem (m : List Host.Cell) (base len blk : Nat) (by_ : Int) : List Host.Cell :=
  let mine := fun (c : Host.Cell) => decide (base ≤ c.1 ∧ c.1 < base + len)
  let put := fun (t : List Host.Cell) (c : Host.Cell) =>
    let w := (c.1 - base) % blk
    mset t (c.1 - w + (((w : Int) + by_) % (blk : Int)).toNat) c.2
  (m.filter mine).foldl put (m.filter (fun c => !mine c))

/-- Delay windows and delay lines under new sample indices (R78, R90). -/
def State.stepWindows (s : State) (k : Int) : State :=
  let s1 := s.withMem (rotateMem s.mem 0x11000000 0xC00000 0x3000 (24 * k))
  s1.each s1.linesInUse (fun t x => t.withMem (rotateMem t.mem (lineAddr x 0) 0x40000 0x40000 (32 * k)))

/-- Reference samples under new indices. -/
def stepRefs (k : Int) (t : Tbl Int) : Tbl Int :=
  t.foldl (fun u e =>
    let i := ((e.1 % 2 ^ 64 : Nat) : Int) + 8 * k
    if i < 0 then u else tset 0 u (e.1 / 2 ^ 64 * 2 ^ 64 + i.toNat) e.2) []

/-! ### Engines -/

/-- Every speculative item is discarded (R48, R259). -/
def State.dropSpeculative (s : State) : State := s.discardItems (fun _ _ => true)

/-- The metadata engine, Focus and Prism: convergences, waiting cross-fades and the committed quantum move with the frontier. -/
def State.stepPaths (s : State) (k : Int) : State :=
  let path := fun (p : Path) => { p with waitFrom := p.waitFrom.map (· + k) }
  let setup := fun (u : Setup) => { u with q := u.q + k, paths := u.paths.map path }
  let s1 := s.onPrism (fun x => { x with
    setup := none, paths := x.paths.map path, committedQ := moved x.committedQ k, commitInfo := x.commitInfo.map setup })
  let s2 := s1.each s1.objKeys (fun t j =>
    let o := t.obj j
    t.setObj j { o with upds := o.upds.map (fun u => { u with f := u.f + k })
                        align := { o.align with bad := o.align.bad.map (· + 8 * k) } })
  if s.rendering then s2.dropSpeculative else s2

/-- A bus of Lens: its fade moves; the tail moves with whole tail blocks, and is cleared otherwise, its first result being that of the
first whole block of the new timing (R259). `q` is the next quantum to render. -/
def LensBus.stepped (b : LensBus) (k q : Int) : LensBus :=
  let grants := b.grants.map (fun (g : Nat × Nat × Nat) => (g.1, moved g.2.1 (-((-k) / 32)), g.2.2))
  let fade := b.fade.map (fun (f : Fade) => (⟨f.start + k, f.req⟩ : Fade))
  if k % 32 = 0 then
    let m := fun (x : Nat) => moved x (k / 32)
    let fdl := b.fdl.map (fun (e : Nat × List Nat) => (m e.1, e.2))
    let due := b.tailDue.map (fun (e : Nat × List (Nat × Nat)) => (m e.1, e.2))
    { b with fade := fade, grants := grants, fdl := fdl, tailDue := due, dueFrom := m b.dueFrom }
  else
    { b with fade := fade, grants := grants, fdl := [], tailDue := [], tailNow := ([], []), prev := []
             block := List.replicate (8 * (q % 32).toNat) 0, dueFrom := (-((-q) / 32)).toNat + 2 }

/-- The buses of Lens. -/
def State.stepLens (s : State) (k q : Int) : State :=
  s.onLens (fun x => { x with buses := x.buses.map (fun (e : Nat × LensBus) => (e.1, e.2.stepped k q)) })

/-- A microphone channel: its fade and the spans of its stuck bit move. -/
def Mic.stepped (m : Mic) (k : Int) : Mic :=
  { m with fade := m.fade.map (fun f => (f.1 + k, f.2)), settleTo := moved m.settleTo (8 * k), stuckAt := m.stuckAt.map (fun a => moved a (8 * k))
           wasStuck := m.wasStuck.map (fun a => (moved a.1 (8 * k), moved a.2 (8 * k))) }

/-- A generator that runs goes on; an armed one whose start the step passed starts in the next quantum to render, q (R259). -/
def Gen.stepped (g : Gen) (k q : Int) : Gen :=
  { g with start := g.start.map (fun st => if st ≤ q - 1 - k then st + k else max st q) }

/-- A capture that runs keeps its own indices; an armed one whose start the step passed starts at the next boundary, n. -/
def Capture.stepped (c : Capture) (k : Int) (n : Nat) : Capture :=
  if c.begun then { c with shift := c.shift + k } else if c.st = 1 then { c with start := max c.start n } else c

/-- The measurement chain. -/
def State.stepMeas (s : State) (k q : Int) (n : Nat) : State :=
  s.onMeas (fun x => { x with
    mics := x.mics.map (fun (e : Nat × Mic) => (e.1, e.2.stepped k)), gen := x.gen.stepped k q, refs := stepRefs k x.refs
    capture := x.capture.map (fun c => c.stepped k n) })

/-! ### Ports and streams -/

/-- A block received, under its new quantum. -/
def PortBlk.stepped (b : PortBlk) (k : Int) (ticks : Int) : PortBlk :=
  { b with q := moved b.q k, tick := moved b.tick ticks, ready := b.ready.map (fun t => moved t ticks) }

/-- A port under the new quanta. -/
def PortSt.stepped (v : PortSt) (k : Int) (ticks : Int) : PortSt :=
  { v with blocks := v.blocks.map (fun b => b.stepped k ticks), half := v.half.map (fun q => moved q k)
           zeroOut := v.zeroOut.map (fun q => moved q k), first := moved v.first k }

/-- A group in the step quantum n: muted, its blocks formed afresh from the boundary that ends it; `d` is the step in ticks. -/
def GrpSt.stepped (v : GrpSt) (k d : Int) (n : Nat) : GrpSt :=
  { v with edge := v.edge.map (fun e => moved e d), index := v.index.map (fun i => moved i (8 * k)), due := none, muteQ := some n
           freshAt := if v.lost then none else some (n + 1), rederive := false, pos := v.pos.map (fun p => (moved p.1 k, p.2)) }

/-- Whether a group is re-aligned by a step: a slave group always, a master group when its frame edges move (R183, R184). -/
def State.stepMoves (s : State) (g : Nat) (d : Int) : Bool :=
  s.grpMode g == 2 || (s.grpMode g == 1 && d % (s.time.tps : Int) != 0)

/-- The ports in the step quantum n (R259): GRP_DRIFT is not counted. -/
def State.stepPorts (s : State) (k d : Int) (n : Nat) : State :=
  let ticks : Int := k * s.time.tq
  let s1 := s.each (List.range 64) (fun t p => t.setPort p ((t.port p).stepped k ticks))
  let s2 := s1.each ((List.range 8).filter (fun g => s.grpMode g != 0)) (fun t g =>
    let v := (t.grp g).stepped k d n
    let u := t.setGrp g { v with ph := if s.grpMode g = 1 then (((v.ph : Int) + d) % (s.time.tps : Int)).toNat else 0 }
    if s.stepMoves g d then
      u.each ((grpPorts g).filter (fun p => (u.port p).active)) (fun w p => (w.bump (Reg.PORT_CNT p 3)).perfAdd 115)
    else u)
  let per : Int := s.time.tps / 64
  s2.onPorts (fun x => { x with outQ := n, out := [], outPrev := [], outLate := [], rephase := true, pdmPh := (((x.pdmPh : Int) + d) % per).toNat })

/-- The streams in the step quantum n: input samples that no longer lie within the buffer's time are given up (R231). -/
def State.stepStreams (s : State) (n : Nat) : State :=
  let top : Int := 8 * ((n : Int) - 1) + 2048
  let s1 := s.each (s.running false) (fun t c =>
    let v := t.ctx c
    t.setCtx c { v with marks := v.marks.filter (fun x => decide (x < top)) })
  s1.streamsStep n

/-! ### The step -/

/-- A step of d ticks applied at boundary n (R258, R259). -/
def State.stepLive (s : State) (n : Nat) (r : StepReq) : State :=
  let d := r.ticks s.time.tick
  let k := stepQuanta s.time.tq d
  let n1 := moved n k
  let q : Int := (n1 : Int) - 1 - s.osLag
  let s1 := (s.invalidateCapture 2 (8 * n)).moveTick d
  let s2 := s1.onTime (fun x => { x with lastQ := n1, stepQuantum := true })
  let s3 := ((s2.stepWindows k).stepPaths k).stepLens k q
  let s4 := ((s3.stepMeas k q (n1 + 1)).stepPorts k d n1).stepStreams n1
  s4.stepReport r d

/-- Whether a step is applied at boundary n (R257): it waits for the entry boundary of PARK when one follows. -/
def State.stepDue (s : State) (n : Nat) : Option StepReq :=
  if s.mir.parking then none
  else s.time.step.filter (fun r => (r.quantum.map (fun q => decide (q ≤ n))).getD true)

/-- A step due at boundary n of a live mode. -/
def State.liveStep (s : State) (n : Nat) : State :=
  match s.stepDue n with
  | none => s
  | some r => s.stepLive n r

end Sys2Proof.Machine
end

