-- ==== Sys2Proof/Machine/MbxOps.lean ====
section
/-! DEFINITION. The host's side of the mailbox unit (R386, R389, R392, R394): doorbells, DONE bits, slot writes, the event ring's registers,
and reading and writing MBX by offset. -/

namespace Sys2Proof.Machine

/-! ### Doorbells (R389, R392) -/

/-- The bytes of command slot n. -/
def State.slotRaw8 (s : State) (n : Nat) : Bytes := mread s.mem (cmdSlotAddr n) 256

/-- The header a command slot holds. -/
def hdrOf (n : Nat) (b : Bytes) : Hdr := ⟨n, u16At b 2, u32At b 8, bitOf (u8At b 6) 0⟩

/-- The boot ROM answers a doorbell at once (R376, R392, R461): BOOT_GO while it waits for it; SYS_RESET in SAFE, which it carries out
when SYS_RESET_APPLY follows; every other with BOOTING. -/
def State.romAnswer (s : State) (n : Nat) : State :=
  let b := s.slotRaw8 n
  let h := hdrOf n b
  if s.sys.hostBootWait && u16At b 0 == 0x0001 && u16At b 4 == 0 then s.bootGo h
  else if s.sys.romInSafe && u16At b 0 == 0x0005 then s.onSys (fun x => { x with sysResetDue := some s.time.eventTick })
  else s.answerBooting h (u16At b 0)

/-- The doorbell of slot n: an idle or done slot is posted, or answered by the boot ROM; any other ignores it. A slot rung twice within the
2 ticks of the synchroniser counts once (R35). -/
def State.ring (s0 : State) (n : Nat) : State :=
  let at_ := s0.time.eventTick + 1
  let s := s0.onMbx (fun x => { x with rung := tset 0 x.rung n at_ })
  let v := s.slot n
  if at_ < tget 0 s0.mbx.rung n + 2 then s0
  else if v.st = .idle ∨ v.st = .done then
    let s1 := s.setFld Reg.MBX_DONE n n 0
    if !s.sys.fwRunning then s1.romAnswer n
    else (s1.setSlot n { v with st := .posted, locked := false }).onMbx (fun x => { x with queue := x.queue ++ [n] })
  else s.bump (Reg.MBX_CNT 5)

/-- Doorbells of one tick, in slot order (R33, R35). A reset discards them. -/
def State.doorbell (s : State) (bits : Nat) : State :=
  if s.sys.phase ≠ .running then s else s.each ((List.range 8).filter (fun n => bitOf bits n)) (fun t n => t.ring n)

/-- A write of ones to MBX_DONE: done slots return to IDLE (R389). -/
def State.doneClear (s : State) (bits : Nat) : State :=
  s.each ((List.range 8).filter (fun n => bitOf bits n)) (fun t n =>
    let v := t.slot n
    let t1 := t.setFld Reg.MBX_DONE n n 0
    if v.st = .done then t1.setSlot n { v with st := .idle } else t1)

/-! ### Slots and the event ring (R389, R394) -/

/-- A host write to the bytes of slot n: ignored and counted while the slot is locked (R389). -/
def State.slotWriteOne (s : State) (off : Nat) (d : Bytes) (n : Nat) : State :=
  let lo := max off (0x100 * n)
  let hi := min (off + d.length) (0x100 * n + 0x100)
  if hi ≤ lo then s
  else if (s.slot n).locked then (s.bump (Reg.MBX_CNT 4))
  else s.withMem (mwrite s.mem (0x20030000 + lo) (slice d (lo - off) (hi - lo)))

/-- A host write to command slots. -/
def State.slotWrite (s : State) (off : Nat) (d : Bytes) : State := s.each (List.range 8) (fun t n => t.slotWriteOne off d n)

/-- A write of MBX_EVR_CFG (R394): the size is kept while the ring is enabled; enabling zeroes PROD and CONS. -/
def State.evrCfg (s : State) (v : Nat) : State :=
  let was := s.bit Reg.MBX_EVR_CFG 31
  let s1 := s.setFld Reg.MBX_EVR_CFG 31 31 (b2n (bitOf v 31))
  let s2 := if was then s1 else s1.setFld Reg.MBX_EVR_CFG 4 0 (v % 32)
  if bitOf v 31 && !was then (s2.wr Reg.MBX_EVR_PROD 0).wr Reg.MBX_EVR_CONS 0 else s2

/-- A write of MBX_EVR_CONS: values beyond PROD are ignored. -/
def State.evrCons (s : State) (v : Nat) : State :=
  let d := (s.rd Reg.MBX_EVR_PROD + 2 ^ 32 - v % 2 ^ 32) % 2 ^ 32
  if d < 2 ^ 31 then s.wr Reg.MBX_EVR_CONS v else s

/-- A write of the ring's base: ignored while the ring is enabled. -/
def State.evrBase (s : State) (a v : Nat) : State := if s.bit Reg.MBX_EVR_CFG 31 then s else s.wr a v

end Sys2Proof.Machine
end

