-- ==== Sys2Proof/Machine/RegWrite.lean ====
section
/-! DEFINITION. Register writes (R11 to R13): the access types, the configuration locks, and the actions of the fields that act. -/

namespace Sys2Proof.Machine

/-- The register and bit that hold the configuration lock of the block an address lies in. -/
def cfgLock (a : Nat) : Option (Nat × Nat) :=
  if a < 0x20000000 then some (Reg.FCORE_CTRL ((a - 0x14000000) / 0x40000), 3)
  else match (a - 0x20000000) / 0x10000 with
    | 4 => some (Reg.SCHED_CTRL, 1)
    | 5 => some (Reg.XBAR_CTRL, 0)
    | 6 => some (Reg.DDRC_CTRL, 1)
    | 7 => some (Reg.PRISM_CTRL, 2)
    | 10 => some (Reg.LENS_CTRL, 1)
    | 11 => some (Reg.PORTS_CTRL, 1)
    | 12 => some (Reg.DECIM_CTRL, 1)
    | 13 => some (Reg.MAC_CTRL 0, 7)
    | 14 => some (Reg.MAC_CTRL 1, 7)
    | 15 => some (Reg.STR_CTRL, 1)
    | 16 => some (Reg.MIR_CTRL, 1)
    | 18 => some (Reg.TRACE_CTRL, 1)
    | 20 => some (Reg.PAD_CTRL, 0)
    | _ => none

/-- Whether RWL fields at an address may be written; a block without a lock has it open (R11). -/
def State.cfgOpen (s : State) (a : Nat) : Bool :=
  match cfgLock a with
  | none => true
  | some (r, k) => s.bit r k

/-- The bits of a register that a write sets to the value written. -/
def State.writable (s : State) (a : Nat) (r : RegDef) : Nat := if s.cfgOpen a then r.rw ||| r.rwl else r.rw

/-- The stored word of a register after a write of v (R11). -/
def State.written (s : State) (a v : Nat) (r : RegDef) : Nat :=
  let m := s.writable a r
  let w := (s.rd a &&& (0xFFFFFFFF ^^^ m)) ||| (v &&& m)
  (w &&& (0xFFFFFFFF ^^^ (v &&& r.w1c))) ||| (v &&& r.w1s)

/-- The storing part of a write. -/
def State.storeReg (s : State) (a v : Nat) : State :=
  match regDef? a with
  | none => s
  | some r => s.wr a (s.written a v r)

/-- The watchdog restarted (R370). -/
def State.restartWdt (s : State) : State :=
  if s.sys.wdtRunning then s.onSys (fun x => { x with wdtTick := s.time.eventTick }) else s

/-- A power request (R448, R449): the domains asked for, with AON, CTRL and FAB; PRISM_B never on the MK9610-IL. -/
def State.pwrRequest (s : State) (v : Nat) : State :=
  s.setPwr ((v &&& (if s.sys.orderIL then 0x3E8 else 0x3F8)) ||| 7)

/-- MIR_CTRL written: the controller is off with Mirror disabled, and IDLE when it is enabled. -/
def State.mirSync (s : State) : State :=
  if !s.mirrorOn then s.onMir (fun x => { x with st := .off })
  else if s.mir.st = .off then s.onMir (fun x => { x with st := .idle }) else s

/-- The index of an address in a row of registers. -/
def rowIdx (a base stride n : Nat) : Option Nat :=
  if base ≤ a ∧ a < base + stride * n ∧ (a - base) % stride = 0 then some ((a - base) / stride) else none

/-- Writes to the MBX registers. -/
def State.writeMbx (s : State) (a v : Nat) : State :=
  if a = Reg.MBX_DOORBELL then s.doorbell (v % 256)
  else if a = Reg.MBX_DONE then s.doneClear (v % 256)
  else if a = Reg.MBX_EVR_CFG then s.evrCfg v
  else if a = Reg.MBX_EVR_CONS then s.evrCons v
  else if a = Reg.MBX_EVR_BASE_LO ∨ a = Reg.MBX_EVR_BASE_HI then s.evrBase a (if a = Reg.MBX_EVR_BASE_LO then v / 4096 * 4096 else v)
  else if mbxHole (a - 0x20030000) then s
  else if a < 0x20032000 ∨ 0x20034000 ≤ a then s.withMem (mwrite s.mem a (le32 v))
  else s.storeReg a v

/-- Writes to the ring registers of the MACs (R223, R224) and to MAC_CTRL.ENABLE, after the word is stored. -/
def State.writeMac (s was : State) (m a v : Nat) : State :=
  let same := fun (o : Host.Outcome State Fault Refusal) => match o with
    | .next t => t
    | _ => s
  match rowIdx a (Reg.RX_RING_RETURN m 0) 0x20 4, rowIdx a (Reg.RX_RING_CFG m 0) 0x20 4, rowIdx a (Reg.TX_RING_CFG m 0) 0x20 2,
      rowIdx a (Reg.TX_RING_TAIL m 0) 0x20 2 with
  | some r, _, _, _ => same (execRxRingReturn m r (v % 8192) s)
  | _, some r, _, _ => if bitOf v 31 && !was.bit a 31 then same (execRxRingEnable m r s) else s
  | _, _, some r, _ => if bitOf v 31 && !was.bit a 31 then same (execTxRingEnable m r s) else s
  | _, _, _, some r => same (execTxRingTailWrite m r (v % 4096) was)
  | _, _, _, _ => if a = Reg.MAC_CTRL m ∧ bitOf v 0 ∧ !was.bit a 0 then s.portOn m else s

/-- Writes to PORT_CFG and PORT_MASK: mask and TRI_INACTIVE come into force later (R189); to GRP_CFG: a group that is off drives none of its
pins (R180). -/
def State.writePort (s : State) (a : Nat) : State :=
  let p := (a - 0x200B0400) / 16
  if 0x200B0400 ≤ a ∧ a < 0x200B0800 ∧ a % 16 ≤ 4 then
    s.maskWrite p (s.fld (Reg.PORT_MASK p) 15 0) (s.bit (Reg.PORT_CFG p) 29)
  else
    match rowIdx a (Reg.GRP_CFG 0) 16 8 with
    | some g => if s.grpMode g = 0 then (s.each (grpPorts g) (fun t q => t.undrive q)).setGrp g GrpSt.init else s
    | none => s

/-- Ones written to the sticky bits that the live words of LENS_BUSn and MIC_CHn hold. -/
def State.writeSticky (s : State) (a v : Nat) : State :=
  match rowIdx a (Reg.LENS_BUS 0) 4 1024, rowIdx a (Reg.MIC_CH 0) 4 16 with
  | some b, _ => if bitOf v 16 then s.setLensBus b { s.lensBus b with clip := false } else s
  | _, some c => s.setMic c { s.mic c with clip := (s.mic c).clip && !bitOf v 8, stuckSticky := (s.mic c).stuckSticky && !bitOf v 7 }
  | _, _ => s

/-- The actions of a write to TIME_CTRL, LENS_CTRL, SYS_WDT, SYS_PWR_REQ, MIR_CTRL, after the word is stored. -/
def State.writeCtl (s : State) (a v : Nat) : State :=
  if a = Reg.TIME_CTRL then
    let s1 := if bitOf v 2 then s.latchTime else s
    if bitOf v 1 then s1.servoUpdate else s1
  else if a = Reg.LENS_CTRL then (if bitOf v 2 then s.onLens (fun x => { x with margin := 63 }) else s)
  else if a = Reg.SYS_WDT then (if bitOf v 30 then s.restartWdt else s)
  else if a = Reg.SYS_PWR_REQ then s.pwrRequest v
  else if a = Reg.MIR_CTRL then s.mirSync
  else if a = Reg.CLK_SYNC_OUT then s.syncOff
  else s

/-- A write to the registers of a Facet core: STEP acts (FCORE_CTRL). Absent cores ignore writes (R517). -/
def State.writeCore (s : State) (a v : Nat) : State :=
  let n := (a - 0x14000000) / 0x40000
  if !s.coreExists n then s
  else
    let s1 := s.storeReg a v
    if a = Reg.FCORE_CTRL n ∧ bitOf v 2 then s1.facetStep n ⟨0, false⟩ else s1

/-- A delay register's write goes to its shadow (R360). -/
def dlyAt (a : Nat) : Option (Nat × Nat) :=
  if 0x20061000 ≤ a ∧ a < 0x20061100 ∧ (a - 0x20061000) % 64 / 4 < 9 then some ((a - 0x20061000) / 64, (a - 0x20061000) % 64 / 4)
  else none

/-- A 32-bit write by a master to a register at an aligned address (R11 to R13, R338, R339). -/
def State.regWrite (s : State) (m a v : Nat) : State :=
  if a < 0x20000000 then s.writeCore a v
  else match (a - 0x20000000) / 0x10000 with
    | 3 => s.writeMbx a v
    | 5 => (match rowIdx a (Reg.LOCK_REL 0) 4 64 with
      | some n => if bitOf v 0 then s.lockRel m n else s
      | none => s.storeReg a v)
    | 6 => (match dlyAt a with
      | some (c, k) => s.dlyWrite c k (v % 256)
      | none => s.storeReg a v)
    | 11 => (s.storeReg a v).writePort a
    | 13 => (s.storeReg a v).writeMac s 0 a v
    | 14 => (s.storeReg a v).writeMac s 1 a v
    | 21 => s
    | _ => ((s.storeReg a v).writeSticky a v).writeCtl a v

/-- A pending message of vector v, sent once its entry is no longer masked (PRESUMED: the PCIe Base Specification, as R521 says of the
table). -/
def State.sendPending (s : State) (v : Nat) : State :=
  if bitOf s.host.pba v && !s.msixMasked v then
    s.onHost (fun x => { x with pba := x.pba - 2 ^ v, vectors := tmod 0 x.vectors v (· + 1) })
  else s

/-- A 32-bit write of the host to BAR0 (R381, R521): MBX and HOSTIF registers, reached without the matrix, and the MSI-X
table; response slots are firmware's (R389). -/
def State.bar0Write (s : State) (o v : Nat) : State :=
  if s.sys.straps.hostIf || !s.host.linkUp then s
  else if o < 0x2000 then s.slotWrite o (le32 v)
  else if o < 0x10000 then s.regWrite 0 (0x20030000 + o) v
  else if o < 0x20000 then s.regWrite 0 (0x20130000 + (o - 0x10000)) v
  else if o < 0x20200 then
    (s.onHost (fun x => { x with msix := tset (if o / 4 % 4 = 3 then 1 else 0) x.msix ((o - 0x20000) / 4) v })).sendPending ((o - 0x20000) / 16)
  else s

/-- A register write by master 0 at an aligned address; in a block whose domain is off it is answered with an error response. -/
def State.cpWrite (s : State) (t a v : Nat) : State :=
  if s.targetOn t a then (s.withRstat 0).regWrite 0 a v else s.busError 0 t a 5 4 true

/-- REGISTER_WRITE (R11, R328, R521): a write to a register at an aligned address, by firmware; addresses from 2^40 on are the host's,
as offsets of BAR0. -/
def execRegisterWrite (addr : Nat) (v : Word) (s : State) : Host.Outcome State Fault Refusal :=
  let a := addr / 4 * 4
  if s.sys.phase ≠ .running then .next s
  else if 2 ^ 40 ≤ a then .next (s.bar0Write (a - 2 ^ 40) v.toNat)
  else match s.targetOf 0 a with
    | some t => .next (if t = 7 ∨ t = 6 then s.cpWrite t a v.toNat else s)
    | none => .next s

/-- RESTART (R370): SYS_WDT.RESTART. -/
def execRestartWdt (s : State) : Host.Outcome State Fault Refusal := .next s.restartWdt

end Sys2Proof.Machine
end

