-- ==== Sys2Proof/Machine/BusAccess.lean ====
section
/-! DEFINITION. What a read or write that reaches its target does, for any master: registers with the side effects each master has
(R338, R470), path-state SRAM (R96), Lens SRAM (R152), Facet windows (R270), DRAM (R345), and plain memory. -/

namespace Sys2Proof.Machine

/-! ### Registers by master -/

/-- The word a master reads at an aligned address, and the state after it: LOCK_ACQ and the PERF counters act (R338, R470). -/
def State.readReg (s : State) (m a : Nat) : State × Nat :=
  match rowIdx a (Reg.LOCK_ACQ 0) 4 64, rowIdx a (Reg.PERF_CNT_LO 0) 8 128, rowIdx a (Reg.PERF_CNT_HI 0) 8 128 with
  | some n, _, _ => if mayLock m then s.lockAcq m n else (s, (s.lock n).word)
  | _, some n, _ => s.perfLo m n
  | _, _, some n => (s, s.perfHi m n)
  | _, _, _ => (s, s.regWord a)

/-- The n bytes a master reads of registers from an address: the words that hold them are read in ascending order. -/
def State.readRegs (s : State) (m a n : Nat) : State × Bytes :=
  let first := a / 4
  let words := (List.range ((a + n + 3) / 4 - first)).map (fun i => 4 * (first + i))
  let (s1, d) := words.foldl (fun (acc : State × Bytes) w =>
    let (t, v) := acc.1.readReg m w
    (t, acc.2 ++ le32 v)) (s, [])
  (s1, slice d (a % 4) n)

/-- Bytes a master writes to registers: the whole aligned words among them take effect, in ascending order (R521 for the host's views). -/
def State.writeRegs (s : State) (m a : Nat) (d : Bytes) : State :=
  let skip := (4 - a % 4) % 4
  s.each (List.range ((d.length - skip) / 4)) (fun t i => t.regWrite m (a + skip + 4 * i) (u32At d (skip + 4 * i)))

/-! ### Path-state SRAM (R96) -/

/-- State and ramp count of a path's record. -/
def Path.code (p : Path) : Nat × Nat :=
  match p.xfade with
  | some x => (5, 4 - x.step)
  | none => if !p.selected then (4, p.quarters) else if p.quarters < 4 then (2, 4 - p.quarters) else (3, 0)

/-- The record of a path with a state and a ramp count (R96). -/
def Path.recordAs (p : Path) (st n : Nat) : Bytes :=
  le16 p.obj ++ le16 p.bus ++ leS32 p.d0 ++ leS32 ((p.xfade.map (·.dest)).getD p.d1) ++ leS32 p.g0 ++ leS32 p.g1 ++ le16 p.a0 ++ le16 p.a1
    ++ leS32 p.lp ++ le8 (st + 8 * b2n p.doppler + 16 * b2n p.air + 32 * b2n p.clamped) ++ le8 n ++ le16 p.gen

/-- The active record of a path. -/
def Path.record (p : Path) : Bytes := p.recordAs p.code.1 p.code.2

/-- The byte at an address of path-state SRAM: active records in table order, staging records in the order in which they were written
(state 1, four quanta of ramp ahead); the rest is memory (R96). -/
def State.pathByte (s : State) (a : Nat) : Byte :=
  let o := a - 0x10000000
  if o < 0x400000 then
    match s.prism.paths[o / 32]? with
    | some p => p.record.getD (o % 32) 0
    | none => mget s.mem a
  else
    match s.prism.staging[(o - 0x400000) / 32]? with
    | some r => (r.path.recordAs 1 4).getD (o % 32) 0
    | none => mget s.mem a

/-! ### Lens SRAM (R152) -/

/-- Tap t of a bank's head: 1, then zeros, in a bank never loaded. -/
def headTap (k : Option LensBank) (t : Nat) : Nat :=
  match k with
  | none => if t = 0 then 0x3F800000 else 0
  | some b => b.head.getD t 0

/-- The byte at an address of Lens SRAM: head coefficients, then an internal layout that the spec leaves open. -/
def State.lensByte (s : State) (a : Nat) : Byte :=
  let o := a - 0x12000000
  if o < 0x400000 then (le32 (headTap ((s.lensBus (o / 0x800 % 1024)).bank (o / 0x200000)) (o % 0x800 / 4))).getD (o % 4) 0
  else Config.freeByte a

/-- A bank with a head tap written; a bank never loaded is first the flat set, without a tail. -/
def setHeadTap (rate96 : Bool) (k : Option LensBank) (t v : Nat) : LensBank :=
  let flat : LensBank := ⟨rate96, 0, (List.replicate 16 [0x3F800000, 0, 0, 0, 0]).flatten, (List.range 512).map (headTap none), []⟩
  let b := k.getD flat
  { b with head := b.head.set t v }

/-- The Lens DMA writes a word of the head coefficients. -/
def State.lensWord (s : State) (a v : Nat) : State :=
  let o := a - 0x12000000
  let n := o / 0x800 % 1024
  let b := s.lensBus n
  if 0x400000 ≤ o then s
  else if o < 0x200000 then s.setLensBus n { b with bank0 := some (setHeadTap s.time.rate96 b.bank0 (o % 0x800 / 4) v) }
  else s.setLensBus n { b with bank1 := some (setHeadTap s.time.rate96 b.bank1 (o % 0x800 / 4) v) }

/-! ### Facet windows (R270, R517) -/

/-- Whether a window address is one of the core's control registers. -/
def isCoreReg (a : Nat) : Bool := decide (0x30000 ≤ a % 0x40000)

/-- The byte at an address of the Facet windows. -/
def State.windowByte (s : State) (a : Nat) : Byte :=
  if !s.coreExists ((a - 0x14000000) / 0x40000) then 0
  else if isCoreReg a then (le32 (s.regWord (a / 4 * 4))).getD (a % 4) 0
  else mget s.mem a

/-- An access of k words to a core's memories, by the control processor or the debug master, beside the instance that runs: each word may
cost it a cycle, which is counted and charged (R273, R294). How many it costs is open. -/
def State.windowStall (s : State) (n k : Nat) : State :=
  match (s.resident n).bind s.item? with
  | none => s
  | some i =>
    let lost := Config.freeNat s.freeCnt % (k + 1)
    if s.coreAlive n && !s.coreHalted n then
      ((s.setItem ((s.resident n).getD 0) { i with ctx := { i.ctx with charged := i.ctx.charged + lost } }).bump (Reg.FCORE_CNT n 4) lost).fresh
    else s

/-- The words n bytes from an address touch, and the core of a window address. -/
def State.windowTouch (s : State) (a n : Nat) : State :=
  if isCoreReg a then s else s.windowStall ((a - 0x14000000) / 0x40000) ((a % 4 + n + 3) / 4)

/-- Bytes written to a Facet window. -/
def State.windowWrite (s : State) (m a : Nat) (d : Bytes) : State :=
  if !s.coreExists ((a - 0x14000000) / 0x40000) then s
  else if isCoreReg a then s.writeRegs m a d
  else s.withMem (mwrite s.mem a d)

/-! ### Targets (R326) -/

/-- The DDRC port behind a DRAM target. -/
def dramPort (t : Nat) : Nat := t - 4

/-- A read of n bytes at a target that is not DRAM: the state after it and the bytes. -/
def State.targetRead (s : State) (m t a n : Nat) : State × Bytes :=
  match t with
  | 2 => (s, (List.range n).map (fun i => s.pathByte (a + i)))
  | 4 => (s, (List.range n).map (fun i => s.lensByte (a + i)))
  | 6 => (s.windowTouch a n, (List.range n).map (fun i => s.windowByte (a + i)))
  | 7 => s.readRegs m a n
  | _ => (s, mread s.mem a n)

/-- A write at a target that is not DRAM. -/
def State.targetWrite (s : State) (m t a : Nat) (d : Bytes) : State :=
  match t with
  | 4 => s.each (List.range (d.length / 4)) (fun u i => u.lensWord (a + 4 * i) (u32At d (4 * i)))
  | 6 => (s.windowTouch a d.length).windowWrite m a d
  | 7 => s.writeRegs m a d
  | _ => s.withMem (mwrite s.mem a d)

/-- A request carried out at its target: the bytes read are in rdata. A DRAM request ends as `e` says (R349). -/
def State.carryOut (s : State) (m t a : Nat) (acc : Access) (e : Ecc) : State :=
  let s0 := (s.withRdata []).withRstat 0
  if 8 ≤ t then s0.dramServe s0.ddrc.waiting ⟨dramPort t, a, acc, 0, 0, false, e⟩
  else match acc with
    | .read n =>
      let (s1, d) := s0.targetRead m t a n
      s1.withRdata d
    | .write d => s0.targetWrite m t a d

end Sys2Proof.Machine
end

