-- ==== Sys2Proof/Machine/XbarRows.lean ====
section
/-! DEFINITION. The commands of the bus matrix (R324 to R336, R344): a request is issued, granted, completed, timed out; parks. -/

namespace Sys2Proof.Machine

/-! ### Issuing (R324, R331, R335) -/

/-- Whether an access writes. -/
def accWrites : Access → Bool
  | .read _ => false
  | .write _ => true

/-- The master a target's grant is parked on (R335). -/
def State.parkOf (s : State) (t : Nat) : Nat := tget 0 s.xbar.park t

/-- Whether an earlier request of the same master and tag is at another target, or is itself held (R330, R331). -/
def heldBy (earlier : List XEntry) (r : XReq) (t : Nat) : Bool :=
  earlier.any (fun e => e.req.master == r.master && e.req.tag == r.tag && e.st != .stalled && e.target != t)

/-- Whether a master has room for one more request of a kind (R324); after a mask it has none until what was outstanding has completed
(R336). -/
def State.room (s : State) (m : Nat) (write : Bool) : Bool :=
  decide (s.outstanding m write < (if write then 16 else 32)) && !s.xbar.reqs.any (fun e => e.req.master == m && e.discard)

/-- The visible requests at a target. -/
def State.visibleAt (s : State) (t : Nat) : List XEntry := s.xbar.reqs.filter (fun e => e.target == t && e.st == .visible)

/-- A grant to master m at target t: the order of preference then starts after m, and the park is on it (R333, R335). -/
def State.grantTo (s : State) (t m : Nat) : State :=
  s.onXbar (fun x => { x with ptr := tset 0 x.ptr t ((m + 1) % 16), park := tset 0 x.park t m })

/-- A request issued into the matrix: refused with an error response, held back by its tag, granted at once to a parked master, or
visible to the arbiter. -/
def State.issueReq (s : State) (r : XReq) : State :=
  match s.refusal r.master r.addr (accWrites r.acc) with
  | some (kind, t) => s.busError r.master t r.addr kind (accLen r.acc) (accWrites r.acc)
  | none =>
    let t := (s.targetOf r.master r.addr).getD 0
    let put := fun (u : State) (st : XState) => u.onXbar (fun x => { x with reqs := x.reqs ++ [⟨r, t, st, false, false⟩] })
    if heldBy s.xbar.reqs r t then put s .held
    else if s.parkOf t = r.master ∧ s.visibleAt t = [] then put (s.grantTo t r.master) .granted
    else put s .visible

/-- XBAR_REQUEST (R325): a masked master takes part in nothing; a master without room stalls. -/
def execXbarRequest (r : XReq) (s : State) : Host.Outcome State Fault Refusal :=
  if s.sys.phase ≠ .running ∨ s.masked r.master then .next s
  else
    let s0 := s.withRstat 0
    let stalls := s.xbar.reqs.any (fun e => e.req.master == r.master && e.st == .stalled)
    if stalls || !s.room r.master (accWrites r.acc) then
      .next (s0.onXbar (fun x => { x with reqs := x.reqs ++ [⟨r, 0, .stalled, false, false⟩] }))
    else .next (s0.issueReq r)

/-! ### Arbitration (R333, R334) -/

/-- The master the arbiter of a target chooses: the first at or after its pointer among those with a visible request. -/
def State.chosen (s : State) (t : Nat) : Option Nat :=
  let p := tget 0 s.xbar.ptr t
  ((List.range 16).map (fun i => (p + i) % 16)).find? (fun m => (s.visibleAt t).any (fun e => e.req.master == m))

/-- The first element of a list that satisfies a test, changed, or dropped where the change gives none. -/
def changeFirst (t : XEntry → Bool) (f : XEntry → Option XEntry) : List XEntry → List XEntry
  | [] => []
  | e :: es => if t e then (f e).toList ++ es else e :: changeFirst t f es

/-- XBAR_GRANT (R333, R334): the arbiter grants the chosen master's oldest request; a request withdrawn in the cycle of its grant makes
it a void grant. -/
def execXbarGrant (target : Nat) (withdrawn : Bool) (s : State) : Host.Outcome State Fault Refusal :=
  match s.chosen target with
  | none => .next s
  | some m =>
    let mine := fun (e : XEntry) => e.target == target && e.st == .visible && e.req.master == m
    if withdrawn then
      let s1 := s.onXbar (fun x => { x with
        ptr := tset 0 x.ptr target ((m + 1) % 16), reqs := changeFirst mine (fun _ => none) x.reqs })
      .next ((s1.bump (Reg.XBAR_CNT 0)).perfAdd 56)
    else
      .next ((s.grantTo target m).onXbar (fun x => { x with reqs := changeFirst mine (fun e => some { e with st := .granted }) x.reqs }))

/-! ### Completion (R330, R331, R344) -/

/-- Held requests that nothing holds back any more become visible, oldest first. -/
def releaseHeld : List XEntry → List XEntry → List XEntry
  | done, [] => done
  | done, e :: es =>
    let e1 := if e.st = .held ∧ !heldBy done e.req e.target then { e with st := .visible } else e
    releaseHeld (done ++ [e1]) es

/-- The oldest stalled request of a master is issued while there is room; at most `fuel` of them. -/
def State.issueStalled (s : State) (m : Nat) : Nat → State
  | 0 => s
  | fuel + 1 =>
    match s.xbar.reqs.find? (fun e => e.req.master == m && e.st == .stalled) with
    | none => s
    | some e =>
      if s.room m (accWrites e.req.acc) then
        let mine := fun (x : XEntry) => x.req.master == m && x.st == .stalled
        ((s.onXbar (fun x => { x with reqs := changeFirst mine (fun _ => none) x.reqs })).issueReq e.req).issueStalled m fuel
      else s

/-- After a request has left the matrix: held ones are released, stalled ones issued. -/
def State.afterLeave (s : State) (m : Nat) : State :=
  (s.onXbar (fun x => { x with reqs := releaseHeld [] x.reqs })).issueStalled m s.xbar.reqs.length

/-- An SRAM word read with an error (R344): counted; a lasting one is logged. -/
def State.sramEcc (s : State) (m t a : Nat) : Ecc → State
  | .clean => s
  | .corrected => (s.bump (Reg.XBAR_CNT 10)).perfAdd 62
  | .retryOk => s.bump (Reg.XBAR_CNT 11)
  | .lasting => (((s.bump (Reg.XBAR_CNT 12)).noteErr m t a 6 false).raise Reg.XBAR_INT_STATUS 4).traceRec 5 0x60
      (le8 3 ++ le8 6 ++ le8 t ++ le8 m ++ le32 a ++ le16 (a / 2 ^ 32))

/-- Whether a target is an SRAM of R342. -/
def isSram (t : Nat) : Bool := decide (t ≤ 6)

/-- What the outcome of a completed read means for its master (R344, R349): a lasting error in control TCM is fatal, elsewhere it is an
error response. -/
def State.readOutcome (s : State) (m t a n : Nat) (e : Ecc) : State :=
  if isSram t then
    let s1 := s.sramEcc m t a e
    if e ≠ .lasting then s1
    else if t = 1 then (((s1.withRdata (zeros n)).withRstat 1).fatalError 0x07 a)
    else (s1.withRdata (zeros n)).errorTo m a 6
  else if 8 ≤ t ∧ e = .lasting then s.errorTo m a 6
  else s

/-- A timeout whose retry succeeded is transient (R329). -/
def State.retrySucceeded (s : State) (x : XEntry) : State :=
  if x.retried then
    let a := x.req.addr
    let s1 := s.noteErr x.req.master x.target a 3 (accWrites x.req.acc)
    ((s1.bump (Reg.XBAR_CNT 4)).raise Reg.XBAR_INT_STATUS 1).traceRec 5 0x60
      (le8 2 ++ le8 3 ++ le8 x.target ++ le8 x.req.master ++ le32 a ++ le16 (a / 2 ^ 32))
  else s

/-- The granted request of a master and tag that completes next. -/
def State.grantedReq (s : State) (m tag : Nat) : Option XEntry :=
  s.xbar.reqs.find? (fun e => e.req.master == m && e.req.tag == tag && e.st == .granted)

/-- A completed request removed. -/
def State.dropGranted (s : State) (m tag : Nat) : State :=
  let mine := fun (e : XEntry) => e.req.master == m && e.req.tag == tag && e.st == .granted
  s.onXbar (fun x => { x with reqs := changeFirst mine (fun _ => none) x.reqs })

/-- XBAR_COMPLETE (R330, R331, R336): the target completes the oldest granted request of a master and tag; `e` is how its read ended and
`held` the cycles requests of its tag were held back. A masked master's response is discarded. -/
def execXbarComplete (master tag : Nat) (e : Ecc) (held : Nat) (s : State) : Host.Outcome State Fault Refusal :=
  match s.grantedReq master tag with
  | none => .next s
  | some x =>
    let s1 := ((s.dropGranted master tag).retrySucceeded x).carryOut master x.target x.req.addr x.req.acc e
    let s2 := match x.req.acc with
      | .read n => if x.discard then (s1.withRdata []).withRstat 0 else s1.readOutcome master x.target x.req.addr n e
      | .write _ => if 8 ≤ x.target ∧ e = Ecc.lasting ∧ s1.rstat = 1 ∧ !x.discard then s1.errorTo master x.req.addr 6 else s1
    .next (((s2.bump (Reg.XBAR_CNT 6) held).perfAdd 57 held).afterLeave master)

/-! ### Timeouts and parks (R329, R335) -/

/-- A target, or a block behind the register bridge, marked failed (R329). -/
def State.failTarget (s : State) (t a : Nat) : State :=
  if t = 7 then s.onXbar (fun x => { x with failedBlocks := x.failedBlocks ++ [a / 0x10000] })
  else s.onXbar (fun x => { x with failed := if x.failed.contains t then x.failed else x.failed ++ [t] })

/-- A lasting timeout: counted, logged, the target failed, an error response; fatal but for the ROM and the register bridge. -/
def State.timeoutFail (s : State) (x : XEntry) : State :=
  let a := x.req.addr
  let s1 := ((s.bump (Reg.XBAR_CNT 5)).raise Reg.XBAR_INT_STATUS 2).logErr x.req.master x.target a 4 (accWrites x.req.acc)
  let s2 := (s1.failTarget x.target a).traceRec 5 0x60
    (le8 3 ++ le8 4 ++ le8 x.target ++ le8 x.req.master ++ le32 a ++ le16 (a / 2 ^ 32))
  let s3 := if x.target = 0 ∨ x.target = 7 then s2 else s2.fatalError 0x05 a
  if x.discard then s3
  else (s3.withRdata (if accWrites x.req.acc then [] else zeros (accLen x.req.acc))).errorTo x.req.master a 6

/-- XBAR_TIMEOUT (R329): a granted request has not completed in time: it is tried once more, or has failed lastingly. -/
def execXbarTimeout (master tag : Nat) (s : State) : Host.Outcome State Fault Refusal :=
  match s.grantedReq master tag with
  | none => .next s
  | some x =>
    if !s.bit Reg.XBAR_CTRL 1 then .next s
    else if !x.retried then
      let mine := fun (e : XEntry) => e.req.master == master && e.req.tag == tag && e.st == .granted
      .next (s.onXbar (fun y => { y with reqs := changeFirst mine (fun e => some { e with retried := true }) y.reqs }))
    else .next (((s.dropGranted master tag).timeoutFail x).afterLeave master)

/-- PARK_DEFAULT (R335): after 16 idle cycles a target's park moves to its default master. -/
def execParkDefault (target : Nat) (s : State) : Host.Outcome State Fault Refusal :=
  if 12 ≤ target ∨ s.visibleAt target ≠ [] then .next s
  else .next (s.onXbar (fun x => { x with park := tset 0 x.park target (s.fld (Reg.XBAR_DEFAULT target) 3 0) }))

end Sys2Proof.Machine
end

