-- ==== Sys2Proof/Machine/Boundary.lean ====
section
/-! DEFINITION. QUANTUM_BOUNDARY (R21 to R26, R34): the stages of the quantum pipeline advance, and everything that takes effect at a
quantum boundary does. -/

namespace Sys2Proof.Machine

/-! ### Test generator (R415) -/

/-- One sample of a test generator channel: the channel and its Q1.31 value. -/
def TestGen.step (g : TestGen) (fs : Nat) : TestGen × Int :=
  if g.kind = 1 then
    let turns := fxDiv ((g.freq * g.pos % fs : Nat) : Int) fs
    ({ g with pos := g.pos + 1 }, q31 (fxOpen 44 (fxMul (gainOfDb g.level) (fxSinTurns turns)) 31))
  else if g.kind = 0 then (g, 0)
  else
    let (x, st, v) := noiseStep (g.kind == 2) g.level g.noise g.pink
    ({ g with noise := x, pink := st }, refValue v)

/-- The 8 samples of a quantum of channel c, put under their keys. -/
def TestGen.quantum (fs c : Nat) (a : TestGen × Tbl Int) (k : Nat) : TestGen × Tbl Int :=
  let (g, v) := a.1.step fs
  (g, tset 0 a.2 (chanKey 4 c k) v)

/-- The new settings take effect, and the channels deliver the quantum whose assembly starts now. -/
def State.testAssemble (s : State) (t : Tbl Int) : State × Tbl Int :=
  let gens := s.meas.testNew.foldl (fun u e => tset TestGen.init u e.1 e.2) s.meas.testGen
  let (gens1, t1) := gens.foldl (fun (a : Tbl TestGen × Tbl Int) (e : Nat × TestGen) =>
    let (g, u) := (List.range 8).foldl (TestGen.quantum s.time.fs e.1) (e.2, a.2)
    (tset TestGen.init a.1 e.1 g, u)) (gens, t)
  (s.onMeas (fun x => { x with testGen := gens1, testNew := [] }), t1)

/-- The test generator channels present (R74, R415). -/
def State.testChannels (s : State) : List Nat :=
  (s.meas.testGen.filter (fun (e : Nat × TestGen) => e.2.kind != 0)).map (fun e => 4 * 65536 + e.1)

/-! ### Input assembly (R21, R73 to R75) -/

/-- The Facet output channels present: those that enabled object-insert tasks deliver (R74, R293). -/
def State.facetChannels (s : State) : List Nat :=
  (s.liveInserts.filter (fun e => e.2.attach == 0)).flatMap (fun e =>
    (e.2.list.filter (fun x => x.2.2.1 == 3)).map (fun x => 3 * 65536 + x.2.2.2))

/-- The assembly of quantum q starts: samples 0 to 3 of ports, the streams and the test generator; the streams are zero in a step
quantum (R259). -/
def State.assembleFirst (s : State) (q : Nat) (quiet : Bool) : State :=
  let (s1, t1) := s.portsFirst q
  let (s2, t2) := if quiet then (s1, t1) else s1.streamsAssemble q t1
  let (s3, t3) := s2.testAssemble t2
  s3.onPipe (fun x => { x with half := t3, here := some (s3.portChannels q ++ s3.streamChannels ++ s3.testChannels ++ s3.facetChannels) })

/-- What look-ahead taps find of the Facet output channels an input map names, for quantum q. -/
def aheadTable (m : QMap) (q : Int) : Tbl Int :=
  (m.1.filter (fun (e : Nat × (Nat × Nat)) => e.2.1 == 3)).foldl (fun t e =>
    (List.range 4).foldl (fun u k => tset 0 u (e.2.2 * 8 + k) (Config.facetAhead e.2.2 (8 * q + (k : Int)).toNat)) t) []

/-- The objects' delay lines at the boundary at which a quantum q enters their windows. -/
def State.alignSteps (s : State) (q : Nat) : State := s.each s.objKeys (fun t j => t.alignStep q j)

/-- Quantum q enters the windows whole, with the samples missing that were given at the boundary before; a quantum that was never
assembled leaves them as they are (R449, R526). -/
def State.fillWhole (s : State) (m : QMap) (raw facet : Tbl Int) (here : Option (List Nat)) (q : Int) : State :=
  match here with
  | none => s
  | some h => ((s.windows s.pipe.bulkNext.late m raw facet q (List.range 8)).markAbsent m h).bulkCounts s.pipe.bulkNext.late

/-- The first 4 samples of quantum q are there for the taps that look ahead; what is missing of the quantum is missing there too (R80, R93). -/
def State.fillAhead (s : State) (b : BulkBad) (m : QMap) (raw facet : Tbl Int) (q : Int) : State :=
  let s1 := (s.alignSteps q.toNat).each s.objKeys (fun t j =>
    if (t.obj j).align.bad.isEmpty then t else t.setObj j { t.obj j with align := (t.obj j).align.passed (8 * q) })
  ((s1.each b.ecc (fun t e => t.burstFails q e)).windows b.late m raw facet q [0, 1, 2, 3]).onPipe (fun x => { x with bulkNext := b })

/-- Quantum q enters the windows whole, and of the next what the look-ahead taps read (R78 to R80). `b` are the failed alignment reads of
that next quantum. -/
def State.fillWindows (s : State) (b : BulkBad) (m next : QMap) (raw facet rawNext facetNext : Tbl Int) (here : Option (List Nat)) (q : Int) :
    State :=
  (s.fillWhole m raw facet here q).fillAhead b next rawNext facetNext (q + 1)

/-- Input assembly at boundary n: quantum n − 2, whose second parts (`raw0` has it whole) were due before, goes to the windows or into the
object-insert stage; then the first parts of quantum n − 1 (R23, R192). Windows are written where paths render. -/
def State.assemble (s : State) (n : Nat) (raw0 : Tbl Int) (quiet : Bool) (b : BulkBad) : State :=
  let here := s.pipe.here
  let raw := if here.isSome then raw0 else []
  let p := s.pipe
  let s1 := s.assembleFirst (n - 1) quiet
  if s.time.objInsert then
    let q : Int := (n : Int) - 3
    let m := s1.mapBack 2
    let next := s1.mapBack 1
    let s2 := if s1.rendering then s1.fillWindows b m next p.rawIns p.facetOut raw (aheadTable next (q + 1)) p.hereIns q else s1
    s2.onPipe (fun x => { x with rawIns := raw, hereIns := here, facetOut := [] })
  else if s1.rendering then
    s1.fillWindows b (s1.mapBack 1) (s1.mapBack 0) raw [] s1.pipe.half [] here ((n : Int) - 2)
  else s1

/-! ### Half B (R98, R99) -/

/-- A change of half B has come to its end: the state in use and recorded, the register bit, the interrupt, the completion. -/
def State.halfDone (s : State) (c : HalfChange) : State :=
  let s1 := (s.onPrism (fun x => { x with half := c.on, halfRecorded := c.on, halfChange := none })).setFld Reg.PRISM_CTRL 1 1 (b2n c.on)
  let s2 := if c.on then s1 else s1.setPwr (withBits s1.sys.pwr 4 4 0)
  (s2.raise Reg.PRISM_INT_STATUS 0).endJob c.job stOk (le8 (b2n c.on))

/-- Whether the committed table keeps every path on lanes 0 to 3. -/
def State.halfEmpty (s : State) : Bool := s.prism.paths.all (fun p => decide (tget 0 s.prism.busLane p.bus < 4))

/-- A change of half B after the commit of a boundary. On: the lanes have passed their test, then the setup on 8 lanes is committed. Off:
setups re-pack the table, at most 8,192 records a quantum (R123), until one that keeps lanes 4 to 7 empty is committed; PRISM_B goes off a
quantum later (R98, R99). -/
def State.halfStep (s : State) (tested : Bool) : State :=
  match s.prism.halfChange with
  | none => s
  | some c =>
    let put := fun (k : Nat) => s.onPrism (fun x => { x with halfChange := some { c with step := k } })
    if c.on then (if c.step = 1 then s.halfDone c else if tested then put 1 else s)
    else if c.step = 2 then s.halfDone c else if c.step = 1 ∧ !s.halfEmpty then s else put (c.step + 1)

/-! ### Render and output -/

/-- A stage that has not finished at the boundary that ends it (R26, R264): fatal while the tick is locked to media samples; its
quantum is silent. -/
def State.stageLate (s : State) (late : Bool) (int bit code : Nat) : State :=
  if !late then s
  else
    let s1 := (s.raise int bit).onPipe (fun x => { x with rendered := [] })
    if s1.tickLocked then s1.fatalError code 0 else s1

/-- A Facet core read a word of its own memory with a lasting error: its instance faults (R298, R344). -/
def State.coreEcc (s : State) (a : Nat) : State :=
  let n := (a - 0x14000000) / 0x40000
  match s.resident n with
  | none => s
  | some slot =>
    match s.item? slot with
    | none => s
    | some i => s.facetFault n slot i 6

/-- An SRAM word that an engine, or a Facet core in its own memory, read with an error (R344): a lasting one is fatal, and a fault of the
core's instance. The master logged for an engine is no master of the matrix. -/
def State.engineEcc (s : State) (e : Nat × Ecc) : State :=
  let t := (s.targetOf 0 e.1).getD 0
  let m := if t = 6 then (e.1 - 0x14000000) / 0x40000 + 1 else Config.freeNat s.freeCnt % 16
  let s1 := (s.fresh).sramEcc m t e.1 e.2
  if e.2 ≠ Ecc.lasting then s1 else if t = 6 then s1.coreEcc e.1 else s1.fatalError 0x07 e.1

/-- The samples of the output stage by destination channel of a type, keyed channel × 8 + sample (R76, R77). -/
def destTable (m : Tbl (List (Nat × Nat))) (out : Tbl Int) (ty : Nat) : Tbl Int :=
  m.foldl (fun t e => (e.2.filter (fun d => d.1 == ty)).foldl (fun u d =>
    (List.range 8).foldl (fun w k => tset 0 w (d.2 * 8 + k) (tget 0 out (e.1 * 8 + k))) u) t) []

/-- The output map that serialisation uses from now on (R77). -/
def State.adoptOutputs (s : State) : State :=
  s.onScene (fun x => { x with outputMap := x.outputNew.foldl (fun t e => tset [] t e.1 e.2) x.outputMap, outputNew := [] })

/-- The buses that stay at zero because their task was disabled by the scheduler (R25); a bus that another enabled task has taken since is
that task's. -/
def State.muteBuses (s : State) : List Nat :=
  let taken := s.sched.tasks.flatMap (fun (e : Nat × FTask) => if e.2.enabled then e.2.buses else [])
  (s.sched.tasks.flatMap (fun (e : Nat × FTask) => e.2.mute)).filter (fun b => !taken.contains b)

/-- Samples of buses with some of them at zero. -/
def zeroBuses (t : Tbl Int) (bs : List Nat) : Tbl Int :=
  bs.foldl (fun u b => (List.range 8).foldl (fun w k => tset 0 w (b * 8 + k) 0) u) t

/-- The output stage takes its quantum, and the bus-insert stage the one rendered last (R21, R23, R455). -/
def State.outputStage (s : State) (n : Nat) (env : BoundaryEnv) : State :=
  let s1 := s.adoptOutputs
  let out := if s1.time.busInsert then zeroBuses s1.pipe.busIns s1.muteBuses else s1.pipe.rendered
  let strm := destTable s1.scene.outputMap out 2
  let value := fun (ch k : Nat) => if s1.sys.muted then 0 else tget 0 strm (ch * 8 + k)
  let s2 := (s1.portsOutput n (destTable s1.scene.outputMap out 1) env.portLate).streamsOutput n value env.streamLate
  s2.onPipe (fun x => { x with busIns := x.rendered })

/-- The render stage of boundary n (R22, R24). -/
def State.renderStage (s : State) (n : Nat) (env : BoundaryEnv) : State :=
  let q : Int := (n : Int) - 2 - s.osLag
  if s.rendering then ((s.commitSetup env.setupLate).halfStep env.halfTested).renderQuantum q env.waits else s.measureQuantum n q

/-- Path setup starts at a boundary (R40, R48, R102), for the quantum before the newest that is assembled. -/
def State.setupStage (s : State) : State :=
  if s.rendering then ((s.stepAir).commitLayout).pathSetup ((s.time.lastQ : Int) - 1 - s.osLag) else s

/-- FCORE_USED takes the cycles charged in the quantum that ended. -/
def State.latchUsed (s : State) : State :=
  (s.each (List.range 8) (fun t c => t.wr (Reg.FCORE_USED c) (min 0x3FFFF (tget 0 t.sched.used c)))).onSched
    (fun x => { x with used := [], rtReleased := false })

/-! ### The boundary -/

/-- What a boundary does in every mode: the frequency word (R251), SYNC_OUT on the quantum grid (R266), the counter of quanta. -/
def State.boundaryTime (s : State) (n : Nat) : State :=
  let s1 := (s.sliceWord).perfAdd 127
  if s1.syncSrc = 3 ∧ n % (max 1 (s1.fld Reg.CLK_SYNC_OUT 31 16)) = 0 then s1.syncPulse else s1

/-- The engines at boundary n of a live mode. -/
def State.pipeline (s : State) (n : Nat) (env : BoundaryEnv) (quiet : Bool) : State :=
  let s1 := (s.stageLate env.prismLate Reg.PRISM_INT_STATUS 4 0x01).stageLate env.lensLate Reg.LENS_INT_STATUS 5 0x02
  let s2 := (s1.each env.sram (fun t e => t.engineEcc e)).pushMap
  let (s2a, raw) := s2.portsSecond (n - 2) s2.pipe.half
  let s3 := ((((s2a.portsEnable n).streamsFirst n).outputStage n env).assemble n raw quiet ⟨env.bulkLate, env.bulkEcc⟩).legsIdle
  let s4 := (s3.lensBoundary n).renderStage n env
  let s5 := (s4.micBoundary n env.pdm).latchUsed
  let s6 := ((s5.metaConfig.metaBoundary.taskBoundary).portsBoundary n).streamsBoundary n
  (s6.liveStep n).setupStage

/-- Prism, Lens, PORT and DECIM have stopped (R460); the streams' contexts go on behind the closed gate. -/
def State.stopped (s : State) (n : Nat) : State :=
  (((s.portsStop).micStop).legsIdle).streamsBoundary n

/-- What takes effect at boundary n outside the live modes: settings of the metadata engine, tasks, and in PARK the compensation loads
(R162, R451). -/
def State.idleBoundary (s : State) (n : Nat) : State :=
  let s1 := s.metaConfig.taskBoundary
  if s1.sys.mode = .park then s1.endCompLoads n else s1

/-- A quantum boundary of a running device. -/
def State.boundary (s : State) (n : Nat) (env : BoundaryEnv) : State :=
  let quiet := s.time.stepQuantum
  let s0 := s.onTime (fun x => { x with lastQ := n, stepQuantum := false })
  let s1 := ((s0.boundaryTime n).mirrorBoundary n).heartbeat env.delivered
  let s2 := if !s1.live then s1.idleBoundary n else if s1.sys.enginesStop then s1.stopped n else s1.pipeline n env quiet
  (if s2.sys.fwRunning then (s2.hierBoundary n).ptpBoundary else s2).lossBoundary

/-- The number of the boundary that is due, or comes next. -/
def State.boundaryNo (s : State) : Nat := max (s.time.lastQ + 1) (s.time.tick / s.time.tq)

/-- A boundary at its tick. -/
def State.atBoundary (s : State) (env : BoundaryEnv) : State :=
  let n := s.boundaryNo
  let s1 := s.tickTo (n * s.time.tq)
  if s1.sys.phase = .running then s1.boundary n env else s1.onTime (fun x => { x with lastQ := n })

/-- QUANTUM_BOUNDARY (R21): the next boundary. A step that waits outside the live modes is applied in the first tick that follows (R257):
before the boundary, or after it where that tick is the boundary's (R34). -/
def execQuantumBoundary (env : BoundaryEnv) (s : State) : Host.Outcome State Fault Refusal :=
  if !s.clockRuns then .next s
  else if s.stepWaits then
    let at_ := s.boundaryNo * s.time.tq
    if s.time.tick + 1 < at_ then .next (s.idleTick.atBoundary env)
    else if s.time.tick < at_ then .next ((s.atBoundary env).idleStep)
    else .next (s.atBoundary env)
  else .next (s.atBoundary env)

end Sys2Proof.Machine
end

