-- ==== Sys2Proof/Machine/Dump.lean ====
section
/-! DEFINITION. The post-mortem dump (R476 to R479): its sections, its header and its writing. -/

namespace Sys2Proof.Machine

/-- The address of the dump region: the unit Focus gave it; the first unit of DRAM before it is placed. -/
def State.dumpAddr (s : State) : Nat := unitAddr (((s.ddrc.alloc.find? (fun e => e.2 == regionTag 1 0)).map (·.1)).getD 0)

/-! ### Sections (R478) -/

/-- Whether the registers of block b can be read: its domain is on and the block has not failed; SEC never. -/
def State.blockReadable (s : State) (b : Nat) : Bool :=
  let a := 0x20000000 + 0x10000 * b
  b != 21 && bitOf s.sys.pwr (blockDomain a) && !s.xbar.failedBlocks.contains (a / 0x10000)

/-- The first 4 KiB of a block, or zeros. -/
def State.blockBytes (s : State) (b : Nat) : Bytes :=
  if s.blockReadable b then (List.range 1024).flatMap (fun i => le32 (s.blockWord b (4 * i))) else zeros 4096

/-- Section 1: the readable blocks, then every block. -/
def State.dumpRegs (s : State) : Bytes :=
  let mask := (List.range 22).foldl (fun n b => if s.blockReadable b then n + 2 ^ b else n) 0
  le32 mask ++ zeros 28 ++ (List.range 22).flatMap (fun b => s.blockBytes b)

/-- Section 2: the tail ring. -/
def State.dumpTail (s : State) : Bytes := fitBytes 65536 s.trace.tail.flatten

/-- Section 3: the slots, and the registers of MBX. -/
def State.dumpMbx (s : State) : Bytes :=
  mread s.mem 0x20030000 2048 ++ mread s.mem 0x20031000 2048 ++ (List.range 64).flatMap (fun i => le32 (s.blockWord 3 (0x2000 + 4 * i)))

/-- Section 4: the last events. -/
def State.dumpEvents (s : State) : Bytes := fitBytes 2048 s.mbx.lastEvents.flatten

/-- The state code of a slot record. -/
def State.slotCode (s : State) (i : Item) : Nat :=
  match i.use with
  | .rtReserved => 1
  | .delayed => 2
  | .ready => if s.flowBlocked i then 6 else 3
  | .resident => 4
  | .preempted => 5

/-- The record of a task slot. -/
def State.slotRecord (s : State) (n : Nat) : Bytes :=
  match s.item? n with
  | none => zeros 16
  | some i =>
    le16 (i.task.getD 0xFFFF) ++ le8 (s.slotCode i) ++ le8 (i.level + 8 * i.cls) ++ le16 (i.flow.getD 0xFFFF) ++ le16 i.server
      ++ le32 i.tick ++ zeros 4

/-- The entry of a server: SCHED_SERVERs and, for a core, FCORE_STATUS, FCORE_PC and FCORE_FAULT. -/
def State.serverRecord (s : State) (n : Nat) : Bytes :=
  le32 (s.serverWord n) ++ (if n < 8 ∧ s.coreExists n ∧ bitOf s.sys.pwr 6 then
    le32 (s.regWord (Reg.FCORE_STATUS n)) ++ le32 (s.regWord (Reg.FCORE_PC n)) ++ le32 (s.regWord (Reg.FCORE_FAULT n)) else zeros 12)

/-- Section 5: servers, then slots. -/
def State.dumpSched (s : State) : Bytes :=
  (List.range 9).flatMap (fun n => s.serverRecord n) ++ (List.range 1024).flatMap (fun n => s.slotRecord n)

/-- The sections with their types, offsets and PARTIAL marks. -/
def State.dumpSections (s : State) : List (Nat × Nat × Bool × Bytes) :=
  [ (1, 0x100, (List.range 21).any (fun b => !s.blockReadable b), s.dumpRegs), (2, 0x16200, false, s.dumpTail)
  , (3, 0x26200, false, s.dumpMbx), (4, 0x27300, false, s.dumpEvents), (5, 0x27B00, !bitOf s.sys.pwr 6, s.dumpSched) ]

/-- A directory entry. -/
def dirEntry (e : Nat × Nat × Bool × Bytes) : Bytes :=
  le16 e.1 ++ le16 (b2n e.2.2.1) ++ le32 e.2.1 ++ le32 e.2.2.2.length ++ le32 (crc32 e.2.2.2)

/-! ### The header (R477) -/

/-- The detail of a fatal error: the failing address of causes 5 to 8; the last firmware program counter of cause 0x0B, which is open. -/
def State.dumpDetail (s : State) (f : Fatal) : Nat :=
  if 5 ≤ f.cause ∧ f.cause ≤ 8 then f.detail else if f.cause = 0x0B then Config.freeNat s.freeCnt else 0

/-- The header; `rom`: the boot ROM writes it, and whether it still knows the firmware version is open. -/
def State.dumpHeader (s : State) (f : Fatal) (rom part : Bool) : Bytes :=
  let sec := secOf f.tick
  let ver := if rom && Config.freeBool s.freeCnt then 0 else s.sys.imgVersion
  let h := le32 0x4D504B4D ++ le16 1 ++ le8 f.cause ++ le8 (s.fld Reg.SYS_FATAL 15 8) ++ le64 (f.tick / s.time.tps) ++ le32 (nsOf f.tick)
    ++ le32 sec ++ le16 (sec / 2 ^ 32) ++ le8 f.mode.code ++ le8 (b2n rom) ++ le16 5 ++ le16 (b2n part) ++ le32 0x961000B0 ++ le32 ver
    ++ le32 (s.trace.dumpSeq + 1) ++ le8 (s.fld Reg.SYS_FATAL 19 16) ++ zeros 3 ++ le32 179088 ++ le64 (s.dumpDetail f)
  h ++ le32 (crc32 h)

/-- The dump written to its region, and DUMP_VALID set (R460, R479). -/
def State.writeDump (s : State) (f : Fatal) (rom : Bool) : State :=
  let a := s.dumpAddr
  let secs := s.dumpSections
  let head := s.dumpHeader f rom (secs.any (fun e => e.2.2.1))
  let s1 := s.withMem (mclear s.mem a 0x100000)
  let s2 := s1.each secs (fun t e => t.withMem (mwrite t.mem (a + e.2.1) e.2.2.2))
  (s2.withMem (mwrite s2.mem a (head ++ secs.flatMap dirEntry))).fresh.onTrace (fun x => { x with dumpValid := true, dumpSeq := x.dumpSeq + 1 })

/-- The header stored in the region. -/
def State.dumpHead (s : State) : Bytes := mread s.mem s.dumpAddr 64

/-- Whether a valid dump is reported: DUMP_VALID, magic and CRC (R479). -/
def State.dumpOk (s : State) : Bool :=
  s.trace.dumpValid && u32At s.dumpHead 0 == 0x4D504B4D && u32At s.dumpHead 60 == crc32 (s.dumpHead.take 60)

end Sys2Proof.Machine
end

