-- ==== Sys2Proof/Machine/Diag.lean ====
section
/-! DEFINITION. The diagnostics commands (R418 to R421, R467 to R479): COUNTER_READ, counters, trace, dump and the event mask. -/

namespace Sys2Proof.Machine

/-! ### Registers and counters -/

/-- COUNTER_READ (R418). -/
def cmdCounterRead : CmdDef := mkCmd 0x9001 modesAny (lenIs 8) (fun _ p s =>
  let b := u8At p 0
  let o := u16At p 2
  let n := u16At p 4
  checked s [ (decide (21 < b), Resp.errF stRange 0), (decide (o % 4 ≠ 0), Resp.errF stRange 2)
            , (decide (n = 0 ∨ 58 < n), Resp.errF stRange 4), (decide (0x10000 < o + 4 * n), Resp.errF stRange 2) ]
    (s, Resp.ok ((List.range n).flatMap (fun i => le32 (s.blockWord b (o + 4 * i))))))

/-- COUNTER_READ (R418). -/
def execCounterRead (h : Hdr) (p : Bytes) (s : State) : Host.Outcome State Fault Refusal := cmdCounterRead.exec h p s

/-- Why an entry of PERF_CFG is refused: no such counter, or CHAIN on an even one (R469). -/
def perfEntryBad (i : Nat) (e : Bytes) : Option Resp :=
  if 127 < u8At e 0 then some (Resp.err stRange i (4 * i))
  else if u8At e 0 % 2 = 0 ∧ bitOf (u8At e 1) 1 then some (Resp.err stRange i (4 * i + 1))
  else none

/-- PERF_CFG (R468, R469, R471). -/
def cmdPerfCfg : CmdDef := mkCmd 0x9010 modesCfg (lenEntries 0 4 60) (fun _ p s =>
  let es := entries 4 p
  checkedEntries s es perfEntryBad (s.each es (fun t e => t.wr (Reg.PERF_CFG (u8At e 0)) (u8At e 1 % 8)), Resp.ok))

/-- PERF_CFG (R468). -/
def execPerfCfg (h : Hdr) (p : Bytes) (s : State) : Host.Outcome State Fault Refusal := cmdPerfCfg.exec h p s

/-- PERF_READ (R467): the values as they are; no master's latches change. -/
def cmdPerfRead : CmdDef := mkCmd 0x9011 modesAny (lenIs 4) (fun _ p s =>
  let f := u8At p 0
  let n := u8At p 1
  checked s [ (decide (127 < f), Resp.errF stRange 0), (decide (n = 0 ∨ 30 < n), Resp.errF stRange 1), (decide (128 < f + n), Resp.errF stRange 1) ]
    (s, Resp.ok ((List.range n).flatMap (fun i => le64 (tget 0 s.perf.cnt (f + i))))))

/-- PERF_READ (R467). -/
def execPerfRead (h : Hdr) (p : Bytes) (s : State) : Host.Outcome State Fault Refusal := cmdPerfRead.exec h p s

/-! ### Trace (R474, R475) -/

/-- The buffer emptied. -/
def State.traceEmpty (s : State) : State :=
  s.onTrace (fun x => { x with written := 0, read := 0, lost := 0, lostAtRead := 0, stopped := false })

/-- The settings of TRACE_CFG. -/
def State.traceSet (s : State) (p : Bytes) : State :=
  let on := u8At p 7
  let s1 := ((s.wr Reg.TRACE_SRC (u32At p 0)).setFld Reg.TRACE_CTRL 2 2 (u8At p 6)).setFld Reg.TRACE_CTRL 0 0 on
  s1.setFld Reg.SCHED_CTRL 2 2 (if on = 1 then u32At p 0 % 2 else 0)

/-- TRACE_CFG (R474). -/
def cmdTraceCfg : CmdDef := mkCmd 0x9020 modesCfg (lenIs 8) (fun _ p s =>
  let n := u16At p 4
  let t := (s.freeTrace.traceEmpty).setFld Reg.TRACE_SIZE 6 0 n
  checked s [ (decide (63 < u32At p 0), Resp.errF stRange 0), (decide (n = 0 ∨ 64 < n), Resp.errF stRange 4)
            , (decide (1 < u8At p 6), Resp.errF stRange 6), (decide (1 < u8At p 7), Resp.errF stRange 7) ]
    (if !s.live then (t.traceSet p, Resp.ok)
     else match (t.traceSet p).placeTrace with
       | some u => (u, Resp.ok)
       | none => (s.freeTrace, Resp.resource 0xFFFF 0 0xFFFF)))

/-- TRACE_CFG (R474). -/
def execTraceCfg (h : Hdr) (p : Bytes) (s : State) : Host.Outcome State Fault Refusal := cmdTraceCfg.exec h p s

/-- The n oldest unread records of the buffer. -/
def State.traceTake (s : State) (n : Nat) : Bytes :=
  (List.range n).flatMap (fun i => mread s.mem (unitAddr s.trace.bufUnit + 16 * ((s.trace.read + i) % s.traceCap)) 16)

/-- Records copied to the host's buffer and marked read; the records lost since the last TRACE_READ. -/
def State.traceCopy (s : State) (b : Buf) : State × Resp :=
  let t := s.traceSkip
  let n := min (b.len / 16) (if t.trace.bufUnits = 0 then 0 else t.traceUnread)
  let t1 := (t.bufWrite b (t.traceTake n)).onTrace (fun x => { x with
    read := x.read + n, stopped := x.stopped && n == 0, lostAtRead := x.lost })
  (t1, Resp.ok (le32 n ++ le32 (t.trace.lost - t.trace.lostAtRead)))

/-- TRACE_READ (R475). -/
def cmdTraceRead : CmdDef := mkBulk 0x9021 modesAny (lenIs 12) (fun _ p s =>
  let b := bufAt p 0
  checked s [(!s.bufOk b, Resp.errF stRange 0), (decide (b.len < 16), Resp.errF stRange 8)] (s.traceCopy b))

/-- TRACE_READ (R475). -/
def execTraceRead (h : Hdr) (p : Bytes) (s : State) : Host.Outcome State Fault Refusal := cmdTraceRead.exec h p s

/-! ### The dump (R479) -/

/-- DUMP_INFO. -/
def cmdDumpInfo : CmdDef := mkCmd 0x9030 modesAny (lenIs 0) (fun _ _ s =>
  (s, Resp.ok (le8 (b2n s.dumpOk) ++ zeros 3 ++ (if s.dumpOk then s.dumpHead else zeros 64))))

/-- DUMP_INFO (R479). -/
def execDumpInfo (h : Hdr) (p : Bytes) (s : State) : Host.Outcome State Fault Refusal := cmdDumpInfo.exec h p s

/-- DUMP_READ. -/
def cmdDumpRead : CmdDef := mkBulk 0x9031 modesAny (lenIs 16) (fun _ p s =>
  let o := u32At p 0
  let b := bufAt p 4
  checked s [ (decide (1048576 < o + b.len), Resp.errF stRange 0), (!s.bufOk b, Resp.errF stRange 4)
            , (decide (b.len = 0), Resp.errF stRange 12), (!s.dumpOk, Resp.errS stState) ]
    (s.bufWrite b (mread s.mem (s.dumpAddr + o) b.len), Resp.ok (le32 b.len)))

/-- DUMP_READ (R479). -/
def execDumpRead (h : Hdr) (p : Bytes) (s : State) : Host.Outcome State Fault Refusal := cmdDumpRead.exec h p s

/-- DUMP_CLEAR. -/
def cmdDumpClear : CmdDef := mkCmd 0x9032 modesAny (lenIs 0) (fun _ _ s => (s.onTrace (fun x => { x with dumpValid := false }), Resp.ok))

/-- DUMP_CLEAR (R479). -/
def execDumpClear (h : Hdr) (p : Bytes) (s : State) : Host.Outcome State Fault Refusal := cmdDumpClear.exec h p s

/-! ### The event mask (R420, R421) -/

/-- The event codes that may be masked. -/
def eventCodes : List Nat :=
  [ 0xF001, 0x1001, 0x2001, 0x2002, 0x3001, 0x4001, 0x4002, 0x4003, 0x5001, 0x5002, 0x5003, 0x5004, 0x6001, 0x6002, 0x6003, 0x7001, 0x7002
  , 0x7003, 0x7004, 0x8001, 0x8002, 0x8003, 0x8010, 0x8011, 0x9001, 0x9002, 0x9003 ]

/-- Why an entry of EVENT_MASK_SET is refused. -/
def maskEventBad (i : Nat) (e : Bytes) : Option Resp :=
  if !eventCodes.contains (u16At e 0) then some (Resp.err stRange i (4 * i))
  else if 1 < u8At e 2 then some (Resp.err stRange i (4 * i + 2))
  else none

/-- An event code turned on or off. -/
def State.maskEvent (s : State) (e : Bytes) : State :=
  let c := u16At e 0
  s.onMbx (fun x => { x with evMask := tset (c != 0x5004) x.evMask c (u8At e 2 == 1) })

/-- EVENT_MASK_SET (R420). -/
def cmdEventMaskSet : CmdDef := mkCmd 0x9040 modesAny (lenEntries 0 4 58) (fun _ p s =>
  let es := entries 4 p
  checkedEntries s es maskEventBad (s.each es (fun t e => t.maskEvent e), Resp.ok))

/-- EVENT_MASK_SET (R420). -/
def execEventMaskSet (h : Hdr) (p : Bytes) (s : State) : Host.Outcome State Fault Refusal := cmdEventMaskSet.exec h p s

end Sys2Proof.Machine
end

