-- ==== Sys2Proof/Machine/DramCmds.lean ====
section
/-! DEFINITION. The DDRC commands (R361 to R368, R407). -/

namespace Sys2Proof.Machine

/-- A replaced speed change completes with ERR_STATE and the rate in force (R363). -/
def State.dropDeferred (s : State) : State :=
  match s.ddrc.deferred with
  | none => s
  | some (_, j) => (s.onDdrc (fun x => { x with deferred := none })).endJob j stState s.sweepDetail

/-- A speed change: deferred while a sweep runs, otherwise made at once with its sweep (R363). -/
def State.speedSet (s : State) (h : Hdr) (r : Nat) : State :=
  let s1 := s.dropDeferred
  let j := s1.mbx.nextJob
  let s2 := s1.newJob h 0x0030 1
  if s.ddrc.sweep.isSome then s2.onDdrc (fun x => { x with deferred := some (r, j) })
  else (s2.onDdrc (fun x => { x with rate := r })).startSweep 1 [j]

/-- DDR_SPEED_SET. -/
def cmdDdrSpeedSet : CmdDef := mkCmd 0x0030 [.park] (lenIs 4) (fun h p s =>
  let r := u8At p 0
  checked s [(decide (1 < r), Resp.errF stRange 0)]
    (if r = s.ddrc.rate ∧ s.ddrc.deferred.isNone then (s, Resp.ok) else (s.speedSet h r, Resp.accepted)))

/-- DDR_CAL (R361, R363). -/
def cmdDdrCal : CmdDef := mkCmd 0x0031 [.park] (lenIs 0) (fun h _ s =>
  checked s [(s.ddrc.sweep.isSome || s.ddrc.deferred.isSome, Resp.errS stState)]
    ((s.newJob h 0x0031 1).startSweep 2 [s.mbx.nextJob], Resp.accepted))

/-- The units of persistent regions: dump, Lens tails, spill ring (R365). -/
def State.persistentUnits (s : State) : Nat :=
  (s.ddrc.alloc.filter (fun e => e.2 / 65536 == 1 || e.2 / 65536 == 2 || e.2 / 65536 == 5)).length

/-- The units a keep mask leaves for persistent regions: kept segments, segment 0 always, without retired units. -/
def State.keepRoom (s : State) (mask : Nat) : Nat :=
  ((List.range 7).filter (fun k => k == 0 || bitOf mask k)).length * s.segUnits
    - (s.ddrc.retired.filter (fun r => r.1 / s.segUnits == 0 || bitOf mask (r.1 / s.segUnits))).length

/-- DDR_KEEP_SET (R365). -/
def cmdDdrKeepSet : CmdDef := mkCmd 0x0032 modesCfg (lenIs 4) (fun _ p s =>
  checked s [(decide (127 < u8At p 0), Resp.errF stRange 0),
      (decide (s.keepRoom (u8At p 0) < s.persistentUnits), Resp.resource 0xFFFF 0 0xFFFF)]
    (s.setFld Reg.DDRC_KEEP 6 0 (u8At p 0), Resp.ok))

/-- DDR_GUARD_SET: in force from the next window (R368). -/
def cmdDdrGuardSet : CmdDef := mkCmd 0x0033 modesCfg (lenIs 4) (fun _ p s =>
  checked s [(decide (u16At p 0 < 1024), Resp.errF stRange 0)] (s.wr Reg.DDRC_ROWGUARD (u16At p 0), Resp.ok))

/-- The 44 bytes of DDR_STATUS_GET (R407). -/
def State.ddrStatus (s : State) : Bytes :=
  le8 s.ddrc.rate
    ++ le8 (b2n s.ddrc.derated + 2 * b2n s.ddrc.deferred.isSome + 4 * b2n s.ddrc.sweep.isSome + 8 * b2n s.sys.dram8)
    ++ le8 (s.fld Reg.DDRC_KEEP 7 0) ++ le8 s.ddrc.window ++ le16 (s.fld Reg.DDRC_ROWGUARD 15 0) ++ le8 s.ddrc.retired.length
    ++ le8 0 ++ (List.range 4).flatMap (fun c => le8 (tget 0 s.ddrc.mr4 c))
    ++ (List.range 8).flatMap (fun n => le32 (s.rd (Reg.DDRC_CNT n)))

/-- DDR_STATUS_GET; the sticky bits it may clear are those of DDRC_INT_STATUS. -/
def cmdDdrStatusGet : CmdDef := mkCmd 0x0034 modesAny (lenIs 4) (fun _ p s =>
  (if bitOf (u8At p 0) 0 then s.wr Reg.DDRC_INT_STATUS 0 else s, Resp.ok s.ddrStatus))

/-- DDR_SPEED_SET (R363). -/
def execDdrSpeedSet (h : Hdr) (p : Bytes) (s : State) : Host.Outcome State Fault Refusal := cmdDdrSpeedSet.exec h p s
/-- DDR_CAL (R361). -/
def execDdrCal (h : Hdr) (p : Bytes) (s : State) : Host.Outcome State Fault Refusal := cmdDdrCal.exec h p s
/-- DDR_KEEP_SET (R365). -/
def execDdrKeepSet (h : Hdr) (p : Bytes) (s : State) : Host.Outcome State Fault Refusal := cmdDdrKeepSet.exec h p s
/-- DDR_GUARD_SET (R368). -/
def execDdrGuardSet (h : Hdr) (p : Bytes) (s : State) : Host.Outcome State Fault Refusal := cmdDdrGuardSet.exec h p s
/-- DDR_STATUS_GET (R407). -/
def execDdrStatusGet (h : Hdr) (p : Bytes) (s : State) : Host.Outcome State Fault Refusal := cmdDdrStatusGet.exec h p s

end Sys2Proof.Machine
end

