-- ==== Sys2Proof/Machine/HostRows.lean ====
section
/-! DEFINITION. The host interfaces (R381 to R386, R490, R491, R521 to R523): the host region and BAR2, the debug window, SPI, the PCIe
link and its losses, JTAG; and CLAIM_LIST (R396). -/

namespace Sys2Proof.Machine

/-! ### The host region (R383) and the claim table (R396) -/

/-- Where the payload of a bulk command holds its buffer descriptor (R388). -/
def bufOffset (op : Nat) : Nat :=
  match op with
  | 0x0010 => 8 | 0x1101 => 8 | 0x1503 => 8 | 0x1001 => 0 | 0x9021 => 0 | _ => 4

/-- The host buffer a bulk command in progress names. -/
def Job.buf (j : Job) : Buf := bufAt j.payload (bufOffset j.op)

/-- The host region freed and placed anew with n units; nothing when it does not fit. Its contents are cleared to what unwritten memory
reads as. -/
def State.placeHost (s : State) (n : Nat) : Option State :=
  (s.freeHostRegion.place 7 0 n).map (fun e =>
    let t := (e.2.withMem (mclear e.2.mem (unitAddr e.1) (n * 0x200000))).onHost (fun x => { x with regionUnit := e.1, regionUnits := n })
    (t.wr Reg.HOSTIF_BAR2_BASE (if n = 0 then 0 else e.1)).wr Reg.HOSTIF_BAR2_SIZE n)

/-- HOST_REGION_SET (R383). -/
def cmdHostRegionSet : CmdDef := mkCmd 0x0020 modesAny (lenIs 4) (fun _ p s =>
  let n := u16At p 0
  checked s [ (decide (128 < n), Resp.errF stRange 0), (s.mbx.bulk.any (fun j => j.buf.space == 2), Resp.errS stState) ]
    (if n = s.host.regionUnits then (s, Resp.ok (le16 n ++ zeros 2))
     else match s.placeHost n with
       | some t => (t, Resp.ok (le16 n ++ zeros 2))
       | none => (s, Resp.resource 0xFFFF 0 0xFFFF)))

/-- HOST_REGION_SET (R383). -/
def execHostRegionSet (h : Hdr) (p : Bytes) (s : State) : Host.Outcome State Fault Refusal := cmdHostRegionSet.exec h p s

/-- Every resource ID of R396, ascending. -/
def resourceIds : List Nat :=
  List.range 64 ++ (List.range 8).map (· + 0x100) ++ (List.range 16).map (· + 0x200) ++ [0x300, 0x301, 0x302]

/-- The claims that CLAIM_LIST returns from a resource ID on: at most 40 resources that have an owner (DEDUCED, log entry 46). -/
def State.claimsFrom (s : State) (first : Nat) : List Nat :=
  (resourceIds.filter (fun r => decide (first ≤ r) && s.owner r != 0)).take 40

/-- CLAIM_LIST (R396; its response in chapter 15). -/
def cmdClaimList : CmdDef := mkCmd 0x0021 modesAny (lenIs 4) (fun _ p s =>
  let ids := s.claimsFrom (u16At p 0)
  (s, Resp.ok (le8 ids.length ++ zeros 3 ++ ids.flatMap (fun r => le16 r ++ le8 (s.owner r) ++ le8 0))))

/-- CLAIM_LIST (R396). -/
def execClaimList (h : Hdr) (p : Bytes) (s : State) : Host.Outcome State Fault Refusal := cmdClaimList.exec h p s

/-! ### BAR2 (R383, R522) -/

/-- What an access that ends in a completer abort leaves. -/
def State.completerAbort (s : State) : State :=
  (((s.withRdata []).withRstat 1).raise Reg.HOSTIF_INT_STATUS 2).bump (Reg.HOSTIF_CNT 2)

/-- Plain memory read or written at an address. -/
def State.memAccess (s : State) (a : Nat) : Access → State
  | .read n => (s.withRdata (mread s.mem a n)).withRstat 0
  | .write d => ((s.withMem (mwrite s.mem a d)).withRdata []).withRstat 0

/-- A BAR2 access in the host region. -/
def State.bar2Region (s : State) (off : Nat) (acc : Access) : State :=
  if s.host.regionUnits * 0x200000 < off + accLen acc ∨ s.host.regionUnits = 0 then s.completerAbort
  else
    let a := unitAddr s.host.regionUnit + off
    if !bitOf s.sys.pwr 7 then s.busError 9 10 a 5 (accLen acc) (accWrites acc)
    else ((s.withRdata []).withRstat 0).dramServe s.ddrc.waiting ⟨6, a, acc, 0, 0, false, .clean⟩

/-- BAR2_ACCESS (R522): control TCM during a host boot, otherwise the host region; none while master 9 is masked. -/
def execBar2Access (off : Nat) (acc : Access) (s : State) : Host.Outcome State Fault Refusal :=
  if s.sys.phase ≠ .running ∨ s.masked 9 then .next s
  else if s.sys.hostBootWait then
    .next (if 1572864 < off + accLen acc then s.completerAbort else s.memAccess (tcmBase + off) acc)
  else .next (s.bar2Region off acc)

/-! ### The debug window (R382, R523) -/

/-- The address of a debug-window offset. -/
def State.windowAddr (s : State) (w : Nat) : Nat := s.fld Reg.HOSTIF_DBG_WIN 20 0 * 0x80000 + w

/-- One aligned 32-bit access of master 15; a refused one is logged and ends in a completer abort. The bytes read are put after those
in rdata. -/
def State.window32 (s : State) (a : Nat) (acc : Access) : State :=
  match s.refusal 15 a (accWrites acc) with
  | some (kind, t) =>
    let s1 := s.logErr 15 t a kind (accWrites acc)
    let s2 := match errCounter kind with
      | some n => s1.bump (Reg.XBAR_CNT n)
      | none => s1
    (s2.perfAdd 58).completerAbort
  | none =>
    let t := (s.targetOf 15 a).getD 0
    let s1 := s.carryOut 15 t a acc .clean
    s1.withRdata (s.rdata ++ s1.rdata)

/-- The two halves of an aligned 64-bit access, low word first. -/
def State.window64 (s : State) (a : Nat) (acc : Access) : State :=
  match acc with
  | .read _ => (s.window32 a (.read 4)).window32 (a + 4) (.read 4)
  | .write d => (s.window32 a (.write (d.take 4))).window32 (a + 4) (.write (d.drop 4))

/-- A narrower read gives the bytes of its word. -/
def State.windowNarrow (s : State) (a n : Nat) : State :=
  let s1 := s.window32 (a / 4 * 4) (.read 4)
  s1.withRdata (slice s1.rdata (a % 4) n)

/-- DEBUG_WINDOW_ACCESS (R382, R521, R523): master 15 at the window's address; with debug locked reads return 0 and writes are ignored. -/
def execDebugWindowAccess (w : Nat) (acc : Access) (s : State) : Host.Outcome State Fault Refusal :=
  let n := accLen acc
  let a := s.windowAddr w
  let s0 := (s.withRdata []).withRstat 0
  if s.sys.phase ≠ .running ∨ s.sys.straps.hostIf ∨ !s.host.linkUp ∨ 0x80000 ≤ w then .next s
  else if !s.sec.unlocked then .next (s0.withRdata (if accWrites acc then [] else zeros n))
  else if n = 4 ∧ w % 4 = 0 then .next (s0.window32 a acc)
  else if n = 8 ∧ w % 8 = 0 then .next (s0.window64 a acc)
  else if n < 4 ∧ w % 4 + n ≤ 4 ∧ !accWrites acc then .next (s0.windowNarrow a n)
  else .next s0

/-- HOSTIF_DBG_WIN_WRITE (R523). -/
def execHostifDbgWinWrite (v : Word) (s : State) : Host.Outcome State Fault Refusal :=
  if s.sys.phase ≠ .running then .next s else .next (s.regWrite 0 Reg.HOSTIF_DBG_WIN v.toNat)

/-! ### SPI (R386) -/

/-- The byte of MBX at an offset, as SPI reads it. -/
def State.spiByte (s : State) (o : Nat) : Byte :=
  if 0x10000 ≤ o ∨ mbxHole o then 0
  else if 0x2000 ≤ o ∧ o < 0x4000 then (le32 (s.regWord (0x20030000 + o / 4 * 4))).getD (o % 4) 0
  else mget s.mem (0x20030000 + o)

/-- The whole aligned register words among the bytes written. -/
def State.spiRegs (s : State) (off : Nat) (d : Bytes) : State :=
  let skip := (4 - off % 4) % 4
  let words := (List.range ((d.length - skip) / 4)).filter (fun i => decide (0x2000 ≤ off + skip + 4 * i ∧ off + skip + 4 * i < 0x4000))
  s.each words (fun t i => t.regWrite 0 (0x20030000 + off + skip + 4 * i) (u32At d (skip + 4 * i)))

/-- The bytes written to the event ring and the bulk window. -/
def State.spiMem (s : State) (off : Nat) (d : Bytes) : State :=
  let lo := max off 0x4000
  let hi := min (off + d.length) 0x10000
  if hi ≤ lo then s else s.withMem (mwrite s.mem (0x20030000 + lo) (slice d (lo - off) (hi - lo)))

/-- Bytes written to MBX: command slots, registers, the ring and the bulk window; response slots are firmware's (R389). -/
def State.spiWrite (s : State) (off : Nat) (d : Bytes) : State := ((s.slotWrite off d).spiRegs off d).spiMem off d

/-- SPI_TRANSACTION (R386). -/
def execSpiTransaction (ins : Byte) (off : Nat) (data : Bytes) (n : Nat) (s : State) : Host.Outcome State Fault Refusal :=
  let o := off % 2 ^ 24
  if s.sys.phase ≠ .running ∨ !s.sys.straps.hostIf then .next s
  else if ins = 0x0B ∨ ins = 0xEB then
    .next ((s.withRdata ((List.range n).map (fun i => s.spiByte (o + i)))).withRstat 0)
  else if ins = 0x02 ∨ ins = 0x32 then .next (((s.withRdata []).withRstat 0).spiWrite o data)
  else .next s

/-! ### The link (R385, R490) -/

/-- A host-memory transfer stopped: its command completes with ERR_STATE. -/
def State.stopTransfer (s : State) (j : Job) : State :=
  ((s.onMbx (fun x => { x with bulk := x.bulk.filter (fun k => k != j) })).bump (Reg.HOSTIF_CNT 3)).respond j.hdr j.op j.payload
    (Resp.errS stState)

/-- Slots that are neither EXECUTING nor HELD return to IDLE. -/
def State.idleSlots (s : State) : State :=
  let stays := fun (n : Nat) => (s.slot n).st == .executing || (s.slot n).st == .held
  let s1 := s.each ((List.range 8).filter (fun n => !stays n)) (fun t n =>
    (t.setSlot n { t.slot n with st := .idle, locked := false }).setFld Reg.MBX_DONE n n 0)
  s1.onMbx (fun x => { x with queue := x.queue.filter stays })

/-- The effects of R385, which FLR, a loss of link and PERST_N share. -/
def State.linkEffects (s : State) : State :=
  let s1 := (s.onXbar (fun x => { x with resetMask := x.resetMask ||| 0x200 })).maskEvents s
  let s2 := s1.onHost (fun x => { x with msix := [] })
  let s3 := ((s2.wr Reg.MBX_EVR_BASE_LO 0).wr Reg.MBX_EVR_BASE_HI 0).wr Reg.MBX_EVR_CFG 6
  let s4 := (s3.wr Reg.HOSTIF_DBG_WIN 0).idleSlots
  s4.each (s4.mbx.bulk.filter (fun j => j.buf.space == 0)) (fun t j => t.stopTransfer j)

/-- FUNCTION_LEVEL_RESET (R385). -/
def execFunctionLevelReset (s : State) : Host.Outcome State Fault Refusal :=
  if s.sys.phase ≠ .running ∨ s.sys.straps.hostIf ∨ !s.host.linkUp then .next s
  else .next ((s.linkEffects.bump (Reg.HOSTIF_CNT 0)).raise Reg.HOSTIF_INT_STATUS 0)

/-- The link down. -/
def State.linkLost (s : State) : State :=
  let s1 := s.onHost (fun x => { x with linkUp := false, speed := 0, width := 0 })
  (s1.linkEffects.bump (Reg.HOSTIF_CNT 1)).raise Reg.HOSTIF_INT_STATUS 1

/-- The PCIe PLL loses lock (R265). -/
def State.pciePllLost (s : State) : State := (s.onTime (fun x => { x with pcieLock := false })).raise Reg.CLK_INT_STATUS 3

/-- LINK_DOWN (R385): a loss of link, or of the PCIe PLL; which of them it is, the row leaves open (notes/assumptions/45). -/
def execLinkDown (s : State) : Host.Outcome State Fault Refusal :=
  if s.sys.phase ≠ .running ∨ !s.host.linkUp then .next s
  else .next (if Config.freeBool s.freeCnt then s.fresh.linkLost.pciePllLost else s.fresh.linkLost)

/-- PCIE_PERST_N (R490): low, the link is down; unused with HOST_IF at SPI. -/
def execPciePerstN (level : Bool) (s : State) : Host.Outcome State Fault Refusal :=
  if s.sys.straps.hostIf then .next s
  else
    let s1 := s.onHost (fun x => { x with perstN := level })
    if !level && s.host.linkUp then .next s1.linkLost else .next s1

/-- PCIE_LINK_UP (R385): the link has trained at a speed (1 to 3) and width (1, 2 or 4), and master 9 is unmasked. -/
def execPcieLinkUp (speed width : Nat) (s : State) : Host.Outcome State Fault Refusal :=
  if s.sys.phase ≠ .running ∨ s.sys.straps.hostIf ∨ !s.host.perstN then .next s
  else if speed < 1 ∨ 3 < speed ∨ (width ≠ 1 ∧ width ≠ 2 ∧ width ≠ 4) then .next s
  else
    let s1 := s.onHost (fun x => { x with linkUp := true, speed := speed, width := width })
    .next ((s1.onTime (fun x => { x with pcieLock := true })).onXbar (fun x => { x with resetMask := x.resetMask &&& 0xFDFF }))

/-! ### JTAG (R491) -/

/-- JTAG_IDCODE (R491). -/
def execJtagIdcode (s : State) : Host.Outcome State Fault Refusal :=
  .next (s.onHost (fun x => { x with jtagIr := 1, jtagOut := 0xB96104C3 }))

/-- JTAG_BYPASS (R491): the one-bit register captures 0 (PRESUMED, IEEE 1149.1). -/
def execJtagBypass (s : State) : Host.Outcome State Fault Refusal :=
  .next (s.onHost (fun x => { x with jtagIr := 2, jtagOut := 0 }))

end Sys2Proof.Machine
end

