-- ==== Sys2Proof/Machine/Commands.lean ====
section
/-! DEFINITION. The commands firmware knows, the handling of posted slots (R389 to R391, R405), and the rows of the mailbox unit itself:
doorbells, slot and register writes, the background end of a bulk command, and the end of start-up (R452). -/

namespace Sys2Proof.Machine

/-! ### The table of commands (chapter 15) -/

/-- System and host (group 0x0). -/
def cmdsGroup0 : List CmdDef :=
  [cmdBootGo, cmdSysInfo, cmdModeSet, cmdRateSet, cmdSysReset, cmdFwStage, cmdFwCommit, cmdFwStatus, cmdDebugChallenge,
   cmdDebugUnlock, cmdHostRegionSet, cmdClaimList, cmdDdrSpeedSet, cmdDdrCal, cmdDdrKeepSet, cmdDdrGuardSet, cmdDdrStatusGet]

/-- Scene and placement (group 0x1). -/
def cmdsGroup1 : List CmdDef :=
  [cmdLayoutLoad, cmdLayoutCommit, cmdAirSet, cmdObjectUpdate, cmdObjectDirectSet, cmdObjectStatus, cmdInputMapSet,
   cmdOutputMapSet, cmdSceneRxSet, cmdPrismHalfSet, cmdAlignDelaySet, cmdPrismAirSet, cmdPrismXfadeSet, cmdPrismStatusGet,
   cmdMetaCfgSet, cmdTrajModelSet, cmdObjectRelease, cmdPlacementReport]

/-- Lens (group 0x2). -/
def cmdsGroup2 : List CmdDef :=
  [cmdLensBankLoad, cmdLensSwap, cmdLensTailSet, cmdLensTrimSet, cmdLensLimitSet, cmdLensDetSet, cmdLensDetMap, cmdLensMeterGet,
   cmdLensStatusGet]

/-- Ports (group 0x3). -/
def cmdsGroup3 : List CmdDef :=
  [cmdPortGroupSet, cmdPortSet, cmdPortEnable, cmdPortMaskSet, cmdPortStatusGet]

/-- Network and streams (group 0x4). -/
def cmdsGroup4 : List CmdDef :=
  [cmdNetModeSet, cmdNetAddrSet, cmdNetFilterSet, cmdNetStatusGet, cmdNetHostRx, cmdNetHostTx, cmdMdioAccess, cmdStreamSet,
   cmdStreamEnable, cmdStreamStatusGet]

/-- Time (group 0x5). -/
def cmdsGroup5 : List CmdDef :=
  [cmdTimePtpSet, cmdTimeServoSet, cmdTimeStep, cmdTimeSourceSet, cmdTimeStatusGet, cmdTsAdjSet, cmdSyncOutSet, cmdCapSet,
   cmdCapRead]

/-- Measurement (group 0x6). -/
def cmdsGroup6 : List CmdDef :=
  [cmdMicCfg, cmdCompLoad, cmdCompSwap, cmdMicDetMap, cmdMicMeterGet, cmdGenSet, cmdGenDrive, cmdGenStart, cmdGenStop,
   cmdGenRelease, cmdCaptureSet, cmdCaptureStart, cmdCaptureStop, cmdCaptureRead, cmdCaptureRelease]

/-- Facet and scheduler (group 0x7). -/
def cmdsGroup7 : List CmdDef :=
  [cmdFacetTaskLoad, cmdFacetTaskSet, cmdFacetChanSet, cmdFacetTaskEnable, cmdFacetStageSet, cmdFacetStatusGet,
   cmdFacetTaskUnload, cmdSchedCfgSet, cmdTaskSubmit, cmdTimerSet, cmdSchedStatusGet, cmdTestgenSet]

/-- Mirror and hierarchy (group 0x8). -/
def cmdsGroup8 : List CmdDef :=
  [cmdMirrorCfg, cmdHandover, cmdMirrorReady, cmdMirrorStatusGet, cmdHierCfg, cmdHierStatusGet]

/-- Diagnostics (group 0x9). -/
def cmdsGroup9 : List CmdDef :=
  [cmdCounterRead, cmdPerfCfg, cmdPerfRead, cmdTraceCfg, cmdTraceRead, cmdDumpInfo, cmdDumpRead, cmdDumpClear, cmdEventMaskSet]

/-- Every command of chapter 15. -/
def commandTable : List CmdDef :=
  cmdsGroup0 ++ cmdsGroup1 ++ cmdsGroup2 ++ cmdsGroup3 ++ cmdsGroup4 ++ cmdsGroup5 ++ cmdsGroup6 ++ cmdsGroup7 ++ cmdsGroup8 ++ cmdsGroup9

/-- The command of an opcode. -/
def commandOf (op : Nat) : Option CmdDef := commandTable.find? (fun c => c.op == op)

/-! ### Handling a posted slot (R390, R391) -/

/-- What a LAYOUT_LOAD finds when it is handled: whether a LAYOUT_COMMIT waits (R49). -/
def State.noteLoad (s : State) (op : Nat) : State :=
  if op = 0x1001 then s.onScene (fun x => { x with loadAt := some x.commitWait }) else s

/-- A command past checks 1 to 6: a bulk command moves to the background, every other runs. -/
def CmdDef.launch (c : CmdDef) (h : Hdr) (p : Bytes) (s : State) : State :=
  match c.early h p s with
  | some t => t
  | none =>
    if c.bulk p then
      (((s.setSlot h.slot ⟨.executing, true, (s.slot h.slot).last⟩).onMbx (fun x => { x with bulk := x.bulk ++ [⟨h, c.op, p⟩] })).perfAdd 91).noteLoad c.op
    else c.finish h p s

/-- A duplicate (check 3): the response recorded for the slot is written again. -/
def State.repeatAnswer (s : State) (h : Hdr) (op : Nat) (r : SlotRec) : State :=
  (s.bump (Reg.MBX_CNT 3)).putResponse h op (u16At r.resp 6) r.resp (fun sl => sl.last)

/-- Checks 3 and 4 of R390, then the command. -/
def State.judgeSlot (s : State) (h : Hdr) (op crc : Nat) (p : Bytes) : State :=
  match (s.slot h.slot).last.filter (fun r => r.seq == h.seq && r.crc == crc) with
  | some r => s.repeatAnswer h op r
  | none =>
    match commandOf op with
    | none => s.respond h op p ⟨stOpcode, []⟩
    | some c => c.launch h p s

/-- The CRC word of a slot's bytes agrees with its contents (R387). -/
def crcOk (b : Bytes) : Bool := u32At b 12 == crc32 (slice b 0 12 ++ zeros 4 ++ slice b 16 (u16At b 4))

/-- Whether the first slot in the queue waits: a bulk command of its opcode group is in progress, a STREAM_ENABLE waits for ARP (R240), or a
MODE_SET that enters PARK waits for every bulk command (R391, R405). -/
def State.mustWait (s : State) (op : Nat) (p : Bytes) : Bool :=
  s.mbx.bulk.any (fun j => j.op / 4096 == op / 4096) || (s.net.arpWait.isSome && op / 4096 == 4)
    || (op == 0x0003 && u8At p 0 == 2 && (s.sys.mode == .measure || s.sys.mode == .render) && !s.mbx.bulk.isEmpty)

/-- Firmware has taken the first slot of the queue: the slot's next doorbell is another one. -/
def State.popQueue (s : State) (n : Nat) : State :=
  (s.onMbx (fun x => { x with queue := x.queue.tail, rung := tset 0 x.rung n 0 })).setSlot n ⟨.executing, true, (s.slot n).last⟩

/-- A held command is executed: it has passed the checks before that of its mode (R392). -/
def State.runHeldJob (s : State) (n : Nat) (j : Job) : State :=
  if s.mustWait j.op j.payload then s
  else
    let s1 := (s.popQueue n).onMbx (fun x => { x with held := x.held.filter (fun k => k != j) })
    match commandOf j.op with
    | none => s1
    | some c => c.launch j.hdr j.payload s1

/-- A posted slot is handled (R390); `glitch` says that its first read did not match the CRC. -/
def State.handleSlot (s : State) (n : Nat) (glitch : Bool) : State :=
  let b := s.slotRaw8 n
  let h := hdrOf n b
  let op := u16At b 0
  let len := u16At b 4
  let p := slice b 16 len
  let ok := decide (len ≤ 240) && crcOk b
  if ok && s.mustWait op p then s
  else
    let s1 := (s.popQueue n).taken h op
    if 240 < len then s1.respondUnrecorded h op ⟨stLen, []⟩
    else if !ok then (s1.bump (Reg.MBX_CNT 1)).respondUnrecorded h op ⟨stCrc, []⟩
    else (if glitch then s1.bump (Reg.MBX_CNT 2) else s1).judgeSlot h op (u32At b 12) p

/-- The held command of a slot. -/
def State.heldJob (s : State) (n : Nat) : Option Job := s.mbx.held.find? (fun j => j.hdr.slot == n)

/-- Firmware takes the first slot of the queue, if it need not wait. -/
def State.handleHead (s : State) (glitch : Bool) : State :=
  match s.mbx.queue with
  | [] => s
  | n :: _ =>
    match s.heldJob n with
    | some j => s.runHeldJob n j
    | none => s.handleSlot n glitch

/-- COMMAND_HANDLE (R390): firmware takes the next posted slot. -/
def execCommandHandle (glitch : Bool) (s : State) : Host.Outcome State Fault Refusal :=
  .next (if s.sys.phase = .running ∧ s.sys.fwRunning then s.handleHead glitch else s)

/-- BULK_COPY_DONE (R391): a bulk command's transfer is complete; its own checks and effect follow, then its response. -/
def execBulkCopyDone (slot : Nat) (s : State) : Host.Outcome State Fault Refusal :=
  match s.mbx.bulk.find? (fun j => j.hdr.slot == slot) with
  | none => .next s
  | some j =>
    let s1 := s.onMbx (fun x => { x with bulk := x.bulk.filter (fun k => k != j) })
    match commandOf j.op with
    | none => .next s1
    | some c => .next (c.finish j.hdr j.payload s1)

/-! ### The mailbox unit (R389, R394) -/

/-- The state after a host access to the mailbox unit, which a reset holds. -/
def State.mbxAccess (s t : State) : State := if s.sys.phase = .running then t else s

/-- DOORBELL (R389). -/
def execDoorbell (bits : Byte) (s : State) : Host.Outcome State Fault Refusal := .next (s.doorbell bits.toNat)

/-- MBX_DONE_CLEAR (R389). -/
def execMbxDoneClear (bits : Byte) (s : State) : Host.Outcome State Fault Refusal := .next (s.mbxAccess (s.doneClear bits.toNat))

/-- COMMAND_SLOT_WRITE (R389). -/
def execCommandSlotWrite (off : Nat) (data : Bytes) (s : State) : Host.Outcome State Fault Refusal :=
  .next (s.mbxAccess (s.slotWrite off data))

/-- MBX_EVR_CFG_WRITE (R394). -/
def execMbxEvrCfgWrite (v : Word) (s : State) : Host.Outcome State Fault Refusal := .next (s.mbxAccess (s.evrCfg v.toNat))

/-- MBX_EVR_CONS_WRITE (R394). -/
def execMbxEvrConsWrite (v : Word) (s : State) : Host.Outcome State Fault Refusal := .next (s.mbxAccess (s.evrCons v.toNat))

/-! ### The end of start-up (R375, R392, R452) -/

/-- A trial image has reached PARK (R375, R377): its mark goes, and the version floor it asks for is raised. -/
def State.trialPassed (s : State) : State :=
  if !s.sys.trialRunning then s
  else
    let s1 := (s.writeBootRec s.sys.bootSlot false).onSys (fun x => { x with trialRunning := false })
    if s.sec.raiseFloor then s1.onSec (fun x => { x with floor := max x.floor s.sys.imgSecVersion, raiseFloor := false }) else s1

/-- The held slots in slot order, ahead of every doorbell (R389). -/
def State.queueHeld (s : State) : State :=
  s.onMbx (fun x => { x with queue := sortBy (fun a b => decide (a ≤ b)) (x.held.map (fun j => j.hdr.slot)) ++ x.queue })

/-- Held commands at the head of the queue are executed, as far as none has to wait. -/
def State.runHeld (s : State) : Nat → State
  | 0 => s
  | k + 1 =>
    match s.mbx.queue with
    | [] => s
    | n :: _ =>
      match s.heldJob n with
      | none => s
      | some j => if s.mustWait j.op j.payload then s else (s.runHeldJob n j).runHeld k

/-- STARTUP_PARK (R452): BOOT changes to PARK once firmware runs, the sweep has passed, NET is up and the dump region is placed; the DRAM
enters self-refresh (R366), and held commands are executed. -/
def execStartupPark (s : State) : Host.Outcome State Fault Refusal :=
  let y := s.sys
  if !(y.phase == .running && y.mode == .boot && y.fwRunning && y.sweepPassed && y.netUp && y.dumpPlaced) || y.fatal.isSome then .next s
  else
    let s1 := ((s.trialPassed.ddrSleep).setPwr 0x107).setMode .park 3
    .next (s1.queueHeld.runHeld s.mbx.held.length)

end Sys2Proof.Machine
end

