-- ==== Sys2Proof/Machine/Resets.lean ====
section
/-! DEFINITION. The resets (R456 to R458, R487, R489), the watchdog (R370, R461), the way to SAFE (R460), automatic resets (R462) and the
thermal monitors (R459). -/

namespace Sys2Proof.Machine

/-- Time passes until a count of event ticks, if it has not passed it. -/
def State.passTo (s : State) (e : Nat) : State := s.tickTo (s.time.tick + (e - s.time.eventTick))

/-! ### Power-on reset (R456, R487, R489) -/

/-- What no reset touches: the commands that wait, the host's memory, the flash, OTP, the device fitted, the levels of input pins. -/
def State.outside (s : State) : State :=
  let k := State.reset
  let sec : Sec := { Sec.reset with
    keyHash := s.sec.keyHash, keyRevoked := s.sec.keyRevoked, floor := s.sec.floor, debugState := s.sec.debugState
    uniqueId := s.sec.uniqueId, flashFitted := s.sec.flashFitted, raiseFloor := s.sec.raiseFloor }
  let sys : Sys := { Sys.reset with orderIL := s.sys.orderIL, dram8 := s.sys.dram8 }
  let host : HostIf := { HostIf.reset with perstN := s.host.perstN }
  let mir : Mirror := { Mirror.reset with actIn := s.mir.actIn, hbIn := s.mir.hbIn }
  let t : State := { k with pending := s.pending, sys := sys, sec := sec, host := host, mir := mir, hostMem := s.hostMem, flash := s.flash }
  { t with freeCnt := s.freeCnt, rdata := s.rdata, rstat := s.rstat, time := { TimeSt.reset with capLevel := s.time.capLevel } }

/-- PORST_N (R456): every domain in reset. -/
def execPorstN (s : State) : Host.Outcome State Fault Refusal := .next s.outside

/-- The straps in force as boot starts: MAC_CTRL takes CHAIN_EN, debug is unlocked in state OPEN (R379), and the recorded state of half B is
on where there is a half B (R100). -/
def State.strapsTaken (s : State) : State :=
  let v := if s.sys.straps.chainEn then 0x99 else 0x82
  let s1 := s.each [0, 1] (fun t m => t.setFld (Reg.MAC_CTRL m) 7 0 v)
  let s2 := s1.onSec (fun x => { x with unlocked := x.debugState == 0 })
  (s2.onPrism (fun x => { x with halfRecorded := !s.sys.orderIL })).onXbar (fun x => { x with resetMask := 0xFFFE })

/-- PORST_N_RELEASE (R487, R489, R453): the straps and the bank supplies are sampled, the system counter starts at 0 and the boot ROM starts;
with TEST_MODE at 1 nothing does. Bit k of `banks`: bank A + k is at 3.3 V. -/
def execPorstNRelease (straps : Straps) (banks : Nat) (s : State) : Host.Outcome State Fault Refusal :=
  if s.sys.phase ≠ .porst then .next s
  else
    let s1 := s.onSys (fun x => { x with straps := straps, phase := if straps.testMode then .testMode else .running })
    let s2 := s1.onPorts (fun x => { x with
      bankA33 := bitOf banks 0, bankB33 := bitOf banks 1, bankC33 := bitOf banks 2, bankD33 := bitOf banks 3 })
    let s3 := s2.onTime (fun x => { x with refclkOk := true })
    if straps.testMode then .next s3 else .next (s3.strapsTaken.bootStart)

/-! ### Warm reset (R456, R457) -/

/-- Registers AON keeps: SYS and MIRROR. -/
def aonReg (a : Nat) : Bool := decide (0x20000000 ≤ a ∧ a < 0x20010000) || decide (0x20100000 ≤ a ∧ a < 0x20110000)

/-- The redundancy controller after a reset of the other domains: gate and ACT are low already. -/
def State.warmMir (s : State) : Mirror :=
  { s.mir with
    st := if s.mirrorOn then .idle else .off, raiseFor := none, lowerFor := none, hbOut := false, hbPresent := false, hbRun := 0
    hbMiss := 0, withheld := 0, synced := false, ready := false, handover := none, cause := 0, parking := false }

/-- Whether the DRAM cannot enter self-refresh: its PLL is lost (R457). -/
def State.dramLost (s : State) : Bool := bitOf s.sys.pwr 7 && !s.ddrc.selfRefresh && s.sys.imageEntered && !s.time.ddrLock

/-- DRAM bytes of which nothing is known: each is an open value. -/
def openDram (k : Nat) (m : List Host.Cell) : List Host.Cell :=
  (m.map (fun c => (c.1, Config.freeByte (k + c.1)))).filter (fun c => c.2 != 0)

/-- The DRAM part of memory, as a warm reset leaves it. -/
def State.warmMem (s : State) : List Host.Cell :=
  let d := s.mem.filter (fun c => decide (0x100000000 ≤ c.1))
  if s.dramLost then openDram s.freeCnt d else d

/-- Every domain except AON reset (R456). -/
def State.warmState (s : State) : State :=
  let t := s.outside
  let sys : Sys := { t.sys with
    straps := s.sys.straps, phase := s.sys.phase, trialFailed := s.sys.trialFailed || s.sys.trialRunning, autoTicks := s.sys.autoTicks
    thermWarn := s.sys.thermWarn, resetAt := some s.time.eventTick }
  let time : TimeSt := { t.time with
    tick := s.time.tick, eventTick := s.time.eventTick, refclkOk := s.time.refclkOk, tickSrc := s.fallbackSrc
    lastQ := s.time.tick / 4096 }
  let ports : Ports := { Ports.reset with
    bankA33 := s.ports.bankA33, bankB33 := s.ports.bankB33, bankC33 := s.ports.bankC33, bankD33 := s.ports.bankD33 }
  let trace : Trace := { Trace.reset with dumpValid := s.trace.dumpValid && !s.dramLost, dumpSeq := s.trace.dumpSeq }
  let t1 : State := { t with sys := sys, time := time, ports := ports, trace := trace, mir := s.warmMir, mem := s.warmMem }
  let t2 := t1.onDdrc (fun x => { x with retired := s.ddrc.retired, selfRefresh := !s.dramLost })
  { t2.onXbar (fun x => { x with resetMask := 0xFFFF }) with regs := s.regs.filter (fun e => aonReg e.1), freeCnt := s.freeCnt + 1 }

/-- What every reset but PORST_N begins with: the forced drop, the tick back to its source of the start, the domains reset. -/
def State.resetDomains (s : State) : State :=
  let s1 := (s.forcedDrop).setTickSrc s.fallbackSrc
  let s2 := if s1.sys.mode = .boot then s1 else s1.raise Reg.SYS_INT_STATUS 1
  s2.warmState

/-- A warm reset with its cause (R456, R457): 1 WARM_RST_N, 2 SYS_RESET, 3 power-fail, 4 automatic. -/
def State.warmReset (s : State) (cause : Nat) : State :=
  let s1 := (s.resetDomains.bump (Reg.SYS_CNT 0)).setFld Reg.SYS_RESET_CAUSE 2 0 cause
  s1.onSys (fun x => { x with phase := .warmHold })

/-- WARM_RST_N (R457): also while a warm reset holds the device; a power-fail holds it already (R458). -/
def execWarmRstN (s : State) : Host.Outcome State Fault Refusal :=
  .next (if s.sys.phase = .running ∨ s.sys.phase = .warmHold then s.warmReset 1 else s)

/-- WARM_RESET_RELEASE (R457): the hold of 246 ticks ends, the straps are sampled but for MIR_ROLE and TEST_MODE, and boot starts. -/
def execWarmResetRelease (straps : Straps) (s : State) : Host.Outcome State Fault Refusal :=
  if s.sys.phase ≠ .warmHold then .next s
  else
    let w : Straps := { straps with mirRole := s.sys.straps.mirRole, testMode := s.sys.straps.testMode }
    let s1 := (s.passTo (s.time.eventTick + 246)).onSys (fun x => { x with phase := .running, straps := w })
    .next s1.strapsTaken.bootStart

/-- SYS_RESET_APPLY (R407, R461): the reset of a SYS_RESET, when it is due. -/
def execSysResetApply (s : State) : Host.Outcome State Fault Refusal :=
  match s.sys.sysResetDue with
  | none => .next s
  | some e => .next (if s.sys.phase = .running then (s.passTo e).warmReset 2 else s)

/-! ### Power-fail (R458) -/

/-- POWER_FAIL (R458): the forced drop; every domain except AON is held in reset. -/
def execPowerFail (s : State) : Host.Outcome State Fault Refusal :=
  if s.sys.phase = .porst ∨ s.sys.phase = .testMode ∨ s.sys.phase = .powerFail then .next s
  else .next ((s.resetDomains.bump (Reg.SYS_CNT 1)).onSys (fun x => { x with phase := .powerFail }))

/-- POWER_FAIL_RESTART (R458): the supplies have been valid for 1 ms: a warm reset with cause POWER_FAIL. -/
def execPowerFailRestart (s : State) : Host.Outcome State Fault Refusal :=
  if s.sys.phase ≠ .powerFail then .next s else .next ((s.passTo (s.time.eventTick + 24576)).warmReset 3)

/-! ### The watchdog (R370, R429, R461) -/

/-- CTRL reset alone: master 0's locks break, MBX, HOSTIF and SEC return to reset, control TCM and the slots lose their contents; the firmware's
copy of the last events is in shared SRAM and stays. -/
def State.ctrlReset (s : State) : State :=
  let s1 := (s.onXbar (fun x => { x with resetMask := x.resetMask ||| 0x201 })).maskEvents s
  let s2 := s1.onXbar (fun x => { x with resetMask := x.resetMask - (x.resetMask &&& 1) })
  let gone := fun (a : Nat) => decide (a / 0x10000 = 0x2003 ∨ a / 0x10000 = 0x2013 ∨ a / 0x10000 = 0x2015)
  let s3 := (s2.withMem (mclear (mclear s2.mem tcmBase 0x180000) 0x20030000 0x10000)).withRegs (s2.regs.filter (fun e => !gone e.1))
  let s4 := (s3.onMbx (fun x => { Mbx.reset with lastEvents := x.lastEvents })).onHost (fun x => { HostIf.reset with perstN := x.perstN })
  (s4.onSec (fun x => { x with staging := none, chunks := [], nonce := none })).onSys (fun x => { x with
    fwRunning := false, wdtRunning := false, romInSafe := true, hostBootWait := false })

/-- The event tick at which the watchdog expires: its timeout, at least 10 ms, after its last restart. -/
def State.wdtDue (s : State) : Nat := s.sys.wdtTick + 24576 * max 10 (s.fld Reg.SYS_WDT 15 0)

/-- WATCHDOG_EXPIRY (R370, R461): a fatal error that lowers ACT at the next switch tick; a trial image has failed (R375). -/
def execWatchdogExpiry (s : State) : Host.Outcome State Fault Refusal :=
  if s.sys.phase ≠ .running ∨ !s.sys.wdtRunning then .next s
  else
    let s1 := (s.passTo s.wdtDue).fatalError 0x0B 0
    .next ((s1.onSys (fun x => { x with trialFailed := x.trialFailed || x.trialRunning })).ctrlReset.noteDev s)

/-! ### SAFE (R460 to R462) -/

/-- The jobs a fatal error ends: all but firmware updates and DRAM sweeps. -/
def State.endFatalJobs (s : State) : State :=
  s.each (s.mbx.jobs.filter (fun e => e.2.op != 0x0010 && e.2.op != 0x0030 && e.2.op != 0x0031)) (fun t e => t.endJob e.1 stState [])

/-- The dump, when there is a region for it; after a lasting DDR PLL loss the previous one is invalid (R461). -/
def State.fatalDump (s : State) (f : Fatal) : State :=
  if f.cause = 4 ∨ s.fld Reg.SYS_FATAL 15 8 = 4 then s.onTrace (fun x => { x with dumpValid := false })
  else if s.sys.dumpPlaced then
    ((s.setPwr (s.sys.pwr ||| 128)).onDdrc (fun x => { x with selfRefresh := false })).writeDump f s.sys.romInSafe
  else s

/-- The rendering and port domains powered down. -/
def State.safeDown (s : State) : State :=
  let s1 := (s.parkStop.engines false false).onMir (fun x => { x with
    st := if s.mirrorOn then .idle else .off, synced := false, ready := false, hbOut := false, handover := none, parking := false })
  (s1.onLens (fun x => { x with queue := [], timed := [], loads := [] })).setPwr 0x187

/-- SAFE_ENTRY (R460): the dump is written, the work of the fatal error's commands ends, and the mode is SAFE. -/
def execSafeEntry (s : State) : Host.Outcome State Fault Refusal :=
  match s.sys.fatal with
  | none => .next s
  | some f =>
    if s.sys.phase ≠ .running ∨ s.sys.mode = .safe then .next s
    else
      let s1 := ((s.fatalDump f).endFatalJobs.safeDown)
      .next ((s1.setMode .safe 2).onSys (fun x => { x with safeTick := s.time.eventTick, enginesStop := false }))

/-- AUTO_RESET (R462): with FAIL_SAFE strapped, a warm reset 100 ms after SAFE is entered, at most 3 times in 600 s. -/
def execAutoReset (s : State) : Host.Outcome State Fault Refusal :=
  let s0 := s.passTo (s.sys.safeTick + 2457600)
  if s.sys.phase ≠ .running ∨ s.sys.mode ≠ .safe ∨ !s.sys.straps.failSafe ∨ 3 ≤ s0.autoCount then .next s
  else
    .next ((s0.onSys (fun x => { x with autoTicks := (s0.time.eventTick :: x.autoTicks).take 3 })).warmReset 4)

/-! ### Thermal monitors (R459) -/

/-- THERM_TRIP_N (R459): the board's trip input is low. -/
def execThermTripN (s : State) : Host.Outcome State Fault Refusal := .next (s.fatalError 0x0C 0)

/-- INTERNAL_THERMAL_TRIP (R459): the junction is above 110 °C. -/
def execInternalThermalTrip (s : State) : Host.Outcome State Fault Refusal := .next (s.fatalError 0x0C 0)

/-- THERM_WARN (R459): the junction temperature in 0.1 °C as SYS_THERM.TEMP takes it; THERM_WARN is set above SYS_THERM.WARN. -/
def execThermWarn (temp : Nat) (s : State) : Host.Outcome State Fault Refusal :=
  let s1 := s.setFld Reg.SYS_THERM 15 0 temp
  let up := decide (toSigned 16 (s.fld Reg.SYS_THERM 31 16) < toSigned 16 temp)
  let s2 := s1.onSys (fun x => { x with thermWarn := up })
  .next (if up && !s.sys.thermWarn then (s2.raise Reg.SYS_INT_STATUS 2).bump (Reg.SYS_CNT 4) else s2)

end Sys2Proof.Machine
end

