-- ==== Sys2Proof/Machine/Dispatch.lean ====
section
/-! DEFINITION. Dispatch: one arm per command, each a direct call of its meaning. -/

namespace Sys2Proof.Machine

def exec (i : Instr) (s : State) : Host.Outcome State Fault Refusal :=
  match i with
  | .bootGo h p => Sys2Proof.Machine.execBootGo h p s
  | .sysInfo h p => Sys2Proof.Machine.execSysInfo h p s
  | .modeSet h p => Sys2Proof.Machine.execModeSet h p s
  | .rateSet h p => Sys2Proof.Machine.execRateSet h p s
  | .sysReset h p => Sys2Proof.Machine.execSysReset h p s
  | .fwStage h p => Sys2Proof.Machine.execFwStage h p s
  | .fwCommit h p => Sys2Proof.Machine.execFwCommit h p s
  | .fwStatus h p => Sys2Proof.Machine.execFwStatus h p s
  | .debugChallenge h p => Sys2Proof.Machine.execDebugChallenge h p s
  | .debugUnlock h p => Sys2Proof.Machine.execDebugUnlock h p s
  | .hostRegionSet h p => Sys2Proof.Machine.execHostRegionSet h p s
  | .claimList h p => Sys2Proof.Machine.execClaimList h p s
  | .ddrSpeedSet h p => Sys2Proof.Machine.execDdrSpeedSet h p s
  | .ddrCal h p => Sys2Proof.Machine.execDdrCal h p s
  | .ddrKeepSet h p => Sys2Proof.Machine.execDdrKeepSet h p s
  | .ddrGuardSet h p => Sys2Proof.Machine.execDdrGuardSet h p s
  | .ddrStatusGet h p => Sys2Proof.Machine.execDdrStatusGet h p s
  | .layoutLoad h p => Sys2Proof.Machine.execLayoutLoad h p s
  | .layoutCommit h p => Sys2Proof.Machine.execLayoutCommit h p s
  | .airSet h p => Sys2Proof.Machine.execAirSet h p s
  | .objectUpdate h p => Sys2Proof.Machine.execObjectUpdate h p s
  | .objectDirectSet h p => Sys2Proof.Machine.execObjectDirectSet h p s
  | .objectStatus h p => Sys2Proof.Machine.execObjectStatus h p s
  | .inputMapSet h p => Sys2Proof.Machine.execInputMapSet h p s
  | .outputMapSet h p => Sys2Proof.Machine.execOutputMapSet h p s
  | .sceneRxSet h p => Sys2Proof.Machine.execSceneRxSet h p s
  | .prismHalfSet h p => Sys2Proof.Machine.execPrismHalfSet h p s
  | .alignDelaySet h p => Sys2Proof.Machine.execAlignDelaySet h p s
  | .prismAirSet h p => Sys2Proof.Machine.execPrismAirSet h p s
  | .prismXfadeSet h p => Sys2Proof.Machine.execPrismXfadeSet h p s
  | .prismStatusGet h p => Sys2Proof.Machine.execPrismStatusGet h p s
  | .metaCfgSet h p => Sys2Proof.Machine.execMetaCfgSet h p s
  | .trajModelSet h p => Sys2Proof.Machine.execTrajModelSet h p s
  | .objectRelease h p => Sys2Proof.Machine.execObjectRelease h p s
  | .placementReport h p => Sys2Proof.Machine.execPlacementReport h p s
  | .lensBankLoad h p => Sys2Proof.Machine.execLensBankLoad h p s
  | .lensSwap h p => Sys2Proof.Machine.execLensSwap h p s
  | .lensTailSet h p => Sys2Proof.Machine.execLensTailSet h p s
  | .lensTrimSet h p => Sys2Proof.Machine.execLensTrimSet h p s
  | .lensLimitSet h p => Sys2Proof.Machine.execLensLimitSet h p s
  | .lensDetSet h p => Sys2Proof.Machine.execLensDetSet h p s
  | .lensDetMap h p => Sys2Proof.Machine.execLensDetMap h p s
  | .lensMeterGet h p => Sys2Proof.Machine.execLensMeterGet h p s
  | .lensStatusGet h p => Sys2Proof.Machine.execLensStatusGet h p s
  | .portGroupSet h p => Sys2Proof.Machine.execPortGroupSet h p s
  | .portSet h p => Sys2Proof.Machine.execPortSet h p s
  | .portEnable h p => Sys2Proof.Machine.execPortEnable h p s
  | .portMaskSet h p => Sys2Proof.Machine.execPortMaskSet h p s
  | .portStatusGet h p => Sys2Proof.Machine.execPortStatusGet h p s
  | .netModeSet h p => Sys2Proof.Machine.execNetModeSet h p s
  | .netAddrSet h p => Sys2Proof.Machine.execNetAddrSet h p s
  | .netFilterSet h p => Sys2Proof.Machine.execNetFilterSet h p s
  | .netStatusGet h p => Sys2Proof.Machine.execNetStatusGet h p s
  | .netHostRx h p => Sys2Proof.Machine.execNetHostRx h p s
  | .netHostTx h p => Sys2Proof.Machine.execNetHostTx h p s
  | .mdioAccess h p => Sys2Proof.Machine.execMdioAccess h p s
  | .streamSet h p => Sys2Proof.Machine.execStreamSet h p s
  | .streamEnable h p => Sys2Proof.Machine.execStreamEnable h p s
  | .streamStatusGet h p => Sys2Proof.Machine.execStreamStatusGet h p s
  | .timePtpSet h p => Sys2Proof.Machine.execTimePtpSet h p s
  | .timeServoSet h p => Sys2Proof.Machine.execTimeServoSet h p s
  | .timeStep h p => Sys2Proof.Machine.execTimeStep h p s
  | .timeSourceSet h p => Sys2Proof.Machine.execTimeSourceSet h p s
  | .timeStatusGet h p => Sys2Proof.Machine.execTimeStatusGet h p s
  | .tsAdjSet h p => Sys2Proof.Machine.execTsAdjSet h p s
  | .syncOutSet h p => Sys2Proof.Machine.execSyncOutSet h p s
  | .capSet h p => Sys2Proof.Machine.execCapSet h p s
  | .capRead h p => Sys2Proof.Machine.execCapRead h p s
  | .micCfg h p => Sys2Proof.Machine.execMicCfg h p s
  | .compLoad h p => Sys2Proof.Machine.execCompLoad h p s
  | .compSwap h p => Sys2Proof.Machine.execCompSwap h p s
  | .micDetMap h p => Sys2Proof.Machine.execMicDetMap h p s
  | .micMeterGet h p => Sys2Proof.Machine.execMicMeterGet h p s
  | .genSet h p => Sys2Proof.Machine.execGenSet h p s
  | .genDrive h p => Sys2Proof.Machine.execGenDrive h p s
  | .genStart h p => Sys2Proof.Machine.execGenStart h p s
  | .genStop h p => Sys2Proof.Machine.execGenStop h p s
  | .genRelease h p => Sys2Proof.Machine.execGenRelease h p s
  | .captureSet h p => Sys2Proof.Machine.execCaptureSet h p s
  | .captureStart h p => Sys2Proof.Machine.execCaptureStart h p s
  | .captureStop h p => Sys2Proof.Machine.execCaptureStop h p s
  | .captureRead h p => Sys2Proof.Machine.execCaptureRead h p s
  | .captureRelease h p => Sys2Proof.Machine.execCaptureRelease h p s
  | .facetTaskLoad h p => Sys2Proof.Machine.execFacetTaskLoad h p s
  | .facetTaskSet h p => Sys2Proof.Machine.execFacetTaskSet h p s
  | .facetChanSet h p => Sys2Proof.Machine.execFacetChanSet h p s
  | .facetTaskEnable h p => Sys2Proof.Machine.execFacetTaskEnable h p s
  | .facetStageSet h p => Sys2Proof.Machine.execFacetStageSet h p s
  | .facetStatusGet h p => Sys2Proof.Machine.execFacetStatusGet h p s
  | .facetTaskUnload h p => Sys2Proof.Machine.execFacetTaskUnload h p s
  | .schedCfgSet h p => Sys2Proof.Machine.execSchedCfgSet h p s
  | .taskSubmit h p => Sys2Proof.Machine.execTaskSubmit h p s
  | .timerSet h p => Sys2Proof.Machine.execTimerSet h p s
  | .schedStatusGet h p => Sys2Proof.Machine.execSchedStatusGet h p s
  | .testgenSet h p => Sys2Proof.Machine.execTestgenSet h p s
  | .mirrorCfg h p => Sys2Proof.Machine.execMirrorCfg h p s
  | .handover h p => Sys2Proof.Machine.execHandover h p s
  | .mirrorReady h p => Sys2Proof.Machine.execMirrorReady h p s
  | .mirrorStatusGet h p => Sys2Proof.Machine.execMirrorStatusGet h p s
  | .hierCfg h p => Sys2Proof.Machine.execHierCfg h p s
  | .hierStatusGet h p => Sys2Proof.Machine.execHierStatusGet h p s
  | .counterRead h p => Sys2Proof.Machine.execCounterRead h p s
  | .perfCfg h p => Sys2Proof.Machine.execPerfCfg h p s
  | .perfRead h p => Sys2Proof.Machine.execPerfRead h p s
  | .traceCfg h p => Sys2Proof.Machine.execTraceCfg h p s
  | .traceRead h p => Sys2Proof.Machine.execTraceRead h p s
  | .dumpInfo h p => Sys2Proof.Machine.execDumpInfo h p s
  | .dumpRead h p => Sys2Proof.Machine.execDumpRead h p s
  | .dumpClear h p => Sys2Proof.Machine.execDumpClear h p s
  | .eventMaskSet h p => Sys2Proof.Machine.execEventMaskSet h p s
  | .doorbell bits => Sys2Proof.Machine.execDoorbell bits s
  | .commandHandle glitch => Sys2Proof.Machine.execCommandHandle glitch s
  | .mbxDoneClear bits => Sys2Proof.Machine.execMbxDoneClear bits s
  | .commandSlotWrite off data => Sys2Proof.Machine.execCommandSlotWrite off data s
  | .bulkCopyDone slot => Sys2Proof.Machine.execBulkCopyDone slot s
  | .mbxEvrCfgWrite v => Sys2Proof.Machine.execMbxEvrCfgWrite v s
  | .mbxEvrConsWrite v => Sys2Proof.Machine.execMbxEvrConsWrite v s
  | .spiTransaction ins off data n => Sys2Proof.Machine.execSpiTransaction ins off data n s
  | .bar2Access off a => Sys2Proof.Machine.execBar2Access off a s
  | .debugWindowAccess w a => Sys2Proof.Machine.execDebugWindowAccess w a s
  | .hostifDbgWinWrite v => Sys2Proof.Machine.execHostifDbgWinWrite v s
  | .functionLevelReset => Sys2Proof.Machine.execFunctionLevelReset s
  | .linkDown => Sys2Proof.Machine.execLinkDown s
  | .pciePerstN level => Sys2Proof.Machine.execPciePerstN level s
  | .latchTime => Sys2Proof.Machine.execLatchTime s
  | .updateServo => Sys2Proof.Machine.execUpdateServo s
  | .lockAcq master n => Sys2Proof.Machine.execLockAcq master n s
  | .lockRel master n => Sys2Proof.Machine.execLockRel master n s
  | .perfCntLoRead master n => Sys2Proof.Machine.execPerfCntLoRead master n s
  | .perfCntHiRead master n => Sys2Proof.Machine.execPerfCntHiRead master n s
  | .rxRingReturn mac ring n => Sys2Proof.Machine.execRxRingReturn mac ring n s
  | .rxRingEnable mac ring => Sys2Proof.Machine.execRxRingEnable mac ring s
  | .txRingTailWrite mac ring v => Sys2Proof.Machine.execTxRingTailWrite mac ring v s
  | .txRingEnable mac ring => Sys2Proof.Machine.execTxRingEnable mac ring s
  | .txDescriptorDone mac ring => Sys2Proof.Machine.execTxDescriptorDone mac ring s
  | .marginClr => Sys2Proof.Machine.execMarginClr s
  | .stepCore core f => Sys2Proof.Machine.execStepCore core f s
  | .haltCore core => Sys2Proof.Machine.execHaltCore core s
  | .restartWdt => Sys2Proof.Machine.execRestartWdt s
  | .registerWrite addr v => Sys2Proof.Machine.execRegisterWrite addr v s
  | .jtagIdcode => Sys2Proof.Machine.execJtagIdcode s
  | .jtagBypass => Sys2Proof.Machine.execJtagBypass s
  | .porstN => Sys2Proof.Machine.execPorstN s
  | .warmRstN => Sys2Proof.Machine.execWarmRstN s
  | .warmResetRelease straps => Sys2Proof.Machine.execWarmResetRelease straps s
  | .powerFail => Sys2Proof.Machine.execPowerFail s
  | .powerFailRestart => Sys2Proof.Machine.execPowerFailRestart s
  | .imageLoadDone bad => Sys2Proof.Machine.execImageLoadDone bad s
  | .chainBootForward locked => Sys2Proof.Machine.execChainBootForward locked s
  | .firmwareStart => Sys2Proof.Machine.execFirmwareStart s
  | .networkStart locked => Sys2Proof.Machine.execNetworkStart locked s
  | .startupPark => Sys2Proof.Machine.execStartupPark s
  | .modeEntry => Sys2Proof.Machine.execModeEntry s
  | .watchdogExpiry => Sys2Proof.Machine.execWatchdogExpiry s
  | .safeEntry => Sys2Proof.Machine.execSafeEntry s
  | .autoReset => Sys2Proof.Machine.execAutoReset s
  | .thermTripN => Sys2Proof.Machine.execThermTripN s
  | .internalThermalTrip => Sys2Proof.Machine.execInternalThermalTrip s
  | .thermWarn temp => Sys2Proof.Machine.execThermWarn temp s
  | .quantumBoundary env => Sys2Proof.Machine.execQuantumBoundary env s
  | .rtRelease => Sys2Proof.Machine.execRtRelease s
  | .cutOff => Sys2Proof.Machine.execCutOff s
  | .facetOverrun core => Sys2Proof.Machine.execFacetOverrun core s
  | .taskDispatch lat => Sys2Proof.Machine.execTaskDispatch lat s
  | .resumeI core => Sys2Proof.Machine.execResumeI core s
  | .timerExpiry list => Sys2Proof.Machine.execTimerExpiry list s
  | .eventItem task level flow arg => Sys2Proof.Machine.execEventItem task level flow arg s
  | .obsWindowEnd => Sys2Proof.Machine.execObsWindowEnd s
  | .mulM core a => Sys2Proof.Machine.execMulM core a s
  | .mac core a => Sys2Proof.Machine.execMac core a s
  | .msb core a => Sys2Proof.Machine.execMsb core a s
  | .macq core a => Sys2Proof.Machine.execMacq core a s
  | .dmac core a => Sys2Proof.Machine.execDmac core a s
  | .dmsb core a => Sys2Proof.Machine.execDmsb core a s
  | .cmac core a => Sys2Proof.Machine.execCmac core a s
  | .cmsb core a => Sys2Proof.Machine.execCmsb core a s
  | .accClr core a => Sys2Proof.Machine.execAccClr core a s
  | .accAdd core a => Sys2Proof.Machine.execAccAdd core a s
  | .accSub core a => Sys2Proof.Machine.execAccSub core a s
  | .addd core a => Sys2Proof.Machine.execAddd core a s
  | .subd core a => Sys2Proof.Machine.execSubd core a s
  | .negA core a => Sys2Proof.Machine.execNegA core a s
  | .absA core a => Sys2Proof.Machine.execAbsA core a s
  | .accTfr core a => Sys2Proof.Machine.execAccTfr core a s
  | .qnt core a => Sys2Proof.Machine.execQnt core a s
  | .satA core a => Sys2Proof.Machine.execSatA core a s
  | .accAsl core a => Sys2Proof.Machine.execAccAsl core a s
  | .accAsr core a => Sys2Proof.Machine.execAccAsr core a s
  | .ash core a => Sys2Proof.Machine.execAsh core a s
  | .normA core a => Sys2Proof.Machine.execNormA core a s
  | .expA core a => Sys2Proof.Machine.execExpA core a s
  | .accMax core a => Sys2Proof.Machine.execAccMax core a s
  | .accMin core a => Sys2Proof.Machine.execAccMin core a s
  | .accCmp core a => Sys2Proof.Machine.execAccCmp core a s
  | .daluAdd core a => Sys2Proof.Machine.execDaluAdd core a s
  | .daluSub core a => Sys2Proof.Machine.execDaluSub core a s
  | .andD core a => Sys2Proof.Machine.execAndD core a s
  | .orD core a => Sys2Proof.Machine.execOrD core a s
  | .xorD core a => Sys2Proof.Machine.execXorD core a s
  | .notD core a => Sys2Proof.Machine.execNotD core a s
  | .daluAsl core a => Sys2Proof.Machine.execDaluAsl core a s
  | .daluAsr core a => Sys2Proof.Machine.execDaluAsr core a s
  | .lsr core a => Sys2Proof.Machine.execLsr core a s
  | .daluMin core a => Sys2Proof.Machine.execDaluMin core a s
  | .daluMax core a => Sys2Proof.Machine.execDaluMax core a s
  | .daluCmp core a => Sys2Proof.Machine.execDaluCmp core a s
  | .mull core a => Sys2Proof.Machine.execMull core a s
  | .moveI core a => Sys2Proof.Machine.execMoveI core a s
  | .tfr core a => Sys2Proof.Machine.execTfr core a s
  | .lds core a => Sys2Proof.Machine.execLds core a s
  | .ldh core a => Sys2Proof.Machine.execLdh core a s
  | .lda core a => Sys2Proof.Machine.execLda core a s
  | .adda core a => Sys2Proof.Machine.execAdda core a s
  | .addl core a => Sys2Proof.Machine.execAddl core a s
  | .mova core a => Sys2Proof.Machine.execMova core a s
  | .tfra core a => Sys2Proof.Machine.execTfra core a s
  | .tfrd core a => Sys2Proof.Machine.execTfrd core a s
  | .rpt core reg n => Sys2Proof.Machine.execRpt core reg n s
  | .loopI core reg body n => Sys2Proof.Machine.execLoopI core reg body n s
  | .leaveI core cc => Sys2Proof.Machine.execLeaveI core cc s
  | .nopI core => Sys2Proof.Machine.execNopI core s
  | .bra core cc t => Sys2Proof.Machine.execBra core cc t s
  | .bsr core cc t => Sys2Proof.Machine.execBsr core cc t s
  | .rts core cc => Sys2Proof.Machine.execRts core cc s
  | .jmp core m => Sys2Proof.Machine.execJmp core m s
  | .yieldI core => Sys2Proof.Machine.execYieldI core s
  | .trapI core k => Sys2Proof.Machine.execTrapI core k s
  | .fenceI core wait => Sys2Proof.Machine.execFenceI core wait s
  | .setm core mask v => Sys2Proof.Machine.execSetm core mask v s
  | .segI core k => Sys2Proof.Machine.execSegI core k s
  | .ldi core a => Sys2Proof.Machine.execLdi core a s
  | .addi core a => Sys2Proof.Machine.execAddi core a s
  | .cmpi core a => Sys2Proof.Machine.execCmpi core a s
  | .fld core a f => Sys2Proof.Machine.execFld core a f s
  | .fst core a f => Sys2Proof.Machine.execFst core a f s
  | .xbarRequest r => Sys2Proof.Machine.execXbarRequest r s
  | .xbarGrant target withdrawn => Sys2Proof.Machine.execXbarGrant target withdrawn s
  | .xbarComplete master tag e held => Sys2Proof.Machine.execXbarComplete master tag e held s
  | .xbarTimeout master tag => Sys2Proof.Machine.execXbarTimeout master tag s
  | .parkDefault target => Sys2Proof.Machine.execParkDefault target s
  | .dramRequest reqs => Sys2Proof.Machine.execDramRequest reqs s
  | .refresh chan bank => Sys2Proof.Machine.execRefresh chan bank s
  | .mr4Poll codes again => Sys2Proof.Machine.execMr4Poll codes again s
  | .rowWindowEnd => Sys2Proof.Machine.execRowWindowEnd s
  | .scrub e => Sys2Proof.Machine.execScrub e s
  | .dlyApply chan => Sys2Proof.Machine.execDlyApply chan s
  | .sweepDone windows failLane => Sys2Proof.Machine.execSweepDone windows failLane s
  | .ddrPllLoss => Sys2Proof.Machine.execDdrPllLoss s
  | .ddrRelockEnd locked => Sys2Proof.Machine.execDdrRelockEnd locked s
  | .lockWindowEnd count => Sys2Proof.Machine.execLockWindowEnd count s
  | .clockLoss => Sys2Proof.Machine.execClockLoss s
  | .refclkMissing => Sys2Proof.Machine.execRefclkMissing s
  | .refclkPresent => Sys2Proof.Machine.execRefclkPresent s
  | .relockEnd => Sys2Proof.Machine.execRelockEnd s
  | .holdTimeout => Sys2Proof.Machine.execHoldTimeout s
  | .pps => Sys2Proof.Machine.execPps s
  | .syncInEdge rise => Sys2Proof.Machine.execSyncInEdge rise s
  | .capEdge input rising => Sys2Proof.Machine.execCapEdge input rising s
  | .portFrameEdge grp bits data => Sys2Proof.Machine.execPortFrameEdge grp bits data s
  | .grpLost grp => Sys2Proof.Machine.execGrpLost grp s
  | .nonaudioRelease stream index slot => Sys2Proof.Machine.execNonaudioRelease stream index slot s
  | .micStuck mic => Sys2Proof.Machine.execMicStuck mic s
  | .genDone => Sys2Proof.Machine.execGenDone s
  | .blockLockLoss lost => Sys2Proof.Machine.execBlockLockLoss lost s
  | .retrainEnd mac ok => Sys2Proof.Machine.execRetrainEnd mac ok s
  | .linkPoll mac ok => Sys2Proof.Machine.execLinkPoll mac ok s
  | .frameReceived mac m frame => Sys2Proof.Machine.execFrameReceived mac m frame s
  | .forwardTransmit mac cyc => Sys2Proof.Machine.execForwardTransmit mac cyc s
  | .streamPacketSend => Sys2Proof.Machine.execStreamPacketSend s
  | .legDown ctx leg => Sys2Proof.Machine.execLegDown ctx leg s
  | .arpTimeout => Sys2Proof.Machine.execArpTimeout s
  | .flashProgramDone => Sys2Proof.Machine.execFlashProgramDone s
  | .lensLoadDone bus bank => Sys2Proof.Machine.execLensLoadDone bus bank s
  | .tailBlockBoundary late fails spare => Sys2Proof.Machine.execTailBlockBoundary late fails spare s
  | .switchTick => Sys2Proof.Machine.execSwitchTick s
  | .mirActInChange level => Sys2Proof.Machine.execMirActInChange level s
  | .actInConfirmed => Sys2Proof.Machine.execActInConfirmed s
  | .heartbeatCheck present strays level => Sys2Proof.Machine.execHeartbeatCheck present strays level s
  | .workerLost id => Sys2Proof.Machine.execWorkerLost id s
  | .porstNRelease straps banks => Sys2Proof.Machine.execPorstNRelease straps banks s
  | .pcieLinkUp speed width => Sys2Proof.Machine.execPcieLinkUp speed width s
  | .micTransition mic => Sys2Proof.Machine.execMicTransition mic s
  | .sysResetApply => Sys2Proof.Machine.execSysResetApply s
  | .firmwareItemComplete => Sys2Proof.Machine.execFirmwareItemComplete s

end Sys2Proof.Machine
end

