-- ==== Sys2Proof/WellFormed.lean ====
section
/-! DEFINITION. WellFormed: the operands that the spec's encodings and indices admit (R270, R279 to R286, R325, R387 and the register map).
A command outside them is one that no host, firmware or engine can send. -/

namespace Sys2Proof

/-- A header: slots 0 to 7, a 16-bit sequence, a 32-bit tag (R386, R387). -/
def Hdr.ok (h : Hdr) : Bool := decide (h.slot < 8) && decide (h.seq < 65536) && decide (h.tag < 2 ^ 32)

/-- What has lost lock: a port there is, or the SerDes PLL. -/
def LockLoss.ok : LockLoss → Bool
  | .port m => decide (m < 2)
  | .serdesPll => true

/-- Parallel moves (R279): 2-bit fields. -/
def PMove.ok (m : PMove) : Bool := decide (m.xp < 4) && decide (m.xm < 4) && decide (m.yp < 4) && decide (m.ym < 4)

/-- MAC class (R280): accumulators 0 to 3, operands D0 to D7. -/
def MacArgs.ok (a : MacArgs) : Bool :=
  decide (a.aa < 4) && decide (a.ab < 4) && decide (a.s < 8) && decide (a.t < 8) && decide (a.u < 8) && decide (a.v < 8) && a.pm.ok

/-- Accumulator class (R286). -/
def AccArgs.ok (a : AccArgs) : Bool := decide (a.aa < 4) && decide (a.ab < 4) && decide (a.km < 256) && a.pm.ok

/-- Data class (R286). -/
def DataArgs.ok (a : DataArgs) : Bool := decide (a.d < 16) && decide (a.s < 16) && decide (a.t < 16) && decide (a.imm < 1024)

/-- One access of a memory move (R281). -/
def MovAcc.ok (a : MovAcc) : Bool := decide (a.p < 4) && decide (a.mode < 8) && decide (a.reg < 32)

/-- Memory move (R281). -/
def MovArgs.ok (a : MovArgs) : Bool :=
  a.a1.ok && (match a.a2 with
    | none => true
    | some x => x.ok)

/-- Register move (R283). -/
def RegArgs.ok (a : RegArgs) : Bool := decide (a.dst < 32) && decide (a.src < 32) && decide (a.imm < 65536)

/-- Address class (R286). -/
def AddrArgs.ok (a : AddrArgs) : Bool := decide (a.r < 32) && decide (a.imm < 65536)

/-- Long class (R286). -/
def LongArgs.ok (a : LongArgs) : Bool := decide (a.r < 32) && decide (a.m < 16)

/-- A request of the matrix (R323, R325): masters 0 to 15, a 4-bit tag, a 40-bit address. -/
def XReq.ok (r : XReq) : Bool := decide (r.master < 16) && decide (r.tag < 16) && decide (r.addr < 2 ^ 40)

/-- A request of a DDRC port (R352). -/
def DramReq.ok (r : DramReq) : Bool := decide (r.port < 8) && decide (r.addr < 2 ^ 40)

/-- Whether the operands of a command are such as the spec admits. -/
def Instr.wellFormed : Instr → Bool
  | .bootGo h p => h.ok && decide (p.length ≤ 240)
  | .sysInfo h p => h.ok && decide (p.length ≤ 240)
  | .modeSet h p => h.ok && decide (p.length ≤ 240)
  | .rateSet h p => h.ok && decide (p.length ≤ 240)
  | .sysReset h p => h.ok && decide (p.length ≤ 240)
  | .fwStage h p => h.ok && decide (p.length ≤ 240)
  | .fwCommit h p => h.ok && decide (p.length ≤ 240)
  | .fwStatus h p => h.ok && decide (p.length ≤ 240)
  | .debugChallenge h p => h.ok && decide (p.length ≤ 240)
  | .debugUnlock h p => h.ok && decide (p.length ≤ 240)
  | .hostRegionSet h p => h.ok && decide (p.length ≤ 240)
  | .claimList h p => h.ok && decide (p.length ≤ 240)
  | .ddrSpeedSet h p => h.ok && decide (p.length ≤ 240)
  | .ddrCal h p => h.ok && decide (p.length ≤ 240)
  | .ddrKeepSet h p => h.ok && decide (p.length ≤ 240)
  | .ddrGuardSet h p => h.ok && decide (p.length ≤ 240)
  | .ddrStatusGet h p => h.ok && decide (p.length ≤ 240)
  | .layoutLoad h p => h.ok && decide (p.length ≤ 240)
  | .layoutCommit h p => h.ok && decide (p.length ≤ 240)
  | .airSet h p => h.ok && decide (p.length ≤ 240)
  | .objectUpdate h p => h.ok && decide (p.length ≤ 240)
  | .objectDirectSet h p => h.ok && decide (p.length ≤ 240)
  | .objectStatus h p => h.ok && decide (p.length ≤ 240)
  | .inputMapSet h p => h.ok && decide (p.length ≤ 240)
  | .outputMapSet h p => h.ok && decide (p.length ≤ 240)
  | .sceneRxSet h p => h.ok && decide (p.length ≤ 240)
  | .prismHalfSet h p => h.ok && decide (p.length ≤ 240)
  | .alignDelaySet h p => h.ok && decide (p.length ≤ 240)
  | .prismAirSet h p => h.ok && decide (p.length ≤ 240)
  | .prismXfadeSet h p => h.ok && decide (p.length ≤ 240)
  | .prismStatusGet h p => h.ok && decide (p.length ≤ 240)
  | .metaCfgSet h p => h.ok && decide (p.length ≤ 240)
  | .trajModelSet h p => h.ok && decide (p.length ≤ 240)
  | .objectRelease h p => h.ok && decide (p.length ≤ 240)
  | .placementReport h p => h.ok && decide (p.length ≤ 240)
  | .lensBankLoad h p => h.ok && decide (p.length ≤ 240)
  | .lensSwap h p => h.ok && decide (p.length ≤ 240)
  | .lensTailSet h p => h.ok && decide (p.length ≤ 240)
  | .lensTrimSet h p => h.ok && decide (p.length ≤ 240)
  | .lensLimitSet h p => h.ok && decide (p.length ≤ 240)
  | .lensDetSet h p => h.ok && decide (p.length ≤ 240)
  | .lensDetMap h p => h.ok && decide (p.length ≤ 240)
  | .lensMeterGet h p => h.ok && decide (p.length ≤ 240)
  | .lensStatusGet h p => h.ok && decide (p.length ≤ 240)
  | .portGroupSet h p => h.ok && decide (p.length ≤ 240)
  | .portSet h p => h.ok && decide (p.length ≤ 240)
  | .portEnable h p => h.ok && decide (p.length ≤ 240)
  | .portMaskSet h p => h.ok && decide (p.length ≤ 240)
  | .portStatusGet h p => h.ok && decide (p.length ≤ 240)
  | .netModeSet h p => h.ok && decide (p.length ≤ 240)
  | .netAddrSet h p => h.ok && decide (p.length ≤ 240)
  | .netFilterSet h p => h.ok && decide (p.length ≤ 240)
  | .netStatusGet h p => h.ok && decide (p.length ≤ 240)
  | .netHostRx h p => h.ok && decide (p.length ≤ 240)
  | .netHostTx h p => h.ok && decide (p.length ≤ 240)
  | .mdioAccess h p => h.ok && decide (p.length ≤ 240)
  | .streamSet h p => h.ok && decide (p.length ≤ 240)
  | .streamEnable h p => h.ok && decide (p.length ≤ 240)
  | .streamStatusGet h p => h.ok && decide (p.length ≤ 240)
  | .timePtpSet h p => h.ok && decide (p.length ≤ 240)
  | .timeServoSet h p => h.ok && decide (p.length ≤ 240)
  | .timeStep h p => h.ok && decide (p.length ≤ 240)
  | .timeSourceSet h p => h.ok && decide (p.length ≤ 240)
  | .timeStatusGet h p => h.ok && decide (p.length ≤ 240)
  | .tsAdjSet h p => h.ok && decide (p.length ≤ 240)
  | .syncOutSet h p => h.ok && decide (p.length ≤ 240)
  | .capSet h p => h.ok && decide (p.length ≤ 240)
  | .capRead h p => h.ok && decide (p.length ≤ 240)
  | .micCfg h p => h.ok && decide (p.length ≤ 240)
  | .compLoad h p => h.ok && decide (p.length ≤ 240)
  | .compSwap h p => h.ok && decide (p.length ≤ 240)
  | .micDetMap h p => h.ok && decide (p.length ≤ 240)
  | .micMeterGet h p => h.ok && decide (p.length ≤ 240)
  | .genSet h p => h.ok && decide (p.length ≤ 240)
  | .genDrive h p => h.ok && decide (p.length ≤ 240)
  | .genStart h p => h.ok && decide (p.length ≤ 240)
  | .genStop h p => h.ok && decide (p.length ≤ 240)
  | .genRelease h p => h.ok && decide (p.length ≤ 240)
  | .captureSet h p => h.ok && decide (p.length ≤ 240)
  | .captureStart h p => h.ok && decide (p.length ≤ 240)
  | .captureStop h p => h.ok && decide (p.length ≤ 240)
  | .captureRead h p => h.ok && decide (p.length ≤ 240)
  | .captureRelease h p => h.ok && decide (p.length ≤ 240)
  | .facetTaskLoad h p => h.ok && decide (p.length ≤ 240)
  | .facetTaskSet h p => h.ok && decide (p.length ≤ 240)
  | .facetChanSet h p => h.ok && decide (p.length ≤ 240)
  | .facetTaskEnable h p => h.ok && decide (p.length ≤ 240)
  | .facetStageSet h p => h.ok && decide (p.length ≤ 240)
  | .facetStatusGet h p => h.ok && decide (p.length ≤ 240)
  | .facetTaskUnload h p => h.ok && decide (p.length ≤ 240)
  | .schedCfgSet h p => h.ok && decide (p.length ≤ 240)
  | .taskSubmit h p => h.ok && decide (p.length ≤ 240)
  | .timerSet h p => h.ok && decide (p.length ≤ 240)
  | .schedStatusGet h p => h.ok && decide (p.length ≤ 240)
  | .testgenSet h p => h.ok && decide (p.length ≤ 240)
  | .mirrorCfg h p => h.ok && decide (p.length ≤ 240)
  | .handover h p => h.ok && decide (p.length ≤ 240)
  | .mirrorReady h p => h.ok && decide (p.length ≤ 240)
  | .mirrorStatusGet h p => h.ok && decide (p.length ≤ 240)
  | .hierCfg h p => h.ok && decide (p.length ≤ 240)
  | .hierStatusGet h p => h.ok && decide (p.length ≤ 240)
  | .counterRead h p => h.ok && decide (p.length ≤ 240)
  | .perfCfg h p => h.ok && decide (p.length ≤ 240)
  | .perfRead h p => h.ok && decide (p.length ≤ 240)
  | .traceCfg h p => h.ok && decide (p.length ≤ 240)
  | .traceRead h p => h.ok && decide (p.length ≤ 240)
  | .dumpInfo h p => h.ok && decide (p.length ≤ 240)
  | .dumpRead h p => h.ok && decide (p.length ≤ 240)
  | .dumpClear h p => h.ok && decide (p.length ≤ 240)
  | .eventMaskSet h p => h.ok && decide (p.length ≤ 240)
  | .doorbell _ => true
  | .commandHandle _ => true
  | .mbxDoneClear _ => true
  | .commandSlotWrite off _ => decide (off < 2048)
  | .bulkCopyDone slot => decide (slot < 8)
  | .mbxEvrCfgWrite _ => true
  | .mbxEvrConsWrite _ => true
  | .spiTransaction _ off _ _ => decide (off < 16777216)
  | .bar2Access off _ => decide (off < 1099511627776)
  | .debugWindowAccess w _ => decide (w < 524288)
  | .hostifDbgWinWrite _ => true
  | .functionLevelReset => true
  | .linkDown => true
  | .pciePerstN _ => true
  | .latchTime => true
  | .updateServo => true
  | .lockAcq master n => decide (master < 16) && decide (n < 64)
  | .lockRel master n => decide (master < 16) && decide (n < 64)
  | .perfCntLoRead master n => decide (master < 16) && decide (n < 128)
  | .perfCntHiRead master n => decide (master < 16) && decide (n < 128)
  | .rxRingReturn e ring _ => decide (e < 2) && decide (ring < 4)
  | .rxRingEnable e ring => decide (e < 2) && decide (ring < 4)
  | .txRingTailWrite e ring _ => decide (e < 2) && decide (ring < 2)
  | .txRingEnable e ring => decide (e < 2) && decide (ring < 2)
  | .txDescriptorDone e ring => decide (e < 2) && decide (ring < 2)
  | .marginClr => true
  | .stepCore core _ => decide (core < 8)
  | .haltCore core => decide (core < 8)
  | .restartWdt => true
  | .registerWrite addr _ => decide (addr < 2199023255552)
  | .jtagIdcode => true
  | .jtagBypass => true
  | .porstN => true
  | .warmRstN => true
  | .warmResetRelease _ => true
  | .powerFail => true
  | .powerFailRestart => true
  | .imageLoadDone _ => true
  | .chainBootForward _ => true
  | .firmwareStart => true
  | .networkStart _ => true
  | .startupPark => true
  | .modeEntry => true
  | .watchdogExpiry => true
  | .safeEntry => true
  | .autoReset => true
  | .thermTripN => true
  | .internalThermalTrip => true
  | .thermWarn _ => true
  | .quantumBoundary _ => true
  | .rtRelease => true
  | .cutOff => true
  | .facetOverrun core => decide (core < 8)
  | .taskDispatch _ => true
  | .resumeI core => decide (core < 8)
  | .timerExpiry list => decide (list < 4)
  | .eventItem _ level _ _ => decide (level < 8)
  | .obsWindowEnd => true
  | .mulM core a => decide (core < 8) && a.ok
  | .mac core a => decide (core < 8) && a.ok
  | .msb core a => decide (core < 8) && a.ok
  | .macq core a => decide (core < 8) && a.ok
  | .dmac core a => decide (core < 8) && a.ok
  | .dmsb core a => decide (core < 8) && a.ok
  | .cmac core a => decide (core < 8) && a.ok
  | .cmsb core a => decide (core < 8) && a.ok
  | .accClr core a => decide (core < 8) && a.ok
  | .accAdd core a => decide (core < 8) && a.ok
  | .accSub core a => decide (core < 8) && a.ok
  | .addd core a => decide (core < 8) && a.ok
  | .subd core a => decide (core < 8) && a.ok
  | .negA core a => decide (core < 8) && a.ok
  | .absA core a => decide (core < 8) && a.ok
  | .accTfr core a => decide (core < 8) && a.ok
  | .qnt core a => decide (core < 8) && a.ok
  | .satA core a => decide (core < 8) && a.ok
  | .accAsl core a => decide (core < 8) && a.ok
  | .accAsr core a => decide (core < 8) && a.ok
  | .ash core a => decide (core < 8) && a.ok
  | .normA core a => decide (core < 8) && a.ok
  | .expA core a => decide (core < 8) && a.ok
  | .accMax core a => decide (core < 8) && a.ok
  | .accMin core a => decide (core < 8) && a.ok
  | .accCmp core a => decide (core < 8) && a.ok
  | .daluAdd core a => decide (core < 8) && a.ok
  | .daluSub core a => decide (core < 8) && a.ok
  | .andD core a => decide (core < 8) && a.ok
  | .orD core a => decide (core < 8) && a.ok
  | .xorD core a => decide (core < 8) && a.ok
  | .notD core a => decide (core < 8) && a.ok
  | .daluAsl core a => decide (core < 8) && a.ok
  | .daluAsr core a => decide (core < 8) && a.ok
  | .lsr core a => decide (core < 8) && a.ok
  | .daluMin core a => decide (core < 8) && a.ok
  | .daluMax core a => decide (core < 8) && a.ok
  | .daluCmp core a => decide (core < 8) && a.ok
  | .mull core a => decide (core < 8) && a.ok
  | .moveI core a => decide (core < 8) && a.ok
  | .tfr core a => decide (core < 8) && a.ok
  | .lds core a => decide (core < 8) && a.ok
  | .ldh core a => decide (core < 8) && a.ok
  | .lda core a => decide (core < 8) && a.ok
  | .adda core a => decide (core < 8) && a.ok
  | .addl core a => decide (core < 8) && a.ok
  | .mova core a => decide (core < 8) && a.ok
  | .tfra core a => decide (core < 8) && a.ok
  | .tfrd core a => decide (core < 8) && a.ok
  | .rpt core reg n => decide (core < 8) && (if reg then decide (n < 16) else decide (1 ≤ n ∧ n ≤ 4096))
  | .loopI core reg body n => decide (core < 8) && decide (1 ≤ body ∧ body ≤ 256) && (if reg then decide (n < 16) else decide (n < 65536))
  | .leaveI core cc => decide (core < 8) && decide (cc < 16)
  | .nopI core => decide (core < 8)
  | .bra core cc t => decide (core < 8) && decide (cc < 16) && decide (t < 16384)
  | .bsr core cc t => decide (core < 8) && decide (cc < 16) && decide (t < 16384)
  | .rts core cc => decide (core < 8) && decide (cc < 16)
  | .jmp core m => decide (core < 8) && decide (m < 16)
  | .yieldI core => decide (core < 8)
  | .trapI core k => decide (core < 8) && decide (k < 256)
  | .fenceI core _ => decide (core < 8)
  | .setm core mask v => decide (core < 8) && decide (mask < 256) && decide (v < 256)
  | .segI core k => decide (core < 8) && decide (k < 256)
  | .ldi core a => decide (core < 8) && a.ok
  | .addi core a => decide (core < 8) && a.ok
  | .cmpi core a => decide (core < 8) && a.ok
  | .fld core a _ => decide (core < 8) && a.ok
  | .fst core a _ => decide (core < 8) && a.ok
  | .xbarRequest r => r.ok
  | .xbarGrant target _ => decide (target < 12)
  | .xbarComplete master tag _ _ => decide (master < 16) && decide (tag < 16)
  | .xbarTimeout master tag => decide (master < 16) && decide (tag < 16)
  | .parkDefault target => decide (target < 12)
  | .dramRequest reqs => reqs.all DramReq.ok
  | .refresh chan bank => decide (chan < 4) && decide (bank < 8)
  | .mr4Poll _ _ => true
  | .rowWindowEnd => true
  | .scrub _ => true
  | .dlyApply chan => decide (chan < 4)
  | .sweepDone _ _ => true
  | .ddrPllLoss => true
  | .ddrRelockEnd _ => true
  | .lockWindowEnd _ => true
  | .clockLoss => true
  | .refclkMissing => true
  | .refclkPresent => true
  | .relockEnd => true
  | .holdTimeout => true
  | .pps => true
  | .syncInEdge _ => true
  | .capEdge input _ => decide (input < 8)
  | .portFrameEdge grp _ _ => decide (grp < 8)
  | .grpLost grp => decide (grp < 8)
  | .nonaudioRelease _ index slot => decide (index < 255) && decide (slot < 64)
  | .micStuck mic => decide (mic < 16)
  | .genDone => true
  | .blockLockLoss e => e.ok
  | .retrainEnd e _ => decide (e < 2)
  | .linkPoll e _ => decide (e < 2)
  | .frameReceived e m _ => decide (e < 2) && decide (m.cyc < 50)
  | .forwardTransmit e cyc => decide (e < 2) && decide (cyc < 50)
  | .streamPacketSend => true
  | .legDown ctx leg => decide (ctx < 255) && decide (leg < 2)
  | .arpTimeout => true
  | .flashProgramDone => true
  | .lensLoadDone bus bank => decide (bus < 1024) && decide (bank < 2)
  | .tailBlockBoundary _ _ _ => true
  | .switchTick => true
  | .mirActInChange _ => true
  | .actInConfirmed => true
  | .heartbeatCheck _ _ _ => true
  | .workerLost id => decide (id < 64)
  | .porstNRelease _ banks => decide (banks < 16)
  | .pcieLinkUp _ _ => true
  | .micTransition mic => decide (mic < 16)
  | .sysResetApply => true
  | .firmwareItemComplete => true

end Sys2Proof
end

