-- ==== Sys2Proof/Safety.lean ====
section
/-! DEFINITION. Safety: the terms in which claims about the block are stated. A safe run is one whose states are canonical, in which every
step answers a next state. -/

namespace Sys2Proof.Machine

/-- What every state that the block can be in satisfies: the three memories and the register table are in canonical form, so that equal
contents are equal data. -/
abbrev State.Canonical (s : State) : Prop := memWf s.mem ∧ memWf s.hostMem ∧ memWf s.flash ∧ tblWf regReset s.regs

/-- A step that stops with neither a fault nor a refusal. -/
def State.Goes (s : State) : Prop := ∃ t, step s = .next t

/-- Firmware serves a command whose legal modes are those of the list: no reset holds the device, firmware runs, and the mode in force is
one of them (R390, check 6, R398). -/
abbrev State.Serves (s : State) (legal : List Mode) : Prop :=
  s.sys.phase = .running ∧ s.sys.fwRunning = true ∧ s.sys.mode ∈ legal

/-- Firmware can take one more bulk command (R391). -/
abbrev State.BulkRoom (s : State) : Prop := s.mbx.bulk.length < 4

/-- Core n issues instruction o: item i in a slot is resident, the core executes and is not halted, o lies in the program of the item's task
t, may follow a pending RPT, may stand where it stands in a LOOP body, and the item's declared cycles do not end while it waits (R271, R287,
R288, R294). The context in which it executes is c. -/
def State.Issues (s : State) (n slot : Nat) (i : Item) (o : FOp) (t : FTask) (c : FCtx) : Prop :=
  s.resident n = some slot ∧ s.item? slot = some i ∧ s.coreAlive n = true ∧ s.coreHalted n = false ∧ t = s.task (i.task.getD 0) ∧
    i.ctx.pc + o.len ≤ t.pWords ∧ (i.ctx.rpt = none ∨ o.repeatable = true) ∧ (o.flow = false ∨ i.ctx.atLast = false) ∧
    s.spentOut (i.spent (i.ctx.stall o)) = false ∧ c = { i.ctx.aged (i.ctx.stall o) with flagsBy := 0 }

/-- An instruction of classes 0x0 to 0x8 executes once, or as often as a pending RPT says, without a fault; u is the state after it. -/
def State.Executes (s : State) (n : Nat) (o : FOp) (u : State) : Prop :=
  ∃ slot i t c s1 c1 cyc, s.Issues n slot i o t c ∧
    State.facetTimes t o ((s.facetLimit i).map (· - i.ctx.charged)) (c.rpt.getD 1) s { c with rpt := none } (i.ctx.stall o) = (s1, c1, cyc, none) ∧
    u = s1.facetDone n slot i (c1.advance 1) cyc

/-- Below the limit of an item's declared cycles, if it has one, once it has used more of them (R294). -/
def State.Room (s : State) (i : Item) (cyc : Nat) : Prop := ∀ l, s.facetLimit i = some l → i.ctx.charged + cyc < l

/-- The bytes of the trace buffer: where one is placed, the records of its size from its first unit on (R474). A buffer of size 0, which no
TRACE_CFG places, has no end. -/
def State.traceOwns (s : State) (a : Nat) : Prop :=
  s.trace.bufUnits ≠ 0 ∧ unitAddr s.trace.bufUnit ≤ a ∧ (s.traceCap = 0 ∨ a < unitAddr s.trace.bufUnit + 16 * s.traceCap)

/-- The bytes that writing a response of n bytes into a slot may change: the slot's response, the trace buffer and, under SPI, the event ring
of MBX (R387, R394, R474). -/
def State.answerOwns (s : State) (slot n a : Nat) : Prop :=
  (rspSlotAddr slot ≤ a ∧ a < rspSlotAddr slot + n) ∨ s.traceOwns a ∨ (s.sys.straps.hostIf = true ∧ 0x20034000 ≤ a ∧ a < 0x20038000)

/-- The state of the block's engines: everything but the queue, the mailbox, the host interface, counters, trace, registers and memories. -/
def State.engineState (s : State) :=
  (s.sys, s.sec, s.time, s.mir, s.hier, s.scene, s.prism, s.ddrc, s.xbar, s.sched, s.lens, s.meas, s.ports, s.net, s.pipe)

/-- The mailbox command of chapter 15 that a row is: its definition, its header and its payload. -/
def mailboxOf : Instr → Option (CmdDef × Hdr × Bytes)
  | .bootGo h p => some (cmdBootGo, h, p)
  | .sysInfo h p => some (cmdSysInfo, h, p)
  | .modeSet h p => some (cmdModeSet, h, p)
  | .rateSet h p => some (cmdRateSet, h, p)
  | .sysReset h p => some (cmdSysReset, h, p)
  | .fwStage h p => some (cmdFwStage, h, p)
  | .fwCommit h p => some (cmdFwCommit, h, p)
  | .fwStatus h p => some (cmdFwStatus, h, p)
  | .debugChallenge h p => some (cmdDebugChallenge, h, p)
  | .debugUnlock h p => some (cmdDebugUnlock, h, p)
  | .hostRegionSet h p => some (cmdHostRegionSet, h, p)
  | .claimList h p => some (cmdClaimList, h, p)
  | .ddrSpeedSet h p => some (cmdDdrSpeedSet, h, p)
  | .ddrCal h p => some (cmdDdrCal, h, p)
  | .ddrKeepSet h p => some (cmdDdrKeepSet, h, p)
  | .ddrGuardSet h p => some (cmdDdrGuardSet, h, p)
  | .ddrStatusGet h p => some (cmdDdrStatusGet, h, p)
  | .layoutLoad h p => some (cmdLayoutLoad, h, p)
  | .layoutCommit h p => some (cmdLayoutCommit, h, p)
  | .airSet h p => some (cmdAirSet, h, p)
  | .objectUpdate h p => some (cmdObjectUpdate, h, p)
  | .objectDirectSet h p => some (cmdObjectDirectSet, h, p)
  | .objectStatus h p => some (cmdObjectStatus, h, p)
  | .inputMapSet h p => some (cmdInputMapSet, h, p)
  | .outputMapSet h p => some (cmdOutputMapSet, h, p)
  | .sceneRxSet h p => some (cmdSceneRxSet, h, p)
  | .prismHalfSet h p => some (cmdPrismHalfSet, h, p)
  | .alignDelaySet h p => some (cmdAlignDelaySet, h, p)
  | .prismAirSet h p => some (cmdPrismAirSet, h, p)
  | .prismXfadeSet h p => some (cmdPrismXfadeSet, h, p)
  | .prismStatusGet h p => some (cmdPrismStatusGet, h, p)
  | .metaCfgSet h p => some (cmdMetaCfgSet, h, p)
  | .trajModelSet h p => some (cmdTrajModelSet, h, p)
  | .objectRelease h p => some (cmdObjectRelease, h, p)
  | .placementReport h p => some (cmdPlacementReport, h, p)
  | .lensBankLoad h p => some (cmdLensBankLoad, h, p)
  | .lensSwap h p => some (cmdLensSwap, h, p)
  | .lensTailSet h p => some (cmdLensTailSet, h, p)
  | .lensTrimSet h p => some (cmdLensTrimSet, h, p)
  | .lensLimitSet h p => some (cmdLensLimitSet, h, p)
  | .lensDetSet h p => some (cmdLensDetSet, h, p)
  | .lensDetMap h p => some (cmdLensDetMap, h, p)
  | .lensMeterGet h p => some (cmdLensMeterGet, h, p)
  | .lensStatusGet h p => some (cmdLensStatusGet, h, p)
  | .portGroupSet h p => some (cmdPortGroupSet, h, p)
  | .portSet h p => some (cmdPortSet, h, p)
  | .portEnable h p => some (cmdPortEnable, h, p)
  | .portMaskSet h p => some (cmdPortMaskSet, h, p)
  | .portStatusGet h p => some (cmdPortStatusGet, h, p)
  | .netModeSet h p => some (cmdNetModeSet, h, p)
  | .netAddrSet h p => some (cmdNetAddrSet, h, p)
  | .netFilterSet h p => some (cmdNetFilterSet, h, p)
  | .netStatusGet h p => some (cmdNetStatusGet, h, p)
  | .netHostRx h p => some (cmdNetHostRx, h, p)
  | .netHostTx h p => some (cmdNetHostTx, h, p)
  | .mdioAccess h p => some (cmdMdioAccess, h, p)
  | .streamSet h p => some (cmdStreamSet, h, p)
  | .streamEnable h p => some (cmdStreamEnable, h, p)
  | .streamStatusGet h p => some (cmdStreamStatusGet, h, p)
  | .timePtpSet h p => some (cmdTimePtpSet, h, p)
  | .timeServoSet h p => some (cmdTimeServoSet, h, p)
  | .timeStep h p => some (cmdTimeStep, h, p)
  | .timeSourceSet h p => some (cmdTimeSourceSet, h, p)
  | .timeStatusGet h p => some (cmdTimeStatusGet, h, p)
  | .tsAdjSet h p => some (cmdTsAdjSet, h, p)
  | .syncOutSet h p => some (cmdSyncOutSet, h, p)
  | .capSet h p => some (cmdCapSet, h, p)
  | .capRead h p => some (cmdCapRead, h, p)
  | .micCfg h p => some (cmdMicCfg, h, p)
  | .compLoad h p => some (cmdCompLoad, h, p)
  | .compSwap h p => some (cmdCompSwap, h, p)
  | .micDetMap h p => some (cmdMicDetMap, h, p)
  | .micMeterGet h p => some (cmdMicMeterGet, h, p)
  | .genSet h p => some (cmdGenSet, h, p)
  | .genDrive h p => some (cmdGenDrive, h, p)
  | .genStart h p => some (cmdGenStart, h, p)
  | .genStop h p => some (cmdGenStop, h, p)
  | .genRelease h p => some (cmdGenRelease, h, p)
  | .captureSet h p => some (cmdCaptureSet, h, p)
  | .captureStart h p => some (cmdCaptureStart, h, p)
  | .captureStop h p => some (cmdCaptureStop, h, p)
  | .captureRead h p => some (cmdCaptureRead, h, p)
  | .captureRelease h p => some (cmdCaptureRelease, h, p)
  | .facetTaskLoad h p => some (cmdFacetTaskLoad, h, p)
  | .facetTaskSet h p => some (cmdFacetTaskSet, h, p)
  | .facetChanSet h p => some (cmdFacetChanSet, h, p)
  | .facetTaskEnable h p => some (cmdFacetTaskEnable, h, p)
  | .facetStageSet h p => some (cmdFacetStageSet, h, p)
  | .facetStatusGet h p => some (cmdFacetStatusGet, h, p)
  | .facetTaskUnload h p => some (cmdFacetTaskUnload, h, p)
  | .schedCfgSet h p => some (cmdSchedCfgSet, h, p)
  | .taskSubmit h p => some (cmdTaskSubmit, h, p)
  | .timerSet h p => some (cmdTimerSet, h, p)
  | .schedStatusGet h p => some (cmdSchedStatusGet, h, p)
  | .testgenSet h p => some (cmdTestgenSet, h, p)
  | .mirrorCfg h p => some (cmdMirrorCfg, h, p)
  | .handover h p => some (cmdHandover, h, p)
  | .mirrorReady h p => some (cmdMirrorReady, h, p)
  | .mirrorStatusGet h p => some (cmdMirrorStatusGet, h, p)
  | .hierCfg h p => some (cmdHierCfg, h, p)
  | .hierStatusGet h p => some (cmdHierStatusGet, h, p)
  | .counterRead h p => some (cmdCounterRead, h, p)
  | .perfCfg h p => some (cmdPerfCfg, h, p)
  | .perfRead h p => some (cmdPerfRead, h, p)
  | .traceCfg h p => some (cmdTraceCfg, h, p)
  | .traceRead h p => some (cmdTraceRead, h, p)
  | .dumpInfo h p => some (cmdDumpInfo, h, p)
  | .dumpRead h p => some (cmdDumpRead, h, p)
  | .dumpClear h p => some (cmdDumpClear, h, p)
  | .eventMaskSet h p => some (cmdEventMaskSet, h, p)
  | _ => none

/-- The bytes an instruction of classes 0x0 to 0x8 stores for task t: the words its effect names, in the X and Y regions on the task's core (R270). -/
def FEff.words (t : FTask) : FEff → List Nat
  | .none => []
  | .store y o _ => [facetWin t.core + (if y then 0x10000 + 4 * t.yBase else 4 * t.xBase) + 4 * o]
  | .store2 y o _ y2 o2 _ =>
    [facetWin t.core + (if y then 0x10000 + 4 * t.yBase else 4 * t.xBase) + 4 * o
      , facetWin t.core + (if y2 then 0x10000 + 4 * t.yBase else 4 * t.xBase) + 4 * o2]

end Sys2Proof.Machine
end

