-- ==== Sys2Proof/Certificates/Slice0/Obligations.lean ====
section
/-! DEFINITION. The statements for the provers: what the commands of the block do, family by family, and what every step keeps. -/

open Sys2Proof Sys2Proof.Machine

/-- SYS_INFO, BOOT_GO and the firmware update commands complete with the state and response the rules give (R397, R377, R378, R376,
R390, R401). For every state in which firmware serves the command (for BOOT_GO: the boot ROM waits for it and the image in TCM
passes its checks) and every payload that passes the command's checks, exec answers a next state. SYS_INFO and FW_STATUS answer OK
with their bytes and change nothing but the mailbox; FW_STAGE takes its chunk and answers ACCEPTED; FW_COMMIT writes the unused boot
record with the TRIAL flag, remembers whether the floor is to be raised, and answers OK; BOOT_GO enters the image and answers OK,
recording nothing. -/
def Obligations.SystemAndUpdateCommands : Prop :=
  (∀ (h : Hdr) (s : State), s.Serves modesAll →
    exec (.sysInfo h []) s = .next ((s.taken h 0x0002).respond h 0x0002 [] (Resp.ok s.sysInfo))) ∧
  (∀ (h : Hdr) (s : State), s.Serves modesAny →
    exec (.fwStatus h []) s = .next ((s.taken h 0x0012).respond h 0x0012 [] (Resp.ok s.fwStatus))) ∧
  (∀ (h : Hdr) (p : Bytes) (s : State), s.Serves modesAny → p.length = 20 → s.BulkRoom →
    s.stageRange (u32At p 0) (u32At p 4) (bufAt p 8) = none → (s.sys.bootSlot ≠ 2 ∨ s.sec.flashFitted = true) →
    (u32At p 0 = 0 ∨ s.stagingNow.map (·.got) = some (u32At p 0)) →
    exec (.fwStage h p) s = .next
      (((s.taken h 0x0010).stageChunk h (u32At p 0) (u32At p 4) ((s.taken h 0x0010).bufRead (bufAt p 8) (bufAt p 8).len)).respond
        h 0x0010 p Resp.accepted)) ∧
  (∀ (h : Hdr) (p : Bytes) (s : State) (g : Staging), s.Serves modesAny → p.length = 4 → s.sec.staging = some g → g.state = 2 →
    exec (.fwCommit h p) s = .next
      ((((s.taken h 0x0011).writeBootRec g.slot true).onSec (fun x => { x with raiseFloor := bitOf (u8At p 0) 0 })).respond
        h 0x0011 p Resp.ok)) ∧
  (∀ (h : Hdr) (s : State), s.sys.phase = .running → s.sys.hostBootWait = true →
    s.imageError (mread s.mem tcmBase 256) (mread s.mem (tcmBase + 256)) = 0 →
    exec (.bootGo h []) s = .next
      ((s.enterImage 2 false (mread s.mem tcmBase 256) (mread s.mem (tcmBase + 256) (u32At (mread s.mem tcmBase 256) 12))).respondUnrecorded
        { h with notify := false } 0x0001 Resp.ok))

/-- MODE_SET, RATE_SET, SYS_RESET, DEBUG_CHALLENGE and DEBUG_UNLOCK complete as the rules give (R403, R404, R405, R406, R407, R380,
R390, R401). For every state in which firmware serves the command and every payload that passes its checks: MODE_SET to the mode in
force answers OK; to a live mode from PARK, or to PARK from a live mode, it is accepted and the change is requested; RATE_SET puts
the rate in force; SYS_RESET is due 24,576 ticks later; DEBUG_CHALLENGE answers a nonce and the unique ID; DEBUG_UNLOCK with a valid
signature unlocks and uses up the nonce. -/
def Obligations.ModeRateResetDebugCommands : Prop :=
  (∀ (h : Hdr) (p : Bytes) (s : State) (m : Mode), s.Serves [.park, .measure, .render] → p.length = 4 → modeOf (u8At p 0) = some m →
    s.sys.modeReq = none → m = s.sys.mode →
    exec (.modeSet h p) s = .next ((s.taken h 0x0003).respond h 0x0003 p Resp.ok)) ∧
  (∀ (h : Hdr) (p : Bytes) (s : State) (m : Mode), s.Serves [.park] → p.length = 4 → modeOf (u8At p 0) = some m → m ≠ .park →
    s.sys.modeReq = none → firstBad (s.taken h 0x0003).leaveChecks = none →
    exec (.modeSet h p) s = .next (((s.taken h 0x0003).startChange h m).respond h 0x0003 p Resp.accepted)) ∧
  (∀ (h : Hdr) (p : Bytes) (s : State), s.Serves [.measure, .render] → p.length = 4 → u8At p 0 = 2 → s.sys.modeReq = none →
    exec (.modeSet h p) s = .next (((s.taken h 0x0003).startChange h .park).respond h 0x0003 p Resp.accepted)) ∧
  (∀ (h : Hdr) (p : Bytes) (s : State), s.Serves [.park] → p.length = 4 → u8At p 0 ≤ 1 →
    (u8At p 0 = 1 → s.highBus = false ∧ s.highGrant = false) →
    ((s.taken h 0x0004).atRate (u8At p 0 == 1)).badCtx = false → ((s.taken h 0x0004).atRate (u8At p 0 == 1)).badGroup = false →
    exec (.rateSet h p) s = .next (((s.taken h 0x0004).rateSet (u8At p 0 == 1)).respond h 0x0004 p Resp.ok)) ∧
  (∀ (h : Hdr) (p : Bytes) (s : State), s.Serves modesAny → p.length = 4 → u8At p 0 = 1 →
    exec (.sysReset h p) s = .next
      (((s.taken h 0x0005).onSys (fun x => { x with sysResetDue := some (s.time.eventTick + 24576) })).respond h 0x0005 p Resp.ok)) ∧
  (∀ (h : Hdr) (s : State), s.Serves modesAny → s.debugRefused = none →
    exec (.debugChallenge h []) s = .next
      (((s.taken h 0x0018).fresh.onSec (fun x => { x with nonce := some (s.taken h 0x0018).freshNonce })).respond h 0x0018 []
        (Resp.ok ((s.taken h 0x0018).freshNonce ++ le64 s.sec.uniqueId)))) ∧
  (∀ (h : Hdr) (p : Bytes) (s : State), s.Serves modesAny → p.length = 132 → s.debugRefused = none → u8At p 0 ≤ 3 → s.unlockOk p = true →
    exec (.debugUnlock h p) s = .next
      (((((s.taken h 0x0019).onSec (fun x => { x with nonce := none })).onSec (fun x => { x with unlocked := true })).noteDev
        (s.taken h 0x0019)).respond h 0x0019 p Resp.ok))

/-- HOST_REGION_SET, CLAIM_LIST and the five DDR commands complete as the rules give (R383, R396, R361, R363, R365, R368, R407, R401).
For every state in which firmware serves the command and every payload that passes its checks: HOST_REGION_SET places a region of
the asked size (or answers at once when it has it) and answers the units placed; CLAIM_LIST answers the number of claims and up to
40 claims from the given ID (that only claimed resources are listed is the model's reading, log entry 46); DDR_SPEED_SET to the rate
in force with none deferred answers OK, otherwise it is accepted with its sweep, or deferred while one runs; DDR_CAL starts a sweep;
DDR_KEEP_SET and DDR_GUARD_SET write their registers; DDR_STATUS_GET answers its 44 bytes and clears the sticky bits if asked. -/
def Obligations.HostRegionAndDramCommands : Prop :=
  (∀ (h : Hdr) (p : Bytes) (s : State), s.Serves modesAny → p.length = 4 → u16At p 0 ≤ 128 →
    s.mbx.bulk.any (fun j => j.buf.space == 2) = false → u16At p 0 = s.host.regionUnits →
    exec (.hostRegionSet h p) s = .next ((s.taken h 0x0020).respond h 0x0020 p (Resp.ok (le16 (u16At p 0) ++ zeros 2)))) ∧
  (∀ (h : Hdr) (p : Bytes) (s t : State), s.Serves modesAny → p.length = 4 → u16At p 0 ≤ 128 →
    s.mbx.bulk.any (fun j => j.buf.space == 2) = false → u16At p 0 ≠ s.host.regionUnits →
    (s.taken h 0x0020).placeHost (u16At p 0) = some t →
    exec (.hostRegionSet h p) s = .next (t.respond h 0x0020 p (Resp.ok (le16 (u16At p 0) ++ zeros 2)))) ∧
  (∀ (h : Hdr) (p : Bytes) (s : State), s.Serves modesAny → p.length = 4 →
    exec (.claimList h p) s = .next ((s.taken h 0x0021).respond h 0x0021 p
      (Resp.ok (le8 (s.claimsFrom (u16At p 0)).length ++ zeros 3
        ++ (s.claimsFrom (u16At p 0)).flatMap (fun r => le16 r ++ le8 (s.owner r) ++ le8 0))))) ∧
  (∀ (h : Hdr) (p : Bytes) (s : State), s.Serves [.park] → p.length = 4 → u8At p 0 ≤ 1 → u8At p 0 = s.ddrc.rate → s.ddrc.deferred = none →
    exec (.ddrSpeedSet h p) s = .next ((s.taken h 0x0030).respond h 0x0030 p Resp.ok)) ∧
  (∀ (h : Hdr) (p : Bytes) (s : State), s.Serves [.park] → p.length = 4 → u8At p 0 ≤ 1 → u8At p 0 ≠ s.ddrc.rate → s.ddrc.deferred = none →
    s.ddrc.sweep = none →
    exec (.ddrSpeedSet h p) s = .next ((((((s.taken h 0x0030).newJob h 0x0030 1).onDdrc (fun x => { x with rate := u8At p 0 })).startSweep
      1 [s.mbx.nextJob])).respond h 0x0030 p Resp.accepted)) ∧
  (∀ (h : Hdr) (p : Bytes) (s : State), s.Serves [.park] → p.length = 4 → u8At p 0 ≤ 1 →
    (u8At p 0 ≠ s.ddrc.rate ∨ s.ddrc.deferred ≠ none) → s.ddrc.sweep ≠ none →
    exec (.ddrSpeedSet h p) s = .next (((((s.taken h 0x0030).dropDeferred).newJob h 0x0030 1).onDdrc (fun x =>
      { x with deferred := some (u8At p 0, ((s.taken h 0x0030).dropDeferred).mbx.nextJob) })).respond h 0x0030 p Resp.accepted)) ∧
  (∀ (h : Hdr) (s : State), s.Serves [.park] → s.ddrc.sweep = none → s.ddrc.deferred = none →
    exec (.ddrCal h []) s = .next (((((s.taken h 0x0031).newJob h 0x0031 1)).startSweep 2 [s.mbx.nextJob]).respond h 0x0031 [] Resp.accepted)) ∧
  (∀ (h : Hdr) (p : Bytes) (s : State), s.Serves modesCfg → p.length = 4 → u8At p 0 ≤ 127 → s.persistentUnits ≤ s.keepRoom (u8At p 0) →
    exec (.ddrKeepSet h p) s = .next (((s.taken h 0x0032).setFld Reg.DDRC_KEEP 6 0 (u8At p 0)).respond h 0x0032 p Resp.ok)) ∧
  (∀ (h : Hdr) (p : Bytes) (s : State), s.Serves modesCfg → p.length = 4 → 1024 ≤ u16At p 0 →
    exec (.ddrGuardSet h p) s = .next (((s.taken h 0x0033).wr Reg.DDRC_ROWGUARD (u16At p 0)).respond h 0x0033 p Resp.ok)) ∧
  (∀ (h : Hdr) (p : Bytes) (s : State), s.Serves modesAny → p.length = 4 →
    exec (.ddrStatusGet h p) s = .next ((if bitOf (u8At p 0) 0 then (s.taken h 0x0034).wr Reg.DDRC_INT_STATUS 0 else s.taken h 0x0034).respond
      h 0x0034 p (Resp.ok (s.taken h 0x0034).ddrStatus)))

/-- LAYOUT_LOAD, LAYOUT_COMMIT, AIR_SET, OBJECT_UPDATE, OBJECT_DIRECT_SET and OBJECT_STATUS complete as the rules give (R39, R40, R48,
R49, R60, R72, R408, R409, R39). For every state in which firmware serves the command and every payload that passes its checks:
LAYOUT_LOAD stages the layout the buffer holds; LAYOUT_COMMIT exchanges the layouts at once in PARK and MEASURE and waits for the
next setup in RENDER and MIRROR; AIR_SET starts a ramp of 64 setups to 331.3 + 0.0606 T m/s (T in 0.1 degrees); OBJECT_UPDATE judges
its records in order and answers the counts; OBJECT_DIRECT_SET replaces the object's list, inline or from a buffer; OBJECT_STATUS
answers the words and clears the sticky ones on request. -/
def Obligations.SceneAndObjectCommands : Prop :=
  (∀ (h : Hdr) (p d : Bytes) (s : State), s.Serves modesCfg → p.length = 12 → s.BulkRoom → s.bufOk (bufAt p 0) = true →
    (bufAt p 0).len ≤ 275008 → (s.taken h 0x1001).bufRead (bufAt p 0) (bufAt p 0).len = d →
    layoutBad d (bufAt p 0).len s.busCount = none → s.commitHeld = false →
    exec (.layoutLoad h p) s = .next
      (((s.taken h 0x1001).onScene (fun x => { x with loadAt := none, staged := some (layoutAt d) })).respond h 0x1001 p (Resp.ok (le32 (u32At d 36))))) ∧
  (∀ (h : Hdr) (s : State) (l : Layout), s.Serves modesCfg → s.rendering = true → s.scene.commitWait = false → s.scene.staged = some l →
    exec (.layoutCommit h []) s = .next
      (((s.taken h 0x1002).onScene (fun x => { x with commitWait := true })).respond h 0x1002 [] (Resp.ok (le32 l.tag)))) ∧
  (∀ (h : Hdr) (s : State) (l : Layout), s.Serves modesCfg → s.rendering = false → s.scene.commitWait = false → s.scene.staged = some l →
    exec (.layoutCommit h []) s = .next
      (((s.taken h 0x1002).onScene (fun x => { x with active := some l, staged := s.scene.active, commitWait := false })).respond
        h 0x1002 [] (Resp.ok (le32 l.tag)))) ∧
  (∀ (h : Hdr) (p : Bytes) (s : State), s.Serves modesCfg → p.length = 4 → -200 ≤ s16At p 0 → s16At p 0 ≤ 500 →
    exec (.airSet h p) s = .next
      (((s.taken h 0x1010).onScene (fun x =>
        { x with airT := s16At p 0, cTarget := (3313000 + 606 * s16At p 0) * 2 ^ 32, cLeft := 64 })).respond h 0x1010 p Resp.ok)) ∧
  (∀ (h : Hdr) (p : Bytes) (s : State), s.Serves modesScn → lenEntries 0 32 7 p = true →
    exec (.objectUpdate h p) s = .next
      (((s.taken h 0x1100).judgeAll 0 false ((entries 32 p).map recAt)).1.respond h 0x1100 p
        (Resp.ok (let n := ((s.taken h 0x1100).judgeAll 0 false ((entries 32 p).map recAt)).2
          le16 n.1 ++ le16 n.2.1 ++ le16 n.2.2 ++ zeros 2)))) ∧
  (∀ (h : Hdr) (p : Bytes) (s : State), s.Serves modesScn → u16At p 2 ≤ 58 → p.length = 8 + 4 * u16At p 2 → u16At p 0 ≤ 1023 →
    badEntry (entries 4 (p.drop 8)) (directBad s.busCount 8 (entries 4 (p.drop 8))) = none →
    exec (.objectDirectSet h p) s = .next
      (((s.taken h 0x1101).setObj (u16At p 0) { s.obj (u16At p 0) with
        direct := (entries 4 (p.drop 8)).map (fun e => (u16At e 0, s16At e 2)) }).respond h 0x1101 p Resp.ok)) ∧
  (∀ (h : Hdr) (p : Bytes) (s : State) (es : List Bytes), s.Serves modesScn → 58 < u16At p 2 → u16At p 2 ≤ 256 → p.length = 20 → s.BulkRoom →
    u16At p 0 ≤ 1023 → s.bufOk (bufAt p 8) = true → (bufAt p 8).len = 4 * u16At p 2 →
    es = entries 4 ((s.taken h 0x1101).bufRead (bufAt p 8) (bufAt p 8).len) → badEntry es (directBad s.busCount 0 es) = none →
    exec (.objectDirectSet h p) s = .next
      (((s.taken h 0x1101).setObj (u16At p 0) { s.obj (u16At p 0) with
        direct := es.map (fun e => (u16At e 0, s16At e 2)) }).respond h 0x1101 p Resp.ok)) ∧
  (∀ (h : Hdr) (p : Bytes) (s : State) (ids : List Nat), s.Serves modesAny → p.length = 8 → 1 ≤ u16At p 2 → u16At p 2 ≤ 56 →
    u16At p 0 + u16At p 2 ≤ 1024 → ids = (List.range (u16At p 2)).map (· + u16At p 0) →
    exec (.objectStatus h p) s = .next
      ((if bitOf (u8At p 4) 0 then (s.taken h 0x1102).each ids (fun t j => t.setObj j { t.obj j with sticky := 0 }) else s.taken h 0x1102).respond
        h 0x1102 p (Resp.ok (ids.flatMap (fun j => le16 (s.obj j).word ++ le16 (s.obj j).sticky)))))

/-- INPUT_MAP_SET, OUTPUT_MAP_SET, SCENE_RX_SET, META_CFG_SET, TRAJ_MODEL_SET and OBJECT_RELEASE complete as the rules give (R70, R73,
R75, R76, R77, R107, R113, R128, R410). For every state in which firmware serves the command and every payload whose entries all
pass their checks: the maps' changes wait for the next input assembly or output serialisation; a listener is set and its group
joined; META_CFG_SET waits for the next boundary; TRAJ_MODEL_SET sets each object's model; OBJECT_RELEASE releases each object. Each
answers OK. -/
def Obligations.MapListenerAndModelCommands : Prop :=
  (∀ (h : Hdr) (p : Bytes) (s : State), s.Serves modesScn → lenEntries 0 6 40 p = true →
    (∀ e ∈ entries 6 p, u16At e 0 ≤ 1023 ∧ u8At e 2 ≤ 4 ∧ u16At e 4 < sourceLimit (u8At e 2)) →
    exec (.inputMapSet h p) s = .next (((s.taken h 0x1200).onScene (fun x =>
      { x with inputNew := (entries 6 p).foldl (fun t e => tput t (u16At e 0) (sourceAt e 2)) x.inputNew })).respond h 0x1200 p Resp.ok)) ∧
  (∀ (h : Hdr) (p : Bytes) (s : State), s.Serves modesCfg → lenEntries 0 20 12 p = true →
    badEntry (entries 20 p) (outEntryBad s.busCount (entries 20 p)) = none →
    outConflict s.outputLast ((entries 20 p).foldl (fun t e => tset [] t (u16At e 0) (entryDests e)) s.outputLast) (entries 20 p) = none →
    exec (.outputMapSet h p) s = .next (((s.taken h 0x1201).onScene (fun x =>
      { x with outputNew := (entries 20 p).foldl (fun t e => tput t (u16At e 0) (entryDests e)) x.outputNew })).respond h 0x1201 p Resp.ok)) ∧
  (∀ (h : Hdr) (p : Bytes) (s : State), s.Serves modesCfg → lenEntries 0 8 4 p = true → (∀ e ∈ entries 8 p, u8At e 0 ≤ 3) →
    (s.hier.role = 2 → ∀ e ∈ entries 8 p, u8At e 0 ≤ 1) →
    exec (.sceneRxSet h p) s = .next ((((s.taken h 0x1300).each (entries 8 p) (fun t e => t.hashIn (u32At e 4))).onScene (fun x =>
      { x with listeners := (entries 8 p).foldl (fun t e => tput t (u8At e 0) ⟨u8At e 1 != 0, u32At e 4, u16At e 2⟩) x.listeners })).respond
        h 0x1300 p Resp.ok)) ∧
  (∀ (h : Hdr) (p : Bytes) (s : State), s.Serves modesCfg → p.length = 4 → 1 ≤ u8At p 0 → u8At p 0 ≤ 48 → 1 ≤ u8At p 1 → u8At p 1 ≤ 64 →
    1 ≤ u16At p 2 →
    exec (.metaCfgSet h p) s = .next
      (((s.taken h 0x1500).onScene (fun x => { x with cfgNew := some (u8At p 0, u8At p 1, u16At p 2) })).respond h 0x1500 p Resp.ok)) ∧
  (∀ (h : Hdr) (p : Bytes) (s : State), s.Serves modesScn → lenEntries 0 4 60 p = true →
    (∀ e ∈ entries 4 p, u16At e 0 ≤ 1023 ∧ u8At e 2 ≤ 1) →
    exec (.trajModelSet h p) s = .next (((s.taken h 0x1501).each (entries 4 p) (fun t e =>
      t.setObj (u16At e 0) { t.obj (u16At e 0) with second := u8At e 2 == 1 })).respond h 0x1501 p Resp.ok)) ∧
  (∀ (h : Hdr) (p : Bytes) (s : State), s.Serves modesScn → lenEntries 0 2 120 p = true → (∀ e ∈ entries 2 p, u16At e 0 ≤ 1023) →
    exec (.objectRelease h p) s = .next
      (((s.taken h 0x1502).each (entries 2 p) (fun t e => t.release (u16At e 0))).respond h 0x1502 p Resp.ok))

/-- PRISM_HALF_SET, ALIGN_DELAY_SET, PRISM_AIR_SET, PRISM_XFADE_SET, PRISM_STATUS_GET and PLACEMENT_REPORT complete as the rules give
(R90, R91, R92, R98, R99, R100, R101, R127, R410, R401). For every state in which firmware serves the command and every payload that
passes its checks: PRISM_HALF_SET records the state in PARK, answers OK when it is already in force, and otherwise starts the change
and is accepted; ALIGN_DELAY_SET puts the delays in force at once in PARK, and otherwise handles its entries under one job; the
Prism settings are written; PRISM_STATUS_GET and PLACEMENT_REPORT answer their bytes or write their records to the buffer. -/
def Obligations.PathEngineCommands : Prop :=
  (∀ (h : Hdr) (p : Bytes) (s : State), s.Serves [.park] → p.length = 4 → u8At p 0 ≤ 1 → s.sys.orderIL = false → s.prism.halfChange = none →
    exec (.prismHalfSet h p) s = .next
      ((((s.taken h 0x1400).onPrism (fun x => { x with halfRecorded := u8At p 0 == 1 })).halfPower).respond h 0x1400 p Resp.ok)) ∧
  (∀ (h : Hdr) (p : Bytes) (s : State), s.Serves [.render, .mirror] → p.length = 4 → u8At p 0 ≤ 1 → s.sys.orderIL = false →
    s.prism.halfChange = none → (u8At p 0 == 1) = s.prism.half →
    exec (.prismHalfSet h p) s = .next ((s.taken h 0x1400).respond h 0x1400 p Resp.ok)) ∧
  (∀ (h : Hdr) (p : Bytes) (s : State), s.Serves [.render, .mirror] → p.length = 4 → u8At p 0 ≤ 1 → s.sys.orderIL = false →
    s.prism.halfChange = none → (u8At p 0 == 1) ≠ s.prism.half → (u8At p 0 = 0 → s.halfTooFull = false) →
    exec (.prismHalfSet h p) s = .next (((s.taken h 0x1400).startHalf h (u8At p 0 == 1)).respond h 0x1400 p Resp.accepted)) ∧
  (∀ (h : Hdr) (p : Bytes) (s : State), s.Serves [.park] → lenEntries 0 4 40 p = true → (∀ e ∈ entries 4 p, u16At e 0 ≤ 1023) →
    exec (.alignDelaySet h p) s = .next (((s.taken h 0x1401).alignPark (entries 4 p)).respond h 0x1401 p Resp.ok)) ∧
  (∀ (h : Hdr) (p : Bytes) (s t : State), s.Serves [.render, .mirror] → lenEntries 0 4 40 p = true →
    (∀ e ∈ entries 4 p, u16At e 0 ≤ 1023) →
    ((s.taken h 0x1401).newJob h 0x1401 1 (zeros 4)).alignAll s.mbx.nextJob (entries 4 p) = some t →
    exec (.alignDelaySet h p) s = .next
      ((t.settleJob s.mbx.nextJob).1.respond h 0x1401 p (t.settleJob s.mbx.nextJob).2)) ∧
  (∀ (h : Hdr) (p : Bytes) (s : State), s.Serves modesCfg → p.length = 4 → u16At p 0 ≤ 1000 →
    exec (.prismAirSet h p) s = .next (((s.taken h 0x1402).setFld Reg.PRISM_AIR 9 0 (u16At p 0)).respond h 0x1402 p Resp.ok)) ∧
  (∀ (h : Hdr) (p : Bytes) (s : State), s.Serves modesCfg → p.length = 4 → 1 ≤ u16At p 0 →
    exec (.prismXfadeSet h p) s = .next (((s.taken h 0x1403).setFld Reg.PRISM_XFADE_STEP 15 0 (u16At p 0)).respond h 0x1403 p Resp.ok)) ∧
  (∀ (h : Hdr) (s : State), s.Serves modesAny →
    exec (.prismStatusGet h []) s = .next ((s.taken h 0x1404).respond h 0x1404 []
      (Resp.ok (le32 s.pathBudget ++ le32 s.prism.paths.length ++ le16 s.xfadeReads ++ le16 s.xfadeAllow ++ le8 s.halfCode
        ++ le8 (b2n s.time.rate96) ++ zeros 2 ++ (List.range 6).flatMap (fun n => le32 ((s.taken h 0x1404).rd (Reg.PRISM_CNT n))))))) ∧
  (∀ (h : Hdr) (p : Bytes) (s : State), s.Serves modesAny → p.length = 20 → u8At p 0 = 0 →
    exec (.placementReport h p) s = .next ((s.taken h 0x1503).respond h 0x1503 p (Resp.ok s.placeSummary))) ∧
  (∀ (h : Hdr) (p : Bytes) (s : State), s.Serves modesAny → p.length = 20 → s.BulkRoom → (u8At p 0 = 1 ∨ u8At p 0 = 2) → 1 ≤ u16At p 4 →
    u16At p 2 + u16At p 4 ≤ (if u8At p 0 = 1 then 1024 else s.busCount) → s.bufOk (bufAt p 8) = true →
    (if u8At p 0 = 1 then 16 else 8) * u16At p 4 ≤ (bufAt p 8).len →
    exec (.placementReport h p) s = .next
      (((s.taken h 0x1503).bufWrite (bufAt p 8) (((List.range (u16At p 4)).map (· + u16At p 2)).flatMap
        (if u8At p 0 = 1 then s.placeObject else s.placeBus))).respond h 0x1503 p (Resp.ok (le16 (u16At p 4) ++ zeros 2))))

/-- LENS_TRIM_SET, LENS_LIMIT_SET, LENS_DET_SET, LENS_DET_MAP, LENS_METER_GET and LENS_STATUS_GET complete as the rules give (R131,
R147, R148, R153, R411, R398). For every state in which firmware serves the command and every payload whose fields lie in their
ranges: each trim entry sets its bus's trim and polarity and starts its ramp; each limiter entry sets its bus's limiter; a detector
profile is replaced; buses are mapped to profiles; the two reports answer one record per bus of the range and change nothing but the
mailbox. Each answers OK. -/
def Obligations.LensSettingAndReportCommands : Prop :=
  (∀ (h : Hdr) (p : Bytes) (s : State), s.Serves modesCfg → lenEntries 4 8 29 p = true → 1 ≤ u16At p 0 → u16At p 0 ≤ 1024 →
    (∀ e ∈ entries 8 (p.drop 4), u16At e 0 < s.busCount ∧ (s16At e 2 = -32768 ∨ (-12000 ≤ s16At e 2 ∧ s16At e 2 ≤ 2400)) ∧ u8At e 4 ≤ 1) →
    exec (.lensTrimSet h p) s = .next
      (((s.taken h 0x2004).each (entries 8 (p.drop 4)) (fun t e => t.trimEntry (u16At p 0) e)).respond h 0x2004 p Resp.ok)) ∧
  (∀ (h : Hdr) (p : Bytes) (s : State), s.Serves modesCfg → lenEntries 4 12 19 p = true →
    (∀ e ∈ entries 12 (p.drop 4), u16At e 0 < s.busCount ∧ u8At e 2 ≤ 1 ∧ u8At e 3 ≤ 48 ∧ -6000 ≤ s16At e 4 ∧ s16At e 4 ≤ 0 ∧
      1 ≤ u16At e 6 ∧ u16At e 6 ≤ 10000 ∧ 50 ≤ u32At e 8 ∧ u32At e 8 ≤ 100000) →
    exec (.lensLimitSet h p) s = .next (((s.taken h 0x2005).each (entries 12 (p.drop 4)) (fun t e =>
      t.setLensBus (u16At e 0) { t.lensBus (u16At e 0) with
        limEn := u8At e 2 == 1, knee := u8At e 3, thr := s16At e 4, release := u16At e 6, attack := u32At e 8 })).respond h 0x2005 p Resp.ok)) ∧
  (∀ (h : Hdr) (p : Bytes) (s : State) (d : DetProfile), s.Serves modesCfg → p.length = 16 → u8At p 0 ≤ 7 → u16At p 4 ≤ 10000 →
    1 ≤ u16At p 6 → u16At p 6 ≤ 10000 → 1 ≤ u16At p 8 → u16At p 8 ≤ 10000 → 1 ≤ u16At p 10 → u16At p 10 ≤ 1000 →
    1 ≤ u16At p 12 → u16At p 12 ≤ 10000 → d = ⟨u16At p 4, u16At p 6, u16At p 8, u16At p 10, u16At p 12⟩ →
    exec (.lensDetSet h p) s = .next (((s.taken h 0x2006).onLens (fun x => { x with profiles := tset DetProfile.init x.profiles (u8At p 0) d })).respond h 0x2006 p Resp.ok)) ∧
  (∀ (h : Hdr) (p : Bytes) (s : State), s.Serves modesCfg → lenEntries 0 4 60 p = true →
    (∀ e ∈ entries 4 p, u16At e 0 < s.busCount ∧ u8At e 2 ≤ 7) →
    exec (.lensDetMap h p) s = .next (((s.taken h 0x2007).each (entries 4 p) (fun t e =>
      t.setLensBus (u16At e 0) { t.lensBus (u16At e 0) with profile := u8At e 2 })).respond h 0x2007 p Resp.ok)) ∧
  (∀ (h : Hdr) (p : Bytes) (s : State), s.Serves modesAny → p.length = 4 → 1 ≤ u16At p 2 → u16At p 2 ≤ 30 →
    u16At p 0 + u16At p 2 ≤ s.busCount →
    exec (.lensMeterGet h p) s = .next ((s.taken h 0x2008).respond h 0x2008 p
      (Resp.ok ((List.range (u16At p 2)).flatMap (fun i => (s.lensBus (u16At p 0 + i)).meter)))) ∧
    exec (.lensStatusGet h p) s = .next ((s.taken h 0x2009).respond h 0x2009 p
      (Resp.ok ((List.range (u16At p 2)).flatMap (fun i =>
        le32 ((s.lensBus (u16At p 0 + i)).word s.time.rate96) ++ le32 (s.lensBus (u16At p 0 + i)).tag)))))

/-- LENS_BANK_LOAD, LENS_SWAP and LENS_TAIL_SET complete as the rules give, in PARK and in the live modes (R135, R136, R142, R145, R150,
R151, R153, R401, R451). For every state in which firmware serves the command and every payload that passes its checks in their
order: a bank load starts under a job and is accepted; swaps take effect at once in PARK, and elsewhere each entry joins the queue,
replaces or cancels a waiting request, or is held, under one job; tail grants are recorded at once in PARK and elsewhere wait for
their tail block boundary, provided they fit the pool and the DRAM. -/
def Obligations.LensBankSwapAndGrantCommands : Prop :=
  (∀ (h : Hdr) (p d : Bytes) (is : List Bytes) (s : State), s.Serves modesCfg → p.length = 16 → s.BulkRoom → s.bufOk (bufAt p 4) = true →
    1 ≤ u16At p 0 → u16At p 0 ≤ 1024 → (s.taken h 0x2001).bufRead (bufAt p 4) (bufAt p 4).len = d → cutImages (u16At p 0) d = some is →
    s.imagesBad is = none → (s.sys.mode = .park → (s.taken h 0x2001).placeTails.isSome = true) →
    exec (.lensBankLoad h p) s = .next (((s.taken h 0x2001).startLoad h is).1.respond h 0x2001 p Resp.accepted)) ∧
  (∀ (h : Hdr) (p : Bytes) (s : State), s.Serves [.park] → p.length = 8 + 4 * u8At p 7 → 1 ≤ u16At p 4 → u16At p 4 ≤ 1024 →
    1 ≤ u8At p 7 → u8At p 7 ≤ 58 → badEntry (entries 4 (p.drop 8)) s.swapBad = none →
    (bitOf (u8At p 6) 0 = true → s.laterThanNext (u32At p 0 + 2 ^ 32 - 32) = true) → badEntry (entries 4 (p.drop 8)) s.swapState = none →
    exec (.lensSwap h p) s = .next (((s.taken h 0x2002).each (entries 4 (p.drop 8)) (fun t e =>
      t.setLensBus (u16At e 0) { t.lensBus (u16At e 0) with active := u8At e 2 })).respond h 0x2002 p Resp.ok)) ∧
  (∀ (h : Hdr) (p : Bytes) (s : State), s.Serves [.measure, .render, .mirror] → p.length = 8 + 4 * u8At p 7 → 1 ≤ u16At p 4 → u16At p 4 ≤ 1024 →
    1 ≤ u8At p 7 → u8At p 7 ≤ 58 → badEntry (entries 4 (p.drop 8)) s.swapBad = none →
    (bitOf (u8At p 6) 0 = true → s.laterThanNext (u32At p 0 + 2 ^ 32 - 32) = true) → badEntry (entries 4 (p.drop 8)) s.swapState = none →
    exec (.lensSwap h p) s = .next (((s.taken h 0x2002).swapLive h p (entries 4 (p.drop 8))).1.respond h 0x2002 p
      ((s.taken h 0x2002).swapLive h p (entries 4 (p.drop 8))).2)) ∧
  (∀ (h : Hdr) (p : Bytes) (s : State), s.Serves [.park] → lenEntries 0 4 60 p = true → badEntry (entries 4 p) s.tailBad = none →
    badEntry (entries 4 p) s.tailState = none →
    ((s.taken h 0x2003).each (entries 4 p) (fun t e => t.setLensBus (u16At e 0) ((t.lensBus (u16At e 0)).setParts (u16At e 2)))).grantSum
      ≤ s.tailPool →
    exec (.lensTailSet h p) s = .next (((s.taken h 0x2003).each (entries 4 p) (fun t e =>
      t.setLensBus (u16At e 0) ((t.lensBus (u16At e 0)).setParts (u16At e 2)))).respond h 0x2003 p Resp.ok)) ∧
  (∀ (h : Hdr) (p : Bytes) (s t : State), s.Serves [.measure, .render, .mirror] → lenEntries 0 4 60 p = true →
    badEntry (entries 4 p) s.tailBad = none → badEntry (entries 4 p) s.tailState = none →
    (((s.taken h 0x2003).newJob h 0x2003 1 (le32 (s.grantBlock % 2 ^ 32))).each (entries 4 p) (fun u e =>
      u.grantEntry s.grantBlock s.mbx.nextJob e)).placeTails = some t → t.grantSum ≤ s.tailPool →
    exec (.lensTailSet h p) s = .next ((t.settleJob s.mbx.nextJob).1.respond h 0x2003 p (t.settleJob s.mbx.nextJob).2))

/-- PORT_GROUP_SET, PORT_SET, PORT_ENABLE, PORT_MASK_SET and PORT_STATUS_GET complete as the rules give (R187, R188, R189, R197, R203,
R204, R205, R396). With u the state in which the command has been taken, for every state in which firmware serves it and every
payload whose checks pass in u: PORT_GROUP_SET writes the group's register, claims or releases the group and its ports and forms its
frames afresh; PORT_SET and PORT_MASK_SET apply their entries in order; PORT_ENABLE writes the enable bit of each selected port;
PORT_STATUS_GET answers a record per port and clears the sticky bits on request. Each answers OK. -/
def Obligations.PortCommands : Prop :=
  (∀ (h : Hdr) (p : Bytes) (s u : State), u = s.taken h 0x3001 → s.Serves modesCfg → p.length = 8 → (∀ e ∈ u.groupChecks p, e.1 = false) →
    u.groupFits p = none → (u.live = true → ∀ q ∈ grpPorts (u8At p 0), u.portEnabled q = false ∧ (u.port q).active = false) →
    u.conflict 1 (grpResources (u8At p 0)) = none →
    exec (.portGroupSet h p) s = .next ((u.groupSet p).respond h 0x3001 p Resp.ok)) ∧
  (∀ (h : Hdr) (p : Bytes) (s u : State), u = s.taken h 0x3002 → s.Serves modesCfg → lenEntries 0 8 30 p = true →
    (∀ e ∈ entries 8 p, u8At e 0 ≤ 63 ∧ u8At e 1 ≤ 1 ∧ isWidth (u8At e 2) = true ∧ u8At e 3 ≤ 1 ∧ u16At e 4 ≤ 1023) →
    badEntry (entries 8 p) (u.portFits (portSetAll u.portSettings (entries 8 p)) 8 [2, 4, 6]) = none →
    (∀ e ∈ entries 8 p, u.portRunning 0 e = none) → (∀ e ∈ entries 8 p, u.owner (u8At e 0) = 0 ∨ u.owner (u8At e 0) = 1) →
    exec (.portSet h p) s = .next ((u.each (entries 8 p) (fun t e => t.portSetOne e)).respond h 0x3002 p Resp.ok)) ∧
  (∀ (h : Hdr) (p : Bytes) (s u : State), u = s.taken h 0x3004 → s.Serves modesCfg → lenEntries 0 4 60 p = true →
    (∀ e ∈ entries 4 p, u8At e 0 ≤ 63) → badEntry (entries 4 p) (u.portFits (portMaskAll u.portSettings (entries 4 p)) 4 [2, 2, 2]) = none →
    (∀ e ∈ entries 4 p, u.owner (u8At e 0) = 0 ∨ u.owner (u8At e 0) = 1) →
    exec (.portMaskSet h p) s = .next ((u.each (entries 4 p) (fun t e =>
      t.maskWrite (u8At e 0) (u16At e 2) (t.bit (Reg.PORT_CFG (u8At e 0)) 29))).respond h 0x3004 p Resp.ok)) ∧
  (∀ (h : Hdr) (p : Bytes) (s u : State), u = s.taken h 0x3003 → s.Serves modesCfg → p.length = 16 →
    u.conflict 1 (selected (u64At p 0)) = none →
    exec (.portEnable h p) s = .next ((u.each (selected (u64At p 0)) (fun t q =>
      t.setFld (Reg.PORT_CFG q) 31 31 (b2n (bitOf (u64At p 8) q)))).respond h 0x3003 p Resp.ok)) ∧
  (∀ (h : Hdr) (p : Bytes) (s u : State), u = s.taken h 0x3005 → s.Serves modesAny → p.length = 4 → 1 ≤ u8At p 1 → u8At p 1 ≤ 16 →
    u8At p 0 + u8At p 1 ≤ 64 →
    exec (.portStatusGet h p) s = .next
      ((if bitOf (u8At p 2) 0 then u.each ((List.range (u8At p 1)).map (u8At p 0 + ·)) (fun t q => t.portClear q) else u).respond h 0x3005 p
        (Resp.ok (((List.range (u8At p 1)).map (u8At p 0 + ·)).flatMap u.portStatus))))

/-- NET_MODE_SET, NET_ADDR_SET, NET_FILTER_SET, NET_STATUS_GET, NET_HOST_RX, NET_HOST_TX and MDIO_ACCESS complete as the rules give
(R206, R207, R218, R241, R413, R414, R524). With u the state in which the command has been taken, for every state in which firmware
serves it and every payload whose checks pass: the mode, the addresses and the filters of the ports are set; NET_STATUS_GET answers
flags and counters; NET_HOST_RX moves frames from the host ring to the buffer and counts them; NET_HOST_TX queues the buffer's
frames in order; an MDIO write answers 0 and a read a free value. Each answers OK. -/
def Obligations.NetworkCommands : Prop :=
  (∀ (h : Hdr) (p : Bytes) (s u : State), u = s.taken h 0x4001 → s.Serves [.park] → p.length = 4 → u8At p 0 ≤ 1 → u8At p 1 ≤ 3 →
    exec (.netModeSet h p) s = .next ((u.each [0, 1] (fun t m => t.netModePort p m)).respond h 0x4001 p Resp.ok)) ∧
  (∀ (h : Hdr) (p : Bytes) (s u : State), u = s.taken h 0x4002 → s.Serves modesCfg → p.length = 32 → u8At p 12 ≤ 32 → u8At p 28 ≤ 32 →
    exec (.netAddrSet h p) s = .next ((u.each [0, 1] (fun t m => t.netAddrPort p m)).respond h 0x4002 p Resp.ok)) ∧
  (∀ (h : Hdr) (p : Bytes) (s u : State), u = s.taken h 0x4003 → s.Serves modesCfg → p.length = 2 + 4 * u8At p 1 → u8At p 0 ≤ 1 → u8At p 1 ≤ 8 →
    (∀ e ∈ entries 4 (p.drop 2), u8At e 0 ≤ 1 ∧ 2 ≤ u8At e 1 ∧ u8At e 1 ≤ 3) →
    exec (.netFilterSet h p) s = .next ((u.onMac (u8At p 0) (fun v =>
      { v with filters := (entries 4 (p.drop 2)).map (fun e => (u8At e 0, u8At e 1, u16At e 2)) })).respond h 0x4003 p Resp.ok)) ∧
  (∀ (h : Hdr) (p : Bytes) (s u : State), u = s.taken h 0x4004 → s.Serves modesAny → p.length = 4 → u8At p 0 ≤ 1 →
    exec (.netStatusGet h p) s = .next
      ((if bitOf (u8At p 1) 0 then u.wr (Reg.MAC_INT_STATUS (u8At p 0)) 0 else u).respond h 0x4004 p
        (Resp.ok (le8 (u.netFlags (u8At p 0)) ++ zeros 3 ++ (List.range 20).flatMap (fun n => le32 (u.rd (Reg.MAC_CNT (u8At p 0) n))))))) ∧
  (∀ (h : Hdr) (p d : Bytes) (n : Nat) (s u t : State), u = s.taken h 0x4005 → s.Serves modesCfg → p.length = 16 → s.BulkRoom → u8At p 0 ≤ 1 →
    u.bufOk (bufAt p 4) = true → u.hostTooLong (u8At p 0) (bufAt p 4).len = false →
    u.hostFrames (u8At p 0) (bufAt p 4).len 4096 = (t, n, d) →
    exec (.netHostRx h p) s = .next ((t.bufWrite (bufAt p 4) d).respond h 0x4005 p (Resp.ok (le16 n ++ zeros 2 ++ le32 d.length)))) ∧
  (∀ (h : Hdr) (p : Bytes) (fs : List Bytes) (s u : State), u = s.taken h 0x4006 → s.Serves modesCfg → p.length = 16 → s.BulkRoom → u8At p 0 ≤ 1 →
    u.bufOk (bufAt p 4) = true → (bufAt p 4).len ≠ 0 →
    hostTxFrames (u.txMax (u8At p 0)) (u.bufRead (bufAt p 4) (bufAt p 4).len) 0 0 65 = .inl fs →
    exec (.netHostTx h p) s = .next
      (((u.onMac (u8At p 0) (fun v => { v with hostTx := v.hostTx ++ fs })).hostSend (u8At p 0)).respond h 0x4006 p (Resp.ok (le16 fs.length ++ zeros 2)))) ∧
  (∀ (h : Hdr) (p : Bytes) (s u : State), u = s.taken h 0x4007 → s.Serves modesCfg → p.length = 10 → u8At p 0 ≤ 1 →
    (u8At p 1 = 22 ∨ u8At p 1 = 45) → u8At p 2 ≤ 1 → u8At p 3 ≤ 31 → u16At p 4 ≤ 31 → (u8At p 1 = 22 → u16At p 6 ≤ 31) →
    exec (.mdioAccess h p) s = .next
      (if u8At p 2 = 0 then u.fresh.respond h 0x4007 p (Resp.ok (le16 (Config.freeNat u.freeCnt)))
       else u.respond h 0x4007 p (Resp.ok (le16 0))))

/-- STREAM_SET, STREAM_ENABLE and STREAM_STATUS_GET complete as the rules give (R226, R228, R235, R239, R240, R241). With u the state in
which the command has been taken, for every state in which firmware serves it and every payload whose checks pass in u: STREAM_SET
sets the context and joins its groups; STREAM_ENABLE with no unicast leg to resolve places the buffers and records the states, and
with one asks for the addresses and leaves its slot executing; STREAM_STATUS_GET answers a record per context. -/
def Obligations.StreamCommands : Prop :=
  (∀ (h : Hdr) (p : Bytes) (s u : State), u = s.taken h 0x4010 → s.Serves modesCfg → p.length = 48 → (∀ e ∈ u.streamChecks p, e.1 = false) →
    (u.ctx (u8At p 0)).enabled = false → (u.ctx (u8At p 0)).running = false → u.legClash (u8At p 0) (ctxAt p) = none →
    exec (.streamSet h p) s = .next (((u.each ((ctxAt p).rxLegs.map (·.dst)) (fun t ip => t.hashIn ip)).setCtx (u8At p 0) (ctxAt p)).respond
      h 0x4010 p Resp.ok)) ∧
  (∀ (h : Hdr) (p : Bytes) (s u t : State), u = s.taken h 0x4011 → s.Serves modesCfg → p.length = 64 → maskBit p 0 255 = false →
    (∀ c ∈ u.turned p true, (u.ctx c).isSet = true) → (∀ m < 2, u.portLoad (u.wouldSend p) m ≤ 9000000000) →
    u.placeBuffers (u.turned p true) = some t → u.arpNeed p = [] →
    exec (.streamEnable h p) s = .next ((t.setEnables p).respond h 0x4011 p Resp.ok)) ∧
  (∀ (h : Hdr) (p : Bytes) (s u t : State), u = s.taken h 0x4011 → s.Serves modesCfg → p.length = 64 → maskBit p 0 255 = false →
    u.enableStreams p = (t, Resp.ok) → u.arpNeed p ≠ [] →
    exec (.streamEnable h p) s = .next (let w := (u.each (u.arpNeed p) (fun t e => t.arpAsk e)).onNet (fun x =>
        { x with arpWait := some ⟨h, p, u.arpNeed p⟩ })
      w.setSlot h.slot ⟨.executing, true, (w.slot h.slot).last⟩)) ∧
  (∀ (h : Hdr) (p : Bytes) (s u : State), u = s.taken h 0x4012 → s.Serves modesAny → p.length = 4 → u8At p 0 ≤ 254 → 1 ≤ u8At p 1 →
    u8At p 1 ≤ 8 → u8At p 0 + u8At p 1 ≤ 255 →
    exec (.streamStatusGet h p) s = .next ((if bitOf (u8At p 2) 0 then u.wr Reg.STR_INT_STATUS 0 else u).respond h 0x4012 p
      (Resp.ok ((List.range (u8At p 1)).flatMap (fun i => le32 (u.ctx (u8At p 0 + i)).word ++
        (List.range 12).flatMap (fun k => le16 (u.rd (Reg.STR_CTX_CNT (u8At p 0 + i) k))))))))

/-- The nine time commands complete as the rules give (R246, R255, R256, R257, R266, R267, R268, R269). With u the state in which the
command has been taken, for every state in which firmware serves it and every payload whose fields lie in their ranges:
TIME_PTP_SET, TIME_SERVO_SET, TIME_SOURCE_SET, TS_ADJ_SET and SYNC_OUT_SET put their settings in force and answer OK; TIME_STEP
leaves its step waiting and is accepted; TIME_STATUS_GET answers its 40 bytes; CAP_SET applies its entries; CAP_READ answers the
oldest records of the input and removes them. -/
def Obligations.TimeCommands : Prop :=
  (∀ (h : Hdr) (p : Bytes) (s u : State), u = s.taken h 0x5001 → s.Serves modesCfg → p.length = 12 → u8At p 0 ≤ 2 → u8At p 1 ≤ 127 →
    u8At p 2 ≤ 1 → u8At p 3 ≤ 1 → -7 ≤ s8At p 4 → s8At p 4 ≤ 1 → -3 ≤ s8At p 5 → s8At p 5 ≤ 3 → -7 ≤ s8At p 6 → s8At p 6 ≤ 5 → u8At p 9 ≤ 3 →
    exec (.timePtpSet h p) s = .next ((u.ptpSet p).respond h 0x5001 p Resp.ok)) ∧
  (∀ (h : Hdr) (p : Bytes) (s u : State), u = s.taken h 0x5002 → s.Serves modesCfg → p.length = 24 → 1000 ≤ u32At p 4 → u32At p 4 ≤ 1000000000 →
    10 ≤ u32At p 8 → u32At p 8 ≤ 1000000 → u32At p 12 ≤ 65536000 → 100 ≤ u16At p 20 → u16At p 20 ≤ 60000 →
    exec (.timeServoSet h p) s = .next ((((((((u.wr Reg.SERVO_GAIN (u16At p 2 * 65536 + u16At p 0)).wr Reg.SERVO_STEP_THR (u32At p 4)).wr
      Reg.SERVO_LOCK_THR (u32At p 8)).wr Reg.SERVO_LIMIT (u32At p 12)).wr Reg.SERVO_JUMP_THR (u32At p 16)).wr Reg.SERVO_HOLD (u16At p 20))).respond
        h 0x5002 p Resp.ok)) ∧
  (∀ (h : Hdr) (p : Bytes) (s u : State), u = s.taken h 0x5003 → s.Serves modesCfg → p.length = 16 → u8At p 0 < 8 →
    ¬ (bitOf (u8At p 0) 0 = true ∧ bitOf (u8At p 0) 1 = true) →
    (bitOf (u8At p 0) 2 = true → u.live = true ∧ u.laterThanNext (u32At p 4) = true) → (bitOf (u8At p 0) 1 = true → u.time.refused ≠ none) →
    u.time.step = none →
    exec (.timeStep h p) s = .next
      (((u.newJob h 0x5003 1).onTime (fun x => { x with step := some (u.stepOf h p) })).respond h 0x5003 p Resp.accepted)) ∧
  (∀ (h : Hdr) (p : Bytes) (s u : State), u = s.taken h 0x5004 → s.Serves modesCfg → p.length = 12 → u8At p 0 ≤ 2 →
    -65536000 ≤ s32At p 4 → s32At p 4 ≤ 65536000 →
    exec (.timeSourceSet h p) s = .next ((u.sourceSet (u8At p 0) (s32At p 4) (u32At p 8)).respond h 0x5004 p Resp.ok)) ∧
  (∀ (h : Hdr) (s u : State), u = s.taken h 0x5005 → s.Serves modesAny →
    exec (.timeStatusGet h []) s = .next (u.respond h 0x5005 [] (Resp.ok u.timeStatus))) ∧
  (∀ (h : Hdr) (p : Bytes) (s u : State), u = s.taken h 0x5006 → s.Serves [.park] → p.length = 16 →
    exec (.tsAdjSet h p) s = .next (((((u.wr (Reg.TS_RX_ADJ 0) (u32At p 0)).wr (Reg.TS_TX_ADJ 0) (u32At p 4)).wr (Reg.TS_RX_ADJ 1) (u32At p 8)).wr
      (Reg.TS_TX_ADJ 1) (u32At p 12)).respond h 0x5006 p Resp.ok)) ∧
  (∀ (h : Hdr) (p : Bytes) (s u : State), u = s.taken h 0x5010 → s.Serves modesCfg → p.length = 4 → u8At p 0 ≤ 3 → 1 ≤ u8At p 1 → 1 ≤ u16At p 2 →
    exec (.syncOutSet h p) s = .next ((u.syncOutSet p).respond h 0x5010 p Resp.ok)) ∧
  (∀ (h : Hdr) (p : Bytes) (s u : State), u = s.taken h 0x5020 → s.Serves modesCfg → lenEntries 0 2 8 p = true →
    (∀ e ∈ entries 2 p, u8At e 0 ≤ 7 ∧ u8At e 1 ≤ 3 ∧
      (u8At e 1 ≠ 0 → u.owner (0x200 + u8At e 0) = 0 ∨ u.owner (0x200 + u8At e 0) = 3)) →
    exec (.capSet h p) s = .next ((u.each (entries 2 p) (fun t e => t.capSetOne e)).respond h 0x5020 p Resp.ok)) ∧
  (∀ (h : Hdr) (p : Bytes) (q : List CapRec) (n : Nat) (s u : State), u = s.taken h 0x5021 → s.Serves modesAny → p.length = 4 → u8At p 0 ≤ 7 →
    1 ≤ u8At p 1 → u8At p 1 ≤ 14 → q = tget [] u.time.capQ (u8At p 0) → n = min (u8At p 1) q.length →
    exec (.capRead h p) s = .next ((u.onTime (fun x => { x with capQ := tset [] x.capQ (u8At p 0) (q.drop n) })).respond h 0x5021 p
      (Resp.ok (le8 n ++ zeros 3 ++ (q.take n).flatMap CapRec.bytes))))

/-- LATCH, PPS, UPDATE, HOLD_TIMEOUT and CAP_EDGE have the effects the rules give (R243, R244, R250, R253, R266, R267). LATCH copies the
system time and the sample index of one tick into the six registers. PPS counts the event and starts a SYNC_OUT pulse where SYNC_OUT
carries it. These events take effect while no reset holds the device. UPDATE with the source PTP and an offset within the step
threshold, without a delay jump, counts the update, filters the delay and lets the servo step and accept. HOLD_TIMEOUT brings a
locked servo to HOLDOVER with the target at the integral. CAP_EDGE of a selected edge with room appends a record stamped two ticks
before; without room it counts the loss. -/
def Obligations.TimeEvents : Prop :=
  (∀ s : State, exec .latchTime s = .next
    ((((((s.wr Reg.TIME_NS (nsOf s.time.tick)).wr Reg.TIME_SEC_LO (secOf s.time.tick)).wr Reg.TIME_SEC_HI (secOf s.time.tick / 2 ^ 32 % 65536)).wr
      Reg.TIME_FRAC (fracOf s.time.tick)).wr Reg.TIME_SAMPLE_LO (s.time.tick / s.time.tps)).wr
        Reg.TIME_SAMPLE_HI (s.time.tick / s.time.tps / 2 ^ 32))) ∧
  (∀ s u : State, s.discards = false → u = (s.bump (Reg.TIME_CNT 4)).perfAdd 121 →
    exec .pps s = .next (if u.fld Reg.CLK_SYNC_OUT 1 0 = 2 then u.syncPulse else u)) ∧
  (∀ (s u v : State) (o d : Int), s.fld Reg.TIME_CTRL 4 3 = 0 →
    o = toSigned 32 (s.rd Reg.SERVO_IN_OFFSET) * 65536 + s.fld Reg.SERVO_IN_FRAC 15 0 → d = (s.rd Reg.SERVO_IN_DELAY : Int) * 65536 →
    u = ((s.bump (Reg.TIME_CNT 0)).perfAdd 118).onTime (fun x => { x with lastOffset := o }) → u.delayJump d = false →
    v = u.onTime (fun x => { x with dfilt := some (delayFilter x.dfilt d) }) → (o.natAbs : Int) ≤ v.stepThr →
    exec .updateServo s = .next (((v.servoStep o).servoAccept o).servoTrace 0 o)) ∧
  (∀ s : State, s.time.servo = .locked →
    exec .holdTimeout s = .next ((s.onTime (fun x => { x with target := x.integral })).setServo .holdover)) ∧
  (∀ s : State, s.time.servo = .acquiring →
    exec .holdTimeout s = .next (s.onTime (fun x => { x with target := x.integral }))) ∧
  (∀ (s : State) (c : Nat) (rising : Bool) (q : List CapRec), c < 8 → s.discards = false → bitOf (s.fld (Reg.CAP_CFG c) 1 0) (if rising then 0 else 1) = true →
    q = tget [] s.time.capQ c → q.length < 32 →
    exec (.capEdge c rising) s = .next ((((s.onTime (fun x => { x with capLevel := tset false x.capLevel c rising })).onTime (fun x =>
      { x with capQ := tset [] x.capQ c (q ++ [⟨s.time.tick - 2, c, rising, tget false s.time.capLost c, s.time.sample % 2 ^ 32⟩])
               capLost := tset false x.capLost c false })).raise Reg.TIME_INT_STATUS 5).post 0x5004 (le8 c ++ le8 (q.length + 1)))) ∧
  (∀ (s : State) (c : Nat) (rising : Bool), c < 8 → s.discards = false → bitOf (s.fld (Reg.CAP_CFG c) 1 0) (if rising then 0 else 1) = true →
    32 ≤ (tget [] s.time.capQ c).length →
    exec (.capEdge c rising) s = .next (((s.onTime (fun x => { x with capLevel := tset false x.capLevel c rising })).onTime (fun x =>
      { x with capLost := tset false x.capLost c true })).bump (Reg.TIME_CNT 5)))

/-- The lock detector, the loss and return of REFCLK_IN, clock loss and the relock attempts have the effects the rules give (R261, R262,
R263, R265, R367). While no reset holds the device: a detector window with REFCLK_IN present records its counts: the eighth in range
in a row declares lock, a locked PLL loses lock on a count more than 4 off, and otherwise only the run changes. CLOCK_LOSS counts an
unlock of a locked PLL and makes clock loss. The loss of REFCLK_IN is counted and is clock loss and, with the DDR PLL locked, a loss
of its lock; its return restarts the detector with the word then in force. RELOCK_END with both clocks good reports the recovery,
otherwise it is fatal error 0x03. A DDR PLL loss starts its relock attempt, whose end serves the waiting requests or is fatal error
0x04. -/
def Obligations.ClockEvents : Prop :=
  (∀ (s u : State) (c r : Nat), s.discards = false → s.time.refclkOk = true →
    r = (if withinCounts s.time.expectWord c 1 then min 8 (s.time.lockRunWin + 1) else 0) →
    u = (s.wr Reg.CLK_LOCK_WIN (min 65535 (expected16 s.time.expectWord).toNat * 65536 + c % 65536)).onTime (fun x =>
      { x with lockRunWin := r, expectWord := x.word }) →
    exec (.lockWindowEnd c) s = .next
      (if s.time.rootLock then
         (if !withinCounts s.time.expectWord c 4 then u.rootUnlock
          else if s.time.tickBack then (u.onTime (fun x => { x with tickBack := false })).setTickSrc 0 else u)
       else if r = 8 then
         (let v := (u.onTime (fun x => { x with rootLock := true })).onPorts (fun x => { x with rephase := true })
          if s.time.relock.isSome then v else v.setTickSrc 0)
       else u)) ∧
  (∀ s : State, s.discards = false → exec .clockLoss s = .next (if s.time.rootLock then
      (((s.bump (Reg.CLK_CNT 0)).raise Reg.CLK_INT_STATUS 0).invalidateCapture 3 s.quantumSample).clockLoss else s.clockLoss)) ∧
  (∀ s u : State, s.discards = false → u = (((s.onTime (fun x => { x with refclkOk := false })).bump (Reg.CLK_CNT 1)).raise Reg.CLK_INT_STATUS 1).clockLoss →
    exec .refclkMissing s = .next (if s.time.ddrLock then
      (u.onTime (fun x => { x with ddrLock := false, ddrRelock := true })).raise Reg.CLK_INT_STATUS 3 else u)) ∧
  (∀ s : State, s.discards = false → s.time.rootLock = true →
    exec .refclkPresent s = .next (s.onTime (fun x => { x with refclkOk := true, lockRunWin := 0, expectWord := x.word }))) ∧
  (∀ s : State, s.discards = false → s.time.rootLock = false →
    exec .refclkPresent s = .next ((s.onTime (fun x => { x with refclkOk := true, lockRunWin := 0, expectWord := x.word })).setTickSrc 1)) ∧
  (∀ (s : State) (t : Nat), s.time.relock = some t → s.time.refclkOk = true → s.time.rootLock = true →
    exec .relockEnd s = .next (((((s.onTime (fun x => { x with relock := none })).bump (Reg.CLK_CNT 2)).raise Reg.CLK_INT_STATUS 2).post 0x5003
      (le32 (s.time.eventTick - t))).onTime (fun x => { x with tickBack := true }))) ∧
  (∀ (s : State) (t : Nat), s.time.relock = some t → (s.time.refclkOk && s.time.rootLock) = false →
    exec .relockEnd s = .next ((s.onTime (fun x => { x with relock := none })).fatalError 0x03 0)) ∧
  (∀ s : State, s.discards = false → exec .ddrPllLoss s = .next ((s.onTime (fun x => { x with ddrLock := false, ddrRelock := true })).raise Reg.CLK_INT_STATUS 3)) ∧
  (∀ s : State, s.time.ddrRelock = true →
    exec (.ddrRelockEnd true) s = .next (s.onTime (fun x => { x with ddrRelock := false, ddrLock := true })).dramServeAll) ∧
  (∀ s : State, s.time.ddrRelock = true →
    exec (.ddrRelockEnd false) s = .next ((s.onTime (fun x => { x with ddrRelock := false, ddrLock := false })).fatalError 0x04 0))

/-- MIC_CFG, COMP_LOAD, COMP_SWAP, MIC_DET_MAP and MIC_METER_GET complete as the rules give (R155, R159, R161, R162, R163, R164, R396).
With u the state in which the command has been taken, for every state in which firmware serves it and every payload whose checks
pass in u: MIC_CFG claims or releases the microphone resources and records mask and preset; COMP_LOAD starts a load of its images
and answers ACCEPTED; COMP_SWAP exchanges the banks at once in PARK and makes a request of each entry in the live modes; MIC_DET_MAP
gives each channel its profile; MIC_METER_GET answers sixteen records and changes nothing but the mailbox. -/
def Obligations.MicrophoneCommands : Prop :=
  (∀ (h : Hdr) (p : Bytes) (s u : State), u = s.taken h 0x6001 → s.Serves modesCfg → p.length = 4 → u8At p 2 ≤ 2 →
    u.micLocked (u16At p 0) (u8At p 2) = false → (u16At p 0 ≠ 0 → u.conflict 2 micResources = none) →
    exec (.micCfg h p) s = .next (((u.micClaim (u16At p 0)).micRecord (u16At p 0) (u8At p 2)).respond h 0x6001 p Resp.ok)) ∧
  (∀ (h : Hdr) (p : Bytes) (s u : State), u = s.taken h 0x6002 → s.Serves modesCfg → p.length = 16 → s.BulkRoom →
    u.bufOk (bufAt p 4) = true → 1 ≤ u16At p 0 → u16At p 0 ≤ 16 → (bufAt p 4).len = 144 * u16At p 0 →
    u.compImagesBad (entries 144 (u.bufRead (bufAt p 4) (bufAt p 4).len)) = none →
    exec (.compLoad h p) s = .next
      ((u.compStart h (entries 144 (u.bufRead (bufAt p 4) (bufAt p 4).len))).respond h 0x6002 p Resp.accepted)) ∧
  (∀ (h : Hdr) (p : Bytes) (s u : State), u = s.taken h 0x6003 → s.Serves [.park] → p.length = 4 + 2 * u8At p 2 →
    1 ≤ u16At p 0 → u16At p 0 ≤ 1024 → 1 ≤ u8At p 2 → u8At p 2 ≤ 16 →
    (∀ e ∈ entries 2 (p.drop 4), u8At e 0 ≤ 15 ∧ u8At e 1 ≤ 1 ∧ ∀ i, u.compSwapState i e = none) →
    exec (.compSwap h p) s = .next ((u.compSwapPark (entries 2 (p.drop 4))).respond h 0x6003 p Resp.ok)) ∧
  (∀ (h : Hdr) (p : Bytes) (s u : State), u = s.taken h 0x6003 → s.Serves modesLive → p.length = 4 + 2 * u8At p 2 →
    1 ≤ u16At p 0 → u16At p 0 ≤ 1024 → 1 ≤ u8At p 2 → u8At p 2 ≤ 16 →
    (∀ e ∈ entries 2 (p.drop 4), u8At e 0 ≤ 15 ∧ u8At e 1 ≤ 1 ∧ ∀ i, u.compSwapState i e = none) →
    exec (.compSwap h p) s = .next
      ((u.compSwapLive h p (entries 2 (p.drop 4))).1.respond h 0x6003 p (u.compSwapLive h p (entries 2 (p.drop 4))).2)) ∧
  (∀ (h : Hdr) (p : Bytes) (s u : State), u = s.taken h 0x6004 → s.Serves modesCfg → lenEntries 0 2 16 p = true →
    (∀ e ∈ entries 2 p, u8At e 0 ≤ 15 ∧ u8At e 1 ≤ 7) →
    exec (.micDetMap h p) s = .next
      ((u.each (entries 2 p) (fun t e => t.setMic (u8At e 0) { t.mic (u8At e 0) with profile := u8At e 1 })).respond h 0x6004 p Resp.ok)) ∧
  (∀ (h : Hdr) (s u : State), u = s.taken h 0x6005 → s.Serves modesLive →
    exec (.micMeterGet h []) s = .next (u.respond h 0x6005 [] (Resp.ok ((List.range 16).flatMap (fun c => (s.mic c).meter s.time.sample)))))

/-- GEN_SET, GEN_DRIVE, GEN_START, GEN_STOP and GEN_RELEASE complete in MEASURE as the rules give (R167, R168, R169, R177, R396). With u
the state in which the command has been taken, in MEASURE: GEN_SET whose ranges hold claims the generator and takes its settings,
when it is free or measurement's and not running; with the generator held, GEN_DRIVE takes the driven buses, GEN_START (not early,
not running) starts it at the quantum it names or the first that can start, GEN_STOP stops it and GEN_RELEASE gives it up. Each
answers OK. -/
def Obligations.GeneratorCommands : Prop :=
  (∀ (h : Hdr) (p : Bytes) (s u : State), u = s.taken h 0x6010 → s.Serves [.measure] → p.length = 24 →
    (∀ e ∈ u.genChecks p, e.1 = false) → s.meas.gen.start = none → u.owner 0x300 = 0 ∨ u.owner 0x300 = 4 →
    exec (.genSet h p) s = .next
      (((u.claim 0x300 4).onMeas (fun x => { x with gen := { x.gen with cfg := some (genOf p) } })).respond h 0x6010 p Resp.ok)) ∧
  (∀ (h : Hdr) (p : Bytes) (s u : State), u = s.taken h 0x6011 → s.Serves [.measure] → lenEntries 0 4 60 p = true →
    (∀ e ∈ entries 4 p, u16At e 0 < u.busCount ∧ u8At e 2 ≤ 1) → s.meas.gen.start = none → u.owner 0x300 = 4 →
    exec (.genDrive h p) s = .next
      ((u.onMeas (fun x => { x with gen := { x.gen with drive := (entries 4 p).map (fun e => (u16At e 0, u8At e 2)) } })).respond
        h 0x6011 p Resp.ok)) ∧
  (∀ (h : Hdr) (p : Bytes) (s u : State) (seed : Nat), u = s.taken h 0x6012 → s.Serves [.measure] → p.length = 8 → u.genEarly p = false →
    s.meas.gen.start = none → u.owner 0x300 = 4 → seed = (s.meas.gen.cfg.map (·.seed)).getD 1 →
    exec (.genStart h p) s = .next
      ((u.onMeas (fun x => { x with gen := { x.gen with
        start := some (u.genFirst p), noiseState := seed, pink := [], stopping := none, sweepDone := false } })).respond h 0x6012 p Resp.ok)) ∧
  (∀ (h : Hdr) (s u : State), u = s.taken h 0x6013 → s.Serves [.measure] → u.owner 0x300 = 4 →
    exec (.genStop h []) s = .next (u.genStop.respond h 0x6013 [] Resp.ok)) ∧
  (∀ (h : Hdr) (s u : State), u = s.taken h 0x6014 → s.Serves [.measure] → u.owner 0x300 = 4 →
    exec (.genRelease h []) s = .next (u.genRelease.respond h 0x6014 [] Resp.ok))

/-- CAPTURE_SET, CAPTURE_START, CAPTURE_STOP, CAPTURE_READ and CAPTURE_RELEASE complete in MEASURE as the rules give (R170, R171, R173,
R176, R177, R396). With u the state in which the command has been taken, in MEASURE: CAPTURE_SET whose checks pass places its
buffer, claims capture and answers its size; with capture held, CAPTURE_START (not early, none armed or running) arms it for the
boundary it names or the next one, CAPTURE_STOP ends a running one at the next boundary, CAPTURE_READ copies bytes that are readable
to the host's buffer, and CAPTURE_RELEASE gives capture up. -/
def Obligations.CaptureCommands : Prop :=
  (∀ (h : Hdr) (p : Bytes) (s u t : State) (k : Nat), u = s.taken h 0x6020 → s.Serves [.measure] → p.length = 32 →
    (∀ e ∈ u.captureChecks p, e.1 = false) → (u.unplace 4 0).place 4 0 ((u16At p 2 + 1) / 2) = some (k, t) →
    exec (.captureSet h p) s = .next
      (((t.claim 0x301 4).onMeas (fun x => { x with capture := some (captureOf p) })).respond h 0x6020 p
        (Resp.ok (le32 (captureBytes (u8At p 0) (u32At p 4) (u8At p 1)))))) ∧
  (∀ (h : Hdr) (p : Bytes) (s u : State) (c : Nat), u = s.taken h 0x6021 → s.Serves [.measure] → p.length = 8 → u.captureEarly p = false →
    u.captureOn = none → u.owner 0x301 = 4 → c = (if bitOf (u8At p 0) 0 then s.quantumAt (u32At p 4) else s.nextBoundary) →
    exec (.captureStart h p) s = .next
      ((u.onCapture (fun x => { x with
        st := 1, start := c, written := 0, valid := 0, status := 0, cause := 0, validEnd := none, stopping := false, begun := false,
        shift := 0 })).respond h 0x6021 p Resp.ok)) ∧
  (∀ (h : Hdr) (s u : State), u = s.taken h 0x6022 → s.Serves [.measure] → u.owner 0x301 = 4 →
    exec (.captureStop h []) s = .next
      ((u.onCapture (fun x => { x with stopping := x.stopping || x.st == 1 })).respond h 0x6022 [] Resp.ok)) ∧
  (∀ (h : Hdr) (p : Bytes) (s u : State) (c : Capture), u = s.taken h 0x6023 → s.Serves [.measure] → p.length = 16 → s.BulkRoom →
    u.bufOk (bufAt p 4) = true → s.meas.capture = some c → u32At p 0 + (bufAt p 4).len ≤ c.readable → u.owner 0x301 = 4 →
    exec (.captureRead h p) s = .next
      ((u.bufWrite (bufAt p 4) (mread u.mem (u.captureAddr + u32At p 0) (bufAt p 4).len)).respond h 0x6023 p
        (Resp.ok (le32 (bufAt p 4).len)))) ∧
  (∀ (h : Hdr) (s u : State), u = s.taken h 0x6024 → s.Serves [.measure] → u.owner 0x301 = 4 →
    exec (.captureRelease h []) s = .next (u.freeCapture.respond h 0x6024 [] Resp.ok))

/-- The FACET_TASK, FACET_CHAN_SET, FACET_STAGE_SET and FACET_STATUS_GET commands complete as the rules give (R292, R301, R302, R312,
R396). With u the state in which the command has been taken, for every state in which firmware serves it and every payload whose
checks pass in u: FACET_TASK_LOAD keeps the task's image, FACET_TASK_SET its settings and FACET_CHAN_SET its channel list, while it
is not enabled; FACET_TASK_ENABLE enables an admitted and placed task, one whose disable waits with new checks and regions, or asks
for the disable of an enabled one or of one about to be; FACET_STAGE_SET sets the insert stages; FACET_TASK_UNLOAD drops the image;
FACET_STATUS_GET answers 28 bytes a core. -/
def Obligations.FacetTaskCommands : Prop :=
  (∀ (h : Hdr) (p : Bytes) (s u : State) (d : Bytes), u = s.taken h 0x7001 → s.Serves modesCfg → p.length = 16 → s.BulkRoom →
    u16At p 0 ≤ 1023 → (s.task (u16At p 0)).busy = false → u.bufOk (bufAt p 4) = true → d = u.bufRead (bufAt p 4) (bufAt p 4).len →
    (∀ e ∈ imageChecks d (bufAt p 4).len (s.task (u16At p 0)).chans, e.1 = false) →
    exec (.facetTaskLoad h p) s = .next
      ((u.setTask (u16At p 0) { s.task (u16At p 0) with image := some (imageOf d) }).respond h 0x7001 p Resp.ok)) ∧
  (∀ (h : Hdr) (p : Bytes) (s u : State) (t : Nat) (k : FTask), u = s.taken h 0x7002 → s.Serves modesCfg → p.length = 8 →
    t = u16At p 0 → k = s.task t → t ≤ 1023 → u8At p 2 ≤ 3 → (if u8At p 2 ≤ 1 then u8At p 3 ≤ 1 else 2 ≤ u8At p 3 ∧ u8At p 3 ≤ 7) →
    s.badMask (u8At p 4) = false → u8At p 6 ≤ 64 → (u8At p 2 ≤ 1 → u8At p 6 ≠ 0 ∧ (k.image = none ∨ 8 * u8At p 6 ≤ k.xWords)) →
    k.busy = false →
    exec (.facetTaskSet h p) s = .next ((u.setTask t { k with
      attach := u8At p 2, level := u8At p 3, mask := u8At p 4, flow := if u8At p 5 = 0xFF then none else some (u8At p 5),
      chans := u8At p 6 }).respond h 0x7002 p Resp.ok)) ∧
  (∀ (h : Hdr) (p : Bytes) (s u : State) (t : Nat) (k : FTask), u = s.taken h 0x7003 → s.Serves modesCfg →
    p.length = 4 + 4 * u8At p 3 → t = u16At p 0 → k = s.task t → t ≤ 1023 → 1 ≤ u8At p 3 → u8At p 3 ≤ 56 → u8At p 2 + u8At p 3 ≤ 64 →
    k.busy = false → k.insert = true → (∀ i, ∀ e ∈ entries 4 (p.drop 4), u.chanBad k.attach i e = none) →
    exec (.facetChanSet h p) s = .next ((u.setTask t { k with
      chan := ((List.range (u8At p 3)).zip (entries 4 (p.drop 4))).foldl
        (fun c e => tput c (u8At p 2 + e.1) (u8At e.2 0, u8At e.2 1, u16At e.2 2)) k.chan }).respond h 0x7003 p Resp.ok)) ∧
  (∀ (h : Hdr) (p : Bytes) (s u : State) (t : Nat) (k : FTask), u = s.taken h 0x7004 → s.Serves modesCfg → p.length = 4 →
    t = u16At p 0 → k = s.task t → t ≤ 1023 → u8At p 2 = 1 → k.image.isSome = true → k.busy = false → k.change ≠ some false → (u.enableTask t).2 = Resp.ok →
    exec (.facetTaskEnable h p) s = .next ((u.enableTask t).1.respond h 0x7004 p Resp.ok)) ∧
  (∀ (h : Hdr) (p : Bytes) (s u v : State) (t : Nat) (k : FTask), u = s.taken h 0x7004 → s.Serves modesCfg → p.length = 4 →
    t = u16At p 0 → k = s.task t → t ≤ 1023 → u8At p 2 = 1 → k.image.isSome = true → k.enabled = true → k.change = some false →
    u.enableAgain t = (v, Resp.ok) →
    exec (.facetTaskEnable h p) s = .next (v.respond h 0x7004 p Resp.ok)) ∧
  (∀ (h : Hdr) (p : Bytes) (s u : State) (t : Nat) (k : FTask), u = s.taken h 0x7004 → s.Serves modesCfg → p.length = 4 →
    t = u16At p 0 → k = s.task t → t ≤ 1023 → u8At p 2 = 0 → k.busy = true →
    exec (.facetTaskEnable h p) s = .next ((u.setTask t { k with change := some false, moveTo := none }).respond h 0x7004 p Resp.ok)) ∧
  (∀ (h : Hdr) (p : Bytes) (s u : State), u = s.taken h 0x7005 → s.Serves [.park] → p.length = 4 → u8At p 0 ≤ 1 → u8At p 1 ≤ 1 →
    exec (.facetStageSet h p) s = .next
      ((u.onTime (fun x => { x with objInsert := u8At p 0 == 1, busInsert := u8At p 1 == 1 })).respond h 0x7005 p Resp.ok)) ∧
  (∀ (h : Hdr) (p : Bytes) (s u : State), u = s.taken h 0x7006 → s.Serves modesAny → p.length = 4 → 1 ≤ u8At p 1 →
    u8At p 0 + u8At p 1 ≤ (if s.sys.orderIL then 4 else 8) →
    exec (.facetStatusGet h p) s = .next (u.respond h 0x7006 p
      (Resp.ok ((List.range (u8At p 1)).flatMap (fun i => u.coreReport (u8At p 0 + i)))))) ∧
  (∀ (h : Hdr) (p : Bytes) (s u : State) (t : Nat), u = s.taken h 0x7007 → s.Serves modesCfg → p.length = 4 → t = u16At p 0 → t ≤ 1023 →
    (s.task t).busy = false →
    exec (.facetTaskUnload h p) s = .next ((u.setTask t { s.task t with image := none }).respond h 0x7007 p Resp.ok))

/-- SCHED_CFG_SET, TASK_SUBMIT, TIMER_SET, SCHED_STATUS_GET and TESTGEN_SET complete as the rules give (R304, R305, R314, R315, R317,
R322, R415, R396). With u the state in which the command has been taken, for every state in which firmware serves it and every
payload whose checks pass in u: SCHED_CFG_SET writes the slot and spill settings and the four list periods; TASK_SUBMIT makes a HOST
item of an enabled submitted task ready in a free slot; TIMER_SET cancels the task's entry and, unless it only cancels, arms a new
one; SCHED_STATUS_GET answers 56 bytes and clears SPILL_LOSS on request; TESTGEN_SET takes the settings of its channels and claims
or releases the test generator. -/
def Obligations.SchedulerCommands : Prop :=
  (∀ (h : Hdr) (p : Bytes) (s u t : State), u = s.taken h 0x7010 → s.Serves [.park] → p.length = 16 →
    u16At p 0 + u16At p 2 + s.rtSlots ≤ 1024 → 1024 ≤ u32At p 4 → u32At p 4 ≤ 65536 → u32At p 4 % 1024 = 0 →
    (∀ n < 4, 1 ≤ u16At p (8 + 2 * n) ∧ u16At p (8 + 2 * n) ≤ 1000) → u.placeSpill = some t →
    exec (.schedCfgSet h p) s = .next ((t.schedCfg p).respond h 0x7010 p Resp.ok)) ∧
  (∀ (h : Hdr) (p : Bytes) (s u : State) (k : FTask) (n : Nat), u = s.taken h 0x7011 → s.Serves modesLive → p.length = 4 →
    k = s.task (u16At p 0) → u16At p 0 ≤ 1023 → k.enabled = true → k.attach = 3 → u.hostSlot = some n →
    exec (.taskSubmit h p) s = .next (((u.refillAll.setItem n (hostItem (u16At p 0) k .ready)).makeReady n 2).respond h 0x7011 p Resp.ok)) ∧
  (∀ (h : Hdr) (p : Bytes) (s u : State) (t n : Nat), u = s.taken h 0x7012 → s.Serves modesLive → p.length = 12 →
    t = u16At p 0 → t ≤ 1023 → u8At p 2 ≤ 3 → bitOf (u8At p 3) 1 = false → 1 ≤ u32At p 4 → u32At p 4 ≤ 16777215 →
    (bitOf (u8At p 3) 0 = true → 1 ≤ u32At p 8 ∧ u32At p 8 ≤ 16777215) → (s.task t).enabled = true → (s.task t).attach = 2 →
    (u.cancelTimer t).hostSlot = some n →
    exec (.timerSet h p) s = .next
      (((u.cancelTimer t).armTimer t (u8At p 2) (u32At p 4) (if bitOf (u8At p 3) 0 then u32At p 8 else 0) n).respond h 0x7012 p Resp.ok)) ∧
  (∀ (h : Hdr) (p : Bytes) (s u : State) (t : Nat), u = s.taken h 0x7012 → s.Serves modesLive → p.length = 12 →
    t = u16At p 0 → t ≤ 1023 → u8At p 2 ≤ 3 → bitOf (u8At p 3) 1 = true → (s.task t).enabled = true → (s.task t).attach = 2 →
    exec (.timerSet h p) s = .next ((u.cancelTimer t).respond h 0x7012 p Resp.ok)) ∧
  (∀ (h : Hdr) (p : Bytes) (s u : State), u = s.taken h 0x7013 → s.Serves modesAny → p.length = 4 →
    exec (.schedStatusGet h p) s = .next
      ((if bitOf (u8At p 0) 0 then u.setFld Reg.SCHED_SPILL_STATE 17 17 0 else u).respond h 0x7013 p (Resp.ok u.schedReport))) ∧
  (∀ (h : Hdr) (p : Bytes) (s u v : State) (on : Bool), u = s.taken h 0x7020 → s.Serves modesCfg → lenEntries 0 6 16 p = true →
    (∀ e ∈ entries 6 p, u8At e 0 ≤ 15 ∧ u8At e 1 ≤ 3 ∧ (u8At e 1 = 1 → 20 ≤ u16At e 2 ∧ u16At e 2 ≤ 20000) ∧
      (u8At e 1 ≠ 0 → -12000 ≤ s16At e 4 ∧ s16At e 4 ≤ 0)) →
    v = u.onMeas (fun x => { x with testNew := (entries 6 p).foldl (fun t e => tput t (u8At e 0) (testSet e)) x.testNew }) →
    on = (List.range 16).any (fun c => (v.testOf c).kind != 0) → (on = true → u.owner 0x302 = 0 ∨ u.owner 0x302 = 5) →
    exec (.testgenSet h p) s = .next ((v.claim 0x302 (if on then 5 else 0)).respond h 0x7020 p Resp.ok))

/-- MIRROR_CFG, HANDOVER, MIRROR_READY, MIRROR_STATUS_GET, HIER_CFG and HIER_STATUS_GET complete as the rules give (R416, R417, R430,
R433, R438, R439, R440, R443, R396). With u the state in which the command has been taken, for every state in which firmware serves
it and every payload whose checks pass in u: MIRROR_CFG in PARK sets the enable and the miss limit and starts IDLE or OFF; HANDOVER
for a quantum later than the next boundary is accepted and kept when the unit's role allows it; MIRROR_READY records readiness and
judges SYNCED; HIER_CFG in PARK takes its role; the status commands answer their 16 and 28 bytes and change nothing but the mailbox. -/
def Obligations.MirrorAndHierarchyCommands : Prop :=
  (∀ (h : Hdr) (p : Bytes) (s u : State), u = s.taken h 0x8001 → s.Serves [.park] → p.length = 4 → u8At p 0 ≤ 1 → 2 ≤ u8At p 1 → u8At p 1 ≤ 16 →
    exec (.mirrorCfg h p) s = .next
      ((((u.setFld Reg.MIR_CTRL 0 0 (u8At p 0)).setFld Reg.MIR_CTRL 12 8 (u8At p 1)).onMir (fun x => { x with
        st := if u8At p 0 == 1 then .idle else .off, view := u8At p 0 == 1 && x.actIn, viewNext := none, hbOut := false })).respond
        h 0x8001 p Resp.ok)) ∧
  (∀ (h : Hdr) (p : Bytes) (s u : State), u = s.taken h 0x8002 → s.Serves [.render, .mirror] → p.length = 8 →
    s.laterThanNext (u32At p 0) = true → u.handoverRefused = false →
    exec (.handover h p) s = .next
      (((u.newJob h 0x8002 1 (le32 (s.quantumAt (u32At p 0)))).onMir (fun x => { x with
        handover := some ⟨s.quantumAt (u32At p 0), h, x.st, false⟩ })).respond h 0x8002 p Resp.accepted)) ∧
  (∀ (h : Hdr) (s u : State), u = s.taken h 0x8003 → s.Serves [.mirror] →
    exec (.mirrorReady h []) s = .next ((u.onMir (fun x => { x with ready := true })).judgeSynced.respond h 0x8003 [] Resp.ok)) ∧
  (∀ (h : Hdr) (s u : State), u = s.taken h 0x8004 → s.Serves modesAny →
    exec (.mirrorStatusGet h []) s = .next (u.respond h 0x8004 [] (Resp.ok u.mirrorStatus))) ∧
  (∀ (h : Hdr) (p : Bytes) (s u : State), u = s.taken h 0x8010 → s.Serves [.park] → p.length = 16 → u8At p 0 ≤ 2 →
    (u8At p 0 = 2 → 1 ≤ u8At p 1 ∧ u8At p 1 ≤ 63) → (u8At p 0 = 1 → u8At p 1 = 0 ∧ 1 ≤ u8At p 2 ∧ u8At p 2 ≤ 16) →
    exec (.hierCfg h p) s = .next ((u.setHier p).respond h 0x8010 p Resp.ok)) ∧
  (∀ (h : Hdr) (s u : State), u = s.taken h 0x8011 → s.Serves modesAny →
    exec (.hierStatusGet h []) s = .next (u.respond h 0x8011 [] (Resp.ok s.hierStatus)))

/-- The counter, trace, dump and event mask commands complete as the rules give (R418, R420, R421, R467, R468, R469, R471, R474, R475,
R479, R396). With u the state in which the command has been taken, for every state in which firmware serves it and every payload
whose checks pass in u: COUNTER_READ and PERF_READ answer the words asked for and change nothing but the mailbox; PERF_CFG writes
its counters' settings; TRACE_CFG sets up the trace (with its buffer placed in a live mode); TRACE_READ copies whole records to the
host's buffer and marks them read; DUMP_INFO, DUMP_READ and DUMP_CLEAR answer, copy and drop the dump; EVENT_MASK_SET turns each
event code on or off. -/
def Obligations.DiagnosticsCommands : Prop :=
  (∀ (h : Hdr) (p : Bytes) (s u : State), u = s.taken h 0x9001 → s.Serves modesAny → p.length = 8 → u8At p 0 ≤ 21 → u16At p 2 % 4 = 0 →
    1 ≤ u16At p 4 → u16At p 4 ≤ 58 → u16At p 2 + 4 * u16At p 4 ≤ 0x10000 →
    exec (.counterRead h p) s = .next (u.respond h 0x9001 p
      (Resp.ok ((List.range (u16At p 4)).flatMap (fun i => le32 (u.blockWord (u8At p 0) (u16At p 2 + 4 * i))))))) ∧
  (∀ (h : Hdr) (p : Bytes) (s u : State), u = s.taken h 0x9010 → s.Serves modesCfg → lenEntries 0 4 60 p = true →
    (∀ e ∈ entries 4 p, u8At e 0 ≤ 127 ∧ (u8At e 0 % 2 = 0 → bitOf (u8At e 1) 1 = false)) →
    exec (.perfCfg h p) s = .next
      ((u.each (entries 4 p) (fun t e => t.wr (Reg.PERF_CFG (u8At e 0)) (u8At e 1 % 8))).respond h 0x9010 p Resp.ok)) ∧
  (∀ (h : Hdr) (p : Bytes) (s u : State), u = s.taken h 0x9011 → s.Serves modesAny → p.length = 4 → u8At p 0 ≤ 127 → 1 ≤ u8At p 1 →
    u8At p 1 ≤ 30 → u8At p 0 + u8At p 1 ≤ 128 →
    exec (.perfRead h p) s = .next (u.respond h 0x9011 p
      (Resp.ok ((List.range (u8At p 1)).flatMap (fun i => le64 (tget 0 u.perf.cnt (u8At p 0 + i))))))) ∧
  (∀ (h : Hdr) (p : Bytes) (s u v : State), u = s.taken h 0x9020 → s.Serves modesCfg → p.length = 8 → u32At p 0 ≤ 63 → 1 ≤ u16At p 4 →
    u16At p 4 ≤ 64 → u8At p 6 ≤ 1 → u8At p 7 ≤ 1 →
    (if s.live = true then (((u.freeTrace.traceEmpty).setFld Reg.TRACE_SIZE 6 0 (u16At p 4)).traceSet p).placeTrace = some v
      else v = ((u.freeTrace.traceEmpty).setFld Reg.TRACE_SIZE 6 0 (u16At p 4)).traceSet p) →
    exec (.traceCfg h p) s = .next (v.respond h 0x9020 p Resp.ok)) ∧
  (∀ (h : Hdr) (p : Bytes) (s u : State), u = s.taken h 0x9021 → s.Serves modesAny → p.length = 12 → s.BulkRoom →
    u.bufOk (bufAt p 0) = true → 16 ≤ (bufAt p 0).len →
    exec (.traceRead h p) s = .next ((u.traceCopy (bufAt p 0)).1.respond h 0x9021 p (u.traceCopy (bufAt p 0)).2)) ∧
  (∀ (h : Hdr) (s u : State), u = s.taken h 0x9030 → s.Serves modesAny →
    exec (.dumpInfo h []) s = .next (u.respond h 0x9030 []
      (Resp.ok (le8 (b2n u.dumpOk) ++ zeros 3 ++ (if u.dumpOk then u.dumpHead else zeros 64))))) ∧
  (∀ (h : Hdr) (p : Bytes) (s u : State), u = s.taken h 0x9031 → s.Serves modesAny → p.length = 16 → s.BulkRoom →
    u32At p 0 + (bufAt p 4).len ≤ 1048576 → u.bufOk (bufAt p 4) = true → (bufAt p 4).len ≠ 0 → u.dumpOk = true →
    exec (.dumpRead h p) s = .next
      ((u.bufWrite (bufAt p 4) (mread u.mem (u.dumpAddr + u32At p 0) (bufAt p 4).len)).respond h 0x9031 p
        (Resp.ok (le32 (bufAt p 4).len)))) ∧
  (∀ (h : Hdr) (s u : State), u = s.taken h 0x9032 → s.Serves modesAny →
    exec (.dumpClear h []) s = .next ((u.onTrace (fun x => { x with dumpValid := false })).respond h 0x9032 [] Resp.ok)) ∧
  (∀ (h : Hdr) (p : Bytes) (s u : State), u = s.taken h 0x9040 → s.Serves modesAny → lenEntries 0 4 58 p = true →
    (∀ e ∈ entries 4 p, eventCodes.contains (u16At e 0) = true ∧ u8At e 2 ≤ 1) →
    exec (.eventMaskSet h p) s = .next ((u.each (entries 4 p) (fun t e => t.maskEvent e)).respond h 0x9040 p Resp.ok))

/-- Doorbells, DONE bits, slot writes, event-ring writes, COMMAND_HANDLE and BULK_COPY_DONE complete as the rules give (R33, R35, R387,
R389, R390, R391, R392, R394). While no reset holds the device: a doorbell rings its slots in slot order, a write of MBX_DONE clears
its slots in slot order, a slot write reaches the slots it covers, and the event-ring writes have their effect. With a posted slot
at the head of the queue whose bytes read right and which need not wait, COMMAND_HANDLE pops it, counts it (and a first read that
failed) and judges it; a held command at the head is executed. BULK_COPY_DONE ends the slot's transfer and finishes its command. -/
def Obligations.MailboxUnitAccesses : Prop :=
  (∀ (bits : Byte) (s : State), s.sys.phase = .running →
    exec (.doorbell bits) s = .next (s.each ((List.range 8).filter (fun n => bitOf bits.toNat n)) (fun t n => t.ring n))) ∧
  (∀ (bits : Byte) (s : State), s.sys.phase = .running → exec (.mbxDoneClear bits) s = .next (s.doneClear bits.toNat)) ∧
  (∀ (off : Nat) (d : Bytes) (s : State), s.sys.phase = .running →
    exec (.commandSlotWrite off d) s = .next (s.each (List.range 8) (fun t n => t.slotWriteOne off d n))) ∧
  (∀ (v : Word) (s : State), s.sys.phase = .running → exec (.mbxEvrCfgWrite v) s = .next (s.evrCfg v.toNat)) ∧
  (∀ (v : Word) (s : State), s.sys.phase = .running →
    exec (.mbxEvrConsWrite v) s = .next
      (if (s.rd Reg.MBX_EVR_PROD + 2 ^ 32 - v.toNat) % 2 ^ 32 < 2 ^ 31 then s.wr Reg.MBX_EVR_CONS v.toNat else s)) ∧
  (∀ (glitch : Bool) (s t : State) (n : Nat) (q : List Nat) (b p : Bytes), s.sys.phase = .running → s.sys.fwRunning = true →
    s.mbx.queue = n :: q → s.heldJob n = none → b = s.slotRaw8 n → u16At b 4 ≤ 240 → crcOk b = true → p = slice b 16 (u16At b 4) →
    s.mustWait (u16At b 0) p = false → t = (s.popQueue n).taken (hdrOf n b) (u16At b 0) →
    exec (.commandHandle glitch) s = .next
      ((if glitch then t.bump (Reg.MBX_CNT 2) else t).judgeSlot (hdrOf n b) (u16At b 0) (u32At b 12) p)) ∧
  (∀ (glitch : Bool) (s : State) (n : Nat) (q : List Nat) (j : Job) (c : CmdDef), s.sys.phase = .running → s.sys.fwRunning = true →
    s.mbx.queue = n :: q → s.heldJob n = some j → s.mustWait j.op j.payload = false → commandOf j.op = some c →
    exec (.commandHandle glitch) s = .next (c.launch j.hdr j.payload
      ((s.popQueue n).onMbx (fun x => { x with held := x.held.filter (fun k => k != j) })))) ∧
  (∀ (n : Nat) (s : State) (j : Job) (c : CmdDef), s.mbx.bulk.find? (fun k => k.hdr.slot == n) = some j → commandOf j.op = some c →
    exec (.bulkCopyDone n) s = .next
      (c.finish j.hdr j.payload (s.onMbx (fun x => { x with bulk := x.bulk.filter (fun k => k != j) }))))

/-- SPI, BAR2 and debug-window accesses, function-level reset and the PCIe link's rows complete as the rules give (R382, R383, R385,
R386, R490, R521, R522, R523). While no reset holds the device: with HOST_IF at SPI a read or write transaction reads or writes MBX
from its offset; BAR2 reaches control TCM during a host boot and the host region otherwise; an aligned 4-byte debug-window access is
made by master 15 at the window's address when debug is unlocked, and reads zeros when it is locked; FLR, a loss of link (with the
PCIe PLL's lock or not, R265) and PERST_N low have the effects of R385; a trained link is up and unmasks master 9. -/
def Obligations.HostInterfaceAccesses : Prop :=
  (∀ (ins : Byte) (off n : Nat) (d : Bytes) (s : State), s.sys.phase = .running → s.sys.straps.hostIf = true → ins = 0x0B ∨ ins = 0xEB →
    exec (.spiTransaction ins off d n) s = .next
      ((s.withRdata ((List.range n).map (fun i => s.spiByte (off % 2 ^ 24 + i)))).withRstat 0)) ∧
  (∀ (ins : Byte) (off n : Nat) (d : Bytes) (s : State), s.sys.phase = .running → s.sys.straps.hostIf = true → ins = 0x02 ∨ ins = 0x32 →
    exec (.spiTransaction ins off d n) s = .next (((s.withRdata []).withRstat 0).spiWrite (off % 2 ^ 24) d)) ∧
  (∀ (off : Nat) (acc : Access) (s : State), s.sys.phase = .running → s.masked 9 = false → s.sys.hostBootWait = true →
    off + accLen acc ≤ 1572864 → exec (.bar2Access off acc) s = .next (s.memAccess (tcmBase + off) acc)) ∧
  (∀ (off : Nat) (acc : Access) (s : State), s.sys.phase = .running → s.masked 9 = false → s.sys.hostBootWait = false →
    s.host.regionUnits ≠ 0 → off + accLen acc ≤ s.host.regionUnits * 0x200000 → bitOf s.sys.pwr 7 = true →
    exec (.bar2Access off acc) s = .next
      (((s.withRdata []).withRstat 0).dramServe s.ddrc.waiting ⟨6, unitAddr s.host.regionUnit + off, acc, 0, 0, false, .clean⟩)) ∧
  (∀ (w : Nat) (acc : Access) (s : State), s.sys.phase = .running → s.sys.straps.hostIf = false → s.host.linkUp = true → w < 0x80000 →
    s.sec.unlocked = false →
    exec (.debugWindowAccess w acc) s = .next
      (((s.withRdata []).withRstat 0).withRdata (if accWrites acc then [] else zeros (accLen acc)))) ∧
  (∀ (w : Nat) (acc : Access) (s : State), s.sys.phase = .running → s.sys.straps.hostIf = false → s.host.linkUp = true → w < 0x80000 →
    s.sec.unlocked = true → accLen acc = 4 → w % 4 = 0 →
    exec (.debugWindowAccess w acc) s = .next
      (((s.withRdata []).withRstat 0).window32 (s.fld Reg.HOSTIF_DBG_WIN 20 0 * 0x80000 + w) acc)) ∧
  (∀ (v : Word) (s : State), s.sys.phase = .running →
    exec (.hostifDbgWinWrite v) s = .next (s.regWrite 0 Reg.HOSTIF_DBG_WIN v.toNat)) ∧
  (∀ (s : State), s.sys.phase = .running → s.sys.straps.hostIf = false → s.host.linkUp = true →
    exec .functionLevelReset s = .next ((s.linkEffects.bump (Reg.HOSTIF_CNT 0)).raise Reg.HOSTIF_INT_STATUS 0)) ∧
  (∀ s t : State, s.sys.phase = .running → s.host.linkUp = true → t = s.fresh.linkLost →
    exec .linkDown s = .next (if Config.freeBool s.freeCnt then (t.onTime (fun x => { x with pcieLock := false })).raise Reg.CLK_INT_STATUS 3
      else t)) ∧
  (∀ (level : Bool) (s t : State), s.sys.straps.hostIf = false → t = s.onHost (fun x => { x with perstN := level }) →
    exec (.pciePerstN level) s = .next (if level = false ∧ s.host.linkUp = true then t.linkLost else t)) ∧
  (∀ (v w : Nat) (s t : State), s.sys.phase = .running → s.sys.straps.hostIf = false → s.host.perstN = true → 1 ≤ v → v ≤ 3 →
    w = 1 ∨ w = 2 ∨ w = 4 → t = s.onHost (fun x => { x with linkUp := true, speed := v, width := w }) →
    exec (.pcieLinkUp v w) s = .next
      ((t.onTime (fun x => { x with pcieLock := true })).onXbar (fun x => { x with resetMask := x.resetMask &&& 0xFDFF })))

/-- REGISTER_WRITE, the JTAG instructions, the PERF reads, CLEAR, STEP, HALT and RESTART complete as the rules give (R11, R12, R13,
R138, R328, R370, R379, R448, R470, R491, R521). While no reset holds the device a write to a register of a block whose domain is on
is made by master 0, and one from 2^40 on by the host through BAR0; IDCODE reads 0xB961_04C3 and BYPASS captures 0 (PRESUMED, IEEE
1149.1; not the spec's words); a read of PERF_CNTn_LO answers the value and latches its upper bits for the master, a read of _HI
answers what was latched; clearing the tail margin makes it 63; HALT sets its bit; STEP executes one instruction of a halted core
with an item; RESTART restarts a running watchdog. -/
def Obligations.RegisterAccessRows : Prop :=
  (∀ (a t : Nat) (v : Word) (s : State), s.sys.phase = .running → a < 2 ^ 40 → a % 4 = 0 → s.targetOf 0 a = some t → t = 6 ∨ t = 7 → s.targetOn t a = true →
    exec (.registerWrite a v) s = .next ((s.withRstat 0).regWrite 0 a v.toNat)) ∧
  (∀ (o : Nat) (v : Word) (s : State), s.sys.phase = .running → o % 4 = 0 →
    exec (.registerWrite (2 ^ 40 + o) v) s = .next (s.bar0Write o v.toNat)) ∧
  (∀ s : State, exec .jtagIdcode s = .next (s.onHost (fun x => { x with jtagIr := 1, jtagOut := 0xB96104C3 }))) ∧
  (∀ s : State, exec .jtagBypass s = .next (s.onHost (fun x => { x with jtagIr := 2, jtagOut := 0 }))) ∧
  (∀ (m n : Nat) (s : State), n < 128 →
    exec (.perfCntLoRead m n) s = .next ((s.perfLo m n).1.withRdata (le32 (s.perfLo m n).2))) ∧
  (∀ (m n : Nat) (s : State), n < 128 → exec (.perfCntHiRead m n) s = .next (s.withRdata (le32 (s.perfHi m n)))) ∧
  (∀ s : State, s.targetOn 7 Reg.LENS_CTRL = true → exec .marginClr s = .next (s.onLens (fun x => { x with margin := 63 }))) ∧
  (∀ (n : Nat) (s : State), n < 8 → s.coreExists n = true → exec (.haltCore n) s = .next (s.raise (Reg.FCORE_CTRL n) 1)) ∧
  (∀ (n slot : Nat) (f : Far) (s : State) (i : Item) (t : FTask), s.resident n = some slot → s.item? slot = some i →
    s.coreAlive n = true → s.coreHalted n = true → t = s.task (i.task.getD 0) →
    exec (.stepCore n f) s = .next
      (s.facetIssue n slot i (facetDecode (s.facetWord t i.ctx.pc) (s.facetWord t (i.ctx.pc + 1)) f))) ∧
  (∀ s : State, s.sys.wdtRunning = true → exec .restartWdt s = .next (s.onSys (fun x => { x with wdtTick := s.time.eventTick })))

/-- The receive and transmit rings' rows complete as the rules give (R223, R224, R225). With the NET domain on, for MACs 0 and 1 and
their rings: returning 1 to 8191 descriptors adds them where the ring has room and otherwise sets the ring-error status; enabling a
receive ring makes FREE the ring's size and HEAD 0; enabling a transmit ring makes HEAD and TAIL 0 and takes its frames out of the
queues; writing the tail of an enabled transmit ring queues the new descriptors in order; a sent descriptor is written back as done
and HEAD advances, its timestamp record written before where one was asked for; a descriptor of ring 1 that is free is taken by the
next waiting frame of NET_HOST_TX. -/
def Obligations.RingAccesses : Prop :=
  (∀ (m r n : Nat) (s : State), m < 2 → r < 4 → bitOf s.sys.pwr 8 = true → 1 ≤ n → n < 8192 →
    exec (.rxRingReturn m r n) s = .next
      (if s.ringLen (Reg.RX_RING_CFG m r) < s.rxFree m r + n then s.raise (Reg.MAC_INT_STATUS m) 9
       else s.onMac m (fun v => { v with free := tset 0 v.free r (tget 0 v.free r + n) }))) ∧
  (∀ (m r : Nat) (s t : State), m < 2 → r < 4 → bitOf s.sys.pwr 8 = true → t = s.setFld (Reg.RX_RING_CFG m r) 31 31 1 →
    exec (.rxRingEnable m r) s = .next
      (t.onMac m (fun v => { v with head := tset 0 v.head r 0, free := tset 0 v.free r (s.ringLen (Reg.RX_RING_CFG m r)) }))) ∧
  (∀ (m r v : Nat) (s t : State), m < 2 → r < 2 → bitOf s.sys.pwr 8 = true → v < 4096 → s.bit (Reg.TX_RING_CFG m r) 31 = true →
    t = s.setFld (Reg.TX_RING_TAIL m r) 11 0 v →
    exec (.txRingTailWrite m r v) s = .next
      (t.each (List.range ((v + s.ringLen (Reg.TX_RING_CFG m r) - s.fld (Reg.TX_RING_TAIL m r) 11 0 % s.ringLen (Reg.TX_RING_CFG m r))
          % s.ringLen (Reg.TX_RING_CFG m r)))
        (fun w k => w.txQueue m (2 * r)
          ⟨[], none, some (r, (s.fld (Reg.TX_RING_TAIL m r) 11 0 + k) % s.ringLen (Reg.TX_RING_CFG m r)), .no⟩))) ∧
  (∀ (m r : Nat) (s t u : State), m < 2 → r < 2 → bitOf s.sys.pwr 8 = true →
    t = (s.setFld (Reg.TX_RING_CFG m r) 31 31 1).setFld (Reg.TX_RING_TAIL m r) 11 0 0 →
    u = t.onMac m (fun v => { v with
      txHead := tset 0 v.txHead r 0, started := v.started.filter (fun e => e.1 != r),
      q0 := v.q0.filter (fun f => !((f.ring.map (·.1)) == some r)), q2 := v.q2.filter (fun f => !((f.ring.map (·.1)) == some r)),
      next := v.next.map (fun f => if (f.ring.map (·.1)) == some r then { f with ring := none } else f) }) →
    exec (.txRingEnable m r) s = .next (if r = 1 then u.hostSend m else u)) ∧
  (∀ (m r i a len st x y : Nat) (s t : State) (z : Option Int), r < 2 → s.macOn m = true → s.bit (Reg.TX_RING_CFG m r) 31 = true →
    i = tget 0 (s.mac m).txHead r → i ≠ s.fld (Reg.TX_RING_TAIL m r) 11 0 → s.txDesc m r i = (t, a, len, st) → 1 ≤ len →
    len ≤ t.txMax m → (t.mac m).started.find? (fun e => e.1 == r && e.2.1 == i) = some (x, y, z) → bitOf st 0 = false ∨ z = none →
    exec (.txDescriptorDone m r) s = .next
      (((t.txWriteBack m r i (st % 2 + 0x8000)).raise (Reg.MAC_INT_STATUS m) 6).hostNext m r)) ∧
  (∀ (m r i a len st x y : Nat) (s t u : State) (z : Int), r < 2 → s.macOn m = true → s.bit (Reg.TX_RING_CFG m r) 31 = true →
    i = tget 0 (s.mac m).txHead r → i ≠ s.fld (Reg.TX_RING_TAIL m r) 11 0 → s.txDesc m r i = (t, a, len, st) → 1 ≤ len →
    len ≤ t.txMax m → (t.mac m).started.find? (fun e => e.1 == r && e.2.1 == i) = some (x, y, some z) → bitOf st 0 = true →
    u = (t.dmaWrite (t.arrayAt (Reg.TX_RING_TS m r) i) (stampRecord z (max 60 len) m (b2n (isPtpEvent (mread t.mem a len))))).perfAdd 103
      (b2n (isPtpEvent (mread t.mem a len))) →
    exec (.txDescriptorDone m r) s = .next
      (((u.txWriteBack m r i (st % 2 + 0x8000)).raise (Reg.MAC_INT_STATUS m) 6).hostNext m r))

/-- The resets and their releases complete as the rules give (R100, R379, R407, R453, R456, R457, R458, R462, R487, R489). PORST_N
leaves what no reset touches at its values and the rest at reset; its release samples straps and bank supplies and starts the boot
ROM (or nothing in test mode). From the running phase WARM_RST_N, a due SYS_RESET and a permitted automatic reset are warm resets
with causes 1, 2 and 4; the release of the hold 246 ticks later samples the straps but MIR_ROLE and TEST_MODE. POWER_FAIL drops,
resets the domains, counts, and holds them; its restart is a warm reset with cause 3 after 24,576 ticks. -/
def Obligations.ResetRows : Prop :=
  (∀ s : State, exec .porstN s = .next s.outside) ∧
  (∀ (w : Straps) (b : Nat) (s t u v : State), s.sys.phase = .porst →
    t = s.onSys (fun x => { x with straps := w, phase := if w.testMode then .testMode else .running }) →
    u = t.onPorts (fun x => { x with bankA33 := bitOf b 0, bankB33 := bitOf b 1, bankC33 := bitOf b 2, bankD33 := bitOf b 3 }) →
    v = u.onTime (fun x => { x with refclkOk := true }) →
    exec (.porstNRelease w b) s = .next (if w.testMode then v else v.strapsTaken.bootStart)) ∧
  (∀ s : State, s.sys.phase = .running → exec .warmRstN s = .next (s.warmReset 1)) ∧
  (∀ (w : Straps) (s t : State), s.sys.phase = .warmHold →
    t = (s.passTo (s.time.eventTick + 246)).onSys (fun x => { x with
      phase := .running, straps := { w with mirRole := s.sys.straps.mirRole, testMode := s.sys.straps.testMode } }) →
    exec (.warmResetRelease w) s = .next t.strapsTaken.bootStart) ∧
  (∀ (e : Nat) (s : State), s.sys.phase = .running → s.sys.sysResetDue = some e →
    exec .sysResetApply s = .next ((s.passTo e).warmReset 2)) ∧
  (∀ s : State, s.sys.phase = .running ∨ s.sys.phase = .warmHold →
    exec .powerFail s = .next ((s.resetDomains.bump (Reg.SYS_CNT 1)).onSys (fun x => { x with phase := .powerFail }))) ∧
  (∀ s : State, s.sys.phase = .powerFail → exec .powerFailRestart s = .next ((s.passTo (s.time.eventTick + 24576)).warmReset 3)) ∧
  (∀ s t : State, s.sys.phase = .running → s.sys.mode = .safe → s.sys.straps.failSafe = true → t = s.passTo (s.sys.safeTick + 2457600) →
    t.autoCount < 3 →
    exec .autoReset s = .next ((t.onSys (fun x => { x with autoTicks := (t.time.eventTick :: x.autoTicks).take 3 })).warmReset 4))

/-- The boot rows complete: image load, chain forwarding, firmware and network start, start-up to PARK, flash programming (R216, R219,
R362, R370, R374, R375, R377, R389, R392, R452). While no reset holds the device: a slot that loads and checks is entered, a first
one that fails lets the other be tried; with CHAIN_EN strapped and NET off its domain and links come up; once an image is entered
firmware starts (watchdog, NET domain, masters, first DRAM sweep); firmware starts the network; with sweep, network and dump region
in place BOOT changes to PARK and held commands are executed first; a programmed chunk is in the flash of its slot and its piece
completes. -/
def Obligations.BootRows : Prop :=
  (∀ (k : Nat) (s : State), s.sys.phase = .running → s.sys.bootTry = some k → s.slotError (k % 2) = 0 →
    exec (.imageLoadDone false) s = .next (s.enterImage (k % 2) (s.trialFlag && k % 2 == s.activeSlot) (s.slotHeader (k % 2))
      (s.slotBody (k % 2) (u32At (s.slotHeader (k % 2)) 12)))) ∧
  (∀ (bad : Bool) (k : Nat) (s : State), s.sys.phase = .running → s.sys.bootTry = some k → k < 2 →
    bad = true ∨ s.slotError k ≠ 0 →
    exec (.imageLoadDone bad) s = .next (s.onSys (fun x => { x with bootTry := some (3 - k) }))) ∧
  (∀ (l : Nat) (s : State), s.sys.phase = .running → s.sys.straps.chainEn = true → bitOf s.sys.pwr 8 = false →
    exec (.chainBootForward l) s = .next (((s.setPwr (s.sys.pwr ||| 256)).onTime (fun x => { x with sdLock := true })).trainLinks l)) ∧
  (∀ s t u : State, s.sys.phase = .running → s.sys.imageEntered = true → s.sys.fwRunning = false → s.sys.romInSafe = false →
    t = s.onSys (fun x => { x with fwRunning := true, wdtRunning := true, wdtTick := s.time.eventTick }) →
    u = (t.setPwr (t.sys.pwr ||| 256)).onXbar (fun x => { x with resetMask := x.resetMask &&& 0x200 }) →
    exec .firmwareStart s = .next (((((u.setFld Reg.DDRC_CTRL 0 0 1).setFld Reg.SCHED_CTRL 0 0 1).onTime
      (fun x => { x with ddrLock := true })).startSweep 0 []).noteDev s)) ∧
  (∀ (l : Nat) (s t : State), s.sys.phase = .running → s.sys.fwRunning = true → s.sys.netUp = false → bitOf s.sys.pwr 8 = true →
    t = (s.onTime (fun x => { x with sdLock := true })).each [0, 1] (fun v m => v.startPort m) →
    exec (.networkStart l) s = .next
      (((((t.each ptpGroups (fun v a => v.hashIn a)).each ptpEthers (fun v a => v.hashEther a)).setFld Reg.STR_CTRL 0 0 1).trainLinks l).onSys (fun x => { x with netUp := true }))) ∧
  (∀ s : State, s.sys.phase = .running → s.sys.mode = .boot → s.sys.fwRunning = true → s.sys.sweepPassed = true → s.sys.netUp = true →
    s.sys.dumpPlaced = true → s.sys.fatal = none →
    exec .startupPark s = .next
      ((((s.trialPassed.ddrSleep).setPwr 0x107).setMode .park 3).queueHeld.runHeld s.mbx.held.length)) ∧
  (∀ (c : StageChunk) (cs : List StageChunk) (s t : State) (g : Staging), s.sec.chunks = c :: cs → s.sec.staging = some g →
    t = ((s.withFlash (mwrite s.flash (slotAddr g.slot + c.off) c.data)).onSec (fun x => { x with chunks := cs })).stageCount c →
    exec .flashProgramDone s = .next (t.pieceDone? (t.jobOf 0x0010 c.hdr) stOk (le32 (c.off + c.data.length))))

/-- MODE_ENTRY, WATCHDOG_EXPIRY, SAFE_ENTRY and the thermal rows complete as the rules give (R370, R404, R429, R435, R449, R451, R459,
R460, R461). While no reset holds the device and without a fatal error, a requested live mode is entered from PARK once its loads
are complete, and a requested PARK from a live mode once ACT was given up and the generator's fade has ended; a running watchdog's
expiry is fatal error 0x0B, then CTRL alone is reset; a fatal error not yet in SAFE writes the dump, ends its jobs, powers down and
enters SAFE; either thermal trip is fatal error 0x0C; THERM_WARN records the temperature and sets, counts and signals the warning
when it rises above SYS_THERM.WARN. -/
def Obligations.ModeAndSafetyRows : Prop :=
  (∀ (s : State) (r : ModeReq), s.sys.phase = .running → s.sys.fatal = none → s.sys.modeReq = some r → r.target ≠ .park →
    s.sys.mode = .park → s.parkLoad = none → exec .modeEntry s = .next (s.enterLive r)) ∧
  (∀ (s : State) (r : ModeReq), s.sys.phase = .running → s.sys.fatal = none → s.sys.modeReq = some r → r.target = .park →
    s.live = true → s.mir.parking = true → s.meas.gen.stopping = none → exec .modeEntry s = .next (s.enterPark r)) ∧
  (∀ s t : State, s.sys.phase = .running → s.sys.wdtRunning = true → t = (s.passTo s.wdtDue).fatalError 0x0B 0 →
    exec .watchdogExpiry s = .next
      (((t.onSys (fun x => { x with trialFailed := x.trialFailed || x.trialRunning })).ctrlReset).noteDev s)) ∧
  (∀ (s : State) (f : Fatal), s.sys.phase = .running → s.sys.fatal = some f → s.sys.mode ≠ .safe →
    exec .safeEntry s = .next ((((s.fatalDump f).endFatalJobs.safeDown).setMode .safe 2).onSys (fun x => { x with
      safeTick := s.time.eventTick, enginesStop := false }))) ∧
  (∀ s : State, s.sys.phase = .running → exec .thermTripN s = .next (s.fatalError 0x0C 0)) ∧
  (∀ s : State, s.sys.phase = .running → exec .internalThermalTrip s = .next (s.fatalError 0x0C 0)) ∧
  (∀ (k : Nat) (s t : State) (up : Bool), up = decide (toSigned 16 (s.fld Reg.SYS_THERM 31 16) < toSigned 16 k) →
    t = (s.setFld Reg.SYS_THERM 15 0 k).onSys (fun x => { x with thermWarn := up }) →
    exec (.thermWarn k) s = .next (if up = true ∧ s.sys.thermWarn = false then (t.raise Reg.SYS_INT_STATUS 2).bump (Reg.SYS_CNT 4) else t))

/-- The eight MAC-class instructions complete on a Facet core with the result of their class (R274, R278, R279, R280, R287). For every
state in which core n issues the instruction and its executions, once or as often as a pending RPT says, raise no fault, exec
answers the state in which the item has taken the resulting registers, stores and cycles (Executes). -/
def Obligations.MacClassExecutes : Prop :=
  (∀ (n : Nat) (a : MacArgs) (s u : State), s.Executes n (.mac 0 a) u → exec (.mulM n a) s = .next u) ∧
  (∀ (n : Nat) (a : MacArgs) (s u : State), s.Executes n (.mac 1 a) u → exec (.mac n a) s = .next u) ∧
  (∀ (n : Nat) (a : MacArgs) (s u : State), s.Executes n (.mac 2 a) u → exec (.msb n a) s = .next u) ∧
  (∀ (n : Nat) (a : MacArgs) (s u : State), s.Executes n (.mac 3 a) u → exec (.macq n a) s = .next u) ∧
  (∀ (n : Nat) (a : MacArgs) (s u : State), s.Executes n (.mac 4 a) u → exec (.dmac n a) s = .next u) ∧
  (∀ (n : Nat) (a : MacArgs) (s u : State), s.Executes n (.mac 5 a) u → exec (.dmsb n a) s = .next u) ∧
  (∀ (n : Nat) (a : MacArgs) (s u : State), s.Executes n (.mac 6 a) u → exec (.cmac n a) s = .next u) ∧
  (∀ (n : Nat) (a : MacArgs) (s u : State), s.Executes n (.mac 7 a) u → exec (.cmsb n a) s = .next u)

/-- The eighteen accumulator-class instructions complete on a Facet core with the result of their class (R275, R276, R278, R279, R286,
R287). For every state in which core n issues the instruction and its executions, once or as often as a pending RPT says, raise no
fault, exec answers the state in which the item has taken the resulting registers, stores and cycles (Executes). -/
def Obligations.AccumulatorClassExecutes : Prop :=
  (∀ (n : Nat) (a : AccArgs) (s u : State), s.Executes n (.acc 0 a) u → exec (.accClr n a) s = .next u) ∧
  (∀ (n : Nat) (a : AccArgs) (s u : State), s.Executes n (.acc 1 a) u → exec (.accAdd n a) s = .next u) ∧
  (∀ (n : Nat) (a : AccArgs) (s u : State), s.Executes n (.acc 2 a) u → exec (.accSub n a) s = .next u) ∧
  (∀ (n : Nat) (a : AccArgs) (s u : State), s.Executes n (.acc 3 a) u → exec (.addd n a) s = .next u) ∧
  (∀ (n : Nat) (a : AccArgs) (s u : State), s.Executes n (.acc 4 a) u → exec (.subd n a) s = .next u) ∧
  (∀ (n : Nat) (a : AccArgs) (s u : State), s.Executes n (.acc 5 a) u → exec (.negA n a) s = .next u) ∧
  (∀ (n : Nat) (a : AccArgs) (s u : State), s.Executes n (.acc 6 a) u → exec (.absA n a) s = .next u) ∧
  (∀ (n : Nat) (a : AccArgs) (s u : State), s.Executes n (.acc 7 a) u → exec (.accTfr n a) s = .next u) ∧
  (∀ (n : Nat) (a : AccArgs) (s u : State), s.Executes n (.acc 8 a) u → exec (.qnt n a) s = .next u) ∧
  (∀ (n : Nat) (a : AccArgs) (s u : State), s.Executes n (.acc 9 a) u → exec (.satA n a) s = .next u) ∧
  (∀ (n : Nat) (a : AccArgs) (s u : State), s.Executes n (.acc 10 a) u → exec (.accAsl n a) s = .next u) ∧
  (∀ (n : Nat) (a : AccArgs) (s u : State), s.Executes n (.acc 11 a) u → exec (.accAsr n a) s = .next u) ∧
  (∀ (n : Nat) (a : AccArgs) (s u : State), s.Executes n (.acc 12 a) u → exec (.ash n a) s = .next u) ∧
  (∀ (n : Nat) (a : AccArgs) (s u : State), s.Executes n (.acc 13 a) u → exec (.normA n a) s = .next u) ∧
  (∀ (n : Nat) (a : AccArgs) (s u : State), s.Executes n (.acc 14 a) u → exec (.expA n a) s = .next u) ∧
  (∀ (n : Nat) (a : AccArgs) (s u : State), s.Executes n (.acc 15 a) u → exec (.accMax n a) s = .next u) ∧
  (∀ (n : Nat) (a : AccArgs) (s u : State), s.Executes n (.acc 16 a) u → exec (.accMin n a) s = .next u) ∧
  (∀ (n : Nat) (a : AccArgs) (s u : State), s.Executes n (.acc 17 a) u → exec (.accCmp n a) s = .next u)

/-- The thirteen data-class instructions complete on a Facet core with the result of their class (R278, R286, R287, R289). For every
state in which core n issues the instruction and its executions, once or as often as a pending RPT says, raise no fault, exec
answers the state in which the item has taken the resulting registers, stores and cycles (Executes). -/
def Obligations.DataClassExecutes : Prop :=
  (∀ (n : Nat) (a : DataArgs) (s u : State), s.Executes n (.dat 0 a) u → exec (.daluAdd n a) s = .next u) ∧
  (∀ (n : Nat) (a : DataArgs) (s u : State), s.Executes n (.dat 1 a) u → exec (.daluSub n a) s = .next u) ∧
  (∀ (n : Nat) (a : DataArgs) (s u : State), s.Executes n (.dat 2 a) u → exec (.andD n a) s = .next u) ∧
  (∀ (n : Nat) (a : DataArgs) (s u : State), s.Executes n (.dat 3 a) u → exec (.orD n a) s = .next u) ∧
  (∀ (n : Nat) (a : DataArgs) (s u : State), s.Executes n (.dat 4 a) u → exec (.xorD n a) s = .next u) ∧
  (∀ (n : Nat) (a : DataArgs) (s u : State), s.Executes n (.dat 5 a) u → exec (.notD n a) s = .next u) ∧
  (∀ (n : Nat) (a : DataArgs) (s u : State), s.Executes n (.dat 6 a) u → exec (.daluAsl n a) s = .next u) ∧
  (∀ (n : Nat) (a : DataArgs) (s u : State), s.Executes n (.dat 7 a) u → exec (.daluAsr n a) s = .next u) ∧
  (∀ (n : Nat) (a : DataArgs) (s u : State), s.Executes n (.dat 8 a) u → exec (.lsr n a) s = .next u) ∧
  (∀ (n : Nat) (a : DataArgs) (s u : State), s.Executes n (.dat 9 a) u → exec (.daluMin n a) s = .next u) ∧
  (∀ (n : Nat) (a : DataArgs) (s u : State), s.Executes n (.dat 10 a) u → exec (.daluMax n a) s = .next u) ∧
  (∀ (n : Nat) (a : DataArgs) (s u : State), s.Executes n (.dat 11 a) u → exec (.daluCmp n a) s = .next u) ∧
  (∀ (n : Nat) (a : DataArgs) (s u : State), s.Executes n (.dat 12 a) u → exec (.mull n a) s = .next u)

/-- MOVE, the register moves and the address-class instructions complete on a Facet core (R277, R278, R281, R282, R283, R286, R287). For
every state in which core n issues the instruction and its executions, once or as often as a pending RPT says, raise no fault, exec
answers the state in which the item has taken the resulting registers, stores and cycles (Executes). -/
def Obligations.MoveAndAddressClassesExecute : Prop :=
  (∀ (n : Nat) (a : MovArgs) (s u : State), s.Executes n (.mov a) u → exec (.moveI n a) s = .next u) ∧
  (∀ (n : Nat) (a : RegArgs) (s u : State), s.Executes n (.reg 0 a) u → exec (.tfr n a) s = .next u) ∧
  (∀ (n : Nat) (a : RegArgs) (s u : State), s.Executes n (.reg 1 a) u → exec (.lds n a) s = .next u) ∧
  (∀ (n : Nat) (a : RegArgs) (s u : State), s.Executes n (.reg 2 a) u → exec (.ldh n a) s = .next u) ∧
  (∀ (n : Nat) (a : AddrArgs) (s u : State), s.Executes n (.addr 0 a) u → exec (.lda n a) s = .next u) ∧
  (∀ (n : Nat) (a : AddrArgs) (s u : State), s.Executes n (.addr 1 a) u → exec (.adda n a) s = .next u) ∧
  (∀ (n : Nat) (a : AddrArgs) (s u : State), s.Executes n (.addr 2 a) u → exec (.addl n a) s = .next u) ∧
  (∀ (n : Nat) (a : AddrArgs) (s u : State), s.Executes n (.addr 3 a) u → exec (.mova n a) s = .next u) ∧
  (∀ (n : Nat) (a : AddrArgs) (s u : State), s.Executes n (.addr 4 a) u → exec (.tfra n a) s = .next u) ∧
  (∀ (n : Nat) (a : AddrArgs) (s u : State), s.Executes n (.addr 5 a) u → exec (.tfrd n a) s = .next u)

/-- RPT, LOOP, LEAVE, NOP, BRA, BSR, RTS and JMP complete on a Facet core with the context the rules give (R278, R284, R285, R287,
R288). For every state in which core n issues the instruction: RPT of at most 4,096 executions leaves its count pending; LOOP of at
most 65,535 with room on the loop stack pushes its body, or with none skips it; LEAVE leaves the innermost loop where its condition
holds, and an enclosing body that ends with the one skipped or left is counted (R288); BRA, BSR (fewer than 8 calls), RTS (with a
call) and JMP go to a target inside the program; an untaken branch and NOP go on. The cycles charged are 1, 2 or 3 with the stalls
of R289. -/
def Obligations.FlowInstructionsExecute : Prop :=
  (∀ (n slot k times : Nat) (reg : Bool) (i : Item) (t : FTask) (c : FCtx) (s : State), s.Issues n slot i (.rptN reg k) t c →
    times = (if reg then c.dr k else k % 4096 + 1) → times ≤ 4096 →
    exec (.rpt n reg k) s = .next (s.facetDone n slot i { c.advance 1 with rpt := some times } (1 + i.ctx.stall (.rptN reg k)))) ∧
  (∀ (n slot b k times last : Nat) (reg : Bool) (i : Item) (t : FTask) (c d : FCtx) (s : State), s.Issues n slot i (.loopN reg b k) t c →
    times = (if reg then c.dr k else k % 65536) → times ≤ 65535 → last = s.facetSkip t (b % 256) (c.pc + 1) →
    times = 0 ∨ c.loops.length < 4 →
    d = (if times = 0 then { c with loops := (loopNext last (s.facetLen t last) c.loops).1, pc := (loopNext last (s.facetLen t last) c.loops).2 }
         else { c with loops := (c.pc + 1, last, times) :: c.loops, pc := c.pc + 1 }) →
    exec (.loopI n reg b k) s = .next (s.facetDone n slot i d (2 + i.ctx.stall (.loopN reg b k)))) ∧
  (∀ (n slot cc f l k : Nat) (rest : List (Nat × Nat × Nat)) (i : Item) (t : FTask) (c : FCtx) (s : State),
    s.Issues n slot i (.leave cc) t c → c.loops = (f, l, k) :: rest →
    exec (.leaveI n cc) s = .next
      (if ccHolds c.sr cc then s.facetDone n slot i
          { c with loops := (loopNext l (s.facetLen t l) rest).1, pc := (loopNext l (s.facetLen t l) rest).2 } (3 + i.ctx.stall (.leave cc))
       else s.facetDone n slot i (c.advance 1) (1 + i.ctx.stall (.leave cc)))) ∧
  (∀ (n slot : Nat) (i : Item) (t : FTask) (c : FCtx) (s : State), s.Issues n slot i .nop t c →
    exec (.nopI n) s = .next (s.facetDone n slot i (c.advance 1) (1 + i.ctx.stall .nop))) ∧
  (∀ (n slot cc a : Nat) (i : Item) (t : FTask) (c : FCtx) (s : State), s.Issues n slot i (.bra cc a) t c →
    ccHolds c.sr cc = true → a % 2 ^ 14 < t.pWords →
    exec (.bra n cc a) s = .next (s.facetDone n slot i { c with pc := a % 2 ^ 14 } (3 + i.ctx.stall (.bra cc a)))) ∧
  (∀ (n slot cc a : Nat) (i : Item) (t : FTask) (c : FCtx) (s : State), s.Issues n slot i (.bra cc a) t c → ccHolds c.sr cc = false →
    exec (.bra n cc a) s = .next (s.facetDone n slot i (c.advance 1) (1 + i.ctx.stall (.bra cc a)))) ∧
  (∀ (n slot cc a : Nat) (i : Item) (t : FTask) (c : FCtx) (s : State), s.Issues n slot i (.bsr cc a) t c →
    ccHolds c.sr cc = true → a % 2 ^ 14 < t.pWords → c.calls.length < 8 →
    exec (.bsr n cc a) s = .next
      (s.facetDone n slot i { c with calls := (c.pc + 1) :: c.calls, pc := a % 2 ^ 14 } (3 + i.ctx.stall (.bsr cc a)))) ∧
  (∀ (n slot cc a : Nat) (rest : List Nat) (i : Item) (t : FTask) (c : FCtx) (s : State), s.Issues n slot i (.rts cc) t c →
    ccHolds c.sr cc = true → c.calls = a :: rest → a < t.pWords →
    exec (.rts n cc) s = .next (s.facetDone n slot i { c with calls := rest, pc := a } (3 + i.ctx.stall (.rts cc)))) ∧
  (∀ (n slot m : Nat) (i : Item) (t : FTask) (c : FCtx) (s : State), s.Issues n slot i (.jmp m) t c → c.dr m < t.pWords →
    exec (.jmp n m) s = .next (s.facetDone n slot i { c with pc := c.dr m } (3 + i.ctx.stall (.jmp m))))

/-- YIELD, TRAP, FENCE, SETM, SEG, LDI, ADDI, CMPI, FLD and FST complete on a Facet core as the rules give (R270, R285, R286, R291,
R294, R471). For every state in which core n issues the instruction: YIELD completes the instance; TRAP counts, signals and posts an
item to firmware; FENCE waits; SETM writes the mode bits under its mask; SEG sets FSEG; LDI writes the register, ADDI adds to Dd,
CMPI sets the flags; FLD of a word the task may read and FST of a word it may write move it. The cycles charged are those of the
rules with the far wait and the stalls. -/
def Obligations.SystemAndFarInstructionsExecute : Prop :=
  (∀ (n slot : Nat) (i : Item) (t : FTask) (c : FCtx) (s : State), s.Issues n slot i .yield t c →
    exec (.yieldI n) s = .next (s.facetYield n slot i (1 + i.ctx.stall .yield))) ∧
  (∀ (n slot k : Nat) (i : Item) (t : FTask) (c : FCtx) (s : State), s.Issues n slot i (.trap (k % 256)) t c →
    exec (.trapI n k) s = .next
      ((s.facetTrap n i (k % 256)).facetDone n slot i (c.advance 1) (1 + i.ctx.stall (.trap (k % 256))))) ∧
  (∀ (n slot w : Nat) (i : Item) (t : FTask) (c : FCtx) (s : State), s.Issues n slot i (.fence w) t c →
    exec (.fenceI n w) s = .next (s.facetDone n slot i (c.advance 1) (1 + w + i.ctx.stall (.fence w)))) ∧
  (∀ (n slot m v sr : Nat) (i : Item) (t : FTask) (c : FCtx) (s : State), s.Issues n slot i (.setm m v) t c →
    sr = withBits c.sr 15 8 ((bitsOf c.sr 15 8 &&& (255 - m % 256)) ||| (v &&& m % 256 &&& 0x0F)) →
    exec (.setm n m v) s = .next (s.facetDone n slot i ({ c with sr := sr }.advance 1) (1 + i.ctx.stall (.setm m v)))) ∧
  (∀ (n slot k : Nat) (i : Item) (t : FTask) (c : FCtx) (s : State), s.Issues n slot i (.seg k) t c →
    exec (.segI n k) s = .next (s.facetDone n slot i ({ c with fseg := k % 256 }.advance 1) (1 + i.ctx.stall (.seg k)))) ∧
  (∀ (n slot : Nat) (a : LongArgs) (o : FOp) (i : Item) (t : FTask) (c : FCtx) (s : State), o = .long 0 a ⟨0, false⟩ →
    s.Issues n slot i o t c → a.m = 0 →
    exec (.ldi n a) s = .next
      (s.facetDone n slot i ({ c.writeReg (a.r % 32) a.imm.toNat with flagsBy := 0 }.advance 2) (2 + i.ctx.stall o))) ∧
  (∀ (n slot : Nat) (a : LongArgs) (o : FOp) (i : Item) (t : FTask) (c : FCtx) (s : State), o = .long 1 a ⟨0, false⟩ →
    s.Issues n slot i o t c → a.m = 0 → a.r < 16 →
    exec (.addi n a) s = .next (s.facetDone n slot i
      ((c.dataDo 0 (some a.r) (c.dr a.r) a.imm.toNat).advance 2) (2 + i.ctx.stall o))) ∧
  (∀ (n slot : Nat) (a : LongArgs) (o : FOp) (i : Item) (t : FTask) (c : FCtx) (s : State), o = .long 2 a ⟨0, false⟩ →
    s.Issues n slot i o t c → a.m = 0 → a.r < 16 →
    exec (.cmpi n a) s = .next (s.facetDone n slot i
      ((c.dataDo 11 none (c.dr a.r) a.imm.toNat).advance 2) (2 + i.ctx.stall o))) ∧
  (∀ (n slot : Nat) (a : LongArgs) (f : Far) (o : FOp) (i : Item) (t : FTask) (c : FCtx) (s : State), o = .long 3 a f →
    s.Issues n slot i o t c → c.farAddr a % 4 = 0 → s.farMem (i.task.getD 0) (c.farAddr a) = true ∨ s.farPerf (c.farAddr a) = true →
    f.lasting = false →
    exec (.fld n a f) s = .next ((s.farRead n (c.farAddr a)).1.facetDone n slot i
      ({ c.writeReg (a.r % 32) (s.farRead n (c.farAddr a)).2 with flagsBy := 0 }.advance 2) (2 + f.wait + i.ctx.stall o))) ∧
  (∀ (n slot : Nat) (a : LongArgs) (f : Far) (o : FOp) (i : Item) (t : FTask) (c : FCtx) (s : State), o = .long 4 a f →
    s.Issues n slot i o t c → c.farAddr a % 4 = 0 → s.farMem (i.task.getD 0) (c.farAddr a) = true → f.lasting = false →
    exec (.fst n a f) s = .next ((s.withMem (mwrite s.mem (c.farAddr a) (le32 (c.readReg (a.r % 32)).1))).facetDone n slot i
      ({ c.ss (c.readReg (a.r % 32)).2 with flagsBy := 0 }.advance 2) (2 + f.wait + i.ctx.stall o)))

/-- The bus matrix rows complete: a request is issued, granted or withdrawn, completed, timed out; a park returns to its default (R324,
R325, R329, R330, R331, R333, R334, R335, R336, R344). While no reset holds the device, an unmasked master's request is issued when
it has room and nothing of it stalls, and stalls otherwise; a grant serves the chosen master's oldest visible request or, when it
was withdrawn, is void and counted; a granted write to a target that is not DRAM is carried out, and the matrix goes on; a granted
read likewise with its outcome; a first timeout is retried, a second fails; an idle target's park moves to its default master. -/
def Obligations.FabricRows : Prop :=
  (∀ (r : XReq) (s : State), s.sys.phase = .running → s.masked r.master = false →
    (∀ e ∈ s.xbar.reqs, e.req.master = r.master → e.st ≠ .stalled) → s.room r.master (accWrites r.acc) = true →
    exec (.xbarRequest r) s = .next ((s.withRstat 0).issueReq r)) ∧
  (∀ (r : XReq) (s : State), s.sys.phase = .running → s.masked r.master = false →
    (∃ e ∈ s.xbar.reqs, e.req.master = r.master ∧ e.st = .stalled) ∨ s.room r.master (accWrites r.acc) = false →
    exec (.xbarRequest r) s = .next ((s.withRstat 0).onXbar (fun x => { x with reqs := x.reqs ++ [⟨r, 0, .stalled, false, false⟩] }))) ∧
  (∀ (t m : Nat) (s : State), s.chosen t = some m →
    exec (.xbarGrant t false) s = .next ((s.grantTo t m).onXbar (fun x => { x with
      reqs := changeFirst (fun e => e.target == t && e.st == .visible && e.req.master == m) (fun e => some { e with st := .granted }) x.reqs }))) ∧
  (∀ (t m : Nat) (s u : State), s.chosen t = some m →
    u = s.onXbar (fun x => { x with ptr := tset 0 x.ptr t ((m + 1) % 16)
                                    reqs := changeFirst (fun e => e.target == t && e.st == .visible && e.req.master == m) (fun _ => none) x.reqs }) →
    exec (.xbarGrant t true) s = .next ((u.bump (Reg.XBAR_CNT 0)).perfAdd 56)) ∧
  (∀ (m g held : Nat) (e : Ecc) (s u : State) (x : XEntry) (n : Nat), s.grantedReq m g = some x → x.req.acc = .read n → x.discard = false →
    u = (((s.dropGranted m g).retrySucceeded x).carryOut m x.target x.req.addr (.read n) e).readOutcome m x.target x.req.addr n e →
    exec (.xbarComplete m g e held) s = .next (((u.bump (Reg.XBAR_CNT 6) held).perfAdd 57 held).afterLeave m)) ∧
  (∀ (m g held : Nat) (e : Ecc) (s u : State) (x : XEntry) (d : Bytes), s.grantedReq m g = some x → x.req.acc = .write d →
    x.target < 8 ∨ e ≠ Ecc.lasting → u = ((s.dropGranted m g).retrySucceeded x).carryOut m x.target x.req.addr (.write d) e →
    exec (.xbarComplete m g e held) s = .next (((u.bump (Reg.XBAR_CNT 6) held).perfAdd 57 held).afterLeave m)) ∧
  (∀ (m g : Nat) (s : State) (x : XEntry), s.grantedReq m g = some x → s.bit Reg.XBAR_CTRL 1 = true → x.retried = false →
    exec (.xbarTimeout m g) s = .next (s.onXbar (fun y => { y with
      reqs := changeFirst (fun e => e.req.master == m && e.req.tag == g && e.st == .granted) (fun e => some { e with retried := true }) y.reqs }))) ∧
  (∀ (m g : Nat) (s : State) (x : XEntry), s.grantedReq m g = some x → s.bit Reg.XBAR_CTRL 1 = true → x.retried = true →
    exec (.xbarTimeout m g) s = .next (((s.dropGranted m g).timeoutFail x).afterLeave m)) ∧
  (∀ (t : Nat) (s : State), t < 12 → s.visibleAt t = [] →
    exec (.parkDefault t) s = .next (s.onXbar (fun x => { x with park := tset 0 x.park t (s.fld (Reg.XBAR_DEFAULT t) 3 0) })))

/-- The DRAM controller rows complete: requests, refresh, temperature poll, row window, scrub, delay apply, sweep end (R348, R349, R351,
R354, R356, R357, R360, R361, R362, R363, R368). Requests join those that wait and what can be served is served; with the DDR domain
on, out of self-refresh and its PLL locked a refresh closes its bank; a poll in which no channel reads 0b111 takes each channel's
code; the end of a row window empties trackers and throttles and takes the threshold; a scrub reads its burst and moves on, counted
at the end of a pass; pending delay writes of a channel are applied together; a first failing lane is swept once more, and otherwise
the sweep ends. -/
def Obligations.DramRows : Prop :=
  (∀ (rs : List DramReq) (s t : State), t = ((s.withRdata []).withRstat 0).onDdrc (fun x => { x with waiting := x.waiting ++ rs }) →
    exec (.dramRequest rs) s = .next t.dramServeAll) ∧
  (∀ (c b : Nat) (s : State), bitOf s.sys.pwr 7 = true → s.ddrc.selfRefresh = false → s.time.ddrLock = true → c < 4 → b < 8 →
    exec (.refresh c b) s = .next ((s.onDdrc (fun x => { x with openRow := tset 0 x.openRow (bankKey c b) 0 })).perfAdd 53)) ∧
  (∀ (codes again : List Nat) (s : State), bitOf s.sys.pwr 7 = true → s.ddrc.selfRefresh = false → (∀ k ∈ codes, k % 8 ≠ 7) →
    exec (.mr4Poll codes again) s = .next (s.each ((List.range 4).zip codes) (fun t e => t.mr4Code e.1 (e.2 % 8)))) ∧
  (∀ s : State, exec .rowWindowEnd s = .next (s.onDdrc (fun x => { x with
    tracker := [], throttled := [], threshold := s.fld Reg.DDRC_ROWGUARD 15 0 }))) ∧
  (∀ (e : Ecc) (s t : State) (a : Nat), s.bit Reg.DDRC_CTRL 2 = true → s.dramServing = true → a = 0x100000000 + 64 * s.ddrc.scrub →
    t = ((s.dramRowsFor ⟨4, a, .read 64, 0, 0, false, e⟩).perfAdd 36).eccOutcome 4 a e →
    exec (.scrub e) s = .next
      (if s.dramUnits * 32768 ≤ s.ddrc.scrub + 1 then (t.onDdrc (fun x => { x with scrub := 0 })).bump (Reg.DDRC_CNT 6)
       else t.onDdrc (fun x => { x with scrub := s.ddrc.scrub + 1 }))) ∧
  (∀ (c : Nat) (s t : State) (l : Tbl Nat), l = s.ddrc.shadow.filter (fun e => e.1 / 16 == c) → l ≠ [] →
    t = s.each l (fun u e => u.setFld (Reg.DDRC_DLY c (e.1 % 16)) 7 0 e.2) →
    exec (.dlyApply c) s = .next ((t.onDdrc (fun x => { x with
      shadow := x.shadow.filter (fun e => e.1 / 16 != c), openRow := x.openRow.filter (fun e => e.1 / 8 != c) })).bump (Reg.DDRC_CNT 4))) ∧
  (∀ (ws : List Nat) (lane : Nat) (s : State) (w : Sweep), s.ddrc.sweep = some w → w.retried = false →
    exec (.sweepDone ws (some lane)) s = .next (s.onDdrc (fun x => { x with sweep := some { w with retried := true } }))) ∧
  (∀ (ws : List Nat) (lane : Option Nat) (s : State) (w : Sweep), s.ddrc.sweep = some w → lane = none ∨ w.retried = true →
    exec (.sweepDone ws lane) s = .next ((s.sweepEnd w ws lane).dramServeAll))

/-- The scheduler rows complete: release, cut-off, overrun, dispatch, resume, timer expiry, event items, completion, windows (R25, R293,
R294, R303, R308, R309, R313, R315, R317, R321). With the scheduler enabled, RT_RELEASE releases every live insert task in task-ID
order and CUT_OFF then cuts each; FACET_OVERRUN ends the resident instance of an insert task; TASK_DISPATCH, after the refills,
sends the best ready item that firmware may serve and a server can take to that server, unless it has repetitions of an RPT left;
RESUME restores a core's highest context when nothing better is ready; TIMER_EXPIRY expires the entries of its list; EVENT_ITEM
makes an item, of a Facet task at the task's level and flow; the end of the resident firmware item completes it; OBS_WINDOW_END
latches the nine servers and starts a new window. -/
def Obligations.SchedulerRows : Prop :=
  (∀ s : State, s.bit Reg.SCHED_CTRL 0 = true →
    exec .rtRelease s = .next ((s.each s.liveInserts (fun u e => u.releaseTask e)).onSched (fun x => { x with rtReleased := true }))) ∧
  (∀ s : State, s.sched.rtReleased = true →
    exec .cutOff s = .next ((s.each s.liveInserts (fun u e => u.cutTask e)).onSched (fun x => { x with rtReleased := false }))) ∧
  (∀ (n slot l : Nat) (i : Item) (c : FCtx) (s : State), s.resident n = some slot → s.item? slot = some i → s.facetLimit i = some l →
    c = { i.ctx with charged := max l i.ctx.charged } →
    exec (.facetOverrun n) s = .next (s.facetOverrun n slot { i with ctx := c })) ∧
  (∀ (lat slot n : Nat) (i : Item) (s u : State), s.bit Reg.SCHED_CTRL 0 = true → u = s.refillAll.noteBlocks →
    u.bestReady (fun j => u.mayServe j && (u.serverFor j).isSome) = some (slot, i) → u.serverFor i = some n → u.repeating n = false →
    exec (.taskDispatch lat) s = .next (u.dispatchTo slot i n lat)) ∧
  (∀ (n : Nat) (s : State), n < 8 → exec (.resumeI n) s = .next ((s.resumeCore n).resumeLimit n)) ∧
  (∀ (n k : Nat) (s u t : State), n < 4 → u = s.refillOlder → u.bit Reg.SCHED_CTRL 0 = true → k = tget 0 u.sched.listTick n + 1 →
    t = u.onSched (fun x => { x with listTick := tput u.sched.listTick n k }) →
    exec (.timerExpiry n) s = .next (t.each (t.expired n k) (fun u e => u.expire e.1 e.2))) ∧
  (∀ (v : Nat) (flow : Option Nat) (arg : Bytes) (s : State), 2 ≤ v → v ≤ 7 → s.sys.fwRunning = true →
    exec (.eventItem none v flow arg) s = .next (s.newEvent ⟨none, v, flow, 256, arg, false⟩)) ∧
  (∀ (t v : Nat) (flow : Option Nat) (arg : Bytes) (s : State), 2 ≤ (s.task t).level → (s.task t).level ≤ 7 → s.sys.fwRunning = true →
    (s.task t).enabled = true → (s.task t).insert = false →
    exec (.eventItem (some t) v flow arg) s = .next (s.newEvent ⟨some t, (s.task t).level, (s.task t).flow, (s.task t).mask, arg, false⟩)) ∧
  (∀ (slot : Nat) (i : Item) (s : State), s.resident 8 = some slot → s.item? slot = some i →
    exec .firmwareItemComplete s = .next (s.completeItem slot i)) ∧
  (∀ s t : State, s.bit Reg.OBS_CTRL 0 = true → t = s.obsTouch.each (List.range 9) (fun u n => u.latchObs n) →
    exec .obsWindowEnd s = .next (t.onSched (fun x => { x with
      obs := (List.range 9).foldl (fun v n => tset Obs.init v n ⟨0, t.readyFor n, 0, 0, 0⟩) [], obsStart := t.time.eventTick })))

/-- The port, microphone and generator event rows complete as the rules give (R31, R156, R169, R185, R186, R189, R200, R202, R255,
R266). While no reset holds the device and PORT runs: an FS edge that begins a frame of a configured group closes its frame, opens
the next, adopts masks and drives the pins; a slave group without an edge for 4 frame periods is lost, counted, reported and
undriven. A rise of SYNC_IN acts on the groups, the servo reference and its regeneration; a NONAUDIO_RELEASE lifts the mute of its
slot or channel; a microphone that is on is stuck, and is free at its next transition; the end of the sweep's last repeat is
signalled and posted once. -/
def Obligations.PortMicrophoneAndSweepEvents : Prop :=
  (∀ (g b : Nat) (d : FsEdge) (s : State), g < 8 → s.discards = false → s.portsRun = true → s.grpMode g ≠ 0 →
    s.isFrameEdge g d.rising = true →
    exec (.portFrameEdge g b d) s = .next
      (((((s.closeFrame g b d.pins).openFrame g).each (grpPorts g) (fun t p => t.adoptMask p)).driveGroup g))) ∧
  (∀ (g e : Nat) (s t : State), g < 8 → s.portsRun = true → s.grpMode g = 2 → (s.grp g).lost = false → (s.grp g).edge = some e →
    e + 4 * s.time.tps ≤ s.time.tick →
    t = ((((s.setGrp g { s.grp g with lost := true, index := none, due := none, freshAt := none }).raise (Reg.GRP_STAT g) 28).bump
      (Reg.GRP_CNT g 1)).raise Reg.PORTS_INT_STATUS 3) →
    exec (.grpLost g) s = .next ((t.portAlert g 1 0).each (grpPorts g) (fun u p => u.undrive p))) ∧
  (∀ s : State, s.discards = false → s.portsRun = true →
    exec (.syncInEdge true) s = .next ((((((s.bump (Reg.PORTS_CNT 0)).onPorts (fun x => { x with syncMoved := false })).each (List.range 8)
      (fun t g => t.syncGroup g)).syncServo (s.time.tick - 2)).syncRegen))) ∧
  (∀ s : State, s.discards = false → s.portsRun = false →
    exec (.syncInEdge true) s = .next ((s.syncServo (s.time.tick - 2)).syncRegen)) ∧
  (∀ (i k : Nat) (s : State) (a : NaSt), i < 64 → k < 16 → a = tget NaSt.init (s.port i).na k → a.muted = true → 4096 ≤ a.count →
    exec (.nonaudioRelease false i k) s = .next
      (s.setPort i { s.port i with na := tset NaSt.init (s.port i).na k { a with muted := false, fade := true } })) ∧
  (∀ (i k : Nat) (s : State) (a : NaSt), i < 255 → k < 64 → a = tget NaSt.init (s.ctx i).na k → a.muted = true → 4096 ≤ a.count →
    exec (.nonaudioRelease true i k) s = .next
      (s.setCtx i { s.ctx i with na := tset NaSt.init (s.ctx i).na k { a with muted := false, fade := true } })) ∧
  (∀ (c : Nat) (s : State), c < 16 → (s.mic c).on = true → (s.mic c).stuck = false →
    exec (.micStuck c) s = .next (((s.setMic c { s.mic c with stuck := true, stuckSticky := true, stuckAt := some s.time.sample }).bump
      (Reg.DECIM_CNT 0)).raise Reg.DECIM_INT_STATUS 3)) ∧
  (∀ (c : Nat) (s : State), c < 16 → (s.mic c).stuck = true →
    exec (.micTransition c) s = .next (s.setMic c { s.mic c with
      stuck := false, stuckAt := none, wasStuck := (s.mic c).stuckAt.map (fun a => (a, s.time.sample)) })) ∧
  (∀ (s : State) (c : GenSet) (st : Int), s.meas.gen.cfg = some c → s.meas.gen.start = some st → s.meas.gen.sweepDone = false →
    c.sweepEnd ≤ 8 * (s.firstRender - st) →
    exec .genDone s = .next (((s.onMeas (fun x => { x with gen := { x.gen with sweepDone := true } })).raise
      Reg.DECIM_INT_STATUS 2).post 0x6001 (le8 0)))

/-- The network and stream event rows complete: block lock, retraining, link poll, frames in and out, packets, legs, ARP (R208, R210,
R213, R218, R219, R234, R237, R240). With a MAC on: losing block lock takes the link down, starts retraining and drops its queues,
for both links where the SerDes PLL has lost lock; the end of retraining returns the link or marks it failed; a poll that finds lock
returns a link; an intact received frame is counted, forwarded and delivered and may end a wait for ARP, a bad one is counted; the
frame next in the transmit FIFO starts, unless the Mirror gate withholds it, and the PTP clock takes its timestamp.
STREAM_PACKET_SEND queues the due packets; a silent leg goes down, is counted and reported; an ARP timeout ends the waiting
STREAM_ENABLE at its first unresolved leg. -/
def Obligations.NetworkEventRows : Prop :=
  (∀ (m : Nat) (s : State), s.discards = false → s.macOn m = true → (s.mac m).linkUp = true →
    exec (.blockLockLoss (.port m)) s = .next (((s.setLink m false).onMac m (fun v => { v with retraining := true })).dropQueued m)) ∧
  (∀ s t : State, s.discards = false → t = (s.onTime (fun x => { x with sdLock := false })).raise Reg.CLK_INT_STATUS 3 →
    exec (.blockLockLoss .serdesPll) s = .next ((t.loseLock 0).loseLock 1)) ∧
  (∀ (m : Nat) (ok : Bool) (s t : State), s.macOn m = true → (s.mac m).retraining = true →
    t = s.onMac m (fun v => { v with retraining := false, failed := !ok }) →
    exec (.retrainEnd m ok) s = .next (if ok then (((t.onTime (fun x => { x with sdLock := true })).setLink m true).macCnt m 18).linkEvent m 1
      else ((t.macCnt m 19).raise (Reg.MAC_INT_STATUS m) 1).linkEvent m 2)) ∧
  (∀ (m : Nat) (s t : State), s.macOn m = true → (s.mac m).linkUp = false → (s.mac m).retraining = false →
    t = ((s.onTime (fun x => { x with sdLock := true })).setMac m { s.mac m with failed := false }).setLink m true →
    exec (.linkPoll m true) s = .next (if (s.mac m).failed then t.linkEvent m 3 else t)) ∧
  (∀ (m : Nat) (x : RxMeta) (f : Bytes) (s t : State), s.macOn m = true → (s.mac m).linkUp = true → t = s.forgetLeft m (s.rxStart x) →
    t.rxBad m x f = none → exec (.frameReceived m x f) s = .next (t.frameIntact m x f).arpReady) ∧
  (∀ (m k : Nat) (x : RxMeta) (f : Bytes) (s t : State), s.macOn m = true → (s.mac m).linkUp = true → t = s.forgetLeft m (s.rxStart x) →
    t.rxBad m x f = some k → exec (.frameReceived m x f) s = .next (t.macCnt m k)) ∧
  (∀ (m cyc : Nat) (f : TxFrame) (s t u : State), s.macOn m = true → (s.mac m).linkUp = true →
    t = (s.gateNext m).fillNext m (cyc % 50) 0 ((s.mac m).queued) → (t.mac m).next = some f →
    u = (t.startFrame m (cyc % 50) f).ptpSent m (cyc % 50) f →
    exec (.forwardTransmit m cyc) s = .next (u.fillNext m (cyc % 50) (f.data.length + 4) ((u.mac m).queued))) ∧
  (∀ s : State, exec .streamPacketSend s = .next (s.each (s.running true) (fun t c => t.sendPacket c))) ∧
  (∀ (c k : Nat) (s : State) (v : StreamCtx), c < 255 → k < 2 → v = s.ctx c → v.output = false → s.ctxRuns c = true → v.legOn k = true →
    (v.leg k).up = true → 64 ≤ (v.leg k).idle →
    exec (.legDown c k) s = .next ((((s.setCtx c (v.setLeg k { v.leg k with up := false })).ctxCnt c 11).raise Reg.STR_INT_STATUS 5).post
      0x4002 (le8 c ++ le8 k))) ∧
  (∀ (s : State) (w : ArpWait) (e : Nat × Nat × Nat) (es : List (Nat × Nat × Nat)), s.net.arpWait = some w → w.need = e :: es →
    exec .arpTimeout s = .next
      ((s.onNet (fun x => { x with arpWait := none })).respond w.hdr 0x4011 w.payload (Resp.err stState e.1 0)))

/-- The interlock, heartbeat, Lens load, tail block and worker-loss rows complete as the rules give (R138, R151, R154, R422, R426, R427,
R433, R435, R447). While no reset holds the device: at the switch tick a live unit that is not leaving acts on its HANDOVER and
raise; a unit leaving for PARK gives up ACT; an edge of MIR_ACT_IN is taken with its stamp; a low confirmed on a second tick ends
the partner's activity; the heartbeat check judges a standby's heartbeat. A loading Lens bank becomes complete; in the live modes a
tail block boundary applies grants and computes every due block; a watched unit silent for 64 quanta is lost and reported. -/
def Obligations.MirrorLensAndWorkerEvents : Prop :=
  (∀ (s t : State) (n : Nat), s.sys.phase = .running → n = s.nextBoundary → t = s.tickTo (s.switchTick n) → t.live = true →
    t.leaving = false → t.wdtLower = false → exec .switchTick s = .next ((t.switchHandover n).switchRaise n)) ∧
  (∀ (s t : State) (n : Nat), s.sys.phase = .running → n = s.nextBoundary → t = s.tickTo (s.switchTick n) → t.live = true →
    t.leaving = true → exec .switchTick s = .next ((t.switchPark n).switchHandover n)) ∧
  (∀ (v : Bool) (s : State), s.sys.phase = .running → s.mir.actIn ≠ v →
    exec (.mirActInChange v) s = .next (s.actInEdge v (s.time.tick - 2))) ∧
  (∀ s : State, s.sys.phase = .running → s.mir.actIn = false → s.mirrorOn = true → exec .actInConfirmed s = .next s.actInConfirmed) ∧
  (∀ (b v : Bool) (k : Nat) (s t : State), s.sys.phase = .running → s.mirrorOn = true → s.mir.st = .standby ∨ s.mir.st = .pending →
    t = s.onMir (fun x => { x with hbIn := v && !b && k == 0 }) →
    exec (.heartbeatCheck b k v) s = .next ((t.hbStray k).hbCheck b).keepReady) ∧
  (∀ (b v : Bool) (k : Nat) (s : State), s.sys.phase = .running → s.mir.st ≠ .standby → s.mir.st ≠ .pending →
    exec (.heartbeatCheck b k v) s = .next (s.onMir (fun x => { x with hbIn := v && !b && k == 0 }))) ∧
  (∀ (bus k : Nat) (s : State) (l : LensLoad) (e : Nat × Nat × Bytes), s.sys.mode ≠ .park →
    s.lens.loads.find? (fun x => x.left.any (fun y => y.1 == bus && y.2.1 == k)) = some l →
    l.left.find? (fun y => y.1 == bus && y.2.1 == k) = some e →
    exec (.lensLoadDone bus k) s = .next (s.loadBank l bus k e.2.2)) ∧
  (∀ (late : List Nat) (fails : TailFails) (spare : Nat) (s t : State) (due : Tbl LensBus), s.live = true →
    t = s.applyGrants (s.time.lastQ / 32) → due = t.lens.buses.filter (fun e => decide (256 ≤ e.2.block.length)) → due ≠ [] →
    exec (.tailBlockBoundary late fails spare) s = .next
      ((t.each due (fun u e => u.busBlock ((s.time.lastQ - 2 - s.osLag) / 32 - 1) late fails e.1)).noteMargin
        (if late.isEmpty then spare else 0))) ∧
  (∀ (id k : Nat) (s : State), s.hier.heard.find? (fun e => e.1 == id) = some (id, k) → s.hier.role = 1 → 1 ≤ id → id ≤ 63 →
    k + 64 * s.time.tq ≤ s.time.eventTick →
    exec (.workerLost id) s = .next
      ((s.onHier (fun x => { x with heard := tdel x.heard id, lost := tset false x.lost id true })).post 0x8010 (le8 id)))

/-- QUANTUM_BOUNDARY completes: it takes the clock to the next boundary and, while the device runs, carries that boundary out (R17, R21,
R34, R257, R242, R456, R489). Unless power-on reset or the test state holds the system counter, QUANTUM_BOUNDARY brings the counter
to the quantum boundary n that is due or comes next; while no reset holds the device the boundary n is carried out with the
environment given, and under a reset only the number of the last boundary moves on. A time step that waits outside the live modes is
applied in the next tick: before the boundary where that tick comes before the boundary's, after it where it is the boundary's. -/
def Obligations.QuantumBoundaryAdvances : Prop :=
  (∀ (env : BoundaryEnv) (s u t : State) (n at_ : Nat), s.clockRuns = true → at_ = max (s.time.lastQ + 1) (s.time.tick / s.time.tq) * s.time.tq →
    u = (if s.stepWaits = true ∧ s.time.tick + 1 < at_ then s.idleTick else s) → n = max (u.time.lastQ + 1) (u.time.tick / u.time.tq) →
    t = u.tickTo (n * u.time.tq) → t.sys.phase = .running →
    exec (.quantumBoundary env) s = .next
      (if s.stepWaits = true ∧ s.time.tick + 1 = at_ then (t.boundary n env).idleStep else t.boundary n env)) ∧
  (∀ (env : BoundaryEnv) (s u t : State) (n at_ : Nat), s.clockRuns = true → at_ = max (s.time.lastQ + 1) (s.time.tick / s.time.tq) * s.time.tq →
    u = (if s.stepWaits = true ∧ s.time.tick + 1 < at_ then s.idleTick else s) → n = max (u.time.lastQ + 1) (u.time.tick / u.time.tq) →
    t = u.tickTo (n * u.time.tq) → t.sys.phase ≠ .running →
    exec (.quantumBoundary env) s = .next (if s.stepWaits = true ∧ s.time.tick + 1 = at_ then (t.onTime (fun x => { x with lastQ := n })).idleStep
      else t.onTime (fun x => { x with lastQ := n })))

/-- LOCK_REL by the owner frees the lock whatever else it holds; by any other master it changes no lock and is counted (R339). For every
unmasked master that may use the lock registers (master 15 with debug unlocked) and every lock 0 to 63: if the master holds the
lock, writing 1 to LOCK_RELn leaves it free and every other lock, held by that master or not, as it was; if it does not hold it, no
lock changes and LOCK_FOREIGN (XBAR_CNT9) counts one more (32 bits, wrapping). Nothing else of the matrix, no memory and no other
register changes. -/
def Obligations.LocksAreReleasedByTheirOwner : Prop :=
  (∀ (m n : Nat) (s : State), s.masked m = false → mayLock m = true → (m = 15 → s.sec.unlocked = true) → n < 64 → (s.lock n).held = true → (s.lock n).owner = m →
    ∃ t : State, exec (.lockRel m n) s = .next t ∧ (t.lock n).held = false ∧ (∀ k, k ≠ n → t.lock k = s.lock k) ∧
      t.regs = s.regs ∧ t.mem = s.mem ∧ { t.xbar with locks := s.xbar.locks } = s.xbar) ∧
  (∀ (m n : Nat) (s : State), s.masked m = false → mayLock m = true → (m = 15 → s.sec.unlocked = true) → n < 64 → (s.lock n).held = false ∨ (s.lock n).owner ≠ m →
    ∃ t : State, exec (.lockRel m n) s = .next t ∧ t.xbar = s.xbar ∧ t.mem = s.mem ∧
      t.rd (Reg.XBAR_CNT 9) = (s.rd (Reg.XBAR_CNT 9) + 1) % 2 ^ 32 ∧
      (∀ a, a ≠ Reg.XBAR_CNT 9 → t.rd a = s.rd a))

/-- LOCK_ACQ answers ORDER, HELD, GRANTED or GRANTED_BROKEN by the lock and the locks its master holds, and changes what they say (R323,
R336, R338, R341, 12_fabric_locks_sram.md). For every unmasked master that may take locks and every lock 0 to 63: a lock not higher
than every lock the master holds answers ORDER, counted, and changes no lock; otherwise a lock held by another answers HELD and
changes none; a free lock is granted, the master becomes its owner and BROKEN clears, the answer saying whether it was set; every
other lock stays. A second acquire of a lock is ORDER. Master 15 with debug unlocked reads the state and changes nothing. The word
read has the result in bits 31:30 and the owner in 3:0. -/
def Obligations.LocksAreAcquiredInOrder : Prop :=
  (∀ (m n : Nat) (s : State), s.masked m = false → mayLock m = true → m ≠ 15 → n < 64 → s.lockAbove m n = false →
    ∃ t : State, exec (.lockAcq m n) s = .next t ∧ t.rdata = le32 (3 * 2 ^ 30 + (s.lock n).owner) ∧ t.xbar = s.xbar ∧
      t.rd (Reg.XBAR_CNT 7) = (s.rd (Reg.XBAR_CNT 7) + 1) % 2 ^ 32) ∧
  (∀ (m n : Nat) (s : State), s.masked m = false → mayLock m = true → m ≠ 15 → n < 64 → s.lockAbove m n = true → (s.lock n).held = true →
    ∃ t : State, exec (.lockAcq m n) s = .next t ∧ t.rdata = le32 (2 * 2 ^ 30 + (s.lock n).owner) ∧ t.xbar = s.xbar ∧ t.regs = s.regs) ∧
  (∀ (m n : Nat) (s : State), s.masked m = false → mayLock m = true → m ≠ 15 → n < 64 → s.lockAbove m n = true → (s.lock n).held = false →
    ∃ t : State, exec (.lockAcq m n) s = .next t ∧ t.rdata = le32 ((if (s.lock n).broken then 2 ^ 30 else 0) + m) ∧ t.lock n = ⟨true, m, false⟩ ∧
      (∀ k, k ≠ n → t.lock k = s.lock k) ∧ t.regs = s.regs) ∧
  (∀ (m n : Nat) (s : State), s.lock n = ⟨true, m, (s.lock n).broken⟩ → s.lockAbove m n = false) ∧
  (∀ (n : Nat) (s : State), s.masked 15 = false → s.sec.unlocked = true → n < 64 →
    exec (.lockAcq 15 n) s = .next ((s.withRdata (le32 (s.lock n).word)).withRstat 0))

/-- A read of PERF_CNTn_LO latches the upper half for its master, and both halves of a chained odd counter, and no other master's
latches (R470). For every master and counter with no latched pair waiting for it: reading LO answers bits 31:0; in every later state
whose latches are those it left, whatever the counters have become, reading HI answers bits 47:32 of the time of the LO read. If the
counter is even and the next is chained to it, that master's next LO of the odd counter answers its low half and its HI then the
high half, as they were, while the counters may have changed. No latch of another master changes, and nothing but the latches and
the data read. -/
def Obligations.PerfReadsLatchPerMaster : Prop :=
  ∀ (m n : Nat) (s : State), n < 128 → s.perfPair m n = none →
    ∃ t : State, exec (.perfCntLoRead m n) s = .next t ∧ t.rdata = le32 (tget 0 s.perf.cnt n % 2 ^ 32) ∧
      { (t.withRdata s.rdata) with perf := s.perf } = s ∧ t.perf.cnt = s.perf.cnt ∧
      (∀ u : State, u.perf.latch = t.perf.latch → u.perf.chained = t.perf.chained →
        exec (.perfCntHiRead m n) u = .next (u.withRdata (le32 (tget 0 s.perf.cnt n / 2 ^ 32)))) ∧
      (s.perfChained n = true → ∀ u : State, u.perf.latch = t.perf.latch → u.perf.chained = t.perf.chained →
        ∃ v : State, exec (.perfCntLoRead m (n + 1)) u = .next v ∧ v.rdata = le32 (tget 0 s.perf.cnt (n + 1) % 2 ^ 32) ∧
          ∀ w : State, w.perf.latch = v.perf.latch → w.perf.chained = v.perf.chained →
            exec (.perfCntHiRead m (n + 1)) w = .next (w.withRdata (le32 (tget 0 s.perf.cnt (n + 1) / 2 ^ 32)))) ∧
      (∀ k i : Nat, k ≠ m → i < 128 → t.perfHi k i = s.perfHi k i ∧ t.perfPair k i = s.perfPair k i)

/-- The debug window reads zeros and ignores writes while debug is locked, and otherwise makes its access as master 15 or aborts (R382).
With the PCIe link up (HOST_IF at PCIe) and no reset: at every offset below 512 KiB, with debug locked a read answers zeros and a
write changes nothing but the result of the access. Unlocked, an aligned 32-bit access is carried out by master 15 at the address
(BASE << 19) + offset when the matrix lets it through, and otherwise is logged for master 15 and ends in a completer abort (result
1, no data, HOSTIF's abort status and counter). An offset of 512 KiB or more is no access of the window. -/
def Obligations.DebugWindowIsMaster15 : Prop :=
  (∀ (w n : Nat) (s : State), s.sys.phase = .running → s.sys.straps.hostIf = false → s.host.linkUp = true → w < 0x80000 → s.sec.unlocked = false →
    exec (.debugWindowAccess w (.read n)) s = .next ((s.withRdata (zeros n)).withRstat 0)) ∧
  (∀ (w : Nat) (d : Bytes) (s : State), s.sys.phase = .running → s.sys.straps.hostIf = false → s.host.linkUp = true → w < 0x80000 →
    s.sec.unlocked = false → exec (.debugWindowAccess w (.write d)) s = .next ((s.withRdata []).withRstat 0)) ∧
  (∀ (w a k : Nat) (acc : Access) (s u : State), s.sys.phase = .running → s.sys.straps.hostIf = false → s.host.linkUp = true → w < 0x80000 →
    s.sec.unlocked = true → accLen acc = 4 → w % 4 = 0 → a = s.fld Reg.HOSTIF_DBG_WIN 20 0 * 0x80000 + w →
    u = (s.withRdata []).withRstat 0 → u.refusal 15 a (accWrites acc) = none → u.targetOf 15 a = some k →
    exec (.debugWindowAccess w acc) s = .next (u.carryOut 15 k a acc .clean)) ∧
  (∀ (w a e k : Nat) (acc : Access) (s u : State), s.sys.phase = .running → s.sys.straps.hostIf = false → s.host.linkUp = true → w < 0x80000 →
    s.sec.unlocked = true → accLen acc = 4 → w % 4 = 0 → a = s.fld Reg.HOSTIF_DBG_WIN 20 0 * 0x80000 + w →
    u = (s.withRdata []).withRstat 0 → u.refusal 15 a (accWrites acc) = some (e, k) →
    ∃ v : State, exec (.debugWindowAccess w acc) s = .next (v.completerAbort) ∧ v.mem = s.mem ∧ v.engineState = s.engineState) ∧
  (∀ (w : Nat) (acc : Access) (s : State), 0x80000 ≤ w → exec (.debugWindowAccess w acc) s = .next s)

/-- AIR_SET takes T from -200 to 500 and aims at c = 331,300 + 606 T / 10 mm/s; T is 200 at reset; other values are refused (R39). After
reset T is 200 and c, in use and aimed at, is 343,420 mm/s (the model holds 10 c in units of 2^-32). When firmware serves AIR_SET, a
T from -200 to 500 becomes the temperature and the speed aimed at becomes 331,300 + 606 T / 10 mm/s; any other T is answered
ERR_RANGE at offset 0 and the whole scene, c with it, stays as it was. -/
def Obligations.AirTemperatureSetsTheSpeedOfSound : Prop :=
  State.reset.scene.airT = 200 ∧ State.reset.scene.c = 10 * 343420 * 2 ^ 32 ∧ State.reset.scene.cTarget = 10 * 343420 * 2 ^ 32 ∧
  (∀ (h : Hdr) (p : Bytes) (s : State), s.Serves modesCfg → p.length = 4 → -200 ≤ s16At p 0 → s16At p 0 ≤ 500 →
    ∃ t : State, exec (.airSet h p) s = .next (t.respond h 0x1010 p Resp.ok) ∧ t.scene.airT = s16At p 0 ∧
      t.scene.cTarget = (10 * 331300 + 606 * s16At p 0) * 2 ^ 32 ∧ t.scene.c = s.scene.c) ∧
  (∀ (h : Hdr) (p : Bytes) (s : State), s.Serves modesCfg → p.length = 4 → s16At p 0 < -200 ∨ 500 < s16At p 0 →
    ∃ t : State, exec (.airSet h p) s = .next t ∧ t.scene = s.scene ∧ t = (s.taken h 0x1010).respond h 0x1010 p (Resp.errF stRange 0))

/-- A step of a state with a command at the front of its queue is that command's effect on the state with the queue's rest (R33, R35,
R390). For every command c, every queue rest cs and every state s, the step of s with the queue c :: cs is exec of c on s with the
queue cs, whatever its outcome. Every statement about a command's effect reaches a run through this one. -/
def Obligations.StepRunsTheFrontCommand : Prop :=
  ∀ (c : Instr) (cs : List Instr) (s : State), step { s with pending := c :: cs } = exec c { s with pending := cs }

/-- With no command waiting a step is one event tick (the model's choice, notes/assumptions/1): time and what counts cycles pass, no
more (R32, R242, R257, R266, R467, R468, R472). On an empty queue a step answers a next state. While power-on reset or the test
state holds the counter it is the same state; otherwise the tick counter and the count of event ticks rise by one, and then a time
step that waits outside the live modes is applied. Where no step waits, nothing but time changes and what the performance counters
make of the conditions that hold (with, while the tick is not locked to media samples, the next free value); where none holds they
keep their counts. That an empty queue lets a tick pass is a DESIGN CHOICE (notes/assumptions/1), not the spec's words. -/
def Obligations.EmptyQueueIsOneTick : Prop :=
  (∀ s : State, s.pending = [] → s.clockRuns = false → step s = .next s) ∧
  (∀ s : State, s.pending = [] → s.clockRuns = true → s.live = true ∨ s.time.step = none →
    ∃ t : State, step s = .next t ∧ t.time.tick = s.time.tick + 1 ∧ t.time.eventTick = s.time.eventTick + 1 ∧
      { t with time := s.time, perf := s.perf, freeCnt := s.freeCnt } = s ∧ (s.conditions = [] → t.perf.cnt = s.perf.cnt)) ∧
  (∀ s : State, s.pending = [] → s.clockRuns = true → s.live = false → s.time.step.isSome = true → step s = .next (s.passTicks 1).parkStep)

/-- A response is written whole: header echoed, CRC right, slot DONE with its bit, recorded unless BUSY, and no other slot changes
(R387, R389, R390, R400). For every response of at most 240 payload bytes in slots 0 to 7: its slot is DONE and unlocked, bit n of
MBX_DONE is set and no other bit of MBX_DONE changes; the response slot holds opcode, sequence, length, status and tag of the
command, a CRC-32 over the header with the CRC field zero and the payload, then the payload; the slot records the command's sequence
and CRC with these bytes unless the status is BUSY, which leaves the earlier record; every other slot is as it was. -/
def Obligations.MailboxAnswers : Prop :=
  ∀ (h : Hdr) (op : Nat) (p : Bytes) (r : Resp) (s t : State) (b : Bytes), h.slot < 8 → r.payload.length ≤ 240 → t = s.respond h op p r →
    b = mread t.mem (rspSlotAddr h.slot) (16 + r.payload.length) →
    (t.slot h.slot).st = .done ∧ (t.slot h.slot).locked = false ∧
    (∀ k, k < 8 → t.bit Reg.MBX_DONE k = (k == h.slot || s.bit Reg.MBX_DONE k)) ∧
    u16At b 0 = op % 2 ^ 16 ∧ u16At b 2 = h.seq % 2 ^ 16 ∧ u16At b 4 = r.payload.length ∧ u16At b 6 = r.status % 2 ^ 16 ∧
    u32At b 8 = h.tag % 2 ^ 32 ∧ b.drop 16 = r.payload ∧ crcOk b = true ∧
    (t.slot h.slot).last = (if r.status = stBusy then (s.slot h.slot).last else some ⟨h.seq, s.recCrc h op p, b⟩) ∧
    (∀ k, k ≠ h.slot → t.slot k = s.slot k)

/-- Every mailbox command row meets the same checks in the same order: reset, BOOTING, length, holding, mode, bulk limit (R390, R391,
R392, R398, R457, R525). For every row that is a command of the mailbox but a BOOT_GO that the boot ROM waits for: under a reset
nothing happens; before firmware runs the boot ROM answers BOOTING; with firmware running the command is taken (counted and traced),
a wrong length answers ERR_LEN, a command not legal in BOOT is held there, one not legal in the mode in force answers ERR_MODE, and
a bulk command with four in progress answers BUSY; none of these changes any other state. -/
def Obligations.MailboxChecks : Prop :=
  ∀ (i : Instr) (c : CmdDef) (h : Hdr) (p : Bytes) (s : State), mailboxOf i = some (c, h, p) → (∀ h2 p2, i = .bootGo h2 p2 → s.sys.hostBootWait = false) →
    (s.sys.phase ≠ .running → exec i s = .next s) ∧
    (s.sys.phase = .running → s.sys.fwRunning = false → exec i s = .next (s.answerBooting h c.op)) ∧
    (s.sys.phase = .running → s.sys.fwRunning = true → c.len p = false → exec i s = .next ((s.taken h c.op).respond h c.op p ⟨stLen, []⟩)) ∧
    (s.sys.phase = .running → s.sys.fwRunning = true → c.len p = true → s.sys.mode = .boot → Mode.boot ∉ c.legal →
      exec i s = .next ((s.taken h c.op).hold h c.op p)) ∧
    (s.sys.phase = .running → s.sys.fwRunning = true → c.len p = true → s.sys.mode ≠ .boot → s.sys.mode ∉ c.legal →
      exec i s = .next ((s.taken h c.op).respond h c.op p (Resp.errS stMode))) ∧
    (s.Serves c.legal → c.len p = true → c.bulk p = true → 4 ≤ s.mbx.bulk.length →
      exec i s = .next ((s.taken h c.op).respond h c.op p ⟨stBusy, []⟩))

/-- COMMAND_HANDLE judges the slot at the head: ERR_LEN, ERR_CRC, a duplicate's answer again, ERR_OPCODE, or the command itself (R387,
R389, R390, R391). With firmware running and a posted slot n at the head of the queue that no held command owns: a length above 240
answers ERR_LEN and a CRC that fails twice ERR_CRC, neither recorded; a sequence and CRC equal to those recorded for the slot writes
the recorded response again, executes nothing and counts DUPLICATE; an opcode of no command answers ERR_OPCODE. The slot leaves the
queue each time. A slot whose opcode group waits stays at the head. -/
def Obligations.PostedSlotIsJudged : Prop :=
  ∀ (glitch : Bool) (s u v : State) (n : Nat) (q : List Nat) (b p : Bytes), s.sys.phase = .running → s.sys.fwRunning = true →
    s.mbx.queue = n :: q → s.heldJob n = none → b = s.slotRaw8 n → p = slice b 16 (u16At b 4) → u = (s.popQueue n).taken (hdrOf n b) (u16At b 0) →
    v = (if glitch then u.bump (Reg.MBX_CNT 2) else u) →
    (240 < u16At b 4 → exec (.commandHandle glitch) s = .next (u.respondUnrecorded (hdrOf n b) (u16At b 0) ⟨stLen, []⟩)) ∧
    (u16At b 4 ≤ 240 → crcOk b = false →
      exec (.commandHandle glitch) s = .next ((u.bump (Reg.MBX_CNT 1)).respondUnrecorded (hdrOf n b) (u16At b 0) ⟨stCrc, []⟩)) ∧
    (u16At b 4 ≤ 240 → crcOk b = true → s.mustWait (u16At b 0) p = true → exec (.commandHandle glitch) s = .next s) ∧
    (∀ r : SlotRec, u16At b 4 ≤ 240 → crcOk b = true → s.mustWait (u16At b 0) p = false → (s.slot n).last = some r →
      r.seq = u16At b 2 → r.crc = u32At b 12 →
      exec (.commandHandle glitch) s = .next
        ((v.bump (Reg.MBX_CNT 3)).putResponse (hdrOf n b) (u16At b 0) (u16At r.resp 6) r.resp (fun sl => sl.last))) ∧
    (u16At b 4 ≤ 240 → crcOk b = true → s.mustWait (u16At b 0) p = false → commandOf (u16At b 0) = none →
      (∀ r : SlotRec, (s.slot n).last = some r → r.seq ≠ u16At b 2 ∨ r.crc ≠ u32At b 12) →
      exec (.commandHandle glitch) s = .next (v.respond (hdrOf n b) (u16At b 0) p ⟨stOpcode, []⟩)) ∧
    u.mbx.queue = q

/-- A host write within one command slot reads back and touches nothing else; while the slot is locked it is ignored and counted (R387,
R389). For every write that lies within one command slot n: while the slot is not locked its bytes then read as written, every other
byte of memory reads as before and nothing but memory changes; while it is locked, nothing changes but SLOT_WRITE_LOCKED (MBX_CNT4),
which counts one more (32 bits, wrapping). -/
def Obligations.SlotWriteReads : Prop :=
  ∀ (n off : Nat) (d : Bytes) (s : State), s.sys.phase = .running → n < 8 → 0x100 * n ≤ off → off + d.length ≤ 0x100 * n + 0x100 → d ≠ [] →
    ((s.slot n).locked = false → ∃ t : State, exec (.commandSlotWrite off d) s = .next t ∧ mread t.mem (0x20030000 + off) d.length = d ∧
      (∀ a, a < 0x20030000 + off ∨ 0x20030000 + off + d.length ≤ a → mget t.mem a = mget s.mem a) ∧ t.withMem s.mem = s) ∧
    ((s.slot n).locked = true → ∃ t : State, exec (.commandSlotWrite off d) s = .next t ∧
      t.rd (Reg.MBX_CNT 4) = (s.rd (Reg.MBX_CNT 4) + 1) % 2 ^ 32 ∧ (∀ a, a ≠ Reg.MBX_CNT 4 → t.rd a = s.rd a) ∧ t.withRegs s.regs = s)

/-- Taking and answering a command changes no engine, and of registers and memory only those of the mailbox, event ring and trace (R387,
R389, R393, R394, R473, R474). Between its own effect and its answer, a served command changes nothing else: taking it and writing a
response of n bytes in all leave the engines, the flash, the queue of the block and the last access's result as they were; of the
registers only MBX_CNT0, MBX_CNT6, MBX_DONE, MBX_INT_STATUS, MBX_EVR_PROD and TRACE_INT_STATUS may change; of memory only the
response's bytes, the placed trace buffer and, under SPI, the event ring; of the mailbox only its slot and the state of the event
ring; of the host interface only pending and sent vectors; host memory only under PCIe. -/
def Obligations.AnswerFrame : Prop :=
  ∀ (h : Hdr) (op : Nat) (p : Bytes) (r : Resp) (s t : State), t = (s.taken h op).respond h op p r →
    t.engineState = s.engineState ∧ t.pending = s.pending ∧ t.flash = s.flash ∧ t.rdata = s.rdata ∧ t.rstat = s.rstat ∧
    (∀ a, a ∉ [Reg.MBX_CNT 0, Reg.MBX_CNT 6, Reg.MBX_DONE, Reg.MBX_INT_STATUS, Reg.MBX_EVR_PROD, Reg.TRACE_INT_STATUS] → t.rd a = s.rd a) ∧
    (∀ a, ¬ s.answerOwns h.slot (16 + r.payload.length) a → mget t.mem a = mget s.mem a) ∧
    { t.mbx with slots := s.mbx.slots, lastEvents := s.mbx.lastEvents, lostBefore := s.mbx.lostBefore, evSeq := s.mbx.evSeq } = s.mbx ∧
    (∀ k, k ≠ h.slot → t.slot k = s.slot k) ∧
    { t.host with pba := s.host.pba, vectors := s.host.vectors } = s.host ∧
    (s.sys.straps.hostIf = true → t.hostMem = s.hostMem)

/-- Every step of every state answers a next state: no command and no tick of the block ends in a fault or a refusal (R33, R388, R390,
R400). From every state whatever, with any command or none at the front of its queue, the step answers a next state. What the spec
refuses it answers with a status, an event or an error response, which are effects on the state; the model has no fault and refuses
no command. -/
def Obligations.EveryStepAnswersNext : Prop :=
  ∀ s : State, s.Goes

/-- What reset leaves: power-on state, BOOT, nothing queued or held, every memory empty, every register at its reset value (R39, R338,
R370, R373, R389, R397, R401, R456, R487). After reset the block is held in power-on reset in mode BOOT with no firmware, output
muted, debug locked; no command waits in its queue and every mailbox slot is idle with no record; no lock is held, no job is open;
the air is at 20 degrees; the system counter is 0; SYS_ID reads 0x961000B0 and every register reads the value the table of reset
values gives it (values the spec does not state are the model's, notes/assumptions/3); the memories are empty and canonical.
State.reset is the state while PORST_N is low. -/
def Obligations.ResetState : Prop :=
  State.reset.Canonical ∧ State.reset.pending = [] ∧ State.reset.sys.phase = .porst ∧ State.reset.sys.mode = .boot ∧
  State.reset.sys.fwRunning = false ∧ State.reset.sys.muted = true ∧ State.reset.sec.unlocked = false ∧
  (∀ n, State.reset.slot n = ⟨.idle, false, none⟩) ∧ State.reset.mbx.queue = [] ∧ State.reset.mbx.held = [] ∧ State.reset.mbx.jobs = [] ∧
  (∀ n, (State.reset.lock n).held = false) ∧ State.reset.scene.airT = 200 ∧ State.reset.time.tick = 0 ∧
  (∀ a, State.reset.rd a = (regReset a).toNat) ∧ State.reset.rd Reg.SYS_ID = 0x961000B0 ∧
  State.reset.mem = [] ∧ State.reset.hostMem = [] ∧ State.reset.flash = []

/-- MUL, MAC, MSB accumulate exactly in 72 bits with V and SV on a wrap; EXP and NORM give the redundant sign bits; ADD and SUB wrap
(R274, R276, R278, R280, R286, R289). For every core that issues the instruction without RPT, without parallel loads, below its
cycle limit: MUL, MAC and MSB write the exact product (doubled under FRAC), sum or difference wrapped to 72 bits, set V when it
wrapped, keep SV set once set, GX as the guard bits say, and change no other accumulator, register or SR bit; EXP and NORM write the
number e of redundant sign bits less 8, from -8 to 63, NORM shifting by it, 63 and 0 for zero; data ADD and SUB write the low 32
bits, C the carry out of bit 31 (of the complement plus one for SUB), V the signed overflow, Z and N. No memory changes. -/
def Obligations.FacetArithmetic : Prop :=
  (∀ (n slot op : Nat) (a : MacArgs) (s : State) (i : Item) (t : FTask) (c : FCtx) (p v : Int), s.Issues n slot i (.mac op a) t c → c.rpt = none →
    s.Room i (i.ctx.stall (.mac op a) + 1) → a.pm = ⟨false, 0, 0, false, 0, 0, false⟩ → a.ab = 0 → a.u = 0 → a.v = 0 → a.aa < 4 →
    p = (if bitOf c.sr 11 then 2 else 1) * (toSigned 32 (c.dr (a.s % 8)) * toSigned 32 (c.dr (a.t % 8))) →
    (op = 0 ∧ v = p) ∨ (op = 1 ∧ v = c.ac a.aa + p) ∨ (op = 2 ∧ v = c.ac a.aa - p) →
    ∃ (u : State) (c1 : FCtx), exec (if op = 0 then .mulM n a else if op = 1 then .mac n a else .msb n a) s = .next u ∧
      u.item? slot = some { i with ctx := c1 } ∧ u.mem = s.mem ∧
      c1.ac a.aa = (v + 2 ^ 71) % 2 ^ 72 - 2 ^ 71 ∧ (∀ k, k < 4 → k ≠ a.aa → c1.ac k = c.ac k) ∧ (∀ k, c1.dr k = c.dr k) ∧
      bitOf c1.sr 3 = decide (v < -2 ^ 71 ∨ 2 ^ 71 ≤ v) ∧ bitOf c1.sr 5 = (bitOf c.sr 5 || decide (v < -2 ^ 71 ∨ 2 ^ 71 ≤ v)) ∧
      bitOf c1.sr 4 = decide (c1.ac a.aa < -2 ^ 63 ∨ 2 ^ 63 ≤ c1.ac a.aa) ∧ (∀ k, k ≠ 3 → k ≠ 4 → k ≠ 5 → bitOf c1.sr k = bitOf c.sr k)) ∧
  (∀ (norm : Bool) (n slot m : Nat) (a : AccArgs) (o : FOp) (s : State) (i : Item) (t : FTask) (c : FCtx),
    o = .acc (if norm then 13 else 14) a → s.Issues n slot i o t c → c.rpt = none → s.Room i (i.ctx.stall o + 1) →
    a.pm = ⟨false, 0, 0, false, 0, 0, false⟩ → a.ab = 0 → a.aa < 4 → m < 16 → a.km = 16 * m →
    ∃ (u : State) (c1 : FCtx) (e : Int), exec (if norm then .normA n a else .expA n a) s = .next u ∧ u.item? slot = some { i with ctx := c1 } ∧
      u.mem = s.mem ∧ (∀ k, k < 4 → k ≠ a.aa → c1.ac k = c.ac k) ∧ (∀ k, k < 16 → k ≠ m → c1.dr k = c.dr k) ∧ toSigned 32 (c1.dr m) = e ∧
      (c.ac a.aa = 0 → e = (if norm then 0 else 63) ∧ c1.ac a.aa = 0 ∧ (norm = true → bitOf c1.sr 0 = true)) ∧
      (c.ac a.aa ≠ 0 → -8 ≤ e ∧ e ≤ 63 ∧ -2 ^ (63 - e).toNat ≤ c.ac a.aa ∧ c.ac a.aa < 2 ^ (63 - e).toNat ∧
        (e < 63 → c.ac a.aa < -2 ^ (62 - e).toNat ∨ 2 ^ (62 - e).toNat ≤ c.ac a.aa) ∧
        c1.ac a.aa = (if norm then (if 0 ≤ e then c.ac a.aa * 2 ^ e.toNat else c.ac a.aa / 2 ^ (-e).toNat) else c.ac a.aa))) ∧
  (∀ (sub : Bool) (n slot x y : Nat) (v : Int) (a : DataArgs) (o : FOp) (s : State) (i : Item) (t : FTask) (c : FCtx),
    o = .dat (if sub then 1 else 0) a → s.Issues n slot i o t c → c.rpt = none → s.Room i (i.ctx.stall o + 1) → a.d < 16 →
    (a.i = true ∧ a.t = 0 ∧ y = ofSigned 32 (toSigned 10 a.imm)) ∨ (a.i = false ∧ a.imm = 0 ∧ y = c.dr a.t) → x = c.dr a.s →
    v = (if sub then toSigned 32 x - toSigned 32 y else toSigned 32 x + toSigned 32 y) →
    ∃ (u : State) (c1 : FCtx), exec (if sub then .daluSub n a else .daluAdd n a) s = .next u ∧ u.item? slot = some { i with ctx := c1 } ∧
      u.mem = s.mem ∧ toSigned 32 (c1.dr a.d) = (v + 2 ^ 31) % 2 ^ 32 - 2 ^ 31 ∧ (∀ k, k < 16 → k ≠ a.d → c1.dr k = c.dr k) ∧ c1.a = c.a ∧
      bitOf c1.sr 2 = decide (2 ^ 32 ≤ (if sub then x + (2 ^ 32 - 1 - y) + 1 else x + y)) ∧
      bitOf c1.sr 3 = decide (v < -2 ^ 31 ∨ 2 ^ 31 ≤ v) ∧ bitOf c1.sr 5 = (bitOf c.sr 5 || bitOf c1.sr 3) ∧
      bitOf c1.sr 0 = decide (v % 2 ^ 32 = 0) ∧ bitOf c1.sr 1 = decide (toSigned 32 (c1.dr a.d) < 0))

/-- An instruction of classes 0x0 to 0x8 changes its own item's registers and the words it stores, and nothing else of the block (R270,
R271, R278, R281, R289). For every instruction of classes 0x0 to 0x8 that core n issues without RPT, that raises no fault and stays
below its item's cycle limit, the state after it (Executes) differs from the state before only in the item's registers (its program
counter and charge included), and in the words it stores: every other item, every task, every register, every other engine and every
byte of memory outside its stores (the four bytes of each stored word of the task's own X or Y region) is unchanged. -/
def Obligations.FacetInstructionFrame : Prop :=
  ∀ (n slot : Nat) (o : FOp) (s u : State) (i : Item) (t : FTask) (c : FCtx) (r : FRes), s.Issues n slot i o t c → c.rpt = none → o.repeatable = true →
    c.basic (s.facetMem t) o = .ok r → s.Room i (i.ctx.stall o + r.cyc) → s.Executes n o u →
    u.item? slot = some { i with ctx := { r.ctx.advance 1 with charged := i.ctx.charged + (i.ctx.stall o + r.cyc) } } ∧
    (∀ k, k ≠ slot → u.item? k = s.item? k) ∧
    (∀ a, (∀ w ∈ r.eff.words t, a < w ∨ w + 4 ≤ a) → mget u.mem a = mget s.mem a) ∧
    { (u.withMem s.mem) with sched := { u.sched with items := s.sched.items } } = s

/-- Every step keeps the memory, host memory, flash and register table in canonical form (R388, R516, R521, 21_address_map.md). For
every state in which the block's memory, the host's memory, the boot flash and the register table are in canonical form (addresses
strictly rising, no entry equal to what an unlisted address reads as), and every command or tick, the state after the step is
canonical too: equal contents stay equal data, and every address keeps exactly one value. -/
def Obligations.CanonicalKept : Prop :=
  ∀ s t : State, s.Canonical → step s = .next t → t.Canonical

/-- No step writes the fuses or the fitted parts, the anti-rollback floor never falls, and a step takes exactly the front command (R5,
R374, R379, R456, R519). Whatever the command and whatever the state, after a step the queue is what stood behind its front command,
the unique ID, the key-hash slots, the debug state, the device variant and the DRAM fitted are as they were, and the anti-rollback
floor is not lower: no reset, no mailbox command, no register write through any master and no event of a pin or engine reaches them. -/
def Obligations.WhatNoStepChanges : Prop :=
  ∀ s t : State, step s = .next t →
    t.pending = s.pending.tail ∧ t.sec.uniqueId = s.sec.uniqueId ∧ t.sec.keyHash = s.sec.keyHash ∧ t.sec.keyRevoked = s.sec.keyRevoked ∧
      t.sec.debugState = s.sec.debugState ∧ t.sys.orderIL = s.sys.orderIL ∧
      t.sys.dram8 = s.sys.dram8 ∧ s.sec.floor ≤ t.sec.floor

/-- From the test state no command leads out but PORST_N, and no firmware starts in it (R456, R487, R489). In every state whose reset
phase is the test state (TEST_MODE sampled at 1), a step whose front command is not PORST_N leaves the phase as it is and starts no
firmware; PORST_N leads to power-on reset, from which the straps are sampled again. -/
def Obligations.TestModeHolds : Prop :=
  ∀ s t : State, s.sys.phase = .testMode → step s = .next t →
    (s.pending.head? ≠ some .porstN → t.sys.phase = .testMode ∧ (t.sys.fwRunning = true → s.sys.fwRunning = true)) ∧
      (s.pending.head? = some .porstN → t.sys.phase = .porst ∧ t.sys.fwRunning = false)
end

