-- ==== Sys2Proof/Laws/State.lean ====
section
/-! SUPPORT. The updates of State: what each puts into its field, and that every other field and every register reads as before. -/

namespace Sys2Proof.Machine

/-- Two states with the same register table read alike. -/
theorem State.rd_congr {s t : State} (h : t.regs = s.regs) (a : Nat) : t.rd a = s.rd a := by
  unfold State.rd; rw [h]

@[simp] theorem State.onSys_sys (s : State) (f : Sys → Sys) : (s.onSys f).sys = f s.sys := rfl

@[simp] theorem State.onSys_frame (s : State) (f : Sys → Sys) :
  (s.onSys f).pending = s.pending ∧ (s.onSys f).sec = s.sec ∧ (s.onSys f).time = s.time ∧ (s.onSys f).mbx = s.mbx ∧
    (s.onSys f).host = s.host ∧ (s.onSys f).mir = s.mir ∧ (s.onSys f).hier = s.hier ∧ (s.onSys f).perf = s.perf ∧
    (s.onSys f).trace = s.trace ∧ (s.onSys f).scene = s.scene ∧ (s.onSys f).prism = s.prism ∧ (s.onSys f).ddrc = s.ddrc ∧
    (s.onSys f).xbar = s.xbar ∧ (s.onSys f).sched = s.sched ∧ (s.onSys f).lens = s.lens ∧ (s.onSys f).meas = s.meas ∧
    (s.onSys f).ports = s.ports ∧ (s.onSys f).net = s.net ∧ (s.onSys f).pipe = s.pipe ∧ (s.onSys f).regs = s.regs ∧
    (s.onSys f).mem = s.mem ∧ (s.onSys f).hostMem = s.hostMem ∧ (s.onSys f).flash = s.flash ∧ (s.onSys f).freeCnt = s.freeCnt ∧
    (s.onSys f).rdata = s.rdata ∧ (s.onSys f).rstat = s.rstat ∧ (∀ a, (s.onSys f).rd a = s.rd a) := by
  exact ⟨rfl, rfl, rfl, rfl, rfl, rfl, rfl, rfl, rfl, rfl, rfl, rfl, rfl, rfl, rfl, rfl, rfl, rfl, rfl, rfl, rfl, rfl, rfl, rfl, rfl, rfl, fun a => State.rd_congr (s := s) (t := s.onSys f) rfl a⟩

@[simp] theorem State.onSec_sec (s : State) (f : Sec → Sec) : (s.onSec f).sec = f s.sec := rfl

@[simp] theorem State.onSec_frame (s : State) (f : Sec → Sec) :
  (s.onSec f).pending = s.pending ∧ (s.onSec f).sys = s.sys ∧ (s.onSec f).time = s.time ∧ (s.onSec f).mbx = s.mbx ∧
    (s.onSec f).host = s.host ∧ (s.onSec f).mir = s.mir ∧ (s.onSec f).hier = s.hier ∧ (s.onSec f).perf = s.perf ∧
    (s.onSec f).trace = s.trace ∧ (s.onSec f).scene = s.scene ∧ (s.onSec f).prism = s.prism ∧ (s.onSec f).ddrc = s.ddrc ∧
    (s.onSec f).xbar = s.xbar ∧ (s.onSec f).sched = s.sched ∧ (s.onSec f).lens = s.lens ∧ (s.onSec f).meas = s.meas ∧
    (s.onSec f).ports = s.ports ∧ (s.onSec f).net = s.net ∧ (s.onSec f).pipe = s.pipe ∧ (s.onSec f).regs = s.regs ∧
    (s.onSec f).mem = s.mem ∧ (s.onSec f).hostMem = s.hostMem ∧ (s.onSec f).flash = s.flash ∧ (s.onSec f).freeCnt = s.freeCnt ∧
    (s.onSec f).rdata = s.rdata ∧ (s.onSec f).rstat = s.rstat ∧ (∀ a, (s.onSec f).rd a = s.rd a) := by
  exact ⟨rfl, rfl, rfl, rfl, rfl, rfl, rfl, rfl, rfl, rfl, rfl, rfl, rfl, rfl, rfl, rfl, rfl, rfl, rfl, rfl, rfl, rfl, rfl, rfl, rfl, rfl, fun a => State.rd_congr (s := s) (t := s.onSec f) rfl a⟩

@[simp] theorem State.onTime_time (s : State) (f : TimeSt → TimeSt) : (s.onTime f).time = f s.time := rfl

@[simp] theorem State.onTime_frame (s : State) (f : TimeSt → TimeSt) :
  (s.onTime f).pending = s.pending ∧ (s.onTime f).sys = s.sys ∧ (s.onTime f).sec = s.sec ∧ (s.onTime f).mbx = s.mbx ∧
    (s.onTime f).host = s.host ∧ (s.onTime f).mir = s.mir ∧ (s.onTime f).hier = s.hier ∧ (s.onTime f).perf = s.perf ∧
    (s.onTime f).trace = s.trace ∧ (s.onTime f).scene = s.scene ∧ (s.onTime f).prism = s.prism ∧ (s.onTime f).ddrc = s.ddrc ∧
    (s.onTime f).xbar = s.xbar ∧ (s.onTime f).sched = s.sched ∧ (s.onTime f).lens = s.lens ∧ (s.onTime f).meas = s.meas ∧
    (s.onTime f).ports = s.ports ∧ (s.onTime f).net = s.net ∧ (s.onTime f).pipe = s.pipe ∧ (s.onTime f).regs = s.regs ∧
    (s.onTime f).mem = s.mem ∧ (s.onTime f).hostMem = s.hostMem ∧ (s.onTime f).flash = s.flash ∧ (s.onTime f).freeCnt = s.freeCnt ∧
    (s.onTime f).rdata = s.rdata ∧ (s.onTime f).rstat = s.rstat ∧ (∀ a, (s.onTime f).rd a = s.rd a) := by
  exact ⟨rfl, rfl, rfl, rfl, rfl, rfl, rfl, rfl, rfl, rfl, rfl, rfl, rfl, rfl, rfl, rfl, rfl, rfl, rfl, rfl, rfl, rfl, rfl, rfl, rfl, rfl, fun a => State.rd_congr (s := s) (t := s.onTime f) rfl a⟩

@[simp] theorem State.onMbx_mbx (s : State) (f : Mbx → Mbx) : (s.onMbx f).mbx = f s.mbx := rfl

@[simp] theorem State.onMbx_frame (s : State) (f : Mbx → Mbx) :
  (s.onMbx f).pending = s.pending ∧ (s.onMbx f).sys = s.sys ∧ (s.onMbx f).sec = s.sec ∧ (s.onMbx f).time = s.time ∧
    (s.onMbx f).host = s.host ∧ (s.onMbx f).mir = s.mir ∧ (s.onMbx f).hier = s.hier ∧ (s.onMbx f).perf = s.perf ∧
    (s.onMbx f).trace = s.trace ∧ (s.onMbx f).scene = s.scene ∧ (s.onMbx f).prism = s.prism ∧ (s.onMbx f).ddrc = s.ddrc ∧
    (s.onMbx f).xbar = s.xbar ∧ (s.onMbx f).sched = s.sched ∧ (s.onMbx f).lens = s.lens ∧ (s.onMbx f).meas = s.meas ∧
    (s.onMbx f).ports = s.ports ∧ (s.onMbx f).net = s.net ∧ (s.onMbx f).pipe = s.pipe ∧ (s.onMbx f).regs = s.regs ∧
    (s.onMbx f).mem = s.mem ∧ (s.onMbx f).hostMem = s.hostMem ∧ (s.onMbx f).flash = s.flash ∧ (s.onMbx f).freeCnt = s.freeCnt ∧
    (s.onMbx f).rdata = s.rdata ∧ (s.onMbx f).rstat = s.rstat ∧ (∀ a, (s.onMbx f).rd a = s.rd a) := by
  exact ⟨rfl, rfl, rfl, rfl, rfl, rfl, rfl, rfl, rfl, rfl, rfl, rfl, rfl, rfl, rfl, rfl, rfl, rfl, rfl, rfl, rfl, rfl, rfl, rfl, rfl, rfl, fun a => State.rd_congr (s := s) (t := s.onMbx f) rfl a⟩

@[simp] theorem State.onHost_host (s : State) (f : HostIf → HostIf) : (s.onHost f).host = f s.host := rfl

@[simp] theorem State.onHost_frame (s : State) (f : HostIf → HostIf) :
  (s.onHost f).pending = s.pending ∧ (s.onHost f).sys = s.sys ∧ (s.onHost f).sec = s.sec ∧ (s.onHost f).time = s.time ∧
    (s.onHost f).mbx = s.mbx ∧ (s.onHost f).mir = s.mir ∧ (s.onHost f).hier = s.hier ∧ (s.onHost f).perf = s.perf ∧
    (s.onHost f).trace = s.trace ∧ (s.onHost f).scene = s.scene ∧ (s.onHost f).prism = s.prism ∧ (s.onHost f).ddrc = s.ddrc ∧
    (s.onHost f).xbar = s.xbar ∧ (s.onHost f).sched = s.sched ∧ (s.onHost f).lens = s.lens ∧ (s.onHost f).meas = s.meas ∧
    (s.onHost f).ports = s.ports ∧ (s.onHost f).net = s.net ∧ (s.onHost f).pipe = s.pipe ∧ (s.onHost f).regs = s.regs ∧
    (s.onHost f).mem = s.mem ∧ (s.onHost f).hostMem = s.hostMem ∧ (s.onHost f).flash = s.flash ∧ (s.onHost f).freeCnt = s.freeCnt ∧
    (s.onHost f).rdata = s.rdata ∧ (s.onHost f).rstat = s.rstat ∧ (∀ a, (s.onHost f).rd a = s.rd a) := by
  exact ⟨rfl, rfl, rfl, rfl, rfl, rfl, rfl, rfl, rfl, rfl, rfl, rfl, rfl, rfl, rfl, rfl, rfl, rfl, rfl, rfl, rfl, rfl, rfl, rfl, rfl, rfl, fun a => State.rd_congr (s := s) (t := s.onHost f) rfl a⟩

@[simp] theorem State.onMir_mir (s : State) (f : Mirror → Mirror) : (s.onMir f).mir = f s.mir := rfl

@[simp] theorem State.onMir_frame (s : State) (f : Mirror → Mirror) :
  (s.onMir f).pending = s.pending ∧ (s.onMir f).sys = s.sys ∧ (s.onMir f).sec = s.sec ∧ (s.onMir f).time = s.time ∧
    (s.onMir f).mbx = s.mbx ∧ (s.onMir f).host = s.host ∧ (s.onMir f).hier = s.hier ∧ (s.onMir f).perf = s.perf ∧
    (s.onMir f).trace = s.trace ∧ (s.onMir f).scene = s.scene ∧ (s.onMir f).prism = s.prism ∧ (s.onMir f).ddrc = s.ddrc ∧
    (s.onMir f).xbar = s.xbar ∧ (s.onMir f).sched = s.sched ∧ (s.onMir f).lens = s.lens ∧ (s.onMir f).meas = s.meas ∧
    (s.onMir f).ports = s.ports ∧ (s.onMir f).net = s.net ∧ (s.onMir f).pipe = s.pipe ∧ (s.onMir f).regs = s.regs ∧
    (s.onMir f).mem = s.mem ∧ (s.onMir f).hostMem = s.hostMem ∧ (s.onMir f).flash = s.flash ∧ (s.onMir f).freeCnt = s.freeCnt ∧
    (s.onMir f).rdata = s.rdata ∧ (s.onMir f).rstat = s.rstat ∧ (∀ a, (s.onMir f).rd a = s.rd a) := by
  exact ⟨rfl, rfl, rfl, rfl, rfl, rfl, rfl, rfl, rfl, rfl, rfl, rfl, rfl, rfl, rfl, rfl, rfl, rfl, rfl, rfl, rfl, rfl, rfl, rfl, rfl, rfl, fun a => State.rd_congr (s := s) (t := s.onMir f) rfl a⟩

@[simp] theorem State.onHier_hier (s : State) (f : Hier → Hier) : (s.onHier f).hier = f s.hier := rfl

@[simp] theorem State.onHier_frame (s : State) (f : Hier → Hier) :
  (s.onHier f).pending = s.pending ∧ (s.onHier f).sys = s.sys ∧ (s.onHier f).sec = s.sec ∧ (s.onHier f).time = s.time ∧
    (s.onHier f).mbx = s.mbx ∧ (s.onHier f).host = s.host ∧ (s.onHier f).mir = s.mir ∧ (s.onHier f).perf = s.perf ∧
    (s.onHier f).trace = s.trace ∧ (s.onHier f).scene = s.scene ∧ (s.onHier f).prism = s.prism ∧ (s.onHier f).ddrc = s.ddrc ∧
    (s.onHier f).xbar = s.xbar ∧ (s.onHier f).sched = s.sched ∧ (s.onHier f).lens = s.lens ∧ (s.onHier f).meas = s.meas ∧
    (s.onHier f).ports = s.ports ∧ (s.onHier f).net = s.net ∧ (s.onHier f).pipe = s.pipe ∧ (s.onHier f).regs = s.regs ∧
    (s.onHier f).mem = s.mem ∧ (s.onHier f).hostMem = s.hostMem ∧ (s.onHier f).flash = s.flash ∧ (s.onHier f).freeCnt = s.freeCnt ∧
    (s.onHier f).rdata = s.rdata ∧ (s.onHier f).rstat = s.rstat ∧ (∀ a, (s.onHier f).rd a = s.rd a) := by
  exact ⟨rfl, rfl, rfl, rfl, rfl, rfl, rfl, rfl, rfl, rfl, rfl, rfl, rfl, rfl, rfl, rfl, rfl, rfl, rfl, rfl, rfl, rfl, rfl, rfl, rfl, rfl, fun a => State.rd_congr (s := s) (t := s.onHier f) rfl a⟩

@[simp] theorem State.onPerf_perf (s : State) (f : Perf → Perf) : (s.onPerf f).perf = f s.perf := rfl

@[simp] theorem State.onPerf_frame (s : State) (f : Perf → Perf) :
  (s.onPerf f).pending = s.pending ∧ (s.onPerf f).sys = s.sys ∧ (s.onPerf f).sec = s.sec ∧ (s.onPerf f).time = s.time ∧
    (s.onPerf f).mbx = s.mbx ∧ (s.onPerf f).host = s.host ∧ (s.onPerf f).mir = s.mir ∧ (s.onPerf f).hier = s.hier ∧
    (s.onPerf f).trace = s.trace ∧ (s.onPerf f).scene = s.scene ∧ (s.onPerf f).prism = s.prism ∧ (s.onPerf f).ddrc = s.ddrc ∧
    (s.onPerf f).xbar = s.xbar ∧ (s.onPerf f).sched = s.sched ∧ (s.onPerf f).lens = s.lens ∧ (s.onPerf f).meas = s.meas ∧
    (s.onPerf f).ports = s.ports ∧ (s.onPerf f).net = s.net ∧ (s.onPerf f).pipe = s.pipe ∧ (s.onPerf f).regs = s.regs ∧
    (s.onPerf f).mem = s.mem ∧ (s.onPerf f).hostMem = s.hostMem ∧ (s.onPerf f).flash = s.flash ∧ (s.onPerf f).freeCnt = s.freeCnt ∧
    (s.onPerf f).rdata = s.rdata ∧ (s.onPerf f).rstat = s.rstat ∧ (∀ a, (s.onPerf f).rd a = s.rd a) := by
  exact ⟨rfl, rfl, rfl, rfl, rfl, rfl, rfl, rfl, rfl, rfl, rfl, rfl, rfl, rfl, rfl, rfl, rfl, rfl, rfl, rfl, rfl, rfl, rfl, rfl, rfl, rfl, fun a => State.rd_congr (s := s) (t := s.onPerf f) rfl a⟩

@[simp] theorem State.onTrace_trace (s : State) (f : Trace → Trace) : (s.onTrace f).trace = f s.trace := rfl

@[simp] theorem State.onTrace_frame (s : State) (f : Trace → Trace) :
  (s.onTrace f).pending = s.pending ∧ (s.onTrace f).sys = s.sys ∧ (s.onTrace f).sec = s.sec ∧ (s.onTrace f).time = s.time ∧
    (s.onTrace f).mbx = s.mbx ∧ (s.onTrace f).host = s.host ∧ (s.onTrace f).mir = s.mir ∧ (s.onTrace f).hier = s.hier ∧
    (s.onTrace f).perf = s.perf ∧ (s.onTrace f).scene = s.scene ∧ (s.onTrace f).prism = s.prism ∧ (s.onTrace f).ddrc = s.ddrc ∧
    (s.onTrace f).xbar = s.xbar ∧ (s.onTrace f).sched = s.sched ∧ (s.onTrace f).lens = s.lens ∧ (s.onTrace f).meas = s.meas ∧
    (s.onTrace f).ports = s.ports ∧ (s.onTrace f).net = s.net ∧ (s.onTrace f).pipe = s.pipe ∧ (s.onTrace f).regs = s.regs ∧
    (s.onTrace f).mem = s.mem ∧ (s.onTrace f).hostMem = s.hostMem ∧ (s.onTrace f).flash = s.flash ∧ (s.onTrace f).freeCnt = s.freeCnt ∧
    (s.onTrace f).rdata = s.rdata ∧ (s.onTrace f).rstat = s.rstat ∧ (∀ a, (s.onTrace f).rd a = s.rd a) := by
  exact ⟨rfl, rfl, rfl, rfl, rfl, rfl, rfl, rfl, rfl, rfl, rfl, rfl, rfl, rfl, rfl, rfl, rfl, rfl, rfl, rfl, rfl, rfl, rfl, rfl, rfl, rfl, fun a => State.rd_congr (s := s) (t := s.onTrace f) rfl a⟩

@[simp] theorem State.onScene_scene (s : State) (f : Scene → Scene) : (s.onScene f).scene = f s.scene := rfl

@[simp] theorem State.onScene_frame (s : State) (f : Scene → Scene) :
  (s.onScene f).pending = s.pending ∧ (s.onScene f).sys = s.sys ∧ (s.onScene f).sec = s.sec ∧ (s.onScene f).time = s.time ∧
    (s.onScene f).mbx = s.mbx ∧ (s.onScene f).host = s.host ∧ (s.onScene f).mir = s.mir ∧ (s.onScene f).hier = s.hier ∧
    (s.onScene f).perf = s.perf ∧ (s.onScene f).trace = s.trace ∧ (s.onScene f).prism = s.prism ∧ (s.onScene f).ddrc = s.ddrc ∧
    (s.onScene f).xbar = s.xbar ∧ (s.onScene f).sched = s.sched ∧ (s.onScene f).lens = s.lens ∧ (s.onScene f).meas = s.meas ∧
    (s.onScene f).ports = s.ports ∧ (s.onScene f).net = s.net ∧ (s.onScene f).pipe = s.pipe ∧ (s.onScene f).regs = s.regs ∧
    (s.onScene f).mem = s.mem ∧ (s.onScene f).hostMem = s.hostMem ∧ (s.onScene f).flash = s.flash ∧ (s.onScene f).freeCnt = s.freeCnt ∧
    (s.onScene f).rdata = s.rdata ∧ (s.onScene f).rstat = s.rstat ∧ (∀ a, (s.onScene f).rd a = s.rd a) := by
  exact ⟨rfl, rfl, rfl, rfl, rfl, rfl, rfl, rfl, rfl, rfl, rfl, rfl, rfl, rfl, rfl, rfl, rfl, rfl, rfl, rfl, rfl, rfl, rfl, rfl, rfl, rfl, fun a => State.rd_congr (s := s) (t := s.onScene f) rfl a⟩

@[simp] theorem State.onPrism_prism (s : State) (f : Prism → Prism) : (s.onPrism f).prism = f s.prism := rfl

@[simp] theorem State.onPrism_frame (s : State) (f : Prism → Prism) :
  (s.onPrism f).pending = s.pending ∧ (s.onPrism f).sys = s.sys ∧ (s.onPrism f).sec = s.sec ∧ (s.onPrism f).time = s.time ∧
    (s.onPrism f).mbx = s.mbx ∧ (s.onPrism f).host = s.host ∧ (s.onPrism f).mir = s.mir ∧ (s.onPrism f).hier = s.hier ∧
    (s.onPrism f).perf = s.perf ∧ (s.onPrism f).trace = s.trace ∧ (s.onPrism f).scene = s.scene ∧ (s.onPrism f).ddrc = s.ddrc ∧
    (s.onPrism f).xbar = s.xbar ∧ (s.onPrism f).sched = s.sched ∧ (s.onPrism f).lens = s.lens ∧ (s.onPrism f).meas = s.meas ∧
    (s.onPrism f).ports = s.ports ∧ (s.onPrism f).net = s.net ∧ (s.onPrism f).pipe = s.pipe ∧ (s.onPrism f).regs = s.regs ∧
    (s.onPrism f).mem = s.mem ∧ (s.onPrism f).hostMem = s.hostMem ∧ (s.onPrism f).flash = s.flash ∧ (s.onPrism f).freeCnt = s.freeCnt ∧
    (s.onPrism f).rdata = s.rdata ∧ (s.onPrism f).rstat = s.rstat ∧ (∀ a, (s.onPrism f).rd a = s.rd a) := by
  exact ⟨rfl, rfl, rfl, rfl, rfl, rfl, rfl, rfl, rfl, rfl, rfl, rfl, rfl, rfl, rfl, rfl, rfl, rfl, rfl, rfl, rfl, rfl, rfl, rfl, rfl, rfl, fun a => State.rd_congr (s := s) (t := s.onPrism f) rfl a⟩

@[simp] theorem State.onPipe_pipe (s : State) (f : Pipe → Pipe) : (s.onPipe f).pipe = f s.pipe := rfl

@[simp] theorem State.onPipe_frame (s : State) (f : Pipe → Pipe) :
  (s.onPipe f).pending = s.pending ∧ (s.onPipe f).sys = s.sys ∧ (s.onPipe f).sec = s.sec ∧ (s.onPipe f).time = s.time ∧
    (s.onPipe f).mbx = s.mbx ∧ (s.onPipe f).host = s.host ∧ (s.onPipe f).mir = s.mir ∧ (s.onPipe f).hier = s.hier ∧
    (s.onPipe f).perf = s.perf ∧ (s.onPipe f).trace = s.trace ∧ (s.onPipe f).scene = s.scene ∧ (s.onPipe f).prism = s.prism ∧
    (s.onPipe f).ddrc = s.ddrc ∧ (s.onPipe f).xbar = s.xbar ∧ (s.onPipe f).sched = s.sched ∧ (s.onPipe f).lens = s.lens ∧
    (s.onPipe f).meas = s.meas ∧ (s.onPipe f).ports = s.ports ∧ (s.onPipe f).net = s.net ∧ (s.onPipe f).regs = s.regs ∧
    (s.onPipe f).mem = s.mem ∧ (s.onPipe f).hostMem = s.hostMem ∧ (s.onPipe f).flash = s.flash ∧ (s.onPipe f).freeCnt = s.freeCnt ∧
    (s.onPipe f).rdata = s.rdata ∧ (s.onPipe f).rstat = s.rstat ∧ (∀ a, (s.onPipe f).rd a = s.rd a) := by
  exact ⟨rfl, rfl, rfl, rfl, rfl, rfl, rfl, rfl, rfl, rfl, rfl, rfl, rfl, rfl, rfl, rfl, rfl, rfl, rfl, rfl, rfl, rfl, rfl, rfl, rfl, rfl, fun a => State.rd_congr (s := s) (t := s.onPipe f) rfl a⟩

@[simp] theorem State.onDdrc_ddrc (s : State) (f : Ddrc → Ddrc) : (s.onDdrc f).ddrc = f s.ddrc := rfl

@[simp] theorem State.onDdrc_frame (s : State) (f : Ddrc → Ddrc) :
  (s.onDdrc f).pending = s.pending ∧ (s.onDdrc f).sys = s.sys ∧ (s.onDdrc f).sec = s.sec ∧ (s.onDdrc f).time = s.time ∧
    (s.onDdrc f).mbx = s.mbx ∧ (s.onDdrc f).host = s.host ∧ (s.onDdrc f).mir = s.mir ∧ (s.onDdrc f).hier = s.hier ∧
    (s.onDdrc f).perf = s.perf ∧ (s.onDdrc f).trace = s.trace ∧ (s.onDdrc f).scene = s.scene ∧ (s.onDdrc f).prism = s.prism ∧
    (s.onDdrc f).xbar = s.xbar ∧ (s.onDdrc f).sched = s.sched ∧ (s.onDdrc f).lens = s.lens ∧ (s.onDdrc f).meas = s.meas ∧
    (s.onDdrc f).ports = s.ports ∧ (s.onDdrc f).net = s.net ∧ (s.onDdrc f).pipe = s.pipe ∧ (s.onDdrc f).regs = s.regs ∧
    (s.onDdrc f).mem = s.mem ∧ (s.onDdrc f).hostMem = s.hostMem ∧ (s.onDdrc f).flash = s.flash ∧ (s.onDdrc f).freeCnt = s.freeCnt ∧
    (s.onDdrc f).rdata = s.rdata ∧ (s.onDdrc f).rstat = s.rstat ∧ (∀ a, (s.onDdrc f).rd a = s.rd a) := by
  exact ⟨rfl, rfl, rfl, rfl, rfl, rfl, rfl, rfl, rfl, rfl, rfl, rfl, rfl, rfl, rfl, rfl, rfl, rfl, rfl, rfl, rfl, rfl, rfl, rfl, rfl, rfl, fun a => State.rd_congr (s := s) (t := s.onDdrc f) rfl a⟩

@[simp] theorem State.onXbar_xbar (s : State) (f : Xbar → Xbar) : (s.onXbar f).xbar = f s.xbar := rfl

@[simp] theorem State.onXbar_frame (s : State) (f : Xbar → Xbar) :
  (s.onXbar f).pending = s.pending ∧ (s.onXbar f).sys = s.sys ∧ (s.onXbar f).sec = s.sec ∧ (s.onXbar f).time = s.time ∧
    (s.onXbar f).mbx = s.mbx ∧ (s.onXbar f).host = s.host ∧ (s.onXbar f).mir = s.mir ∧ (s.onXbar f).hier = s.hier ∧
    (s.onXbar f).perf = s.perf ∧ (s.onXbar f).trace = s.trace ∧ (s.onXbar f).scene = s.scene ∧ (s.onXbar f).prism = s.prism ∧
    (s.onXbar f).ddrc = s.ddrc ∧ (s.onXbar f).sched = s.sched ∧ (s.onXbar f).lens = s.lens ∧ (s.onXbar f).meas = s.meas ∧
    (s.onXbar f).ports = s.ports ∧ (s.onXbar f).net = s.net ∧ (s.onXbar f).pipe = s.pipe ∧ (s.onXbar f).regs = s.regs ∧
    (s.onXbar f).mem = s.mem ∧ (s.onXbar f).hostMem = s.hostMem ∧ (s.onXbar f).flash = s.flash ∧ (s.onXbar f).freeCnt = s.freeCnt ∧
    (s.onXbar f).rdata = s.rdata ∧ (s.onXbar f).rstat = s.rstat ∧ (∀ a, (s.onXbar f).rd a = s.rd a) := by
  exact ⟨rfl, rfl, rfl, rfl, rfl, rfl, rfl, rfl, rfl, rfl, rfl, rfl, rfl, rfl, rfl, rfl, rfl, rfl, rfl, rfl, rfl, rfl, rfl, rfl, rfl, rfl, fun a => State.rd_congr (s := s) (t := s.onXbar f) rfl a⟩

@[simp] theorem State.onSched_sched (s : State) (f : Sched → Sched) : (s.onSched f).sched = f s.sched := rfl

@[simp] theorem State.onSched_frame (s : State) (f : Sched → Sched) :
  (s.onSched f).pending = s.pending ∧ (s.onSched f).sys = s.sys ∧ (s.onSched f).sec = s.sec ∧ (s.onSched f).time = s.time ∧
    (s.onSched f).mbx = s.mbx ∧ (s.onSched f).host = s.host ∧ (s.onSched f).mir = s.mir ∧ (s.onSched f).hier = s.hier ∧
    (s.onSched f).perf = s.perf ∧ (s.onSched f).trace = s.trace ∧ (s.onSched f).scene = s.scene ∧ (s.onSched f).prism = s.prism ∧
    (s.onSched f).ddrc = s.ddrc ∧ (s.onSched f).xbar = s.xbar ∧ (s.onSched f).lens = s.lens ∧ (s.onSched f).meas = s.meas ∧
    (s.onSched f).ports = s.ports ∧ (s.onSched f).net = s.net ∧ (s.onSched f).pipe = s.pipe ∧ (s.onSched f).regs = s.regs ∧
    (s.onSched f).mem = s.mem ∧ (s.onSched f).hostMem = s.hostMem ∧ (s.onSched f).flash = s.flash ∧ (s.onSched f).freeCnt = s.freeCnt ∧
    (s.onSched f).rdata = s.rdata ∧ (s.onSched f).rstat = s.rstat ∧ (∀ a, (s.onSched f).rd a = s.rd a) := by
  exact ⟨rfl, rfl, rfl, rfl, rfl, rfl, rfl, rfl, rfl, rfl, rfl, rfl, rfl, rfl, rfl, rfl, rfl, rfl, rfl, rfl, rfl, rfl, rfl, rfl, rfl, rfl, fun a => State.rd_congr (s := s) (t := s.onSched f) rfl a⟩

@[simp] theorem State.onLens_lens (s : State) (f : Lens → Lens) : (s.onLens f).lens = f s.lens := rfl

@[simp] theorem State.onLens_frame (s : State) (f : Lens → Lens) :
  (s.onLens f).pending = s.pending ∧ (s.onLens f).sys = s.sys ∧ (s.onLens f).sec = s.sec ∧ (s.onLens f).time = s.time ∧
    (s.onLens f).mbx = s.mbx ∧ (s.onLens f).host = s.host ∧ (s.onLens f).mir = s.mir ∧ (s.onLens f).hier = s.hier ∧
    (s.onLens f).perf = s.perf ∧ (s.onLens f).trace = s.trace ∧ (s.onLens f).scene = s.scene ∧ (s.onLens f).prism = s.prism ∧
    (s.onLens f).ddrc = s.ddrc ∧ (s.onLens f).xbar = s.xbar ∧ (s.onLens f).sched = s.sched ∧ (s.onLens f).meas = s.meas ∧
    (s.onLens f).ports = s.ports ∧ (s.onLens f).net = s.net ∧ (s.onLens f).pipe = s.pipe ∧ (s.onLens f).regs = s.regs ∧
    (s.onLens f).mem = s.mem ∧ (s.onLens f).hostMem = s.hostMem ∧ (s.onLens f).flash = s.flash ∧ (s.onLens f).freeCnt = s.freeCnt ∧
    (s.onLens f).rdata = s.rdata ∧ (s.onLens f).rstat = s.rstat ∧ (∀ a, (s.onLens f).rd a = s.rd a) := by
  exact ⟨rfl, rfl, rfl, rfl, rfl, rfl, rfl, rfl, rfl, rfl, rfl, rfl, rfl, rfl, rfl, rfl, rfl, rfl, rfl, rfl, rfl, rfl, rfl, rfl, rfl, rfl, fun a => State.rd_congr (s := s) (t := s.onLens f) rfl a⟩

@[simp] theorem State.onMeas_meas (s : State) (f : Meas → Meas) : (s.onMeas f).meas = f s.meas := rfl

@[simp] theorem State.onMeas_frame (s : State) (f : Meas → Meas) :
  (s.onMeas f).pending = s.pending ∧ (s.onMeas f).sys = s.sys ∧ (s.onMeas f).sec = s.sec ∧ (s.onMeas f).time = s.time ∧
    (s.onMeas f).mbx = s.mbx ∧ (s.onMeas f).host = s.host ∧ (s.onMeas f).mir = s.mir ∧ (s.onMeas f).hier = s.hier ∧
    (s.onMeas f).perf = s.perf ∧ (s.onMeas f).trace = s.trace ∧ (s.onMeas f).scene = s.scene ∧ (s.onMeas f).prism = s.prism ∧
    (s.onMeas f).ddrc = s.ddrc ∧ (s.onMeas f).xbar = s.xbar ∧ (s.onMeas f).sched = s.sched ∧ (s.onMeas f).lens = s.lens ∧
    (s.onMeas f).ports = s.ports ∧ (s.onMeas f).net = s.net ∧ (s.onMeas f).pipe = s.pipe ∧ (s.onMeas f).regs = s.regs ∧
    (s.onMeas f).mem = s.mem ∧ (s.onMeas f).hostMem = s.hostMem ∧ (s.onMeas f).flash = s.flash ∧ (s.onMeas f).freeCnt = s.freeCnt ∧
    (s.onMeas f).rdata = s.rdata ∧ (s.onMeas f).rstat = s.rstat ∧ (∀ a, (s.onMeas f).rd a = s.rd a) := by
  exact ⟨rfl, rfl, rfl, rfl, rfl, rfl, rfl, rfl, rfl, rfl, rfl, rfl, rfl, rfl, rfl, rfl, rfl, rfl, rfl, rfl, rfl, rfl, rfl, rfl, rfl, rfl, fun a => State.rd_congr (s := s) (t := s.onMeas f) rfl a⟩

@[simp] theorem State.onPorts_ports (s : State) (f : Ports → Ports) : (s.onPorts f).ports = f s.ports := rfl

@[simp] theorem State.onPorts_frame (s : State) (f : Ports → Ports) :
  (s.onPorts f).pending = s.pending ∧ (s.onPorts f).sys = s.sys ∧ (s.onPorts f).sec = s.sec ∧ (s.onPorts f).time = s.time ∧
    (s.onPorts f).mbx = s.mbx ∧ (s.onPorts f).host = s.host ∧ (s.onPorts f).mir = s.mir ∧ (s.onPorts f).hier = s.hier ∧
    (s.onPorts f).perf = s.perf ∧ (s.onPorts f).trace = s.trace ∧ (s.onPorts f).scene = s.scene ∧ (s.onPorts f).prism = s.prism ∧
    (s.onPorts f).ddrc = s.ddrc ∧ (s.onPorts f).xbar = s.xbar ∧ (s.onPorts f).sched = s.sched ∧ (s.onPorts f).lens = s.lens ∧
    (s.onPorts f).meas = s.meas ∧ (s.onPorts f).net = s.net ∧ (s.onPorts f).pipe = s.pipe ∧ (s.onPorts f).regs = s.regs ∧
    (s.onPorts f).mem = s.mem ∧ (s.onPorts f).hostMem = s.hostMem ∧ (s.onPorts f).flash = s.flash ∧ (s.onPorts f).freeCnt = s.freeCnt ∧
    (s.onPorts f).rdata = s.rdata ∧ (s.onPorts f).rstat = s.rstat ∧ (∀ a, (s.onPorts f).rd a = s.rd a) := by
  exact ⟨rfl, rfl, rfl, rfl, rfl, rfl, rfl, rfl, rfl, rfl, rfl, rfl, rfl, rfl, rfl, rfl, rfl, rfl, rfl, rfl, rfl, rfl, rfl, rfl, rfl, rfl, fun a => State.rd_congr (s := s) (t := s.onPorts f) rfl a⟩

@[simp] theorem State.onNet_net (s : State) (f : Net → Net) : (s.onNet f).net = f s.net := rfl

@[simp] theorem State.onNet_frame (s : State) (f : Net → Net) :
  (s.onNet f).pending = s.pending ∧ (s.onNet f).sys = s.sys ∧ (s.onNet f).sec = s.sec ∧ (s.onNet f).time = s.time ∧
    (s.onNet f).mbx = s.mbx ∧ (s.onNet f).host = s.host ∧ (s.onNet f).mir = s.mir ∧ (s.onNet f).hier = s.hier ∧
    (s.onNet f).perf = s.perf ∧ (s.onNet f).trace = s.trace ∧ (s.onNet f).scene = s.scene ∧ (s.onNet f).prism = s.prism ∧
    (s.onNet f).ddrc = s.ddrc ∧ (s.onNet f).xbar = s.xbar ∧ (s.onNet f).sched = s.sched ∧ (s.onNet f).lens = s.lens ∧
    (s.onNet f).meas = s.meas ∧ (s.onNet f).ports = s.ports ∧ (s.onNet f).pipe = s.pipe ∧ (s.onNet f).regs = s.regs ∧
    (s.onNet f).mem = s.mem ∧ (s.onNet f).hostMem = s.hostMem ∧ (s.onNet f).flash = s.flash ∧ (s.onNet f).freeCnt = s.freeCnt ∧
    (s.onNet f).rdata = s.rdata ∧ (s.onNet f).rstat = s.rstat ∧ (∀ a, (s.onNet f).rd a = s.rd a) := by
  exact ⟨rfl, rfl, rfl, rfl, rfl, rfl, rfl, rfl, rfl, rfl, rfl, rfl, rfl, rfl, rfl, rfl, rfl, rfl, rfl, rfl, rfl, rfl, rfl, rfl, rfl, rfl, fun a => State.rd_congr (s := s) (t := s.onNet f) rfl a⟩

@[simp] theorem State.withMem_mem (s : State) (m : List Host.Cell) : (s.withMem m).mem = m := rfl

@[simp] theorem State.withMem_frame (s : State) (m : List Host.Cell) :
  (s.withMem m).pending = s.pending ∧ (s.withMem m).sys = s.sys ∧ (s.withMem m).sec = s.sec ∧ (s.withMem m).time = s.time ∧
    (s.withMem m).mbx = s.mbx ∧ (s.withMem m).host = s.host ∧ (s.withMem m).mir = s.mir ∧ (s.withMem m).hier = s.hier ∧
    (s.withMem m).perf = s.perf ∧ (s.withMem m).trace = s.trace ∧ (s.withMem m).scene = s.scene ∧ (s.withMem m).prism = s.prism ∧
    (s.withMem m).ddrc = s.ddrc ∧ (s.withMem m).xbar = s.xbar ∧ (s.withMem m).sched = s.sched ∧ (s.withMem m).lens = s.lens ∧
    (s.withMem m).meas = s.meas ∧ (s.withMem m).ports = s.ports ∧ (s.withMem m).net = s.net ∧ (s.withMem m).pipe = s.pipe ∧
    (s.withMem m).regs = s.regs ∧ (s.withMem m).hostMem = s.hostMem ∧ (s.withMem m).flash = s.flash ∧ (s.withMem m).freeCnt = s.freeCnt ∧
    (s.withMem m).rdata = s.rdata ∧ (s.withMem m).rstat = s.rstat ∧ (∀ a, (s.withMem m).rd a = s.rd a) := by
  exact ⟨rfl, rfl, rfl, rfl, rfl, rfl, rfl, rfl, rfl, rfl, rfl, rfl, rfl, rfl, rfl, rfl, rfl, rfl, rfl, rfl, rfl, rfl, rfl, rfl, rfl, rfl, fun a => State.rd_congr (s := s) (t := s.withMem m) rfl a⟩

@[simp] theorem State.withHostMem_hostMem (s : State) (v : List Host.Cell) : (s.withHostMem v).hostMem = v := rfl

@[simp] theorem State.withHostMem_frame (s : State) (v : List Host.Cell) :
  (s.withHostMem v).pending = s.pending ∧ (s.withHostMem v).sys = s.sys ∧ (s.withHostMem v).sec = s.sec ∧
    (s.withHostMem v).time = s.time ∧ (s.withHostMem v).mbx = s.mbx ∧ (s.withHostMem v).host = s.host ∧ (s.withHostMem v).mir = s.mir ∧
    (s.withHostMem v).hier = s.hier ∧ (s.withHostMem v).perf = s.perf ∧ (s.withHostMem v).trace = s.trace ∧
    (s.withHostMem v).scene = s.scene ∧ (s.withHostMem v).prism = s.prism ∧ (s.withHostMem v).ddrc = s.ddrc ∧
    (s.withHostMem v).xbar = s.xbar ∧ (s.withHostMem v).sched = s.sched ∧ (s.withHostMem v).lens = s.lens ∧
    (s.withHostMem v).meas = s.meas ∧ (s.withHostMem v).ports = s.ports ∧ (s.withHostMem v).net = s.net ∧
    (s.withHostMem v).pipe = s.pipe ∧ (s.withHostMem v).regs = s.regs ∧ (s.withHostMem v).mem = s.mem ∧
    (s.withHostMem v).flash = s.flash ∧ (s.withHostMem v).freeCnt = s.freeCnt ∧ (s.withHostMem v).rdata = s.rdata ∧
    (s.withHostMem v).rstat = s.rstat ∧ (∀ a, (s.withHostMem v).rd a = s.rd a) := by
  exact ⟨rfl, rfl, rfl, rfl, rfl, rfl, rfl, rfl, rfl, rfl, rfl, rfl, rfl, rfl, rfl, rfl, rfl, rfl, rfl, rfl, rfl, rfl, rfl, rfl, rfl, rfl, fun a => State.rd_congr (s := s) (t := s.withHostMem v) rfl a⟩

@[simp] theorem State.withFlash_flash (s : State) (v : List Host.Cell) : (s.withFlash v).flash = v := rfl

@[simp] theorem State.withFlash_frame (s : State) (v : List Host.Cell) :
  (s.withFlash v).pending = s.pending ∧ (s.withFlash v).sys = s.sys ∧ (s.withFlash v).sec = s.sec ∧ (s.withFlash v).time = s.time ∧
    (s.withFlash v).mbx = s.mbx ∧ (s.withFlash v).host = s.host ∧ (s.withFlash v).mir = s.mir ∧ (s.withFlash v).hier = s.hier ∧
    (s.withFlash v).perf = s.perf ∧ (s.withFlash v).trace = s.trace ∧ (s.withFlash v).scene = s.scene ∧ (s.withFlash v).prism = s.prism ∧
    (s.withFlash v).ddrc = s.ddrc ∧ (s.withFlash v).xbar = s.xbar ∧ (s.withFlash v).sched = s.sched ∧ (s.withFlash v).lens = s.lens ∧
    (s.withFlash v).meas = s.meas ∧ (s.withFlash v).ports = s.ports ∧ (s.withFlash v).net = s.net ∧ (s.withFlash v).pipe = s.pipe ∧
    (s.withFlash v).regs = s.regs ∧ (s.withFlash v).mem = s.mem ∧ (s.withFlash v).hostMem = s.hostMem ∧
    (s.withFlash v).freeCnt = s.freeCnt ∧ (s.withFlash v).rdata = s.rdata ∧ (s.withFlash v).rstat = s.rstat ∧
    (∀ a, (s.withFlash v).rd a = s.rd a) := by
  exact ⟨rfl, rfl, rfl, rfl, rfl, rfl, rfl, rfl, rfl, rfl, rfl, rfl, rfl, rfl, rfl, rfl, rfl, rfl, rfl, rfl, rfl, rfl, rfl, rfl, rfl, rfl, fun a => State.rd_congr (s := s) (t := s.withFlash v) rfl a⟩

@[simp] theorem State.withRdata_rdata (s : State) (v : Bytes) : (s.withRdata v).rdata = v := rfl

@[simp] theorem State.withRdata_frame (s : State) (v : Bytes) :
  (s.withRdata v).pending = s.pending ∧ (s.withRdata v).sys = s.sys ∧ (s.withRdata v).sec = s.sec ∧ (s.withRdata v).time = s.time ∧
    (s.withRdata v).mbx = s.mbx ∧ (s.withRdata v).host = s.host ∧ (s.withRdata v).mir = s.mir ∧ (s.withRdata v).hier = s.hier ∧
    (s.withRdata v).perf = s.perf ∧ (s.withRdata v).trace = s.trace ∧ (s.withRdata v).scene = s.scene ∧ (s.withRdata v).prism = s.prism ∧
    (s.withRdata v).ddrc = s.ddrc ∧ (s.withRdata v).xbar = s.xbar ∧ (s.withRdata v).sched = s.sched ∧ (s.withRdata v).lens = s.lens ∧
    (s.withRdata v).meas = s.meas ∧ (s.withRdata v).ports = s.ports ∧ (s.withRdata v).net = s.net ∧ (s.withRdata v).pipe = s.pipe ∧
    (s.withRdata v).regs = s.regs ∧ (s.withRdata v).mem = s.mem ∧ (s.withRdata v).hostMem = s.hostMem ∧ (s.withRdata v).flash = s.flash ∧
    (s.withRdata v).freeCnt = s.freeCnt ∧ (s.withRdata v).rstat = s.rstat ∧ (∀ a, (s.withRdata v).rd a = s.rd a) := by
  exact ⟨rfl, rfl, rfl, rfl, rfl, rfl, rfl, rfl, rfl, rfl, rfl, rfl, rfl, rfl, rfl, rfl, rfl, rfl, rfl, rfl, rfl, rfl, rfl, rfl, rfl, rfl, fun a => State.rd_congr (s := s) (t := s.withRdata v) rfl a⟩

@[simp] theorem State.withRstat_rstat (s : State) (v : Nat) : (s.withRstat v).rstat = v := rfl

@[simp] theorem State.withRstat_frame (s : State) (v : Nat) :
  (s.withRstat v).pending = s.pending ∧ (s.withRstat v).sys = s.sys ∧ (s.withRstat v).sec = s.sec ∧ (s.withRstat v).time = s.time ∧
    (s.withRstat v).mbx = s.mbx ∧ (s.withRstat v).host = s.host ∧ (s.withRstat v).mir = s.mir ∧ (s.withRstat v).hier = s.hier ∧
    (s.withRstat v).perf = s.perf ∧ (s.withRstat v).trace = s.trace ∧ (s.withRstat v).scene = s.scene ∧ (s.withRstat v).prism = s.prism ∧
    (s.withRstat v).ddrc = s.ddrc ∧ (s.withRstat v).xbar = s.xbar ∧ (s.withRstat v).sched = s.sched ∧ (s.withRstat v).lens = s.lens ∧
    (s.withRstat v).meas = s.meas ∧ (s.withRstat v).ports = s.ports ∧ (s.withRstat v).net = s.net ∧ (s.withRstat v).pipe = s.pipe ∧
    (s.withRstat v).regs = s.regs ∧ (s.withRstat v).mem = s.mem ∧ (s.withRstat v).hostMem = s.hostMem ∧ (s.withRstat v).flash = s.flash ∧
    (s.withRstat v).freeCnt = s.freeCnt ∧ (s.withRstat v).rdata = s.rdata ∧ (∀ a, (s.withRstat v).rd a = s.rd a) := by
  exact ⟨rfl, rfl, rfl, rfl, rfl, rfl, rfl, rfl, rfl, rfl, rfl, rfl, rfl, rfl, rfl, rfl, rfl, rfl, rfl, rfl, rfl, rfl, rfl, rfl, rfl, rfl, fun a => State.rd_congr (s := s) (t := s.withRstat v) rfl a⟩

@[simp] theorem State.withRegs_regs (s : State) (v : Tbl Word) : (s.withRegs v).regs = v := rfl

@[simp] theorem State.withRegs_frame (s : State) (v : Tbl Word) :
  (s.withRegs v).pending = s.pending ∧ (s.withRegs v).sys = s.sys ∧ (s.withRegs v).sec = s.sec ∧ (s.withRegs v).time = s.time ∧
    (s.withRegs v).mbx = s.mbx ∧ (s.withRegs v).host = s.host ∧ (s.withRegs v).mir = s.mir ∧ (s.withRegs v).hier = s.hier ∧
    (s.withRegs v).perf = s.perf ∧ (s.withRegs v).trace = s.trace ∧ (s.withRegs v).scene = s.scene ∧ (s.withRegs v).prism = s.prism ∧
    (s.withRegs v).ddrc = s.ddrc ∧ (s.withRegs v).xbar = s.xbar ∧ (s.withRegs v).sched = s.sched ∧ (s.withRegs v).lens = s.lens ∧
    (s.withRegs v).meas = s.meas ∧ (s.withRegs v).ports = s.ports ∧ (s.withRegs v).net = s.net ∧ (s.withRegs v).pipe = s.pipe ∧
    (s.withRegs v).mem = s.mem ∧ (s.withRegs v).hostMem = s.hostMem ∧ (s.withRegs v).flash = s.flash ∧
    (s.withRegs v).freeCnt = s.freeCnt ∧ (s.withRegs v).rdata = s.rdata ∧ (s.withRegs v).rstat = s.rstat := by
  exact ⟨rfl, rfl, rfl, rfl, rfl, rfl, rfl, rfl, rfl, rfl, rfl, rfl, rfl, rfl, rfl, rfl, rfl, rfl, rfl, rfl, rfl, rfl, rfl, rfl, rfl, rfl⟩

@[simp] theorem State.fresh_freeCnt (s : State) : s.fresh.freeCnt = s.freeCnt + 1 := rfl

@[simp] theorem State.fresh_frame (s : State) :
  (s.fresh).pending = s.pending ∧ (s.fresh).sys = s.sys ∧ (s.fresh).sec = s.sec ∧ (s.fresh).time = s.time ∧ (s.fresh).mbx = s.mbx ∧
    (s.fresh).host = s.host ∧ (s.fresh).mir = s.mir ∧ (s.fresh).hier = s.hier ∧ (s.fresh).perf = s.perf ∧ (s.fresh).trace = s.trace ∧
    (s.fresh).scene = s.scene ∧ (s.fresh).prism = s.prism ∧ (s.fresh).ddrc = s.ddrc ∧ (s.fresh).xbar = s.xbar ∧
    (s.fresh).sched = s.sched ∧ (s.fresh).lens = s.lens ∧ (s.fresh).meas = s.meas ∧ (s.fresh).ports = s.ports ∧ (s.fresh).net = s.net ∧
    (s.fresh).pipe = s.pipe ∧ (s.fresh).regs = s.regs ∧ (s.fresh).mem = s.mem ∧ (s.fresh).hostMem = s.hostMem ∧
    (s.fresh).flash = s.flash ∧ (s.fresh).rdata = s.rdata ∧ (s.fresh).rstat = s.rstat ∧ (∀ a, (s.fresh).rd a = s.rd a) := by
  exact ⟨rfl, rfl, rfl, rfl, rfl, rfl, rfl, rfl, rfl, rfl, rfl, rfl, rfl, rfl, rfl, rfl, rfl, rfl, rfl, rfl, rfl, rfl, rfl, rfl, rfl, rfl, fun a => State.rd_congr (s := s) (t := s.fresh) rfl a⟩

@[simp] theorem State.freshBy_freeCnt (s : State) (n : Nat) : (s.freshBy n).freeCnt = s.freeCnt + n := rfl

@[simp] theorem State.freshBy_frame (s : State) (n : Nat) :
  (s.freshBy n).pending = s.pending ∧ (s.freshBy n).sys = s.sys ∧ (s.freshBy n).sec = s.sec ∧ (s.freshBy n).time = s.time ∧
    (s.freshBy n).mbx = s.mbx ∧ (s.freshBy n).host = s.host ∧ (s.freshBy n).mir = s.mir ∧ (s.freshBy n).hier = s.hier ∧
    (s.freshBy n).perf = s.perf ∧ (s.freshBy n).trace = s.trace ∧ (s.freshBy n).scene = s.scene ∧ (s.freshBy n).prism = s.prism ∧
    (s.freshBy n).ddrc = s.ddrc ∧ (s.freshBy n).xbar = s.xbar ∧ (s.freshBy n).sched = s.sched ∧ (s.freshBy n).lens = s.lens ∧
    (s.freshBy n).meas = s.meas ∧ (s.freshBy n).ports = s.ports ∧ (s.freshBy n).net = s.net ∧ (s.freshBy n).pipe = s.pipe ∧
    (s.freshBy n).regs = s.regs ∧ (s.freshBy n).mem = s.mem ∧ (s.freshBy n).hostMem = s.hostMem ∧ (s.freshBy n).flash = s.flash ∧
    (s.freshBy n).rdata = s.rdata ∧ (s.freshBy n).rstat = s.rstat ∧ (∀ a, (s.freshBy n).rd a = s.rd a) := by
  exact ⟨rfl, rfl, rfl, rfl, rfl, rfl, rfl, rfl, rfl, rfl, rfl, rfl, rfl, rfl, rfl, rfl, rfl, rfl, rfl, rfl, rfl, rfl, rfl, rfl, rfl, rfl, fun a => State.rd_congr (s := s) (t := s.freshBy n) rfl a⟩

end Sys2Proof.Machine
end

