-- ==== Sys2Proof/Laws/Table.lean ====
section
/-! SUPPORT. Laws of the sparse tables and of memory: reading what was written, leaving the rest alone, and keeping the canonical form. -/

namespace Sys2Proof.Machine

variable {α : Type}

theorem tget_tdel_same (d : α) (t : Tbl α) (k : Nat) : tget d (tdel t k) k = d := by
  induction t with
  | nil => rfl
  | cons e t ih => obtain ⟨i, v⟩ := e; by_cases h : i = k <;> simp [tdel, tget, h, ih]

theorem tget_tdel_other (d : α) (t : Tbl α) {k j : Nat} (h : j ≠ k) : tget d (tdel t k) j = tget d t j := by
  induction t with
  | nil => rfl
  | cons e t ih =>
    obtain ⟨i, v⟩ := e
    by_cases hi : i = k
    · simp [tdel, tget, hi, ih, Ne.symm h]
    · simp [tdel, tget, hi, ih]

theorem tget_tput_same (d : α) (t : Tbl α) (k : Nat) (v : α) : tget d (tput t k v) k = v := by
  induction t with
  | nil => simp [tput, tget]
  | cons e t ih =>
    obtain ⟨i, w⟩ := e
    unfold tput
    split
    · simp [tget]
    · split
      · simp [tget]
      · rename_i h; simp [tget, h, ih]

theorem tget_tput_other (d : α) (t : Tbl α) {k j : Nat} (v : α) (h : j ≠ k) : tget d (tput t k v) j = tget d t j := by
  induction t with
  | nil => simp [tput, tget, Ne.symm h]
  | cons e t ih =>
    obtain ⟨i, w⟩ := e
    unfold tput
    split
    · simp [tget, Ne.symm h]
    · split
      · rename_i hi; simp [tget, hi, Ne.symm h]
      · simp [tget, ih]

/-- What was written is read. -/
@[simp] theorem tget_tset_same [DecidableEq α] (d : α) (t : Tbl α) (k : Nat) (v : α) : tget d (tset d t k v) k = v := by
  unfold tset
  split
  · rename_i h; rw [tget_tdel_same, h]
  · exact tget_tput_same d t k v

/-- A write leaves every other key alone. -/
theorem tget_tset_other [DecidableEq α] (d d' : α) (t : Tbl α) {k j : Nat} (v : α) (h : j ≠ k) :
    tget d (tset d' t k v) j = tget d t j := by
  unfold tset
  split
  · exact tget_tdel_other d t h
  · exact tget_tput_other d t v h

theorem mem_of_mem_tdel {t : Tbl α} {k : Nat} {e : Nat × α} (h : e ∈ tdel t k) : e ∈ t := by
  induction t with
  | nil => exact h
  | cons a t ih =>
    obtain ⟨i, v⟩ := a
    unfold tdel at h
    split at h
    · exact List.mem_cons_of_mem _ (ih h)
    · rcases List.mem_cons.mp h with rfl | h
      · exact List.mem_cons_self
      · exact List.mem_cons_of_mem _ (ih h)

theorem mem_of_mem_tput {t : Tbl α} {k : Nat} {v : α} {e : Nat × α} (h : e ∈ tput t k v) : e = (k, v) ∨ e ∈ t := by
  induction t with
  | nil => left; simpa [tput] using h
  | cons a t ih =>
    obtain ⟨i, w⟩ := a
    unfold tput at h
    split at h
    · rcases List.mem_cons.mp h with h | h
      · exact .inl h
      · exact .inr h
    · split at h
      · rcases List.mem_cons.mp h with h | h
        · exact .inl h
        · exact .inr (List.mem_cons_of_mem _ h)
      · rcases List.mem_cons.mp h with h | h
        · exact .inr (h ▸ List.mem_cons_self)
        · rcases ih h with h | h
          · exact .inl h
          · exact .inr (List.mem_cons_of_mem _ h)

theorem tdel_wf {d : Nat → α} {t : Tbl α} (h : tblWf d t) (k : Nat) : tblWf d (tdel t k) := by
  refine ⟨?_, fun e he => h.2 e (mem_of_mem_tdel he)⟩
  have hp := h.1
  clear h
  induction t with
  | nil => exact hp
  | cons a t ih =>
    obtain ⟨i, v⟩ := a
    rw [List.pairwise_cons] at hp
    unfold tdel
    split
    · exact ih hp.2
    · exact List.pairwise_cons.mpr ⟨fun e he => hp.1 e (mem_of_mem_tdel he), ih hp.2⟩

theorem tput_wf {d : Nat → α} {t : Tbl α} (h : tblWf d t) {k : Nat} {v : α} (hv : v ≠ d k) : tblWf d (tput t k v) := by
  refine ⟨?_, fun e he => ?_⟩
  · have hp := h.1
    clear h hv
    induction t with
    | nil => simp [tput]
    | cons a t ih =>
      obtain ⟨i, w⟩ := a
      have hq := List.pairwise_cons.mp hp
      unfold tput
      split
      · rename_i hk
        refine List.pairwise_cons.mpr ⟨fun e he => ?_, hp⟩
        rcases List.mem_cons.mp he with rfl | he
        · exact hk
        · exact Nat.lt_trans hk (hq.1 e he)
      · split
        · rename_i hi
          subst hi
          exact List.pairwise_cons.mpr ⟨hq.1, hq.2⟩
        · rename_i h1 h2
          refine List.pairwise_cons.mpr ⟨fun e he => ?_, ih hq.2⟩
          rcases mem_of_mem_tput he with rfl | he
          · show i < k
            omega
          · exact hq.1 e he
  · rcases mem_of_mem_tput he with rfl | he
    · exact hv
    · exact h.2 e he

/-- A write keeps the canonical form. -/
theorem tset_wf [DecidableEq α] {d : Nat → α} {t : Tbl α} (h : tblWf d t) (k : Nat) (v : α) : tblWf d (tset (d k) t k v) := by
  unfold tset
  split
  · exact tdel_wf h k
  · rename_i hv; exact tput_wf h hv

/-! ### Memory -/

@[simp] theorem mget_mset_same (m : List (Nat × Byte)) (a : Nat) (b : Byte) : mget (mset m a b) a = b := tget_tset_same 0 m a b

theorem mget_mset_other (m : List (Nat × Byte)) {a i : Nat} (b : Byte) (h : i ≠ a) : mget (mset m a b) i = mget m i :=
  tget_tset_other 0 0 m b h

/-- Reading any address after a byte string is written: inside it the byte written, outside it what was there. -/
theorem mget_mwrite (m : List (Nat × Byte)) (a i : Nat) (bs : Bytes) :
    mget (mwrite m a bs) i = if a ≤ i ∧ i < a + bs.length then bs.getD (i - a) 0 else mget m i := by
  induction bs generalizing m a with
  | nil => simp [mwrite]
  | cons b bs ih =>
    unfold mwrite
    rw [ih]
    by_cases h : i = a
    · subst h; simp
    · rw [mget_mset_other m b h]
      by_cases hi : a ≤ i ∧ i < a + (bs.length + 1)
      · obtain ⟨j, hj⟩ : ∃ j, i - a = j + 1 := ⟨i - a - 1, by omega⟩
        have hj' : i - (a + 1) = j := by omega
        simp only [List.length_cons, hi, and_self, if_true, hj, hj', List.getD_cons_succ]
        rw [if_pos (by omega)]
      · rw [if_neg (by omega), if_neg (by simpa using hi)]

/-- A write leaves every byte outside it alone. -/
theorem mget_mwrite_other (m : List (Nat × Byte)) {a i : Nat} (bs : Bytes) (h : i < a ∨ a + bs.length ≤ i) :
    mget (mwrite m a bs) i = mget m i := by
  rw [mget_mwrite, if_neg (by omega)]

theorem mread_length (m : List (Nat × Byte)) (a n : Nat) : (mread m a n).length = n := by
  induction n generalizing a with
  | zero => rfl
  | succ n ih => simp [mread, ih]

/-- What was written is read back. -/
@[simp] theorem mread_mwrite_same (m : List (Nat × Byte)) (a : Nat) (bs : Bytes) : mread (mwrite m a bs) a bs.length = bs := by
  induction bs generalizing m a with
  | nil => rfl
  | cons b bs ih =>
    simp only [List.length_cons, mread, mwrite]
    rw [ih, mget_mwrite, if_neg (by omega), mget_mset_same]

/-- A read that does not meet a write is not changed by it. -/
theorem mread_mwrite_other (m : List (Nat × Byte)) {a i n : Nat} (bs : Bytes) (h : i + n ≤ a ∨ a + bs.length ≤ i) :
    mread (mwrite m a bs) i n = mread m i n := by
  induction n generalizing i with
  | zero => rfl
  | succ n ih => simp only [mread]; rw [mget_mwrite_other m bs (by omega), ih (by omega)]

theorem mset_wf {m : List (Nat × Byte)} (h : memWf m) (a : Nat) (b : Byte) : memWf (mset m a b) :=
  tset_wf (d := fun _ => (0 : Byte)) h a b

theorem mwrite_wf {m : List (Nat × Byte)} (h : memWf m) (a : Nat) (bs : Bytes) : memWf (mwrite m a bs) := by
  induction bs generalizing m a with
  | nil => exact h
  | cons b bs ih => exact ih (mset_wf h a b) (a + 1)

theorem filter_wf {d : Nat → α} {t : Tbl α} (h : tblWf d t) (p : Nat × α → Bool) : tblWf d (t.filter p) :=
  ⟨h.1.filter p, fun e he => h.2 e (List.mem_of_mem_filter he)⟩

theorem mclear_wf {m : List (Nat × Byte)} (h : memWf m) (a n : Nat) : memWf (mclear m a n) := filter_wf h _

theorem mmove_wf {m : List (Nat × Byte)} (h : memWf m) (old : List (Nat × Byte)) (a b n : Nat) : memWf (mmove m old a b n) := by
  unfold mmove
  generalize old.filter _ = l
  have h1 := mclear_wf h b n
  revert h1
  generalize mclear m b n = t
  intro h1
  induction l generalizing t with
  | nil => exact h1
  | cons c l ih => exact ih _ (mset_wf h1 _ _)

theorem nil_wf (d : Nat → α) : tblWf d ([] : Tbl α) := ⟨List.Pairwise.nil, by simp⟩

end Sys2Proof.Machine
end

