-- ==== Sys2Proof/Laws/Ops.lean ====
section
/-! SUPPORT. The shared operations of Machine/Ops.lean: what each reads back, and what it leaves alone. -/

namespace Sys2Proof.Machine

/-- Reading a register after a write of any register (taken to 32 bits). -/
theorem State.rd_wr (s : State) (a v b : Nat) : (s.wr a v).rd b = if b = a then v % 2 ^ 32 else s.rd b := by
  unfold State.wr State.rd
  by_cases h : b = a
  · subst h; simp
  · rw [if_neg h]
    exact congrArg BitVec.toNat (tget_tset_other (regReset b) (regReset a) s.regs _ h)

@[simp] theorem State.rd_wr_same (s : State) (a v : Nat) : (s.wr a v).rd a = v % 2 ^ 32 := by simp [State.rd_wr]

theorem State.rd_wr_other (s : State) {a b : Nat} (v : Nat) (h : b ≠ a) : (s.wr a v).rd b = s.rd b := by simp [State.rd_wr, h]

@[simp] theorem State.wr_frame (s : State) (a v : Nat) :
  (s.wr a v).pending = s.pending ∧ (s.wr a v).sys = s.sys ∧ (s.wr a v).sec = s.sec ∧ (s.wr a v).time = s.time ∧ (s.wr a v).mbx = s.mbx ∧
    (s.wr a v).host = s.host ∧ (s.wr a v).mir = s.mir ∧ (s.wr a v).hier = s.hier ∧ (s.wr a v).perf = s.perf ∧
    (s.wr a v).trace = s.trace ∧ (s.wr a v).scene = s.scene ∧ (s.wr a v).prism = s.prism ∧ (s.wr a v).ddrc = s.ddrc ∧
    (s.wr a v).xbar = s.xbar ∧ (s.wr a v).sched = s.sched ∧ (s.wr a v).lens = s.lens ∧ (s.wr a v).meas = s.meas ∧
    (s.wr a v).ports = s.ports ∧ (s.wr a v).net = s.net ∧ (s.wr a v).pipe = s.pipe ∧ (s.wr a v).mem = s.mem ∧
    (s.wr a v).hostMem = s.hostMem ∧ (s.wr a v).flash = s.flash ∧ (s.wr a v).freeCnt = s.freeCnt ∧ (s.wr a v).rdata = s.rdata ∧
    (s.wr a v).rstat = s.rstat := by
  unfold State.wr; simp only [State.withRegs_frame, and_self]

@[simp] theorem State.setFld_frame (s : State) (a hi lo v : Nat) :
  (s.setFld a hi lo v).pending = s.pending ∧ (s.setFld a hi lo v).sys = s.sys ∧ (s.setFld a hi lo v).sec = s.sec ∧
    (s.setFld a hi lo v).time = s.time ∧ (s.setFld a hi lo v).mbx = s.mbx ∧ (s.setFld a hi lo v).host = s.host ∧
    (s.setFld a hi lo v).mir = s.mir ∧ (s.setFld a hi lo v).hier = s.hier ∧ (s.setFld a hi lo v).perf = s.perf ∧
    (s.setFld a hi lo v).trace = s.trace ∧ (s.setFld a hi lo v).scene = s.scene ∧ (s.setFld a hi lo v).prism = s.prism ∧
    (s.setFld a hi lo v).ddrc = s.ddrc ∧ (s.setFld a hi lo v).xbar = s.xbar ∧ (s.setFld a hi lo v).sched = s.sched ∧
    (s.setFld a hi lo v).lens = s.lens ∧ (s.setFld a hi lo v).meas = s.meas ∧ (s.setFld a hi lo v).ports = s.ports ∧
    (s.setFld a hi lo v).net = s.net ∧ (s.setFld a hi lo v).pipe = s.pipe ∧ (s.setFld a hi lo v).mem = s.mem ∧
    (s.setFld a hi lo v).hostMem = s.hostMem ∧ (s.setFld a hi lo v).flash = s.flash ∧ (s.setFld a hi lo v).freeCnt = s.freeCnt ∧
    (s.setFld a hi lo v).rdata = s.rdata ∧ (s.setFld a hi lo v).rstat = s.rstat := by
  unfold State.setFld; simp only [State.wr_frame, and_self]

@[simp] theorem State.raise_frame (s : State) (a k : Nat) :
  (s.raise a k).pending = s.pending ∧ (s.raise a k).sys = s.sys ∧ (s.raise a k).sec = s.sec ∧ (s.raise a k).time = s.time ∧
    (s.raise a k).mbx = s.mbx ∧ (s.raise a k).host = s.host ∧ (s.raise a k).mir = s.mir ∧ (s.raise a k).hier = s.hier ∧
    (s.raise a k).perf = s.perf ∧ (s.raise a k).trace = s.trace ∧ (s.raise a k).scene = s.scene ∧ (s.raise a k).prism = s.prism ∧
    (s.raise a k).ddrc = s.ddrc ∧ (s.raise a k).xbar = s.xbar ∧ (s.raise a k).sched = s.sched ∧ (s.raise a k).lens = s.lens ∧
    (s.raise a k).meas = s.meas ∧ (s.raise a k).ports = s.ports ∧ (s.raise a k).net = s.net ∧ (s.raise a k).pipe = s.pipe ∧
    (s.raise a k).mem = s.mem ∧ (s.raise a k).hostMem = s.hostMem ∧ (s.raise a k).flash = s.flash ∧ (s.raise a k).freeCnt = s.freeCnt ∧
    (s.raise a k).rdata = s.rdata ∧ (s.raise a k).rstat = s.rstat := by
  unfold State.raise; simp only [State.setFld_frame, and_self]

@[simp] theorem State.bump_frame (s : State) (a n : Nat) :
  (s.bump a n).pending = s.pending ∧ (s.bump a n).sys = s.sys ∧ (s.bump a n).sec = s.sec ∧ (s.bump a n).time = s.time ∧
    (s.bump a n).mbx = s.mbx ∧ (s.bump a n).host = s.host ∧ (s.bump a n).mir = s.mir ∧ (s.bump a n).hier = s.hier ∧
    (s.bump a n).perf = s.perf ∧ (s.bump a n).trace = s.trace ∧ (s.bump a n).scene = s.scene ∧ (s.bump a n).prism = s.prism ∧
    (s.bump a n).ddrc = s.ddrc ∧ (s.bump a n).xbar = s.xbar ∧ (s.bump a n).sched = s.sched ∧ (s.bump a n).lens = s.lens ∧
    (s.bump a n).meas = s.meas ∧ (s.bump a n).ports = s.ports ∧ (s.bump a n).net = s.net ∧ (s.bump a n).pipe = s.pipe ∧
    (s.bump a n).mem = s.mem ∧ (s.bump a n).hostMem = s.hostMem ∧ (s.bump a n).flash = s.flash ∧ (s.bump a n).freeCnt = s.freeCnt ∧
    (s.bump a n).rdata = s.rdata ∧ (s.bump a n).rstat = s.rstat := by
  unfold State.bump; split <;> simp

@[simp] theorem State.perfRaw_frame (s : State) (i n : Nat) :
  (s.perfRaw i n).pending = s.pending ∧ (s.perfRaw i n).sys = s.sys ∧ (s.perfRaw i n).sec = s.sec ∧ (s.perfRaw i n).time = s.time ∧
    (s.perfRaw i n).mbx = s.mbx ∧ (s.perfRaw i n).host = s.host ∧ (s.perfRaw i n).mir = s.mir ∧ (s.perfRaw i n).hier = s.hier ∧
    (s.perfRaw i n).trace = s.trace ∧ (s.perfRaw i n).scene = s.scene ∧ (s.perfRaw i n).prism = s.prism ∧ (s.perfRaw i n).ddrc = s.ddrc ∧
    (s.perfRaw i n).xbar = s.xbar ∧ (s.perfRaw i n).sched = s.sched ∧ (s.perfRaw i n).lens = s.lens ∧ (s.perfRaw i n).meas = s.meas ∧
    (s.perfRaw i n).ports = s.ports ∧ (s.perfRaw i n).net = s.net ∧ (s.perfRaw i n).pipe = s.pipe ∧ (s.perfRaw i n).regs = s.regs ∧
    (s.perfRaw i n).mem = s.mem ∧ (s.perfRaw i n).hostMem = s.hostMem ∧ (s.perfRaw i n).flash = s.flash ∧
    (s.perfRaw i n).freeCnt = s.freeCnt ∧ (s.perfRaw i n).rdata = s.rdata ∧ (s.perfRaw i n).rstat = s.rstat ∧
    (∀ a, (s.perfRaw i n).rd a = s.rd a) := by
  unfold State.perfRaw; dsimp only; split <;> simp

@[simp] theorem State.perfAdd_frame (s : State) (i n : Nat) :
  (s.perfAdd i n).pending = s.pending ∧ (s.perfAdd i n).sys = s.sys ∧ (s.perfAdd i n).sec = s.sec ∧ (s.perfAdd i n).time = s.time ∧
    (s.perfAdd i n).mbx = s.mbx ∧ (s.perfAdd i n).host = s.host ∧ (s.perfAdd i n).mir = s.mir ∧ (s.perfAdd i n).hier = s.hier ∧
    (s.perfAdd i n).trace = s.trace ∧ (s.perfAdd i n).scene = s.scene ∧ (s.perfAdd i n).prism = s.prism ∧ (s.perfAdd i n).ddrc = s.ddrc ∧
    (s.perfAdd i n).xbar = s.xbar ∧ (s.perfAdd i n).sched = s.sched ∧ (s.perfAdd i n).lens = s.lens ∧ (s.perfAdd i n).meas = s.meas ∧
    (s.perfAdd i n).ports = s.ports ∧ (s.perfAdd i n).net = s.net ∧ (s.perfAdd i n).pipe = s.pipe ∧ (s.perfAdd i n).regs = s.regs ∧
    (s.perfAdd i n).mem = s.mem ∧ (s.perfAdd i n).hostMem = s.hostMem ∧ (s.perfAdd i n).flash = s.flash ∧
    (s.perfAdd i n).rdata = s.rdata ∧ (s.perfAdd i n).rstat = s.rstat ∧ (∀ a, (s.perfAdd i n).rd a = s.rd a) := by
  unfold State.perfAdd; repeat' split
  all_goals simp

@[simp] theorem State.tailPut_frame (s : State) (r : Bytes) :
  (s.tailPut r).pending = s.pending ∧ (s.tailPut r).sys = s.sys ∧ (s.tailPut r).sec = s.sec ∧ (s.tailPut r).time = s.time ∧
    (s.tailPut r).mbx = s.mbx ∧ (s.tailPut r).host = s.host ∧ (s.tailPut r).mir = s.mir ∧ (s.tailPut r).hier = s.hier ∧
    (s.tailPut r).perf = s.perf ∧ (s.tailPut r).scene = s.scene ∧ (s.tailPut r).prism = s.prism ∧ (s.tailPut r).ddrc = s.ddrc ∧
    (s.tailPut r).xbar = s.xbar ∧ (s.tailPut r).sched = s.sched ∧ (s.tailPut r).lens = s.lens ∧ (s.tailPut r).meas = s.meas ∧
    (s.tailPut r).ports = s.ports ∧ (s.tailPut r).net = s.net ∧ (s.tailPut r).pipe = s.pipe ∧ (s.tailPut r).regs = s.regs ∧
    (s.tailPut r).mem = s.mem ∧ (s.tailPut r).hostMem = s.hostMem ∧ (s.tailPut r).flash = s.flash ∧ (s.tailPut r).freeCnt = s.freeCnt ∧
    (s.tailPut r).rdata = s.rdata ∧ (s.tailPut r).rstat = s.rstat ∧ (∀ a, (s.tailPut r).rd a = s.rd a) := by
  unfold State.tailPut; simp

@[simp] theorem State.traceLose_frame (s : State) :
  (s.traceLose).pending = s.pending ∧ (s.traceLose).sys = s.sys ∧ (s.traceLose).sec = s.sec ∧ (s.traceLose).time = s.time ∧
    (s.traceLose).mbx = s.mbx ∧ (s.traceLose).host = s.host ∧ (s.traceLose).mir = s.mir ∧ (s.traceLose).hier = s.hier ∧
    (s.traceLose).scene = s.scene ∧ (s.traceLose).prism = s.prism ∧ (s.traceLose).ddrc = s.ddrc ∧ (s.traceLose).xbar = s.xbar ∧
    (s.traceLose).sched = s.sched ∧ (s.traceLose).lens = s.lens ∧ (s.traceLose).meas = s.meas ∧ (s.traceLose).ports = s.ports ∧
    (s.traceLose).net = s.net ∧ (s.traceLose).pipe = s.pipe ∧ (s.traceLose).mem = s.mem ∧ (s.traceLose).hostMem = s.hostMem ∧
    (s.traceLose).flash = s.flash ∧ (s.traceLose).rdata = s.rdata ∧ (s.traceLose).rstat = s.rstat := by
  unfold State.traceLose; simp

@[simp] theorem State.bufStore_frame (s : State) (r : Bytes) :
  (s.bufStore r).pending = s.pending ∧ (s.bufStore r).sys = s.sys ∧ (s.bufStore r).sec = s.sec ∧ (s.bufStore r).time = s.time ∧
    (s.bufStore r).mbx = s.mbx ∧ (s.bufStore r).host = s.host ∧ (s.bufStore r).mir = s.mir ∧ (s.bufStore r).hier = s.hier ∧
    (s.bufStore r).scene = s.scene ∧ (s.bufStore r).prism = s.prism ∧ (s.bufStore r).ddrc = s.ddrc ∧ (s.bufStore r).xbar = s.xbar ∧
    (s.bufStore r).sched = s.sched ∧ (s.bufStore r).lens = s.lens ∧ (s.bufStore r).meas = s.meas ∧ (s.bufStore r).ports = s.ports ∧
    (s.bufStore r).net = s.net ∧ (s.bufStore r).pipe = s.pipe ∧ (s.bufStore r).hostMem = s.hostMem ∧ (s.bufStore r).flash = s.flash ∧
    (s.bufStore r).rdata = s.rdata ∧ (s.bufStore r).rstat = s.rstat := by
  unfold State.bufStore; extract_lets cap a s1 s2
  split
  · simp
  · split <;> simp [s2, s1]

@[simp] theorem State.bufPut_frame (s : State) (r : Bytes) :
  (s.bufPut r).pending = s.pending ∧ (s.bufPut r).sys = s.sys ∧ (s.bufPut r).sec = s.sec ∧ (s.bufPut r).time = s.time ∧
    (s.bufPut r).mbx = s.mbx ∧ (s.bufPut r).host = s.host ∧ (s.bufPut r).mir = s.mir ∧ (s.bufPut r).hier = s.hier ∧
    (s.bufPut r).scene = s.scene ∧ (s.bufPut r).prism = s.prism ∧ (s.bufPut r).ddrc = s.ddrc ∧ (s.bufPut r).xbar = s.xbar ∧
    (s.bufPut r).sched = s.sched ∧ (s.bufPut r).lens = s.lens ∧ (s.bufPut r).meas = s.meas ∧ (s.bufPut r).ports = s.ports ∧
    (s.bufPut r).net = s.net ∧ (s.bufPut r).pipe = s.pipe ∧ (s.bufPut r).hostMem = s.hostMem ∧ (s.bufPut r).flash = s.flash ∧
    (s.bufPut r).rdata = s.rdata ∧ (s.bufPut r).rstat = s.rstat := by
  unfold State.bufPut; split <;> simp

@[simp] theorem State.fifoPut_frame (s : State) (r : Bytes) :
  (s.fifoPut r).pending = s.pending ∧ (s.fifoPut r).sys = s.sys ∧ (s.fifoPut r).sec = s.sec ∧ (s.fifoPut r).time = s.time ∧
    (s.fifoPut r).mbx = s.mbx ∧ (s.fifoPut r).host = s.host ∧ (s.fifoPut r).mir = s.mir ∧ (s.fifoPut r).hier = s.hier ∧
    (s.fifoPut r).scene = s.scene ∧ (s.fifoPut r).prism = s.prism ∧ (s.fifoPut r).ddrc = s.ddrc ∧ (s.fifoPut r).xbar = s.xbar ∧
    (s.fifoPut r).sched = s.sched ∧ (s.fifoPut r).lens = s.lens ∧ (s.fifoPut r).meas = s.meas ∧ (s.fifoPut r).ports = s.ports ∧
    (s.fifoPut r).net = s.net ∧ (s.fifoPut r).pipe = s.pipe ∧ (s.fifoPut r).hostMem = s.hostMem ∧ (s.fifoPut r).flash = s.flash ∧
    (s.fifoPut r).rdata = s.rdata ∧ (s.fifoPut r).rstat = s.rstat := by
  unfold State.fifoPut; repeat' split
  all_goals simp

@[simp] theorem State.traceRec_frame (s : State) (src kind : Nat) (body : Bytes) :
  (s.traceRec src kind body).pending = s.pending ∧ (s.traceRec src kind body).sys = s.sys ∧ (s.traceRec src kind body).sec = s.sec ∧
    (s.traceRec src kind body).time = s.time ∧ (s.traceRec src kind body).mbx = s.mbx ∧ (s.traceRec src kind body).host = s.host ∧
    (s.traceRec src kind body).mir = s.mir ∧ (s.traceRec src kind body).hier = s.hier ∧ (s.traceRec src kind body).scene = s.scene ∧
    (s.traceRec src kind body).prism = s.prism ∧ (s.traceRec src kind body).ddrc = s.ddrc ∧ (s.traceRec src kind body).xbar = s.xbar ∧
    (s.traceRec src kind body).sched = s.sched ∧ (s.traceRec src kind body).lens = s.lens ∧ (s.traceRec src kind body).meas = s.meas ∧
    (s.traceRec src kind body).ports = s.ports ∧ (s.traceRec src kind body).net = s.net ∧ (s.traceRec src kind body).pipe = s.pipe ∧
    (s.traceRec src kind body).hostMem = s.hostMem ∧ (s.traceRec src kind body).flash = s.flash ∧
    (s.traceRec src kind body).rdata = s.rdata ∧ (s.traceRec src kind body).rstat = s.rstat := by
  unfold State.traceRec; dsimp only; repeat' split
  all_goals simp

@[simp] theorem State.signal_frame (s : State) (v : Nat) :
  (s.signal v).pending = s.pending ∧ (s.signal v).sys = s.sys ∧ (s.signal v).sec = s.sec ∧ (s.signal v).time = s.time ∧
    (s.signal v).mbx = s.mbx ∧ (s.signal v).mir = s.mir ∧ (s.signal v).hier = s.hier ∧ (s.signal v).perf = s.perf ∧
    (s.signal v).trace = s.trace ∧ (s.signal v).scene = s.scene ∧ (s.signal v).prism = s.prism ∧ (s.signal v).ddrc = s.ddrc ∧
    (s.signal v).xbar = s.xbar ∧ (s.signal v).sched = s.sched ∧ (s.signal v).lens = s.lens ∧ (s.signal v).meas = s.meas ∧
    (s.signal v).ports = s.ports ∧ (s.signal v).net = s.net ∧ (s.signal v).pipe = s.pipe ∧ (s.signal v).regs = s.regs ∧
    (s.signal v).mem = s.mem ∧ (s.signal v).hostMem = s.hostMem ∧ (s.signal v).flash = s.flash ∧ (s.signal v).freeCnt = s.freeCnt ∧
    (s.signal v).rdata = s.rdata ∧ (s.signal v).rstat = s.rstat ∧ (∀ a, (s.signal v).rd a = s.rd a) := by
  unfold State.signal; repeat' split
  all_goals simp

@[simp] theorem State.noteDev_frame (s : State) (s0 : State) :
  (s.noteDev s0).pending = s.pending ∧ (s.noteDev s0).sys = s.sys ∧ (s.noteDev s0).sec = s.sec ∧ (s.noteDev s0).time = s.time ∧
    (s.noteDev s0).mbx = s.mbx ∧ (s.noteDev s0).mir = s.mir ∧ (s.noteDev s0).hier = s.hier ∧ (s.noteDev s0).perf = s.perf ∧
    (s.noteDev s0).trace = s.trace ∧ (s.noteDev s0).scene = s.scene ∧ (s.noteDev s0).prism = s.prism ∧ (s.noteDev s0).ddrc = s.ddrc ∧
    (s.noteDev s0).xbar = s.xbar ∧ (s.noteDev s0).sched = s.sched ∧ (s.noteDev s0).lens = s.lens ∧ (s.noteDev s0).meas = s.meas ∧
    (s.noteDev s0).ports = s.ports ∧ (s.noteDev s0).net = s.net ∧ (s.noteDev s0).pipe = s.pipe ∧ (s.noteDev s0).mem = s.mem ∧
    (s.noteDev s0).hostMem = s.hostMem ∧ (s.noteDev s0).flash = s.flash ∧ (s.noteDev s0).freeCnt = s.freeCnt ∧
    (s.noteDev s0).rdata = s.rdata ∧ (s.noteDev s0).rstat = s.rstat := by
  unfold State.noteDev; split <;> simp

@[simp] theorem State.ringWrite_frame (s : State) (i : Nat) (r : Bytes) :
  (s.ringWrite i r).pending = s.pending ∧ (s.ringWrite i r).sys = s.sys ∧ (s.ringWrite i r).sec = s.sec ∧
    (s.ringWrite i r).time = s.time ∧ (s.ringWrite i r).mbx = s.mbx ∧ (s.ringWrite i r).host = s.host ∧ (s.ringWrite i r).mir = s.mir ∧
    (s.ringWrite i r).hier = s.hier ∧ (s.ringWrite i r).perf = s.perf ∧ (s.ringWrite i r).trace = s.trace ∧
    (s.ringWrite i r).scene = s.scene ∧ (s.ringWrite i r).prism = s.prism ∧ (s.ringWrite i r).ddrc = s.ddrc ∧
    (s.ringWrite i r).xbar = s.xbar ∧ (s.ringWrite i r).sched = s.sched ∧ (s.ringWrite i r).lens = s.lens ∧
    (s.ringWrite i r).meas = s.meas ∧ (s.ringWrite i r).ports = s.ports ∧ (s.ringWrite i r).net = s.net ∧
    (s.ringWrite i r).pipe = s.pipe ∧ (s.ringWrite i r).regs = s.regs ∧ (s.ringWrite i r).flash = s.flash ∧
    (s.ringWrite i r).freeCnt = s.freeCnt ∧ (s.ringWrite i r).rdata = s.rdata ∧ (s.ringWrite i r).rstat = s.rstat ∧
    (∀ a, (s.ringWrite i r).rd a = s.rd a) := by
  unfold State.ringWrite; split <;> simp

@[simp] theorem State.postRaw_frame (s : State) (code group flags op status tag : Nat) (detail : Bytes) :
  (s.postRaw code group flags op status tag detail).pending = s.pending ∧ (s.postRaw code group flags op status tag detail).sys = s.sys ∧
    (s.postRaw code group flags op status tag detail).sec = s.sec ∧ (s.postRaw code group flags op status tag detail).time = s.time ∧
    (s.postRaw code group flags op status tag detail).mir = s.mir ∧ (s.postRaw code group flags op status tag detail).hier = s.hier ∧
    (s.postRaw code group flags op status tag detail).scene = s.scene ∧
    (s.postRaw code group flags op status tag detail).prism = s.prism ∧ (s.postRaw code group flags op status tag detail).ddrc = s.ddrc ∧
    (s.postRaw code group flags op status tag detail).xbar = s.xbar ∧ (s.postRaw code group flags op status tag detail).sched = s.sched ∧
    (s.postRaw code group flags op status tag detail).lens = s.lens ∧ (s.postRaw code group flags op status tag detail).meas = s.meas ∧
    (s.postRaw code group flags op status tag detail).ports = s.ports ∧ (s.postRaw code group flags op status tag detail).net = s.net ∧
    (s.postRaw code group flags op status tag detail).pipe = s.pipe ∧ (s.postRaw code group flags op status tag detail).flash = s.flash ∧
    (s.postRaw code group flags op status tag detail).rdata = s.rdata ∧ (s.postRaw code group flags op status tag detail).rstat = s.rstat := by
  unfold State.postRaw; dsimp only; repeat' split
  all_goals simp

@[simp] theorem State.post_frame (s : State) (code : Nat) (detail : Bytes) :
  (s.post code detail).pending = s.pending ∧ (s.post code detail).sys = s.sys ∧ (s.post code detail).sec = s.sec ∧
    (s.post code detail).time = s.time ∧ (s.post code detail).mir = s.mir ∧ (s.post code detail).hier = s.hier ∧
    (s.post code detail).scene = s.scene ∧ (s.post code detail).prism = s.prism ∧ (s.post code detail).ddrc = s.ddrc ∧
    (s.post code detail).xbar = s.xbar ∧ (s.post code detail).sched = s.sched ∧ (s.post code detail).lens = s.lens ∧
    (s.post code detail).meas = s.meas ∧ (s.post code detail).ports = s.ports ∧ (s.post code detail).net = s.net ∧
    (s.post code detail).pipe = s.pipe ∧ (s.post code detail).flash = s.flash ∧ (s.post code detail).rdata = s.rdata ∧
    (s.post code detail).rstat = s.rstat := by
  unfold State.post; simp only [State.postRaw_frame, and_self]

@[simp] theorem State.newJob_frame (s : State) (h : Hdr) (op n : Nat) (detail : Bytes) :
  (s.newJob h op n detail).pending = s.pending ∧ (s.newJob h op n detail).sys = s.sys ∧ (s.newJob h op n detail).sec = s.sec ∧
    (s.newJob h op n detail).time = s.time ∧ (s.newJob h op n detail).host = s.host ∧ (s.newJob h op n detail).mir = s.mir ∧
    (s.newJob h op n detail).hier = s.hier ∧ (s.newJob h op n detail).perf = s.perf ∧ (s.newJob h op n detail).trace = s.trace ∧
    (s.newJob h op n detail).scene = s.scene ∧ (s.newJob h op n detail).prism = s.prism ∧ (s.newJob h op n detail).ddrc = s.ddrc ∧
    (s.newJob h op n detail).xbar = s.xbar ∧ (s.newJob h op n detail).sched = s.sched ∧ (s.newJob h op n detail).lens = s.lens ∧
    (s.newJob h op n detail).meas = s.meas ∧ (s.newJob h op n detail).ports = s.ports ∧ (s.newJob h op n detail).net = s.net ∧
    (s.newJob h op n detail).pipe = s.pipe ∧ (s.newJob h op n detail).regs = s.regs ∧ (s.newJob h op n detail).mem = s.mem ∧
    (s.newJob h op n detail).hostMem = s.hostMem ∧ (s.newJob h op n detail).flash = s.flash ∧
    (s.newJob h op n detail).freeCnt = s.freeCnt ∧ (s.newJob h op n detail).rdata = s.rdata ∧ (s.newJob h op n detail).rstat = s.rstat ∧
    (∀ a, (s.newJob h op n detail).rd a = s.rd a) := by
  exact ⟨rfl, rfl, rfl, rfl, rfl, rfl, rfl, rfl, rfl, rfl, rfl, rfl, rfl, rfl, rfl, rfl, rfl, rfl, rfl, rfl, rfl, rfl, rfl, rfl, rfl, rfl, fun a => State.rd_congr (s := s) (t := s.newJob h op n detail) rfl a⟩

@[simp] theorem State.endJob_frame (s : State) (id status : Nat) (detail : Bytes) :
  (s.endJob id status detail).pending = s.pending ∧ (s.endJob id status detail).sys = s.sys ∧ (s.endJob id status detail).sec = s.sec ∧
    (s.endJob id status detail).time = s.time ∧ (s.endJob id status detail).mir = s.mir ∧ (s.endJob id status detail).hier = s.hier ∧
    (s.endJob id status detail).scene = s.scene ∧ (s.endJob id status detail).prism = s.prism ∧
    (s.endJob id status detail).ddrc = s.ddrc ∧ (s.endJob id status detail).xbar = s.xbar ∧ (s.endJob id status detail).sched = s.sched ∧
    (s.endJob id status detail).lens = s.lens ∧ (s.endJob id status detail).meas = s.meas ∧ (s.endJob id status detail).ports = s.ports ∧
    (s.endJob id status detail).net = s.net ∧ (s.endJob id status detail).pipe = s.pipe ∧ (s.endJob id status detail).flash = s.flash ∧
    (s.endJob id status detail).rdata = s.rdata ∧ (s.endJob id status detail).rstat = s.rstat := by
  unfold State.endJob; split <;> simp

@[simp] theorem State.pieceDone_frame (s : State) (id status : Nat) (detail : Bytes) :
  (s.pieceDone id status detail).pending = s.pending ∧ (s.pieceDone id status detail).sys = s.sys ∧
    (s.pieceDone id status detail).sec = s.sec ∧ (s.pieceDone id status detail).time = s.time ∧
    (s.pieceDone id status detail).mir = s.mir ∧ (s.pieceDone id status detail).hier = s.hier ∧
    (s.pieceDone id status detail).scene = s.scene ∧ (s.pieceDone id status detail).prism = s.prism ∧
    (s.pieceDone id status detail).ddrc = s.ddrc ∧ (s.pieceDone id status detail).xbar = s.xbar ∧
    (s.pieceDone id status detail).sched = s.sched ∧ (s.pieceDone id status detail).lens = s.lens ∧
    (s.pieceDone id status detail).meas = s.meas ∧ (s.pieceDone id status detail).ports = s.ports ∧
    (s.pieceDone id status detail).net = s.net ∧ (s.pieceDone id status detail).pipe = s.pipe ∧
    (s.pieceDone id status detail).flash = s.flash ∧ (s.pieceDone id status detail).rdata = s.rdata ∧
    (s.pieceDone id status detail).rstat = s.rstat := by
  unfold State.pieceDone; dsimp only; repeat' split
  all_goals simp

@[simp] theorem State.pieceDone?_frame (s : State) (id : Option Nat) (status : Nat) (detail : Bytes) :
  (s.pieceDone? id status detail).pending = s.pending ∧ (s.pieceDone? id status detail).sys = s.sys ∧
    (s.pieceDone? id status detail).sec = s.sec ∧ (s.pieceDone? id status detail).time = s.time ∧
    (s.pieceDone? id status detail).mir = s.mir ∧ (s.pieceDone? id status detail).hier = s.hier ∧
    (s.pieceDone? id status detail).scene = s.scene ∧ (s.pieceDone? id status detail).prism = s.prism ∧
    (s.pieceDone? id status detail).ddrc = s.ddrc ∧ (s.pieceDone? id status detail).xbar = s.xbar ∧
    (s.pieceDone? id status detail).sched = s.sched ∧ (s.pieceDone? id status detail).lens = s.lens ∧
    (s.pieceDone? id status detail).meas = s.meas ∧ (s.pieceDone? id status detail).ports = s.ports ∧
    (s.pieceDone? id status detail).net = s.net ∧ (s.pieceDone? id status detail).pipe = s.pipe ∧
    (s.pieceDone? id status detail).flash = s.flash ∧ (s.pieceDone? id status detail).rdata = s.rdata ∧
    (s.pieceDone? id status detail).rstat = s.rstat := by
  unfold State.pieceDone?; split <;> simp

@[simp] theorem State.bufWrite_frame (s : State) (b : Buf) (d : Bytes) :
  (s.bufWrite b d).pending = s.pending ∧ (s.bufWrite b d).sys = s.sys ∧ (s.bufWrite b d).sec = s.sec ∧ (s.bufWrite b d).time = s.time ∧
    (s.bufWrite b d).mbx = s.mbx ∧ (s.bufWrite b d).host = s.host ∧ (s.bufWrite b d).mir = s.mir ∧ (s.bufWrite b d).hier = s.hier ∧
    (s.bufWrite b d).perf = s.perf ∧ (s.bufWrite b d).trace = s.trace ∧ (s.bufWrite b d).scene = s.scene ∧
    (s.bufWrite b d).prism = s.prism ∧ (s.bufWrite b d).ddrc = s.ddrc ∧ (s.bufWrite b d).xbar = s.xbar ∧
    (s.bufWrite b d).sched = s.sched ∧ (s.bufWrite b d).lens = s.lens ∧ (s.bufWrite b d).meas = s.meas ∧
    (s.bufWrite b d).ports = s.ports ∧ (s.bufWrite b d).net = s.net ∧ (s.bufWrite b d).pipe = s.pipe ∧ (s.bufWrite b d).regs = s.regs ∧
    (s.bufWrite b d).flash = s.flash ∧ (s.bufWrite b d).freeCnt = s.freeCnt ∧ (s.bufWrite b d).rdata = s.rdata ∧
    (s.bufWrite b d).rstat = s.rstat ∧ (∀ a, (s.bufWrite b d).rd a = s.rd a) := by
  unfold State.bufWrite; split <;> simp

@[simp] theorem State.claim_frame (s : State) (r fn : Nat) :
  (s.claim r fn).pending = s.pending ∧ (s.claim r fn).sys = s.sys ∧ (s.claim r fn).sec = s.sec ∧ (s.claim r fn).time = s.time ∧
    (s.claim r fn).host = s.host ∧ (s.claim r fn).mir = s.mir ∧ (s.claim r fn).hier = s.hier ∧ (s.claim r fn).perf = s.perf ∧
    (s.claim r fn).trace = s.trace ∧ (s.claim r fn).scene = s.scene ∧ (s.claim r fn).prism = s.prism ∧ (s.claim r fn).ddrc = s.ddrc ∧
    (s.claim r fn).xbar = s.xbar ∧ (s.claim r fn).sched = s.sched ∧ (s.claim r fn).lens = s.lens ∧ (s.claim r fn).meas = s.meas ∧
    (s.claim r fn).ports = s.ports ∧ (s.claim r fn).net = s.net ∧ (s.claim r fn).pipe = s.pipe ∧ (s.claim r fn).regs = s.regs ∧
    (s.claim r fn).mem = s.mem ∧ (s.claim r fn).hostMem = s.hostMem ∧ (s.claim r fn).flash = s.flash ∧
    (s.claim r fn).freeCnt = s.freeCnt ∧ (s.claim r fn).rdata = s.rdata ∧ (s.claim r fn).rstat = s.rstat ∧
    (∀ a, (s.claim r fn).rd a = s.rd a) := by
  exact ⟨rfl, rfl, rfl, rfl, rfl, rfl, rfl, rfl, rfl, rfl, rfl, rfl, rfl, rfl, rfl, rfl, rfl, rfl, rfl, rfl, rfl, rfl, rfl, rfl, rfl, rfl, fun a => State.rd_congr (s := s) (t := s.claim r fn) rfl a⟩

@[simp] theorem State.setObj_frame (s : State) (j : Nat) (o : Obj) :
  (s.setObj j o).pending = s.pending ∧ (s.setObj j o).sys = s.sys ∧ (s.setObj j o).sec = s.sec ∧ (s.setObj j o).time = s.time ∧
    (s.setObj j o).mbx = s.mbx ∧ (s.setObj j o).host = s.host ∧ (s.setObj j o).mir = s.mir ∧ (s.setObj j o).hier = s.hier ∧
    (s.setObj j o).perf = s.perf ∧ (s.setObj j o).trace = s.trace ∧ (s.setObj j o).prism = s.prism ∧ (s.setObj j o).ddrc = s.ddrc ∧
    (s.setObj j o).xbar = s.xbar ∧ (s.setObj j o).sched = s.sched ∧ (s.setObj j o).lens = s.lens ∧ (s.setObj j o).meas = s.meas ∧
    (s.setObj j o).ports = s.ports ∧ (s.setObj j o).net = s.net ∧ (s.setObj j o).pipe = s.pipe ∧ (s.setObj j o).regs = s.regs ∧
    (s.setObj j o).mem = s.mem ∧ (s.setObj j o).hostMem = s.hostMem ∧ (s.setObj j o).flash = s.flash ∧
    (s.setObj j o).freeCnt = s.freeCnt ∧ (s.setObj j o).rdata = s.rdata ∧ (s.setObj j o).rstat = s.rstat ∧
    (∀ a, (s.setObj j o).rd a = s.rd a) := by
  exact ⟨rfl, rfl, rfl, rfl, rfl, rfl, rfl, rfl, rfl, rfl, rfl, rfl, rfl, rfl, rfl, rfl, rfl, rfl, rfl, rfl, rfl, rfl, rfl, rfl, rfl, rfl, fun a => State.rd_congr (s := s) (t := s.setObj j o) rfl a⟩

@[simp] theorem State.sceneCnt_frame (s : State) (i n : Nat) :
  (s.sceneCnt i n).pending = s.pending ∧ (s.sceneCnt i n).sys = s.sys ∧ (s.sceneCnt i n).sec = s.sec ∧ (s.sceneCnt i n).time = s.time ∧
    (s.sceneCnt i n).mbx = s.mbx ∧ (s.sceneCnt i n).host = s.host ∧ (s.sceneCnt i n).mir = s.mir ∧ (s.sceneCnt i n).hier = s.hier ∧
    (s.sceneCnt i n).perf = s.perf ∧ (s.sceneCnt i n).trace = s.trace ∧ (s.sceneCnt i n).prism = s.prism ∧
    (s.sceneCnt i n).ddrc = s.ddrc ∧ (s.sceneCnt i n).xbar = s.xbar ∧ (s.sceneCnt i n).sched = s.sched ∧ (s.sceneCnt i n).lens = s.lens ∧
    (s.sceneCnt i n).meas = s.meas ∧ (s.sceneCnt i n).ports = s.ports ∧ (s.sceneCnt i n).net = s.net ∧ (s.sceneCnt i n).pipe = s.pipe ∧
    (s.sceneCnt i n).regs = s.regs ∧ (s.sceneCnt i n).mem = s.mem ∧ (s.sceneCnt i n).hostMem = s.hostMem ∧
    (s.sceneCnt i n).flash = s.flash ∧ (s.sceneCnt i n).freeCnt = s.freeCnt ∧ (s.sceneCnt i n).rdata = s.rdata ∧
    (s.sceneCnt i n).rstat = s.rstat ∧ (∀ a, (s.sceneCnt i n).rd a = s.rd a) := by
  exact ⟨rfl, rfl, rfl, rfl, rfl, rfl, rfl, rfl, rfl, rfl, rfl, rfl, rfl, rfl, rfl, rfl, rfl, rfl, rfl, rfl, rfl, rfl, rfl, rfl, rfl, rfl, fun a => State.rd_congr (s := s) (t := s.sceneCnt i n) rfl a⟩

/-- Only TRACE_INT_STATUS may change with a trace record. -/
theorem State.rd_traceLose (s : State) {a : Nat} (h : a ≠ Reg.TRACE_INT_STATUS) : s.traceLose.rd a = s.rd a := by
  unfold State.traceLose State.raise State.setFld
  simp only [State.perfAdd_frame, State.rd_wr_other _ _ h, State.onTrace_frame]

end Sys2Proof.Machine
end

