-- ==== Sys2Proof/Laws/Mailbox.lean ====
section
/-! SUPPORT. The mailbox: what taking a command and writing a response leave alone, and that a served command comes to its body. -/

namespace Sys2Proof.Machine

@[simp] theorem State.setSlot_frame (s : State) (n : Nat) (v : Slot) :
  (s.setSlot n v).pending = s.pending ∧ (s.setSlot n v).sys = s.sys ∧ (s.setSlot n v).sec = s.sec ∧ (s.setSlot n v).time = s.time ∧
    (s.setSlot n v).host = s.host ∧ (s.setSlot n v).mir = s.mir ∧ (s.setSlot n v).hier = s.hier ∧ (s.setSlot n v).perf = s.perf ∧
    (s.setSlot n v).trace = s.trace ∧ (s.setSlot n v).scene = s.scene ∧ (s.setSlot n v).prism = s.prism ∧ (s.setSlot n v).ddrc = s.ddrc ∧
    (s.setSlot n v).xbar = s.xbar ∧ (s.setSlot n v).sched = s.sched ∧ (s.setSlot n v).lens = s.lens ∧ (s.setSlot n v).meas = s.meas ∧
    (s.setSlot n v).ports = s.ports ∧ (s.setSlot n v).net = s.net ∧ (s.setSlot n v).pipe = s.pipe ∧ (s.setSlot n v).regs = s.regs ∧
    (s.setSlot n v).mem = s.mem ∧ (s.setSlot n v).hostMem = s.hostMem ∧ (s.setSlot n v).flash = s.flash ∧
    (s.setSlot n v).freeCnt = s.freeCnt ∧ (s.setSlot n v).rdata = s.rdata ∧ (s.setSlot n v).rstat = s.rstat ∧
    (∀ a, (s.setSlot n v).rd a = s.rd a) := by
  exact ⟨rfl, rfl, rfl, rfl, rfl, rfl, rfl, rfl, rfl, rfl, rfl, rfl, rfl, rfl, rfl, rfl, rfl, rfl, rfl, rfl, rfl, rfl, rfl, rfl, rfl, rfl, fun a => State.rd_congr (s := s) (t := s.setSlot n v) rfl a⟩

@[simp] theorem State.taken_frame (s : State) (h : Hdr) (op : Nat) :
  (s.taken h op).pending = s.pending ∧ (s.taken h op).sys = s.sys ∧ (s.taken h op).sec = s.sec ∧ (s.taken h op).time = s.time ∧
    (s.taken h op).mbx = s.mbx ∧ (s.taken h op).host = s.host ∧ (s.taken h op).mir = s.mir ∧ (s.taken h op).hier = s.hier ∧
    (s.taken h op).scene = s.scene ∧ (s.taken h op).prism = s.prism ∧ (s.taken h op).ddrc = s.ddrc ∧ (s.taken h op).xbar = s.xbar ∧
    (s.taken h op).sched = s.sched ∧ (s.taken h op).lens = s.lens ∧ (s.taken h op).meas = s.meas ∧ (s.taken h op).ports = s.ports ∧
    (s.taken h op).net = s.net ∧ (s.taken h op).pipe = s.pipe ∧ (s.taken h op).hostMem = s.hostMem ∧ (s.taken h op).flash = s.flash ∧
    (s.taken h op).rdata = s.rdata ∧ (s.taken h op).rstat = s.rstat := by
  unfold State.taken; simp

@[simp] theorem State.putResponse_frame (s : State) (h : Hdr) (op status : Nat) (bytes : Bytes) (keep : Slot → Option SlotRec) :
  (s.putResponse h op status bytes keep).pending = s.pending ∧ (s.putResponse h op status bytes keep).sys = s.sys ∧
    (s.putResponse h op status bytes keep).sec = s.sec ∧ (s.putResponse h op status bytes keep).time = s.time ∧
    (s.putResponse h op status bytes keep).mir = s.mir ∧ (s.putResponse h op status bytes keep).hier = s.hier ∧
    (s.putResponse h op status bytes keep).scene = s.scene ∧ (s.putResponse h op status bytes keep).prism = s.prism ∧
    (s.putResponse h op status bytes keep).ddrc = s.ddrc ∧ (s.putResponse h op status bytes keep).xbar = s.xbar ∧
    (s.putResponse h op status bytes keep).sched = s.sched ∧ (s.putResponse h op status bytes keep).lens = s.lens ∧
    (s.putResponse h op status bytes keep).meas = s.meas ∧ (s.putResponse h op status bytes keep).ports = s.ports ∧
    (s.putResponse h op status bytes keep).net = s.net ∧ (s.putResponse h op status bytes keep).pipe = s.pipe ∧
    (s.putResponse h op status bytes keep).flash = s.flash ∧ (s.putResponse h op status bytes keep).rdata = s.rdata ∧
    (s.putResponse h op status bytes keep).rstat = s.rstat := by
  unfold State.putResponse; dsimp only; split <;> simp

@[simp] theorem State.respond_frame (s : State) (h : Hdr) (op : Nat) (p : Bytes) (r : Resp) :
  (s.respond h op p r).pending = s.pending ∧ (s.respond h op p r).sys = s.sys ∧ (s.respond h op p r).sec = s.sec ∧
    (s.respond h op p r).time = s.time ∧ (s.respond h op p r).mir = s.mir ∧ (s.respond h op p r).hier = s.hier ∧
    (s.respond h op p r).scene = s.scene ∧ (s.respond h op p r).prism = s.prism ∧ (s.respond h op p r).ddrc = s.ddrc ∧
    (s.respond h op p r).xbar = s.xbar ∧ (s.respond h op p r).sched = s.sched ∧ (s.respond h op p r).lens = s.lens ∧
    (s.respond h op p r).meas = s.meas ∧ (s.respond h op p r).ports = s.ports ∧ (s.respond h op p r).net = s.net ∧
    (s.respond h op p r).pipe = s.pipe ∧ (s.respond h op p r).flash = s.flash ∧ (s.respond h op p r).rdata = s.rdata ∧
    (s.respond h op p r).rstat = s.rstat := by
  unfold State.respond; simp

@[simp] theorem State.respondUnrecorded_frame (s : State) (h : Hdr) (op : Nat) (r : Resp) :
  (s.respondUnrecorded h op r).pending = s.pending ∧ (s.respondUnrecorded h op r).sys = s.sys ∧
    (s.respondUnrecorded h op r).sec = s.sec ∧ (s.respondUnrecorded h op r).time = s.time ∧ (s.respondUnrecorded h op r).mir = s.mir ∧
    (s.respondUnrecorded h op r).hier = s.hier ∧ (s.respondUnrecorded h op r).scene = s.scene ∧
    (s.respondUnrecorded h op r).prism = s.prism ∧ (s.respondUnrecorded h op r).ddrc = s.ddrc ∧
    (s.respondUnrecorded h op r).xbar = s.xbar ∧ (s.respondUnrecorded h op r).sched = s.sched ∧
    (s.respondUnrecorded h op r).lens = s.lens ∧ (s.respondUnrecorded h op r).meas = s.meas ∧
    (s.respondUnrecorded h op r).ports = s.ports ∧ (s.respondUnrecorded h op r).net = s.net ∧
    (s.respondUnrecorded h op r).pipe = s.pipe ∧ (s.respondUnrecorded h op r).flash = s.flash ∧
    (s.respondUnrecorded h op r).rdata = s.rdata ∧ (s.respondUnrecorded h op r).rstat = s.rstat := by
  unfold State.respondUnrecorded; simp

@[simp] theorem State.answerBooting_frame (s : State) (h : Hdr) (op : Nat) :
  (s.answerBooting h op).pending = s.pending ∧ (s.answerBooting h op).sys = s.sys ∧ (s.answerBooting h op).sec = s.sec ∧
    (s.answerBooting h op).time = s.time ∧ (s.answerBooting h op).mir = s.mir ∧ (s.answerBooting h op).hier = s.hier ∧
    (s.answerBooting h op).scene = s.scene ∧ (s.answerBooting h op).prism = s.prism ∧ (s.answerBooting h op).ddrc = s.ddrc ∧
    (s.answerBooting h op).xbar = s.xbar ∧ (s.answerBooting h op).sched = s.sched ∧ (s.answerBooting h op).lens = s.lens ∧
    (s.answerBooting h op).meas = s.meas ∧ (s.answerBooting h op).ports = s.ports ∧ (s.answerBooting h op).net = s.net ∧
    (s.answerBooting h op).pipe = s.pipe ∧ (s.answerBooting h op).flash = s.flash ∧ (s.answerBooting h op).rdata = s.rdata ∧
    (s.answerBooting h op).rstat = s.rstat := by
  unfold State.answerBooting; simp

@[simp] theorem State.hold_frame (s : State) (h : Hdr) (op : Nat) (p : Bytes) :
  (s.hold h op p).pending = s.pending ∧ (s.hold h op p).sys = s.sys ∧ (s.hold h op p).sec = s.sec ∧ (s.hold h op p).time = s.time ∧
    (s.hold h op p).host = s.host ∧ (s.hold h op p).mir = s.mir ∧ (s.hold h op p).hier = s.hier ∧ (s.hold h op p).perf = s.perf ∧
    (s.hold h op p).trace = s.trace ∧ (s.hold h op p).scene = s.scene ∧ (s.hold h op p).prism = s.prism ∧ (s.hold h op p).ddrc = s.ddrc ∧
    (s.hold h op p).xbar = s.xbar ∧ (s.hold h op p).sched = s.sched ∧ (s.hold h op p).lens = s.lens ∧ (s.hold h op p).meas = s.meas ∧
    (s.hold h op p).ports = s.ports ∧ (s.hold h op p).net = s.net ∧ (s.hold h op p).pipe = s.pipe ∧ (s.hold h op p).regs = s.regs ∧
    (s.hold h op p).mem = s.mem ∧ (s.hold h op p).hostMem = s.hostMem ∧ (s.hold h op p).flash = s.flash ∧
    (s.hold h op p).freeCnt = s.freeCnt ∧ (s.hold h op p).rdata = s.rdata ∧ (s.hold h op p).rstat = s.rstat ∧
    (∀ a, (s.hold h op p).rd a = s.rd a) := by
  unfold State.hold; simp

/-- Taking a command changes nothing but counters, trace, free values, registers and memory. -/
theorem State.taken_shape (s : State) (h : Hdr) (op : Nat) :
    ∃ a b c d e, s.taken h op = { s with perf := a, freeCnt := b, trace := c, regs := d, mem := e } := by
  refine ⟨(s.taken h op).perf, (s.taken h op).freeCnt, (s.taken h op).trace, (s.taken h op).regs, (s.taken h op).mem, ?_⟩
  have f := State.taken_frame s h op
  revert f
  generalize s.taken h op = t
  intro f
  cases t
  simp only at f
  simp only [f]

/-- A command that firmware serves, of the right length, comes to its own checks and effect (R390, R391). -/
theorem CmdDef.run_served (c : CmdDef) (h : Hdr) (p : Bytes) {s : State} (hs : s.Serves c.legal) (hl : c.len p = true)
    (hb : c.bulk p = false ∨ s.BulkRoom) : c.run h p s = c.finish h p (s.taken h c.op) := by
  obtain ⟨h1, h2, h3⟩ := hs
  have hh : c.holds (s.taken h c.op) = false := by
    simp only [CmdDef.holds, State.taken_frame]
    cases hm : s.sys.mode <;> simp_all
  have hi : c.legalIn (s.taken h c.op) = true := by simp [CmdDef.legalIn, h3]
  have hk : (c.bulk p && decide (4 ≤ (s.taken h c.op).mbx.bulk.length)) = false := by
    rcases hb with hb | hb
    · simp [hb]
    · have : ¬ 4 ≤ s.mbx.bulk.length := by simpa [State.BulkRoom] using hb
      simp [this]
  have he : c.early h p (s.taken h c.op) = none := by
    simp only [CmdDef.early, hl, hh, hi, hk, Bool.not_true, Bool.false_eq_true, if_false]
  simp [CmdDef.run, he, h1, h2]

/-- What a command that answers in its own body comes to. -/
theorem CmdDef.finish_eq (c : CmdDef) (h : Hdr) (p : Bytes) {s t : State} {r : Resp} (hb : c.body h p s = (t, r)) (hr : r.status ≠ stPending) :
    c.finish h p s = t.respond h c.op p r := by
  unfold CmdDef.finish
  rw [hb]
  simp [hr]

/-- A served command, in one step. -/
theorem CmdDef.exec_served (c : CmdDef) (h : Hdr) (p : Bytes) {s t : State} {r : Resp} (hs : s.Serves c.legal) (hl : c.len p = true)
    (hb : c.bulk p = false ∨ s.BulkRoom) (hc : c.body h p (s.taken h c.op) = (t, r)) (hr : r.status ≠ stPending) :
    c.exec h p s = .next (t.respond h c.op p r) := by
  unfold CmdDef.exec
  rw [CmdDef.run_served c h p hs hl hb, CmdDef.finish_eq c h p hc hr]

/-- Entries that all pass their check let the command have its effect. -/
theorem checkedEntries_ok {s : State} {es : List Bytes} {bad : Nat → Bytes → Option Resp} {ok : State × Resp}
    (h : ∀ i, ∀ e ∈ es, bad i e = none) : checkedEntries s es bad ok = ok := by
  have : badEntry es bad = none := by
    unfold badEntry
    rw [List.findSome?_eq_none_iff]
    intro e he
    exact h e.1 e.2 (List.of_mem_zip he).2
  simp [checkedEntries, this]

/-- A list of checks of which none fails lets the command have its effect. -/
theorem checked_ok {s : State} {l : List (Bool × Resp)} {ok : State × Resp} (h : ∀ e ∈ l, e.1 = false) : checked s l ok = ok := by
  have : firstBad l = none := by
    unfold firstBad
    rw [Option.map_eq_none_iff, List.find?_eq_none]
    intro e he
    simp [h e he]
  simp [checked, this]

end Sys2Proof.Machine
end

