-- ==== Sys2Proof/Laws/Answers.lean ====
section
/-! SUPPORT. What a trace record, an interrupt message, an event and a response leave alone: registers by address, memory by address. -/

namespace Sys2Proof.Machine

/-! ### Bytes -/

@[simp] theorem leBytes_length (n v : Nat) : (leBytes n v).length = n := by
  induction n generalizing v with
  | zero => rfl
  | succ n ih => simp [leBytes, ih]

@[simp] theorem fitBytes_length (n : Nat) (b : Bytes) : (fitBytes n b).length = n := by
  unfold fitBytes zeros; simp; omega

@[simp] theorem State.traceBytes_length (s : State) (k : Nat) (b : Bytes) : (s.traceBytes k b).length = 16 := by
  simp [State.traceBytes, le32, le8]

theorem mread_congr {m m' : List Host.Cell} {a n : Nat} (h : ∀ i, i < n → mget m (a + i) = mget m' (a + i)) : mread m a n = mread m' a n := by
  induction n generalizing a with
  | zero => rfl
  | succ n ih =>
    simp only [mread]
    rw [show mget m a = mget m' a from h 0 (by omega), ih (a := a + 1)]
    intro i hi
    have := h (i + 1) (by omega)
    rwa [show a + 1 + i = a + (i + 1) by omega]

/-! ### Trace records -/

/-- t differs from s, of what is read by address, only in TRACE_INT_STATUS and in the trace buffer. -/
def State.Traced (s t : State) : Prop :=
  (∀ a, a ≠ Reg.TRACE_INT_STATUS → t.rd a = s.rd a) ∧ t.trace.bufUnit = s.trace.bufUnit ∧ t.trace.bufUnits = s.trace.bufUnits ∧
    ∀ a, ¬ s.traceOwns a → mget t.mem a = mget s.mem a

theorem State.Traced.cap {s t : State} (h : s.Traced t) : t.traceCap = s.traceCap := by
  unfold State.traceCap State.fld; rw [h.1 _ (by decide)]

theorem State.Traced.owns {s t : State} (h : s.Traced t) (a : Nat) : t.traceOwns a = s.traceOwns a := by
  unfold State.traceOwns; rw [h.cap, h.2.1, h.2.2.1]

theorem State.Traced.refl (s : State) : s.Traced s := ⟨fun _ _ => rfl, rfl, rfl, fun _ _ => rfl⟩

theorem State.Traced.trans {s t u : State} (h : s.Traced t) (k : t.Traced u) : s.Traced u :=
  ⟨fun a ha => (k.1 a ha).trans (h.1 a ha), k.2.1.trans h.2.1, k.2.2.1.trans h.2.2.1,
    fun a ha => (k.2.2.2 a (by rwa [h.owns])).trans (h.2.2.2 a ha)⟩

/-- A change of neither registers nor memory nor the place of the buffer. -/
theorem State.Traced.of_eq {s t : State} (h : t.regs = s.regs) (h1 : t.trace.bufUnit = s.trace.bufUnit)
    (h2 : t.trace.bufUnits = s.trace.bufUnits) (h3 : t.mem = s.mem) : s.Traced t :=
  ⟨fun a _ => State.rd_congr h a, h1, h2, fun _ _ => by rw [h3]⟩

theorem State.tailPut_traced (s : State) (r : Bytes) : s.Traced (s.tailPut r) := by
  refine .of_eq (by simp) ?_ ?_ (by simp) <;> simp [State.tailPut]

theorem State.traceLose_traced (s : State) : s.Traced s.traceLose := by
  refine ⟨fun a ha => State.rd_traceLose s ha, ?_, ?_, by simp⟩ <;> simp [State.traceLose]

theorem State.bufStore_traced (s : State) (r : Bytes) (hr : r.length = 16) (hb : s.trace.bufUnits ≠ 0) : s.Traced (s.bufStore r) := by
  unfold State.bufStore
  extract_lets cap a s1 s2
  split
  · exact s.traceLose_traced
  · have hm : ∀ i, ¬ s.traceOwns i → mget (mwrite s.mem a r) i = mget s.mem i := by
      intro i hi
      refine mget_mwrite_other s.mem r ?_
      rw [hr]
      simp only [State.traceOwns, hb, ne_eq, not_false_eq_true, true_and, not_or, not_and, Nat.not_lt] at hi
      simp only [a]
      by_cases h : unitAddr s.trace.bufUnit ≤ i
      · obtain ⟨h0, h1⟩ := hi h
        have hc : s.trace.written % cap < cap := Nat.mod_lt _ (Nat.pos_of_ne_zero h0)
        right; simp only [cap] at hc ⊢; omega
      · left; omega
    have h2 : s.Traced s2 := ⟨fun i _ => by simp [s2, s1], by simp [s2, s1], by simp [s2, s1], fun i hi => by simpa [s2, s1] using hm i hi⟩
    split
    · refine h2.trans ⟨fun i hi => ?_, ?_, ?_, ?_⟩
      · simp [State.raise, State.setFld, State.rd_wr_other _ _ hi]
      all_goals simp
    · exact h2

theorem State.bufPut_traced (s : State) (r : Bytes) (hr : r.length = 16) (hb : s.trace.bufUnits ≠ 0) : s.Traced (s.bufPut r) := by
  unfold State.bufPut
  split
  · exact s.traceLose_traced
  · exact (s.tailPut_traced r).trans (State.bufStore_traced _ r hr (by rw [(s.tailPut_traced r).2.2.1]; exact hb))

theorem State.fifoPut_traced (s : State) (r : Bytes) (hr : r.length = 16) : s.Traced (s.fifoPut r) := by
  unfold State.fifoPut
  split
  · rename_i h; exact s.bufPut_traced r hr h.1
  · split
    · exact State.Traced.trans (.of_eq (by simp) (by simp) (by simp) (by simp)) (State.tailPut_traced _ r)
    · exact s.traceLose_traced

/-- A trace record changes, of what is read by address, only TRACE_INT_STATUS and the trace buffer. -/
theorem State.traceRec_traced (s : State) (src kind : Nat) (body : Bytes) : s.Traced (s.traceRec src kind body) := by
  unfold State.traceRec
  extract_lets r s1 room s3
  have hr : r.length = 16 := by simp [r]
  have h1 : s.Traced s1 := .of_eq (by simp [s1]) (by simp [s1]) (by simp [s1]) (by simp [s1])
  split
  · have h3 : s1.Traced s3 := by
      simp only [s3]
      split
      · exact State.Traced.trans (.of_eq (by simp) (by simp) (by simp) (by simp)) (State.fifoPut_traced _ _ (by simp))
      · exact .refl _
    exact (h1.trans h3).trans (State.fifoPut_traced _ _ hr)
  · split
    · exact h1.trans (State.tailPut_traced _ _)
    · exact h1

/-! ### Responses and events -/

/-- t differs from s only as an answer in a slot may make it differ: of what is read by address, in the registers listed and in the bytes an
answer of n bytes may change; of the mailbox, in that slot and in the state of the event ring; of the host interface, in its vectors. -/
def State.Answered (l : List Nat) (slot n : Nat) (s t : State) : Prop :=
  (∀ a, a ∉ l → t.rd a = s.rd a) ∧ (∀ a, ¬ s.answerOwns slot n a → mget t.mem a = mget s.mem a) ∧ (∀ k, k ≠ slot → t.slot k = s.slot k) ∧
    (∀ a, t.answerOwns slot n a → s.answerOwns slot n a) ∧
    { t.mbx with slots := [], lastEvents := [], lostBefore := false, evSeq := 0 } =
      { s.mbx with slots := [], lastEvents := [], lostBefore := false, evSeq := 0 } ∧
    { t.host with pba := 0, vectors := [] } = { s.host with pba := 0, vectors := [] }

theorem State.Answered.refl (l : List Nat) (slot n : Nat) (s : State) : s.Answered l slot n s :=
  ⟨fun _ _ => rfl, fun _ _ => rfl, fun _ _ => rfl, fun _ h => h, rfl, rfl⟩

theorem State.Answered.trans {l : List Nat} {slot n : Nat} {s t u : State} (h : s.Answered l slot n t) (k : t.Answered l slot n u) :
    s.Answered l slot n u :=
  ⟨fun a ha => (k.1 a ha).trans (h.1 a ha), fun a ha => (k.2.1 a (fun h2 => ha (h.2.2.2.1 a h2))).trans (h.2.1 a ha),
    fun a ha => (k.2.2.1 a ha).trans (h.2.2.1 a ha), fun a ha => h.2.2.2.1 a (k.2.2.2.1 a ha), k.2.2.2.2.1.trans h.2.2.2.2.1,
    k.2.2.2.2.2.trans h.2.2.2.2.2⟩

/-- A change of registers of the list alone, and of nothing else that an answer is held to. -/
theorem State.Answered.of_regs {l : List Nat} {s t : State} (slot n : Nat) (hl : Reg.TRACE_SIZE ∉ l) (h : ∀ a, a ∉ l → t.rd a = s.rd a)
    (h1 : t.mem = s.mem) (h2 : t.mbx = s.mbx) (h3 : t.host = s.host) (h4 : t.trace = s.trace) (h5 : t.sys = s.sys) :
    s.Answered l slot n t := by
  have hc : t.traceCap = s.traceCap := by unfold State.traceCap State.fld; rw [h _ hl]
  refine ⟨h, fun a _ => by rw [h1], fun k _ => by unfold State.slot; rw [h2], fun a ha => ?_, by rw [h2], by rw [h3]⟩
  unfold State.answerOwns State.traceOwns at ha ⊢
  rwa [hc, h4, h5] at ha

theorem State.Traced.answered {l : List Nat} {s t : State} (slot n : Nat) (h : s.Traced t) (hl : Reg.TRACE_INT_STATUS ∈ l)
    (h2 : t.mbx = s.mbx) (h3 : t.host = s.host) (h5 : t.sys = s.sys) : s.Answered l slot n t := by
  refine ⟨fun a ha => h.1 a (fun e => ha (e ▸ hl)), fun a ha => h.2.2.2 a (fun hb => ha (.inr (.inl hb))),
    fun k _ => by unfold State.slot; rw [h2], fun a ha => ?_, by rw [h2], by rw [h3]⟩
  unfold State.answerOwns at ha ⊢
  rwa [h.owns, h5] at ha

/-- The registers an event may change. -/
def eventRegs : List Nat := [Reg.MBX_CNT 6, Reg.MBX_EVR_PROD, Reg.MBX_INT_STATUS, Reg.TRACE_INT_STATUS]

theorem State.signal_answered (s : State) (l : List Nat) (slot n v : Nat) : s.Answered l slot n (s.signal v) := by
  refine ⟨fun a _ => by simp, fun a _ => by simp, fun k _ => by simp [State.slot], fun a ha => ?_, by simp, ?_⟩
  · simpa [State.answerOwns, State.traceOwns, State.traceCap, State.fld] using ha
  · unfold State.signal; repeat' split
    all_goals simp

theorem State.ringWrite_answered (s : State) (l : List Nat) (slot n i : Nat) (r : Bytes) (hi : s.sys.straps.hostIf = true → i < 512)
    (hr : r.length = 32) : s.Answered l slot n (s.ringWrite i r) := by
  refine ⟨fun a _ => by simp, fun a ha => ?_, fun k _ => by simp [State.slot], fun a ha => ?_, by simp, by simp⟩
  · unfold State.ringWrite
    split
    · rename_i h
      have := hi h
      simp only [State.answerOwns, h, true_and, not_or, not_and, Nat.not_lt] at ha
      rw [State.withMem_mem, mget_mwrite_other _ _ (by omega)]
    · simp
  · simpa [State.answerOwns, State.traceOwns, State.traceCap, State.fld] using ha

theorem State.onMbx_answered (s : State) (l : List Nat) (slot n : Nat) (f : Mbx → Mbx)
    (h : { f s.mbx with slots := [], lastEvents := [], lostBefore := false, evSeq := 0 } =
      { s.mbx with slots := [], lastEvents := [], lostBefore := false, evSeq := 0 })
    (hs : ∀ k, k ≠ slot → tget Slot.init (f s.mbx).slots k = tget Slot.init s.mbx.slots k) : s.Answered l slot n (s.onMbx f) := by
  refine ⟨fun a _ => by simp, fun a _ => by simp, fun k hk => by simpa [State.slot] using hs k hk, fun a ha => ?_, by simpa using h, by simp⟩
  simpa [State.answerOwns, State.traceOwns, State.traceCap, State.fld] using ha

theorem State.perfAdd_answered (s : State) (l : List Nat) (slot n i k : Nat) : s.Answered l slot n (s.perfAdd i k) := by
  refine ⟨fun a _ => by simp, fun a _ => by simp, fun k _ => by simp [State.slot], fun a ha => ?_, by simp, by simp⟩
  simpa [State.answerOwns, State.traceOwns, State.traceCap, State.fld] using ha

theorem State.wr_answered (s : State) {l : List Nat} (slot n : Nat) {a : Nat} (v : Nat) (hl : Reg.TRACE_SIZE ∉ l) (ha : a ∈ l) :
    s.Answered l slot n (s.wr a v) :=
  .of_regs slot n hl (fun _ hb => State.rd_wr_other s v (fun e => hb (e ▸ ha))) (by simp) (by simp) (by simp) (by simp) (by simp)

theorem State.setFld_answered (s : State) {l : List Nat} (slot n : Nat) {a : Nat} (hi lo v : Nat) (hl : Reg.TRACE_SIZE ∉ l) (ha : a ∈ l) :
    s.Answered l slot n (s.setFld a hi lo v) := by
  unfold State.setFld; exact s.wr_answered slot n _ hl ha

theorem State.raise_answered (s : State) {l : List Nat} (slot n : Nat) {a : Nat} (k : Nat) (hl : Reg.TRACE_SIZE ∉ l) (ha : a ∈ l) :
    s.Answered l slot n (s.raise a k) := by
  unfold State.raise; exact s.setFld_answered slot n _ _ _ hl ha

theorem State.bump_answered (s : State) {l : List Nat} (slot n : Nat) {a : Nat} (k : Nat) (hl : Reg.TRACE_SIZE ∉ l) (ha : a ∈ l) :
    s.Answered l slot n (s.bump a k) := by
  unfold State.bump; split
  · exact .refl _ _ _ _
  · exact s.wr_answered slot n _ hl ha

theorem State.traceRec_answered (s : State) {l : List Nat} (slot n src kind : Nat) (body : Bytes) (hl : Reg.TRACE_INT_STATUS ∈ l) :
    s.Answered l slot n (s.traceRec src kind body) :=
  (s.traceRec_traced src kind body).answered slot n hl (by simp) (by simp) (by simp)

/-- An event changes, of what is read by address, only its registers, the trace buffer and the event ring. -/
theorem State.postRaw_answered (s : State) {l : List Nat} (slot n code group flags op status tag : Nat) (detail : Bytes)
    (hl : Reg.TRACE_SIZE ∉ l) (hk : ∀ a ∈ eventRegs, a ∈ l) : s.Answered l slot n (s.postRaw code group flags op status tag detail) := by
  have m1 : Reg.MBX_CNT 6 ∈ l := hk _ (by simp [eventRegs])
  have m2 : Reg.MBX_EVR_PROD ∈ l := hk _ (by simp [eventRegs])
  have m3 : Reg.MBX_INT_STATUS ∈ l := hk _ (by simp [eventRegs])
  have m4 : Reg.TRACE_INT_STATUS ∈ l := hk _ (by simp [eventRegs])
  unfold State.postRaw
  split
  · exact .refl _ _ _ _
  · extract_lets r s1 prod used s2 s3
    have h1 : s.Answered l slot n s1 := State.onMbx_answered _ _ _ _ _ rfl (fun _ _ => rfl)
    refine h1.trans ?_
    split
    · exact ((State.onMbx_answered _ _ _ _ _ rfl (fun _ _ => rfl)).trans (State.bump_answered _ _ _ _ hl m1)).trans
        (State.perfAdd_answered _ _ _ _ _ _)
    · have hr : r.length = 32 := by simp [r, le8, le16, le32, le64]
      have h2 : s1.Answered l slot n s2 := by
        refine (State.ringWrite_answered s1 l slot n _ r (fun h => ?_) hr).trans (State.wr_answered _ _ _ _ hl m2)
        have : s1.ringSize = 512 := by simp [State.ringSize, h]
        rw [this]; exact Nat.mod_lt _ (by decide)
      have h3 : s2.Answered l slot n s3 := State.onMbx_answered _ _ _ _ _ rfl (fun _ _ => rfl)
      exact ((((h2.trans h3).trans (State.raise_answered _ _ _ _ hl m3)).trans (State.signal_answered _ _ _ _ _)).trans
        (State.perfAdd_answered _ _ _ _ _ _)).trans (State.traceRec_answered _ _ _ _ _ _ m4)

/-- Under SPI an event reaches no host memory. -/
theorem State.postRaw_hostMem (s : State) (code group flags op status tag : Nat) (detail : Bytes) (h : s.sys.straps.hostIf = true) :
    (s.postRaw code group flags op status tag detail).hostMem = s.hostMem := by
  unfold State.postRaw
  dsimp only
  split
  · rfl
  · split <;> simp [State.ringWrite, h]

/-- The registers that taking and answering a command may change. -/
def answerRegs : List Nat := [Reg.MBX_CNT 0, Reg.MBX_DONE] ++ eventRegs

theorem State.taken_answered (s : State) (h : Hdr) (op slot n : Nat) : s.Answered answerRegs slot n (s.taken h op) := by
  unfold State.taken
  exact ((State.bump_answered _ _ _ _ (by decide) (by decide)).trans (State.perfAdd_answered _ _ _ _ _ _)).trans
    (State.traceRec_answered _ _ _ _ _ _ (by decide))

theorem State.setSlot_answered (s : State) (l : List Nat) (slot n : Nat) (v : Slot) : s.Answered l slot n (s.setSlot slot v) :=
  State.onMbx_answered _ _ _ _ _ rfl (fun _ hk => tget_tset_other _ _ _ _ hk)

/-- What follows the bytes of a response once they and the slot's state are written, and DONE is set. -/
theorem State.afterDone_answered (s : State) {l : List Nat} (h : Hdr) (slot n op status : Nat) (hl : Reg.TRACE_SIZE ∉ l)
    (hk : ∀ a ∈ eventRegs, a ∈ l) :
    s.Answered l slot n (let s3 := s.signal h.slot
      let s4 := s3.traceRec 1 0x21 (le8 h.slot ++ le8 0 ++ le16 op ++ le16 status ++ le32 h.tag)
      if h.notify then s4.postRaw 0x0002 (op / 4096) 0 op status h.tag (le8 h.slot ++ le8 0 ++ le16 h.seq) else s4) := by
  dsimp only
  have h1 := (s.signal_answered l slot n h.slot).trans
    (State.traceRec_answered _ slot n 1 0x21 (le8 h.slot ++ le8 0 ++ le16 op ++ le16 status ++ le32 h.tag) (hk _ (by simp [eventRegs])))
  split
  · exact h1.trans (State.postRaw_answered _ _ _ _ _ _ _ _ _ _ hl hk)
  · exact h1

/-- A response changes, of what is read by address, only the registers of an answer and the bytes of an answer. -/
theorem State.putResponse_answered (s : State) (h : Hdr) (op status : Nat) (bytes : Bytes) (keep : Slot → Option SlotRec) :
    s.Answered answerRegs h.slot bytes.length (s.putResponse h op status bytes keep) := by
  unfold State.putResponse
  extract_lets s1 s2 s3 s4
  have h1 : s.Answered answerRegs h.slot bytes.length s1 := by
    refine ⟨fun a _ => by simp [s1], fun a ha => ?_, fun k _ => by simp [State.slot, s1], fun a ha => ?_, by simp [s1], by simp [s1]⟩
    · simp only [State.answerOwns, not_or, not_and, Nat.not_lt] at ha
      simp only [s1, State.withMem_mem]
      exact mget_mwrite_other _ _ (by omega)
    · simpa [State.answerOwns, State.traceOwns, State.traceCap, State.fld, s1] using ha
  have h2 : s1.Answered answerRegs h.slot bytes.length s2 := State.setSlot_answered _ _ _ _ _
  refine ((h1.trans h2).trans (State.raise_answered s2 h.slot _ (a := Reg.MBX_DONE) h.slot (by decide) (by decide))).trans ?_
  exact State.afterDone_answered (s2.raise Reg.MBX_DONE h.slot) h h.slot bytes.length op status (by decide) (by decide)

/-- The parts of a response: the slot is DONE with its record, MBX_DONE shows it, and its bytes lie in the response slot. -/
theorem State.putResponse_done (s : State) (h : Hdr) (op status : Nat) (bytes : Bytes) (keep : Slot → Option SlotRec) (hs : h.slot < 8)
    (hb : bytes.length ≤ 256) :
    (s.putResponse h op status bytes keep).slot h.slot = ⟨.done, false, keep (s.slot h.slot)⟩ ∧
      (s.putResponse h op status bytes keep).rd Reg.MBX_DONE = withBits (s.rd Reg.MBX_DONE) h.slot h.slot 1 % 2 ^ 32 ∧
      mread (s.putResponse h op status bytes keep).mem (rspSlotAddr h.slot) bytes.length = bytes := by
  unfold State.putResponse
  extract_lets s1 s2 s3 s4
  have h3 := State.afterDone_answered (l := eventRegs) (s2.raise Reg.MBX_DONE h.slot) h (h.slot + 1) 0 op status (by decide) (fun _ h => h)
  refine ⟨?_, ?_, ?_⟩
  · refine (h3.2.2.1 h.slot (by omega)).trans ?_
    simp [State.slot, s2, State.setSlot]
  · refine (h3.1 Reg.MBX_DONE (by decide)).trans ?_
    simp [State.raise, State.setFld, s2, s1]
  · refine (mread_congr fun i hi => (h3.2.1 _ ?_).trans (by simp [s2])).trans (by simp [s1] : mread s1.mem _ _ = _)
    simp only [State.answerOwns, State.traceOwns, unitAddr, rspSlotAddr]
    omega

@[simp] theorem slotBytes_length (op seq flags tag : Nat) (p : Bytes) : (slotBytes op seq flags tag p).length = 16 + p.length := by
  simp [slotBytes, le16, le32]; omega

end Sys2Proof.Machine
end

