-- ==== Sys2Proof/Laws/Facet.lean ====
section
/-! SUPPORT. Facet: what an issued instruction comes to. -/

namespace Sys2Proof.Machine

/-- An instruction that core n issues is executed by its item (R271, R287, R288). -/
theorem State.facetExec_issues {s : State} {n slot : Nat} {i : Item} {o : FOp} {t : FTask} {c : FCtx} (h : s.Issues n slot i o t c) :
    s.facetExec n o = s.facetOne n slot i t c (i.ctx.stall o) o := by
  obtain ⟨h1, h2, h3, h4, h5, h6, h7, h8, h9, h10⟩ := h
  unfold State.facetExec
  simp only [h1, h2, h3, h4]
  rw [if_pos (by simp)]
  unfold State.facetIssue
  simp only [← h5]
  rw [if_neg (by omega), if_neg, if_neg, if_neg]
  · rw [h10]
  · simp [h9]
  · rcases h8 with h | h <;> simp [h]
  · rcases h7 with h | h <;> simp [h]

/-- An instruction of classes 0x0 to 0x8 that raises no fault leaves the state that Executes names. -/
theorem State.facetExec_executes {s u : State} {n : Nat} {o : FOp} (hr : o.repeatable = true) (hi : o ≠ .illegal) (h : s.Executes n o u) :
    facetNext s n o = .next u := by
  obtain ⟨slot, i, t, c, s1, c1, cyc, h1, h2, h3⟩ := h
  unfold facetNext
  rw [State.facetExec_issues h1]
  cases o <;> first
    | exact absurd rfl hi
    | (simp [FOp.repeatable] at hr; done)
    | (simp only [State.facetOne, State.facetBasic]; rw [h2, h3])

/-- A far load of a word the task may read (R291, R471). -/
theorem State.farAccess_load {s : State} {n t : Nat} {c : FCtx} {a : LongArgs} {f : Far} (h1 : c.farAddr a % 4 = 0)
    (h2 : s.farMem t (c.farAddr a) = true ∨ s.farPerf (c.farAddr a) = true) (h3 : f.lasting = false) :
    s.farAccess n t c a f false = .ok ((s.farRead n (c.farAddr a)).1, c.writeReg (a.r % 32) (s.farRead n (c.farAddr a)).2) := by
  unfold State.farAccess
  generalize c.farAddr a = x at *
  have e : (x % 4 == 0 && (s.farMem t x || (!false && s.farPerf x))) = true := by
    rcases h2 with h2 | h2 <;> simp [h1, h2]
  simp only [e, h3]
  rfl

/-- A far store to a word the task may write (R291). -/
theorem State.farAccess_store {s : State} {n t : Nat} {c : FCtx} {a : LongArgs} {f : Far} (h1 : c.farAddr a % 4 = 0)
    (h2 : s.farMem t (c.farAddr a) = true) (h3 : f.lasting = false) :
    s.farAccess n t c a f true =
      .ok (s.withMem (mwrite s.mem (c.farAddr a) (le32 (c.readReg (a.r % 32)).1)), c.ss (c.readReg (a.r % 32)).2) := by
  unfold State.farAccess
  generalize c.farAddr a = x at *
  have e : (x % 4 == 0 && (s.farMem t x || (!true && s.farPerf x))) = true := by simp [h1, h2]
  simp only [e, h3]
  rfl

/-- FLD and FST as the outcome of their far access. -/
theorem State.facetLong_far (s : State) (n slot : Nat) (i : Item) (c : FCtx) (a : LongArgs) (f : Far) (k : Nat) (store : Bool) :
    s.facetLong n slot i c (if store then 4 else 3) a f k =
      match s.farAccess n (i.task.getD 0) c a f store with
      | .error e => s.facetFault n slot (i.spent (1 + k)) e
      | .ok (s1, c1) => s1.facetDone n slot i ({ c1 with flagsBy := 0 }.advance 2) (2 + f.wait + k) := by
  cases store <;> rfl

end Sys2Proof.Machine
end

