-- ==== Sys2Proof/Laws/Keeps.lean ====
section
/-! SUPPORT. Keeps: what no command of the block takes away, as one relation between the state before and the state after. Every operation of
the model has it, by one lemma each; a proof about every step cites these and unfolds nothing. -/

namespace Sys2Proof.Machine

/-- The fuses and the fitted parts, and the direction in which the anti-rollback floor may move. -/
structure Sec.Keeps (a b : Sec) : Prop where
  uniqueId : b.uniqueId = a.uniqueId
  keyHash : b.keyHash = a.keyHash
  keyRevoked : b.keyRevoked = a.keyRevoked
  debugState : b.debugState = a.debugState
  floor : a.floor ≤ b.floor

/-- The fitted parts, and the test state with no firmware in it. -/
structure Sys.Keeps (a b : Sys) : Prop where
  orderIL : b.orderIL = a.orderIL
  dram8 : b.dram8 = a.dram8
  phase : a.phase = .testMode → b.phase = .testMode
  firmware : a.phase = .testMode → b.fwRunning = true → a.fwRunning = true

/-- t keeps of s what no command takes away: the queue, the fuses, the floor at least, the canonical form of memories and registers, and the
test state. -/
structure State.Keeps (s t : State) : Prop where
  pending : t.pending = s.pending
  sec : s.sec.Keeps t.sec
  sys : s.sys.Keeps t.sys
  mem : memWf s.mem → memWf t.mem
  hostMem : memWf s.hostMem → memWf t.hostMem
  flash : memWf s.flash → memWf t.flash
  regs : tblWf regReset s.regs → tblWf regReset t.regs

theorem Sec.Keeps.refl (a : Sec) : a.Keeps a := ⟨rfl, rfl, rfl, rfl, Nat.le_refl _⟩

theorem Sys.Keeps.refl (a : Sys) : a.Keeps a := ⟨rfl, rfl, id, fun _ => id⟩

theorem State.Keeps.refl (s : State) : s.Keeps s := ⟨rfl, .refl _, .refl _, id, id, id, id⟩

theorem State.Keeps.trans {s t u : State} (h : s.Keeps t) (k : t.Keeps u) : s.Keeps u :=
  ⟨k.pending.trans h.pending,
    ⟨k.sec.uniqueId.trans h.sec.uniqueId, k.sec.keyHash.trans h.sec.keyHash, k.sec.keyRevoked.trans h.sec.keyRevoked,
      k.sec.debugState.trans h.sec.debugState, h.sec.floor.trans k.sec.floor⟩,
    ⟨k.sys.orderIL.trans h.sys.orderIL, k.sys.dram8.trans h.sys.dram8, fun e => k.sys.phase (h.sys.phase e),
      fun e f => h.sys.firmware e (k.sys.firmware (h.sys.phase e) f)⟩,
    fun w => k.mem (h.mem w), fun w => k.hostMem (h.hostMem w), fun w => k.flash (h.flash w), fun w => k.regs (h.regs w)⟩

/-- Out of the test state now means out of it before. -/
theorem State.Keeps.notTest {r0 s : State} (k0 : r0.Keeps s) (h : s.sys.phase ≠ .testMode) : r0.sys.phase ≠ .testMode :=
  fun e => h (k0.sys.phase e)

/-- The state of a pair. -/
theorem State.Keeps.of_pair {β : Type} {s a : State} {p : State × β} {b : β} (h : p = (a, b)) (k : s.Keeps p.1) : s.Keeps a := by
  subst h; exact k

/-- An outcome whose next state, if it answers one, keeps what no command takes away. -/
def State.KeepsNext (s : State) (o : Host.Outcome State Fault Refusal) : Prop := ∀ t, o = .next t → s.Keeps t

theorem State.KeepsNext.next {s t : State} (h : s.Keeps t) : s.KeepsNext (.next t) := by
  intro u hu
  injection hu with hu
  exact hu ▸ h

theorem State.KeepsNext.of {s t : State} {o : Host.Outcome State Fault Refusal} (h : s.KeepsNext o) (e : o = .next t) : s.Keeps t := h t e

/-! ### The updates of State -/

theorem State.onSys_keeps {s0 s : State} (k0 : s0.Keeps s) (f : Sys → Sys) (h : ∀ x : Sys, x.Keeps (f x)) : s0.Keeps (s.onSys f) :=
  k0.trans ⟨rfl, .refl _, h _, id, id, id, id⟩

/-- An update of the system control outside the test state, which may change the phase and start firmware. -/
theorem State.onSys_leaves {s0 s : State} (k0 : s0.Keeps s) (f : Sys → Sys) (h0 : s0.sys.phase ≠ .testMode)
    (h1 : ∀ x : Sys, (f x).orderIL = x.orderIL) (h2 : ∀ x : Sys, (f x).dram8 = x.dram8) : s0.Keeps (s.onSys f) :=
  ⟨k0.pending, k0.sec, ⟨(h1 _).trans k0.sys.orderIL, (h2 _).trans k0.sys.dram8, fun e => absurd e h0, fun e => absurd e h0⟩, k0.mem,
    k0.hostMem, k0.flash, k0.regs⟩

theorem State.onSec_keeps {s0 s : State} (k0 : s0.Keeps s) (f : Sec → Sec) (h : ∀ x : Sec, x.Keeps (f x)) : s0.Keeps (s.onSec f) :=
  k0.trans ⟨rfl, h _, .refl _, id, id, id, id⟩
theorem State.onTime_keeps {s0 s : State} (k0 : s0.Keeps s) (f : TimeSt → TimeSt) : s0.Keeps (s.onTime f) :=
  k0.trans ⟨rfl, .refl _, .refl _, id, id, id, id⟩
theorem State.onMbx_keeps {s0 s : State} (k0 : s0.Keeps s) (f : Mbx → Mbx) : s0.Keeps (s.onMbx f) :=
  k0.trans ⟨rfl, .refl _, .refl _, id, id, id, id⟩
theorem State.onHost_keeps {s0 s : State} (k0 : s0.Keeps s) (f : HostIf → HostIf) : s0.Keeps (s.onHost f) :=
  k0.trans ⟨rfl, .refl _, .refl _, id, id, id, id⟩
theorem State.onMir_keeps {s0 s : State} (k0 : s0.Keeps s) (f : Mirror → Mirror) : s0.Keeps (s.onMir f) :=
  k0.trans ⟨rfl, .refl _, .refl _, id, id, id, id⟩
theorem State.onHier_keeps {s0 s : State} (k0 : s0.Keeps s) (f : Hier → Hier) : s0.Keeps (s.onHier f) :=
  k0.trans ⟨rfl, .refl _, .refl _, id, id, id, id⟩
theorem State.onPerf_keeps {s0 s : State} (k0 : s0.Keeps s) (f : Perf → Perf) : s0.Keeps (s.onPerf f) :=
  k0.trans ⟨rfl, .refl _, .refl _, id, id, id, id⟩
theorem State.onTrace_keeps {s0 s : State} (k0 : s0.Keeps s) (f : Trace → Trace) : s0.Keeps (s.onTrace f) :=
  k0.trans ⟨rfl, .refl _, .refl _, id, id, id, id⟩
theorem State.onScene_keeps {s0 s : State} (k0 : s0.Keeps s) (f : Scene → Scene) : s0.Keeps (s.onScene f) :=
  k0.trans ⟨rfl, .refl _, .refl _, id, id, id, id⟩
theorem State.onPrism_keeps {s0 s : State} (k0 : s0.Keeps s) (f : Prism → Prism) : s0.Keeps (s.onPrism f) :=
  k0.trans ⟨rfl, .refl _, .refl _, id, id, id, id⟩
theorem State.onPipe_keeps {s0 s : State} (k0 : s0.Keeps s) (f : Pipe → Pipe) : s0.Keeps (s.onPipe f) :=
  k0.trans ⟨rfl, .refl _, .refl _, id, id, id, id⟩
theorem State.onDdrc_keeps {s0 s : State} (k0 : s0.Keeps s) (f : Ddrc → Ddrc) : s0.Keeps (s.onDdrc f) :=
  k0.trans ⟨rfl, .refl _, .refl _, id, id, id, id⟩
theorem State.onXbar_keeps {s0 s : State} (k0 : s0.Keeps s) (f : Xbar → Xbar) : s0.Keeps (s.onXbar f) :=
  k0.trans ⟨rfl, .refl _, .refl _, id, id, id, id⟩
theorem State.onSched_keeps {s0 s : State} (k0 : s0.Keeps s) (f : Sched → Sched) : s0.Keeps (s.onSched f) :=
  k0.trans ⟨rfl, .refl _, .refl _, id, id, id, id⟩
theorem State.onLens_keeps {s0 s : State} (k0 : s0.Keeps s) (f : Lens → Lens) : s0.Keeps (s.onLens f) :=
  k0.trans ⟨rfl, .refl _, .refl _, id, id, id, id⟩
theorem State.onMeas_keeps {s0 s : State} (k0 : s0.Keeps s) (f : Meas → Meas) : s0.Keeps (s.onMeas f) :=
  k0.trans ⟨rfl, .refl _, .refl _, id, id, id, id⟩
theorem State.onPorts_keeps {s0 s : State} (k0 : s0.Keeps s) (f : Ports → Ports) : s0.Keeps (s.onPorts f) :=
  k0.trans ⟨rfl, .refl _, .refl _, id, id, id, id⟩
theorem State.onNet_keeps {s0 s : State} (k0 : s0.Keeps s) (f : Net → Net) : s0.Keeps (s.onNet f) :=
  k0.trans ⟨rfl, .refl _, .refl _, id, id, id, id⟩
theorem State.withMem_keeps {s0 s : State} (k0 : s0.Keeps s) (m : List Host.Cell) (h : memWf s.mem → memWf m) : s0.Keeps (s.withMem m) :=
  k0.trans ⟨rfl, .refl _, .refl _, h, id, id, id⟩
theorem State.withHostMem_keeps {s0 s : State} (k0 : s0.Keeps s) (m : List Host.Cell) (h : memWf s.hostMem → memWf m) : s0.Keeps (s.withHostMem m) :=
  k0.trans ⟨rfl, .refl _, .refl _, id, h, id, id⟩
theorem State.withFlash_keeps {s0 s : State} (k0 : s0.Keeps s) (m : List Host.Cell) (h : memWf s.flash → memWf m) : s0.Keeps (s.withFlash m) :=
  k0.trans ⟨rfl, .refl _, .refl _, id, id, h, id⟩
theorem State.withRegs_keeps {s0 s : State} (k0 : s0.Keeps s) (m : Tbl Word) (h : tblWf regReset s.regs → tblWf regReset m) :
    s0.Keeps (s.withRegs m) :=
  k0.trans ⟨rfl, .refl _, .refl _, id, id, id, h⟩
theorem State.withRdata_keeps {s0 s : State} (k0 : s0.Keeps s) (d : Bytes) : s0.Keeps (s.withRdata d) :=
  k0.trans ⟨rfl, .refl _, .refl _, id, id, id, id⟩
theorem State.withRstat_keeps {s0 s : State} (k0 : s0.Keeps s) (n : Nat) : s0.Keeps (s.withRstat n) :=
  k0.trans ⟨rfl, .refl _, .refl _, id, id, id, id⟩
theorem State.fresh_keeps {s0 s : State} (k0 : s0.Keeps s) : s0.Keeps s.fresh := k0.trans ⟨rfl, .refl _, .refl _, id, id, id, id⟩
theorem State.freshBy_keeps {s0 s : State} (k0 : s0.Keeps s) (n : Nat) : s0.Keeps (s.freshBy n) := k0.trans ⟨rfl, .refl _, .refl _, id, id, id, id⟩

theorem State.wr_keeps {s0 s : State} (k0 : s0.Keeps s) (a v : Nat) : s0.Keeps (s.wr a v) := by
  unfold State.wr
  exact State.withRegs_keeps k0 _ (fun h => tset_wf h a _)

/-- A state that may be given, or else another. -/
theorem getD_keeps {s0 s : State} {o : Option State} (k0 : s0.Keeps s) (h : ∀ t, o = some t → s0.Keeps t) : s0.Keeps (o.getD s) := by
  cases o with
  | none => exact k0
  | some t => exact h t rfl

/-- A fold of writes keeps a memory canonical. -/
theorem foldl_memWf {α : Type} (l : List α) (f : List Host.Cell → α → List Host.Cell) (m : List Host.Cell) (hm : memWf m)
    (h : ∀ (m : List Host.Cell) (a : α), memWf m → memWf (f m a)) : memWf (l.foldl f m) := by
  induction l generalizing m with
  | nil => exact hm
  | cons a l ih => exact ih (f m a) (h m a hm)

/-- A step applied to the elements of a list keeps what each application keeps. -/
theorem State.each_keeps {α : Type} {s0 s : State} (k0 : s0.Keeps s) (l : List α) (f : State → α → State)
    (h : ∀ (t : State) (a : α), t.Keeps (f t a)) : s0.Keeps (s.each l f) := by
  unfold State.each
  induction l generalizing s with
  | nil => exact k0
  | cons a l ih => exact ih (k0.trans (h s a))

/-- A fold over states. -/
theorem foldlState_keeps {α : Type} {s0 s : State} (k0 : s0.Keeps s) (l : List α) (f : State → α → State)
    (h : ∀ (t : State) (a : α), t.Keeps (f t a)) : s0.Keeps (l.foldl f s) := State.each_keeps k0 l f h

/-- A fold that keeps the state of its accumulator. -/
theorem foldl_keeps {α β : Type} {s0 : State} (l : List α) (f : State × β → α → State × β) (p : State × β) (k0 : s0.Keeps p.1)
    (h : ∀ (q : State × β) (a : α), q.1.Keeps (f q a).1) : s0.Keeps (l.foldl f p).1 := by
  induction l generalizing p with
  | nil => exact k0
  | cons a l ih => exact ih (f p a) (k0.trans (h p a))

end Sys2Proof.Machine
end

