-- ==== Sys2Proof/Laws/KeepsOps.lean ====
section
/-! SUPPORT. Keeps of the shared operations, the scheduler, the path engine's metadata, DRAM: one lemma for each operation, by the lemmas of what it calls. -/

namespace Sys2Proof.Machine

set_option linter.all false

/-! ### Machine/Ops.lean -/

theorem State.setFld_keeps {r0 s : State} (k0 : r0.Keeps s) (a hi lo v : Nat) :
    r0.Keeps (State.setFld s a hi lo v) := by
  unfold State.setFld
  try dsimp only
  repeat' (first
    | (with_reducible exact k0) | (with_reducible exact .refl _) | (with_reducible apply State.wr_keeps)
    | ((with_reducible intro _ _); try dsimp only) | (split) | (with_reducible apply State.Keeps.of_pair (by assumption)) | (dsimp only))

theorem State.bump_keeps {r0 s : State} (k0 : r0.Keeps s) (a : Nat) (n : Nat) :
    r0.Keeps (State.bump s a n) := by
  unfold State.bump
  try dsimp only
  repeat' (first
    | (with_reducible exact k0) | (with_reducible exact .refl _) | (with_reducible apply State.wr_keeps)
    | ((with_reducible intro _ _); try dsimp only) | (split) | (with_reducible apply State.Keeps.of_pair (by assumption)) | (dsimp only))

theorem State.raise_keeps {r0 s : State} (k0 : r0.Keeps s) (a k : Nat) :
    r0.Keeps (State.raise s a k) := by
  unfold State.raise
  try dsimp only
  repeat' (first
    | (with_reducible exact k0) | (with_reducible exact .refl _) | (with_reducible apply State.setFld_keeps)
    | ((with_reducible intro _ _); try dsimp only) | (split) | (with_reducible apply State.Keeps.of_pair (by assumption)) | (dsimp only))

theorem State.perfRaw_keeps {r0 s : State} (k0 : r0.Keeps s) (i n : Nat) :
    r0.Keeps (State.perfRaw s i n) := by
  unfold State.perfRaw
  try dsimp only
  repeat' (first
    | (with_reducible exact k0) | (with_reducible exact .refl _) | (with_reducible apply State.onPerf_keeps)
    | ((with_reducible intro _ _); try dsimp only) | (split) | (with_reducible apply State.Keeps.of_pair (by assumption)) | (dsimp only))

theorem State.perfAdd_keeps {r0 s : State} (k0 : r0.Keeps s) (i : Nat) (n : Nat) :
    r0.Keeps (State.perfAdd s i n) := by
  unfold State.perfAdd
  try dsimp only
  repeat' (first
    | (with_reducible exact k0) | (with_reducible exact .refl _) | (with_reducible apply State.perfRaw_keeps)
    | (with_reducible apply State.fresh_keeps) | ((with_reducible intro _ _); try dsimp only) | (split)
    | (with_reducible apply State.Keeps.of_pair (by assumption)) | (dsimp only))

theorem State.tailPut_keeps {r0 s : State} (k0 : r0.Keeps s) (r : Bytes) :
    r0.Keeps (State.tailPut s r) := by
  unfold State.tailPut
  try dsimp only
  repeat' (first
    | (with_reducible exact k0) | (with_reducible exact .refl _) | (with_reducible apply State.onTrace_keeps)
    | ((with_reducible intro _ _); try dsimp only) | (split) | (with_reducible apply State.Keeps.of_pair (by assumption)) | (dsimp only))

theorem State.traceLose_keeps {r0 s : State} (k0 : r0.Keeps s)  :
    r0.Keeps (State.traceLose s) := by
  unfold State.traceLose
  try dsimp only
  repeat' (first
    | (with_reducible exact k0) | (with_reducible exact .refl _) | (with_reducible apply State.onTrace_keeps)
    | (with_reducible apply State.raise_keeps) | (with_reducible apply State.perfAdd_keeps) | ((with_reducible intro _ _); try dsimp only)
    | (split) | (with_reducible apply State.Keeps.of_pair (by assumption)) | (dsimp only))

theorem State.bufStore_keeps {r0 s : State} (k0 : r0.Keeps s) (r : Bytes) :
    r0.Keeps (State.bufStore s r) := by
  unfold State.bufStore
  try dsimp only
  repeat' (first
    | (with_reducible exact k0) | (with_reducible exact .refl _) | (with_reducible apply State.traceLose_keeps)
    | (with_reducible apply State.withMem_keeps) | (with_reducible apply State.onTrace_keeps) | (with_reducible apply State.perfAdd_keeps)
    | (with_reducible apply State.raise_keeps)
    | (intro hm; (repeat (first | exact hm | apply mwrite_wf | apply mclear_wf | apply mmove_wf)); done)
    | ((with_reducible intro _ _); try dsimp only) | (split) | (with_reducible apply State.Keeps.of_pair (by assumption)) | (dsimp only))

theorem State.bufPut_keeps {r0 s : State} (k0 : r0.Keeps s) (r : Bytes) :
    r0.Keeps (State.bufPut s r) := by
  unfold State.bufPut
  try dsimp only
  repeat' (first
    | (with_reducible exact k0) | (with_reducible exact .refl _) | (with_reducible apply State.traceLose_keeps)
    | (with_reducible apply State.tailPut_keeps) | (with_reducible apply State.bufStore_keeps)
    | ((with_reducible intro _ _); try dsimp only) | (split) | (with_reducible apply State.Keeps.of_pair (by assumption)) | (dsimp only))

theorem State.fifoPut_keeps {r0 s : State} (k0 : r0.Keeps s) (r : Bytes) :
    r0.Keeps (State.fifoPut s r) := by
  unfold State.fifoPut
  try dsimp only
  repeat' (first
    | (with_reducible exact k0) | (with_reducible exact .refl _) | (with_reducible apply State.bufPut_keeps)
    | (with_reducible apply State.onTrace_keeps) | (with_reducible apply State.tailPut_keeps)
    | (with_reducible apply State.traceLose_keeps) | ((with_reducible intro _ _); try dsimp only) | (split)
    | (with_reducible apply State.Keeps.of_pair (by assumption)) | (dsimp only))

theorem State.traceRec_keeps {r0 s : State} (k0 : r0.Keeps s) (src kind : Nat) (body : Bytes) :
    r0.Keeps (State.traceRec s src kind body) := by
  unfold State.traceRec
  try dsimp only
  repeat' (first
    | (with_reducible exact k0) | (with_reducible exact .refl _) | (with_reducible apply State.fresh_keeps)
    | (with_reducible apply State.onTrace_keeps) | (with_reducible apply State.fifoPut_keeps) | (with_reducible apply State.tailPut_keeps)
    | ((with_reducible intro _ _); try dsimp only) | (split) | (with_reducible apply State.Keeps.of_pair (by assumption)) | (dsimp only))

theorem State.signal_keeps {r0 s : State} (k0 : r0.Keeps s) (v : Nat) :
    r0.Keeps (State.signal s v) := by
  unfold State.signal
  try dsimp only
  repeat' (first
    | (with_reducible exact k0) | (with_reducible exact .refl _) | (with_reducible apply State.onHost_keeps)
    | ((with_reducible intro _ _); try dsimp only) | (split) | (with_reducible apply State.Keeps.of_pair (by assumption)) | (dsimp only))

theorem State.noteDev_keeps {r0 s : State} (k0 : r0.Keeps s) (s0 : State) :
    r0.Keeps (State.noteDev s s0) := by
  unfold State.noteDev
  try dsimp only
  repeat' (first
    | (with_reducible exact k0) | (with_reducible exact .refl _) | (with_reducible apply State.raise_keeps)
    | (with_reducible apply State.signal_keeps) | ((with_reducible intro _ _); try dsimp only) | (split)
    | (with_reducible apply State.Keeps.of_pair (by assumption)) | (dsimp only))

theorem State.ringWrite_keeps {r0 s : State} (k0 : r0.Keeps s) (i : Nat) (r : Bytes) :
    r0.Keeps (State.ringWrite s i r) := by
  unfold State.ringWrite
  try dsimp only
  repeat' (first
    | (with_reducible exact k0) | (with_reducible exact .refl _) | (with_reducible apply State.withMem_keeps)
    | (with_reducible apply State.withHostMem_keeps)
    | (intro hm; (repeat (first | exact hm | apply mwrite_wf | apply mclear_wf | apply mmove_wf)); done)
    | ((with_reducible intro _ _); try dsimp only) | (split) | (with_reducible apply State.Keeps.of_pair (by assumption)) | (dsimp only))

theorem State.postRaw_keeps {r0 s : State} (k0 : r0.Keeps s) (code group flags op status tag : Nat) (detail : Bytes) :
    r0.Keeps (State.postRaw s code group flags op status tag detail) := by
  unfold State.postRaw
  try dsimp only
  repeat' (first
    | (with_reducible exact k0) | (with_reducible exact .refl _) | (with_reducible apply State.onMbx_keeps)
    | (with_reducible apply State.bump_keeps) | (with_reducible apply State.perfAdd_keeps) | (with_reducible apply State.ringWrite_keeps)
    | (with_reducible apply State.wr_keeps) | (with_reducible apply State.raise_keeps) | (with_reducible apply State.signal_keeps)
    | (with_reducible apply State.traceRec_keeps) | ((with_reducible intro _ _); try dsimp only) | (split)
    | (with_reducible apply State.Keeps.of_pair (by assumption)) | (dsimp only))

theorem State.post_keeps {r0 s : State} (k0 : r0.Keeps s) (code : Nat) (detail : Bytes) :
    r0.Keeps (State.post s code detail) := by
  unfold State.post
  try dsimp only
  repeat' (first
    | (with_reducible exact k0) | (with_reducible exact .refl _) | (with_reducible apply State.postRaw_keeps)
    | ((with_reducible intro _ _); try dsimp only) | (split) | (with_reducible apply State.Keeps.of_pair (by assumption)) | (dsimp only))

theorem State.newJob_keeps {r0 s : State} (k0 : r0.Keeps s) (h : Hdr) (op n : Nat) (detail : Bytes) :
    r0.Keeps (State.newJob s h op n detail) := by
  unfold State.newJob
  try dsimp only
  repeat' (first
    | (with_reducible exact k0) | (with_reducible exact .refl _) | (with_reducible apply State.onMbx_keeps)
    | ((with_reducible intro _ _); try dsimp only) | (split) | (with_reducible apply State.Keeps.of_pair (by assumption)) | (dsimp only))

theorem State.endJob_keeps {r0 s : State} (k0 : r0.Keeps s) (id status : Nat) (detail : Bytes) :
    r0.Keeps (State.endJob s id status detail) := by
  unfold State.endJob
  try dsimp only
  repeat' (first
    | (with_reducible exact k0) | (with_reducible exact .refl _) | (with_reducible apply State.onMbx_keeps)
    | (with_reducible apply State.postRaw_keeps) | ((with_reducible intro _ _); try dsimp only) | (split)
    | (with_reducible apply State.Keeps.of_pair (by assumption)) | (dsimp only))

theorem State.pieceDone_keeps {r0 s : State} (k0 : r0.Keeps s) (id : Nat) (status : Nat) (detail : Bytes) :
    r0.Keeps (State.pieceDone s id status detail) := by
  unfold State.pieceDone
  try dsimp only
  repeat' (first
    | (with_reducible exact k0) | (with_reducible exact .refl _) | (with_reducible apply State.endJob_keeps)
    | (with_reducible apply State.onMbx_keeps) | ((with_reducible intro _ _); try dsimp only) | (split)
    | (with_reducible apply State.Keeps.of_pair (by assumption)) | (dsimp only))

theorem State.pieceDone?_keeps {r0 s : State} (k0 : r0.Keeps s) (id : Option Nat) (status : Nat) (detail : Bytes) :
    r0.Keeps (State.pieceDone? s id status detail) := by
  unfold State.pieceDone?
  try dsimp only
  repeat' (first
    | (with_reducible exact k0) | (with_reducible exact .refl _) | (with_reducible apply State.pieceDone_keeps)
    | ((with_reducible intro _ _); try dsimp only) | (split) | (with_reducible apply State.Keeps.of_pair (by assumption)) | (dsimp only))

theorem State.bufWrite_keeps {r0 s : State} (k0 : r0.Keeps s) (b : Buf) (d : Bytes) :
    r0.Keeps (State.bufWrite s b d) := by
  unfold State.bufWrite
  try dsimp only
  repeat' (first
    | (with_reducible exact k0) | (with_reducible exact .refl _) | (with_reducible apply State.withHostMem_keeps)
    | (with_reducible apply State.withMem_keeps)
    | (intro hm; (repeat (first | exact hm | apply mwrite_wf | apply mclear_wf | apply mmove_wf)); done)
    | ((with_reducible intro _ _); try dsimp only) | (split) | (with_reducible apply State.Keeps.of_pair (by assumption)) | (dsimp only))

theorem State.claim_keeps {r0 s : State} (k0 : r0.Keeps s) (r fn : Nat) :
    r0.Keeps (State.claim s r fn) := by
  unfold State.claim
  try dsimp only
  repeat' (first
    | (with_reducible exact k0) | (with_reducible exact .refl _) | (with_reducible apply State.onMbx_keeps)
    | ((with_reducible intro _ _); try dsimp only) | (split) | (with_reducible apply State.Keeps.of_pair (by assumption)) | (dsimp only))

theorem State.setObj_keeps {r0 s : State} (k0 : r0.Keeps s) (j : Nat) (o : Obj) :
    r0.Keeps (State.setObj s j o) := by
  unfold State.setObj
  try dsimp only
  repeat' (first
    | (with_reducible exact k0) | (with_reducible exact .refl _) | (with_reducible apply State.onScene_keeps)
    | ((with_reducible intro _ _); try dsimp only) | (split) | (with_reducible apply State.Keeps.of_pair (by assumption)) | (dsimp only))

theorem State.sceneCnt_keeps {r0 s : State} (k0 : r0.Keeps s) (i : Nat) (n : Nat) :
    r0.Keeps (State.sceneCnt s i n) := by
  unfold State.sceneCnt
  try dsimp only
  repeat' (first
    | (with_reducible exact k0) | (with_reducible exact .refl _) | (with_reducible apply State.onScene_keeps)
    | ((with_reducible intro _ _); try dsimp only) | (split) | (with_reducible apply State.Keeps.of_pair (by assumption)) | (dsimp only))

/-! ### Machine/Mailbox.lean -/

theorem State.setSlot_keeps {r0 s : State} (k0 : r0.Keeps s) (n : Nat) (v : Slot) :
    r0.Keeps (State.setSlot s n v) := by
  unfold State.setSlot
  try dsimp only
  repeat' (first
    | (with_reducible exact k0) | (with_reducible exact .refl _) | (with_reducible apply State.onMbx_keeps)
    | ((with_reducible intro _ _); try dsimp only) | (split) | (with_reducible apply State.Keeps.of_pair (by assumption)) | (dsimp only))

theorem State.putResponse_keeps {r0 s : State} (k0 : r0.Keeps s) (h : Hdr) (op status : Nat) (bytes : Bytes) (keep : Slot → Option SlotRec) :
    r0.Keeps (State.putResponse s h op status bytes keep) := by
  unfold State.putResponse
  try dsimp only
  repeat' (first
    | (with_reducible exact k0) | (with_reducible exact .refl _) | (with_reducible apply State.withMem_keeps)
    | (with_reducible apply State.setSlot_keeps) | (with_reducible apply State.raise_keeps) | (with_reducible apply State.signal_keeps)
    | (with_reducible apply State.traceRec_keeps) | (with_reducible apply State.postRaw_keeps)
    | (intro hm; (repeat (first | exact hm | apply mwrite_wf | apply mclear_wf | apply mmove_wf)); done)
    | ((with_reducible intro _ _); try dsimp only) | (split) | (with_reducible apply State.Keeps.of_pair (by assumption)) | (dsimp only))

theorem State.respond_keeps {r0 s : State} (k0 : r0.Keeps s) (h : Hdr) (op : Nat) (p : Bytes) (r : Resp) :
    r0.Keeps (State.respond s h op p r) := by
  unfold State.respond
  try dsimp only
  repeat' (first
    | (with_reducible exact k0) | (with_reducible exact .refl _) | (with_reducible apply State.putResponse_keeps)
    | ((with_reducible intro _ _); try dsimp only) | (split) | (with_reducible apply State.Keeps.of_pair (by assumption)) | (dsimp only))

theorem State.respondUnrecorded_keeps {r0 s : State} (k0 : r0.Keeps s) (h : Hdr) (op : Nat) (r : Resp) :
    r0.Keeps (State.respondUnrecorded s h op r) := by
  unfold State.respondUnrecorded
  try dsimp only
  repeat' (first
    | (with_reducible exact k0) | (with_reducible exact .refl _) | (with_reducible apply State.putResponse_keeps)
    | ((with_reducible intro _ _); try dsimp only) | (split) | (with_reducible apply State.Keeps.of_pair (by assumption)) | (dsimp only))

theorem State.answerBooting_keeps {r0 s : State} (k0 : r0.Keeps s) (h : Hdr) (op : Nat) :
    r0.Keeps (State.answerBooting s h op) := by
  unfold State.answerBooting
  try dsimp only
  repeat' (first
    | (with_reducible exact k0) | (with_reducible exact .refl _) | (with_reducible apply State.respondUnrecorded_keeps)
    | (with_reducible apply State.bump_keeps) | ((with_reducible intro _ _); try dsimp only) | (split)
    | (with_reducible apply State.Keeps.of_pair (by assumption)) | (dsimp only))

theorem State.taken_keeps {r0 s : State} (k0 : r0.Keeps s) (h : Hdr) (op : Nat) :
    r0.Keeps (State.taken s h op) := by
  unfold State.taken
  try dsimp only
  repeat' (first
    | (with_reducible exact k0) | (with_reducible exact .refl _) | (with_reducible apply State.bump_keeps)
    | (with_reducible apply State.perfAdd_keeps) | (with_reducible apply State.traceRec_keeps)
    | ((with_reducible intro _ _); try dsimp only) | (split) | (with_reducible apply State.Keeps.of_pair (by assumption)) | (dsimp only))

/-- A command whose own checks and effect keep what no command takes away. -/
def CmdDef.Keeps (c : CmdDef) : Prop := ∀ (h : Hdr) (p : Bytes) (s : State), s.Keeps (c.body h p s).1

theorem CmdDef.finish_keeps {r0 s : State} (k0 : r0.Keeps s) (c : CmdDef) (hc : c.Keeps) (h : Hdr) (p : Bytes) :
    r0.Keeps (CmdDef.finish c h p s) := by
  have hb := k0.trans (hc h p s)
  unfold CmdDef.finish
  dsimp only
  split
  · exact State.setSlot_keeps hb _ _
  · exact State.respond_keeps hb _ _ _ _

theorem State.hold_keeps {r0 s : State} (k0 : r0.Keeps s) (h : Hdr) (op : Nat) (p : Bytes) :
    r0.Keeps (State.hold s h op p) := by
  unfold State.hold
  try dsimp only
  repeat' (first
    | (with_reducible exact k0) | (with_reducible exact .refl _) | (with_reducible apply State.setSlot_keeps)
    | (with_reducible apply State.onMbx_keeps) | ((with_reducible intro _ _); try dsimp only) | (split)
    | (with_reducible apply State.Keeps.of_pair (by assumption)) | (dsimp only))

theorem CmdDef.early_keeps {r0 s : State} (k0 : r0.Keeps s) (c : CmdDef) (h : Hdr) (p : Bytes) {t1 : State} (h1 : (CmdDef.early c h p s) = some t1) :
    r0.Keeps t1 := by
  unfold CmdDef.early at h1
  try dsimp only at h1
  repeat' (first
    | (cases h1; done) | (injection h1 with h1; subst h1) | (split at h1)
    | (obtain ⟨e1, h2, h3⟩ := Option.map_eq_some_iff.1 h1; clear h1; subst h3; try dsimp only))
  all_goals repeat' (first
    | (with_reducible exact k0) | (with_reducible exact .refl _) | (with_reducible apply State.respond_keeps)
    | (with_reducible apply State.hold_keeps) | ((with_reducible intro _ _); try dsimp only) | (split)
    | (with_reducible apply State.Keeps.of_pair (by assumption)) | (dsimp only))

theorem CmdDef.run_keeps {r0 s : State} (k0 : r0.Keeps s) (c : CmdDef) (hc : c.Keeps) (h : Hdr) (p : Bytes) :
    r0.Keeps (CmdDef.run c h p s) := by
  unfold CmdDef.run
  dsimp only
  split
  · exact k0
  · split
    · exact State.answerBooting_keeps k0 _ _
    · split
      · exact CmdDef.early_keeps (State.taken_keeps k0 _ _) _ _ _ (by assumption)
      · exact CmdDef.finish_keeps (State.taken_keeps k0 _ _) c hc _ _

/-! ### Machine/Cmd.lean -/

theorem checked_keeps {r0 s : State} (k0 : r0.Keeps s) (l : List (Bool × Resp)) (ok : State × Resp) (k1 : r0.Keeps ok.1) :
    r0.Keeps (checked s l ok).1 := by
  unfold checked
  split
  · exact k0
  · exact k1

theorem checkedEntries_keeps {r0 s : State} (k0 : r0.Keeps s) (es : List Bytes) (bad : Nat → Bytes → Option Resp) (ok : State × Resp)
    (k1 : r0.Keeps ok.1) : r0.Keeps (checkedEntries s es bad ok).1 := by
  unfold checkedEntries
  split
  · exact k0
  · exact k1

theorem CmdDef.exec_keeps {r0 s : State} (k0 : r0.Keeps s) (c : CmdDef) (hc : c.Keeps) (h : Hdr) (p : Bytes) :
    r0.KeepsNext (CmdDef.exec c h p s) := by
  unfold CmdDef.exec
  exact .next (CmdDef.run_keeps k0 c hc h p)

theorem State.pieceDrop_keeps {r0 s : State} (k0 : r0.Keeps s) (id : Option Nat) :
    r0.Keeps (State.pieceDrop s id) := by
  unfold State.pieceDrop
  try dsimp only
  repeat' (first
    | (with_reducible exact k0) | (with_reducible exact .refl _) | (with_reducible apply State.pieceDone_keeps)
    | ((with_reducible intro _ _); try dsimp only) | (split) | (with_reducible apply State.Keeps.of_pair (by assumption)) | (dsimp only))

theorem State.addPiece_keeps {r0 s : State} (k0 : r0.Keeps s) (id : Nat) :
    r0.Keeps (State.addPiece s id) := by
  unfold State.addPiece
  try dsimp only
  repeat' (first
    | (with_reducible exact k0) | (with_reducible exact .refl _) | (with_reducible apply State.onMbx_keeps)
    | ((with_reducible intro _ _); try dsimp only) | (split) | (with_reducible apply State.Keeps.of_pair (by assumption)) | (dsimp only))

theorem State.settleJob_keeps {r0 s : State} (k0 : r0.Keeps s) (id : Nat) :
    r0.Keeps (State.settleJob s id).1 := by
  unfold State.settleJob
  try dsimp only
  repeat' (first
    | (with_reducible exact k0) | (with_reducible exact .refl _) | (with_reducible apply State.onMbx_keeps)
    | ((with_reducible intro _ _); try dsimp only) | (split) | (with_reducible apply State.Keeps.of_pair (by assumption)) | (dsimp only))

/-! ### Machine/MirrorOps.lean -/

theorem State.actTrace_keeps {r0 s : State} (k0 : r0.Keeps s)  :
    r0.Keeps (State.actTrace s) := by
  unfold State.actTrace
  try dsimp only
  repeat' (first
    | (with_reducible exact k0) | (with_reducible exact .refl _) | (with_reducible apply State.traceRec_keeps)
    | ((with_reducible intro _ _); try dsimp only) | (split) | (with_reducible apply State.Keeps.of_pair (by assumption)) | (dsimp only))

theorem State.hbTrace_keeps {r0 s : State} (k0 : r0.Keeps s) (kind : Nat) :
    r0.Keeps (State.hbTrace s kind) := by
  unfold State.hbTrace
  try dsimp only
  repeat' (first
    | (with_reducible exact k0) | (with_reducible exact .refl _) | (with_reducible apply State.traceRec_keeps)
    | ((with_reducible intro _ _); try dsimp only) | (split) | (with_reducible apply State.Keeps.of_pair (by assumption)) | (dsimp only))

theorem State.setAct_keeps {r0 s : State} (k0 : r0.Keeps s) (up : Bool) (n : Nat) :
    r0.Keeps (State.setAct s up n) := by
  unfold State.setAct
  try dsimp only
  repeat' (first
    | (with_reducible exact k0) | (with_reducible exact .refl _) | (with_reducible apply State.onMir_keeps)
    | (with_reducible apply State.wr_keeps) | ((with_reducible intro _ _); try dsimp only) | (split)
    | (with_reducible apply State.Keeps.of_pair (by assumption)) | (dsimp only))

theorem State.raiseAct_keeps {r0 s : State} (k0 : r0.Keeps s) (n cause : Nat) :
    r0.Keeps (State.raiseAct s n cause) := by
  unfold State.raiseAct
  try dsimp only
  repeat' (first
    | (with_reducible exact k0) | (with_reducible exact .refl _) | (with_reducible apply State.setAct_keeps)
    | (with_reducible apply State.onMir_keeps) | (with_reducible apply State.bump_keeps) | (with_reducible apply State.raise_keeps)
    | (with_reducible apply State.perfAdd_keeps) | (with_reducible apply State.post_keeps) | (with_reducible apply State.actTrace_keeps)
    | ((with_reducible intro _ _); try dsimp only) | (split) | (with_reducible apply State.Keeps.of_pair (by assumption)) | (dsimp only))

theorem State.lowerAct_keeps {r0 s : State} (k0 : r0.Keeps s) (n : Nat) (dest : MirState) :
    r0.Keeps (State.lowerAct s n dest) := by
  unfold State.lowerAct
  try dsimp only
  repeat' (first
    | (with_reducible exact k0) | (with_reducible exact .refl _) | (with_reducible apply State.setAct_keeps)
    | (with_reducible apply State.onMir_keeps) | (with_reducible apply State.actTrace_keeps)
    | ((with_reducible intro _ _); try dsimp only) | (split) | (with_reducible apply State.Keeps.of_pair (by assumption)) | (dsimp only))

theorem State.gatePins_keeps {r0 s : State} (k0 : r0.Keeps s)  :
    r0.Keeps (State.gatePins s) := by
  unfold State.gatePins
  try dsimp only
  repeat' (first
    | (with_reducible exact k0) | (with_reducible exact .refl _) | (with_reducible apply State.onPorts_keeps)
    | ((with_reducible intro _ _); try dsimp only) | (split) | (with_reducible apply State.Keeps.of_pair (by assumption)) | (dsimp only))

theorem State.forcedDrop_keeps {r0 s : State} (k0 : r0.Keeps s)  :
    r0.Keeps (State.forcedDrop s) := by
  unfold State.forcedDrop
  try dsimp only
  repeat' (first
    | (with_reducible exact k0) | (with_reducible exact .refl _) | (with_reducible apply State.onMir_keeps)
    | (with_reducible apply State.gatePins_keeps) | (with_reducible apply State.bump_keeps) | (with_reducible apply State.raise_keeps)
    | (with_reducible apply State.wr_keeps) | (with_reducible apply State.actTrace_keeps) | ((with_reducible intro _ _); try dsimp only)
    | (split) | (with_reducible apply State.Keeps.of_pair (by assumption)) | (dsimp only))

theorem State.dropSynced_keeps {r0 s : State} (k0 : r0.Keeps s)  :
    r0.Keeps (State.dropSynced s) := by
  unfold State.dropSynced
  try dsimp only
  repeat' (first
    | (with_reducible exact k0) | (with_reducible exact .refl _) | (with_reducible apply State.onMir_keeps)
    | ((with_reducible intro _ _); try dsimp only) | (split) | (with_reducible apply State.Keeps.of_pair (by assumption)) | (dsimp only))

theorem State.keepReady_keeps {r0 s : State} (k0 : r0.Keeps s)  :
    r0.Keeps (State.keepReady s) := by
  unfold State.keepReady
  try dsimp only
  repeat' (first
    | (with_reducible exact k0) | (with_reducible exact .refl _) | (with_reducible apply State.dropSynced_keeps)
    | ((with_reducible intro _ _); try dsimp only) | (split) | (with_reducible apply State.Keeps.of_pair (by assumption)) | (dsimp only))

theorem State.judgeSynced_keeps {r0 s : State} (k0 : r0.Keeps s)  :
    r0.Keeps (State.judgeSynced s) := by
  unfold State.judgeSynced
  try dsimp only
  repeat' (first
    | (with_reducible exact k0) | (with_reducible exact .refl _) | (with_reducible apply State.keepReady_keeps)
    | (with_reducible apply State.onMir_keeps) | (with_reducible apply State.raise_keeps) | (with_reducible apply State.post_keeps)
    | ((with_reducible intro _ _); try dsimp only) | (split) | (with_reducible apply State.Keeps.of_pair (by assumption)) | (dsimp only))

theorem State.viewEdge_keeps {r0 s : State} (k0 : r0.Keeps s) (level : Bool) (stamp : Nat) :
    r0.Keeps (State.viewEdge s level stamp) := by
  unfold State.viewEdge
  try dsimp only
  repeat' (first
    | (with_reducible exact k0) | (with_reducible exact .refl _) | (with_reducible apply State.onMir_keeps)
    | (with_reducible apply State.gatePins_keeps) | (with_reducible apply State.bump_keeps) | ((with_reducible intro _ _); try dsimp only)
    | (split) | (with_reducible apply State.Keeps.of_pair (by assumption)) | (dsimp only))

theorem State.partnerRise_keeps {r0 s : State} (k0 : r0.Keeps s) (stamp : Nat) :
    r0.Keeps (State.partnerRise s stamp) := by
  unfold State.partnerRise
  try dsimp only
  repeat' (first
    | (with_reducible exact k0) | (with_reducible exact .refl _) | (with_reducible apply State.lowerAct_keeps)
    | (with_reducible apply State.onMir_keeps) | (with_reducible apply State.bump_keeps) | (with_reducible apply State.raise_keeps)
    | ((with_reducible intro _ _); try dsimp only) | (split) | (with_reducible apply State.Keeps.of_pair (by assumption)) | (dsimp only))

theorem State.actInEdge_keeps {r0 s : State} (k0 : r0.Keeps s) (level : Bool) (stamp : Nat) :
    r0.Keeps (State.actInEdge s level stamp) := by
  unfold State.actInEdge
  try dsimp only
  repeat' (first
    | (with_reducible exact k0) | (with_reducible exact .refl _) | (with_reducible apply State.onMir_keeps)
    | (with_reducible apply State.viewEdge_keeps) | (with_reducible apply State.partnerRise_keeps)
    | ((with_reducible intro _ _); try dsimp only) | (split) | (with_reducible apply State.Keeps.of_pair (by assumption)) | (dsimp only))

theorem State.actInConfirmed_keeps {r0 s : State} (k0 : r0.Keeps s)  :
    r0.Keeps (State.actInConfirmed s) := by
  unfold State.actInConfirmed
  try dsimp only
  repeat' (first
    | (with_reducible exact k0) | (with_reducible exact .refl _) | (with_reducible apply State.raiseAct_keeps)
    | (with_reducible apply State.onMir_keeps) | ((with_reducible intro _ _); try dsimp only) | (split)
    | (with_reducible apply State.Keeps.of_pair (by assumption)) | (dsimp only))

theorem State.hbCheck_keeps {r0 s : State} (k0 : r0.Keeps s) (present : Bool) :
    r0.Keeps (State.hbCheck s present) := by
  unfold State.hbCheck
  try dsimp only
  repeat' (first
    | (with_reducible exact k0) | (with_reducible exact .refl _) | (with_reducible apply State.onMir_keeps)
    | (with_reducible apply State.judgeSynced_keeps) | (with_reducible apply State.perfAdd_keeps)
    | (with_reducible apply State.bump_keeps) | (with_reducible apply State.raise_keeps) | (with_reducible apply State.hbTrace_keeps)
    | (with_reducible apply State.post_keeps) | (with_reducible apply State.dropSynced_keeps)
    | ((with_reducible intro _ _); try dsimp only) | (split) | (with_reducible apply State.Keeps.of_pair (by assumption)) | (dsimp only))

theorem State.hbStray_keeps {r0 s : State} (k0 : r0.Keeps s) (n : Nat) :
    r0.Keeps (State.hbStray s n) := by
  unfold State.hbStray
  try dsimp only
  repeat' (first
    | (with_reducible exact k0) | (with_reducible exact .refl _) | (with_reducible apply State.bump_keeps)
    | (with_reducible apply State.hbTrace_keeps) | ((with_reducible intro _ _); try dsimp only) | (split)
    | (with_reducible apply State.Keeps.of_pair (by assumption)) | (dsimp only))

theorem State.heartbeat_keeps {r0 s : State} (k0 : r0.Keeps s) (delivered : Bool) :
    r0.Keeps (State.heartbeat s delivered) := by
  unfold State.heartbeat
  try dsimp only
  repeat' (first
    | (with_reducible exact k0) | (with_reducible exact .refl _) | (with_reducible apply State.onMir_keeps)
    | (with_reducible apply State.perfAdd_keeps) | (with_reducible apply State.forcedDrop_keeps) | (with_reducible apply State.bump_keeps)
    | (with_reducible apply State.hbTrace_keeps) | ((with_reducible intro _ _); try dsimp only) | (split)
    | (with_reducible apply State.Keeps.of_pair (by assumption)) | (dsimp only))

theorem State.viewBoundary_keeps {r0 s : State} (k0 : r0.Keeps s) (n : Nat) :
    r0.Keeps (State.viewBoundary s n) := by
  unfold State.viewBoundary
  try dsimp only
  repeat' (first
    | (with_reducible exact k0) | (with_reducible exact .refl _) | (with_reducible apply State.onMir_keeps)
    | ((with_reducible intro _ _); try dsimp only) | (split) | (with_reducible apply State.Keeps.of_pair (by assumption)) | (dsimp only))

theorem State.gateBoundary_keeps {r0 s : State} (k0 : r0.Keeps s)  :
    r0.Keeps (State.gateBoundary s) := by
  unfold State.gateBoundary
  try dsimp only
  repeat' (first
    | (with_reducible exact k0) | (with_reducible exact .refl _) | (with_reducible apply State.onMir_keeps)
    | (with_reducible apply State.gatePins_keeps) | ((with_reducible intro _ _); try dsimp only) | (split)
    | (with_reducible apply State.Keeps.of_pair (by assumption)) | (dsimp only))

/-! ### Machine/Sched.lean -/

theorem State.setItem_keeps {r0 s : State} (k0 : r0.Keeps s) (slot : Nat) (i : Item) :
    r0.Keeps (State.setItem s slot i) := by
  unfold State.setItem
  try dsimp only
  repeat' (first
    | (with_reducible exact k0) | (with_reducible exact .refl _) | (with_reducible apply State.onSched_keeps)
    | ((with_reducible intro _ _); try dsimp only) | (split) | (with_reducible apply State.Keeps.of_pair (by assumption)) | (dsimp only))

theorem State.setTask_keeps {r0 s : State} (k0 : r0.Keeps s) (t : Nat) (v : FTask) :
    r0.Keeps (State.setTask s t v) := by
  unfold State.setTask
  try dsimp only
  repeat' (first
    | (with_reducible exact k0) | (with_reducible exact .refl _) | (with_reducible apply State.onSched_keeps)
    | ((with_reducible intro _ _); try dsimp only) | (split) | (with_reducible apply State.Keeps.of_pair (by assumption)) | (dsimp only))

theorem State.schedRec_keeps {r0 s : State} (k0 : r0.Keeps s) (kind server : Nat) (slot : Option Nat) (i : Item) (arg : Nat) :
    r0.Keeps (State.schedRec s kind server slot i arg) := by
  unfold State.schedRec
  try dsimp only
  repeat' (first
    | (with_reducible exact k0) | (with_reducible exact .refl _) | (with_reducible apply State.traceRec_keeps)
    | ((with_reducible intro _ _); try dsimp only) | (split) | (with_reducible apply State.Keeps.of_pair (by assumption)) | (dsimp only))

theorem State.obsTouch_keeps {r0 s : State} (k0 : r0.Keeps s)  :
    r0.Keeps (State.obsTouch s) := by
  unfold State.obsTouch
  try dsimp only
  repeat' (first
    | (with_reducible exact k0) | (with_reducible exact .refl _) | (with_reducible apply State.onSched_keeps)
    | (with_reducible apply foldl_keeps) | (with_reducible apply foldlState_keeps) | ((with_reducible intro _ _); try dsimp only)
    | (split) | (with_reducible apply State.Keeps.of_pair (by assumption)) | (dsimp only))

theorem State.noteBlocks_keeps {r0 s : State} (k0 : r0.Keeps s)  :
    r0.Keeps (State.noteBlocks s) := by
  unfold State.noteBlocks
  try dsimp only
  repeat' (first
    | (with_reducible exact k0) | (with_reducible exact .refl _) | (with_reducible apply State.each_keeps)
    | (with_reducible apply State.setItem_keeps) | (with_reducible apply State.bump_keeps) | (with_reducible apply State.perfAdd_keeps)
    | (with_reducible apply State.schedRec_keeps) | ((with_reducible intro _ _); try dsimp only) | (split)
    | (with_reducible apply State.Keeps.of_pair (by assumption)) | (dsimp only))

theorem State.flowFreed_keeps {r0 s : State} (k0 : r0.Keeps s) (f : Option Nat) :
    r0.Keeps (State.flowFreed s f) := by
  unfold State.flowFreed
  try dsimp only
  repeat' (first
    | (with_reducible exact k0) | (with_reducible exact .refl _) | (with_reducible apply State.each_keeps)
    | (with_reducible apply State.setItem_keeps) | (with_reducible apply foldl_keeps) | (with_reducible apply foldlState_keeps)
    | ((with_reducible intro _ _); try dsimp only) | (split) | (with_reducible apply State.Keeps.of_pair (by assumption)) | (dsimp only))

theorem State.makeReady_keeps {r0 s : State} (k0 : r0.Keeps s) (slot source : Nat) :
    r0.Keeps (State.makeReady s slot source) := by
  unfold State.makeReady
  try dsimp only
  repeat' (first
    | (with_reducible exact k0) | (with_reducible exact .refl _) | (with_reducible apply State.obsTouch_keeps)
    | (with_reducible apply State.setItem_keeps) | (with_reducible apply State.onSched_keeps)
    | (with_reducible apply State.schedRec_keeps) | (with_reducible apply State.noteBlocks_keeps)
    | ((with_reducible intro _ _); try dsimp only) | (split) | (with_reducible apply State.Keeps.of_pair (by assumption)) | (dsimp only))

theorem State.preempt_keeps {r0 s : State} (k0 : r0.Keeps s) (n : Nat) (by_ : Item) :
    r0.Keeps (State.preempt s n by_) := by
  unfold State.preempt
  try dsimp only
  repeat' (first
    | (with_reducible exact k0) | (with_reducible exact .refl _) | (with_reducible apply State.setItem_keeps)
    | (with_reducible apply State.bump_keeps) | (with_reducible apply State.perfAdd_keeps) | (with_reducible apply State.schedRec_keeps)
    | ((with_reducible intro _ _); try dsimp only) | (split) | (with_reducible apply State.Keeps.of_pair (by assumption)) | (dsimp only))

theorem State.dispatchTo_keeps {r0 s : State} (k0 : r0.Keeps s) (slot : Nat) (i : Item) (n lat : Nat) :
    r0.Keeps (State.dispatchTo s slot i n lat) := by
  unfold State.dispatchTo
  try dsimp only
  repeat' (first
    | (with_reducible exact k0) | (with_reducible exact .refl _) | (with_reducible apply State.preempt_keeps)
    | (with_reducible apply State.setItem_keeps) | (with_reducible apply State.onSched_keeps) | (with_reducible apply State.bump_keeps)
    | (with_reducible apply State.perfAdd_keeps) | (with_reducible apply State.schedRec_keeps)
    | (with_reducible apply State.noteBlocks_keeps) | (with_reducible apply State.obsTouch_keeps)
    | ((with_reducible intro _ _); try dsimp only) | (split) | (with_reducible apply State.Keeps.of_pair (by assumption)) | (dsimp only))

theorem State.resumeCore_keeps {r0 s : State} (k0 : r0.Keeps s) (n : Nat) :
    r0.Keeps (State.resumeCore s n) := by
  unfold State.resumeCore
  try dsimp only
  repeat' (first
    | (with_reducible exact k0) | (with_reducible exact .refl _) | (with_reducible apply State.preempt_keeps)
    | (with_reducible apply State.setItem_keeps) | (with_reducible apply State.onSched_keeps)
    | (with_reducible apply State.schedRec_keeps) | (with_reducible apply State.obsTouch_keeps) | (with_reducible apply foldl_keeps)
    | (with_reducible apply foldlState_keeps) | ((with_reducible intro _ _); try dsimp only) | (split)
    | (with_reducible apply State.Keeps.of_pair (by assumption)) | (dsimp only))

theorem State.reportLoss_keeps {r0 s : State} (k0 : r0.Keeps s)  :
    r0.Keeps (State.reportLoss s) := by
  unfold State.reportLoss
  try dsimp only
  repeat' (first
    | (with_reducible exact k0) | (with_reducible exact .refl _) | (with_reducible apply State.post_keeps)
    | (with_reducible apply State.onSched_keeps) | ((with_reducible intro _ _); try dsimp only) | (split)
    | (with_reducible apply State.Keeps.of_pair (by assumption)) | (dsimp only))

theorem State.countLoss_keeps {r0 s : State} (k0 : r0.Keeps s)  :
    r0.Keeps (State.countLoss s) := by
  unfold State.countLoss
  try dsimp only
  repeat' (first
    | (with_reducible exact k0) | (with_reducible exact .refl _) | (with_reducible apply State.onSched_keeps)
    | (with_reducible apply State.bump_keeps) | (with_reducible apply State.perfAdd_keeps) | (with_reducible apply State.setFld_keeps)
    | (with_reducible apply State.raise_keeps) | ((with_reducible intro _ _); try dsimp only) | (split)
    | (with_reducible apply State.Keeps.of_pair (by assumption)) | (dsimp only))

theorem State.lossRecord_keeps {r0 s : State} (k0 : r0.Keeps s) (i : Item) :
    r0.Keeps (State.lossRecord s i) := by
  unfold State.lossRecord
  try dsimp only
  repeat' (first
    | (with_reducible exact k0) | (with_reducible exact .refl _) | (with_reducible apply State.onSched_keeps)
    | (with_reducible apply State.schedRec_keeps) | ((with_reducible intro _ _); try dsimp only) | (split)
    | (with_reducible apply State.Keeps.of_pair (by assumption)) | (dsimp only))

theorem State.eventLost_keeps {r0 s : State} (k0 : r0.Keeps s) (i : Item) :
    r0.Keeps (State.eventLost s i) := by
  unfold State.eventLost
  try dsimp only
  repeat' (first
    | (with_reducible exact k0) | (with_reducible exact .refl _) | (with_reducible apply State.lossRecord_keeps)
    | (with_reducible apply State.reportLoss_keeps) | (with_reducible apply State.countLoss_keeps)
    | ((with_reducible intro _ _); try dsimp only) | (split) | (with_reducible apply State.Keeps.of_pair (by assumption)) | (dsimp only))

theorem State.lossBoundary_keeps {r0 s : State} (k0 : r0.Keeps s)  :
    r0.Keeps (State.lossBoundary s) := by
  unfold State.lossBoundary
  try dsimp only
  repeat' (first
    | (with_reducible exact k0) | (with_reducible exact .refl _) | (with_reducible apply State.reportLoss_keeps)
    | ((with_reducible intro _ _); try dsimp only) | (split) | (with_reducible apply State.Keeps.of_pair (by assumption)) | (dsimp only))

theorem State.spillPop_keeps {r0 s : State} (k0 : r0.Keeps s) (rest : List Spilled) :
    r0.Keeps (State.spillPop s rest) := by
  unfold State.spillPop
  try dsimp only
  repeat' (first
    | (with_reducible exact k0) | (with_reducible exact .refl _) | (with_reducible apply State.onSched_keeps)
    | ((with_reducible intro _ _); try dsimp only) | (split) | (with_reducible apply State.Keeps.of_pair (by assumption)) | (dsimp only))

theorem State.spillFail_keeps {r0 s : State} (k0 : r0.Keeps s) (a : Nat) :
    r0.Keeps (State.spillFail s a) := by
  unfold State.spillFail
  try dsimp only
  repeat' (first
    | (with_reducible exact k0) | (with_reducible exact .refl _) | (with_reducible apply State.onSched_keeps)
    | ((with_reducible intro _ _); try dsimp only) | (split) | (with_reducible apply State.Keeps.of_pair (by assumption)) | (dsimp only))

theorem State.refill_keeps {r0 s : State} (k0 : r0.Keeps s)  :
    r0.Keeps (State.refill s) := by
  unfold State.refill
  try dsimp only
  repeat' (first
    | (with_reducible exact k0) | (with_reducible exact .refl _) | (with_reducible apply State.spillPop_keeps)
    | (with_reducible apply State.eventLost_keeps) | (with_reducible apply State.setItem_keeps) | (with_reducible apply State.bump_keeps)
    | (with_reducible apply State.perfAdd_keeps) | (with_reducible apply State.schedRec_keeps)
    | (with_reducible apply State.makeReady_keeps) | ((with_reducible intro _ _); try dsimp only) | (split)
    | (with_reducible apply State.Keeps.of_pair (by assumption)) | (dsimp only))

theorem State.refillAll_keeps {r0 s : State} (k0 : r0.Keeps s)  :
    r0.Keeps (State.refillAll s) := by
  unfold State.refillAll
  try dsimp only
  repeat' (first
    | (with_reducible exact k0) | (with_reducible exact .refl _) | (with_reducible apply State.each_keeps)
    | (with_reducible apply State.refill_keeps) | ((with_reducible intro _ _); try dsimp only) | (split)
    | (with_reducible apply State.Keeps.of_pair (by assumption)) | (dsimp only))

theorem State.refillOlder_keeps {r0 s : State} (k0 : r0.Keeps s)  :
    r0.Keeps (State.refillOlder s) := by
  unfold State.refillOlder
  try dsimp only
  repeat' (first
    | (with_reducible exact k0) | (with_reducible exact .refl _) | (with_reducible apply State.refillAll_keeps)
    | ((with_reducible intro _ _); try dsimp only) | (split) | (with_reducible apply State.Keeps.of_pair (by assumption)) | (dsimp only))

theorem State.dispatchNext_keeps {r0 s : State} (k0 : r0.Keeps s) (lat : Nat) :
    r0.Keeps (State.dispatchNext s lat) := by
  unfold State.dispatchNext
  try dsimp only
  repeat' (first
    | (with_reducible exact k0) | (with_reducible exact .refl _) | (with_reducible apply State.noteBlocks_keeps)
    | (with_reducible apply State.dispatchTo_keeps) | (with_reducible apply State.refillAll_keeps)
    | ((with_reducible intro _ _); try dsimp only) | (split) | (with_reducible apply State.Keeps.of_pair (by assumption)) | (dsimp only))

theorem State.toRing_keeps {r0 s : State} (k0 : r0.Keeps s) (e : Spilled) :
    r0.Keeps (State.toRing s e) := by
  unfold State.toRing
  try dsimp only
  repeat' (first
    | (with_reducible exact k0) | (with_reducible exact .refl _) | (with_reducible apply State.onSched_keeps)
    | (with_reducible apply State.bump_keeps) | (with_reducible apply State.perfAdd_keeps) | (with_reducible apply State.raise_keeps)
    | (with_reducible apply State.schedRec_keeps) | (with_reducible apply State.eventLost_keeps)
    | ((with_reducible intro _ _); try dsimp only) | (split) | (with_reducible apply State.Keeps.of_pair (by assumption)) | (dsimp only))

theorem State.newEvent_keeps {r0 s0 : State} (k0 : r0.Keeps s0) (e : Spilled) :
    r0.Keeps (State.newEvent s0 e) := by
  unfold State.newEvent
  try dsimp only
  repeat' (first
    | (with_reducible exact k0) | (with_reducible exact .refl _) | (with_reducible apply State.refillAll_keeps)
    | (with_reducible apply State.setItem_keeps) | (with_reducible apply State.makeReady_keeps)
    | (with_reducible apply State.toRing_keeps) | ((with_reducible intro _ _); try dsimp only) | (split)
    | (with_reducible apply State.Keeps.of_pair (by assumption)) | (dsimp only))

theorem State.leaveSlot_keeps {r0 s : State} (k0 : r0.Keeps s) (slot : Nat) (i : Item) :
    r0.Keeps (State.leaveSlot s slot i) := by
  unfold State.leaveSlot
  try dsimp only
  repeat' (first
    | (with_reducible exact k0) | (with_reducible exact .refl _) | (with_reducible apply State.obsTouch_keeps)
    | (with_reducible apply State.onSched_keeps) | (with_reducible apply State.setItem_keeps)
    | (with_reducible apply State.flowFreed_keeps) | ((with_reducible intro _ _); try dsimp only) | (split)
    | (with_reducible apply State.Keeps.of_pair (by assumption)) | (dsimp only))

theorem State.completeItem_keeps {r0 s : State} (k0 : r0.Keeps s) (slot : Nat) (i : Item) :
    r0.Keeps (State.completeItem s slot i) := by
  unfold State.completeItem
  try dsimp only
  repeat' (first
    | (with_reducible exact k0) | (with_reducible exact .refl _) | (with_reducible apply State.bump_keeps)
    | (with_reducible apply State.perfAdd_keeps) | (with_reducible apply State.schedRec_keeps)
    | (with_reducible apply State.leaveSlot_keeps) | ((with_reducible intro _ _); try dsimp only) | (split)
    | (with_reducible apply State.Keeps.of_pair (by assumption)) | (dsimp only))

theorem State.terminateItem_keeps {r0 s : State} (k0 : r0.Keeps s) (slot : Nat) (i : Item) (reason : Nat) :
    r0.Keeps (State.terminateItem s slot i reason) := by
  unfold State.terminateItem
  try dsimp only
  repeat' (first
    | (with_reducible exact k0) | (with_reducible exact .refl _) | (with_reducible apply State.bump_keeps)
    | (with_reducible apply State.perfAdd_keeps) | (with_reducible apply State.schedRec_keeps)
    | (with_reducible apply State.leaveSlot_keeps) | ((with_reducible intro _ _); try dsimp only) | (split)
    | (with_reducible apply State.Keeps.of_pair (by assumption)) | (dsimp only))

theorem State.discardFacet_keeps {r0 s : State} (k0 : r0.Keeps s)  :
    r0.Keeps (State.discardFacet s) := by
  unfold State.discardFacet
  try dsimp only
  repeat' (first
    | (with_reducible exact k0) | (with_reducible exact .refl _) | (with_reducible apply State.onSched_keeps)
    | (with_reducible apply State.each_keeps) | (with_reducible apply State.terminateItem_keeps)
    | ((with_reducible intro _ _); try dsimp only) | (split) | (with_reducible apply State.Keeps.of_pair (by assumption)) | (dsimp only))

theorem State.expire_keeps {r0 s : State} (k0 : r0.Keeps s) (task : Nat) (t : Timer) :
    r0.Keeps (State.expire s task t) := by
  unfold State.expire
  try dsimp only
  repeat' (first
    | (with_reducible exact k0) | (with_reducible exact .refl _) | (with_reducible apply State.onSched_keeps)
    | (with_reducible apply State.bump_keeps) | (with_reducible apply State.raise_keeps) | (with_reducible apply State.schedRec_keeps)
    | (with_reducible apply State.perfAdd_keeps) | (with_reducible apply State.makeReady_keeps)
    | ((with_reducible intro _ _); try dsimp only) | (split) | (with_reducible apply State.Keeps.of_pair (by assumption)) | (dsimp only))

theorem State.listTickEdge_keeps {r0 s : State} (k0 : r0.Keeps s) (n : Nat) :
    r0.Keeps (State.listTickEdge s n) := by
  unfold State.listTickEdge
  try dsimp only
  repeat' (first
    | (with_reducible exact k0) | (with_reducible exact .refl _) | (with_reducible apply State.onSched_keeps)
    | (with_reducible apply State.each_keeps) | (with_reducible apply State.expire_keeps) | ((with_reducible intro _ _); try dsimp only)
    | (split) | (with_reducible apply State.Keeps.of_pair (by assumption)) | (dsimp only))

theorem State.cancelTimer_keeps {r0 s : State} (k0 : r0.Keeps s) (task : Nat) :
    r0.Keeps (State.cancelTimer s task) := by
  unfold State.cancelTimer
  try dsimp only
  repeat' (first
    | (with_reducible exact k0) | (with_reducible exact .refl _) | (with_reducible apply State.onSched_keeps)
    | (with_reducible apply State.leaveSlot_keeps) | ((with_reducible intro _ _); try dsimp only) | (split)
    | (with_reducible apply State.Keeps.of_pair (by assumption)) | (dsimp only))

/-! ### Machine/Fatal.lean -/

theorem State.setMode_keeps {r0 s : State} (k0 : r0.Keeps s) (m : Mode) (cause : Nat) :
    r0.Keeps (State.setMode s m cause) := by
  unfold State.setMode
  try dsimp only
  repeat' (first
    | (with_reducible exact k0) | (with_reducible exact .refl _) | (with_reducible apply State.onSys_keeps)
    | (with_reducible apply State.raise_keeps) | (with_reducible apply State.post_keeps) | (with_reducible apply State.noteDev_keeps)
    | (exact fun _ => ⟨rfl, rfl, id, fun _ => id⟩) | ((with_reducible intro _ _); try dsimp only) | (split)
    | (with_reducible apply State.Keeps.of_pair (by assumption)) | (dsimp only))

theorem State.fatalTrace_keeps {r0 s : State} (k0 : r0.Keeps s) (cause addr : Nat) :
    r0.Keeps (State.fatalTrace s cause addr) := by
  unfold State.fatalTrace
  try dsimp only
  repeat' (first
    | (with_reducible exact k0) | (with_reducible exact .refl _) | (with_reducible apply State.traceRec_keeps)
    | ((with_reducible intro _ _); try dsimp only) | (split) | (with_reducible apply State.Keeps.of_pair (by assumption)) | (dsimp only))

theorem State.countFatal_keeps {r0 s : State} (k0 : r0.Keeps s)  :
    r0.Keeps (State.countFatal s) := by
  unfold State.countFatal
  try dsimp only
  repeat' (first
    | (with_reducible exact k0) | (with_reducible exact .refl _) | (with_reducible apply State.setFld_keeps)
    | (with_reducible apply State.bump_keeps) | ((with_reducible intro _ _); try dsimp only) | (split)
    | (with_reducible apply State.Keeps.of_pair (by assumption)) | (dsimp only))

theorem State.secondFatal_keeps {r0 s : State} (k0 : r0.Keeps s) (f : Fatal) (cause detail : Nat) :
    r0.Keeps (State.secondFatal s f cause detail) := by
  unfold State.secondFatal
  try dsimp only
  repeat' (first
    | (with_reducible exact k0) | (with_reducible exact .refl _) | (with_reducible apply State.onSys_keeps)
    | (with_reducible apply State.setFld_keeps) | (exact fun _ => ⟨rfl, rfl, id, fun _ => id⟩)
    | ((with_reducible intro _ _); try dsimp only) | (split) | (with_reducible apply State.Keeps.of_pair (by assumption)) | (dsimp only))

theorem State.abandonMode_keeps {r0 s : State} (k0 : r0.Keeps s)  :
    r0.Keeps (State.abandonMode s) := by
  unfold State.abandonMode
  try dsimp only
  repeat' (first
    | (with_reducible exact k0) | (with_reducible exact .refl _) | (with_reducible apply State.onSys_keeps)
    | (with_reducible apply State.endJob_keeps) | (exact fun _ => ⟨rfl, rfl, id, fun _ => id⟩)
    | ((with_reducible intro _ _); try dsimp only) | (split) | (with_reducible apply State.Keeps.of_pair (by assumption)) | (dsimp only))

theorem State.fatalError_keeps {r0 s : State} (k0 : r0.Keeps s) (cause detail : Nat) :
    r0.Keeps (State.fatalError s cause detail) := by
  unfold State.fatalError
  try dsimp only
  repeat' (first
    | (with_reducible exact k0) | (with_reducible exact .refl _) | (with_reducible apply State.fatalTrace_keeps)
    | (with_reducible apply State.countFatal_keeps) | (with_reducible apply State.secondFatal_keeps)
    | (with_reducible apply State.forcedDrop_keeps) | (with_reducible apply State.onSys_keeps) | (with_reducible apply State.setFld_keeps)
    | (with_reducible apply State.raise_keeps) | (with_reducible apply State.discardFacet_keeps)
    | (with_reducible apply State.abandonMode_keeps) | (exact fun _ => ⟨rfl, rfl, id, fun _ => id⟩)
    | ((with_reducible intro _ _); try dsimp only) | (split) | (with_reducible apply State.Keeps.of_pair (by assumption)) | (dsimp only))

/-! ### Machine/Meta.lean -/

theorem State.discardItems_keeps {r0 s : State} (k0 : r0.Keeps s) (p : Nat → Int → Bool) :
    r0.Keeps (State.discardItems s p) := by
  unfold State.discardItems
  try dsimp only
  repeat' (first
    | (with_reducible exact k0) | (with_reducible exact .refl _) | (with_reducible apply State.onScene_keeps)
    | (with_reducible apply State.onPrism_keeps) | (with_reducible apply State.bump_keeps) | (with_reducible apply State.perfAdd_keeps)
    | (with_reducible apply foldl_keeps) | (with_reducible apply foldlState_keeps) | ((with_reducible intro _ _); try dsimp only)
    | (split) | (with_reducible apply State.Keeps.of_pair (by assumption)) | (dsimp only))

theorem State.applyUpd_keeps {r0 s : State} (k0 : r0.Keeps s) (r : Rec) (f : Int) :
    r0.Keeps (State.applyUpd s r f) := by
  unfold State.applyUpd
  try dsimp only
  repeat' (first
    | (with_reducible exact k0) | (with_reducible exact .refl _) | (with_reducible apply State.setObj_keeps)
    | (with_reducible apply State.discardItems_keeps) | (with_reducible apply State.perfAdd_keeps)
    | (with_reducible apply State.bump_keeps) | ((with_reducible intro _ _); try dsimp only) | (split)
    | (with_reducible apply State.Keeps.of_pair (by assumption)) | (dsimp only))

theorem State.applyLate_keeps {r0 s : State} (k0 : r0.Keeps s) (r : Rec) :
    r0.Keeps (State.applyLate s r) := by
  unfold State.applyLate
  try dsimp only
  repeat' (first
    | (with_reducible exact k0) | (with_reducible exact .refl _) | (with_reducible apply State.applyUpd_keeps)
    | (with_reducible apply State.bump_keeps) | (with_reducible apply State.raise_keeps) | (with_reducible apply State.perfAdd_keeps)
    | ((with_reducible intro _ _); try dsimp only) | (split) | (with_reducible apply State.Keeps.of_pair (by assumption)) | (dsimp only))

theorem State.applyInside_keeps {r0 s : State} (k0 : r0.Keeps s) (r : Rec) (d : Nat) :
    r0.Keeps (State.applyInside s r d) := by
  unfold State.applyInside
  try dsimp only
  repeat' (first
    | (with_reducible exact k0) | (with_reducible exact .refl _) | (with_reducible apply State.applyUpd_keeps)
    | (with_reducible apply State.bump_keeps) | ((with_reducible intro _ _); try dsimp only) | (split)
    | (with_reducible apply State.Keeps.of_pair (by assumption)) | (dsimp only))

theorem State.enqueue_keeps {r0 s : State} (k0 : r0.Keeps s) (r : Rec) :
    r0.Keeps (State.enqueue s r) := by
  unfold State.enqueue
  try dsimp only
  repeat' (first
    | (with_reducible exact k0) | (with_reducible exact .refl _) | (with_reducible apply State.setObj_keeps)
    | (with_reducible apply State.bump_keeps) | (with_reducible apply State.raise_keeps) | ((with_reducible intro _ _); try dsimp only)
    | (split) | (with_reducible apply State.Keeps.of_pair (by assumption)) | (dsimp only))

theorem State.noteSince_keeps {r0 s : State} (k0 : r0.Keeps s) (r : Rec) (src : Nat) (f : Option Int) :
    r0.Keeps (State.noteSince s r src f) := by
  unfold State.noteSince
  try dsimp only
  repeat' (first
    | (with_reducible exact k0) | (with_reducible exact .refl _) | (with_reducible apply State.setObj_keeps)
    | ((with_reducible intro _ _); try dsimp only) | (split) | (with_reducible apply State.Keeps.of_pair (by assumption)) | (dsimp only))

theorem State.update_keeps {r0 s : State} (k0 : r0.Keeps s) (r : Rec) (src : Nat) (sameStamp : Bool) :
    r0.Keeps (State.update s r src sameStamp) := by
  unfold State.update
  try dsimp only
  repeat' (first
    | (with_reducible exact k0) | (with_reducible exact .refl _) | (with_reducible apply State.setObj_keeps)
    | (with_reducible apply State.noteSince_keeps) | (with_reducible apply State.applyLate_keeps)
    | (with_reducible apply State.applyInside_keeps) | (with_reducible apply State.enqueue_keeps)
    | (with_reducible apply State.bump_keeps) | ((with_reducible intro _ _); try dsimp only) | (split)
    | (with_reducible apply State.Keeps.of_pair (by assumption)) | (dsimp only))

theorem State.pendRec_keeps {r0 s : State} (k0 : r0.Keeps s) (r : Rec) :
    r0.Keeps (State.pendRec s r) := by
  unfold State.pendRec
  try dsimp only
  repeat' (first
    | (with_reducible exact k0) | (with_reducible exact .refl _) | (with_reducible apply State.onHier_keeps)
    | ((with_reducible intro _ _); try dsimp only) | (split) | (with_reducible apply State.Keeps.of_pair (by assumption)) | (dsimp only))

theorem State.judge_keeps {r0 s : State} (k0 : r0.Keeps s) (src : Nat) (own : Bool) (r : Rec) :
    r0.Keeps (State.judge s src own r).1 := by
  unfold State.judge
  try dsimp only
  repeat' (first
    | (with_reducible exact k0) | (with_reducible exact .refl _) | (with_reducible apply State.bump_keeps)
    | (with_reducible apply State.setObj_keeps) | (with_reducible apply State.pendRec_keeps) | (with_reducible apply State.update_keeps)
    | ((with_reducible intro _ _); try dsimp only) | (split) | (with_reducible apply State.Keeps.of_pair (by assumption)) | (dsimp only))

theorem State.judgeAll_keeps {r0 s : State} (k0 : r0.Keeps s) (src : Nat) (own : Bool) (z1 : List Rec) :
    r0.Keeps (State.judgeAll s src own z1).1 := by
  induction z1 generalizing s with
  | nil =>
    unfold State.judgeAll
    try dsimp only
    repeat' (first
      | (with_reducible exact k0) | (with_reducible exact .refl _) | (with_reducible apply State.judge_keeps)
      | ((with_reducible intro _ _); try dsimp only) | (split) | (with_reducible apply State.Keeps.of_pair (by assumption)) | (dsimp only))
  | cons _ _ ih =>
    unfold State.judgeAll
    try dsimp only
    repeat' (first
      | (with_reducible exact k0) | (with_reducible exact .refl _) | (with_reducible apply ih) | (with_reducible apply State.judge_keeps)
      | ((with_reducible intro _ _); try dsimp only) | (split) | (with_reducible apply State.Keeps.of_pair (by assumption)) | (dsimp only))

theorem State.again_keeps {r0 s : State} (k0 : r0.Keeps s) (j : Nat) (e : Since) :
    r0.Keeps (State.again s j e) := by
  unfold State.again
  try dsimp only
  repeat' (first
    | (with_reducible exact k0) | (with_reducible exact .refl _) | (with_reducible apply State.setObj_keeps)
    | ((with_reducible intro _ _); try dsimp only) | (split) | (with_reducible apply State.Keeps.of_pair (by assumption)) | (dsimp only))

theorem State.release_keeps {r0 s : State} (k0 : r0.Keeps s) (j : Nat) :
    r0.Keeps (State.release s j) := by
  unfold State.release
  try dsimp only
  repeat' (first
    | (with_reducible exact k0) | (with_reducible exact .refl _) | (with_reducible apply State.setObj_keeps)
    | (with_reducible apply State.discardItems_keeps) | (with_reducible apply State.each_keeps) | (with_reducible apply State.again_keeps)
    | ((with_reducible intro _ _); try dsimp only) | (split) | (with_reducible apply State.Keeps.of_pair (by assumption)) | (dsimp only))

theorem State.releaseQueue_keeps {r0 s : State} (k0 : r0.Keeps s) (j : Nat) (z1 : Nat) :
    r0.Keeps (State.releaseQueue s j z1) := by
  induction z1 generalizing s with
  | zero =>
    unfold State.releaseQueue
    try dsimp only
    repeat' (first
      | (with_reducible exact k0) | (with_reducible exact .refl _) | (with_reducible apply State.setObj_keeps)
      | (with_reducible apply State.applyLate_keeps) | (with_reducible apply State.applyInside_keeps)
      | ((with_reducible intro _ _); try dsimp only) | (split) | (with_reducible apply State.Keeps.of_pair (by assumption)) | (dsimp only))
  | succ _ ih =>
    unfold State.releaseQueue
    try dsimp only
    repeat' (first
      | (with_reducible exact k0) | (with_reducible exact .refl _) | (with_reducible apply ih) | (with_reducible apply State.setObj_keeps)
      | (with_reducible apply State.applyLate_keeps) | (with_reducible apply State.applyInside_keeps)
      | ((with_reducible intro _ _); try dsimp only) | (split) | (with_reducible apply State.Keeps.of_pair (by assumption)) | (dsimp only))

theorem State.metaConfig_keeps {r0 s : State} (k0 : r0.Keeps s)  :
    r0.Keeps (State.metaConfig s) := by
  unfold State.metaConfig
  try dsimp only
  repeat' (first
    | (with_reducible exact k0) | (with_reducible exact .refl _) | (with_reducible apply State.setFld_keeps)
    | (with_reducible apply State.onScene_keeps) | (with_reducible apply State.discardItems_keeps)
    | ((with_reducible intro _ _); try dsimp only) | (split) | (with_reducible apply State.Keeps.of_pair (by assumption)) | (dsimp only))

theorem State.metaBoundary_keeps {r0 s : State} (k0 : r0.Keeps s)  :
    r0.Keeps (State.metaBoundary s) := by
  unfold State.metaBoundary
  try dsimp only
  repeat' (first
    | (with_reducible exact k0) | (with_reducible exact .refl _) | (with_reducible apply State.each_keeps)
    | (with_reducible apply State.releaseQueue_keeps) | ((with_reducible intro _ _); try dsimp only) | (split)
    | (with_reducible apply State.Keeps.of_pair (by assumption)) | (dsimp only))

theorem State.metaEntry_keeps {r0 s : State} (k0 : r0.Keeps s)  :
    r0.Keeps (State.metaEntry s) := by
  unfold State.metaEntry
  try dsimp only
  repeat' (first
    | (with_reducible exact k0) | (with_reducible exact .refl _) | (with_reducible apply State.each_keeps)
    | (with_reducible apply State.setObj_keeps) | (with_reducible apply State.hold_keeps) | ((with_reducible intro _ _); try dsimp only)
    | (split) | (with_reducible apply State.Keeps.of_pair (by assumption)) | (dsimp only))

theorem State.metaPark_keeps {r0 s : State} (k0 : r0.Keeps s)  :
    r0.Keeps (State.metaPark s) := by
  unfold State.metaPark
  try dsimp only
  repeat' (first
    | (with_reducible exact k0) | (with_reducible exact .refl _) | (with_reducible apply State.each_keeps)
    | (with_reducible apply State.setObj_keeps) | ((with_reducible intro _ _); try dsimp only) | (split)
    | (with_reducible apply State.Keeps.of_pair (by assumption)) | (dsimp only))

/-! ### Machine/Focus.lean -/

theorem State.workAhead_keeps {r0 s : State} (k0 : r0.Keeps s) (q : Int) (paths : List Path) :
    r0.Keeps (State.workAhead s q paths) := by
  unfold State.workAhead
  try dsimp only
  repeat' (first
    | (with_reducible exact k0) | (with_reducible exact .refl _) | (with_reducible apply State.each_keeps)
    | (with_reducible apply State.setObj_keeps) | (with_reducible apply State.onPrism_keeps) | (with_reducible apply State.bump_keeps)
    | (with_reducible apply State.raise_keeps) | (with_reducible apply State.perfAdd_keeps) | ((with_reducible intro _ _); try dsimp only)
    | (split) | (with_reducible apply State.Keeps.of_pair (by assumption)) | (dsimp only))

theorem State.setupRead_keeps {r0 s : State} (k0 : r0.Keeps s) (q : Int) :
    r0.Keeps (State.setupRead s q) := by
  unfold State.setupRead
  try dsimp only
  repeat' (first
    | (with_reducible exact k0) | (with_reducible exact .refl _) | (with_reducible apply State.each_keeps)
    | (with_reducible apply State.setObj_keeps) | ((with_reducible intro _ _); try dsimp only) | (split)
    | (with_reducible apply State.Keeps.of_pair (by assumption)) | (dsimp only))

theorem State.setupCounts_keeps {r0 s : State} (k0 : r0.Keeps s) (u : Setup) (limited : Nat) (stale : Bool) :
    r0.Keeps (State.setupCounts s u limited stale) := by
  unfold State.setupCounts
  try dsimp only
  repeat' (first
    | (with_reducible exact k0) | (with_reducible exact .refl _) | (with_reducible apply State.bump_keeps)
    | (with_reducible apply State.perfAdd_keeps) | (with_reducible apply State.raise_keeps) | ((with_reducible intro _ _); try dsimp only)
    | (split) | (with_reducible apply State.Keeps.of_pair (by assumption)) | (dsimp only))

theorem State.markReleased_keeps {r0 s : State} (k0 : r0.Keeps s)  :
    r0.Keeps (State.markReleased s) := by
  unfold State.markReleased
  try dsimp only
  repeat' (first
    | (with_reducible exact k0) | (with_reducible exact .refl _) | (with_reducible apply State.onPrism_keeps)
    | ((with_reducible intro _ _); try dsimp only) | (split) | (with_reducible apply State.Keeps.of_pair (by assumption)) | (dsimp only))

theorem State.pathSetup_keeps {r0 s : State} (k0 : r0.Keeps s) (q : Int) :
    r0.Keeps (State.pathSetup s q) := by
  unfold State.pathSetup
  try dsimp only
  repeat' (first
    | (with_reducible exact k0) | (with_reducible exact .refl _) | (with_reducible apply State.markReleased_keeps)
    | (with_reducible apply State.onPrism_keeps) | (with_reducible apply State.setupRead_keeps)
    | (with_reducible apply State.setupCounts_keeps) | (with_reducible apply State.workAhead_keeps)
    | ((with_reducible intro _ _); try dsimp only) | (split) | (with_reducible apply State.Keeps.of_pair (by assumption)) | (dsimp only))

theorem State.stepAir_keeps {r0 s : State} (k0 : r0.Keeps s)  :
    r0.Keeps (State.stepAir s) := by
  unfold State.stepAir
  try dsimp only
  repeat' (first
    | (with_reducible exact k0) | (with_reducible exact .refl _) | (with_reducible apply State.onScene_keeps)
    | ((with_reducible intro _ _); try dsimp only) | (split) | (with_reducible apply State.Keeps.of_pair (by assumption)) | (dsimp only))

theorem State.commitLayout_keeps {r0 s : State} (k0 : r0.Keeps s)  :
    r0.Keeps (State.commitLayout s) := by
  unfold State.commitLayout
  try dsimp only
  repeat' (first
    | (with_reducible exact k0) | (with_reducible exact .refl _) | (with_reducible apply State.onScene_keeps)
    | (with_reducible apply State.discardItems_keeps) | ((with_reducible intro _ _); try dsimp only) | (split)
    | (with_reducible apply State.Keeps.of_pair (by assumption)) | (dsimp only))

theorem State.commitSetup_keeps {r0 s : State} (k0 : r0.Keeps s) (late : List Nat) :
    r0.Keeps (State.commitSetup s late) := by
  unfold State.commitSetup
  try dsimp only
  repeat' (first
    | (with_reducible exact k0) | (with_reducible exact .refl _) | (with_reducible apply State.onPrism_keeps)
    | (with_reducible apply State.each_keeps) | (with_reducible apply State.setObj_keeps) | (with_reducible apply State.bump_keeps)
    | (with_reducible apply State.perfAdd_keeps) | (with_reducible apply State.raise_keeps) | (with_reducible apply State.traceRec_keeps)
    | ((with_reducible intro _ _); try dsimp only) | (split) | (with_reducible apply State.Keeps.of_pair (by assumption)) | (dsimp only))

theorem State.place_keeps {r0 s : State} (k0 : r0.Keeps s) (kind idx n : Nat) {e : Nat × State} (h1 : State.place s kind idx n = some e) :
    r0.Keeps e.2 := by
  unfold State.place at h1
  split at h1
  · injection h1 with h1; subst h1; exact k0
  · obtain ⟨u, -, h3⟩ := Option.map_eq_some_iff.1 h1
    subst h3
    dsimp only
    with_reducible exact State.onPrism_keeps (State.onDdrc_keeps k0 _) _

theorem State.place_keeps' {r0 s : State} (k0 : r0.Keeps s) (kind idx n : Nat) {u : Nat} {t : State}
    (h1 : State.place s kind idx n = some (u, t)) : r0.Keeps t := State.place_keeps k0 kind idx n h1

theorem State.unplace_keeps {r0 s : State} (k0 : r0.Keeps s) (kind idx : Nat) :
    r0.Keeps (State.unplace s kind idx) := by
  unfold State.unplace
  try dsimp only
  repeat' (first
    | (with_reducible exact k0) | (with_reducible exact .refl _) | (with_reducible apply State.onDdrc_keeps)
    | (with_reducible apply State.onPrism_keeps) | ((with_reducible intro _ _); try dsimp only) | (split)
    | (with_reducible apply State.Keeps.of_pair (by assumption)) | (dsimp only))

theorem State.placeLine_keeps {r0 s : State} (k0 : r0.Keeps s) (j : Nat) {t1 : State} (h1 : (State.placeLine s j) = some t1) :
    r0.Keeps t1 := by
  unfold State.placeLine at h1
  try dsimp only at h1
  repeat' (first
    | (cases h1; done) | (injection h1 with h1; subst h1) | (split at h1)
    | (obtain ⟨e1, h2, h3⟩ := Option.map_eq_some_iff.1 h1; clear h1; subst h3; try dsimp only))
  all_goals repeat' (first
    | (with_reducible exact k0) | (with_reducible exact .refl _) | (with_reducible apply State.setObj_keeps)
    | (with_reducible apply State.withMem_keeps) | (with_reducible refine State.place_keeps ?_ _ _ _ (by assumption))
    | (with_reducible refine State.place_keeps' ?_ _ _ _ (by assumption))
    | (intro hm; (repeat (first | exact hm | apply mwrite_wf | apply mclear_wf | apply mmove_wf)); done)
    | ((with_reducible intro _ _); try dsimp only) | (split) | (with_reducible apply State.Keeps.of_pair (by assumption)) | (dsimp only))

theorem State.freeLine_keeps {r0 s : State} (k0 : r0.Keeps s) (j : Nat) :
    r0.Keeps (State.freeLine s j) := by
  unfold State.freeLine
  try dsimp only
  repeat' (first
    | (with_reducible exact k0) | (with_reducible exact .refl _) | (with_reducible apply State.setObj_keeps)
    | (with_reducible apply State.onDdrc_keeps) | (with_reducible apply State.onPrism_keeps)
    | ((with_reducible intro _ _); try dsimp only) | (split) | (with_reducible apply State.Keeps.of_pair (by assumption)) | (dsimp only))

theorem State.tidyLine_keeps {r0 s : State} (k0 : r0.Keeps s) (j : Nat) :
    r0.Keeps (State.tidyLine s j) := by
  unfold State.tidyLine
  try dsimp only
  repeat' (first
    | (with_reducible exact k0) | (with_reducible exact .refl _) | (with_reducible apply State.freeLine_keeps)
    | ((with_reducible intro _ _); try dsimp only) | (split) | (with_reducible apply State.Keeps.of_pair (by assumption)) | (dsimp only))

theorem State.relocateLine_keeps {r0 s : State} (k0 : r0.Keeps s) (j : Nat) {t1 : State} (h1 : (State.relocateLine s j) = some t1) :
    r0.Keeps t1 := by
  unfold State.relocateLine at h1
  try dsimp only at h1
  repeat' (first
    | (cases h1; done) | (injection h1 with h1; subst h1) | (split at h1)
    | (obtain ⟨e1, h2, h3⟩ := Option.map_eq_some_iff.1 h1; clear h1; subst h3; try dsimp only))
  all_goals repeat' (first
    | (with_reducible exact k0) | (with_reducible exact .refl _) | (with_reducible apply State.freeLine_keeps)
    | (with_reducible apply State.withMem_keeps) | (with_reducible refine State.placeLine_keeps ?_ _ (by assumption))
    | (intro hm; (repeat (first | exact hm | apply mwrite_wf | apply mclear_wf | apply mmove_wf)); done)
    | ((with_reducible intro _ _); try dsimp only) | (split) | (with_reducible apply State.Keeps.of_pair (by assumption)) | (dsimp only))

/-! ### Machine/Lens.lean -/

theorem State.setLensBus_keeps {r0 s : State} (k0 : r0.Keeps s) (b : Nat) (v : LensBus) :
    r0.Keeps (State.setLensBus s b v) := by
  unfold State.setLensBus
  try dsimp only
  repeat' (first
    | (with_reducible exact k0) | (with_reducible exact .refl _) | (with_reducible apply State.onLens_keeps)
    | ((with_reducible intro _ _); try dsimp only) | (split) | (with_reducible apply State.Keeps.of_pair (by assumption)) | (dsimp only))

theorem State.lensQuantum_keeps {r0 s : State} (k0 : r0.Keeps s) (b : Nat) (q : Int) (xs : List Nat) :
    r0.Keeps (State.lensQuantum s b q xs).1 := by
  unfold State.lensQuantum
  try dsimp only
  repeat' (first
    | (with_reducible exact k0) | (with_reducible exact .refl _) | (with_reducible apply State.setLensBus_keeps)
    | (with_reducible apply State.bump_keeps) | (with_reducible apply State.perfAdd_keeps) | (with_reducible apply State.raise_keeps)
    | ((with_reducible intro _ _); try dsimp only) | (split) | (with_reducible apply State.Keeps.of_pair (by assumption)) | (dsimp only))

/-! ### Machine/Tails.lean -/

theorem State.tailEcc_keeps {r0 s : State} (k0 : r0.Keeps s) (b bank k : Nat) :
    r0.Keeps (State.tailEcc s b bank k) := by
  unfold State.tailEcc
  try dsimp only
  repeat' (first
    | (with_reducible exact k0) | (with_reducible exact .refl _) | (with_reducible apply State.bump_keeps)
    | (with_reducible apply State.perfAdd_keeps) | (with_reducible apply State.raise_keeps) | (with_reducible apply State.post_keeps)
    | ((with_reducible intro _ _); try dsimp only) | (split) | (with_reducible apply State.Keeps.of_pair (by assumption)) | (dsimp only))

theorem State.tailFail_keeps {r0 s : State} (k0 : r0.Keeps s) (port a : Nat) :
    r0.Keeps (State.tailFail s port a) := by
  unfold State.tailFail
  try dsimp only
  repeat' (first
    | (with_reducible exact k0) | (with_reducible exact .refl _) | (with_reducible apply State.setLensBus_keeps)
    | (with_reducible apply State.tailEcc_keeps) | ((with_reducible intro _ _); try dsimp only) | (split)
    | (with_reducible apply State.Keeps.of_pair (by assumption)) | (dsimp only))

/-! ### Machine/Dram.lean -/

theorem State.activate_keeps {r0 s : State} (k0 : r0.Keeps s) (port chan bank row : Nat) :
    r0.Keeps (State.activate s port chan bank row) := by
  unfold State.activate
  try dsimp only
  repeat' (first
    | (with_reducible exact k0) | (with_reducible exact .refl _) | (with_reducible apply State.onDdrc_keeps)
    | (with_reducible apply State.openRow_keeps) | (with_reducible apply State.perfAdd_keeps) | (with_reducible apply State.bump_keeps)
    | (with_reducible apply State.raise_keeps) | (with_reducible apply State.post_keeps) | ((with_reducible intro _ _); try dsimp only)
    | (split) | (with_reducible apply State.Keeps.of_pair (by assumption)) | (dsimp only))

theorem State.openRow_keeps {r0 s : State} (k0 : r0.Keeps s) (port chan bank row : Nat) :
    r0.Keeps (State.openRow s port chan bank row) := by
  unfold State.openRow
  try dsimp only
  repeat' (first
    | (with_reducible exact k0) | (with_reducible exact .refl _) | (with_reducible apply State.activate_keeps)
    | ((with_reducible intro _ _); try dsimp only) | (split) | (with_reducible apply State.Keeps.of_pair (by assumption)) | (dsimp only))

theorem State.retire_keeps {r0 s : State} (k0 : r0.Keeps s) (port addr : Nat) :
    r0.Keeps (State.retire s port addr) := by
  unfold State.retire
  try dsimp only
  repeat' (first
    | (with_reducible exact k0) | (with_reducible exact .refl _) | (with_reducible apply State.fatalError_keeps)
    | (with_reducible apply State.onDdrc_keeps) | (with_reducible apply State.raise_keeps) | (with_reducible apply State.post_keeps)
    | ((with_reducible intro _ _); try dsimp only) | (split) | (with_reducible apply State.Keeps.of_pair (by assumption)) | (dsimp only))

theorem State.streamFail_keeps {r0 s : State} (k0 : r0.Keeps s) (a : Nat) :
    r0.Keeps (State.streamFail s a) := by
  unfold State.streamFail
  try dsimp only
  repeat' (first
    | (with_reducible exact k0) | (with_reducible exact .refl _) | (with_reducible apply State.onNet_keeps)
    | (with_reducible refine State.place_keeps ?_ _ _ _ (by assumption))
    | (with_reducible refine State.place_keeps' ?_ _ _ _ (by assumption)) | ((with_reducible intro _ _); try dsimp only) | (split)
    | (with_reducible apply State.Keeps.of_pair (by assumption)) | (dsimp only))

theorem State.burstBad_keeps {r0 s : State} (k0 : r0.Keeps s) (j : Nat) (f : Int) :
    r0.Keeps (State.burstBad s j f) := by
  unfold State.burstBad
  try dsimp only
  repeat' (first
    | (with_reducible exact k0) | (with_reducible exact .refl _) | (with_reducible apply State.setObj_keeps)
    | (with_reducible apply State.bump_keeps) | (with_reducible apply State.raise_keeps) | (with_reducible apply State.post_keeps)
    | ((with_reducible intro _ _); try dsimp only) | (split) | (with_reducible apply State.Keeps.of_pair (by assumption)) | (dsimp only))

theorem State.bulkFail_keeps {r0 s : State} (k0 : r0.Keeps s) (port a : Nat) :
    r0.Keeps (State.bulkFail s port a) := by
  unfold State.bulkFail
  try dsimp only
  repeat' (first
    | (with_reducible exact k0) | (with_reducible exact .refl _) | (with_reducible apply State.burstBad_keeps)
    | ((with_reducible intro _ _); try dsimp only) | (split) | (with_reducible apply State.Keeps.of_pair (by assumption)) | (dsimp only))

theorem State.eccOutcome_keeps {r0 s : State} (k0 : r0.Keeps s) (port addr : Nat) (z1 : Ecc) :
    r0.Keeps (State.eccOutcome s port addr z1) := by
  unfold State.eccOutcome
  try dsimp only
  repeat' (first
    | (with_reducible exact k0) | (with_reducible exact .refl _) | (with_reducible apply State.corrected_keeps)
    | (with_reducible apply State.bump_keeps) | (with_reducible apply State.perfAdd_keeps) | (with_reducible apply State.raise_keeps)
    | (with_reducible apply State.wr_keeps) | (with_reducible apply State.retire_keeps) | (with_reducible apply State.spillFail_keeps)
    | (with_reducible apply State.streamFail_keeps) | ((with_reducible intro _ _); try dsimp only) | (split)
    | (with_reducible apply State.Keeps.of_pair (by assumption)) | (dsimp only))

theorem State.dramWrite_keeps {r0 s : State} (k0 : r0.Keeps s) (r : DramReq) :
    r0.Keeps (State.dramWrite s r) := by
  unfold State.dramWrite
  try dsimp only
  repeat' (first
    | (with_reducible exact k0) | (with_reducible exact .refl _) | (with_reducible apply State.withMem_keeps)
    | (intro hm; (repeat (first | exact hm | apply mwrite_wf | apply mclear_wf | apply mmove_wf)); done)
    | ((with_reducible intro _ _); try dsimp only) | (split) | (with_reducible apply State.Keeps.of_pair (by assumption)) | (dsimp only))

theorem State.dramResult_keeps {r0 s : State} (k0 : r0.Keeps s) (r : DramReq) (d : Bytes) :
    r0.Keeps (State.dramResult s r d) := by
  unfold State.dramResult
  try dsimp only
  repeat' (first
    | (with_reducible exact k0) | (with_reducible exact .refl _) | (with_reducible apply State.withRdata_keeps)
    | (with_reducible apply State.withRstat_keeps)
    | (intro hm; (repeat (first | exact hm | apply mwrite_wf | apply mclear_wf | apply mmove_wf)); done)
    | ((with_reducible intro _ _); try dsimp only) | (split) | (with_reducible apply State.Keeps.of_pair (by assumption)) | (dsimp only))

theorem State.dramRowsFor_keeps {r0 s : State} (k0 : r0.Keeps s) (r : DramReq) :
    r0.Keeps (State.dramRowsFor s r) := by
  unfold State.dramRowsFor
  try dsimp only
  repeat' (first
    | (with_reducible exact k0) | (with_reducible exact .refl _) | (with_reducible apply State.openRow_keeps)
    | ((with_reducible intro _ _); try dsimp only) | (split) | (with_reducible apply State.Keeps.of_pair (by assumption)) | (dsimp only))

theorem State.dramArray_keeps {r0 s : State} (k0 : r0.Keeps s) (older : List DramReq) (r : DramReq) :
    r0.Keeps (State.dramArray s older r) := by
  unfold State.dramArray
  try dsimp only
  repeat' (first
    | (with_reducible exact k0) | (with_reducible exact .refl _) | (with_reducible apply State.dramRowsFor_keeps)
    | (with_reducible apply State.perfAdd_keeps) | (with_reducible apply State.bump_keeps) | (with_reducible apply State.eccOutcome_keeps)
    | (with_reducible apply State.tailFail_keeps) | (with_reducible apply State.bulkFail_keeps)
    | (with_reducible apply State.dramWrite_keeps) | (with_reducible apply State.dramResult_keeps)
    | ((with_reducible intro _ _); try dsimp only) | (split) | (with_reducible apply State.Keeps.of_pair (by assumption)) | (dsimp only))

theorem State.dramServe_keeps {r0 s : State} (k0 : r0.Keeps s) (older : List DramReq) (r : DramReq) :
    r0.Keeps (State.dramServe s older r) := by
  unfold State.dramServe
  try dsimp only
  repeat' (first
    | (with_reducible exact k0) | (with_reducible exact .refl _) | (with_reducible apply State.perfAdd_keeps)
    | (with_reducible apply State.dramResult_keeps) | (with_reducible apply State.dramArray_keeps)
    | (with_reducible apply State.bump_keeps) | ((with_reducible intro _ _); try dsimp only) | (split)
    | (with_reducible apply State.Keeps.of_pair (by assumption)) | (dsimp only))

theorem State.dramDrain_keeps {r0 s : State} (k0 : r0.Keeps s) (z1 : Nat) :
    r0.Keeps (State.dramDrain s z1) := by
  induction z1 generalizing s with
  | zero =>
    unfold State.dramDrain
    try dsimp only
    repeat' (first
      | (with_reducible exact k0) | (with_reducible exact .refl _) | (with_reducible apply State.onDdrc_keeps)
      | (with_reducible apply State.dramServe_keeps) | (with_reducible apply State.withRstat_keeps) | (with_reducible apply foldl_keeps)
      | (with_reducible apply foldlState_keeps)
      | (intro hm; (repeat (first | exact hm | apply mwrite_wf | apply mclear_wf | apply mmove_wf)); done)
      | ((with_reducible intro _ _); try dsimp only) | (split) | (with_reducible apply State.Keeps.of_pair (by assumption)) | (dsimp only))
  | succ _ ih =>
    unfold State.dramDrain
    try dsimp only
    repeat' (first
      | (with_reducible exact k0) | (with_reducible exact .refl _) | (with_reducible apply ih) | (with_reducible apply State.onDdrc_keeps)
      | (with_reducible apply State.dramServe_keeps) | (with_reducible apply State.withRstat_keeps) | (with_reducible apply foldl_keeps)
      | (with_reducible apply foldlState_keeps)
      | (intro hm; (repeat (first | exact hm | apply mwrite_wf | apply mclear_wf | apply mmove_wf)); done)
      | ((with_reducible intro _ _); try dsimp only) | (split) | (with_reducible apply State.Keeps.of_pair (by assumption)) | (dsimp only))

theorem State.dramServeAll_keeps {r0 s : State} (k0 : r0.Keeps s)  :
    r0.Keeps (State.dramServeAll s) := by
  unfold State.dramServeAll
  try dsimp only
  repeat' (first
    | (with_reducible exact k0) | (with_reducible exact .refl _) | (with_reducible apply State.dramDrain_keeps)
    | ((with_reducible intro _ _); try dsimp only) | (split) | (with_reducible apply State.Keeps.of_pair (by assumption)) | (dsimp only))

theorem execDramRequest_keeps {r0 s : State} (k0 : r0.Keeps s) (reqs : List DramReq) :
    r0.KeepsNext (execDramRequest reqs s) := by
  unfold execDramRequest
  try dsimp only
  repeat' (first
    | (with_reducible apply State.KeepsNext.next) | (with_reducible exact k0) | (with_reducible exact .refl _)
    | (with_reducible apply State.withRdata_keeps) | (with_reducible apply State.withRstat_keeps)
    | (with_reducible apply State.onDdrc_keeps) | (with_reducible apply State.dramServeAll_keeps)
    | (intro hm; (repeat (first | exact hm | apply mwrite_wf | apply mclear_wf | apply mmove_wf)); done)
    | ((with_reducible intro _ _); try dsimp only) | (split) | (with_reducible apply State.Keeps.of_pair (by assumption)) | (dsimp only))

theorem execRefresh_keeps {r0 s : State} (k0 : r0.Keeps s) (chan bank : Nat) :
    r0.KeepsNext (execRefresh chan bank s) := by
  unfold execRefresh
  try dsimp only
  repeat' (first
    | (with_reducible apply State.KeepsNext.next) | (with_reducible exact k0) | (with_reducible exact .refl _)
    | (with_reducible apply State.onDdrc_keeps) | (with_reducible apply State.openRow_keeps) | (with_reducible apply State.perfAdd_keeps)
    | ((with_reducible intro _ _); try dsimp only) | (split) | (with_reducible apply State.Keeps.of_pair (by assumption)) | (dsimp only))

theorem State.mr4Code_keeps {r0 s : State} (k0 : r0.Keeps s) (c code : Nat) :
    r0.Keeps (State.mr4Code s c code) := by
  unfold State.mr4Code
  try dsimp only
  repeat' (first
    | (with_reducible exact k0) | (with_reducible exact .refl _) | (with_reducible apply State.onDdrc_keeps)
    | (with_reducible apply State.raise_keeps) | (with_reducible apply State.post_keeps) | ((with_reducible intro _ _); try dsimp only)
    | (split) | (with_reducible apply State.Keeps.of_pair (by assumption)) | (dsimp only))

theorem execMr4Poll_keeps {r0 s : State} (k0 : r0.Keeps s) (codes again : List Nat) :
    r0.KeepsNext (execMr4Poll codes again s) := by
  unfold execMr4Poll
  try dsimp only
  repeat' (first
    | (with_reducible apply State.KeepsNext.next) | (with_reducible exact k0) | (with_reducible exact .refl _)
    | (with_reducible apply State.each_keeps) | (with_reducible apply State.mr4Code_keeps) | (with_reducible apply State.fatalError_keeps)
    | ((with_reducible intro _ _); try dsimp only) | (split) | (with_reducible apply State.Keeps.of_pair (by assumption)) | (dsimp only))

theorem execRowWindowEnd_keeps {r0 s : State} (k0 : r0.Keeps s)  :
    r0.KeepsNext (execRowWindowEnd s) := by
  unfold execRowWindowEnd
  try dsimp only
  repeat' (first
    | (with_reducible apply State.KeepsNext.next) | (with_reducible exact k0) | (with_reducible exact .refl _)
    | (with_reducible apply State.onDdrc_keeps) | ((with_reducible intro _ _); try dsimp only) | (split)
    | (with_reducible apply State.Keeps.of_pair (by assumption)) | (dsimp only))

theorem execScrub_keeps {r0 s : State} (k0 : r0.Keeps s) (e : Ecc) :
    r0.KeepsNext (execScrub e s) := by
  unfold execScrub
  try dsimp only
  repeat' (first
    | (with_reducible apply State.KeepsNext.next) | (with_reducible exact k0) | (with_reducible exact .refl _)
    | (with_reducible apply State.dramRowsFor_keeps) | (with_reducible apply State.perfAdd_keeps)
    | (with_reducible apply State.eccOutcome_keeps) | (with_reducible apply State.onDdrc_keeps) | (with_reducible apply State.bump_keeps)
    | ((with_reducible intro _ _); try dsimp only) | (split) | (with_reducible apply State.Keeps.of_pair (by assumption)) | (dsimp only))

theorem State.dlyWrite_keeps {r0 s : State} (k0 : r0.Keeps s) (c k v : Nat) :
    r0.Keeps (State.dlyWrite s c k v) := by
  unfold State.dlyWrite
  try dsimp only
  repeat' (first
    | (with_reducible exact k0) | (with_reducible exact .refl _) | (with_reducible apply State.onDdrc_keeps)
    | ((with_reducible intro _ _); try dsimp only) | (split) | (with_reducible apply State.Keeps.of_pair (by assumption)) | (dsimp only))

theorem execDlyApply_keeps {r0 s : State} (k0 : r0.Keeps s) (chan : Nat) :
    r0.KeepsNext (execDlyApply chan s) := by
  unfold execDlyApply
  try dsimp only
  repeat' (first
    | (with_reducible apply State.KeepsNext.next) | (with_reducible exact k0) | (with_reducible exact .refl _)
    | (with_reducible apply State.each_keeps) | (with_reducible apply State.setFld_keeps) | (with_reducible apply State.onDdrc_keeps)
    | (with_reducible apply State.bump_keeps) | (with_reducible apply State.openRow_keeps) | ((with_reducible intro _ _); try dsimp only)
    | (split) | (with_reducible apply State.Keeps.of_pair (by assumption)) | (dsimp only))

theorem State.trainDelays_keeps {r0 s : State} (k0 : r0.Keeps s)  :
    r0.Keeps (State.trainDelays s) := by
  unfold State.trainDelays
  try dsimp only
  repeat' (first
    | (with_reducible exact k0) | (with_reducible exact .refl _) | (with_reducible apply State.each_keeps)
    | (with_reducible apply State.setFld_keeps) | (with_reducible apply State.fresh_keeps) | ((with_reducible intro _ _); try dsimp only)
    | (split) | (with_reducible apply State.Keeps.of_pair (by assumption)) | (dsimp only))

theorem State.endSweepJobs_keeps {r0 s : State} (k0 : r0.Keeps s) (jobs : List Nat) (st : Nat) :
    r0.Keeps (State.endSweepJobs s jobs st) := by
  unfold State.endSweepJobs
  try dsimp only
  repeat' (first
    | (with_reducible exact k0) | (with_reducible exact .refl _) | (with_reducible apply State.each_keeps)
    | (with_reducible apply State.endJob_keeps) | ((with_reducible intro _ _); try dsimp only) | (split)
    | (with_reducible apply State.Keeps.of_pair (by assumption)) | (dsimp only))

theorem State.startSweep_keeps {r0 s : State} (k0 : r0.Keeps s) (kind : Nat) (jobs : List Nat) :
    r0.Keeps (State.startSweep s kind jobs) := by
  unfold State.startSweep
  try dsimp only
  repeat' (first
    | (with_reducible exact k0) | (with_reducible exact .refl _) | (with_reducible apply State.onDdrc_keeps)
    | (with_reducible apply State.onSys_keeps) | (exact fun _ => ⟨rfl, rfl, id, fun _ => id⟩)
    | ((with_reducible intro _ _); try dsimp only) | (split) | (with_reducible apply State.Keeps.of_pair (by assumption)) | (dsimp only))

theorem State.ddrSleep_keeps {r0 s : State} (k0 : r0.Keeps s)  :
    r0.Keeps (State.ddrSleep s) := by
  unfold State.ddrSleep
  try dsimp only
  repeat' (first
    | (with_reducible exact k0) | (with_reducible exact .refl _) | (with_reducible apply State.onDdrc_keeps)
    | (with_reducible apply State.onSys_keeps) | (exact fun _ => ⟨rfl, rfl, id, fun _ => id⟩)
    | ((with_reducible intro _ _); try dsimp only) | (split) | (with_reducible apply State.Keeps.of_pair (by assumption)) | (dsimp only))

theorem State.sweepOver_keeps {r0 s : State} (k0 : r0.Keeps s)  :
    r0.Keeps (State.sweepOver s) := by
  unfold State.sweepOver
  try dsimp only
  repeat' (first
    | (with_reducible exact k0) | (with_reducible exact .refl _) | (with_reducible apply State.onDdrc_keeps)
    | (with_reducible apply State.ddrSleep_keeps) | ((with_reducible intro _ _); try dsimp only) | (split)
    | (with_reducible apply State.Keeps.of_pair (by assumption)) | (dsimp only))

theorem State.sweepFailed_keeps {r0 s : State} (k0 : r0.Keeps s) (w : Sweep) :
    r0.Keeps (State.sweepFailed s w) := by
  unfold State.sweepFailed
  try dsimp only
  repeat' (first
    | (with_reducible exact k0) | (with_reducible exact .refl _) | (with_reducible apply State.onDdrc_keeps)
    | (with_reducible apply State.startSweep_keeps) | (with_reducible apply State.endSweepJobs_keeps)
    | (with_reducible apply State.fatalError_keeps) | (with_reducible apply State.sweepOver_keeps)
    | (with_reducible apply State.fresh_keeps) | ((with_reducible intro _ _); try dsimp only) | (split)
    | (with_reducible apply State.Keeps.of_pair (by assumption)) | (dsimp only))

theorem State.placeDump_keeps {r0 s : State} (k0 : r0.Keeps s)  :
    r0.Keeps (State.placeDump s) := by
  unfold State.placeDump
  try dsimp only
  repeat' (first
    | (with_reducible exact k0) | (with_reducible exact .refl _) | (with_reducible apply State.onSys_keeps)
    | (with_reducible refine State.place_keeps ?_ _ _ _ (by assumption))
    | (with_reducible refine State.place_keeps' ?_ _ _ _ (by assumption)) | (exact fun _ => ⟨rfl, rfl, id, fun _ => id⟩)
    | ((with_reducible intro _ _); try dsimp only) | (split) | (with_reducible apply State.Keeps.of_pair (by assumption)) | (dsimp only))

theorem State.sweepPassed_keeps {r0 s : State} (k0 : r0.Keeps s) (w : Sweep) :
    r0.Keeps (State.sweepPassed s w) := by
  unfold State.sweepPassed
  try dsimp only
  repeat' (first
    | (with_reducible exact k0) | (with_reducible exact .refl _) | (with_reducible apply State.placeDump_keeps)
    | (with_reducible apply State.onSys_keeps) | (with_reducible apply State.endSweepJobs_keeps)
    | (with_reducible apply State.trainDelays_keeps) | (with_reducible apply State.sweepOver_keeps)
    | (exact fun _ => ⟨rfl, rfl, id, fun _ => id⟩) | ((with_reducible intro _ _); try dsimp only) | (split)
    | (with_reducible apply State.Keeps.of_pair (by assumption)) | (dsimp only))

theorem State.sweepEnd_keeps {r0 s : State} (k0 : r0.Keeps s) (w : Sweep) (windows : List Nat) (failLane : Option Nat) :
    r0.Keeps (State.sweepEnd s w windows failLane) := by
  unfold State.sweepEnd
  try dsimp only
  repeat' (first
    | (with_reducible exact k0) | (with_reducible exact .refl _) | (with_reducible apply State.onDdrc_keeps)
    | (with_reducible apply State.bump_keeps) | (with_reducible apply State.raise_keeps) | (with_reducible apply State.startSweep_keeps)
    | (with_reducible apply State.sweepFailed_keeps) | (with_reducible apply State.sweepPassed_keeps) | (with_reducible apply foldl_keeps)
    | (with_reducible apply foldlState_keeps) | ((with_reducible intro _ _); try dsimp only) | (split)
    | (with_reducible apply State.Keeps.of_pair (by assumption)) | (dsimp only))

theorem execSweepDone_keeps {r0 s : State} (k0 : r0.Keeps s) (windows : List Nat) (failLane : Option Nat) :
    r0.KeepsNext (execSweepDone windows failLane s) := by
  unfold execSweepDone
  try dsimp only
  repeat' (first
    | (with_reducible apply State.KeepsNext.next) | (with_reducible exact k0) | (with_reducible exact .refl _)
    | (with_reducible apply State.onDdrc_keeps) | (with_reducible apply State.sweepEnd_keeps)
    | (with_reducible apply State.dramServeAll_keeps) | ((with_reducible intro _ _); try dsimp only) | (split)
    | (with_reducible apply State.Keeps.of_pair (by assumption)) | (dsimp only))

/-! ### Machine/Capture.lean -/

theorem State.onCapture_keeps {r0 s : State} (k0 : r0.Keeps s) (f : Capture → Capture) :
    r0.Keeps (State.onCapture s f) := by
  unfold State.onCapture
  try dsimp only
  repeat' (first
    | (with_reducible exact k0) | (with_reducible exact .refl _) | (with_reducible apply State.onMeas_keeps)
    | ((with_reducible intro _ _); try dsimp only) | (split) | (with_reducible apply State.Keeps.of_pair (by assumption)) | (dsimp only))

theorem State.putHeader_keeps {r0 s : State} (k0 : r0.Keeps s)  :
    r0.Keeps (State.putHeader s) := by
  unfold State.putHeader
  try dsimp only
  repeat' (first
    | (with_reducible exact k0) | (with_reducible exact .refl _) | (with_reducible apply State.withMem_keeps)
    | (intro hm; (repeat (first | exact hm | apply mwrite_wf | apply mclear_wf | apply mmove_wf)); done)
    | ((with_reducible intro _ _); try dsimp only) | (split) | (with_reducible apply State.Keeps.of_pair (by assumption)) | (dsimp only))

theorem State.captureBegin_keeps {r0 s : State} (k0 : r0.Keeps s) (n : Nat) :
    r0.Keeps (State.captureBegin s n) := by
  unfold State.captureBegin
  try dsimp only
  repeat' (first
    | (with_reducible exact k0) | (with_reducible exact .refl _) | (with_reducible apply State.onCapture_keeps)
    | (with_reducible apply State.putHeader_keeps) | ((with_reducible intro _ _); try dsimp only) | (split)
    | (with_reducible apply State.Keeps.of_pair (by assumption)) | (dsimp only))

theorem State.invalidateCapture_keeps {r0 s : State} (k0 : r0.Keeps s) (cause vend : Nat) :
    r0.Keeps (State.invalidateCapture s cause vend) := by
  unfold State.invalidateCapture
  try dsimp only
  repeat' (first
    | (with_reducible exact k0) | (with_reducible exact .refl _) | (with_reducible apply State.onCapture_keeps)
    | ((with_reducible intro _ _); try dsimp only) | (split) | (with_reducible apply State.Keeps.of_pair (by assumption)) | (dsimp only))

theorem State.captureWord_keeps {r0 s : State} (k0 : r0.Keeps s) (n : Nat) :
    r0.Keeps (State.captureWord s n) := by
  unfold State.captureWord
  try dsimp only
  repeat' (first
    | (with_reducible exact k0) | (with_reducible exact .refl _) | (with_reducible apply State.invalidateCapture_keeps)
    | ((with_reducible intro _ _); try dsimp only) | (split) | (with_reducible apply State.Keeps.of_pair (by assumption)) | (dsimp only))

theorem State.endCapture_keeps {r0 s : State} (k0 : r0.Keeps s) (status valid : Nat) :
    r0.Keeps (State.endCapture s status valid) := by
  unfold State.endCapture
  try dsimp only
  repeat' (first
    | (with_reducible exact k0) | (with_reducible exact .refl _) | (with_reducible apply State.onCapture_keeps)
    | (with_reducible apply State.putHeader_keeps) | (with_reducible apply State.raise_keeps) | (with_reducible apply State.bump_keeps)
    | (with_reducible apply State.post_keeps) | ((with_reducible intro _ _); try dsimp only) | (split)
    | (with_reducible apply State.Keeps.of_pair (by assumption)) | (dsimp only))

theorem State.captureEnding_keeps {r0 s : State} (k0 : r0.Keeps s) (n : Nat) :
    r0.Keeps (State.captureEnding s n) := by
  unfold State.captureEnding
  try dsimp only
  repeat' (first
    | (with_reducible exact k0) | (with_reducible exact .refl _) | (with_reducible apply State.endCapture_keeps)
    | ((with_reducible intro _ _); try dsimp only) | (split) | (with_reducible apply State.Keeps.of_pair (by assumption)) | (dsimp only))

theorem State.freeCapture_keeps {r0 s : State} (k0 : r0.Keeps s)  :
    r0.Keeps (State.freeCapture s) := by
  unfold State.freeCapture
  try dsimp only
  repeat' (first
    | (with_reducible exact k0) | (with_reducible exact .refl _) | (with_reducible apply State.endCapture_keeps)
    | (with_reducible apply State.onMeas_keeps) | (with_reducible apply State.unplace_keeps) | (with_reducible apply State.claim_keeps)
    | ((with_reducible intro _ _); try dsimp only) | (split) | (with_reducible apply State.Keeps.of_pair (by assumption)) | (dsimp only))

end Sys2Proof.Machine
end

