-- ==== Sys2Proof/Laws/KeepsEngines.lean ====
section
/-! SUPPORT. Keeps of time, the output chain, the Facet cores, the matrix, the measurement chain: one lemma for each operation, by the lemmas of what it calls. -/

namespace Sys2Proof.Machine

set_option linter.all false

/-! ### Machine/Time.lean -/

theorem State.latchTime_keeps {r0 s : State} (k0 : r0.Keeps s)  :
    r0.Keeps (State.latchTime s) := by
  unfold State.latchTime
  try dsimp only
  repeat' (first
    | (with_reducible exact k0) | (with_reducible exact .refl _) | (with_reducible apply State.wr_keeps)
    | ((with_reducible intro _ _); try dsimp only) | (split) | (with_reducible apply State.Keeps.of_pair (by assumption)) | (dsimp only))

theorem execLatchTime_keeps {r0 s : State} (k0 : r0.Keeps s)  :
    r0.KeepsNext (execLatchTime s) := by
  unfold execLatchTime
  try dsimp only
  repeat' (first
    | (with_reducible apply State.KeepsNext.next) | (with_reducible exact k0) | (with_reducible exact .refl _)
    | (with_reducible apply State.latchTime_keeps) | ((with_reducible intro _ _); try dsimp only) | (split)
    | (with_reducible apply State.Keeps.of_pair (by assumption)) | (dsimp only))

theorem State.syncPulse_keeps {r0 s : State} (k0 : r0.Keeps s)  :
    r0.Keeps (State.syncPulse s) := by
  unfold State.syncPulse
  try dsimp only
  repeat' (first
    | (with_reducible exact k0) | (with_reducible exact .refl _) | (with_reducible apply State.onTime_keeps)
    | ((with_reducible intro _ _); try dsimp only) | (split) | (with_reducible apply State.Keeps.of_pair (by assumption)) | (dsimp only))

theorem execPps_keeps {r0 s : State} (k0 : r0.Keeps s)  :
    r0.KeepsNext (execPps s) := by
  unfold execPps
  try dsimp only
  repeat' (first
    | (with_reducible apply State.KeepsNext.next) | (with_reducible exact k0) | (with_reducible exact .refl _)
    | (with_reducible apply State.bump_keeps) | (with_reducible apply State.perfAdd_keeps) | (with_reducible apply State.syncPulse_keeps)
    | ((with_reducible intro _ _); try dsimp only) | (split) | (with_reducible apply State.Keeps.of_pair (by assumption)) | (dsimp only))

theorem State.setServo_keeps {r0 s : State} (k0 : r0.Keeps s) (st : ServoState) :
    r0.Keeps (State.setServo s st) := by
  unfold State.setServo
  try dsimp only
  repeat' (first
    | (with_reducible exact k0) | (with_reducible exact .refl _) | (with_reducible apply State.onTime_keeps)
    | (with_reducible apply State.raise_keeps) | (with_reducible apply State.post_keeps) | (with_reducible apply State.onSys_keeps)
    | (with_reducible apply State.noteDev_keeps) | (with_reducible apply State.keepReady_keeps)
    | (exact fun _ => ⟨rfl, rfl, id, fun _ => id⟩) | ((with_reducible intro _ _); try dsimp only) | (split)
    | (with_reducible apply State.Keeps.of_pair (by assumption)) | (dsimp only))

theorem State.servoStep_keeps {r0 s : State} (k0 : r0.Keeps s) (o : Int) :
    r0.Keeps (State.servoStep s o) := by
  unfold State.servoStep
  try dsimp only
  repeat' (first
    | (with_reducible exact k0) | (with_reducible exact .refl _) | (with_reducible apply State.onTime_keeps)
    | ((with_reducible intro _ _); try dsimp only) | (split) | (with_reducible apply State.Keeps.of_pair (by assumption)) | (dsimp only))

theorem State.servoAccept_keeps {r0 s : State} (k0 : r0.Keeps s) (o : Int) :
    r0.Keeps (State.servoAccept s o) := by
  unfold State.servoAccept
  try dsimp only
  repeat' (first
    | (with_reducible exact k0) | (with_reducible exact .refl _) | (with_reducible apply State.setServo_keeps)
    | (with_reducible apply State.onTime_keeps) | ((with_reducible intro _ _); try dsimp only) | (split)
    | (with_reducible apply State.Keeps.of_pair (by assumption)) | (dsimp only))

theorem State.servoTrace_keeps {r0 s : State} (k0 : r0.Keeps s) (flags : Nat) (o : Int) :
    r0.Keeps (State.servoTrace s flags o) := by
  unfold State.servoTrace
  try dsimp only
  repeat' (first
    | (with_reducible exact k0) | (with_reducible exact .refl _) | (with_reducible apply State.traceRec_keeps)
    | ((with_reducible intro _ _); try dsimp only) | (split) | (with_reducible apply State.Keeps.of_pair (by assumption)) | (dsimp only))

theorem State.servoRefuse_keeps {r0 s : State} (k0 : r0.Keeps s) (o : Int) :
    r0.Keeps (State.servoRefuse s o) := by
  unfold State.servoRefuse
  try dsimp only
  repeat' (first
    | (with_reducible exact k0) | (with_reducible exact .refl _) | (with_reducible apply State.onTime_keeps)
    | (with_reducible apply State.wr_keeps) | (with_reducible apply State.bump_keeps) | (with_reducible apply State.perfAdd_keeps)
    | (with_reducible apply State.raise_keeps) | (with_reducible apply State.post_keeps) | (with_reducible apply State.setServo_keeps)
    | (with_reducible apply State.servoTrace_keeps) | ((with_reducible intro _ _); try dsimp only) | (split)
    | (with_reducible apply State.Keeps.of_pair (by assumption)) | (dsimp only))

theorem State.servoUpdate_keeps {r0 s : State} (k0 : r0.Keeps s)  :
    r0.Keeps (State.servoUpdate s) := by
  unfold State.servoUpdate
  try dsimp only
  repeat' (first
    | (with_reducible exact k0) | (with_reducible exact .refl _) | (with_reducible apply State.bump_keeps)
    | (with_reducible apply State.perfAdd_keeps) | (with_reducible apply State.onTime_keeps)
    | (with_reducible apply State.servoTrace_keeps) | (with_reducible apply State.servoRefuse_keeps)
    | (with_reducible apply State.servoStep_keeps) | (with_reducible apply State.servoAccept_keeps)
    | ((with_reducible intro _ _); try dsimp only) | (split) | (with_reducible apply State.Keeps.of_pair (by assumption)) | (dsimp only))

theorem execUpdateServo_keeps {r0 s : State} (k0 : r0.Keeps s)  :
    r0.KeepsNext (execUpdateServo s) := by
  unfold execUpdateServo
  try dsimp only
  repeat' (first
    | (with_reducible apply State.KeepsNext.next) | (with_reducible exact k0) | (with_reducible exact .refl _)
    | (with_reducible apply State.servoUpdate_keeps) | ((with_reducible intro _ _); try dsimp only) | (split)
    | (with_reducible apply State.Keeps.of_pair (by assumption)) | (dsimp only))

theorem execHoldTimeout_keeps {r0 s : State} (k0 : r0.Keeps s)  :
    r0.KeepsNext (execHoldTimeout s) := by
  unfold execHoldTimeout
  try dsimp only
  repeat' (first
    | (with_reducible apply State.KeepsNext.next) | (with_reducible exact k0) | (with_reducible exact .refl _)
    | (with_reducible apply State.onTime_keeps) | (with_reducible apply State.setServo_keeps)
    | ((with_reducible intro _ _); try dsimp only) | (split) | (with_reducible apply State.Keeps.of_pair (by assumption)) | (dsimp only))

theorem State.syncServo_keeps {r0 s : State} (k0 : r0.Keeps s) (stamp : Nat) :
    r0.Keeps (State.syncServo s stamp) := by
  unfold State.syncServo
  try dsimp only
  repeat' (first
    | (with_reducible exact k0) | (with_reducible exact .refl _) | (with_reducible apply State.bump_keeps)
    | (with_reducible apply State.onTime_keeps) | (with_reducible apply State.servoStep_keeps)
    | ((with_reducible intro _ _); try dsimp only) | (split) | (with_reducible apply State.Keeps.of_pair (by assumption)) | (dsimp only))

theorem State.syncRegen_keeps {r0 s : State} (k0 : r0.Keeps s)  :
    r0.Keeps (State.syncRegen s) := by
  unfold State.syncRegen
  try dsimp only
  repeat' (first
    | (with_reducible exact k0) | (with_reducible exact .refl _) | (with_reducible apply State.onTime_keeps)
    | ((with_reducible intro _ _); try dsimp only) | (split) | (with_reducible apply State.Keeps.of_pair (by assumption)) | (dsimp only))

theorem State.sliceWord_keeps {r0 s : State} (k0 : r0.Keeps s)  :
    r0.Keeps (State.sliceWord s) := by
  unfold State.sliceWord
  try dsimp only
  repeat' (first
    | (with_reducible exact k0) | (with_reducible exact .refl _) | (with_reducible apply State.onTime_keeps)
    | ((with_reducible intro _ _); try dsimp only) | (split) | (with_reducible apply State.Keeps.of_pair (by assumption)) | (dsimp only))

theorem State.losePhase_keeps {r0 s : State} (k0 : r0.Keeps s) (k : Nat) :
    r0.Keeps (State.losePhase s k) := by
  unfold State.losePhase
  try dsimp only
  repeat' (first
    | (with_reducible exact k0) | (with_reducible exact .refl _) | (with_reducible apply State.onPorts_keeps)
    | (with_reducible apply State.fresh_keeps) | ((with_reducible intro _ _); try dsimp only) | (split)
    | (with_reducible apply State.Keeps.of_pair (by assumption)) | (dsimp only))

theorem State.setTickSrc_keeps {r0 s : State} (k0 : r0.Keeps s) (k : Nat) :
    r0.Keeps (State.setTickSrc s k) := by
  unfold State.setTickSrc
  try dsimp only
  repeat' (first
    | (with_reducible exact k0) | (with_reducible exact .refl _) | (with_reducible apply State.losePhase_keeps)
    | (with_reducible apply State.onTime_keeps) | (with_reducible apply State.bump_keeps) | (with_reducible apply State.raise_keeps)
    | (with_reducible apply State.traceRec_keeps) | (with_reducible apply State.invalidateCapture_keeps)
    | (with_reducible apply State.keepReady_keeps) | ((with_reducible intro _ _); try dsimp only) | (split)
    | (with_reducible apply State.Keeps.of_pair (by assumption)) | (dsimp only))

theorem State.clockLoss_keeps {r0 s : State} (k0 : r0.Keeps s)  :
    r0.Keeps (State.clockLoss s) := by
  unfold State.clockLoss
  try dsimp only
  repeat' (first
    | (with_reducible exact k0) | (with_reducible exact .refl _) | (with_reducible apply State.forcedDrop_keeps)
    | (with_reducible apply State.setTickSrc_keeps) | (with_reducible apply State.onTime_keeps)
    | (with_reducible apply State.setServo_keeps) | ((with_reducible intro _ _); try dsimp only) | (split)
    | (with_reducible apply State.Keeps.of_pair (by assumption)) | (dsimp only))

theorem State.rootUnlock_keeps {r0 s : State} (k0 : r0.Keeps s)  :
    r0.Keeps (State.rootUnlock s) := by
  unfold State.rootUnlock
  try dsimp only
  repeat' (first
    | (with_reducible exact k0) | (with_reducible exact .refl _) | (with_reducible apply State.bump_keeps)
    | (with_reducible apply State.raise_keeps) | (with_reducible apply State.invalidateCapture_keeps)
    | (with_reducible apply State.clockLoss_keeps) | ((with_reducible intro _ _); try dsimp only) | (split)
    | (with_reducible apply State.Keeps.of_pair (by assumption)) | (dsimp only))

theorem execLockWindowEnd_keeps {r0 s : State} (k0 : r0.Keeps s) (count : Nat) :
    r0.KeepsNext (execLockWindowEnd count s) := by
  unfold execLockWindowEnd
  try dsimp only
  repeat' (first
    | (with_reducible apply State.KeepsNext.next) | (with_reducible exact k0) | (with_reducible exact .refl _)
    | (with_reducible apply State.wr_keeps) | (with_reducible apply State.onTime_keeps) | (with_reducible apply State.rootUnlock_keeps)
    | (with_reducible apply State.setTickSrc_keeps) | (with_reducible apply State.onPorts_keeps)
    | ((with_reducible intro _ _); try dsimp only) | (split) | (with_reducible apply State.Keeps.of_pair (by assumption)) | (dsimp only))

theorem execClockLoss_keeps {r0 s : State} (k0 : r0.Keeps s)  :
    r0.KeepsNext (execClockLoss s) := by
  unfold execClockLoss
  try dsimp only
  repeat' (first
    | (with_reducible apply State.KeepsNext.next) | (with_reducible exact k0) | (with_reducible exact .refl _)
    | (with_reducible apply State.rootUnlock_keeps) | (with_reducible apply State.clockLoss_keeps)
    | ((with_reducible intro _ _); try dsimp only) | (split) | (with_reducible apply State.Keeps.of_pair (by assumption)) | (dsimp only))

theorem State.heldRefclk_keeps {r0 s : State} (k0 : r0.Keeps s) (ok : Bool) :
    r0.Keeps (State.heldRefclk s ok) := by
  unfold State.heldRefclk
  try dsimp only
  repeat' (first
    | (with_reducible exact k0) | (with_reducible exact .refl _) | (with_reducible apply State.onTime_keeps)
    | (with_reducible apply State.bump_keeps) | (with_reducible apply State.raise_keeps) | ((with_reducible intro _ _); try dsimp only)
    | (split) | (with_reducible apply State.Keeps.of_pair (by assumption)) | (dsimp only))

theorem State.ddrUnlock_keeps {r0 s : State} (k0 : r0.Keeps s)  :
    r0.Keeps (State.ddrUnlock s) := by
  unfold State.ddrUnlock
  try dsimp only
  repeat' (first
    | (with_reducible exact k0) | (with_reducible exact .refl _) | (with_reducible apply State.onTime_keeps)
    | (with_reducible apply State.raise_keeps) | ((with_reducible intro _ _); try dsimp only) | (split)
    | (with_reducible apply State.Keeps.of_pair (by assumption)) | (dsimp only))

theorem execRefclkMissing_keeps {r0 s : State} (k0 : r0.Keeps s)  :
    r0.KeepsNext (execRefclkMissing s) := by
  unfold execRefclkMissing
  try dsimp only
  repeat' (first
    | (with_reducible apply State.KeepsNext.next) | (with_reducible exact k0) | (with_reducible exact .refl _)
    | (with_reducible apply State.heldRefclk_keeps) | (with_reducible apply State.onTime_keeps) | (with_reducible apply State.bump_keeps)
    | (with_reducible apply State.raise_keeps) | (with_reducible apply State.clockLoss_keeps)
    | (with_reducible apply State.ddrUnlock_keeps) | ((with_reducible intro _ _); try dsimp only) | (split)
    | (with_reducible apply State.Keeps.of_pair (by assumption)) | (dsimp only))

theorem execRefclkPresent_keeps {r0 s : State} (k0 : r0.Keeps s)  :
    r0.KeepsNext (execRefclkPresent s) := by
  unfold execRefclkPresent
  try dsimp only
  repeat' (first
    | (with_reducible apply State.KeepsNext.next) | (with_reducible exact k0) | (with_reducible exact .refl _)
    | (with_reducible apply State.heldRefclk_keeps) | (with_reducible apply State.onTime_keeps)
    | (with_reducible apply State.setTickSrc_keeps) | ((with_reducible intro _ _); try dsimp only) | (split)
    | (with_reducible apply State.Keeps.of_pair (by assumption)) | (dsimp only))

theorem execRelockEnd_keeps {r0 s : State} (k0 : r0.Keeps s)  :
    r0.KeepsNext (execRelockEnd s) := by
  unfold execRelockEnd
  try dsimp only
  repeat' (first
    | (with_reducible apply State.KeepsNext.next) | (with_reducible exact k0) | (with_reducible exact .refl _)
    | (with_reducible apply State.onTime_keeps) | (with_reducible apply State.bump_keeps) | (with_reducible apply State.raise_keeps)
    | (with_reducible apply State.post_keeps) | (with_reducible apply State.fatalError_keeps)
    | ((with_reducible intro _ _); try dsimp only) | (split) | (with_reducible apply State.Keeps.of_pair (by assumption)) | (dsimp only))

theorem execDdrPllLoss_keeps {r0 s : State} (k0 : r0.Keeps s)  :
    r0.KeepsNext (execDdrPllLoss s) := by
  unfold execDdrPllLoss
  try dsimp only
  repeat' (first
    | (with_reducible apply State.KeepsNext.next) | (with_reducible exact k0) | (with_reducible exact .refl _)
    | (with_reducible apply State.ddrUnlock_keeps) | ((with_reducible intro _ _); try dsimp only) | (split)
    | (with_reducible apply State.Keeps.of_pair (by assumption)) | (dsimp only))

theorem execDdrRelockEnd_keeps {r0 s : State} (k0 : r0.Keeps s) (locked : Bool) :
    r0.KeepsNext (execDdrRelockEnd locked s) := by
  unfold execDdrRelockEnd
  try dsimp only
  repeat' (first
    | (with_reducible apply State.KeepsNext.next) | (with_reducible exact k0) | (with_reducible exact .refl _)
    | (with_reducible apply State.onTime_keeps) | (with_reducible apply State.dramServeAll_keeps)
    | (with_reducible apply State.fatalError_keeps) | ((with_reducible intro _ _); try dsimp only) | (split)
    | (with_reducible apply State.Keeps.of_pair (by assumption)) | (dsimp only))

theorem execCapEdge_keeps {r0 s : State} (k0 : r0.Keeps s) (input : Nat) (rising : Bool) :
    r0.KeepsNext (execCapEdge input rising s) := by
  unfold execCapEdge
  try dsimp only
  repeat' (first
    | (with_reducible apply State.KeepsNext.next) | (with_reducible exact k0) | (with_reducible exact .refl _)
    | (with_reducible apply State.onTime_keeps) | (with_reducible apply State.bump_keeps) | (with_reducible apply State.raise_keeps)
    | (with_reducible apply State.post_keeps) | ((with_reducible intro _ _); try dsimp only) | (split)
    | (with_reducible apply State.Keeps.of_pair (by assumption)) | (dsimp only))

theorem State.ptpRestart_keeps {r0 s : State} (k0 : r0.Keeps s)  :
    r0.Keeps (State.ptpRestart s) := by
  unfold State.ptpRestart
  try dsimp only
  repeat' (first
    | (with_reducible exact k0) | (with_reducible exact .refl _) | (with_reducible apply State.onTime_keeps)
    | (with_reducible apply State.onNet_keeps) | ((with_reducible intro _ _); try dsimp only) | (split)
    | (with_reducible apply State.Keeps.of_pair (by assumption)) | (dsimp only))

theorem State.ptpSet_keeps {r0 s : State} (k0 : r0.Keeps s) (p : Bytes) :
    r0.Keeps (State.ptpSet s p) := by
  unfold State.ptpSet
  try dsimp only
  repeat' (first
    | (with_reducible exact k0) | (with_reducible exact .refl _) | (with_reducible apply State.ptpRestart_keeps)
    | (with_reducible apply State.onTime_keeps) | (with_reducible apply State.setServo_keeps)
    | ((with_reducible intro _ _); try dsimp only) | (split) | (with_reducible apply State.Keeps.of_pair (by assumption)) | (dsimp only))

theorem cmdTimePtpSet_keeps : cmdTimePtpSet.Keeps := by
  intro h p s
  have k0 := State.Keeps.refl s
  unfold cmdTimePtpSet
  try dsimp only [mkCmd, mkBulk]
  repeat' (first
    | (with_reducible exact k0) | (with_reducible exact .refl _) | (with_reducible exact mkCmd_keeps)
    | (with_reducible apply checked_keeps) | (with_reducible apply State.ptpSet_keeps) | ((with_reducible intro _ _); try dsimp only)
    | (split) | (with_reducible apply State.Keeps.of_pair (by assumption)) | (dsimp only))

theorem State.servoSet_keeps {r0 s : State} (k0 : r0.Keeps s) (p : Bytes) :
    r0.Keeps (State.servoSet s p) := by
  unfold State.servoSet
  try dsimp only
  repeat' (first
    | (with_reducible exact k0) | (with_reducible exact .refl _) | (with_reducible apply State.wr_keeps)
    | ((with_reducible intro _ _); try dsimp only) | (split) | (with_reducible apply State.Keeps.of_pair (by assumption)) | (dsimp only))

theorem cmdTimeServoSet_keeps : cmdTimeServoSet.Keeps := by
  intro h p s
  have k0 := State.Keeps.refl s
  unfold cmdTimeServoSet
  try dsimp only [mkCmd, mkBulk]
  repeat' (first
    | (with_reducible exact k0) | (with_reducible exact .refl _) | (with_reducible exact mkCmd_keeps)
    | (with_reducible apply checked_keeps) | (with_reducible apply State.servoSet_keeps) | ((with_reducible intro _ _); try dsimp only)
    | (split) | (with_reducible apply State.Keeps.of_pair (by assumption)) | (dsimp only))

theorem cmdTimeStep_keeps : cmdTimeStep.Keeps := by
  intro h p s
  have k0 := State.Keeps.refl s
  unfold cmdTimeStep
  try dsimp only [mkCmd, mkBulk]
  repeat' (first
    | (with_reducible exact k0) | (with_reducible exact .refl _) | (with_reducible exact mkCmd_keeps)
    | (with_reducible apply checked_keeps) | (with_reducible apply State.newJob_keeps) | (with_reducible apply State.onTime_keeps)
    | ((with_reducible intro _ _); try dsimp only) | (split) | (with_reducible apply State.Keeps.of_pair (by assumption)) | (dsimp only))

theorem State.sourceSet_keeps {r0 s : State} (k0 : r0.Keeps s) (src : Nat) (word : Int) (delay : Nat) :
    r0.Keeps (State.sourceSet s src word delay) := by
  unfold State.sourceSet
  try dsimp only
  repeat' (first
    | (with_reducible exact k0) | (with_reducible exact .refl _) | (with_reducible apply State.setFld_keeps)
    | (with_reducible apply State.wr_keeps) | (with_reducible apply State.onTime_keeps) | (with_reducible apply State.setServo_keeps)
    | ((with_reducible intro _ _); try dsimp only) | (split) | (with_reducible apply State.Keeps.of_pair (by assumption)) | (dsimp only))

theorem cmdTimeSourceSet_keeps : cmdTimeSourceSet.Keeps := by
  intro h p s
  have k0 := State.Keeps.refl s
  unfold cmdTimeSourceSet
  try dsimp only [mkCmd, mkBulk]
  repeat' (first
    | (with_reducible exact k0) | (with_reducible exact .refl _) | (with_reducible exact mkCmd_keeps)
    | (with_reducible apply checked_keeps) | (with_reducible apply State.sourceSet_keeps) | ((with_reducible intro _ _); try dsimp only)
    | (split) | (with_reducible apply State.Keeps.of_pair (by assumption)) | (dsimp only))

theorem cmdTimeStatusGet_keeps : cmdTimeStatusGet.Keeps := by
  intro h p s
  have k0 := State.Keeps.refl s
  unfold cmdTimeStatusGet
  try dsimp only [mkCmd, mkBulk]
  repeat' (first
    | (with_reducible exact k0) | (with_reducible exact .refl _) | (with_reducible exact mkCmd_keeps)
    | ((with_reducible intro _ _); try dsimp only) | (split) | (with_reducible apply State.Keeps.of_pair (by assumption)) | (dsimp only))

theorem State.tsAdjSet_keeps {r0 s : State} (k0 : r0.Keeps s) (p : Bytes) :
    r0.Keeps (State.tsAdjSet s p) := by
  unfold State.tsAdjSet
  try dsimp only
  repeat' (first
    | (with_reducible exact k0) | (with_reducible exact .refl _) | (with_reducible apply State.wr_keeps)
    | ((with_reducible intro _ _); try dsimp only) | (split) | (with_reducible apply State.Keeps.of_pair (by assumption)) | (dsimp only))

theorem cmdTsAdjSet_keeps : cmdTsAdjSet.Keeps := by
  intro h p s
  have k0 := State.Keeps.refl s
  unfold cmdTsAdjSet
  try dsimp only [mkCmd, mkBulk]
  repeat' (first
    | (with_reducible exact k0) | (with_reducible exact .refl _) | (with_reducible exact mkCmd_keeps)
    | (with_reducible apply State.tsAdjSet_keeps) | ((with_reducible intro _ _); try dsimp only) | (split)
    | (with_reducible apply State.Keeps.of_pair (by assumption)) | (dsimp only))

theorem State.syncOff_keeps {r0 s : State} (k0 : r0.Keeps s)  :
    r0.Keeps (State.syncOff s) := by
  unfold State.syncOff
  try dsimp only
  repeat' (first
    | (with_reducible exact k0) | (with_reducible exact .refl _) | (with_reducible apply State.onTime_keeps)
    | ((with_reducible intro _ _); try dsimp only) | (split) | (with_reducible apply State.Keeps.of_pair (by assumption)) | (dsimp only))

theorem State.syncOutSet_keeps {r0 s : State} (k0 : r0.Keeps s) (p : Bytes) :
    r0.Keeps (State.syncOutSet s p) := by
  unfold State.syncOutSet
  try dsimp only
  repeat' (first
    | (with_reducible exact k0) | (with_reducible exact .refl _) | (with_reducible apply State.wr_keeps)
    | (with_reducible apply State.syncOff_keeps) | ((with_reducible intro _ _); try dsimp only) | (split)
    | (with_reducible apply State.Keeps.of_pair (by assumption)) | (dsimp only))

theorem cmdSyncOutSet_keeps : cmdSyncOutSet.Keeps := by
  intro h p s
  have k0 := State.Keeps.refl s
  unfold cmdSyncOutSet
  try dsimp only [mkCmd, mkBulk]
  repeat' (first
    | (with_reducible exact k0) | (with_reducible exact .refl _) | (with_reducible exact mkCmd_keeps)
    | (with_reducible apply checked_keeps) | (with_reducible apply State.syncOutSet_keeps) | ((with_reducible intro _ _); try dsimp only)
    | (split) | (with_reducible apply State.Keeps.of_pair (by assumption)) | (dsimp only))

theorem State.capSetOne_keeps {r0 s : State} (k0 : r0.Keeps s) (e : Bytes) :
    r0.Keeps (State.capSetOne s e) := by
  unfold State.capSetOne
  try dsimp only
  repeat' (first
    | (with_reducible exact k0) | (with_reducible exact .refl _) | (with_reducible apply State.setFld_keeps)
    | (with_reducible apply State.claim_keeps) | ((with_reducible intro _ _); try dsimp only) | (split)
    | (with_reducible apply State.Keeps.of_pair (by assumption)) | (dsimp only))

theorem cmdCapSet_keeps : cmdCapSet.Keeps := by
  intro h p s
  have k0 := State.Keeps.refl s
  unfold cmdCapSet
  try dsimp only [mkCmd, mkBulk]
  repeat' (first
    | (with_reducible exact k0) | (with_reducible exact .refl _) | (with_reducible exact mkCmd_keeps)
    | (with_reducible apply checkedEntries_keeps) | (with_reducible apply State.each_keeps) | (with_reducible apply State.capSetOne_keeps)
    | ((with_reducible intro _ _); try dsimp only) | (split) | (with_reducible apply State.Keeps.of_pair (by assumption)) | (dsimp only))

theorem cmdCapRead_keeps : cmdCapRead.Keeps := by
  intro h p s
  have k0 := State.Keeps.refl s
  unfold cmdCapRead
  try dsimp only [mkCmd, mkBulk]
  repeat' (first
    | (with_reducible exact k0) | (with_reducible exact .refl _) | (with_reducible exact mkCmd_keeps)
    | (with_reducible apply checked_keeps) | (with_reducible apply State.onTime_keeps) | ((with_reducible intro _ _); try dsimp only)
    | (split) | (with_reducible apply State.Keeps.of_pair (by assumption)) | (dsimp only))

theorem execTimePtpSet_keeps {r0 s : State} (k0 : r0.Keeps s) (h : Hdr) (p : Bytes) :
    r0.KeepsNext (execTimePtpSet h p s) := by
  unfold execTimePtpSet
  try dsimp only
  repeat' (first
    | (with_reducible apply State.KeepsNext.next) | (with_reducible exact k0) | (with_reducible exact .refl _)
    | (with_reducible apply CmdDef.exec_keeps) | (with_reducible exact cmdTimePtpSet_keeps)
    | (with_reducible refine State.KeepsNext.of (CmdDef.exec_keeps ?_ _ _ _) (by assumption))
    | ((with_reducible intro _ _); try dsimp only) | (split) | (with_reducible apply State.Keeps.of_pair (by assumption)) | (dsimp only)
    | (with_reducible apply CmdDef.exec_keeps))

theorem execTimeServoSet_keeps {r0 s : State} (k0 : r0.Keeps s) (h : Hdr) (p : Bytes) :
    r0.KeepsNext (execTimeServoSet h p s) := by
  unfold execTimeServoSet
  try dsimp only
  repeat' (first
    | (with_reducible apply State.KeepsNext.next) | (with_reducible exact k0) | (with_reducible exact .refl _)
    | (with_reducible apply CmdDef.exec_keeps) | (with_reducible exact cmdTimeServoSet_keeps)
    | (with_reducible refine State.KeepsNext.of (CmdDef.exec_keeps ?_ _ _ _) (by assumption))
    | ((with_reducible intro _ _); try dsimp only) | (split) | (with_reducible apply State.Keeps.of_pair (by assumption)) | (dsimp only)
    | (with_reducible apply CmdDef.exec_keeps))

theorem execTimeStep_keeps {r0 s : State} (k0 : r0.Keeps s) (h : Hdr) (p : Bytes) :
    r0.KeepsNext (execTimeStep h p s) := by
  unfold execTimeStep
  try dsimp only
  repeat' (first
    | (with_reducible apply State.KeepsNext.next) | (with_reducible exact k0) | (with_reducible exact .refl _)
    | (with_reducible apply CmdDef.exec_keeps) | (with_reducible exact cmdTimeStep_keeps)
    | (with_reducible refine State.KeepsNext.of (CmdDef.exec_keeps ?_ _ _ _) (by assumption))
    | ((with_reducible intro _ _); try dsimp only) | (split) | (with_reducible apply State.Keeps.of_pair (by assumption)) | (dsimp only)
    | (with_reducible apply CmdDef.exec_keeps))

theorem execTimeSourceSet_keeps {r0 s : State} (k0 : r0.Keeps s) (h : Hdr) (p : Bytes) :
    r0.KeepsNext (execTimeSourceSet h p s) := by
  unfold execTimeSourceSet
  try dsimp only
  repeat' (first
    | (with_reducible apply State.KeepsNext.next) | (with_reducible exact k0) | (with_reducible exact .refl _)
    | (with_reducible apply CmdDef.exec_keeps) | (with_reducible exact cmdTimeSourceSet_keeps)
    | (with_reducible refine State.KeepsNext.of (CmdDef.exec_keeps ?_ _ _ _) (by assumption))
    | ((with_reducible intro _ _); try dsimp only) | (split) | (with_reducible apply State.Keeps.of_pair (by assumption)) | (dsimp only)
    | (with_reducible apply CmdDef.exec_keeps))

theorem execTimeStatusGet_keeps {r0 s : State} (k0 : r0.Keeps s) (h : Hdr) (p : Bytes) :
    r0.KeepsNext (execTimeStatusGet h p s) := by
  unfold execTimeStatusGet
  try dsimp only
  repeat' (first
    | (with_reducible apply State.KeepsNext.next) | (with_reducible exact k0) | (with_reducible exact .refl _)
    | (with_reducible apply CmdDef.exec_keeps) | (with_reducible exact cmdTimeStatusGet_keeps)
    | (with_reducible refine State.KeepsNext.of (CmdDef.exec_keeps ?_ _ _ _) (by assumption))
    | ((with_reducible intro _ _); try dsimp only) | (split) | (with_reducible apply State.Keeps.of_pair (by assumption)) | (dsimp only)
    | (with_reducible apply CmdDef.exec_keeps))

theorem execTsAdjSet_keeps {r0 s : State} (k0 : r0.Keeps s) (h : Hdr) (p : Bytes) :
    r0.KeepsNext (execTsAdjSet h p s) := by
  unfold execTsAdjSet
  try dsimp only
  repeat' (first
    | (with_reducible apply State.KeepsNext.next) | (with_reducible exact k0) | (with_reducible exact .refl _)
    | (with_reducible apply CmdDef.exec_keeps) | (with_reducible exact cmdTsAdjSet_keeps)
    | (with_reducible refine State.KeepsNext.of (CmdDef.exec_keeps ?_ _ _ _) (by assumption))
    | ((with_reducible intro _ _); try dsimp only) | (split) | (with_reducible apply State.Keeps.of_pair (by assumption)) | (dsimp only)
    | (with_reducible apply CmdDef.exec_keeps))

theorem execSyncOutSet_keeps {r0 s : State} (k0 : r0.Keeps s) (h : Hdr) (p : Bytes) :
    r0.KeepsNext (execSyncOutSet h p s) := by
  unfold execSyncOutSet
  try dsimp only
  repeat' (first
    | (with_reducible apply State.KeepsNext.next) | (with_reducible exact k0) | (with_reducible exact .refl _)
    | (with_reducible apply CmdDef.exec_keeps) | (with_reducible exact cmdSyncOutSet_keeps)
    | (with_reducible refine State.KeepsNext.of (CmdDef.exec_keeps ?_ _ _ _) (by assumption))
    | ((with_reducible intro _ _); try dsimp only) | (split) | (with_reducible apply State.Keeps.of_pair (by assumption)) | (dsimp only)
    | (with_reducible apply CmdDef.exec_keeps))

theorem execCapSet_keeps {r0 s : State} (k0 : r0.Keeps s) (h : Hdr) (p : Bytes) :
    r0.KeepsNext (execCapSet h p s) := by
  unfold execCapSet
  try dsimp only
  repeat' (first
    | (with_reducible apply State.KeepsNext.next) | (with_reducible exact k0) | (with_reducible exact .refl _)
    | (with_reducible apply CmdDef.exec_keeps) | (with_reducible exact cmdCapSet_keeps)
    | (with_reducible refine State.KeepsNext.of (CmdDef.exec_keeps ?_ _ _ _) (by assumption))
    | ((with_reducible intro _ _); try dsimp only) | (split) | (with_reducible apply State.Keeps.of_pair (by assumption)) | (dsimp only)
    | (with_reducible apply CmdDef.exec_keeps))

theorem execCapRead_keeps {r0 s : State} (k0 : r0.Keeps s) (h : Hdr) (p : Bytes) :
    r0.KeepsNext (execCapRead h p s) := by
  unfold execCapRead
  try dsimp only
  repeat' (first
    | (with_reducible apply State.KeepsNext.next) | (with_reducible exact k0) | (with_reducible exact .refl _)
    | (with_reducible apply CmdDef.exec_keeps) | (with_reducible exact cmdCapRead_keeps)
    | (with_reducible refine State.KeepsNext.of (CmdDef.exec_keeps ?_ _ _ _) (by assumption))
    | ((with_reducible intro _ _); try dsimp only) | (split) | (with_reducible apply State.Keeps.of_pair (by assumption)) | (dsimp only)
    | (with_reducible apply CmdDef.exec_keeps))

/-! ### Machine/Perf.lean -/

theorem State.perfLo_keeps {r0 s : State} (k0 : r0.Keeps s) (master n : Nat) :
    r0.Keeps (State.perfLo s master n).1 := by
  unfold State.perfLo
  try dsimp only
  repeat' (first
    | (with_reducible exact k0) | (with_reducible exact .refl _) | (with_reducible apply State.onPerf_keeps)
    | ((with_reducible intro _ _); try dsimp only) | (split) | (with_reducible apply State.Keeps.of_pair (by assumption)) | (dsimp only))

theorem execPerfCntLoRead_keeps {r0 s : State} (k0 : r0.Keeps s) (master n : Nat) :
    r0.KeepsNext (execPerfCntLoRead master n s) := by
  unfold execPerfCntLoRead
  try dsimp only
  repeat' (first
    | (with_reducible apply State.KeepsNext.next) | (with_reducible exact k0) | (with_reducible exact .refl _)
    | (with_reducible apply State.perfLo_keeps) | (with_reducible apply State.withRdata_keeps)
    | (intro hm; (repeat (first | exact hm | apply mwrite_wf | apply mclear_wf | apply mmove_wf)); done)
    | ((with_reducible intro _ _); try dsimp only) | (split) | (with_reducible apply State.Keeps.of_pair (by assumption)) | (dsimp only))

theorem execPerfCntHiRead_keeps {r0 s : State} (k0 : r0.Keeps s) (master n : Nat) :
    r0.KeepsNext (execPerfCntHiRead master n s) := by
  unfold execPerfCntHiRead
  try dsimp only
  repeat' (first
    | (with_reducible apply State.KeepsNext.next) | (with_reducible exact k0) | (with_reducible exact .refl _)
    | (with_reducible apply State.withRdata_keeps)
    | (intro hm; (repeat (first | exact hm | apply mwrite_wf | apply mclear_wf | apply mmove_wf)); done)
    | ((with_reducible intro _ _); try dsimp only) | (split) | (with_reducible apply State.Keeps.of_pair (by assumption)) | (dsimp only))

/-! ### Machine/FacetRun.lean -/

theorem State.disableTask_keeps {r0 s : State} (k0 : r0.Keeps s) (t : Nat) :
    r0.Keeps (State.disableTask s t) := by
  unfold State.disableTask
  try dsimp only
  repeat' (first
    | (with_reducible exact k0) | (with_reducible exact .refl _) | (with_reducible apply State.cancelTimer_keeps)
    | (with_reducible apply State.each_keeps) | (with_reducible apply State.leaveSlot_keeps) | (with_reducible apply State.onSched_keeps)
    | (with_reducible apply State.setTask_keeps) | ((with_reducible intro _ _); try dsimp only) | (split)
    | (with_reducible apply State.Keeps.of_pair (by assumption)) | (dsimp only))

theorem State.collectEntry_keeps {r0 s : State} (k0 : r0.Keeps s) (t : FTask) (ok : Bool) (e : Nat × (Nat × Nat × Nat)) :
    r0.Keeps (State.collectEntry s t ok e) := by
  unfold State.collectEntry
  try dsimp only
  repeat' (first
    | (with_reducible exact k0) | (with_reducible exact .refl _) | (with_reducible apply State.onPipe_keeps)
    | (with_reducible apply foldl_keeps) | (with_reducible apply foldlState_keeps) | ((with_reducible intro _ _); try dsimp only)
    | (split) | (with_reducible apply State.Keeps.of_pair (by assumption)) | (dsimp only))

theorem State.zeroOutputs_keeps {r0 s : State} (k0 : r0.Keeps s) (t : FTask) :
    r0.Keeps (State.zeroOutputs s t) := by
  unfold State.zeroOutputs
  try dsimp only
  repeat' (first
    | (with_reducible exact k0) | (with_reducible exact .refl _) | (with_reducible apply State.each_keeps)
    | (with_reducible apply State.collectEntry_keeps) | ((with_reducible intro _ _); try dsimp only) | (split)
    | (with_reducible apply State.Keeps.of_pair (by assumption)) | (dsimp only))

theorem State.noteUsed_keeps {r0 s : State} (k0 : r0.Keeps s) (n : Nat) (i : Item) :
    r0.Keeps (State.noteUsed s n i) := by
  unfold State.noteUsed
  try dsimp only
  repeat' (first
    | (with_reducible exact k0) | (with_reducible exact .refl _) | (with_reducible apply State.onSched_keeps)
    | ((with_reducible intro _ _); try dsimp only) | (split) | (with_reducible apply State.Keeps.of_pair (by assumption)) | (dsimp only))

theorem State.facetFault_keeps {r0 s : State} (k0 : r0.Keeps s) (n slot : Nat) (i : Item) (cause : Nat) :
    r0.Keeps (State.facetFault s n slot i cause) := by
  unfold State.facetFault
  try dsimp only
  repeat' (first
    | (with_reducible exact k0) | (with_reducible exact .refl _) | (with_reducible apply State.wr_keeps)
    | (with_reducible apply State.bump_keeps) | (with_reducible apply State.raise_keeps) | (with_reducible apply State.post_keeps)
    | (with_reducible apply State.noteUsed_keeps) | (with_reducible apply State.terminateItem_keeps)
    | (with_reducible apply State.zeroOutputs_keeps) | (with_reducible apply State.disableTask_keeps)
    | ((with_reducible intro _ _); try dsimp only) | (split) | (with_reducible apply State.Keeps.of_pair (by assumption)) | (dsimp only))

theorem State.missDeadline_keeps {r0 s : State} (k0 : r0.Keeps s) (t : Nat) :
    r0.Keeps (State.missDeadline s t) := by
  unfold State.missDeadline
  try dsimp only
  repeat' (first
    | (with_reducible exact k0) | (with_reducible exact .refl _) | (with_reducible apply State.setTask_keeps)
    | (with_reducible apply State.bump_keeps) | (with_reducible apply State.raise_keeps) | (with_reducible apply State.post_keeps)
    | (with_reducible apply State.schedRec_keeps) | (with_reducible apply State.zeroOutputs_keeps)
    | (with_reducible apply State.disableTask_keeps) | ((with_reducible intro _ _); try dsimp only) | (split)
    | (with_reducible apply State.Keeps.of_pair (by assumption)) | (dsimp only))

theorem State.facetOverrun_keeps {r0 s : State} (k0 : r0.Keeps s) (n slot : Nat) (i : Item) :
    r0.Keeps (State.facetOverrun s n slot i) := by
  unfold State.facetOverrun
  try dsimp only
  repeat' (first
    | (with_reducible exact k0) | (with_reducible exact .refl _) | (with_reducible apply State.bump_keeps)
    | (with_reducible apply State.raise_keeps) | (with_reducible apply State.noteUsed_keeps)
    | (with_reducible apply State.terminateItem_keeps) | (with_reducible apply State.missDeadline_keeps)
    | ((with_reducible intro _ _); try dsimp only) | (split) | (with_reducible apply State.Keeps.of_pair (by assumption)) | (dsimp only))

theorem State.facetDone_keeps {r0 s : State} (k0 : r0.Keeps s) (n slot : Nat) (i : Item) (c : FCtx) (cyc : Nat) :
    r0.Keeps (State.facetDone s n slot i c cyc) := by
  unfold State.facetDone
  try dsimp only
  repeat' (first
    | (with_reducible exact k0) | (with_reducible exact .refl _) | (with_reducible apply State.setItem_keeps)
    | (with_reducible apply State.facetOverrun_keeps) | ((with_reducible intro _ _); try dsimp only) | (split)
    | (with_reducible apply State.Keeps.of_pair (by assumption)) | (dsimp only))

theorem State.facetYield_keeps {r0 s : State} (k0 : r0.Keeps s) (n slot : Nat) (i : Item) (cyc : Nat) :
    r0.Keeps (State.facetYield s n slot i cyc) := by
  unfold State.facetYield
  try dsimp only
  repeat' (first
    | (with_reducible exact k0) | (with_reducible exact .refl _) | (with_reducible apply State.setTask_keeps)
    | (with_reducible apply State.noteUsed_keeps) | (with_reducible apply State.completeItem_keeps)
    | ((with_reducible intro _ _); try dsimp only) | (split) | (with_reducible apply State.Keeps.of_pair (by assumption)) | (dsimp only))

theorem State.facetTrap_keeps {r0 s : State} (k0 : r0.Keeps s) (n : Nat) (i : Item) (k : Nat) :
    r0.Keeps (State.facetTrap s n i k) := by
  unfold State.facetTrap
  try dsimp only
  repeat' (first
    | (with_reducible exact k0) | (with_reducible exact .refl _) | (with_reducible apply State.bump_keeps)
    | (with_reducible apply State.raise_keeps) | (with_reducible apply State.fresh_keeps) | (with_reducible apply State.newEvent_keeps)
    | ((with_reducible intro _ _); try dsimp only) | (split) | (with_reducible apply State.Keeps.of_pair (by assumption)) | (dsimp only))

theorem State.farRead_keeps {r0 s : State} (k0 : r0.Keeps s) (n addr : Nat) :
    r0.Keeps (State.farRead s n addr).1 := by
  unfold State.farRead
  try dsimp only
  repeat' (first
    | (with_reducible exact k0) | (with_reducible exact .refl _) | (with_reducible apply State.perfLo_keeps)
    | ((with_reducible intro _ _); try dsimp only) | (split) | (with_reducible apply State.Keeps.of_pair (by assumption)) | (dsimp only))

theorem State.farAccess_keeps {r0 s : State} (k0 : r0.Keeps s) (n t : Nat) (c : FCtx) (a : LongArgs) (f : Far) (store : Bool) {t1 : State} {c1 : FCtx}
    (h1 : State.farAccess s n t c a f store = .ok (t1, c1)) : r0.Keeps t1 := by
  unfold State.farAccess at h1
  dsimp only at h1
  split at h1
  · cases h1
  · split at h1
    · cases h1
    · split at h1
      · simp only [Except.ok.injEq, Prod.mk.injEq] at h1
        rw [← h1.1]
        exact State.withMem_keeps k0 _ (fun h => mwrite_wf h _ _)
      · simp only [Except.ok.injEq, Prod.mk.injEq] at h1
        rw [← h1.1]
        exact State.farRead_keeps k0 _ _

theorem State.facetStore_keeps {r0 s : State} (k0 : r0.Keeps s) (t : FTask) (y : Bool) (off v : Nat) :
    r0.Keeps (State.facetStore s t y off v) := by
  unfold State.facetStore
  try dsimp only
  repeat' (first
    | (with_reducible exact k0) | (with_reducible exact .refl _) | (with_reducible apply State.withMem_keeps)
    | (intro hm; (repeat (first | exact hm | apply mwrite_wf | apply mclear_wf | apply mmove_wf)); done)
    | ((with_reducible intro _ _); try dsimp only) | (split) | (with_reducible apply State.Keeps.of_pair (by assumption)) | (dsimp only))

theorem State.facetEff_keeps {r0 s : State} (k0 : r0.Keeps s) (t : FTask) (z1 : FEff) :
    r0.Keeps (State.facetEff s t z1) := by
  unfold State.facetEff
  try dsimp only
  repeat' (first
    | (with_reducible exact k0) | (with_reducible exact .refl _) | (with_reducible apply State.facetStore_keeps)
    | ((with_reducible intro _ _); try dsimp only) | (split) | (with_reducible apply State.Keeps.of_pair (by assumption)) | (dsimp only))

theorem State.facetTimes_keeps {r0 : State} (t : FTask) (o : FOp) (room : Option Nat) (k : Nat) {s : State} (k0 : r0.Keeps s) (c : FCtx) (cyc : Nat) :
    r0.Keeps (State.facetTimes t o room k s c cyc).1 := by
  induction k generalizing s c cyc with
  | zero => exact k0
  | succ k ih =>
    unfold State.facetTimes
    split
    · exact k0
    · split
      · exact k0
      · exact ih (State.facetEff_keeps k0 _ _) _ _

theorem State.facetBasic_keeps {r0 s : State} (k0 : r0.Keeps s) (n slot : Nat) (i : Item) (t : FTask) (c : FCtx) (o : FOp) (stall : Nat) :
    r0.Keeps (State.facetBasic s n slot i t c o stall) := by
  unfold State.facetBasic
  try dsimp only
  repeat' (first
    | (with_reducible exact k0) | (with_reducible exact .refl _) | (with_reducible apply State.facetTimes_keeps)
    | (with_reducible apply State.facetFault_keeps) | (with_reducible apply State.facetDone_keeps)
    | ((with_reducible intro _ _); try dsimp only) | (split) | (with_reducible apply State.Keeps.of_pair (by assumption)) | (dsimp only))

theorem State.facetBranch_keeps {r0 s : State} (k0 : r0.Keeps s) (n slot : Nat) (i : Item) (t : FTask) (c : FCtx) (taken : Bool) (target stall : Nat) :
    r0.Keeps (State.facetBranch s n slot i t c taken target stall) := by
  unfold State.facetBranch
  try dsimp only
  repeat' (first
    | (with_reducible exact k0) | (with_reducible exact .refl _) | (with_reducible apply State.facetDone_keeps)
    | (with_reducible apply State.facetFault_keeps) | ((with_reducible intro _ _); try dsimp only) | (split)
    | (with_reducible apply State.Keeps.of_pair (by assumption)) | (dsimp only))

theorem State.facetRpt_keeps {r0 s : State} (k0 : r0.Keeps s) (n slot : Nat) (i : Item) (c : FCtx) (reg : Bool) (k stall : Nat) :
    r0.Keeps (State.facetRpt s n slot i c reg k stall) := by
  unfold State.facetRpt
  try dsimp only
  repeat' (first
    | (with_reducible exact k0) | (with_reducible exact .refl _) | (with_reducible apply State.facetFault_keeps)
    | (with_reducible apply State.facetDone_keeps) | ((with_reducible intro _ _); try dsimp only) | (split)
    | (with_reducible apply State.Keeps.of_pair (by assumption)) | (dsimp only))

theorem State.facetLoop_keeps {r0 s : State} (k0 : r0.Keeps s) (n slot : Nat) (i : Item) (t : FTask) (c : FCtx) (reg : Bool) (body k stall : Nat) :
    r0.Keeps (State.facetLoop s n slot i t c reg body k stall) := by
  unfold State.facetLoop
  try dsimp only
  repeat' (first
    | (with_reducible exact k0) | (with_reducible exact .refl _) | (with_reducible apply State.facetFault_keeps)
    | (with_reducible apply State.facetDone_keeps) | ((with_reducible intro _ _); try dsimp only) | (split)
    | (with_reducible apply State.Keeps.of_pair (by assumption)) | (dsimp only))

theorem State.facetLeave_keeps {r0 s : State} (k0 : r0.Keeps s) (n slot : Nat) (i : Item) (t : FTask) (c : FCtx) (cc stall : Nat) :
    r0.Keeps (State.facetLeave s n slot i t c cc stall) := by
  unfold State.facetLeave
  try dsimp only
  repeat' (first
    | (with_reducible exact k0) | (with_reducible exact .refl _) | (with_reducible apply State.facetFault_keeps)
    | (with_reducible apply State.facetDone_keeps) | ((with_reducible intro _ _); try dsimp only) | (split)
    | (with_reducible apply State.Keeps.of_pair (by assumption)) | (dsimp only))

theorem State.facetCall_keeps {r0 s : State} (k0 : r0.Keeps s) (n slot : Nat) (i : Item) (t : FTask) (c : FCtx) (cc target stall : Nat) :
    r0.Keeps (State.facetCall s n slot i t c cc target stall) := by
  unfold State.facetCall
  try dsimp only
  repeat' (first
    | (with_reducible exact k0) | (with_reducible exact .refl _) | (with_reducible apply State.facetFault_keeps)
    | (with_reducible apply State.facetBranch_keeps) | ((with_reducible intro _ _); try dsimp only) | (split)
    | (with_reducible apply State.Keeps.of_pair (by assumption)) | (dsimp only))

theorem State.facetReturn_keeps {r0 s : State} (k0 : r0.Keeps s) (n slot : Nat) (i : Item) (t : FTask) (c : FCtx) (cc stall : Nat) :
    r0.Keeps (State.facetReturn s n slot i t c cc stall) := by
  unfold State.facetReturn
  try dsimp only
  repeat' (first
    | (with_reducible exact k0) | (with_reducible exact .refl _) | (with_reducible apply State.facetBranch_keeps)
    | (with_reducible apply State.facetFault_keeps) | ((with_reducible intro _ _); try dsimp only) | (split)
    | (with_reducible apply State.Keeps.of_pair (by assumption)) | (dsimp only))

theorem State.facetLong_keeps {r0 s : State} (k0 : r0.Keeps s) (n slot : Nat) (i : Item) (c : FCtx) (op : Nat) (a : LongArgs) (f : Far) (stall : Nat) :
    r0.Keeps (State.facetLong s n slot i c op a f stall) := by
  unfold State.facetLong
  try dsimp only
  repeat' (first
    | (with_reducible exact k0) | (with_reducible exact .refl _) | (with_reducible apply State.facetFault_keeps)
    | (with_reducible apply State.facetDone_keeps) | (with_reducible refine State.farAccess_keeps ?_ _ _ _ _ _ _ (by assumption))
    | ((with_reducible intro _ _); try dsimp only) | (split) | (with_reducible apply State.Keeps.of_pair (by assumption)) | (dsimp only))

theorem State.facetOne_keeps {r0 s : State} (k0 : r0.Keeps s) (n slot : Nat) (i : Item) (t : FTask) (c : FCtx) (stall : Nat) (z1 : FOp) :
    r0.Keeps (State.facetOne s n slot i t c stall z1) := by
  unfold State.facetOne
  try dsimp only
  repeat' (first
    | (with_reducible exact k0) | (with_reducible exact .refl _) | (with_reducible apply State.facetBasic_keeps)
    | (with_reducible apply State.facetRpt_keeps) | (with_reducible apply State.facetLoop_keeps)
    | (with_reducible apply State.facetLeave_keeps) | (with_reducible apply State.facetDone_keeps)
    | (with_reducible apply State.facetBranch_keeps) | (with_reducible apply State.facetCall_keeps)
    | (with_reducible apply State.facetReturn_keeps) | (with_reducible apply State.facetYield_keeps)
    | (with_reducible apply State.facetTrap_keeps) | (with_reducible apply State.facetLong_keeps)
    | (with_reducible apply State.facetFault_keeps) | ((with_reducible intro _ _); try dsimp only) | (split)
    | (with_reducible apply State.Keeps.of_pair (by assumption)) | (dsimp only))

theorem State.facetIssue_keeps {r0 s : State} (k0 : r0.Keeps s) (n slot : Nat) (i : Item) (o : FOp) :
    r0.Keeps (State.facetIssue s n slot i o) := by
  unfold State.facetIssue
  try dsimp only
  repeat' (first
    | (with_reducible exact k0) | (with_reducible exact .refl _) | (with_reducible apply State.facetFault_keeps)
    | (with_reducible apply State.facetOverrun_keeps) | (with_reducible apply State.facetOne_keeps)
    | ((with_reducible intro _ _); try dsimp only) | (split) | (with_reducible apply State.Keeps.of_pair (by assumption)) | (dsimp only))

theorem State.facetExec_keeps {r0 s : State} (k0 : r0.Keeps s) (n : Nat) (o : FOp) :
    r0.Keeps (State.facetExec s n o) := by
  unfold State.facetExec
  try dsimp only
  repeat' (first
    | (with_reducible exact k0) | (with_reducible exact .refl _) | (with_reducible apply State.facetIssue_keeps)
    | ((with_reducible intro _ _); try dsimp only) | (split) | (with_reducible apply State.Keeps.of_pair (by assumption)) | (dsimp only))

theorem State.facetStep_keeps {r0 s : State} (k0 : r0.Keeps s) (n : Nat) (f : Far) :
    r0.Keeps (State.facetStep s n f) := by
  unfold State.facetStep
  try dsimp only
  repeat' (first
    | (with_reducible exact k0) | (with_reducible exact .refl _) | (with_reducible apply State.facetIssue_keeps)
    | ((with_reducible intro _ _); try dsimp only) | (split) | (with_reducible apply State.Keeps.of_pair (by assumption)) | (dsimp only))

/-! ### Machine/Xbar.lean -/

theorem State.noteErr_keeps {r0 s : State} (k0 : r0.Keeps s) (m t a kind : Nat) (write : Bool) :
    r0.Keeps (State.noteErr s m t a kind write) := by
  unfold State.noteErr
  try dsimp only
  repeat' (first
    | (with_reducible exact k0) | (with_reducible exact .refl _) | (with_reducible apply State.wr_keeps)
    | ((with_reducible intro _ _); try dsimp only) | (split) | (with_reducible apply State.Keeps.of_pair (by assumption)) | (dsimp only))

theorem State.logErr_keeps {r0 s : State} (k0 : r0.Keeps s) (m t a kind : Nat) (write : Bool) :
    r0.Keeps (State.logErr s m t a kind write) := by
  unfold State.logErr
  try dsimp only
  repeat' (first
    | (with_reducible exact k0) | (with_reducible exact .refl _) | (with_reducible apply State.noteErr_keeps)
    | (with_reducible apply State.raise_keeps) | ((with_reducible intro _ _); try dsimp only) | (split)
    | (with_reducible apply State.Keeps.of_pair (by assumption)) | (dsimp only))

theorem State.errorTo_keeps {r0 s : State} (k0 : r0.Keeps s) (m a : Nat) (cause : Nat) :
    r0.Keeps (State.errorTo s m a cause) := by
  unfold State.errorTo
  try dsimp only
  repeat' (first
    | (with_reducible exact k0) | (with_reducible exact .refl _) | (with_reducible apply State.withRstat_keeps)
    | (with_reducible apply State.raise_keeps) | (with_reducible apply State.perfAdd_keeps) | (with_reducible apply State.bump_keeps)
    | (with_reducible apply State.facetFault_keeps) | (with_reducible apply State.fatalError_keeps)
    | (intro hm; (repeat (first | exact hm | apply mwrite_wf | apply mclear_wf | apply mmove_wf)); done)
    | ((with_reducible intro _ _); try dsimp only) | (split) | (with_reducible apply State.Keeps.of_pair (by assumption)) | (dsimp only))

theorem State.busError_keeps {r0 s : State} (k0 : r0.Keeps s) (m t a kind len : Nat) (write : Bool) :
    r0.Keeps (State.busError s m t a kind len write) := by
  unfold State.busError
  try dsimp only
  repeat' (first
    | (with_reducible exact k0) | (with_reducible exact .refl _) | (with_reducible apply State.logErr_keeps)
    | (with_reducible apply State.bump_keeps) | (with_reducible apply State.withRdata_keeps) | (with_reducible apply State.errorTo_keeps)
    | (intro hm; (repeat (first | exact hm | apply mwrite_wf | apply mclear_wf | apply mmove_wf)); done)
    | ((with_reducible intro _ _); try dsimp only) | (split) | (with_reducible apply State.Keeps.of_pair (by assumption)) | (dsimp only))

theorem State.setLock_keeps {r0 s : State} (k0 : r0.Keeps s) (n : Nat) (l : Lock) :
    r0.Keeps (State.setLock s n l) := by
  unfold State.setLock
  try dsimp only
  repeat' (first
    | (with_reducible exact k0) | (with_reducible exact .refl _) | (with_reducible apply State.onXbar_keeps)
    | ((with_reducible intro _ _); try dsimp only) | (split) | (with_reducible apply State.Keeps.of_pair (by assumption)) | (dsimp only))

theorem State.lockAcq_keeps {r0 s : State} (k0 : r0.Keeps s) (m n : Nat) :
    r0.Keeps (State.lockAcq s m n).1 := by
  unfold State.lockAcq
  try dsimp only
  repeat' (first
    | (with_reducible exact k0) | (with_reducible exact .refl _) | (with_reducible apply State.bump_keeps)
    | (with_reducible apply State.perfAdd_keeps) | (with_reducible apply State.setLock_keeps)
    | ((with_reducible intro _ _); try dsimp only) | (split) | (with_reducible apply State.Keeps.of_pair (by assumption)) | (dsimp only))

theorem State.lockRel_keeps {r0 s : State} (k0 : r0.Keeps s) (m n : Nat) :
    r0.Keeps (State.lockRel s m n) := by
  unfold State.lockRel
  try dsimp only
  repeat' (first
    | (with_reducible exact k0) | (with_reducible exact .refl _) | (with_reducible apply State.setLock_keeps)
    | (with_reducible apply State.bump_keeps) | ((with_reducible intro _ _); try dsimp only) | (split)
    | (with_reducible apply State.Keeps.of_pair (by assumption)) | (dsimp only))

theorem execLockAcq_keeps {r0 s : State} (k0 : r0.Keeps s) (master n : Nat) :
    r0.KeepsNext (execLockAcq master n s) := by
  unfold execLockAcq
  try dsimp only
  repeat' (first
    | (with_reducible apply State.KeepsNext.next) | (with_reducible exact k0) | (with_reducible exact .refl _)
    | (with_reducible apply State.busError_keeps) | (with_reducible apply State.lockAcq_keeps)
    | (with_reducible apply State.withRdata_keeps) | (with_reducible apply State.withRstat_keeps)
    | (intro hm; (repeat (first | exact hm | apply mwrite_wf | apply mclear_wf | apply mmove_wf)); done)
    | ((with_reducible intro _ _); try dsimp only) | (split) | (with_reducible apply State.Keeps.of_pair (by assumption)) | (dsimp only))

theorem execLockRel_keeps {r0 s : State} (k0 : r0.Keeps s) (master n : Nat) :
    r0.KeepsNext (execLockRel master n s) := by
  unfold execLockRel
  try dsimp only
  repeat' (first
    | (with_reducible apply State.KeepsNext.next) | (with_reducible exact k0) | (with_reducible exact .refl _)
    | (with_reducible apply State.busError_keeps) | (with_reducible apply State.lockRel_keeps)
    | (with_reducible apply State.withRstat_keeps)
    | (intro hm; (repeat (first | exact hm | apply mwrite_wf | apply mclear_wf | apply mmove_wf)); done)
    | ((with_reducible intro _ _); try dsimp only) | (split) | (with_reducible apply State.Keeps.of_pair (by assumption)) | (dsimp only))

theorem State.maskEvents_keeps {r0 s : State} (k0 : r0.Keeps s) (was : State) :
    r0.Keeps (State.maskEvents s was) := by
  unfold State.maskEvents
  try dsimp only
  repeat' (first
    | (with_reducible exact k0) | (with_reducible exact .refl _) | (with_reducible apply State.each_keeps)
    | (with_reducible apply State.setLock_keeps) | (with_reducible apply State.bump_keeps) | (with_reducible apply State.perfAdd_keeps)
    | (with_reducible apply State.raise_keeps) | (with_reducible apply State.onXbar_keeps) | ((with_reducible intro _ _); try dsimp only)
    | (split) | (with_reducible apply State.Keeps.of_pair (by assumption)) | (dsimp only))

theorem State.setPwr_keeps {r0 s : State} (k0 : r0.Keeps s) (p : Nat) :
    r0.Keeps (State.setPwr s p) := by
  unfold State.setPwr
  try dsimp only
  repeat' (first
    | (with_reducible exact k0) | (with_reducible exact .refl _) | (with_reducible apply State.onSys_keeps)
    | (with_reducible apply State.maskEvents_keeps) | (exact fun _ => ⟨rfl, rfl, id, fun _ => id⟩)
    | ((with_reducible intro _ _); try dsimp only) | (split) | (with_reducible apply State.Keeps.of_pair (by assumption)) | (dsimp only))

theorem State.wakeFor_keeps {r0 s : State} (k0 : r0.Keeps s) (m : Mode) :
    r0.Keeps (State.wakeFor s m) := by
  unfold State.wakeFor
  try dsimp only
  repeat' (first
    | (with_reducible exact k0) | (with_reducible exact .refl _) | (with_reducible apply State.setPwr_keeps)
    | (with_reducible apply State.onDdrc_keeps) | ((with_reducible intro _ _); try dsimp only) | (split)
    | (with_reducible apply State.Keeps.of_pair (by assumption)) | (dsimp only))

/-! ### Machine/LensRows.lean -/

theorem State.parkDomains_keeps {r0 s : State} (k0 : r0.Keeps s)  :
    r0.Keeps (State.parkDomains s) := by
  unfold State.parkDomains
  try dsimp only
  repeat' (first
    | (with_reducible exact k0) | (with_reducible exact .refl _) | (with_reducible apply State.wakeFor_keeps)
    | (with_reducible apply State.setPwr_keeps) | (with_reducible apply State.onDdrc_keeps) | ((with_reducible intro _ _); try dsimp only)
    | (split) | (with_reducible apply State.Keeps.of_pair (by assumption)) | (dsimp only))

theorem State.joinQueue_keeps {r0 s : State} (k0 : r0.Keeps s) (b : Nat) (r : SwapReq) :
    r0.Keeps (State.joinQueue s b r) := by
  unfold State.joinQueue
  try dsimp only
  repeat' (first
    | (with_reducible exact k0) | (with_reducible exact .refl _) | (with_reducible apply State.setLensBus_keeps)
    | (with_reducible apply State.onLens_keeps) | ((with_reducible intro _ _); try dsimp only) | (split)
    | (with_reducible apply State.Keeps.of_pair (by assumption)) | (dsimp only))

theorem State.leaveQueue_keeps {r0 s : State} (k0 : r0.Keeps s) (b : Nat) :
    r0.Keeps (State.leaveQueue s b) := by
  unfold State.leaveQueue
  try dsimp only
  repeat' (first
    | (with_reducible exact k0) | (with_reducible exact .refl _) | (with_reducible apply State.onLens_keeps)
    | ((with_reducible intro _ _); try dsimp only) | (split) | (with_reducible apply State.Keeps.of_pair (by assumption)) | (dsimp only))

theorem State.fadeEvent_keeps {r0 s : State} (k0 : r0.Keeps s) (b : Nat) (f : Fade) :
    r0.Keeps (State.fadeEvent s b f) := by
  unfold State.fadeEvent
  try dsimp only
  repeat' (first
    | (with_reducible exact k0) | (with_reducible exact .refl _) | (with_reducible apply State.bump_keeps)
    | (with_reducible apply State.raise_keeps) | (with_reducible apply State.postRaw_keeps) | ((with_reducible intro _ _); try dsimp only)
    | (split) | (with_reducible apply State.Keeps.of_pair (by assumption)) | (dsimp only))

theorem State.freeHeld_keeps {r0 s : State} (k0 : r0.Keeps s) (b : Nat) (r : SwapReq) :
    r0.Keeps (State.freeHeld s b r) := by
  unfold State.freeHeld
  try dsimp only
  repeat' (first
    | (with_reducible exact k0) | (with_reducible exact .refl _) | (with_reducible apply State.joinQueue_keeps)
    | (with_reducible apply State.bump_keeps) | (with_reducible apply State.pieceDrop_keeps)
    | ((with_reducible intro _ _); try dsimp only) | (split) | (with_reducible apply State.Keeps.of_pair (by assumption)) | (dsimp only))

theorem State.fadeEnd_keeps {r0 s : State} (k0 : r0.Keeps s) (b : Nat) :
    r0.Keeps (State.fadeEnd s b) := by
  unfold State.fadeEnd
  try dsimp only
  repeat' (first
    | (with_reducible exact k0) | (with_reducible exact .refl _) | (with_reducible apply State.setLensBus_keeps)
    | (with_reducible apply State.fadeEvent_keeps) | (with_reducible apply State.pieceDone_keeps)
    | (with_reducible apply State.freeHeld_keeps) | ((with_reducible intro _ _); try dsimp only) | (split)
    | (with_reducible apply State.Keeps.of_pair (by assumption)) | (dsimp only))

theorem State.endFades_keeps {r0 s : State} (k0 : r0.Keeps s) (n : Nat) :
    r0.Keeps (State.endFades s n) := by
  unfold State.endFades
  try dsimp only
  repeat' (first
    | (with_reducible exact k0) | (with_reducible exact .refl _) | (with_reducible apply State.each_keeps)
    | (with_reducible apply State.fadeEnd_keeps) | ((with_reducible intro _ _); try dsimp only) | (split)
    | (with_reducible apply State.Keeps.of_pair (by assumption)) | (dsimp only))

theorem State.joinTimed_keeps {r0 s : State} (k0 : r0.Keeps s) (n : Nat) :
    r0.Keeps (State.joinTimed s n) := by
  unfold State.joinTimed
  try dsimp only
  repeat' (first
    | (with_reducible exact k0) | (with_reducible exact .refl _) | (with_reducible apply State.onLens_keeps)
    | ((with_reducible intro _ _); try dsimp only) | (split) | (with_reducible apply State.Keeps.of_pair (by assumption)) | (dsimp only))

theorem State.admitFade_keeps {r0 s : State} (k0 : r0.Keeps s) (n b : Nat) :
    r0.Keeps (State.admitFade s n b) := by
  unfold State.admitFade
  try dsimp only
  repeat' (first
    | (with_reducible exact k0) | (with_reducible exact .refl _) | (with_reducible apply State.setLensBus_keeps)
    | (with_reducible apply State.perfAdd_keeps) | ((with_reducible intro _ _); try dsimp only) | (split)
    | (with_reducible apply State.Keeps.of_pair (by assumption)) | (dsimp only))

theorem State.admitQueue_keeps {r0 s : State} (k0 : r0.Keeps s) (n : Nat) (z1 : List Nat) :
    r0.Keeps (State.admitQueue s n z1) := by
  induction z1 generalizing s with
  | nil =>
    unfold State.admitQueue
    try dsimp only
    repeat' (first
      | (with_reducible exact k0) | (with_reducible exact .refl _) | (with_reducible apply State.onLens_keeps)
      | (with_reducible apply State.admitFade_keeps) | (with_reducible apply State.bump_keeps)
      | (with_reducible apply State.perfAdd_keeps) | (with_reducible apply foldl_keeps) | (with_reducible apply foldlState_keeps)
      | ((with_reducible intro _ _); try dsimp only) | (split) | (with_reducible apply State.Keeps.of_pair (by assumption)) | (dsimp only))
  | cons _ _ ih =>
    unfold State.admitQueue
    try dsimp only
    repeat' (first
      | (with_reducible exact k0) | (with_reducible exact .refl _) | (with_reducible apply ih) | (with_reducible apply State.onLens_keeps)
      | (with_reducible apply State.admitFade_keeps) | (with_reducible apply State.bump_keeps)
      | (with_reducible apply State.perfAdd_keeps) | (with_reducible apply foldl_keeps) | (with_reducible apply foldlState_keeps)
      | ((with_reducible intro _ _); try dsimp only) | (split) | (with_reducible apply State.Keeps.of_pair (by assumption)) | (dsimp only))

theorem State.lensBoundary_keeps {r0 s : State} (k0 : r0.Keeps s) (n : Nat) :
    r0.Keeps (State.lensBoundary s n) := by
  unfold State.lensBoundary
  try dsimp only
  repeat' (first
    | (with_reducible exact k0) | (with_reducible exact .refl _) | (with_reducible apply State.endFades_keeps)
    | (with_reducible apply State.joinTimed_keeps) | (with_reducible apply State.admitQueue_keeps)
    | ((with_reducible intro _ _); try dsimp only) | (split) | (with_reducible apply State.Keeps.of_pair (by assumption)) | (dsimp only))

theorem State.replaceWait_keeps {r0 s : State} (k0 : r0.Keeps s) (b : Nat) (old new : SwapReq) :
    r0.Keeps (State.replaceWait s b old new) := by
  unfold State.replaceWait
  try dsimp only
  repeat' (first
    | (with_reducible exact k0) | (with_reducible exact .refl _) | (with_reducible apply State.setLensBus_keeps)
    | (with_reducible apply State.leaveQueue_keeps) | (with_reducible apply State.joinQueue_keeps)
    | ((with_reducible intro _ _); try dsimp only) | (split) | (with_reducible apply State.Keeps.of_pair (by assumption)) | (dsimp only))

theorem State.swapEntry_keeps {r0 s : State} (k0 : r0.Keeps s) (b : Nat) (r : SwapReq) :
    r0.Keeps (State.swapEntry s b r) := by
  unfold State.swapEntry
  try dsimp only
  repeat' (first
    | (with_reducible exact k0) | (with_reducible exact .refl _) | (with_reducible apply State.addPiece_keeps)
    | (with_reducible apply State.joinQueue_keeps) | (with_reducible apply State.leaveQueue_keeps)
    | (with_reducible apply State.setLensBus_keeps) | (with_reducible apply State.pieceDrop_keeps)
    | (with_reducible apply State.replaceWait_keeps) | ((with_reducible intro _ _); try dsimp only) | (split)
    | (with_reducible apply State.Keeps.of_pair (by assumption)) | (dsimp only))

theorem State.swapPark_keeps {r0 s : State} (k0 : r0.Keeps s) (es : List Bytes) :
    r0.Keeps (State.swapPark s es) := by
  unfold State.swapPark
  try dsimp only
  repeat' (first
    | (with_reducible exact k0) | (with_reducible exact .refl _) | (with_reducible apply State.each_keeps)
    | (with_reducible apply State.setLensBus_keeps) | ((with_reducible intro _ _); try dsimp only) | (split)
    | (with_reducible apply State.Keeps.of_pair (by assumption)) | (dsimp only))

theorem State.swapLive_keeps {r0 s : State} (k0 : r0.Keeps s) (h : Hdr) (p : Bytes) (es : List Bytes) :
    r0.Keeps (State.swapLive s h p es).1 := by
  unfold State.swapLive
  try dsimp only
  repeat' (first
    | (with_reducible exact k0) | (with_reducible exact .refl _) | (with_reducible apply State.newJob_keeps)
    | (with_reducible apply State.each_keeps) | (with_reducible apply State.swapEntry_keeps)
    | (with_reducible apply State.settleJob_keeps) | ((with_reducible intro _ _); try dsimp only) | (split)
    | (with_reducible apply State.Keeps.of_pair (by assumption)) | (dsimp only))

theorem cmdLensSwap_keeps : cmdLensSwap.Keeps := by
  intro h p s
  have k0 := State.Keeps.refl s
  unfold cmdLensSwap
  try dsimp only [mkCmd, mkBulk]
  repeat' (first
    | (with_reducible exact k0) | (with_reducible exact .refl _) | (with_reducible exact mkCmd_keeps)
    | (with_reducible apply checked_keeps) | (with_reducible apply checkedEntries_keeps) | (with_reducible apply State.swapPark_keeps)
    | (with_reducible apply State.swapLive_keeps) | ((with_reducible intro _ _); try dsimp only) | (split)
    | (with_reducible apply State.Keeps.of_pair (by assumption)) | (dsimp only))

theorem State.placeTails_keeps {r0 s : State} (k0 : r0.Keeps s)  {t1 : State} (h1 : (State.placeTails s) = some t1) :
    r0.Keeps t1 := by
  unfold State.placeTails at h1
  try dsimp only at h1
  repeat' (first
    | (cases h1; done) | (injection h1 with h1; subst h1) | (split at h1)
    | (obtain ⟨e1, h2, h3⟩ := Option.map_eq_some_iff.1 h1; clear h1; subst h3; try dsimp only))
  all_goals repeat' (first
    | (with_reducible exact k0) | (with_reducible exact .refl _) | (with_reducible apply State.unplace_keeps)
    | (with_reducible refine State.place_keeps ?_ _ _ _ (by assumption))
    | (with_reducible refine State.place_keeps' ?_ _ _ _ (by assumption)) | ((with_reducible intro _ _); try dsimp only) | (split)
    | (with_reducible apply State.Keeps.of_pair (by assumption)) | (dsimp only))

theorem State.grantEntry_keeps {r0 s : State} (k0 : r0.Keeps s) (m job : Nat) (e : Bytes) :
    r0.Keeps (State.grantEntry s m job e) := by
  unfold State.grantEntry
  try dsimp only
  repeat' (first
    | (with_reducible exact k0) | (with_reducible exact .refl _) | (with_reducible apply State.addPiece_keeps)
    | (with_reducible apply State.setLensBus_keeps) | ((with_reducible intro _ _); try dsimp only) | (split)
    | (with_reducible apply State.Keeps.of_pair (by assumption)) | (dsimp only))

theorem State.tailLive_keeps {r0 s : State} (k0 : r0.Keeps s) (h : Hdr) (es : List Bytes) :
    r0.Keeps (State.tailLive s h es).1 := by
  unfold State.tailLive
  try dsimp only
  repeat' (first
    | (with_reducible exact k0) | (with_reducible exact .refl _) | (with_reducible apply State.newJob_keeps)
    | (with_reducible apply State.each_keeps) | (with_reducible apply State.grantEntry_keeps)
    | (with_reducible apply State.settleJob_keeps) | (with_reducible refine State.placeTails_keeps ?_ (by assumption))
    | ((with_reducible intro _ _); try dsimp only) | (split) | (with_reducible apply State.Keeps.of_pair (by assumption)) | (dsimp only))

theorem State.tailPark_keeps {r0 s : State} (k0 : r0.Keeps s) (es : List Bytes) :
    r0.Keeps (State.tailPark s es).1 := by
  unfold State.tailPark
  try dsimp only
  repeat' (first
    | (with_reducible exact k0) | (with_reducible exact .refl _) | (with_reducible apply State.each_keeps)
    | (with_reducible apply State.setLensBus_keeps) | ((with_reducible intro _ _); try dsimp only) | (split)
    | (with_reducible apply State.Keeps.of_pair (by assumption)) | (dsimp only))

theorem cmdLensTailSet_keeps : cmdLensTailSet.Keeps := by
  intro h p s
  have k0 := State.Keeps.refl s
  unfold cmdLensTailSet
  try dsimp only [mkCmd, mkBulk]
  repeat' (first
    | (with_reducible exact k0) | (with_reducible exact .refl _) | (with_reducible exact mkCmd_keeps)
    | (with_reducible apply checkedEntries_keeps) | (with_reducible apply State.tailPark_keeps)
    | (with_reducible apply State.tailLive_keeps) | ((with_reducible intro _ _); try dsimp only) | (split)
    | (with_reducible apply State.Keeps.of_pair (by assumption)) | (dsimp only))

theorem State.applyGrant_keeps {r0 s : State} (k0 : r0.Keeps s) (m b : Nat) (g : Nat × Nat × Nat) :
    r0.Keeps (State.applyGrant s m b g) := by
  unfold State.applyGrant
  try dsimp only
  repeat' (first
    | (with_reducible exact k0) | (with_reducible exact .refl _) | (with_reducible apply State.setLensBus_keeps)
    | (with_reducible apply State.pieceDone_keeps) | ((with_reducible intro _ _); try dsimp only) | (split)
    | (with_reducible apply State.Keeps.of_pair (by assumption)) | (dsimp only))

theorem State.applyGrants_keeps {r0 s : State} (k0 : r0.Keeps s) (m : Nat) :
    r0.Keeps (State.applyGrants s m) := by
  unfold State.applyGrants
  try dsimp only
  repeat' (first
    | (with_reducible exact k0) | (with_reducible exact .refl _) | (with_reducible apply State.each_keeps)
    | (with_reducible apply State.applyGrant_keeps) | ((with_reducible intro _ _); try dsimp only) | (split)
    | (with_reducible apply State.Keeps.of_pair (by assumption)) | (dsimp only))

theorem State.tailRead_keeps {r0 s : State} (k0 : r0.Keeps s) (b k : Nat) (f : Nat × Nat) :
    r0.Keeps (State.tailRead s b k f) := by
  unfold State.tailRead
  try dsimp only
  repeat' (first
    | (with_reducible exact k0) | (with_reducible exact .refl _) | (with_reducible apply State.eccOutcome_keeps)
    | (with_reducible apply State.setLensBus_keeps) | (with_reducible apply State.tailEcc_keeps)
    | (with_reducible apply State.fresh_keeps) | ((with_reducible intro _ _); try dsimp only) | (split)
    | (with_reducible apply State.Keeps.of_pair (by assumption)) | (dsimp only))

theorem State.tailBursts_keeps {r0 s : State} (k0 : r0.Keeps s) (v : LensBus) :
    r0.Keeps (State.tailBursts s v) := by
  unfold State.tailBursts
  try dsimp only
  repeat' (first
    | (with_reducible exact k0) | (with_reducible exact .refl _) | (with_reducible apply State.perfAdd_keeps)
    | ((with_reducible intro _ _); try dsimp only) | (split) | (with_reducible apply State.Keeps.of_pair (by assumption)) | (dsimp only))

theorem State.busBlock_keeps {r0 s : State} (k0 : r0.Keeps s) (k : Nat) (late : List Nat) (fails : TailFails) (b : Nat) :
    r0.Keeps (State.busBlock s k late fails b) := by
  unfold State.busBlock
  try dsimp only
  repeat' (first
    | (with_reducible exact k0) | (with_reducible exact .refl _) | (with_reducible apply State.setLensBus_keeps)
    | (with_reducible apply State.tailBursts_keeps) | (with_reducible apply State.each_keeps)
    | (with_reducible apply State.tailRead_keeps) | ((with_reducible intro _ _); try dsimp only) | (split)
    | (with_reducible apply State.Keeps.of_pair (by assumption)) | (dsimp only))

theorem State.noteMargin_keeps {r0 s : State} (k0 : r0.Keeps s) (spare : Nat) :
    r0.Keeps (State.noteMargin s spare) := by
  unfold State.noteMargin
  try dsimp only
  repeat' (first
    | (with_reducible exact k0) | (with_reducible exact .refl _) | (with_reducible apply State.onLens_keeps)
    | ((with_reducible intro _ _); try dsimp only) | (split) | (with_reducible apply State.Keeps.of_pair (by assumption)) | (dsimp only))

theorem execTailBlockBoundary_keeps {r0 s : State} (k0 : r0.Keeps s) (late : List Nat) (fails : TailFails) (spare : Nat) :
    r0.KeepsNext (execTailBlockBoundary late fails spare s) := by
  unfold execTailBlockBoundary
  try dsimp only
  repeat' (first
    | (with_reducible apply State.KeepsNext.next) | (with_reducible exact k0) | (with_reducible exact .refl _)
    | (with_reducible apply State.applyGrants_keeps) | (with_reducible apply State.each_keeps)
    | (with_reducible apply State.busBlock_keeps) | (with_reducible apply State.noteMargin_keeps)
    | ((with_reducible intro _ _); try dsimp only) | (split) | (with_reducible apply State.Keeps.of_pair (by assumption)) | (dsimp only))

theorem execMarginClr_keeps {r0 s : State} (k0 : r0.Keeps s)  :
    r0.KeepsNext (execMarginClr s) := by
  unfold execMarginClr
  try dsimp only
  repeat' (first
    | (with_reducible apply State.KeepsNext.next) | (with_reducible exact k0) | (with_reducible exact .refl _)
    | (with_reducible apply State.busError_keeps) | (with_reducible apply State.onLens_keeps)
    | ((with_reducible intro _ _); try dsimp only) | (split) | (with_reducible apply State.Keeps.of_pair (by assumption)) | (dsimp only))

theorem State.startLoad_keeps {r0 s : State} (k0 : r0.Keeps s) (h : Hdr) (is : List Bytes) :
    r0.Keeps (State.startLoad s h is).1 := by
  unfold State.startLoad
  try dsimp only
  repeat' (first
    | (with_reducible exact k0) | (with_reducible exact .refl _) | (with_reducible apply State.newJob_keeps)
    | (with_reducible apply State.each_keeps) | (with_reducible apply State.setLensBus_keeps) | (with_reducible apply State.onLens_keeps)
    | (with_reducible apply State.parkDomains_keeps) | (with_reducible refine State.placeTails_keeps ?_ (by assumption))
    | ((with_reducible intro _ _); try dsimp only) | (split) | (with_reducible apply State.Keeps.of_pair (by assumption)) | (dsimp only))

theorem cmdLensBankLoad_keeps : cmdLensBankLoad.Keeps := by
  intro h p s
  have k0 := State.Keeps.refl s
  unfold cmdLensBankLoad
  try dsimp only [mkCmd, mkBulk]
  repeat' (first
    | (with_reducible exact k0) | (with_reducible exact .refl _) | (with_reducible exact mkBulk_keeps)
    | (with_reducible apply checked_keeps) | (with_reducible apply State.startLoad_keeps) | ((with_reducible intro _ _); try dsimp only)
    | (split) | (with_reducible apply State.Keeps.of_pair (by assumption)) | (dsimp only))

theorem State.loadBank_keeps {r0 s : State} (k0 : r0.Keeps s) (l : LensLoad) (b k : Nat) (img : Bytes) :
    r0.Keeps (State.loadBank s l b k img) := by
  unfold State.loadBank
  try dsimp only
  repeat' (first
    | (with_reducible exact k0) | (with_reducible exact .refl _) | (with_reducible apply State.setLensBus_keeps)
    | (with_reducible apply State.perfAdd_keeps) | (with_reducible apply State.onLens_keeps) | (with_reducible apply State.raise_keeps)
    | (with_reducible apply State.endJob_keeps) | (with_reducible apply State.parkDomains_keeps)
    | ((with_reducible intro _ _); try dsimp only) | (split) | (with_reducible apply State.Keeps.of_pair (by assumption)) | (dsimp only))

theorem execLensLoadDone_keeps {r0 s : State} (k0 : r0.Keeps s) (bus bank : Nat) :
    r0.KeepsNext (execLensLoadDone bus bank s) := by
  unfold execLensLoadDone
  try dsimp only
  repeat' (first
    | (with_reducible apply State.KeepsNext.next) | (with_reducible exact k0) | (with_reducible exact .refl _)
    | (with_reducible apply State.loadBank_keeps) | ((with_reducible intro _ _); try dsimp only) | (split)
    | (with_reducible apply State.Keeps.of_pair (by assumption)) | (dsimp only))

theorem State.trimEntry_keeps {r0 s : State} (k0 : r0.Keeps s) (r : Nat) (e : Bytes) :
    r0.Keeps (State.trimEntry s r e) := by
  unfold State.trimEntry
  try dsimp only
  repeat' (first
    | (with_reducible exact k0) | (with_reducible exact .refl _) | (with_reducible apply State.setLensBus_keeps)
    | ((with_reducible intro _ _); try dsimp only) | (split) | (with_reducible apply State.Keeps.of_pair (by assumption)) | (dsimp only))

theorem cmdLensTrimSet_keeps : cmdLensTrimSet.Keeps := by
  intro h p s
  have k0 := State.Keeps.refl s
  unfold cmdLensTrimSet
  try dsimp only [mkCmd, mkBulk]
  repeat' (first
    | (with_reducible exact k0) | (with_reducible exact .refl _) | (with_reducible exact mkCmd_keeps)
    | (with_reducible apply checked_keeps) | (with_reducible apply checkedEntries_keeps) | (with_reducible apply State.each_keeps)
    | (with_reducible apply State.trimEntry_keeps) | ((with_reducible intro _ _); try dsimp only) | (split)
    | (with_reducible apply State.Keeps.of_pair (by assumption)) | (dsimp only))

theorem State.limEntry_keeps {r0 s : State} (k0 : r0.Keeps s) (e : Bytes) :
    r0.Keeps (State.limEntry s e) := by
  unfold State.limEntry
  try dsimp only
  repeat' (first
    | (with_reducible exact k0) | (with_reducible exact .refl _) | (with_reducible apply State.setLensBus_keeps)
    | ((with_reducible intro _ _); try dsimp only) | (split) | (with_reducible apply State.Keeps.of_pair (by assumption)) | (dsimp only))

theorem cmdLensLimitSet_keeps : cmdLensLimitSet.Keeps := by
  intro h p s
  have k0 := State.Keeps.refl s
  unfold cmdLensLimitSet
  try dsimp only [mkCmd, mkBulk]
  repeat' (first
    | (with_reducible exact k0) | (with_reducible exact .refl _) | (with_reducible exact mkCmd_keeps)
    | (with_reducible apply checkedEntries_keeps) | (with_reducible apply State.each_keeps) | (with_reducible apply State.limEntry_keeps)
    | ((with_reducible intro _ _); try dsimp only) | (split) | (with_reducible apply State.Keeps.of_pair (by assumption)) | (dsimp only))

theorem cmdLensDetSet_keeps : cmdLensDetSet.Keeps := by
  intro h p s
  have k0 := State.Keeps.refl s
  unfold cmdLensDetSet
  try dsimp only [mkCmd, mkBulk]
  repeat' (first
    | (with_reducible exact k0) | (with_reducible exact .refl _) | (with_reducible exact mkCmd_keeps)
    | (with_reducible apply checked_keeps) | (with_reducible apply State.onLens_keeps) | ((with_reducible intro _ _); try dsimp only)
    | (split) | (with_reducible apply State.Keeps.of_pair (by assumption)) | (dsimp only))

theorem cmdLensDetMap_keeps : cmdLensDetMap.Keeps := by
  intro h p s
  have k0 := State.Keeps.refl s
  unfold cmdLensDetMap
  try dsimp only [mkCmd, mkBulk]
  repeat' (first
    | (with_reducible exact k0) | (with_reducible exact .refl _) | (with_reducible exact mkCmd_keeps)
    | (with_reducible apply checkedEntries_keeps) | (with_reducible apply State.each_keeps)
    | (with_reducible apply State.setLensBus_keeps) | ((with_reducible intro _ _); try dsimp only) | (split)
    | (with_reducible apply State.Keeps.of_pair (by assumption)) | (dsimp only))

theorem State.busRange_keeps {r0 s : State} (k0 : r0.Keeps s) (p : Bytes) (rec_ : LensBus → Bytes) :
    r0.Keeps (State.busRange s p rec_).1 := by
  unfold State.busRange
  try dsimp only
  repeat' (first
    | (with_reducible exact k0) | (with_reducible exact .refl _) | (with_reducible apply checked_keeps)
    | ((with_reducible intro _ _); try dsimp only) | (split) | (with_reducible apply State.Keeps.of_pair (by assumption)) | (dsimp only))

theorem cmdLensMeterGet_keeps : cmdLensMeterGet.Keeps := by
  intro h p s
  have k0 := State.Keeps.refl s
  unfold cmdLensMeterGet
  try dsimp only [mkCmd, mkBulk]
  repeat' (first
    | (with_reducible exact k0) | (with_reducible exact .refl _) | (with_reducible exact mkCmd_keeps)
    | (with_reducible apply State.busRange_keeps) | ((with_reducible intro _ _); try dsimp only) | (split)
    | (with_reducible apply State.Keeps.of_pair (by assumption)) | (dsimp only))

theorem cmdLensStatusGet_keeps : cmdLensStatusGet.Keeps := by
  intro h p s
  have k0 := State.Keeps.refl s
  unfold cmdLensStatusGet
  try dsimp only [mkCmd, mkBulk]
  repeat' (first
    | (with_reducible exact k0) | (with_reducible exact .refl _) | (with_reducible exact mkCmd_keeps)
    | (with_reducible apply State.busRange_keeps) | ((with_reducible intro _ _); try dsimp only) | (split)
    | (with_reducible apply State.Keeps.of_pair (by assumption)) | (dsimp only))

theorem execLensBankLoad_keeps {r0 s : State} (k0 : r0.Keeps s) (h : Hdr) (p : Bytes) :
    r0.KeepsNext (execLensBankLoad h p s) := by
  unfold execLensBankLoad
  try dsimp only
  repeat' (first
    | (with_reducible apply State.KeepsNext.next) | (with_reducible exact k0) | (with_reducible exact .refl _)
    | (with_reducible apply CmdDef.exec_keeps) | (with_reducible exact cmdLensBankLoad_keeps)
    | (with_reducible refine State.KeepsNext.of (CmdDef.exec_keeps ?_ _ _ _) (by assumption))
    | ((with_reducible intro _ _); try dsimp only) | (split) | (with_reducible apply State.Keeps.of_pair (by assumption)) | (dsimp only)
    | (with_reducible apply CmdDef.exec_keeps))

theorem execLensSwap_keeps {r0 s : State} (k0 : r0.Keeps s) (h : Hdr) (p : Bytes) :
    r0.KeepsNext (execLensSwap h p s) := by
  unfold execLensSwap
  try dsimp only
  repeat' (first
    | (with_reducible apply State.KeepsNext.next) | (with_reducible exact k0) | (with_reducible exact .refl _)
    | (with_reducible apply CmdDef.exec_keeps) | (with_reducible exact cmdLensSwap_keeps)
    | (with_reducible refine State.KeepsNext.of (CmdDef.exec_keeps ?_ _ _ _) (by assumption))
    | ((with_reducible intro _ _); try dsimp only) | (split) | (with_reducible apply State.Keeps.of_pair (by assumption)) | (dsimp only)
    | (with_reducible apply CmdDef.exec_keeps))

theorem execLensTailSet_keeps {r0 s : State} (k0 : r0.Keeps s) (h : Hdr) (p : Bytes) :
    r0.KeepsNext (execLensTailSet h p s) := by
  unfold execLensTailSet
  try dsimp only
  repeat' (first
    | (with_reducible apply State.KeepsNext.next) | (with_reducible exact k0) | (with_reducible exact .refl _)
    | (with_reducible apply CmdDef.exec_keeps) | (with_reducible exact cmdLensTailSet_keeps)
    | (with_reducible refine State.KeepsNext.of (CmdDef.exec_keeps ?_ _ _ _) (by assumption))
    | ((with_reducible intro _ _); try dsimp only) | (split) | (with_reducible apply State.Keeps.of_pair (by assumption)) | (dsimp only)
    | (with_reducible apply CmdDef.exec_keeps))

theorem execLensTrimSet_keeps {r0 s : State} (k0 : r0.Keeps s) (h : Hdr) (p : Bytes) :
    r0.KeepsNext (execLensTrimSet h p s) := by
  unfold execLensTrimSet
  try dsimp only
  repeat' (first
    | (with_reducible apply State.KeepsNext.next) | (with_reducible exact k0) | (with_reducible exact .refl _)
    | (with_reducible apply CmdDef.exec_keeps) | (with_reducible exact cmdLensTrimSet_keeps)
    | (with_reducible refine State.KeepsNext.of (CmdDef.exec_keeps ?_ _ _ _) (by assumption))
    | ((with_reducible intro _ _); try dsimp only) | (split) | (with_reducible apply State.Keeps.of_pair (by assumption)) | (dsimp only)
    | (with_reducible apply CmdDef.exec_keeps))

theorem execLensLimitSet_keeps {r0 s : State} (k0 : r0.Keeps s) (h : Hdr) (p : Bytes) :
    r0.KeepsNext (execLensLimitSet h p s) := by
  unfold execLensLimitSet
  try dsimp only
  repeat' (first
    | (with_reducible apply State.KeepsNext.next) | (with_reducible exact k0) | (with_reducible exact .refl _)
    | (with_reducible apply CmdDef.exec_keeps) | (with_reducible exact cmdLensLimitSet_keeps)
    | (with_reducible refine State.KeepsNext.of (CmdDef.exec_keeps ?_ _ _ _) (by assumption))
    | ((with_reducible intro _ _); try dsimp only) | (split) | (with_reducible apply State.Keeps.of_pair (by assumption)) | (dsimp only)
    | (with_reducible apply CmdDef.exec_keeps))

theorem execLensDetSet_keeps {r0 s : State} (k0 : r0.Keeps s) (h : Hdr) (p : Bytes) :
    r0.KeepsNext (execLensDetSet h p s) := by
  unfold execLensDetSet
  try dsimp only
  repeat' (first
    | (with_reducible apply State.KeepsNext.next) | (with_reducible exact k0) | (with_reducible exact .refl _)
    | (with_reducible apply CmdDef.exec_keeps) | (with_reducible exact cmdLensDetSet_keeps)
    | (with_reducible refine State.KeepsNext.of (CmdDef.exec_keeps ?_ _ _ _) (by assumption))
    | ((with_reducible intro _ _); try dsimp only) | (split) | (with_reducible apply State.Keeps.of_pair (by assumption)) | (dsimp only)
    | (with_reducible apply CmdDef.exec_keeps))

theorem execLensDetMap_keeps {r0 s : State} (k0 : r0.Keeps s) (h : Hdr) (p : Bytes) :
    r0.KeepsNext (execLensDetMap h p s) := by
  unfold execLensDetMap
  try dsimp only
  repeat' (first
    | (with_reducible apply State.KeepsNext.next) | (with_reducible exact k0) | (with_reducible exact .refl _)
    | (with_reducible apply CmdDef.exec_keeps) | (with_reducible exact cmdLensDetMap_keeps)
    | (with_reducible refine State.KeepsNext.of (CmdDef.exec_keeps ?_ _ _ _) (by assumption))
    | ((with_reducible intro _ _); try dsimp only) | (split) | (with_reducible apply State.Keeps.of_pair (by assumption)) | (dsimp only)
    | (with_reducible apply CmdDef.exec_keeps))

theorem execLensMeterGet_keeps {r0 s : State} (k0 : r0.Keeps s) (h : Hdr) (p : Bytes) :
    r0.KeepsNext (execLensMeterGet h p s) := by
  unfold execLensMeterGet
  try dsimp only
  repeat' (first
    | (with_reducible apply State.KeepsNext.next) | (with_reducible exact k0) | (with_reducible exact .refl _)
    | (with_reducible apply CmdDef.exec_keeps) | (with_reducible exact cmdLensMeterGet_keeps)
    | (with_reducible refine State.KeepsNext.of (CmdDef.exec_keeps ?_ _ _ _) (by assumption))
    | ((with_reducible intro _ _); try dsimp only) | (split) | (with_reducible apply State.Keeps.of_pair (by assumption)) | (dsimp only)
    | (with_reducible apply CmdDef.exec_keeps))

theorem execLensStatusGet_keeps {r0 s : State} (k0 : r0.Keeps s) (h : Hdr) (p : Bytes) :
    r0.KeepsNext (execLensStatusGet h p s) := by
  unfold execLensStatusGet
  try dsimp only
  repeat' (first
    | (with_reducible apply State.KeepsNext.next) | (with_reducible exact k0) | (with_reducible exact .refl _)
    | (with_reducible apply CmdDef.exec_keeps) | (with_reducible exact cmdLensStatusGet_keeps)
    | (with_reducible refine State.KeepsNext.of (CmdDef.exec_keeps ?_ _ _ _) (by assumption))
    | ((with_reducible intro _ _); try dsimp only) | (split) | (with_reducible apply State.Keeps.of_pair (by assumption)) | (dsimp only)
    | (with_reducible apply CmdDef.exec_keeps))

/-! ### Machine/Mic.lean -/

theorem State.setMic_keeps {r0 s : State} (k0 : r0.Keeps s) (c : Nat) (v : Mic) :
    r0.Keeps (State.setMic s c v) := by
  unfold State.setMic
  try dsimp only
  repeat' (first
    | (with_reducible exact k0) | (with_reducible exact .refl _) | (with_reducible apply State.onMeas_keeps)
    | ((with_reducible intro _ _); try dsimp only) | (split) | (with_reducible apply State.Keeps.of_pair (by assumption)) | (dsimp only))

theorem State.compFadeEnd_keeps {r0 s : State} (k0 : r0.Keeps s) (c : Nat) (n : Int) :
    r0.Keeps (State.compFadeEnd s c n) := by
  unfold State.compFadeEnd
  try dsimp only
  repeat' (first
    | (with_reducible exact k0) | (with_reducible exact .refl _) | (with_reducible apply State.setMic_keeps)
    | (with_reducible apply State.raise_keeps) | (with_reducible apply State.pieceDone_keeps) | (with_reducible apply State.bump_keeps)
    | (with_reducible apply State.pieceDrop_keeps) | ((with_reducible intro _ _); try dsimp only) | (split)
    | (with_reducible apply State.Keeps.of_pair (by assumption)) | (dsimp only))

theorem State.compAdmit_keeps {r0 s : State} (k0 : r0.Keeps s) (c n : Nat) :
    r0.Keeps (State.compAdmit s c n) := by
  unfold State.compAdmit
  try dsimp only
  repeat' (first
    | (with_reducible exact k0) | (with_reducible exact .refl _) | (with_reducible apply State.setMic_keeps)
    | ((with_reducible intro _ _); try dsimp only) | (split) | (with_reducible apply State.Keeps.of_pair (by assumption)) | (dsimp only))

theorem State.endCompLoad_keeps {r0 s : State} (k0 : r0.Keeps s) (n : Nat) (l : CompLoad) :
    r0.Keeps (State.endCompLoad s n l) := by
  unfold State.endCompLoad
  try dsimp only
  repeat' (first
    | (with_reducible exact k0) | (with_reducible exact .refl _) | (with_reducible apply State.each_keeps)
    | (with_reducible apply State.setMic_keeps) | (with_reducible apply State.onMeas_keeps) | (with_reducible apply State.raise_keeps)
    | (with_reducible apply State.endJob_keeps) | (with_reducible apply State.parkDomains_keeps)
    | ((with_reducible intro _ _); try dsimp only) | (split) | (with_reducible apply State.Keeps.of_pair (by assumption)) | (dsimp only))

theorem State.endCompLoads_keeps {r0 s : State} (k0 : r0.Keeps s) (n : Nat) :
    r0.Keeps (State.endCompLoads s n) := by
  unfold State.endCompLoads
  try dsimp only
  repeat' (first
    | (with_reducible exact k0) | (with_reducible exact .refl _) | (with_reducible apply State.each_keeps)
    | (with_reducible apply State.endCompLoad_keeps) | ((with_reducible intro _ _); try dsimp only) | (split)
    | (with_reducible apply State.Keeps.of_pair (by assumption)) | (dsimp only))

theorem State.micApply_keeps {r0 s : State} (k0 : r0.Keeps s) (mask preset : Nat) (changed : Bool) (c : Nat) :
    r0.Keeps (State.micApply s mask preset changed c) := by
  unfold State.micApply
  try dsimp only
  repeat' (first
    | (with_reducible exact k0) | (with_reducible exact .refl _) | (with_reducible apply State.setMic_keeps)
    | ((with_reducible intro _ _); try dsimp only) | (split) | (with_reducible apply State.Keeps.of_pair (by assumption)) | (dsimp only))

theorem State.micSettings_keeps {r0 s : State} (k0 : r0.Keeps s)  :
    r0.Keeps (State.micSettings s) := by
  unfold State.micSettings
  try dsimp only
  repeat' (first
    | (with_reducible exact k0) | (with_reducible exact .refl _) | (with_reducible apply State.each_keeps)
    | (with_reducible apply State.micApply_keeps) | (with_reducible apply State.onMeas_keeps)
    | ((with_reducible intro _ _); try dsimp only) | (split) | (with_reducible apply State.Keeps.of_pair (by assumption)) | (dsimp only))

theorem State.micStart_keeps {r0 s : State} (k0 : r0.Keeps s)  :
    r0.Keeps (State.micStart s) := by
  unfold State.micStart
  try dsimp only
  repeat' (first
    | (with_reducible exact k0) | (with_reducible exact .refl _) | (with_reducible apply State.each_keeps)
    | (with_reducible apply State.micApply_keeps) | (with_reducible apply State.onMeas_keeps)
    | ((with_reducible intro _ _); try dsimp only) | (split) | (with_reducible apply State.Keeps.of_pair (by assumption)) | (dsimp only))

theorem State.micStop_keeps {r0 s : State} (k0 : r0.Keeps s)  :
    r0.Keeps (State.micStop s) := by
  unfold State.micStop
  try dsimp only
  repeat' (first
    | (with_reducible exact k0) | (with_reducible exact .refl _) | (with_reducible apply State.each_keeps)
    | (with_reducible apply State.setMic_keeps) | (with_reducible apply State.onMeas_keeps) | ((with_reducible intro _ _); try dsimp only)
    | (split) | (with_reducible apply State.Keeps.of_pair (by assumption)) | (dsimp only))

theorem State.captureFrame_keeps {r0 s : State} (k0 : r0.Keeps s) (outs : Tbl (List Int)) (q i : Nat) :
    r0.Keeps (State.captureFrame s outs q i) := by
  unfold State.captureFrame
  try dsimp only
  repeat' (first
    | (with_reducible exact k0) | (with_reducible exact .refl _) | (with_reducible apply State.withMem_keeps)
    | (with_reducible apply State.onCapture_keeps)
    | (intro hm; (repeat (first | exact hm | apply mwrite_wf | apply mclear_wf | apply mmove_wf)); done)
    | ((with_reducible intro _ _); try dsimp only) | (split) | (with_reducible apply State.Keeps.of_pair (by assumption)) | (dsimp only))

theorem State.captureFrames_keeps {r0 s : State} (k0 : r0.Keeps s) (outs : Tbl (List Int)) (q : Nat) :
    r0.Keeps (State.captureFrames s outs q) := by
  unfold State.captureFrames
  try dsimp only
  repeat' (first
    | (with_reducible exact k0) | (with_reducible exact .refl _) | (with_reducible apply State.each_keeps)
    | (with_reducible apply State.captureFrame_keeps) | (with_reducible apply State.putHeader_keeps)
    | ((with_reducible intro _ _); try dsimp only) | (split) | (with_reducible apply State.Keeps.of_pair (by assumption)) | (dsimp only))

theorem State.micProcess_keeps {r0 s : State} (k0 : r0.Keeps s) (q : Nat) (acc : Tbl (List Int)) (c : Nat) :
    r0.Keeps (State.micProcess s q acc c).1 := by
  unfold State.micProcess
  try dsimp only
  repeat' (first
    | (with_reducible exact k0) | (with_reducible exact .refl _) | (with_reducible apply State.setMic_keeps)
    | (with_reducible apply State.bump_keeps) | (with_reducible apply State.perfAdd_keeps) | (with_reducible apply State.raise_keeps)
    | ((with_reducible intro _ _); try dsimp only) | (split) | (with_reducible apply State.Keeps.of_pair (by assumption)) | (dsimp only))

theorem State.micProcessAll_keeps {r0 s : State} (k0 : r0.Keeps s) (q : Nat) :
    r0.Keeps (State.micProcessAll s q).1 := by
  unfold State.micProcessAll
  try dsimp only
  repeat' (first
    | (with_reducible exact k0) | (with_reducible exact .refl _) | (with_reducible apply State.micProcess_keeps)
    | (with_reducible apply foldl_keeps) | (with_reducible apply foldlState_keeps) | ((with_reducible intro _ _); try dsimp only)
    | (split) | (with_reducible apply State.Keeps.of_pair (by assumption)) | (dsimp only))

theorem State.micReceive_keeps {r0 s : State} (k0 : r0.Keeps s) (q : Nat) (pdm : List (Nat × Nat)) :
    r0.Keeps (State.micReceive s q pdm) := by
  unfold State.micReceive
  try dsimp only
  repeat' (first
    | (with_reducible exact k0) | (with_reducible exact .refl _) | (with_reducible apply State.each_keeps)
    | (with_reducible apply State.setMic_keeps) | ((with_reducible intro _ _); try dsimp only) | (split)
    | (with_reducible apply State.Keeps.of_pair (by assumption)) | (dsimp only))

theorem State.micBoundary_keeps {r0 s : State} (k0 : r0.Keeps s) (n : Nat) (pdm : List (Nat × Nat)) :
    r0.Keeps (State.micBoundary s n pdm) := by
  unfold State.micBoundary
  try dsimp only
  repeat' (first
    | (with_reducible exact k0) | (with_reducible exact .refl _) | (with_reducible apply State.micProcessAll_keeps)
    | (with_reducible apply State.captureFrames_keeps) | (with_reducible apply State.captureEnding_keeps)
    | (with_reducible apply State.captureWord_keeps) | (with_reducible apply State.micReceive_keeps)
    | (with_reducible apply State.each_keeps) | (with_reducible apply State.compFadeEnd_keeps)
    | (with_reducible apply State.compAdmit_keeps) | (with_reducible apply State.endCompLoads_keeps)
    | (with_reducible apply State.micSettings_keeps) | (with_reducible apply State.captureBegin_keeps)
    | ((with_reducible intro _ _); try dsimp only) | (split) | (with_reducible apply State.Keeps.of_pair (by assumption)) | (dsimp only))

theorem execMicStuck_keeps {r0 s : State} (k0 : r0.Keeps s) (mic : Nat) :
    r0.KeepsNext (execMicStuck mic s) := by
  unfold execMicStuck
  try dsimp only
  repeat' (first
    | (with_reducible apply State.KeepsNext.next) | (with_reducible exact k0) | (with_reducible exact .refl _)
    | (with_reducible apply State.setMic_keeps) | (with_reducible apply State.bump_keeps) | (with_reducible apply State.raise_keeps)
    | ((with_reducible intro _ _); try dsimp only) | (split) | (with_reducible apply State.Keeps.of_pair (by assumption)) | (dsimp only))

theorem execMicTransition_keeps {r0 s : State} (k0 : r0.Keeps s) (mic : Nat) :
    r0.KeepsNext (execMicTransition mic s) := by
  unfold execMicTransition
  try dsimp only
  repeat' (first
    | (with_reducible apply State.KeepsNext.next) | (with_reducible exact k0) | (with_reducible exact .refl _)
    | (with_reducible apply State.setMic_keeps) | ((with_reducible intro _ _); try dsimp only) | (split)
    | (with_reducible apply State.Keeps.of_pair (by assumption)) | (dsimp only))

/-! ### Machine/Gen.lean -/

theorem State.genStopped_keeps {r0 s : State} (k0 : r0.Keeps s)  :
    r0.Keeps (State.genStopped s) := by
  unfold State.genStopped
  try dsimp only
  repeat' (first
    | (with_reducible exact k0) | (with_reducible exact .refl _) | (with_reducible apply State.onMeas_keeps)
    | (with_reducible apply State.raise_keeps) | (with_reducible apply State.post_keeps) | ((with_reducible intro _ _); try dsimp only)
    | (split) | (with_reducible apply State.Keeps.of_pair (by assumption)) | (dsimp only))

theorem State.genFadeStep_keeps {r0 s : State} (k0 : r0.Keeps s)  :
    r0.Keeps (State.genFadeStep s) := by
  unfold State.genFadeStep
  try dsimp only
  repeat' (first
    | (with_reducible exact k0) | (with_reducible exact .refl _) | (with_reducible apply State.genStopped_keeps)
    | (with_reducible apply State.onMeas_keeps) | ((with_reducible intro _ _); try dsimp only) | (split)
    | (with_reducible apply State.Keeps.of_pair (by assumption)) | (dsimp only))

theorem State.genQuantum_keeps {r0 s : State} (k0 : r0.Keeps s) (n : Nat) (q : Int) :
    r0.Keeps (State.genQuantum s n q).1 := by
  unfold State.genQuantum
  try dsimp only
  repeat' (first
    | (with_reducible exact k0) | (with_reducible exact .refl _) | (with_reducible apply State.onMeas_keeps)
    | (with_reducible apply State.genFadeStep_keeps) | ((with_reducible intro _ _); try dsimp only) | (split)
    | (with_reducible apply State.Keeps.of_pair (by assumption)) | (dsimp only))

theorem State.genStop_keeps {r0 s : State} (k0 : r0.Keeps s)  :
    r0.Keeps (State.genStop s) := by
  unfold State.genStop
  try dsimp only
  repeat' (first
    | (with_reducible exact k0) | (with_reducible exact .refl _) | (with_reducible apply State.genStopped_keeps)
    | (with_reducible apply State.onMeas_keeps) | ((with_reducible intro _ _); try dsimp only) | (split)
    | (with_reducible apply State.Keeps.of_pair (by assumption)) | (dsimp only))

theorem State.genRelease_keeps {r0 s : State} (k0 : r0.Keeps s)  :
    r0.Keeps (State.genRelease s) := by
  unfold State.genRelease
  try dsimp only
  repeat' (first
    | (with_reducible exact k0) | (with_reducible exact .refl _) | (with_reducible apply State.genStopped_keeps)
    | (with_reducible apply State.onMeas_keeps) | (with_reducible apply State.claim_keeps) | ((with_reducible intro _ _); try dsimp only)
    | (split) | (with_reducible apply State.Keeps.of_pair (by assumption)) | (dsimp only))

theorem execGenDone_keeps {r0 s : State} (k0 : r0.Keeps s)  :
    r0.KeepsNext (execGenDone s) := by
  unfold execGenDone
  try dsimp only
  repeat' (first
    | (with_reducible apply State.KeepsNext.next) | (with_reducible exact k0) | (with_reducible exact .refl _)
    | (with_reducible apply State.sweepEnd_keeps) | (with_reducible apply State.onMeas_keeps) | (with_reducible apply State.raise_keeps)
    | (with_reducible apply State.post_keeps) | ((with_reducible intro _ _); try dsimp only) | (split)
    | (with_reducible apply State.Keeps.of_pair (by assumption)) | (dsimp only))

end Sys2Proof.Machine
end

