-- ==== Sys2Proof/Laws/KeepsNet.lean ====
section
/-! SUPPORT. Keeps of the ports and the network: one lemma for each operation, by the lemmas of what it calls. -/

namespace Sys2Proof.Machine

set_option linter.all false

/-! ### Machine/Frame.lean -/

theorem State.hashEther_keeps {r0 s : State} (k0 : r0.Keeps s) (a : Nat) :
    r0.Keeps (State.hashEther s a) := by
  unfold State.hashEther
  try dsimp only
  repeat' (first
    | (with_reducible exact k0) | (with_reducible exact .refl _) | (with_reducible apply State.each_keeps)
    | (with_reducible apply State.raise_keeps) | ((with_reducible intro _ _); try dsimp only) | (split)
    | (with_reducible apply State.Keeps.of_pair (by assumption)) | (dsimp only))

theorem State.hashIn_keeps {r0 s : State} (k0 : r0.Keeps s) (ip : Nat) :
    r0.Keeps (State.hashIn s ip) := by
  unfold State.hashIn
  try dsimp only
  repeat' (first
    | (with_reducible exact k0) | (with_reducible exact .refl _) | (with_reducible apply State.hashEther_keeps)
    | ((with_reducible intro _ _); try dsimp only) | (split) | (with_reducible apply State.Keeps.of_pair (by assumption)) | (dsimp only))

/-! ### Machine/NetPort.lean -/

theorem State.setMac_keeps {r0 s : State} (k0 : r0.Keeps s) (m : Nat) (v : MacSt) :
    r0.Keeps (State.setMac s m v) := by
  unfold State.setMac
  try dsimp only
  repeat' (first
    | (with_reducible exact k0) | (with_reducible exact .refl _) | (with_reducible apply State.onNet_keeps)
    | ((with_reducible intro _ _); try dsimp only) | (split) | (with_reducible apply State.Keeps.of_pair (by assumption)) | (dsimp only))

theorem State.onMac_keeps {r0 s : State} (k0 : r0.Keeps s) (m : Nat) (f : MacSt → MacSt) :
    r0.Keeps (State.onMac s m f) := by
  unfold State.onMac
  try dsimp only
  repeat' (first
    | (with_reducible exact k0) | (with_reducible exact .refl _) | (with_reducible apply State.setMac_keeps)
    | ((with_reducible intro _ _); try dsimp only) | (split) | (with_reducible apply State.Keeps.of_pair (by assumption)) | (dsimp only))

theorem State.macCnt_keeps {r0 s : State} (k0 : r0.Keeps s) (m n : Nat) :
    r0.Keeps (State.macCnt s m n) := by
  unfold State.macCnt
  try dsimp only
  repeat' (first
    | (with_reducible exact k0) | (with_reducible exact .refl _) | (with_reducible apply State.bump_keeps)
    | ((with_reducible intro _ _); try dsimp only) | (split) | (with_reducible apply State.Keeps.of_pair (by assumption)) | (dsimp only))

theorem State.linkEvent_keeps {r0 s : State} (k0 : r0.Keeps s) (m kind : Nat) :
    r0.Keeps (State.linkEvent s m kind) := by
  unfold State.linkEvent
  try dsimp only
  repeat' (first
    | (with_reducible exact k0) | (with_reducible exact .refl _) | (with_reducible apply State.post_keeps)
    | ((with_reducible intro _ _); try dsimp only) | (split) | (with_reducible apply State.Keeps.of_pair (by assumption)) | (dsimp only))

theorem State.leaveBuffer_keeps {r0 s : State} (k0 : r0.Keeps s) (m at_ : Nat) (f : TxFrame) :
    r0.Keeps (State.leaveBuffer s m at_ f) := by
  unfold State.leaveBuffer
  try dsimp only
  repeat' (first
    | (with_reducible exact k0) | (with_reducible exact .refl _) | (with_reducible apply State.onMac_keeps)
    | ((with_reducible intro _ _); try dsimp only) | (split) | (with_reducible apply State.Keeps.of_pair (by assumption)) | (dsimp only))

theorem State.dropFrame_keeps {r0 s : State} (k0 : r0.Keeps s) (m : Nat) (f : TxFrame) :
    r0.Keeps (State.dropFrame s m f) := by
  unfold State.dropFrame
  try dsimp only
  repeat' (first
    | (with_reducible exact k0) | (with_reducible exact .refl _) | (with_reducible apply State.macCnt_keeps)
    | (with_reducible apply State.perfAdd_keeps) | (with_reducible apply State.leaveBuffer_keeps)
    | (with_reducible apply State.ring_keeps) | (with_reducible apply State.onMac_keeps) | ((with_reducible intro _ _); try dsimp only)
    | (split) | (with_reducible apply State.Keeps.of_pair (by assumption)) | (dsimp only))

theorem State.dropQueued_keeps {r0 s : State} (k0 : r0.Keeps s) (m : Nat) :
    r0.Keeps (State.dropQueued s m) := by
  unfold State.dropQueued
  try dsimp only
  repeat' (first
    | (with_reducible exact k0) | (with_reducible exact .refl _) | (with_reducible apply State.onMac_keeps)
    | (with_reducible apply State.each_keeps) | (with_reducible apply State.dropFrame_keeps)
    | ((with_reducible intro _ _); try dsimp only) | (split) | (with_reducible apply State.Keeps.of_pair (by assumption)) | (dsimp only))

theorem State.setLink_keeps {r0 s : State} (k0 : r0.Keeps s) (m : Nat) (up : Bool) :
    r0.Keeps (State.setLink s m up) := by
  unfold State.setLink
  try dsimp only
  repeat' (first
    | (with_reducible exact k0) | (with_reducible exact .refl _) | (with_reducible apply State.onMac_keeps)
    | (with_reducible apply State.raise_keeps) | ((with_reducible intro _ _); try dsimp only) | (split)
    | (with_reducible apply State.Keeps.of_pair (by assumption)) | (dsimp only))

theorem State.loseLock_keeps {r0 s : State} (k0 : r0.Keeps s) (mac : Nat) :
    r0.Keeps (State.loseLock s mac) := by
  unfold State.loseLock
  try dsimp only
  repeat' (first
    | (with_reducible exact k0) | (with_reducible exact .refl _) | (with_reducible apply State.setLink_keeps)
    | (with_reducible apply State.onMac_keeps) | (with_reducible apply State.dropQueued_keeps)
    | ((with_reducible intro _ _); try dsimp only) | (split) | (with_reducible apply State.Keeps.of_pair (by assumption)) | (dsimp only))

theorem execBlockLockLoss_keeps {r0 s : State} (k0 : r0.Keeps s) (lost : LockLoss) :
    r0.KeepsNext (execBlockLockLoss lost s) := by
  unfold execBlockLockLoss
  try dsimp only
  repeat' (first
    | (with_reducible apply State.KeepsNext.next) | (with_reducible exact k0) | (with_reducible exact .refl _)
    | (with_reducible apply State.loseLock_keeps) | (with_reducible apply State.onTime_keeps) | (with_reducible apply State.raise_keeps)
    | ((with_reducible intro _ _); try dsimp only) | (split) | (with_reducible apply State.Keeps.of_pair (by assumption)) | (dsimp only))

theorem State.sdLocked_keeps {r0 s : State} (k0 : r0.Keeps s)  :
    r0.Keeps (State.sdLocked s) := by
  unfold State.sdLocked
  try dsimp only
  repeat' (first
    | (with_reducible exact k0) | (with_reducible exact .refl _) | (with_reducible apply State.onTime_keeps)
    | ((with_reducible intro _ _); try dsimp only) | (split) | (with_reducible apply State.Keeps.of_pair (by assumption)) | (dsimp only))

theorem execRetrainEnd_keeps {r0 s : State} (k0 : r0.Keeps s) (mac : Nat) (ok : Bool) :
    r0.KeepsNext (execRetrainEnd mac ok s) := by
  unfold execRetrainEnd
  try dsimp only
  repeat' (first
    | (with_reducible apply State.KeepsNext.next) | (with_reducible exact k0) | (with_reducible exact .refl _)
    | (with_reducible apply State.onMac_keeps) | (with_reducible apply State.setLink_keeps) | (with_reducible apply State.macCnt_keeps)
    | (with_reducible apply State.linkEvent_keeps) | (with_reducible apply State.raise_keeps)
    | (with_reducible apply State.sdLocked_keeps) | ((with_reducible intro _ _); try dsimp only) | (split)
    | (with_reducible apply State.Keeps.of_pair (by assumption)) | (dsimp only))

theorem execLinkPoll_keeps {r0 s : State} (k0 : r0.Keeps s) (mac : Nat) (ok : Bool) :
    r0.KeepsNext (execLinkPoll mac ok s) := by
  unfold execLinkPoll
  try dsimp only
  repeat' (first
    | (with_reducible apply State.KeepsNext.next) | (with_reducible exact k0) | (with_reducible exact .refl _)
    | (with_reducible apply State.setMac_keeps) | (with_reducible apply State.setLink_keeps)
    | (with_reducible apply State.linkEvent_keeps) | (with_reducible apply State.sdLocked_keeps)
    | ((with_reducible intro _ _); try dsimp only) | (split) | (with_reducible apply State.Keeps.of_pair (by assumption)) | (dsimp only))

theorem State.txQueue_keeps {r0 s : State} (k0 : r0.Keeps s) (m q : Nat) (f : TxFrame) :
    r0.Keeps (State.txQueue s m q f) := by
  unfold State.txQueue
  try dsimp only
  repeat' (first
    | (with_reducible exact k0) | (with_reducible exact .refl _) | (with_reducible apply State.dropFrame_keeps)
    | (with_reducible apply State.onMac_keeps) | ((with_reducible intro _ _); try dsimp only) | (split)
    | (with_reducible apply State.Keeps.of_pair (by assumption)) | (dsimp only))

theorem State.sendOwn_keeps {r0 s : State} (k0 : r0.Keeps s) (m q : Nat) (f : Bytes) :
    r0.Keeps (State.sendOwn s m q f) := by
  unfold State.sendOwn
  try dsimp only
  repeat' (first
    | (with_reducible exact k0) | (with_reducible exact .refl _) | (with_reducible apply State.txQueue_keeps)
    | ((with_reducible intro _ _); try dsimp only) | (split) | (with_reducible apply State.Keeps.of_pair (by assumption)) | (dsimp only))

theorem State.forgetLeft_keeps {r0 s : State} (k0 : r0.Keeps s) (m at_ : Nat) :
    r0.Keeps (State.forgetLeft s m at_) := by
  unfold State.forgetLeft
  try dsimp only
  repeat' (first
    | (with_reducible exact k0) | (with_reducible exact .refl _) | (with_reducible apply State.onMac_keeps)
    | ((with_reducible intro _ _); try dsimp only) | (split) | (with_reducible apply State.Keeps.of_pair (by assumption)) | (dsimp only))

theorem State.dmaRead_keeps {r0 s : State} (k0 : r0.Keeps s) (a n : Nat) :
    r0.Keeps (State.dmaRead s a n).1 := by
  unfold State.dmaRead
  try dsimp only
  repeat' (first
    | (with_reducible exact k0) | (with_reducible exact .refl _) | (with_reducible apply State.busError_keeps)
    | ((with_reducible intro _ _); try dsimp only) | (split) | (with_reducible apply State.Keeps.of_pair (by assumption)) | (dsimp only))

theorem State.dmaWrite_keeps {r0 s : State} (k0 : r0.Keeps s) (a : Nat) (d : Bytes) :
    r0.Keeps (State.dmaWrite s a d) := by
  unfold State.dmaWrite
  try dsimp only
  repeat' (first
    | (with_reducible exact k0) | (with_reducible exact .refl _) | (with_reducible apply State.busError_keeps)
    | (with_reducible apply State.withMem_keeps)
    | (intro hm; (repeat (first | exact hm | apply mwrite_wf | apply mclear_wf | apply mmove_wf)); done)
    | ((with_reducible intro _ _); try dsimp only) | (split) | (with_reducible apply State.Keeps.of_pair (by assumption)) | (dsimp only))

theorem State.txDesc_keeps {r0 s : State} (k0 : r0.Keeps s) (m t i : Nat) :
    r0.Keeps (State.txDesc s m t i).1 := by
  unfold State.txDesc
  try dsimp only
  repeat' (first
    | (with_reducible exact k0) | (with_reducible exact .refl _) | (with_reducible apply State.dmaRead_keeps)
    | ((with_reducible intro _ _); try dsimp only) | (split) | (with_reducible apply State.Keeps.of_pair (by assumption)) | (dsimp only))

theorem State.withhold_keeps {r0 s : State} (k0 : r0.Keeps s) (f : TxFrame) :
    r0.Keeps (State.withhold s f) := by
  unfold State.withhold
  try dsimp only
  repeat' (first
    | (with_reducible exact k0) | (with_reducible exact .refl _) | (with_reducible apply State.bump_keeps)
    | (with_reducible apply State.perfAdd_keeps) | ((with_reducible intro _ _); try dsimp only) | (split)
    | (with_reducible apply State.Keeps.of_pair (by assumption)) | (dsimp only))

theorem State.frameBytes_keeps {r0 s : State} (k0 : r0.Keeps s) (m : Nat) (f : TxFrame) :
    r0.Keeps (State.frameBytes s m f).1 := by
  unfold State.frameBytes
  try dsimp only
  repeat' (first
    | (with_reducible exact k0) | (with_reducible exact .refl _) | (with_reducible apply State.withhold_keeps)
    | (with_reducible apply State.ring_keeps) | (with_reducible apply State.txDesc_keeps) | (with_reducible apply State.dmaRead_keeps)
    | (intro hm; (repeat (first | exact hm | apply mwrite_wf | apply mclear_wf | apply mmove_wf)); done)
    | ((with_reducible intro _ _); try dsimp only) | (split) | (with_reducible apply State.Keeps.of_pair (by assumption)) | (dsimp only))

theorem State.setNext_keeps {r0 s : State} (k0 : r0.Keeps s) (m cyc wire : Nat) (f : TxFrame) :
    r0.Keeps (State.setNext s m cyc wire f) := by
  unfold State.setNext
  try dsimp only
  repeat' (first
    | (with_reducible exact k0) | (with_reducible exact .refl _) | (with_reducible apply State.onMac_keeps)
    | (with_reducible apply State.leaveBuffer_keeps) | ((with_reducible intro _ _); try dsimp only) | (split)
    | (with_reducible apply State.Keeps.of_pair (by assumption)) | (dsimp only))

theorem State.fillNext_keeps {r0 s : State} (k0 : r0.Keeps s) (m cyc wire : Nat) (z1 : Nat) :
    r0.Keeps (State.fillNext s m cyc wire z1) := by
  induction z1 generalizing s with
  | zero =>
    unfold State.fillNext
    try dsimp only
    repeat' (first
      | (with_reducible exact k0) | (with_reducible exact .refl _) | (with_reducible apply State.setMac_keeps)
      | (with_reducible apply State.frameBytes_keeps) | (with_reducible apply State.setNext_keeps)
      | ((with_reducible intro _ _); try dsimp only) | (split) | (with_reducible apply State.Keeps.of_pair (by assumption)) | (dsimp only))
  | succ _ ih =>
    unfold State.fillNext
    try dsimp only
    repeat' (first
      | (with_reducible exact k0) | (with_reducible exact .refl _) | (with_reducible apply ih) | (with_reducible apply State.setMac_keeps)
      | (with_reducible apply State.frameBytes_keeps) | (with_reducible apply State.setNext_keeps)
      | ((with_reducible intro _ _); try dsimp only) | (split) | (with_reducible apply State.Keeps.of_pair (by assumption)) | (dsimp only))

theorem State.corrected_keeps {r0 s : State} (k0 : r0.Keeps s) (m cyc : Nat) (f : TxFrame) :
    r0.Keeps (State.corrected s m cyc f).1 := by
  unfold State.corrected
  try dsimp only
  repeat' (first
    | (with_reducible exact k0) | (with_reducible exact .refl _) | (with_reducible apply State.macCnt_keeps)
    | (with_reducible apply State.perfAdd_keeps) | ((with_reducible intro _ _); try dsimp only) | (split)
    | (with_reducible apply State.Keeps.of_pair (by assumption)) | (dsimp only))

theorem State.countSent_keeps {r0 s : State} (k0 : r0.Keeps s) (m : Nat) (f : TxFrame) :
    r0.Keeps (State.countSent s m f) := by
  unfold State.countSent
  try dsimp only
  repeat' (first
    | (with_reducible exact k0) | (with_reducible exact .refl _) | (with_reducible apply State.macCnt_keeps)
    | (with_reducible apply State.perfAdd_keeps) | ((with_reducible intro _ _); try dsimp only) | (split)
    | (with_reducible apply State.Keeps.of_pair (by assumption)) | (dsimp only))

theorem State.startFrame_keeps {r0 s : State} (k0 : r0.Keeps s) (m cyc : Nat) (f : TxFrame) :
    r0.Keeps (State.startFrame s m cyc f) := by
  unfold State.startFrame
  try dsimp only
  repeat' (first
    | (with_reducible exact k0) | (with_reducible exact .refl _) | (with_reducible apply State.countSent_keeps)
    | (with_reducible apply State.corrected_keeps) | (with_reducible apply State.onMac_keeps) | (with_reducible apply State.ring_keeps)
    | ((with_reducible intro _ _); try dsimp only) | (split) | (with_reducible apply State.Keeps.of_pair (by assumption)) | (dsimp only))

theorem State.gateNext_keeps {r0 s : State} (k0 : r0.Keeps s) (m : Nat) :
    r0.Keeps (State.gateNext s m) := by
  unfold State.gateNext
  try dsimp only
  repeat' (first
    | (with_reducible exact k0) | (with_reducible exact .refl _) | (with_reducible apply State.withhold_keeps)
    | (with_reducible apply State.onMac_keeps)
    | (intro hm; (repeat (first | exact hm | apply mwrite_wf | apply mclear_wf | apply mmove_wf)); done)
    | ((with_reducible intro _ _); try dsimp only) | (split) | (with_reducible apply State.Keeps.of_pair (by assumption)) | (dsimp only))

theorem execTxRingTailWrite_keeps {r0 s : State} (k0 : r0.Keeps s) (mac ring v : Nat) :
    r0.KeepsNext (execTxRingTailWrite mac ring v s) := by
  unfold execTxRingTailWrite
  try dsimp only
  repeat' (first
    | (with_reducible apply State.KeepsNext.next) | (with_reducible exact k0) | (with_reducible exact .refl _)
    | (with_reducible apply State.setFld_keeps) | (with_reducible apply State.each_keeps) | (with_reducible apply State.txQueue_keeps)
    | ((with_reducible intro _ _); try dsimp only) | (split) | (with_reducible apply State.Keeps.of_pair (by assumption)) | (dsimp only))

theorem State.hostPush_keeps {r0 s : State} (k0 : r0.Keeps s) (m : Nat) (z1 : Nat) :
    r0.Keeps (State.hostPush s m z1) := by
  induction z1 generalizing s with
  | zero =>
    unfold State.hostPush
    try dsimp only
    repeat' (first
      | (with_reducible exact k0) | (with_reducible exact .refl _) | (with_reducible apply State.dmaWrite_keeps)
      | (with_reducible apply State.setFld_keeps) | (with_reducible apply State.onMac_keeps) | (with_reducible apply State.txQueue_keeps)
      | ((with_reducible intro _ _); try dsimp only) | (split) | (with_reducible apply State.Keeps.of_pair (by assumption)) | (dsimp only))
  | succ _ ih =>
    unfold State.hostPush
    try dsimp only
    repeat' (first
      | (with_reducible exact k0) | (with_reducible exact .refl _) | (with_reducible apply ih)
      | (with_reducible apply State.dmaWrite_keeps) | (with_reducible apply State.setFld_keeps) | (with_reducible apply State.onMac_keeps)
      | (with_reducible apply State.txQueue_keeps) | ((with_reducible intro _ _); try dsimp only) | (split)
      | (with_reducible apply State.Keeps.of_pair (by assumption)) | (dsimp only))

theorem State.hostSend_keeps {r0 s : State} (k0 : r0.Keeps s) (m : Nat) :
    r0.Keeps (State.hostSend s m) := by
  unfold State.hostSend
  try dsimp only
  repeat' (first
    | (with_reducible exact k0) | (with_reducible exact .refl _) | (with_reducible apply State.hostPush_keeps)
    | ((with_reducible intro _ _); try dsimp only) | (split) | (with_reducible apply State.Keeps.of_pair (by assumption)) | (dsimp only))

theorem execTxRingEnable_keeps {r0 s : State} (k0 : r0.Keeps s) (mac ring : Nat) :
    r0.KeepsNext (execTxRingEnable mac ring s) := by
  unfold execTxRingEnable
  try dsimp only
  repeat' (first
    | (with_reducible apply State.KeepsNext.next) | (with_reducible exact k0) | (with_reducible exact .refl _)
    | (with_reducible apply State.setFld_keeps) | (with_reducible apply State.onMac_keeps) | (with_reducible apply State.hostSend_keeps)
    | (with_reducible apply State.ring_keeps) | ((with_reducible intro _ _); try dsimp only) | (split)
    | (with_reducible apply State.Keeps.of_pair (by assumption)) | (dsimp only))

theorem State.requeueRing_keeps {r0 s : State} (k0 : r0.Keeps s) (m t : Nat) :
    r0.Keeps (State.requeueRing s m t) := by
  unfold State.requeueRing
  try dsimp only
  repeat' (first
    | (with_reducible exact k0) | (with_reducible exact .refl _) | (with_reducible apply State.ring_keeps)
    | (with_reducible apply State.each_keeps) | (with_reducible apply State.txQueue_keeps) | ((with_reducible intro _ _); try dsimp only)
    | (split) | (with_reducible apply State.Keeps.of_pair (by assumption)) | (dsimp only))

theorem State.portOn_keeps {r0 s : State} (k0 : r0.Keeps s) (m : Nat) :
    r0.Keeps (State.portOn s m) := by
  unfold State.portOn
  try dsimp only
  repeat' (first
    | (with_reducible exact k0) | (with_reducible exact .refl _) | (with_reducible apply State.requeueRing_keeps)
    | (with_reducible apply State.hostSend_keeps) | ((with_reducible intro _ _); try dsimp only) | (split)
    | (with_reducible apply State.Keeps.of_pair (by assumption)) | (dsimp only))

theorem State.txWriteBack_keeps {r0 s : State} (k0 : r0.Keeps s) (m t i status : Nat) :
    r0.Keeps (State.txWriteBack s m t i status) := by
  unfold State.txWriteBack
  try dsimp only
  repeat' (first
    | (with_reducible exact k0) | (with_reducible exact .refl _) | (with_reducible apply State.dmaWrite_keeps)
    | (with_reducible apply State.onMac_keeps) | ((with_reducible intro _ _); try dsimp only) | (split)
    | (with_reducible apply State.Keeps.of_pair (by assumption)) | (dsimp only))

theorem State.txReject_keeps {r0 s : State} (k0 : r0.Keeps s) (m t i status code : Nat) :
    r0.Keeps (State.txReject s m t i status code) := by
  unfold State.txReject
  try dsimp only
  repeat' (first
    | (with_reducible exact k0) | (with_reducible exact .refl _) | (with_reducible apply State.ring_keeps)
    | (with_reducible apply State.onMac_keeps) | (with_reducible apply State.txWriteBack_keeps)
    | (with_reducible apply State.macCnt_keeps) | (with_reducible apply State.raise_keeps) | ((with_reducible intro _ _); try dsimp only)
    | (split) | (with_reducible apply State.Keeps.of_pair (by assumption)) | (dsimp only))

theorem State.hostNext_keeps {r0 s : State} (k0 : r0.Keeps s) (m ring : Nat) :
    r0.Keeps (State.hostNext s m ring) := by
  unfold State.hostNext
  try dsimp only
  repeat' (first
    | (with_reducible exact k0) | (with_reducible exact .refl _) | (with_reducible apply State.hostSend_keeps)
    | ((with_reducible intro _ _); try dsimp only) | (split) | (with_reducible apply State.Keeps.of_pair (by assumption)) | (dsimp only))

theorem State.txComplete_keeps {r0 s : State} (k0 : r0.Keeps s) (m ring i len : Nat) (d : Nat × Nat × Nat) (t : Option Int) :
    r0.Keeps (State.txComplete s m ring i len d t) := by
  unfold State.txComplete
  try dsimp only
  repeat' (first
    | (with_reducible exact k0) | (with_reducible exact .refl _) | (with_reducible apply State.dmaWrite_keeps)
    | (with_reducible apply State.perfAdd_keeps) | (with_reducible apply State.txWriteBack_keeps)
    | (with_reducible apply State.raise_keeps) | (with_reducible apply State.hostNext_keeps)
    | ((with_reducible intro _ _); try dsimp only) | (split) | (with_reducible apply State.Keeps.of_pair (by assumption)) | (dsimp only))

theorem execTxDescriptorDone_keeps {r0 s : State} (k0 : r0.Keeps s) (mac ring : Nat) :
    r0.KeepsNext (execTxDescriptorDone mac ring s) := by
  unfold execTxDescriptorDone
  try dsimp only
  repeat' (first
    | (with_reducible apply State.KeepsNext.next) | (with_reducible exact k0) | (with_reducible exact .refl _)
    | (with_reducible apply State.txDesc_keeps) | (with_reducible apply State.txReject_keeps)
    | (with_reducible apply State.hostNext_keeps) | (with_reducible apply State.txComplete_keeps)
    | ((with_reducible intro _ _); try dsimp only) | (split) | (with_reducible apply State.Keeps.of_pair (by assumption)) | (dsimp only))

theorem State.rxPiece_keeps {r0 s : State} (k0 : r0.Keeps s) (m r i : Nat) (d : Bytes) :
    r0.Keeps (State.rxPiece s m r i d) := by
  unfold State.rxPiece
  try dsimp only
  repeat' (first
    | (with_reducible exact k0) | (with_reducible exact .refl _) | (with_reducible apply State.dmaRead_keeps)
    | (with_reducible apply State.dmaWrite_keeps) | ((with_reducible intro _ _); try dsimp only) | (split)
    | (with_reducible apply State.Keeps.of_pair (by assumption)) | (dsimp only))

theorem State.rxRingDrop_keeps {r0 s : State} (k0 : r0.Keeps s) (m n : Nat) :
    r0.Keeps (State.rxRingDrop s m n) := by
  unfold State.rxRingDrop
  try dsimp only
  repeat' (first
    | (with_reducible exact k0) | (with_reducible exact .refl _) | (with_reducible apply State.macCnt_keeps)
    | (with_reducible apply State.raise_keeps) | ((with_reducible intro _ _); try dsimp only) | (split)
    | (with_reducible apply State.Keeps.of_pair (by assumption)) | (dsimp only))

theorem State.rxStore_keeps {r0 s : State} (k0 : r0.Keeps s) (m r : Nat) (t : Int) (f : Bytes) :
    r0.Keeps (State.rxStore s m r t f) := by
  unfold State.rxStore
  try dsimp only
  repeat' (first
    | (with_reducible exact k0) | (with_reducible exact .refl _) | (with_reducible apply State.each_keeps)
    | (with_reducible apply State.rxPiece_keeps) | (with_reducible apply State.dmaWrite_keeps) | (with_reducible apply State.onMac_keeps)
    | (with_reducible apply State.raise_keeps) | ((with_reducible intro _ _); try dsimp only) | (split)
    | (with_reducible apply State.Keeps.of_pair (by assumption)) | (dsimp only))

theorem State.rxToRing_keeps {r0 s : State} (k0 : r0.Keeps s) (m r : Nat) (t : Int) (f : Bytes) :
    r0.Keeps (State.rxToRing s m r t f).1 := by
  unfold State.rxToRing
  try dsimp only
  repeat' (first
    | (with_reducible exact k0) | (with_reducible exact .refl _) | (with_reducible apply State.rxRingDrop_keeps)
    | (with_reducible apply State.rxStore_keeps) | (with_reducible apply State.perfAdd_keeps)
    | ((with_reducible intro _ _); try dsimp only) | (split) | (with_reducible apply State.Keeps.of_pair (by assumption)) | (dsimp only))

theorem State.rxReturn_keeps {r0 s : State} (k0 : r0.Keeps s) (m r n : Nat) :
    r0.Keeps (State.rxReturn s m r n) := by
  unfold State.rxReturn
  try dsimp only
  repeat' (first
    | (with_reducible exact k0) | (with_reducible exact .refl _) | (with_reducible apply State.raise_keeps)
    | (with_reducible apply State.onMac_keeps) | ((with_reducible intro _ _); try dsimp only) | (split)
    | (with_reducible apply State.Keeps.of_pair (by assumption)) | (dsimp only))

theorem execRxRingReturn_keeps {r0 s : State} (k0 : r0.Keeps s) (mac ring n : Nat) :
    r0.KeepsNext (execRxRingReturn mac ring n s) := by
  unfold execRxRingReturn
  try dsimp only
  repeat' (first
    | (with_reducible apply State.KeepsNext.next) | (with_reducible exact k0) | (with_reducible exact .refl _)
    | (with_reducible apply State.rxReturn_keeps) | ((with_reducible intro _ _); try dsimp only) | (split)
    | (with_reducible apply State.Keeps.of_pair (by assumption)) | (dsimp only))

theorem execRxRingEnable_keeps {r0 s : State} (k0 : r0.Keeps s) (mac ring : Nat) :
    r0.KeepsNext (execRxRingEnable mac ring s) := by
  unfold execRxRingEnable
  try dsimp only
  repeat' (first
    | (with_reducible apply State.KeepsNext.next) | (with_reducible exact k0) | (with_reducible exact .refl _)
    | (with_reducible apply State.setFld_keeps) | (with_reducible apply State.onMac_keeps) | ((with_reducible intro _ _); try dsimp only)
    | (split) | (with_reducible apply State.Keeps.of_pair (by assumption)) | (dsimp only))

/-! ### Machine/Ports.lean -/

theorem State.setPort_keeps {r0 s : State} (k0 : r0.Keeps s) (p : Nat) (v : PortSt) :
    r0.Keeps (State.setPort s p v) := by
  unfold State.setPort
  try dsimp only
  repeat' (first
    | (with_reducible exact k0) | (with_reducible exact .refl _) | (with_reducible apply State.onPorts_keeps)
    | ((with_reducible intro _ _); try dsimp only) | (split) | (with_reducible apply State.Keeps.of_pair (by assumption)) | (dsimp only))

theorem State.setGrp_keeps {r0 s : State} (k0 : r0.Keeps s) (g : Nat) (v : GrpSt) :
    r0.Keeps (State.setGrp s g v) := by
  unfold State.setGrp
  try dsimp only
  repeat' (first
    | (with_reducible exact k0) | (with_reducible exact .refl _) | (with_reducible apply State.onPorts_keeps)
    | ((with_reducible intro _ _); try dsimp only) | (split) | (with_reducible apply State.Keeps.of_pair (by assumption)) | (dsimp only))

theorem State.portAlert_keeps {r0 s : State} (k0 : r0.Keeps s) (who kind slot : Nat) :
    r0.Keeps (State.portAlert s who kind slot) := by
  unfold State.portAlert
  try dsimp only
  repeat' (first
    | (with_reducible exact k0) | (with_reducible exact .refl _) | (with_reducible apply State.post_keeps)
    | ((with_reducible intro _ _); try dsimp only) | (split) | (with_reducible apply State.Keeps.of_pair (by assumption)) | (dsimp only))

theorem State.rxOverrun_keeps {r0 s : State} (k0 : r0.Keeps s) (p : Nat) :
    r0.Keeps (State.rxOverrun s p) := by
  unfold State.rxOverrun
  try dsimp only
  repeat' (first
    | (with_reducible exact k0) | (with_reducible exact .refl _) | (with_reducible apply State.bump_keeps)
    | (with_reducible apply State.perfAdd_keeps) | (with_reducible apply State.raise_keeps) | ((with_reducible intro _ _); try dsimp only)
    | (split) | (with_reducible apply State.Keeps.of_pair (by assumption)) | (dsimp only))

theorem State.blockReady_keeps {r0 s : State} (k0 : r0.Keeps s) (p : Nat) (b : PortBlk) :
    r0.Keeps (State.blockReady s p b) := by
  unfold State.blockReady
  try dsimp only
  repeat' (first
    | (with_reducible exact k0) | (with_reducible exact .refl _) | (with_reducible apply State.setPort_keeps)
    | (with_reducible apply State.rxOverrun_keeps) | ((with_reducible intro _ _); try dsimp only) | (split)
    | (with_reducible apply State.Keeps.of_pair (by assumption)) | (dsimp only))

theorem State.frameIn_keeps {r0 s : State} (k0 : r0.Keeps s) (p n i t : Nat) (ok : Bool) (levels : Nat) :
    r0.Keeps (State.frameIn s p n i t ok levels) := by
  unfold State.frameIn
  try dsimp only
  repeat' (first
    | (with_reducible exact k0) | (with_reducible exact .refl _) | (with_reducible apply State.setPort_keeps)
    | (with_reducible apply State.blockReady_keeps) | (with_reducible apply foldl_keeps) | (with_reducible apply foldlState_keeps)
    | ((with_reducible intro _ _); try dsimp only) | (split) | (with_reducible apply State.Keeps.of_pair (by assumption)) | (dsimp only))

theorem State.endDrive_keeps {r0 s : State} (k0 : r0.Keeps s) (g : Nat) (ok : Bool) :
    r0.Keeps (State.endDrive s g ok) := by
  unfold State.endDrive
  try dsimp only
  repeat' (first
    | (with_reducible exact k0) | (with_reducible exact .refl _) | (with_reducible apply State.onPorts_keeps)
    | (with_reducible apply foldl_keeps) | (with_reducible apply foldlState_keeps) | ((with_reducible intro _ _); try dsimp only)
    | (split) | (with_reducible apply State.Keeps.of_pair (by assumption)) | (dsimp only))

theorem State.closeFrame_keeps {r0 s0 : State} (k0 : r0.Keeps s0) (g bits : Nat) (data : PinData) :
    r0.Keeps (State.closeFrame s0 g bits data) := by
  unfold State.closeFrame
  try dsimp only
  repeat' (first
    | (with_reducible exact k0) | (with_reducible exact .refl _) | (with_reducible apply State.endDrive_keeps)
    | (with_reducible apply State.bump_keeps) | (with_reducible apply State.raise_keeps) | (with_reducible apply State.each_keeps)
    | (with_reducible apply State.frameIn_keeps) | ((with_reducible intro _ _); try dsimp only) | (split)
    | (with_reducible apply State.Keeps.of_pair (by assumption)) | (dsimp only))

theorem State.realignDue_keeps {r0 s : State} (k0 : r0.Keeps s) (g kind : Nat) :
    r0.Keeps (State.realignDue s g kind) := by
  unfold State.realignDue
  try dsimp only
  repeat' (first
    | (with_reducible exact k0) | (with_reducible exact .refl _) | (with_reducible apply State.setGrp_keeps)
    | (with_reducible apply State.portAlert_keeps) | ((with_reducible intro _ _); try dsimp only) | (split)
    | (with_reducible apply State.Keeps.of_pair (by assumption)) | (dsimp only))

theorem State.noteMoved_keeps {r0 s : State} (k0 : r0.Keeps s)  :
    r0.Keeps (State.noteMoved s) := by
  unfold State.noteMoved
  try dsimp only
  repeat' (first
    | (with_reducible exact k0) | (with_reducible exact .refl _) | (with_reducible apply State.onPorts_keeps)
    | (with_reducible apply State.bump_keeps) | (with_reducible apply State.raise_keeps) | ((with_reducible intro _ _); try dsimp only)
    | (split) | (with_reducible apply State.Keeps.of_pair (by assumption)) | (dsimp only))

theorem State.rederiveEdge_keeps {r0 s : State} (k0 : r0.Keeps s) (g i now : Nat) :
    r0.Keeps (State.rederiveEdge s g i now) := by
  unfold State.rederiveEdge
  try dsimp only
  repeat' (first
    | (with_reducible exact k0) | (with_reducible exact .refl _) | (with_reducible apply State.setGrp_keeps)
    | (with_reducible apply State.realignDue_keeps) | (with_reducible apply State.noteMoved_keeps)
    | ((with_reducible intro _ _); try dsimp only) | (split) | (with_reducible apply State.Keeps.of_pair (by assumption)) | (dsimp only))

theorem State.driftEdge_keeps {r0 s : State} (k0 : r0.Keeps s) (g i now : Nat) :
    r0.Keeps (State.driftEdge s g i now) := by
  unfold State.driftEdge
  try dsimp only
  repeat' (first
    | (with_reducible exact k0) | (with_reducible exact .refl _) | (with_reducible apply State.setGrp_keeps)
    | (with_reducible apply State.raise_keeps) | (with_reducible apply State.realignDue_keeps)
    | ((with_reducible intro _ _); try dsimp only) | (split) | (with_reducible apply State.Keeps.of_pair (by assumption)) | (dsimp only))

theorem State.indexFrame_keeps {r0 s : State} (k0 : r0.Keeps s) (g e now : Nat) :
    r0.Keeps (State.indexFrame s g e now) := by
  unfold State.indexFrame
  try dsimp only
  repeat' (first
    | (with_reducible exact k0) | (with_reducible exact .refl _) | (with_reducible apply State.setGrp_keeps)
    | (with_reducible apply State.rederiveEdge_keeps) | (with_reducible apply State.driftEdge_keeps)
    | ((with_reducible intro _ _); try dsimp only) | (split) | (with_reducible apply State.Keeps.of_pair (by assumption)) | (dsimp only))

theorem State.openFrame_keeps {r0 s : State} (k0 : r0.Keeps s) (g : Nat) :
    r0.Keeps (State.openFrame s g) := by
  unfold State.openFrame
  try dsimp only
  repeat' (first
    | (with_reducible exact k0) | (with_reducible exact .refl _) | (with_reducible apply State.setGrp_keeps)
    | (with_reducible apply State.indexFrame_keeps) | (with_reducible refine State.place_keeps ?_ _ _ _ (by assumption))
    | (with_reducible refine State.place_keeps' ?_ _ _ _ (by assumption)) | ((with_reducible intro _ _); try dsimp only) | (split)
    | (with_reducible apply State.Keeps.of_pair (by assumption)) | (dsimp only))

theorem State.adoptMask_keeps {r0 s : State} (k0 : r0.Keeps s) (p : Nat) :
    r0.Keeps (State.adoptMask s p) := by
  unfold State.adoptMask
  try dsimp only
  repeat' (first
    | (with_reducible exact k0) | (with_reducible exact .refl _) | (with_reducible apply State.setPort_keeps)
    | ((with_reducible intro _ _); try dsimp only) | (split) | (with_reducible apply State.Keeps.of_pair (by assumption)) | (dsimp only))

theorem State.drivePort_keeps {r0 s : State} (k0 : r0.Keeps s) (p : Nat) (at_ : Option (Nat × Nat)) :
    r0.Keeps (State.drivePort s p at_) := by
  unfold State.drivePort
  try dsimp only
  repeat' (first
    | (with_reducible exact k0) | (with_reducible exact .refl _) | (with_reducible apply State.onPorts_keeps)
    | (with_reducible apply foldl_keeps) | (with_reducible apply foldlState_keeps) | ((with_reducible intro _ _); try dsimp only)
    | (split) | (with_reducible apply State.Keeps.of_pair (by assumption)) | (dsimp only))

theorem State.stampBlock_keeps {r0 s : State} (k0 : r0.Keeps s) (p t : Nat) :
    r0.Keeps (State.stampBlock s p t) := by
  unfold State.stampBlock
  try dsimp only
  repeat' (first
    | (with_reducible exact k0) | (with_reducible exact .refl _) | (with_reducible apply State.setPort_keeps)
    | ((with_reducible intro _ _); try dsimp only) | (split) | (with_reducible apply State.Keeps.of_pair (by assumption)) | (dsimp only))

theorem State.driveGroup_keeps {r0 s : State} (k0 : r0.Keeps s) (g : Nat) :
    r0.Keeps (State.driveGroup s g) := by
  unfold State.driveGroup
  try dsimp only
  repeat' (first
    | (with_reducible exact k0) | (with_reducible exact .refl _) | (with_reducible apply State.each_keeps)
    | (with_reducible apply State.stampBlock_keeps) | (with_reducible apply State.drivePort_keeps)
    | ((with_reducible intro _ _); try dsimp only) | (split) | (with_reducible apply State.Keeps.of_pair (by assumption)) | (dsimp only))

theorem execPortFrameEdge_keeps {r0 s : State} (k0 : r0.Keeps s) (grp bits : Nat) (data : FsEdge) :
    r0.KeepsNext (execPortFrameEdge grp bits data s) := by
  unfold execPortFrameEdge
  try dsimp only
  repeat' (first
    | (with_reducible apply State.KeepsNext.next) | (with_reducible exact k0) | (with_reducible exact .refl _)
    | (with_reducible apply State.closeFrame_keeps) | (with_reducible apply State.openFrame_keeps)
    | (with_reducible apply State.each_keeps) | (with_reducible apply State.adoptMask_keeps)
    | (with_reducible apply State.driveGroup_keeps) | ((with_reducible intro _ _); try dsimp only) | (split)
    | (with_reducible apply State.Keeps.of_pair (by assumption)) | (dsimp only))

theorem State.undrive_keeps {r0 s : State} (k0 : r0.Keeps s) (p : Nat) :
    r0.Keeps (State.undrive s p) := by
  unfold State.undrive
  try dsimp only
  repeat' (first
    | (with_reducible exact k0) | (with_reducible exact .refl _) | (with_reducible apply State.onPorts_keeps)
    | ((with_reducible intro _ _); try dsimp only) | (split) | (with_reducible apply State.Keeps.of_pair (by assumption)) | (dsimp only))

theorem execGrpLost_keeps {r0 s : State} (k0 : r0.Keeps s) (grp : Nat) :
    r0.KeepsNext (execGrpLost grp s) := by
  unfold execGrpLost
  try dsimp only
  repeat' (first
    | (with_reducible apply State.KeepsNext.next) | (with_reducible exact k0) | (with_reducible exact .refl _)
    | (with_reducible apply State.setGrp_keeps) | (with_reducible apply State.raise_keeps) | (with_reducible apply State.bump_keeps)
    | (with_reducible apply State.portAlert_keeps) | (with_reducible apply State.each_keeps) | (with_reducible apply State.undrive_keeps)
    | ((with_reducible intro _ _); try dsimp only) | (split) | (with_reducible apply State.Keeps.of_pair (by assumption)) | (dsimp only))

theorem State.slotJudge_keeps {r0 s : State} (k0 : r0.Keeps s) (p n q : Nat) (late : Bool) (ks : List Nat) (slot : Nat) :
    r0.Keeps (State.slotJudge s p n q late ks slot) := by
  unfold State.slotJudge
  try dsimp only
  repeat' (first
    | (with_reducible exact k0) | (with_reducible exact .refl _) | (with_reducible apply State.setPort_keeps)
    | (with_reducible apply State.raise_keeps) | (with_reducible apply State.bump_keeps) | (with_reducible apply State.perfAdd_keeps)
    | (with_reducible apply State.portAlert_keeps) | ((with_reducible intro _ _); try dsimp only) | (split)
    | (with_reducible apply State.Keeps.of_pair (by assumption)) | (dsimp only))

theorem State.rxMissing_keeps {r0 s : State} (k0 : r0.Keeps s) (p q : Nat) :
    r0.Keeps (State.rxMissing s p q) := by
  unfold State.rxMissing
  try dsimp only
  repeat' (first
    | (with_reducible exact k0) | (with_reducible exact .refl _) | (with_reducible apply State.bump_keeps)
    | (with_reducible apply State.perfAdd_keeps) | ((with_reducible intro _ _); try dsimp only) | (split)
    | (with_reducible apply State.Keeps.of_pair (by assumption)) | (dsimp only))

theorem State.portFirst_keeps {r0 s : State} (k0 : r0.Keeps s) (q : Nat) (acc : Tbl Int) (p : Nat) :
    r0.Keeps (State.portFirst s q acc p).1 := by
  unfold State.portFirst
  try dsimp only
  repeat' (first
    | (with_reducible exact k0) | (with_reducible exact .refl _) | (with_reducible apply State.setPort_keeps)
    | (with_reducible apply State.rxMissing_keeps) | (with_reducible apply State.each_keeps)
    | (with_reducible apply State.slotJudge_keeps) | (with_reducible apply foldl_keeps) | (with_reducible apply foldlState_keeps)
    | ((with_reducible intro _ _); try dsimp only) | (split) | (with_reducible apply State.Keeps.of_pair (by assumption)) | (dsimp only))

theorem State.portSecond_keeps {r0 s : State} (k0 : r0.Keeps s) (q : Nat) (acc : Tbl Int) (p : Nat) :
    r0.Keeps (State.portSecond s q acc p).1 := by
  unfold State.portSecond
  try dsimp only
  repeat' (first
    | (with_reducible exact k0) | (with_reducible exact .refl _) | (with_reducible apply State.rxMissing_keeps)
    | (with_reducible apply State.each_keeps) | (with_reducible apply State.slotJudge_keeps) | (with_reducible apply State.setPort_keeps)
    | (with_reducible apply State.perfAdd_keeps) | (with_reducible apply State.rxOverrun_keeps) | (with_reducible apply foldl_keeps)
    | (with_reducible apply foldlState_keeps) | ((with_reducible intro _ _); try dsimp only) | (split)
    | (with_reducible apply State.Keeps.of_pair (by assumption)) | (dsimp only))

theorem State.portsFirst_keeps {r0 s : State} (k0 : r0.Keeps s) (q : Nat) :
    r0.Keeps (State.portsFirst s q).1 := by
  unfold State.portsFirst
  try dsimp only
  repeat' (first
    | (with_reducible exact k0) | (with_reducible exact .refl _) | (with_reducible apply State.portFirst_keeps)
    | (with_reducible apply foldl_keeps) | (with_reducible apply foldlState_keeps) | ((with_reducible intro _ _); try dsimp only)
    | (split) | (with_reducible apply State.Keeps.of_pair (by assumption)) | (dsimp only))

theorem State.portsSecond_keeps {r0 s : State} (k0 : r0.Keeps s) (q : Nat) (t : Tbl Int) :
    r0.Keeps (State.portsSecond s q t).1 := by
  unfold State.portsSecond
  try dsimp only
  repeat' (first
    | (with_reducible exact k0) | (with_reducible exact .refl _) | (with_reducible apply State.portSecond_keeps)
    | (with_reducible apply foldl_keeps) | (with_reducible apply foldlState_keeps) | ((with_reducible intro _ _); try dsimp only)
    | (split) | (with_reducible apply State.Keeps.of_pair (by assumption)) | (dsimp only))

theorem State.portEnableStep_keeps {r0 s : State} (k0 : r0.Keeps s) (n p : Nat) :
    r0.Keeps (State.portEnableStep s n p) := by
  unfold State.portEnableStep
  try dsimp only
  repeat' (first
    | (with_reducible exact k0) | (with_reducible exact .refl _) | (with_reducible apply State.setPort_keeps)
    | (with_reducible apply State.undrive_keeps) | ((with_reducible intro _ _); try dsimp only) | (split)
    | (with_reducible apply State.Keeps.of_pair (by assumption)) | (dsimp only))

theorem State.realign_keeps {r0 s : State} (k0 : r0.Keeps s) (n g kind : Nat) :
    r0.Keeps (State.realign s n g kind) := by
  unfold State.realign
  try dsimp only
  repeat' (first
    | (with_reducible exact k0) | (with_reducible exact .refl _) | (with_reducible apply State.setGrp_keeps)
    | (with_reducible apply State.each_keeps) | (with_reducible apply State.bump_keeps) | (with_reducible apply State.perfAdd_keeps)
    | (with_reducible apply State.raise_keeps) | ((with_reducible intro _ _); try dsimp only) | (split)
    | (with_reducible apply State.Keeps.of_pair (by assumption)) | (dsimp only))

theorem State.groupStep_keeps {r0 s : State} (k0 : r0.Keeps s) (n g : Nat) :
    r0.Keeps (State.groupStep s n g) := by
  unfold State.groupStep
  try dsimp only
  repeat' (first
    | (with_reducible exact k0) | (with_reducible exact .refl _) | (with_reducible apply State.realign_keeps)
    | ((with_reducible intro _ _); try dsimp only) | (split) | (with_reducible apply State.Keeps.of_pair (by assumption)) | (dsimp only))

theorem State.restoreMaster_keeps {r0 s : State} (k0 : r0.Keeps s) (n g : Nat) :
    r0.Keeps (State.restoreMaster s n g) := by
  unfold State.restoreMaster
  try dsimp only
  repeat' (first
    | (with_reducible exact k0) | (with_reducible exact .refl _) | (with_reducible apply State.setGrp_keeps)
    | (with_reducible apply State.realign_keeps) | ((with_reducible intro _ _); try dsimp only) | (split)
    | (with_reducible apply State.Keeps.of_pair (by assumption)) | (dsimp only))

theorem State.restoreMasters_keeps {r0 s : State} (k0 : r0.Keeps s) (n : Nat) :
    r0.Keeps (State.restoreMasters s n) := by
  unfold State.restoreMasters
  try dsimp only
  repeat' (first
    | (with_reducible exact k0) | (with_reducible exact .refl _) | (with_reducible apply State.onPorts_keeps)
    | (with_reducible apply State.each_keeps) | (with_reducible apply State.restoreMaster_keeps)
    | ((with_reducible intro _ _); try dsimp only) | (split) | (with_reducible apply State.Keeps.of_pair (by assumption)) | (dsimp only))

theorem State.portsEnable_keeps {r0 s : State} (k0 : r0.Keeps s) (n : Nat) :
    r0.Keeps (State.portsEnable s n) := by
  unfold State.portsEnable
  try dsimp only
  repeat' (first
    | (with_reducible exact k0) | (with_reducible exact .refl _) | (with_reducible apply State.each_keeps)
    | (with_reducible apply State.portEnableStep_keeps) | ((with_reducible intro _ _); try dsimp only) | (split)
    | (with_reducible apply State.Keeps.of_pair (by assumption)) | (dsimp only))

theorem State.portsBoundary_keeps {r0 s : State} (k0 : r0.Keeps s) (n : Nat) :
    r0.Keeps (State.portsBoundary s n) := by
  unfold State.portsBoundary
  try dsimp only
  repeat' (first
    | (with_reducible exact k0) | (with_reducible exact .refl _) | (with_reducible apply State.each_keeps)
    | (with_reducible apply State.groupStep_keeps) | (with_reducible apply State.restoreMasters_keeps)
    | ((with_reducible intro _ _); try dsimp only) | (split) | (with_reducible apply State.Keeps.of_pair (by assumption)) | (dsimp only))

theorem State.portsOutput_keeps {r0 s : State} (k0 : r0.Keeps s) (n : Nat) (out : Tbl Int) (late : List Nat) :
    r0.Keeps (State.portsOutput s n out late) := by
  unfold State.portsOutput
  try dsimp only
  repeat' (first
    | (with_reducible exact k0) | (with_reducible exact .refl _) | (with_reducible apply State.onPorts_keeps)
    | (with_reducible apply State.perfAdd_keeps) | (with_reducible apply State.each_keeps) | (with_reducible apply State.bump_keeps)
    | (with_reducible apply State.raise_keeps) | ((with_reducible intro _ _); try dsimp only) | (split)
    | (with_reducible apply State.Keeps.of_pair (by assumption)) | (dsimp only))

theorem State.portsStart_keeps {r0 s : State} (k0 : r0.Keeps s)  :
    r0.Keeps (State.portsStart s) := by
  unfold State.portsStart
  try dsimp only
  repeat' (first
    | (with_reducible exact k0) | (with_reducible exact .refl _) | (with_reducible apply State.each_keeps)
    | (with_reducible apply State.setPort_keeps) | (with_reducible apply State.setFld_keeps) | (with_reducible apply State.onPorts_keeps)
    | ((with_reducible intro _ _); try dsimp only) | (split) | (with_reducible apply State.Keeps.of_pair (by assumption)) | (dsimp only))

theorem State.portsStop_keeps {r0 s : State} (k0 : r0.Keeps s)  :
    r0.Keeps (State.portsStop s) := by
  unfold State.portsStop
  try dsimp only
  repeat' (first
    | (with_reducible exact k0) | (with_reducible exact .refl _) | (with_reducible apply State.each_keeps)
    | (with_reducible apply State.setPort_keeps) | (with_reducible apply State.setFld_keeps) | (with_reducible apply State.onPorts_keeps)
    | ((with_reducible intro _ _); try dsimp only) | (split) | (with_reducible apply State.Keeps.of_pair (by assumption)) | (dsimp only))

theorem State.naRelease_keeps {r0 s : State} (k0 : r0.Keeps s) (p slot : Nat) :
    r0.Keeps (State.naRelease s p slot) := by
  unfold State.naRelease
  try dsimp only
  repeat' (first
    | (with_reducible exact k0) | (with_reducible exact .refl _) | (with_reducible apply State.setPort_keeps)
    | ((with_reducible intro _ _); try dsimp only) | (split) | (with_reducible apply State.Keeps.of_pair (by assumption)) | (dsimp only))

theorem State.syncPdm_keeps {r0 s : State} (k0 : r0.Keeps s)  :
    r0.Keeps (State.syncPdm s) := by
  unfold State.syncPdm
  try dsimp only
  repeat' (first
    | (with_reducible exact k0) | (with_reducible exact .refl _) | (with_reducible apply State.invalidateCapture_keeps)
    | (with_reducible apply State.onPorts_keeps) | (with_reducible apply State.noteMoved_keeps)
    | ((with_reducible intro _ _); try dsimp only) | (split) | (with_reducible apply State.Keeps.of_pair (by assumption)) | (dsimp only))

theorem State.syncGroup_keeps {r0 s : State} (k0 : r0.Keeps s) (g : Nat) :
    r0.Keeps (State.syncGroup s g) := by
  unfold State.syncGroup
  try dsimp only
  repeat' (first
    | (with_reducible exact k0) | (with_reducible exact .refl _) | (with_reducible apply State.syncPdm_keeps)
    | (with_reducible apply State.setGrp_keeps) | (with_reducible apply State.realignDue_keeps)
    | (with_reducible apply State.noteMoved_keeps) | ((with_reducible intro _ _); try dsimp only) | (split)
    | (with_reducible apply State.Keeps.of_pair (by assumption)) | (dsimp only))

theorem execSyncInEdge_keeps {r0 s : State} (k0 : r0.Keeps s) (rise : Bool) :
    r0.KeepsNext (execSyncInEdge rise s) := by
  unfold execSyncInEdge
  try dsimp only
  repeat' (first
    | (with_reducible apply State.KeepsNext.next) | (with_reducible exact k0) | (with_reducible exact .refl _)
    | (with_reducible apply State.bump_keeps) | (with_reducible apply State.onPorts_keeps) | (with_reducible apply State.each_keeps)
    | (with_reducible apply State.syncGroup_keeps) | (with_reducible apply State.syncServo_keeps)
    | (with_reducible apply State.syncRegen_keeps) | ((with_reducible intro _ _); try dsimp only) | (split)
    | (with_reducible apply State.Keeps.of_pair (by assumption)) | (dsimp only))

/-! ### Machine/Streams.lean -/

theorem State.setCtx_keeps {r0 s : State} (k0 : r0.Keeps s) (c : Nat) (v : StreamCtx) :
    r0.Keeps (State.setCtx s c v) := by
  unfold State.setCtx
  try dsimp only
  repeat' (first
    | (with_reducible exact k0) | (with_reducible exact .refl _) | (with_reducible apply State.onNet_keeps)
    | ((with_reducible intro _ _); try dsimp only) | (split) | (with_reducible apply State.Keeps.of_pair (by assumption)) | (dsimp only))

theorem State.ctxCnt_keeps {r0 s : State} (k0 : r0.Keeps s) (c n : Nat) :
    r0.Keeps (State.ctxCnt s c n) := by
  unfold State.ctxCnt
  try dsimp only
  repeat' (first
    | (with_reducible exact k0) | (with_reducible exact .refl _) | (with_reducible apply State.bump_keeps)
    | ((with_reducible intro _ _); try dsimp only) | (split) | (with_reducible apply State.Keeps.of_pair (by assumption)) | (dsimp only))

theorem writeFrame_wf {m : List Host.Cell} (hm : memWf m) (v : StreamCtx) (x : Int) (f : Bytes) : memWf (writeFrame v m x f) := by
  unfold writeFrame
  exact foldl_memWf _ _ _ hm (fun _ _ h => mwrite_wf h _ _)

theorem State.writePacket_keeps {r0 s : State} (k0 : r0.Keeps s) (c : Nat) (fs : List (Int × Bytes)) : r0.Keeps (State.writePacket s c fs) := by
  unfold State.writePacket
  exact State.perfAdd_keeps (State.ctxCnt_keeps (State.setCtx_keeps
    (State.withMem_keeps k0 _ (fun h => foldl_memWf _ _ _ h (fun _ e h => writeFrame_wf h _ _ _))) _ _) _ _) _ _

theorem State.streamLate_keeps {r0 s : State} (k0 : r0.Keeps s) (c n : Nat) :
    r0.Keeps (State.streamLate s c n) := by
  unfold State.streamLate
  try dsimp only
  repeat' (first
    | (with_reducible exact k0) | (with_reducible exact .refl _) | (with_reducible apply State.ctxCnt_keeps)
    | (with_reducible apply State.raise_keeps) | (with_reducible apply State.perfAdd_keeps) | ((with_reducible intro _ _); try dsimp only)
    | (split) | (with_reducible apply State.Keeps.of_pair (by assumption)) | (dsimp only))

theorem State.placePacket_keeps {r0 s : State} (k0 : r0.Keeps s) (c : Nat) (fs : List (Int × Bytes)) :
    r0.Keeps (State.placePacket s c fs) := by
  unfold State.placePacket
  try dsimp only
  repeat' (first
    | (with_reducible exact k0) | (with_reducible exact .refl _) | (with_reducible apply State.ctxCnt_keeps)
    | (with_reducible apply State.raise_keeps) | (with_reducible apply State.streamLate_keeps)
    | (with_reducible apply State.perfAdd_keeps) | (with_reducible apply State.writePacket_keeps)
    | ((with_reducible intro _ _); try dsimp only) | (split) | (with_reducible apply State.Keeps.of_pair (by assumption)) | (dsimp only))

theorem State.legSeq_keeps {r0 s : State} (k0 : r0.Keeps s) (c l n : Nat) :
    r0.Keeps (State.legSeq s c l n) := by
  unfold State.legSeq
  try dsimp only
  repeat' (first
    | (with_reducible exact k0) | (with_reducible exact .refl _) | (with_reducible apply State.setCtx_keeps)
    | (with_reducible apply State.ctxCnt_keeps) | (with_reducible apply State.raise_keeps) | ((with_reducible intro _ _); try dsimp only)
    | (split) | (with_reducible apply State.Keeps.of_pair (by assumption)) | (dsimp only))

theorem State.legAlive_keeps {r0 s : State} (k0 : r0.Keeps s) (c l : Nat) :
    r0.Keeps (State.legAlive s c l) := by
  unfold State.legAlive
  try dsimp only
  repeat' (first
    | (with_reducible exact k0) | (with_reducible exact .refl _) | (with_reducible apply State.setCtx_keeps)
    | (with_reducible apply State.raise_keeps) | (with_reducible apply State.post_keeps) | ((with_reducible intro _ _); try dsimp only)
    | (split) | (with_reducible apply State.Keeps.of_pair (by assumption)) | (dsimp only))

theorem State.streamIn_keeps {r0 s : State} (k0 : r0.Keeps s) (c l : Nat) (d : Bytes) :
    r0.Keeps (State.streamIn s c l d) := by
  unfold State.streamIn
  try dsimp only
  repeat' (first
    | (with_reducible exact k0) | (with_reducible exact .refl _) | (with_reducible apply State.bump_keeps)
    | (with_reducible apply State.ctxCnt_keeps) | (with_reducible apply State.legAlive_keeps) | (with_reducible apply State.legSeq_keeps)
    | (with_reducible apply State.placePacket_keeps) | ((with_reducible intro _ _); try dsimp only) | (split)
    | (with_reducible apply State.Keeps.of_pair (by assumption)) | (dsimp only))

theorem execLegDown_keeps {r0 s : State} (k0 : r0.Keeps s) (ctx leg : Nat) :
    r0.KeepsNext (execLegDown ctx leg s) := by
  unfold execLegDown
  try dsimp only
  repeat' (first
    | (with_reducible apply State.KeepsNext.next) | (with_reducible exact k0) | (with_reducible exact .refl _)
    | (with_reducible apply State.setCtx_keeps) | (with_reducible apply State.ctxCnt_keeps) | (with_reducible apply State.raise_keeps)
    | (with_reducible apply State.post_keeps) | ((with_reducible intro _ _); try dsimp only) | (split)
    | (with_reducible apply State.Keeps.of_pair (by assumption)) | (dsimp only))

theorem State.chanJudge_keeps {r0 s : State} (k0 : r0.Keeps s) (c q : Nat) (ch : Nat) :
    r0.Keeps (State.chanJudge s c q ch) := by
  unfold State.chanJudge
  try dsimp only
  repeat' (first
    | (with_reducible exact k0) | (with_reducible exact .refl _) | (with_reducible apply State.setCtx_keeps)
    | (with_reducible apply State.ctxCnt_keeps) | (with_reducible apply State.perfAdd_keeps) | (with_reducible apply State.raise_keeps)
    | ((with_reducible intro _ _); try dsimp only) | (split) | (with_reducible apply State.Keeps.of_pair (by assumption)) | (dsimp only))

theorem State.assembleCtx_keeps {r0 s : State} (k0 : r0.Keeps s) (q : Nat) (acc : Tbl Int) (c : Nat) :
    r0.Keeps (State.assembleCtx s q acc c).1 := by
  unfold State.assembleCtx
  try dsimp only
  repeat' (first
    | (with_reducible exact k0) | (with_reducible exact .refl _) | (with_reducible apply State.ctxCnt_keeps)
    | (with_reducible apply State.raise_keeps) | (with_reducible apply State.perfAdd_keeps) | (with_reducible apply State.each_keeps)
    | (with_reducible apply State.chanJudge_keeps) | (with_reducible apply State.setCtx_keeps) | (with_reducible apply foldl_keeps)
    | (with_reducible apply foldlState_keeps) | ((with_reducible intro _ _); try dsimp only) | (split)
    | (with_reducible apply State.Keeps.of_pair (by assumption)) | (dsimp only))

theorem State.streamsAssemble_keeps {r0 s : State} (k0 : r0.Keeps s) (q : Nat) (t : Tbl Int) :
    r0.Keeps (State.streamsAssemble s q t).1 := by
  unfold State.streamsAssemble
  try dsimp only
  repeat' (first
    | (with_reducible exact k0) | (with_reducible exact .refl _) | (with_reducible apply State.assembleCtx_keeps)
    | (with_reducible apply foldl_keeps) | (with_reducible apply foldlState_keeps) | ((with_reducible intro _ _); try dsimp only)
    | (split) | (with_reducible apply State.Keeps.of_pair (by assumption)) | (dsimp only))

theorem State.legsIdle_keeps {r0 s : State} (k0 : r0.Keeps s)  :
    r0.Keeps (State.legsIdle s) := by
  unfold State.legsIdle
  try dsimp only
  repeat' (first
    | (with_reducible exact k0) | (with_reducible exact .refl _) | (with_reducible apply State.each_keeps)
    | (with_reducible apply State.setCtx_keeps) | ((with_reducible intro _ _); try dsimp only) | (split)
    | (with_reducible apply State.Keeps.of_pair (by assumption)) | (dsimp only))

theorem State.naReleaseCtx_keeps {r0 s : State} (k0 : r0.Keeps s) (c ch : Nat) :
    r0.Keeps (State.naReleaseCtx s c ch) := by
  unfold State.naReleaseCtx
  try dsimp only
  repeat' (first
    | (with_reducible exact k0) | (with_reducible exact .refl _) | (with_reducible apply State.setCtx_keeps)
    | ((with_reducible intro _ _); try dsimp only) | (split) | (with_reducible apply State.Keeps.of_pair (by assumption)) | (dsimp only))

theorem execNonaudioRelease_keeps {r0 s : State} (k0 : r0.Keeps s) (stream : Bool) (index slot : Nat) :
    r0.KeepsNext (execNonaudioRelease stream index slot s) := by
  unfold execNonaudioRelease
  try dsimp only
  repeat' (first
    | (with_reducible apply State.KeepsNext.next) | (with_reducible exact k0) | (with_reducible exact .refl _)
    | (with_reducible apply State.naReleaseCtx_keeps) | (with_reducible apply State.naRelease_keeps)
    | ((with_reducible intro _ _); try dsimp only) | (split) | (with_reducible apply State.Keeps.of_pair (by assumption)) | (dsimp only))

theorem State.sendCopies_keeps {r0 s : State} (k0 : r0.Keeps s) (v : StreamCtx) (rtp : Bytes) (seq : Nat) :
    r0.Keeps (State.sendCopies s v rtp seq) := by
  unfold State.sendCopies
  try dsimp only
  repeat' (first
    | (with_reducible exact k0) | (with_reducible exact .refl _) | (with_reducible apply State.each_keeps)
    | (with_reducible apply State.bump_keeps) | (with_reducible apply State.perfAdd_keeps) | (with_reducible apply State.txQueue_keeps)
    | ((with_reducible intro _ _); try dsimp only) | (split) | (with_reducible apply State.Keeps.of_pair (by assumption)) | (dsimp only))

theorem State.dropRun_keeps {r0 s : State} (k0 : r0.Keeps s) (c chans p n : Nat) :
    r0.Keeps (State.dropRun s c chans p n) := by
  unfold State.dropRun
  try dsimp only
  repeat' (first
    | (with_reducible exact k0) | (with_reducible exact .refl _) | (with_reducible apply State.onNet_keeps)
    | ((with_reducible intro _ _); try dsimp only) | (split) | (with_reducible apply State.Keeps.of_pair (by assumption)) | (dsimp only))

theorem State.sendPacket_keeps {r0 s : State} (k0 : r0.Keeps s) (c : Nat) :
    r0.Keeps (State.sendPacket s c) := by
  unfold State.sendPacket
  try dsimp only
  repeat' (first
    | (with_reducible exact k0) | (with_reducible exact .refl _) | (with_reducible apply State.sendCopies_keeps)
    | (with_reducible apply State.setCtx_keeps) | (with_reducible apply State.dropRun_keeps)
    | ((with_reducible intro _ _); try dsimp only) | (split) | (with_reducible apply State.Keeps.of_pair (by assumption)) | (dsimp only))

theorem execStreamPacketSend_keeps {r0 s : State} (k0 : r0.Keeps s)  :
    r0.KeepsNext (execStreamPacketSend s) := by
  unfold execStreamPacketSend
  try dsimp only
  repeat' (first
    | (with_reducible apply State.KeepsNext.next) | (with_reducible exact k0) | (with_reducible exact .refl _)
    | (with_reducible apply State.each_keeps) | (with_reducible apply State.sendPacket_keeps)
    | ((with_reducible intro _ _); try dsimp only) | (split) | (with_reducible apply State.Keeps.of_pair (by assumption)) | (dsimp only))

theorem State.streamsOutput_keeps {r0 s : State} (k0 : r0.Keeps s) (n : Nat) (value : Nat → Nat → Int) (late : List Nat) :
    r0.Keeps (State.streamsOutput s n value late) := by
  unfold State.streamsOutput
  try dsimp only
  repeat' (first
    | (with_reducible exact k0) | (with_reducible exact .refl _) | (with_reducible apply State.each_keeps)
    | (with_reducible apply State.ctxCnt_keeps) | (with_reducible apply State.raise_keeps) | (with_reducible apply State.perfAdd_keeps)
    | (with_reducible apply State.onNet_keeps) | (with_reducible apply foldl_keeps) | (with_reducible apply foldlState_keeps)
    | ((with_reducible intro _ _); try dsimp only) | (split) | (with_reducible apply State.Keeps.of_pair (by assumption)) | (dsimp only))

theorem State.ctxStart_keeps {r0 s : State} (k0 : r0.Keeps s) (n c : Nat) :
    r0.Keeps (State.ctxStart s n c) := by
  unfold State.ctxStart
  try dsimp only
  repeat' (first
    | (with_reducible exact k0) | (with_reducible exact .refl _) | (with_reducible apply State.setCtx_keeps)
    | ((with_reducible intro _ _); try dsimp only) | (split) | (with_reducible apply State.Keeps.of_pair (by assumption)) | (dsimp only))

theorem State.ctxStop_keeps {r0 s : State} (k0 : r0.Keeps s) (c : Nat) :
    r0.Keeps (State.ctxStop s c) := by
  unfold State.ctxStop
  try dsimp only
  repeat' (first
    | (with_reducible exact k0) | (with_reducible exact .refl _) | (with_reducible apply State.setCtx_keeps)
    | (with_reducible apply State.dropRun_keeps) | ((with_reducible intro _ _); try dsimp only) | (split)
    | (with_reducible apply State.Keeps.of_pair (by assumption)) | (dsimp only))

theorem State.placeBuffer_keeps {r0 s : State} (k0 : r0.Keeps s) (c : Nat) {t1 : State} (h1 : (State.placeBuffer s c) = some t1) :
    r0.Keeps t1 := by
  unfold State.placeBuffer at h1
  try dsimp only at h1
  repeat' (first
    | (cases h1; done) | (injection h1 with h1; subst h1) | (split at h1)
    | (obtain ⟨e1, h2, h3⟩ := Option.map_eq_some_iff.1 h1; clear h1; subst h3; try dsimp only))
  all_goals repeat' (first
    | (with_reducible exact k0) | (with_reducible exact .refl _) | (with_reducible apply State.setCtx_keeps)
    | (with_reducible refine State.place_keeps ?_ _ _ _ (by assumption))
    | (with_reducible refine State.place_keeps' ?_ _ _ _ (by assumption)) | ((with_reducible intro _ _); try dsimp only) | (split)
    | (with_reducible apply State.Keeps.of_pair (by assumption)) | (dsimp only))

theorem State.freeBuffer_keeps {r0 s : State} (k0 : r0.Keeps s) (c : Nat) :
    r0.Keeps (State.freeBuffer s c) := by
  unfold State.freeBuffer
  try dsimp only
  repeat' (first
    | (with_reducible exact k0) | (with_reducible exact .refl _) | (with_reducible apply State.setCtx_keeps)
    | (with_reducible apply State.onDdrc_keeps) | (with_reducible apply State.onPrism_keeps)
    | (with_reducible refine State.place_keeps ?_ _ _ _ (by assumption))
    | (with_reducible refine State.place_keeps' ?_ _ _ _ (by assumption)) | ((with_reducible intro _ _); try dsimp only) | (split)
    | (with_reducible apply State.Keeps.of_pair (by assumption)) | (dsimp only))

theorem State.streamsFirst_keeps {r0 s : State} (k0 : r0.Keeps s) (n : Nat) :
    r0.Keeps (State.streamsFirst s n) := by
  unfold State.streamsFirst
  try dsimp only
  repeat' (first
    | (with_reducible exact k0) | (with_reducible exact .refl _) | (with_reducible apply State.each_keeps)
    | (with_reducible apply State.ctxStart_keeps) | ((with_reducible intro _ _); try dsimp only) | (split)
    | (with_reducible apply State.Keeps.of_pair (by assumption)) | (dsimp only))

theorem State.streamsBoundary_keeps {r0 s : State} (k0 : r0.Keeps s) (n : Nat) :
    r0.Keeps (State.streamsBoundary s n) := by
  unfold State.streamsBoundary
  try dsimp only
  repeat' (first
    | (with_reducible exact k0) | (with_reducible exact .refl _) | (with_reducible apply State.each_keeps)
    | (with_reducible apply State.ctxStart_keeps) | (with_reducible apply State.ctxStop_keeps)
    | (with_reducible apply State.freeBuffer_keeps) | ((with_reducible intro _ _); try dsimp only) | (split)
    | (with_reducible apply State.Keeps.of_pair (by assumption)) | (dsimp only))

theorem State.streamsStop_keeps {r0 s : State} (k0 : r0.Keeps s)  :
    r0.Keeps (State.streamsStop s) := by
  unfold State.streamsStop
  try dsimp only
  repeat' (first
    | (with_reducible exact k0) | (with_reducible exact .refl _) | (with_reducible apply State.each_keeps)
    | (with_reducible apply State.ctxStop_keeps) | ((with_reducible intro _ _); try dsimp only) | (split)
    | (with_reducible apply State.Keeps.of_pair (by assumption)) | (dsimp only))

theorem State.streamsStep_keeps {r0 s : State} (k0 : r0.Keeps s) (n : Nat) :
    r0.Keeps (State.streamsStep s n) := by
  unfold State.streamsStep
  try dsimp only
  repeat' (first
    | (with_reducible exact k0) | (with_reducible exact .refl _) | (with_reducible apply State.each_keeps)
    | (with_reducible apply State.setCtx_keeps) | (with_reducible apply State.onNet_keeps) | ((with_reducible intro _ _); try dsimp only)
    | (split) | (with_reducible apply State.Keeps.of_pair (by assumption)) | (dsimp only))

/-! ### Machine/SceneNet.lean -/

theorem State.sceneRemember_keeps {r0 s : State} (k0 : r0.Keeps s) (id seq : Nat) :
    r0.Keeps (State.sceneRemember s id seq) := by
  unfold State.sceneRemember
  try dsimp only
  repeat' (first
    | (with_reducible exact k0) | (with_reducible exact .refl _) | (with_reducible apply State.onScene_keeps)
    | ((with_reducible intro _ _); try dsimp only) | (split) | (with_reducible apply State.Keeps.of_pair (by assumption)) | (dsimp only))

theorem State.sceneHeard_keeps {r0 s : State} (k0 : r0.Keeps s) (id : Nat) :
    r0.Keeps (State.sceneHeard s id) := by
  unfold State.sceneHeard
  try dsimp only
  repeat' (first
    | (with_reducible exact k0) | (with_reducible exact .refl _) | (with_reducible apply State.onScene_keeps)
    | ((with_reducible intro _ _); try dsimp only) | (split) | (with_reducible apply State.Keeps.of_pair (by assumption)) | (dsimp only))

theorem State.hearId_keeps {r0 s : State} (k0 : r0.Keeps s) (id : Nat) :
    r0.Keeps (State.hearId s id) := by
  unfold State.hearId
  try dsimp only
  repeat' (first
    | (with_reducible exact k0) | (with_reducible exact .refl _) | (with_reducible apply State.onHier_keeps)
    | (with_reducible apply State.post_keeps) | ((with_reducible intro _ _); try dsimp only) | (split)
    | (with_reducible apply State.Keeps.of_pair (by assumption)) | (dsimp only))

theorem State.sceneFrom_keeps {r0 s : State} (k0 : r0.Keeps s) (src seq : Nat) :
    r0.Keeps (State.sceneFrom s src seq) := by
  unfold State.sceneFrom
  try dsimp only
  repeat' (first
    | (with_reducible exact k0) | (with_reducible exact .refl _) | (with_reducible apply State.onHier_keeps)
    | (with_reducible apply State.hearId_keeps) | ((with_reducible intro _ _); try dsimp only) | (split)
    | (with_reducible apply State.Keeps.of_pair (by assumption)) | (dsimp only))

theorem State.sceneFrame_keeps {r0 s : State} (k0 : r0.Keeps s) (own : Bool) (d : Bytes) :
    r0.Keeps (State.sceneFrame s own d) := by
  unfold State.sceneFrame
  try dsimp only
  repeat' (first
    | (with_reducible exact k0) | (with_reducible exact .refl _) | (with_reducible apply State.sceneCnt_keeps)
    | (with_reducible apply State.sceneHeard_keeps) | (with_reducible apply State.sceneRemember_keeps)
    | (with_reducible apply State.perfAdd_keeps) | (with_reducible apply State.sceneFrom_keeps)
    | (with_reducible apply State.judgeAll_keeps) | ((with_reducible intro _ _); try dsimp only) | (split)
    | (with_reducible apply State.Keeps.of_pair (by assumption)) | (dsimp only))

theorem State.toListener_keeps {r0 s : State} (k0 : r0.Keeps s) (own : Bool) (l : Listener) (d : Bytes) :
    r0.Keeps (State.toListener s own l d) := by
  unfold State.toListener
  try dsimp only
  repeat' (first
    | (with_reducible exact k0) | (with_reducible exact .refl _) | (with_reducible apply State.sceneFrame_keeps)
    | (with_reducible apply State.sceneCnt_keeps) | ((with_reducible intro _ _); try dsimp only) | (split)
    | (with_reducible apply State.Keeps.of_pair (by assumption)) | (dsimp only))

theorem State.sendDatagram_keeps {r0 s : State} (k0 : r0.Keeps s) (m dmac dst port : Nat) (d : Bytes) (g : Gated) :
    r0.Keeps (State.sendDatagram s m dmac dst port d g) := by
  unfold State.sendDatagram
  try dsimp only
  repeat' (first
    | (with_reducible exact k0) | (with_reducible exact .refl _) | (with_reducible apply State.txQueue_keeps)
    | (with_reducible apply State.fresh_keeps) | ((with_reducible intro _ _); try dsimp only) | (split)
    | (with_reducible apply State.Keeps.of_pair (by assumption)) | (dsimp only))

theorem State.sendBoth_keeps {r0 s : State} (k0 : r0.Keeps s) (dst port : Nat) (d : Bytes) (g : Gated) :
    r0.Keeps (State.sendBoth s dst port d g) := by
  unfold State.sendBoth
  try dsimp only
  repeat' (first
    | (with_reducible exact k0) | (with_reducible exact .refl _) | (with_reducible apply State.sendDatagram_keeps)
    | ((with_reducible intro _ _); try dsimp only) | (split) | (with_reducible apply State.Keeps.of_pair (by assumption)) | (dsimp only))

theorem State.sceneSend_keeps {r0 s : State} (k0 : r0.Keeps s)  :
    r0.Keeps (State.sceneSend s) := by
  unfold State.sceneSend
  try dsimp only
  repeat' (first
    | (with_reducible exact k0) | (with_reducible exact .refl _) | (with_reducible apply State.each_keeps)
    | (with_reducible apply State.onHier_keeps) | (with_reducible apply State.sendBoth_keeps)
    | ((with_reducible intro _ _); try dsimp only) | (split) | (with_reducible apply State.Keeps.of_pair (by assumption)) | (dsimp only))

theorem State.statusSend_keeps {r0 s : State} (k0 : r0.Keeps s) (n : Nat) :
    r0.Keeps (State.statusSend s n) := by
  unfold State.statusSend
  try dsimp only
  repeat' (first
    | (with_reducible exact k0) | (with_reducible exact .refl _) | (with_reducible apply State.sendBoth_keeps)
    | (with_reducible apply State.onHier_keeps) | ((with_reducible intro _ _); try dsimp only) | (split)
    | (with_reducible apply State.Keeps.of_pair (by assumption)) | (dsimp only))

theorem State.hierBoundary_keeps {r0 s : State} (k0 : r0.Keeps s) (n : Nat) :
    r0.Keeps (State.hierBoundary s n) := by
  unfold State.hierBoundary
  try dsimp only
  repeat' (first
    | (with_reducible exact k0) | (with_reducible exact .refl _) | (with_reducible apply State.sceneSend_keeps)
    | (with_reducible apply State.statusSend_keeps) | ((with_reducible intro _ _); try dsimp only) | (split)
    | (with_reducible apply State.Keeps.of_pair (by assumption)) | (dsimp only))

theorem State.resync_keeps {r0 s : State} (k0 : r0.Keeps s) (m dmac ip : Nat) :
    r0.Keeps (State.resync s m dmac ip) := by
  unfold State.resync
  try dsimp only
  repeat' (first
    | (with_reducible exact k0) | (with_reducible exact .refl _) | (with_reducible apply State.each_keeps)
    | (with_reducible apply State.onHier_keeps) | (with_reducible apply State.sendDatagram_keeps)
    | ((with_reducible intro _ _); try dsimp only) | (split) | (with_reducible apply State.Keeps.of_pair (by assumption)) | (dsimp only))

theorem State.statusFrame_keeps {r0 s : State} (k0 : r0.Keeps s) (m smac ip : Nat) (d : Bytes) :
    r0.Keeps (State.statusFrame s m smac ip d) := by
  unfold State.statusFrame
  try dsimp only
  repeat' (first
    | (with_reducible exact k0) | (with_reducible exact .refl _) | (with_reducible apply State.hearId_keeps)
    | (with_reducible apply State.resync_keeps) | ((with_reducible intro _ _); try dsimp only) | (split)
    | (with_reducible apply State.Keeps.of_pair (by assumption)) | (dsimp only))

theorem State.followScene_keeps {r0 s : State} (k0 : r0.Keeps s) (d : Bytes) :
    r0.Keeps (State.followScene s d) := by
  unfold State.followScene
  try dsimp only
  repeat' (first
    | (with_reducible exact k0) | (with_reducible exact .refl _) | (with_reducible apply State.onHier_keeps)
    | ((with_reducible intro _ _); try dsimp only) | (split) | (with_reducible apply State.Keeps.of_pair (by assumption)) | (dsimp only))

theorem execWorkerLost_keeps {r0 s : State} (k0 : r0.Keeps s) (id : Nat) :
    r0.KeepsNext (execWorkerLost id s) := by
  unfold execWorkerLost
  try dsimp only
  repeat' (first
    | (with_reducible apply State.KeepsNext.next) | (with_reducible exact k0) | (with_reducible exact .refl _)
    | (with_reducible apply State.onHier_keeps) | (with_reducible apply State.post_keeps) | ((with_reducible intro _ _); try dsimp only)
    | (split) | (with_reducible apply State.Keeps.of_pair (by assumption)) | (dsimp only))

/-! ### Machine/Ptp.lean -/

theorem State.onPtp_keeps {r0 s : State} (k0 : r0.Keeps s) (f : Ptp → Ptp) :
    r0.Keeps (State.onPtp s f) := by
  unfold State.onPtp
  try dsimp only
  repeat' (first
    | (with_reducible exact k0) | (with_reducible exact .refl _) | (with_reducible apply State.onNet_keeps)
    | ((with_reducible intro _ _); try dsimp only) | (split) | (with_reducible apply State.Keeps.of_pair (by assumption)) | (dsimp only))

theorem State.ptpSend_keeps {r0 s : State} (k0 : r0.Keeps s) (m : Nat) (g : PtpMsg) (log : Int) (body : Bytes) :
    r0.Keeps (State.ptpSend s m g log body) := by
  unfold State.ptpSend
  try dsimp only
  repeat' (first
    | (with_reducible exact k0) | (with_reducible exact .refl _) | (with_reducible apply State.sendOwn_keeps)
    | (with_reducible apply State.fresh_keeps) | ((with_reducible intro _ _); try dsimp only) | (split)
    | (with_reducible apply State.Keeps.of_pair (by assumption)) | (dsimp only))

theorem State.ptpNext_keeps {r0 s : State} (k0 : r0.Keeps s) (k ticks : Nat) :
    r0.Keeps (State.ptpNext s k ticks) := by
  unfold State.ptpNext
  try dsimp only
  repeat' (first
    | (with_reducible exact k0) | (with_reducible exact .refl _) | (with_reducible apply State.onPtp_keeps)
    | ((with_reducible intro _ _); try dsimp only) | (split) | (with_reducible apply State.Keeps.of_pair (by assumption)) | (dsimp only))

theorem State.ptpFollow_keeps {r0 s : State} (k0 : r0.Keeps s) (b : Foreign) :
    r0.Keeps (State.ptpFollow s b) := by
  unfold State.ptpFollow
  try dsimp only
  repeat' (first
    | (with_reducible exact k0) | (with_reducible exact .refl _) | (with_reducible apply State.onTime_keeps)
    | (with_reducible apply State.onPtp_keeps) | ((with_reducible intro _ _); try dsimp only) | (split)
    | (with_reducible apply State.Keeps.of_pair (by assumption)) | (dsimp only))

theorem State.ptpAlone_keeps {r0 s : State} (k0 : r0.Keeps s) (leads : Bool) :
    r0.Keeps (State.ptpAlone s leads) := by
  unfold State.ptpAlone
  try dsimp only
  repeat' (first
    | (with_reducible exact k0) | (with_reducible exact .refl _) | (with_reducible apply State.onTime_keeps)
    | (with_reducible apply State.onPtp_keeps) | ((with_reducible intro _ _); try dsimp only) | (split)
    | (with_reducible apply State.Keeps.of_pair (by assumption)) | (dsimp only))

theorem State.ptpDecide_keeps {r0 s : State} (k0 : r0.Keeps s)  :
    r0.Keeps (State.ptpDecide s) := by
  unfold State.ptpDecide
  try dsimp only
  repeat' (first
    | (with_reducible exact k0) | (with_reducible exact .refl _) | (with_reducible apply State.ptpFollow_keeps)
    | (with_reducible apply State.ptpAlone_keeps) | ((with_reducible intro _ _); try dsimp only) | (split)
    | (with_reducible apply State.Keeps.of_pair (by assumption)) | (dsimp only))

theorem State.ptpAnnounce_keeps {r0 s : State} (k0 : r0.Keeps s) (m : Nat) (g : PtpMsg) (f : Bytes) :
    r0.Keeps (State.ptpAnnounce s m g f) := by
  unfold State.ptpAnnounce
  try dsimp only
  repeat' (first
    | (with_reducible exact k0) | (with_reducible exact .refl _) | (with_reducible apply State.onPtp_keeps)
    | (with_reducible apply State.ptpDecide_keeps) | ((with_reducible intro _ _); try dsimp only) | (split)
    | (with_reducible apply State.Keeps.of_pair (by assumption)) | (dsimp only))

theorem State.ptpSubmit_keeps {r0 s : State} (k0 : r0.Keeps s) (o d : Int) :
    r0.Keeps (State.ptpSubmit s o d) := by
  unfold State.ptpSubmit
  try dsimp only
  repeat' (first
    | (with_reducible exact k0) | (with_reducible exact .refl _) | (with_reducible apply State.wr_keeps)
    | (with_reducible apply State.servoUpdate_keeps) | ((with_reducible intro _ _); try dsimp only) | (split)
    | (with_reducible apply State.Keeps.of_pair (by assumption)) | (dsimp only))

theorem State.ptpMeasure_keeps {r0 s : State} (k0 : r0.Keeps s) (m : Nat) (x : Int) :
    r0.Keeps (State.ptpMeasure s m x) := by
  unfold State.ptpMeasure
  try dsimp only
  repeat' (first
    | (with_reducible exact k0) | (with_reducible exact .refl _) | (with_reducible apply State.onPtp_keeps)
    | (with_reducible apply State.ptpSubmit_keeps) | ((with_reducible intro _ _); try dsimp only) | (split)
    | (with_reducible apply State.Keeps.of_pair (by assumption)) | (dsimp only))

theorem State.ptpSync_keeps {r0 s : State} (k0 : r0.Keeps s) (m : Nat) (t : Int) (g : PtpMsg) (f : Bytes) :
    r0.Keeps (State.ptpSync s m t g f) := by
  unfold State.ptpSync
  try dsimp only
  repeat' (first
    | (with_reducible exact k0) | (with_reducible exact .refl _) | (with_reducible apply State.onPtp_keeps)
    | (with_reducible apply State.ptpMeasure_keeps) | ((with_reducible intro _ _); try dsimp only) | (split)
    | (with_reducible apply State.Keeps.of_pair (by assumption)) | (dsimp only))

theorem State.ptpFollowUp_keeps {r0 s : State} (k0 : r0.Keeps s) (m : Nat) (g : PtpMsg) (f : Bytes) :
    r0.Keeps (State.ptpFollowUp s m g f) := by
  unfold State.ptpFollowUp
  try dsimp only
  repeat' (first
    | (with_reducible exact k0) | (with_reducible exact .refl _) | (with_reducible apply State.ptpMeasure_keeps)
    | ((with_reducible intro _ _); try dsimp only) | (split) | (with_reducible apply State.Keeps.of_pair (by assumption)) | (dsimp only))

theorem State.ptpDelayResp_keeps {r0 s : State} (k0 : r0.Keeps s) (m : Nat) (g : PtpMsg) (f : Bytes) :
    r0.Keeps (State.ptpDelayResp s m g f) := by
  unfold State.ptpDelayResp
  try dsimp only
  repeat' (first
    | (with_reducible exact k0) | (with_reducible exact .refl _) | (with_reducible apply State.onPtp_keeps)
    | ((with_reducible intro _ _); try dsimp only) | (split) | (with_reducible apply State.Keeps.of_pair (by assumption)) | (dsimp only))

theorem State.ptpDelayReq_keeps {r0 s : State} (k0 : r0.Keeps s) (m : Nat) (t : Int) (g : PtpMsg) :
    r0.Keeps (State.ptpDelayReq s m t g) := by
  unfold State.ptpDelayReq
  try dsimp only
  repeat' (first
    | (with_reducible exact k0) | (with_reducible exact .refl _) | (with_reducible apply State.ptpSend_keeps)
    | ((with_reducible intro _ _); try dsimp only) | (split) | (with_reducible apply State.Keeps.of_pair (by assumption)) | (dsimp only))

theorem State.setPeer_keeps {r0 s : State} (k0 : r0.Keeps s) (m : Nat) (v : PeerDelay) :
    r0.Keeps (State.setPeer s m v) := by
  unfold State.setPeer
  try dsimp only
  repeat' (first
    | (with_reducible exact k0) | (with_reducible exact .refl _) | (with_reducible apply State.onPtp_keeps)
    | ((with_reducible intro _ _); try dsimp only) | (split) | (with_reducible apply State.Keeps.of_pair (by assumption)) | (dsimp only))

theorem State.peerReq_keeps {r0 s : State} (k0 : r0.Keeps s) (m : Nat) (t : Int) (g : PtpMsg) :
    r0.Keeps (State.peerReq s m t g) := by
  unfold State.peerReq
  try dsimp only
  repeat' (first
    | (with_reducible exact k0) | (with_reducible exact .refl _) | (with_reducible apply State.ptpSend_keeps)
    | (with_reducible apply State.onPtp_keeps) | ((with_reducible intro _ _); try dsimp only) | (split)
    | (with_reducible apply State.Keeps.of_pair (by assumption)) | (dsimp only))

theorem State.peerDone_keeps {r0 s : State} (k0 : r0.Keeps s) (m : Nat) (d : Int) :
    r0.Keeps (State.peerDone s m d) := by
  unfold State.peerDone
  try dsimp only
  repeat' (first
    | (with_reducible exact k0) | (with_reducible exact .refl _) | (with_reducible apply State.setPeer_keeps)
    | (with_reducible apply State.wr_keeps) | ((with_reducible intro _ _); try dsimp only) | (split)
    | (with_reducible apply State.Keeps.of_pair (by assumption)) | (dsimp only))

theorem State.peerResp_keeps {r0 s : State} (k0 : r0.Keeps s) (m : Nat) (t : Int) (g : PtpMsg) (f : Bytes) :
    r0.Keeps (State.peerResp s m t g f) := by
  unfold State.peerResp
  try dsimp only
  repeat' (first
    | (with_reducible exact k0) | (with_reducible exact .refl _) | (with_reducible apply State.setPeer_keeps)
    | (with_reducible apply State.peerDone_keeps) | ((with_reducible intro _ _); try dsimp only) | (split)
    | (with_reducible apply State.Keeps.of_pair (by assumption)) | (dsimp only))

theorem State.peerFollowUp_keeps {r0 s : State} (k0 : r0.Keeps s) (m : Nat) (g : PtpMsg) (f : Bytes) :
    r0.Keeps (State.peerFollowUp s m g f) := by
  unfold State.peerFollowUp
  try dsimp only
  repeat' (first
    | (with_reducible exact k0) | (with_reducible exact .refl _) | (with_reducible apply State.peerDone_keeps)
    | ((with_reducible intro _ _); try dsimp only) | (split) | (with_reducible apply State.Keeps.of_pair (by assumption)) | (dsimp only))

theorem State.ptpClock_keeps {r0 s : State} (k0 : r0.Keeps s) (m : Nat) (t : Int) (g : PtpMsg) (f : Bytes) :
    r0.Keeps (State.ptpClock s m t g f) := by
  unfold State.ptpClock
  try dsimp only
  repeat' (first
    | (with_reducible exact k0) | (with_reducible exact .refl _) | (with_reducible apply State.ptpSync_keeps)
    | (with_reducible apply State.ptpDelayReq_keeps) | (with_reducible apply State.ptpFollowUp_keeps)
    | (with_reducible apply State.ptpDelayResp_keeps) | (with_reducible apply State.ptpAnnounce_keeps)
    | ((with_reducible intro _ _); try dsimp only) | (split) | (with_reducible apply State.Keeps.of_pair (by assumption)) | (dsimp only))

theorem State.ptpPeerMsg_keeps {r0 s : State} (k0 : r0.Keeps s) (m : Nat) (t : Int) (g : PtpMsg) (f : Bytes) :
    r0.Keeps (State.ptpPeerMsg s m t g f) := by
  unfold State.ptpPeerMsg
  try dsimp only
  repeat' (first
    | (with_reducible exact k0) | (with_reducible exact .refl _) | (with_reducible apply State.peerReq_keeps)
    | (with_reducible apply State.peerResp_keeps) | (with_reducible apply State.peerFollowUp_keeps)
    | ((with_reducible intro _ _); try dsimp only) | (split) | (with_reducible apply State.Keeps.of_pair (by assumption)) | (dsimp only))

theorem State.ptpHear_keeps {r0 s : State} (k0 : r0.Keeps s) (m : Nat) (t : Int) (f : Bytes) :
    r0.Keeps (State.ptpHear s m t f) := by
  unfold State.ptpHear
  try dsimp only
  repeat' (first
    | (with_reducible exact k0) | (with_reducible exact .refl _) | (with_reducible apply State.onPtp_keeps)
    | (with_reducible apply State.ptpPeerMsg_keeps) | (with_reducible apply State.ptpClock_keeps)
    | ((with_reducible intro _ _); try dsimp only) | (split) | (with_reducible apply State.Keeps.of_pair (by assumption)) | (dsimp only))

theorem State.ptpStamped_keeps {r0 s : State} (k0 : r0.Keeps s) (m : Nat) (t : Int) (g : PtpMsg) :
    r0.Keeps (State.ptpStamped s m t g) := by
  unfold State.ptpStamped
  try dsimp only
  repeat' (first
    | (with_reducible exact k0) | (with_reducible exact .refl _) | (with_reducible apply State.ptpSend_keeps)
    | (with_reducible apply State.onPtp_keeps) | (with_reducible apply State.setPeer_keeps) | ((with_reducible intro _ _); try dsimp only)
    | (split) | (with_reducible apply State.Keeps.of_pair (by assumption)) | (dsimp only))

theorem State.ptpSent_keeps {r0 s : State} (k0 : r0.Keeps s) (m cyc : Nat) (f : TxFrame) :
    r0.Keeps (State.ptpSent s m cyc f) := by
  unfold State.ptpSent
  try dsimp only
  repeat' (first
    | (with_reducible exact k0) | (with_reducible exact .refl _) | (with_reducible apply State.ring_keeps)
    | (with_reducible apply State.perfAdd_keeps) | (with_reducible apply State.ptpStamped_keeps)
    | ((with_reducible intro _ _); try dsimp only) | (split) | (with_reducible apply State.Keeps.of_pair (by assumption)) | (dsimp only))

theorem execForwardTransmit_keeps {r0 s : State} (k0 : r0.Keeps s) (mac cyc : Nat) :
    r0.KeepsNext (execForwardTransmit mac cyc s) := by
  unfold execForwardTransmit
  try dsimp only
  repeat' (first
    | (with_reducible apply State.KeepsNext.next) | (with_reducible exact k0) | (with_reducible exact .refl _)
    | (with_reducible apply State.gateNext_keeps) | (with_reducible apply State.fillNext_keeps)
    | (with_reducible apply State.startFrame_keeps) | (with_reducible apply State.ptpSent_keeps)
    | ((with_reducible intro _ _); try dsimp only) | (split) | (with_reducible apply State.Keeps.of_pair (by assumption)) | (dsimp only))

theorem State.sendAnnounce_keeps {r0 s : State} (k0 : r0.Keeps s)  :
    r0.Keeps (State.sendAnnounce s) := by
  unfold State.sendAnnounce
  try dsimp only
  repeat' (first
    | (with_reducible exact k0) | (with_reducible exact .refl _) | (with_reducible apply State.each_keeps)
    | (with_reducible apply State.ptpSend_keeps) | (with_reducible apply State.ptpNext_keeps)
    | ((with_reducible intro _ _); try dsimp only) | (split) | (with_reducible apply State.Keeps.of_pair (by assumption)) | (dsimp only))

theorem State.sendSync_keeps {r0 s : State} (k0 : r0.Keeps s)  :
    r0.Keeps (State.sendSync s) := by
  unfold State.sendSync
  try dsimp only
  repeat' (first
    | (with_reducible exact k0) | (with_reducible exact .refl _) | (with_reducible apply State.each_keeps)
    | (with_reducible apply State.ptpSend_keeps) | (with_reducible apply State.ptpNext_keeps)
    | ((with_reducible intro _ _); try dsimp only) | (split) | (with_reducible apply State.Keeps.of_pair (by assumption)) | (dsimp only))

theorem State.sendDelayReq_keeps {r0 s : State} (k0 : r0.Keeps s)  :
    r0.Keeps (State.sendDelayReq s) := by
  unfold State.sendDelayReq
  try dsimp only
  repeat' (first
    | (with_reducible exact k0) | (with_reducible exact .refl _) | (with_reducible apply State.ptpSend_keeps)
    | (with_reducible apply State.onPtp_keeps) | (with_reducible apply State.ptpNext_keeps) | ((with_reducible intro _ _); try dsimp only)
    | (split) | (with_reducible apply State.Keeps.of_pair (by assumption)) | (dsimp only))

theorem State.sendPeerReq_keeps {r0 s : State} (k0 : r0.Keeps s)  :
    r0.Keeps (State.sendPeerReq s) := by
  unfold State.sendPeerReq
  try dsimp only
  repeat' (first
    | (with_reducible exact k0) | (with_reducible exact .refl _) | (with_reducible apply State.each_keeps)
    | (with_reducible apply State.setPeer_keeps) | (with_reducible apply State.ptpSend_keeps) | (with_reducible apply State.ptpNext_keeps)
    | ((with_reducible intro _ _); try dsimp only) | (split) | (with_reducible apply State.Keeps.of_pair (by assumption)) | (dsimp only))

theorem State.ptpBoundary_keeps {r0 s : State} (k0 : r0.Keeps s)  :
    r0.Keeps (State.ptpBoundary s) := by
  unfold State.ptpBoundary
  try dsimp only
  repeat' (first
    | (with_reducible exact k0) | (with_reducible exact .refl _) | (with_reducible apply State.onPtp_keeps)
    | (with_reducible apply State.ptpDecide_keeps) | (with_reducible apply State.sendSync_keeps)
    | (with_reducible apply State.sendDelayReq_keeps) | (with_reducible apply State.sendPeerReq_keeps)
    | (with_reducible apply State.sendAnnounce_keeps) | ((with_reducible intro _ _); try dsimp only) | (split)
    | (with_reducible apply State.Keeps.of_pair (by assumption)) | (dsimp only))

/-! ### Machine/Net.lean -/

theorem State.forward_keeps {r0 s : State} (k0 : r0.Keeps s) (m : Nat) (x : RxMeta) (f : Bytes) :
    r0.Keeps (State.forward s m x f) := by
  unfold State.forward
  try dsimp only
  repeat' (first
    | (with_reducible exact k0) | (with_reducible exact .refl _) | (with_reducible apply State.txQueue_keeps)
    | ((with_reducible intro _ _); try dsimp only) | (split) | (with_reducible apply State.Keeps.of_pair (by assumption)) | (dsimp only))

theorem State.arpLearn_keeps {r0 s : State} (k0 : r0.Keeps s) (ip eth : Nat) :
    r0.Keeps (State.arpLearn s ip eth) := by
  unfold State.arpLearn
  try dsimp only
  repeat' (first
    | (with_reducible exact k0) | (with_reducible exact .refl _) | (with_reducible apply State.each_keeps)
    | (with_reducible apply State.setCtx_keeps) | (with_reducible apply State.onNet_keeps) | ((with_reducible intro _ _); try dsimp only)
    | (split) | (with_reducible apply State.Keeps.of_pair (by assumption)) | (dsimp only))

theorem State.ringFrame_keeps {r0 s : State} (k0 : r0.Keeps s) (m r : Nat) (x : RxMeta) (f : Bytes) :
    r0.Keeps (State.ringFrame s m r x f) := by
  unfold State.ringFrame
  try dsimp only
  repeat' (first
    | (with_reducible exact k0) | (with_reducible exact .refl _) | (with_reducible apply State.rxToRing_keeps)
    | (with_reducible apply State.ptpHear_keeps) | (with_reducible apply State.arpLearn_keeps)
    | ((with_reducible intro _ _); try dsimp only) | (split) | (with_reducible apply State.Keeps.of_pair (by assumption)) | (dsimp only))

theorem State.deliver_keeps {r0 s : State} (k0 : r0.Keeps s) (m : Nat) (x : RxMeta) (f : Bytes) :
    r0.Keeps (State.deliver s m x f) := by
  unfold State.deliver
  try dsimp only
  repeat' (first
    | (with_reducible exact k0) | (with_reducible exact .refl _) | (with_reducible apply State.ringFrame_keeps)
    | (with_reducible apply State.macCnt_keeps) | (with_reducible apply State.streamIn_keeps)
    | (with_reducible apply State.toListener_keeps) | (with_reducible apply State.followScene_keeps)
    | (with_reducible apply State.statusFrame_keeps) | (with_reducible apply State.ring_keeps)
    | ((with_reducible intro _ _); try dsimp only) | (split) | (with_reducible apply State.Keeps.of_pair (by assumption)) | (dsimp only))

theorem State.frameIntact_keeps {r0 s : State} (k0 : r0.Keeps s) (m : Nat) (x : RxMeta) (f : Bytes) :
    r0.Keeps (State.frameIntact s m x f) := by
  unfold State.frameIntact
  try dsimp only
  repeat' (first
    | (with_reducible exact k0) | (with_reducible exact .refl _) | (with_reducible apply State.macCnt_keeps)
    | (with_reducible apply State.perfAdd_keeps) | (with_reducible apply State.forward_keeps) | (with_reducible apply State.deliver_keeps)
    | ((with_reducible intro _ _); try dsimp only) | (split) | (with_reducible apply State.Keeps.of_pair (by assumption)) | (dsimp only))

/-! ### Machine/NetCmds.lean -/

theorem State.netModePort_keeps {r0 s : State} (k0 : r0.Keeps s) (p : Bytes) (m : Nat) :
    r0.Keeps (State.netModePort s p m) := by
  unfold State.netModePort
  try dsimp only
  repeat' (first
    | (with_reducible exact k0) | (with_reducible exact .refl _) | (with_reducible apply State.setFld_keeps)
    | ((with_reducible intro _ _); try dsimp only) | (split) | (with_reducible apply State.Keeps.of_pair (by assumption)) | (dsimp only))

theorem cmdNetModeSet_keeps : cmdNetModeSet.Keeps := by
  intro h p s
  have k0 := State.Keeps.refl s
  unfold cmdNetModeSet
  try dsimp only [mkCmd, mkBulk]
  repeat' (first
    | (with_reducible exact k0) | (with_reducible exact .refl _) | (with_reducible exact mkCmd_keeps)
    | (with_reducible apply checked_keeps) | (with_reducible apply State.each_keeps) | (with_reducible apply State.netModePort_keeps)
    | ((with_reducible intro _ _); try dsimp only) | (split) | (with_reducible apply State.Keeps.of_pair (by assumption)) | (dsimp only))

theorem State.netAddrPort_keeps {r0 s : State} (k0 : r0.Keeps s) (p : Bytes) (m : Nat) :
    r0.Keeps (State.netAddrPort s p m) := by
  unfold State.netAddrPort
  try dsimp only
  repeat' (first
    | (with_reducible exact k0) | (with_reducible exact .refl _) | (with_reducible apply State.wr_keeps)
    | (with_reducible apply State.onMac_keeps) | ((with_reducible intro _ _); try dsimp only) | (split)
    | (with_reducible apply State.Keeps.of_pair (by assumption)) | (dsimp only))

theorem cmdNetAddrSet_keeps : cmdNetAddrSet.Keeps := by
  intro h p s
  have k0 := State.Keeps.refl s
  unfold cmdNetAddrSet
  try dsimp only [mkCmd, mkBulk]
  repeat' (first
    | (with_reducible exact k0) | (with_reducible exact .refl _) | (with_reducible exact mkCmd_keeps)
    | (with_reducible apply checked_keeps) | (with_reducible apply State.each_keeps) | (with_reducible apply State.netAddrPort_keeps)
    | ((with_reducible intro _ _); try dsimp only) | (split) | (with_reducible apply State.Keeps.of_pair (by assumption)) | (dsimp only))

theorem cmdNetFilterSet_keeps : cmdNetFilterSet.Keeps := by
  intro h p s
  have k0 := State.Keeps.refl s
  unfold cmdNetFilterSet
  try dsimp only [mkCmd, mkBulk]
  repeat' (first
    | (with_reducible exact k0) | (with_reducible exact .refl _) | (with_reducible exact mkCmd_keeps)
    | (with_reducible apply checked_keeps) | (with_reducible apply checkedEntries_keeps) | (with_reducible apply State.onMac_keeps)
    | ((with_reducible intro _ _); try dsimp only) | (split) | (with_reducible apply State.Keeps.of_pair (by assumption)) | (dsimp only))

theorem cmdNetStatusGet_keeps : cmdNetStatusGet.Keeps := by
  intro h p s
  have k0 := State.Keeps.refl s
  unfold cmdNetStatusGet
  try dsimp only [mkCmd, mkBulk]
  repeat' (first
    | (with_reducible exact k0) | (with_reducible exact .refl _) | (with_reducible exact mkCmd_keeps)
    | (with_reducible apply checked_keeps) | (with_reducible apply State.wr_keeps) | ((with_reducible intro _ _); try dsimp only)
    | (split) | (with_reducible apply State.Keeps.of_pair (by assumption)) | (dsimp only))

theorem State.hostFrames_keeps {r0 s : State} (k0 : r0.Keeps s) (m room : Nat) (z1 : Nat) :
    r0.Keeps (State.hostFrames s m room z1).1 := by
  induction z1 generalizing s room with
  | zero =>
    unfold State.hostFrames
    try dsimp only
    repeat' (first
      | (with_reducible exact k0) | (with_reducible exact .refl _) | (with_reducible apply State.rxReturn_keeps)
      | ((with_reducible intro _ _); try dsimp only) | (split) | (with_reducible apply State.Keeps.of_pair (by assumption)) | (dsimp only))
  | succ _ ih =>
    unfold State.hostFrames
    try dsimp only
    repeat' (first
      | (with_reducible exact k0) | (with_reducible exact .refl _) | (with_reducible apply ih)
      | (with_reducible apply State.rxReturn_keeps) | ((with_reducible intro _ _); try dsimp only) | (split)
      | (with_reducible apply State.Keeps.of_pair (by assumption)) | (dsimp only))

theorem cmdNetHostRx_keeps : cmdNetHostRx.Keeps := by
  intro h p s
  have k0 := State.Keeps.refl s
  unfold cmdNetHostRx
  try dsimp only [mkCmd, mkBulk]
  repeat' (first
    | (with_reducible exact k0) | (with_reducible exact .refl _) | (with_reducible exact mkBulk_keeps)
    | (with_reducible apply checked_keeps) | (with_reducible apply State.hostFrames_keeps) | (with_reducible apply State.bufWrite_keeps)
    | ((with_reducible intro _ _); try dsimp only) | (split) | (with_reducible apply State.Keeps.of_pair (by assumption)) | (dsimp only))

theorem cmdNetHostTx_keeps : cmdNetHostTx.Keeps := by
  intro h p s
  have k0 := State.Keeps.refl s
  unfold cmdNetHostTx
  try dsimp only [mkCmd, mkBulk]
  repeat' (first
    | (with_reducible exact k0) | (with_reducible exact .refl _) | (with_reducible exact mkBulk_keeps)
    | (with_reducible apply checked_keeps) | (with_reducible apply State.onMac_keeps) | (with_reducible apply State.hostSend_keeps)
    | ((with_reducible intro _ _); try dsimp only) | (split) | (with_reducible apply State.Keeps.of_pair (by assumption)) | (dsimp only))

theorem cmdMdioAccess_keeps : cmdMdioAccess.Keeps := by
  intro h p s
  have k0 := State.Keeps.refl s
  unfold cmdMdioAccess
  try dsimp only [mkCmd, mkBulk]
  repeat' (first
    | (with_reducible exact k0) | (with_reducible exact .refl _) | (with_reducible exact mkCmd_keeps)
    | (with_reducible apply checked_keeps) | (with_reducible apply State.fresh_keeps) | ((with_reducible intro _ _); try dsimp only)
    | (split) | (with_reducible apply State.Keeps.of_pair (by assumption)) | (dsimp only))

theorem cmdStreamSet_keeps : cmdStreamSet.Keeps := by
  intro h p s
  have k0 := State.Keeps.refl s
  unfold cmdStreamSet
  try dsimp only [mkCmd, mkBulk]
  repeat' (first
    | (with_reducible exact k0) | (with_reducible exact .refl _) | (with_reducible exact mkCmd_keeps)
    | (with_reducible apply checked_keeps) | (with_reducible apply State.each_keeps) | (with_reducible apply State.hashIn_keeps)
    | (with_reducible apply State.setCtx_keeps) | ((with_reducible intro _ _); try dsimp only) | (split)
    | (with_reducible apply State.Keeps.of_pair (by assumption)) | (dsimp only))

theorem State.placeBuffers_keeps {r0 s : State} (k0 : r0.Keeps s) (z1 : List Nat) {t1 : State} (h1 : State.placeBuffers s z1 = some t1) :
    r0.Keeps t1 := by
  induction z1 generalizing s with
  | nil => unfold State.placeBuffers at h1; injection h1 with h1; subst h1; exact k0
  | cons j js ih =>
    unfold State.placeBuffers at h1
    split at h1
    · exact ih k0 h1
    · split at h1
      · cases h1
      · exact ih (State.placeBuffer_keeps k0 _ (by assumption)) h1

theorem State.setEnables_keeps {r0 s : State} (k0 : r0.Keeps s) (p : Bytes) :
    r0.Keeps (State.setEnables s p) := by
  unfold State.setEnables
  try dsimp only
  repeat' (first
    | (with_reducible exact k0) | (with_reducible exact .refl _) | (with_reducible apply State.each_keeps)
    | (with_reducible apply State.setCtx_keeps) | (with_reducible apply State.freeBuffer_keeps)
    | ((with_reducible intro _ _); try dsimp only) | (split) | (with_reducible apply State.Keeps.of_pair (by assumption)) | (dsimp only))

theorem State.enableStreams_keeps {r0 s : State} (k0 : r0.Keeps s) (p : Bytes) :
    r0.Keeps (State.enableStreams s p).1 := by
  unfold State.enableStreams
  try dsimp only
  repeat' (first
    | (with_reducible exact k0) | (with_reducible exact .refl _) | (with_reducible apply State.setEnables_keeps)
    | (with_reducible refine State.placeBuffers_keeps ?_ _ (by assumption)) | ((with_reducible intro _ _); try dsimp only) | (split)
    | (with_reducible apply State.Keeps.of_pair (by assumption)) | (dsimp only))

theorem State.arpAsk_keeps {r0 s : State} (k0 : r0.Keeps s) (e : Nat × Nat × Nat) :
    r0.Keeps (State.arpAsk s e) := by
  unfold State.arpAsk
  try dsimp only
  repeat' (first
    | (with_reducible exact k0) | (with_reducible exact .refl _) | (with_reducible apply State.each_keeps)
    | (with_reducible apply State.sendOwn_keeps) | ((with_reducible intro _ _); try dsimp only) | (split)
    | (with_reducible apply State.Keeps.of_pair (by assumption)) | (dsimp only))

theorem cmdStreamEnable_keeps : cmdStreamEnable.Keeps := by
  intro h p s
  have k0 := State.Keeps.refl s
  unfold cmdStreamEnable
  try dsimp only [mkCmd, mkBulk]
  repeat' (first
    | (with_reducible exact k0) | (with_reducible exact .refl _) | (with_reducible exact mkCmd_keeps)
    | (with_reducible apply State.enableStreams_keeps) | (with_reducible apply State.each_keeps)
    | (with_reducible apply State.arpAsk_keeps) | (with_reducible apply State.onNet_keeps) | ((with_reducible intro _ _); try dsimp only)
    | (split) | (with_reducible apply State.Keeps.of_pair (by assumption)) | (dsimp only))

theorem cmdStreamStatusGet_keeps : cmdStreamStatusGet.Keeps := by
  intro h p s
  have k0 := State.Keeps.refl s
  unfold cmdStreamStatusGet
  try dsimp only [mkCmd, mkBulk]
  repeat' (first
    | (with_reducible exact k0) | (with_reducible exact .refl _) | (with_reducible exact mkCmd_keeps)
    | (with_reducible apply checked_keeps) | (with_reducible apply State.wr_keeps) | ((with_reducible intro _ _); try dsimp only)
    | (split) | (with_reducible apply State.Keeps.of_pair (by assumption)) | (dsimp only))

theorem State.arpEnd_keeps {r0 s : State} (k0 : r0.Keeps s)  :
    r0.Keeps (State.arpEnd s) := by
  unfold State.arpEnd
  try dsimp only
  repeat' (first
    | (with_reducible exact k0) | (with_reducible exact .refl _) | (with_reducible apply State.onNet_keeps)
    | (with_reducible apply State.respond_keeps) | (with_reducible apply State.enableStreams_keeps)
    | ((with_reducible intro _ _); try dsimp only) | (split) | (with_reducible apply State.Keeps.of_pair (by assumption)) | (dsimp only))

theorem execArpTimeout_keeps {r0 s : State} (k0 : r0.Keeps s)  :
    r0.KeepsNext (execArpTimeout s) := by
  unfold execArpTimeout
  try dsimp only
  repeat' (first
    | (with_reducible apply State.KeepsNext.next) | (with_reducible exact k0) | (with_reducible exact .refl _)
    | (with_reducible apply State.arpEnd_keeps) | ((with_reducible intro _ _); try dsimp only) | (split)
    | (with_reducible apply State.Keeps.of_pair (by assumption)) | (dsimp only))

theorem State.arpReady_keeps {r0 s : State} (k0 : r0.Keeps s)  :
    r0.Keeps (State.arpReady s) := by
  unfold State.arpReady
  try dsimp only
  repeat' (first
    | (with_reducible exact k0) | (with_reducible exact .refl _) | (with_reducible apply State.arpEnd_keeps)
    | ((with_reducible intro _ _); try dsimp only) | (split) | (with_reducible apply State.Keeps.of_pair (by assumption)) | (dsimp only))

theorem execFrameReceived_keeps {r0 s : State} (k0 : r0.Keeps s) (mac : Nat) (m : RxMeta) (frame : Bytes) :
    r0.KeepsNext (execFrameReceived mac m frame s) := by
  unfold execFrameReceived
  try dsimp only
  repeat' (first
    | (with_reducible apply State.KeepsNext.next) | (with_reducible exact k0) | (with_reducible exact .refl _)
    | (with_reducible apply State.forgetLeft_keeps) | (with_reducible apply State.macCnt_keeps)
    | (with_reducible apply State.frameIntact_keeps) | (with_reducible apply State.arpReady_keeps)
    | ((with_reducible intro _ _); try dsimp only) | (split) | (with_reducible apply State.Keeps.of_pair (by assumption)) | (dsimp only))

theorem execNetModeSet_keeps {r0 s : State} (k0 : r0.Keeps s) (h : Hdr) (p : Bytes) :
    r0.KeepsNext (execNetModeSet h p s) := by
  unfold execNetModeSet
  try dsimp only
  repeat' (first
    | (with_reducible apply State.KeepsNext.next) | (with_reducible exact k0) | (with_reducible exact .refl _)
    | (with_reducible apply CmdDef.exec_keeps) | (with_reducible exact cmdNetModeSet_keeps)
    | (with_reducible refine State.KeepsNext.of (CmdDef.exec_keeps ?_ _ _ _) (by assumption))
    | ((with_reducible intro _ _); try dsimp only) | (split) | (with_reducible apply State.Keeps.of_pair (by assumption)) | (dsimp only)
    | (with_reducible apply CmdDef.exec_keeps))

theorem execNetAddrSet_keeps {r0 s : State} (k0 : r0.Keeps s) (h : Hdr) (p : Bytes) :
    r0.KeepsNext (execNetAddrSet h p s) := by
  unfold execNetAddrSet
  try dsimp only
  repeat' (first
    | (with_reducible apply State.KeepsNext.next) | (with_reducible exact k0) | (with_reducible exact .refl _)
    | (with_reducible apply CmdDef.exec_keeps) | (with_reducible exact cmdNetAddrSet_keeps)
    | (with_reducible refine State.KeepsNext.of (CmdDef.exec_keeps ?_ _ _ _) (by assumption))
    | ((with_reducible intro _ _); try dsimp only) | (split) | (with_reducible apply State.Keeps.of_pair (by assumption)) | (dsimp only)
    | (with_reducible apply CmdDef.exec_keeps))

theorem execNetFilterSet_keeps {r0 s : State} (k0 : r0.Keeps s) (h : Hdr) (p : Bytes) :
    r0.KeepsNext (execNetFilterSet h p s) := by
  unfold execNetFilterSet
  try dsimp only
  repeat' (first
    | (with_reducible apply State.KeepsNext.next) | (with_reducible exact k0) | (with_reducible exact .refl _)
    | (with_reducible apply CmdDef.exec_keeps) | (with_reducible exact cmdNetFilterSet_keeps)
    | (with_reducible refine State.KeepsNext.of (CmdDef.exec_keeps ?_ _ _ _) (by assumption))
    | ((with_reducible intro _ _); try dsimp only) | (split) | (with_reducible apply State.Keeps.of_pair (by assumption)) | (dsimp only)
    | (with_reducible apply CmdDef.exec_keeps))

theorem execNetStatusGet_keeps {r0 s : State} (k0 : r0.Keeps s) (h : Hdr) (p : Bytes) :
    r0.KeepsNext (execNetStatusGet h p s) := by
  unfold execNetStatusGet
  try dsimp only
  repeat' (first
    | (with_reducible apply State.KeepsNext.next) | (with_reducible exact k0) | (with_reducible exact .refl _)
    | (with_reducible apply CmdDef.exec_keeps) | (with_reducible exact cmdNetStatusGet_keeps)
    | (with_reducible refine State.KeepsNext.of (CmdDef.exec_keeps ?_ _ _ _) (by assumption))
    | ((with_reducible intro _ _); try dsimp only) | (split) | (with_reducible apply State.Keeps.of_pair (by assumption)) | (dsimp only)
    | (with_reducible apply CmdDef.exec_keeps))

theorem execNetHostRx_keeps {r0 s : State} (k0 : r0.Keeps s) (h : Hdr) (p : Bytes) :
    r0.KeepsNext (execNetHostRx h p s) := by
  unfold execNetHostRx
  try dsimp only
  repeat' (first
    | (with_reducible apply State.KeepsNext.next) | (with_reducible exact k0) | (with_reducible exact .refl _)
    | (with_reducible apply CmdDef.exec_keeps) | (with_reducible exact cmdNetHostRx_keeps)
    | (with_reducible refine State.KeepsNext.of (CmdDef.exec_keeps ?_ _ _ _) (by assumption))
    | ((with_reducible intro _ _); try dsimp only) | (split) | (with_reducible apply State.Keeps.of_pair (by assumption)) | (dsimp only)
    | (with_reducible apply CmdDef.exec_keeps))

theorem execNetHostTx_keeps {r0 s : State} (k0 : r0.Keeps s) (h : Hdr) (p : Bytes) :
    r0.KeepsNext (execNetHostTx h p s) := by
  unfold execNetHostTx
  try dsimp only
  repeat' (first
    | (with_reducible apply State.KeepsNext.next) | (with_reducible exact k0) | (with_reducible exact .refl _)
    | (with_reducible apply CmdDef.exec_keeps) | (with_reducible exact cmdNetHostTx_keeps)
    | (with_reducible refine State.KeepsNext.of (CmdDef.exec_keeps ?_ _ _ _) (by assumption))
    | ((with_reducible intro _ _); try dsimp only) | (split) | (with_reducible apply State.Keeps.of_pair (by assumption)) | (dsimp only)
    | (with_reducible apply CmdDef.exec_keeps))

theorem execMdioAccess_keeps {r0 s : State} (k0 : r0.Keeps s) (h : Hdr) (p : Bytes) :
    r0.KeepsNext (execMdioAccess h p s) := by
  unfold execMdioAccess
  try dsimp only
  repeat' (first
    | (with_reducible apply State.KeepsNext.next) | (with_reducible exact k0) | (with_reducible exact .refl _)
    | (with_reducible apply CmdDef.exec_keeps) | (with_reducible exact cmdMdioAccess_keeps)
    | (with_reducible refine State.KeepsNext.of (CmdDef.exec_keeps ?_ _ _ _) (by assumption))
    | ((with_reducible intro _ _); try dsimp only) | (split) | (with_reducible apply State.Keeps.of_pair (by assumption)) | (dsimp only)
    | (with_reducible apply CmdDef.exec_keeps))

theorem execStreamSet_keeps {r0 s : State} (k0 : r0.Keeps s) (h : Hdr) (p : Bytes) :
    r0.KeepsNext (execStreamSet h p s) := by
  unfold execStreamSet
  try dsimp only
  repeat' (first
    | (with_reducible apply State.KeepsNext.next) | (with_reducible exact k0) | (with_reducible exact .refl _)
    | (with_reducible apply CmdDef.exec_keeps) | (with_reducible exact cmdStreamSet_keeps)
    | (with_reducible refine State.KeepsNext.of (CmdDef.exec_keeps ?_ _ _ _) (by assumption))
    | ((with_reducible intro _ _); try dsimp only) | (split) | (with_reducible apply State.Keeps.of_pair (by assumption)) | (dsimp only)
    | (with_reducible apply CmdDef.exec_keeps))

theorem execStreamEnable_keeps {r0 s : State} (k0 : r0.Keeps s) (h : Hdr) (p : Bytes) :
    r0.KeepsNext (execStreamEnable h p s) := by
  unfold execStreamEnable
  try dsimp only
  repeat' (first
    | (with_reducible apply State.KeepsNext.next) | (with_reducible exact k0) | (with_reducible exact .refl _)
    | (with_reducible apply CmdDef.exec_keeps) | (with_reducible exact cmdStreamEnable_keeps)
    | (with_reducible refine State.KeepsNext.of (CmdDef.exec_keeps ?_ _ _ _) (by assumption))
    | ((with_reducible intro _ _); try dsimp only) | (split) | (with_reducible apply State.Keeps.of_pair (by assumption)) | (dsimp only)
    | (with_reducible apply CmdDef.exec_keeps))

theorem execStreamStatusGet_keeps {r0 s : State} (k0 : r0.Keeps s) (h : Hdr) (p : Bytes) :
    r0.KeepsNext (execStreamStatusGet h p s) := by
  unfold execStreamStatusGet
  try dsimp only
  repeat' (first
    | (with_reducible apply State.KeepsNext.next) | (with_reducible exact k0) | (with_reducible exact .refl _)
    | (with_reducible apply CmdDef.exec_keeps) | (with_reducible exact cmdStreamStatusGet_keeps)
    | (with_reducible refine State.KeepsNext.of (CmdDef.exec_keeps ?_ _ _ _) (by assumption))
    | ((with_reducible intro _ _); try dsimp only) | (split) | (with_reducible apply State.Keeps.of_pair (by assumption)) | (dsimp only)
    | (with_reducible apply CmdDef.exec_keeps))

end Sys2Proof.Machine
end

