-- ==== Sys2Proof/Laws/KeepsCmds.lean ====
section
/-! SUPPORT. Keeps of boot, rendering, the mailbox commands, the modes: one lemma for each operation, by the lemmas of what it calls. -/

namespace Sys2Proof.Machine

set_option linter.all false

/-! ### Machine/Boot.lean -/

theorem State.writeBootRec_keeps {r0 s : State} (k0 : r0.Keeps s) (slot : Nat) (trial : Bool) :
    r0.Keeps (State.writeBootRec s slot trial) := by
  unfold State.writeBootRec
  try dsimp only
  repeat' (first
    | (with_reducible exact k0) | (with_reducible exact .refl _) | (with_reducible apply State.withFlash_keeps)
    | (intro hm; (repeat (first | exact hm | apply mwrite_wf | apply mclear_wf | apply mmove_wf)); done)
    | ((with_reducible intro _ _); try dsimp only) | (split) | (with_reducible apply State.Keeps.of_pair (by assumption)) | (dsimp only))

theorem State.enterImage_keeps {r0 s : State} (k0 : r0.Keeps s) (slot : Nat) (trial : Bool) (h body : Bytes) :
    r0.Keeps (State.enterImage s slot trial h body) := by
  unfold State.enterImage
  try dsimp only
  repeat' (first
    | (with_reducible exact k0) | (with_reducible exact .refl _) | (with_reducible apply State.withMem_keeps)
    | (with_reducible apply State.onSys_keeps) | (with_reducible apply State.noteDev_keeps) | (exact fun _ => ⟨rfl, rfl, id, fun _ => id⟩)
    | (intro hm; (repeat (first | exact hm | apply mwrite_wf | apply mclear_wf | apply mmove_wf)); done)
    | ((with_reducible intro _ _); try dsimp only) | (split) | (with_reducible apply State.Keeps.of_pair (by assumption)) | (dsimp only))

theorem State.bootStart_keeps {r0 s : State} (k0 : r0.Keeps s)  :
    r0.Keeps (State.bootStart s) := by
  unfold State.bootStart
  try dsimp only
  repeat' (first
    | (with_reducible exact k0) | (with_reducible exact .refl _) | (with_reducible apply State.onSys_keeps)
    | (with_reducible apply State.noteDev_keeps) | (exact fun _ => ⟨rfl, rfl, id, fun _ => id⟩)
    | ((with_reducible intro _ _); try dsimp only) | (split) | (with_reducible apply State.Keeps.of_pair (by assumption)) | (dsimp only))

theorem State.bootFailed_keeps {r0 s : State} (k0 : r0.Keeps s) (code : Nat) :
    r0.Keeps (State.bootFailed s code) := by
  unfold State.bootFailed
  try dsimp only
  repeat' (first
    | (with_reducible exact k0) | (with_reducible exact .refl _) | (with_reducible apply State.onSys_keeps)
    | (with_reducible apply State.noteDev_keeps) | (exact fun _ => ⟨rfl, rfl, id, fun _ => id⟩)
    | ((with_reducible intro _ _); try dsimp only) | (split) | (with_reducible apply State.Keeps.of_pair (by assumption)) | (dsimp only))

theorem execImageLoadDone_keeps {r0 s : State} (k0 : r0.Keeps s) (bad : Bool) :
    r0.KeepsNext (execImageLoadDone bad s) := by
  unfold execImageLoadDone
  try dsimp only
  repeat' (first
    | (with_reducible apply State.KeepsNext.next) | (with_reducible exact k0) | (with_reducible exact .refl _)
    | (with_reducible apply State.enterImage_keeps) | (with_reducible apply State.onSys_keeps)
    | (with_reducible apply State.bootFailed_keeps) | (exact fun _ => ⟨rfl, rfl, id, fun _ => id⟩)
    | ((with_reducible intro _ _); try dsimp only) | (split) | (with_reducible apply State.Keeps.of_pair (by assumption)) | (dsimp only))

theorem State.bootGo_keeps {r0 s : State} (k0 : r0.Keeps s) (h : Hdr) :
    r0.Keeps (State.bootGo s h) := by
  unfold State.bootGo
  try dsimp only
  repeat' (first
    | (with_reducible exact k0) | (with_reducible exact .refl _) | (with_reducible apply State.enterImage_keeps)
    | (with_reducible apply State.respondUnrecorded_keeps) | ((with_reducible intro _ _); try dsimp only) | (split)
    | (with_reducible apply State.Keeps.of_pair (by assumption)) | (dsimp only))

theorem cmdBootGo_keeps : cmdBootGo.Keeps := by
  intro h p s
  have k0 := State.Keeps.refl s
  unfold cmdBootGo
  try dsimp only [mkCmd, mkBulk]
  repeat' (first
    | (with_reducible exact k0) | (with_reducible exact .refl _) | (with_reducible exact mkCmd_keeps)
    | ((with_reducible intro _ _); try dsimp only) | (split) | (with_reducible apply State.Keeps.of_pair (by assumption)) | (dsimp only))

theorem execBootGo_keeps {r0 s : State} (k0 : r0.Keeps s) (h : Hdr) (p : Bytes) :
    r0.KeepsNext (execBootGo h p s) := by
  unfold execBootGo
  try dsimp only
  repeat' (first
    | (with_reducible apply State.KeepsNext.next) | (with_reducible exact k0) | (with_reducible exact .refl _)
    | (with_reducible apply State.bootGo_keeps) | (with_reducible apply CmdDef.exec_keeps) | (with_reducible exact cmdBootGo_keeps)
    | (with_reducible refine State.KeepsNext.of (CmdDef.exec_keeps ?_ _ _ _) (by assumption))
    | ((with_reducible intro _ _); try dsimp only) | (split) | (with_reducible apply State.Keeps.of_pair (by assumption)) | (dsimp only)
    | (with_reducible apply CmdDef.exec_keeps))

theorem execFirmwareStart_keeps {r0 s : State} (k0 : r0.Keeps s) : r0.KeepsNext (execFirmwareStart s) := by
  unfold execFirmwareStart
  split
  · exact .next k0
  · extract_lets s1 s2 s3
    have hp : r0.sys.phase ≠ .testMode := k0.notTest (by simp_all)
    have h1 : r0.Keeps s1 := State.onSys_leaves k0 _ hp (fun _ => rfl) (fun _ => rfl)
    have h2 : r0.Keeps s2 := State.onXbar_keeps (State.setPwr_keeps h1 _) _
    have h3 : r0.Keeps s3 := State.onTime_keeps (State.setFld_keeps (State.setFld_keeps h2 _ _ _ _) _ _ _ _) _
    exact .next (State.noteDev_keeps (State.startSweep_keeps h3 _ _) _)

theorem State.trainLinks_keeps {r0 s : State} (k0 : r0.Keeps s) (locked : Nat) :
    r0.Keeps (State.trainLinks s locked) := by
  unfold State.trainLinks
  try dsimp only
  repeat' (first
    | (with_reducible exact k0) | (with_reducible exact .refl _) | (with_reducible apply State.each_keeps)
    | (with_reducible apply State.setLink_keeps) | ((with_reducible intro _ _); try dsimp only) | (split)
    | (with_reducible apply State.Keeps.of_pair (by assumption)) | (dsimp only))

theorem execChainBootForward_keeps {r0 s : State} (k0 : r0.Keeps s) (locked : Nat) :
    r0.KeepsNext (execChainBootForward locked s) := by
  unfold execChainBootForward
  try dsimp only
  repeat' (first
    | (with_reducible apply State.KeepsNext.next) | (with_reducible exact k0) | (with_reducible exact .refl _)
    | (with_reducible apply State.setPwr_keeps) | (with_reducible apply State.onTime_keeps)
    | (with_reducible apply State.trainLinks_keeps) | ((with_reducible intro _ _); try dsimp only) | (split)
    | (with_reducible apply State.Keeps.of_pair (by assumption)) | (dsimp only))

theorem State.startPort_keeps {r0 s : State} (k0 : r0.Keeps s) (m : Nat) :
    r0.Keeps (State.startPort s m) := by
  unfold State.startPort
  try dsimp only
  repeat' (first
    | (with_reducible exact k0) | (with_reducible exact .refl _) | (with_reducible apply State.setFld_keeps)
    | (with_reducible apply State.portOn_keeps) | ((with_reducible intro _ _); try dsimp only) | (split)
    | (with_reducible apply State.Keeps.of_pair (by assumption)) | (dsimp only))

theorem execNetworkStart_keeps {r0 s : State} (k0 : r0.Keeps s) (locked : Nat) :
    r0.KeepsNext (execNetworkStart locked s) := by
  unfold execNetworkStart
  try dsimp only
  repeat' (first
    | (with_reducible apply State.KeepsNext.next) | (with_reducible exact k0) | (with_reducible exact .refl _)
    | (with_reducible apply State.onTime_keeps) | (with_reducible apply State.each_keeps) | (with_reducible apply State.startPort_keeps)
    | (with_reducible apply State.hashIn_keeps) | (with_reducible apply State.hashEther_keeps) | (with_reducible apply State.setFld_keeps)
    | (with_reducible apply State.trainLinks_keeps) | (with_reducible apply State.onSys_keeps)
    | (exact fun _ => ⟨rfl, rfl, id, fun _ => id⟩) | ((with_reducible intro _ _); try dsimp only) | (split)
    | (with_reducible apply State.Keeps.of_pair (by assumption)) | (dsimp only))

theorem State.stageChunk_keeps {r0 s : State} (k0 : r0.Keeps s) (h : Hdr) (off total : Nat) (d : Bytes) :
    r0.Keeps (State.stageChunk s h off total d) := by
  unfold State.stageChunk
  try dsimp only
  repeat' (first
    | (with_reducible exact k0) | (with_reducible exact .refl _) | (with_reducible apply State.newJob_keeps)
    | (with_reducible apply State.onSec_keeps) | (exact fun _ => ⟨rfl, rfl, rfl, rfl, Nat.le_refl _⟩)
    | ((with_reducible intro _ _); try dsimp only) | (split) | (with_reducible apply State.Keeps.of_pair (by assumption)) | (dsimp only))

theorem cmdFwStage_keeps : cmdFwStage.Keeps := by
  intro h p s
  have k0 := State.Keeps.refl s
  unfold cmdFwStage
  try dsimp only [mkCmd, mkBulk]
  repeat' (first
    | (with_reducible exact k0) | (with_reducible exact .refl _) | (with_reducible exact mkBulk_keeps)
    | (with_reducible apply checked_keeps) | (with_reducible apply State.stageChunk_keeps) | ((with_reducible intro _ _); try dsimp only)
    | (split) | (with_reducible apply State.Keeps.of_pair (by assumption)) | (dsimp only))

theorem State.stageCheck_keeps {r0 s : State} (k0 : r0.Keeps s) (g : Staging) :
    r0.Keeps (State.stageCheck s g) := by
  unfold State.stageCheck
  try dsimp only
  repeat' (first
    | (with_reducible exact k0) | (with_reducible exact .refl _) | (with_reducible apply State.onSec_keeps)
    | (exact fun _ => ⟨rfl, rfl, rfl, rfl, Nat.le_refl _⟩) | ((with_reducible intro _ _); try dsimp only) | (split)
    | (with_reducible apply State.Keeps.of_pair (by assumption)) | (dsimp only))

theorem State.stageCount_keeps {r0 s : State} (k0 : r0.Keeps s) (c : StageChunk) :
    r0.Keeps (State.stageCount s c) := by
  unfold State.stageCount
  try dsimp only
  repeat' (first
    | (with_reducible exact k0) | (with_reducible exact .refl _) | (with_reducible apply State.onSec_keeps)
    | (with_reducible apply State.stageCheck_keeps) | (exact fun _ => ⟨rfl, rfl, rfl, rfl, Nat.le_refl _⟩)
    | ((with_reducible intro _ _); try dsimp only) | (split) | (with_reducible apply State.Keeps.of_pair (by assumption)) | (dsimp only))

theorem execFlashProgramDone_keeps {r0 s : State} (k0 : r0.Keeps s)  :
    r0.KeepsNext (execFlashProgramDone s) := by
  unfold execFlashProgramDone
  try dsimp only
  repeat' (first
    | (with_reducible apply State.KeepsNext.next) | (with_reducible exact k0) | (with_reducible exact .refl _)
    | (with_reducible apply State.withFlash_keeps) | (with_reducible apply State.onSec_keeps)
    | (with_reducible apply State.stageCount_keeps) | (with_reducible apply State.pieceDone?_keeps)
    | (exact fun _ => ⟨rfl, rfl, rfl, rfl, Nat.le_refl _⟩)
    | (intro hm; (repeat (first | exact hm | apply mwrite_wf | apply mclear_wf | apply mmove_wf)); done)
    | ((with_reducible intro _ _); try dsimp only) | (split) | (with_reducible apply State.Keeps.of_pair (by assumption)) | (dsimp only))

theorem cmdFwCommit_keeps : cmdFwCommit.Keeps := by
  intro h p s
  have k0 := State.Keeps.refl s
  unfold cmdFwCommit
  try dsimp only [mkCmd, mkBulk]
  repeat' (first
    | (with_reducible exact k0) | (with_reducible exact .refl _) | (with_reducible exact mkCmd_keeps)
    | (with_reducible apply State.writeBootRec_keeps) | (with_reducible apply State.onSec_keeps)
    | (exact fun _ => ⟨rfl, rfl, rfl, rfl, Nat.le_refl _⟩) | ((with_reducible intro _ _); try dsimp only) | (split)
    | (with_reducible apply State.Keeps.of_pair (by assumption)) | (dsimp only))

theorem cmdFwStatus_keeps : cmdFwStatus.Keeps := by
  intro h p s
  have k0 := State.Keeps.refl s
  unfold cmdFwStatus
  try dsimp only [mkCmd, mkBulk]
  repeat' (first
    | (with_reducible exact k0) | (with_reducible exact .refl _) | (with_reducible exact mkCmd_keeps)
    | ((with_reducible intro _ _); try dsimp only) | (split) | (with_reducible apply State.Keeps.of_pair (by assumption)) | (dsimp only))

theorem cmdDebugChallenge_keeps : cmdDebugChallenge.Keeps := by
  intro h p s
  have k0 := State.Keeps.refl s
  unfold cmdDebugChallenge
  try dsimp only [mkCmd, mkBulk]
  repeat' (first
    | (with_reducible exact k0) | (with_reducible exact .refl _) | (with_reducible exact mkCmd_keeps)
    | (with_reducible apply State.onSec_keeps) | (with_reducible apply State.fresh_keeps)
    | (exact fun _ => ⟨rfl, rfl, rfl, rfl, Nat.le_refl _⟩) | ((with_reducible intro _ _); try dsimp only) | (split)
    | (with_reducible apply State.Keeps.of_pair (by assumption)) | (dsimp only))

theorem cmdDebugUnlock_keeps : cmdDebugUnlock.Keeps := by
  intro h p s
  have k0 := State.Keeps.refl s
  unfold cmdDebugUnlock
  try dsimp only [mkCmd, mkBulk]
  repeat' (first
    | (with_reducible exact k0) | (with_reducible exact .refl _) | (with_reducible exact mkCmd_keeps)
    | (with_reducible apply State.onSec_keeps) | (with_reducible apply State.noteDev_keeps)
    | (exact fun _ => ⟨rfl, rfl, rfl, rfl, Nat.le_refl _⟩) | ((with_reducible intro _ _); try dsimp only) | (split)
    | (with_reducible apply State.Keeps.of_pair (by assumption)) | (dsimp only))

theorem cmdSysInfo_keeps : cmdSysInfo.Keeps := by
  intro h p s
  have k0 := State.Keeps.refl s
  unfold cmdSysInfo
  try dsimp only [mkCmd, mkBulk]
  repeat' (first
    | (with_reducible exact k0) | (with_reducible exact .refl _) | (with_reducible exact mkCmd_keeps)
    | ((with_reducible intro _ _); try dsimp only) | (split) | (with_reducible apply State.Keeps.of_pair (by assumption)) | (dsimp only))

theorem execSysInfo_keeps {r0 s : State} (k0 : r0.Keeps s) (h : Hdr) (p : Bytes) :
    r0.KeepsNext (execSysInfo h p s) := by
  unfold execSysInfo
  try dsimp only
  repeat' (first
    | (with_reducible apply State.KeepsNext.next) | (with_reducible exact k0) | (with_reducible exact .refl _)
    | (with_reducible apply CmdDef.exec_keeps) | (with_reducible exact cmdSysInfo_keeps)
    | (with_reducible refine State.KeepsNext.of (CmdDef.exec_keeps ?_ _ _ _) (by assumption))
    | ((with_reducible intro _ _); try dsimp only) | (split) | (with_reducible apply State.Keeps.of_pair (by assumption)) | (dsimp only)
    | (with_reducible apply CmdDef.exec_keeps))

theorem execFwStage_keeps {r0 s : State} (k0 : r0.Keeps s) (h : Hdr) (p : Bytes) :
    r0.KeepsNext (execFwStage h p s) := by
  unfold execFwStage
  try dsimp only
  repeat' (first
    | (with_reducible apply State.KeepsNext.next) | (with_reducible exact k0) | (with_reducible exact .refl _)
    | (with_reducible apply CmdDef.exec_keeps) | (with_reducible exact cmdFwStage_keeps)
    | (with_reducible refine State.KeepsNext.of (CmdDef.exec_keeps ?_ _ _ _) (by assumption))
    | ((with_reducible intro _ _); try dsimp only) | (split) | (with_reducible apply State.Keeps.of_pair (by assumption)) | (dsimp only)
    | (with_reducible apply CmdDef.exec_keeps))

theorem execFwCommit_keeps {r0 s : State} (k0 : r0.Keeps s) (h : Hdr) (p : Bytes) :
    r0.KeepsNext (execFwCommit h p s) := by
  unfold execFwCommit
  try dsimp only
  repeat' (first
    | (with_reducible apply State.KeepsNext.next) | (with_reducible exact k0) | (with_reducible exact .refl _)
    | (with_reducible apply CmdDef.exec_keeps) | (with_reducible exact cmdFwCommit_keeps)
    | (with_reducible refine State.KeepsNext.of (CmdDef.exec_keeps ?_ _ _ _) (by assumption))
    | ((with_reducible intro _ _); try dsimp only) | (split) | (with_reducible apply State.Keeps.of_pair (by assumption)) | (dsimp only)
    | (with_reducible apply CmdDef.exec_keeps))

theorem execFwStatus_keeps {r0 s : State} (k0 : r0.Keeps s) (h : Hdr) (p : Bytes) :
    r0.KeepsNext (execFwStatus h p s) := by
  unfold execFwStatus
  try dsimp only
  repeat' (first
    | (with_reducible apply State.KeepsNext.next) | (with_reducible exact k0) | (with_reducible exact .refl _)
    | (with_reducible apply CmdDef.exec_keeps) | (with_reducible exact cmdFwStatus_keeps)
    | (with_reducible refine State.KeepsNext.of (CmdDef.exec_keeps ?_ _ _ _) (by assumption))
    | ((with_reducible intro _ _); try dsimp only) | (split) | (with_reducible apply State.Keeps.of_pair (by assumption)) | (dsimp only)
    | (with_reducible apply CmdDef.exec_keeps))

theorem execDebugChallenge_keeps {r0 s : State} (k0 : r0.Keeps s) (h : Hdr) (p : Bytes) :
    r0.KeepsNext (execDebugChallenge h p s) := by
  unfold execDebugChallenge
  try dsimp only
  repeat' (first
    | (with_reducible apply State.KeepsNext.next) | (with_reducible exact k0) | (with_reducible exact .refl _)
    | (with_reducible apply CmdDef.exec_keeps) | (with_reducible exact cmdDebugChallenge_keeps)
    | (with_reducible refine State.KeepsNext.of (CmdDef.exec_keeps ?_ _ _ _) (by assumption))
    | ((with_reducible intro _ _); try dsimp only) | (split) | (with_reducible apply State.Keeps.of_pair (by assumption)) | (dsimp only)
    | (with_reducible apply CmdDef.exec_keeps))

theorem execDebugUnlock_keeps {r0 s : State} (k0 : r0.Keeps s) (h : Hdr) (p : Bytes) :
    r0.KeepsNext (execDebugUnlock h p s) := by
  unfold execDebugUnlock
  try dsimp only
  repeat' (first
    | (with_reducible apply State.KeepsNext.next) | (with_reducible exact k0) | (with_reducible exact .refl _)
    | (with_reducible apply CmdDef.exec_keeps) | (with_reducible exact cmdDebugUnlock_keeps)
    | (with_reducible refine State.KeepsNext.of (CmdDef.exec_keeps ?_ _ _ _) (by assumption))
    | ((with_reducible intro _ _); try dsimp only) | (split) | (with_reducible apply State.Keeps.of_pair (by assumption)) | (dsimp only)
    | (with_reducible apply CmdDef.exec_keeps))

/-! ### Machine/SchedRows.lean -/

theorem State.fillEntry_keeps {r0 s : State} (k0 : r0.Keeps s) (t : FTask) (e : Nat × (Nat × Nat × Nat)) :
    r0.Keeps (State.fillEntry s t e) := by
  unfold State.fillEntry
  try dsimp only
  repeat' (first
    | (with_reducible exact k0) | (with_reducible exact .refl _) | (with_reducible apply State.withMem_keeps)
    | (intro hm; (repeat (first | exact hm | apply mwrite_wf | apply mclear_wf | apply mmove_wf)); done)
    | ((with_reducible intro _ _); try dsimp only) | (split) | (with_reducible apply State.Keeps.of_pair (by assumption)) | (dsimp only))

theorem State.releaseTask_keeps {r0 s : State} (k0 : r0.Keeps s) (e : Nat × FTask) :
    r0.Keeps (State.releaseTask s e) := by
  unfold State.releaseTask
  try dsimp only
  repeat' (first
    | (with_reducible exact k0) | (with_reducible exact .refl _) | (with_reducible apply State.each_keeps)
    | (with_reducible apply State.fillEntry_keeps) | (with_reducible apply State.setTask_keeps)
    | (with_reducible apply State.makeReady_keeps) | ((with_reducible intro _ _); try dsimp only) | (split)
    | (with_reducible apply State.Keeps.of_pair (by assumption)) | (dsimp only))

theorem execRtRelease_keeps {r0 s : State} (k0 : r0.Keeps s)  :
    r0.KeepsNext (execRtRelease s) := by
  unfold execRtRelease
  try dsimp only
  repeat' (first
    | (with_reducible apply State.KeepsNext.next) | (with_reducible exact k0) | (with_reducible exact .refl _)
    | (with_reducible apply State.each_keeps) | (with_reducible apply State.releaseTask_keeps)
    | (with_reducible apply State.onSched_keeps) | ((with_reducible intro _ _); try dsimp only) | (split)
    | (with_reducible apply State.Keeps.of_pair (by assumption)) | (dsimp only))

theorem State.cutTask_keeps {r0 s : State} (k0 : r0.Keeps s) (e : Nat × FTask) :
    r0.Keeps (State.cutTask s e) := by
  unfold State.cutTask
  try dsimp only
  repeat' (first
    | (with_reducible exact k0) | (with_reducible exact .refl _) | (with_reducible apply State.noteUsed_keeps)
    | (with_reducible apply State.terminateItem_keeps) | (with_reducible apply State.missDeadline_keeps)
    | (with_reducible apply State.setTask_keeps) | (with_reducible apply State.each_keeps)
    | (with_reducible apply State.collectEntry_keeps) | ((with_reducible intro _ _); try dsimp only) | (split)
    | (with_reducible apply State.Keeps.of_pair (by assumption)) | (dsimp only))

theorem execCutOff_keeps {r0 s : State} (k0 : r0.Keeps s)  :
    r0.KeepsNext (execCutOff s) := by
  unfold execCutOff
  try dsimp only
  repeat' (first
    | (with_reducible apply State.KeepsNext.next) | (with_reducible exact k0) | (with_reducible exact .refl _)
    | (with_reducible apply State.each_keeps) | (with_reducible apply State.cutTask_keeps) | (with_reducible apply State.onSched_keeps)
    | ((with_reducible intro _ _); try dsimp only) | (split) | (with_reducible apply State.Keeps.of_pair (by assumption)) | (dsimp only))

theorem execFacetOverrun_keeps {r0 s : State} (k0 : r0.Keeps s) (core : Nat) :
    r0.KeepsNext (execFacetOverrun core s) := by
  unfold execFacetOverrun
  try dsimp only
  repeat' (first
    | (with_reducible apply State.KeepsNext.next) | (with_reducible exact k0) | (with_reducible exact .refl _)
    | (with_reducible apply State.facetOverrun_keeps) | ((with_reducible intro _ _); try dsimp only) | (split)
    | (with_reducible apply State.Keeps.of_pair (by assumption)) | (dsimp only))

theorem execTaskDispatch_keeps {r0 s : State} (k0 : r0.Keeps s) (lat : Nat) :
    r0.KeepsNext (execTaskDispatch lat s) := by
  unfold execTaskDispatch
  try dsimp only
  repeat' (first
    | (with_reducible apply State.KeepsNext.next) | (with_reducible exact k0) | (with_reducible exact .refl _)
    | (with_reducible apply State.dispatchNext_keeps) | ((with_reducible intro _ _); try dsimp only) | (split)
    | (with_reducible apply State.Keeps.of_pair (by assumption)) | (dsimp only))

theorem State.resumeLimit_keeps {r0 s : State} (k0 : r0.Keeps s) (n : Nat) :
    r0.Keeps (State.resumeLimit s n) := by
  unfold State.resumeLimit
  try dsimp only
  repeat' (first
    | (with_reducible exact k0) | (with_reducible exact .refl _) | (with_reducible apply State.facetOverrun_keeps)
    | ((with_reducible intro _ _); try dsimp only) | (split) | (with_reducible apply State.Keeps.of_pair (by assumption)) | (dsimp only))

theorem execResumeI_keeps {r0 s : State} (k0 : r0.Keeps s) (core : Nat) :
    r0.KeepsNext (execResumeI core s) := by
  unfold execResumeI
  try dsimp only
  repeat' (first
    | (with_reducible apply State.KeepsNext.next) | (with_reducible exact k0) | (with_reducible exact .refl _)
    | (with_reducible apply State.resumeCore_keeps) | (with_reducible apply State.resumeLimit_keeps)
    | ((with_reducible intro _ _); try dsimp only) | (split) | (with_reducible apply State.Keeps.of_pair (by assumption)) | (dsimp only))

theorem execTimerExpiry_keeps {r0 s : State} (k0 : r0.Keeps s) (list : Nat) :
    r0.KeepsNext (execTimerExpiry list s) := by
  unfold execTimerExpiry
  try dsimp only
  repeat' (first
    | (with_reducible apply State.KeepsNext.next) | (with_reducible exact k0) | (with_reducible exact .refl _)
    | (with_reducible apply State.listTickEdge_keeps) | (with_reducible apply State.refillOlder_keeps)
    | ((with_reducible intro _ _); try dsimp only) | (split) | (with_reducible apply State.Keeps.of_pair (by assumption)) | (dsimp only))

theorem execEventItem_keeps {r0 s : State} (k0 : r0.Keeps s) (task : Option Nat) (level : Nat) (flow : Option Nat) (arg : Bytes) :
    r0.KeepsNext (execEventItem task level flow arg s) := by
  unfold execEventItem
  try dsimp only
  repeat' (first
    | (with_reducible apply State.KeepsNext.next) | (with_reducible exact k0) | (with_reducible exact .refl _)
    | (with_reducible apply State.newEvent_keeps) | ((with_reducible intro _ _); try dsimp only) | (split)
    | (with_reducible apply State.Keeps.of_pair (by assumption)) | (dsimp only))

theorem execFirmwareItemComplete_keeps {r0 s : State} (k0 : r0.Keeps s)  :
    r0.KeepsNext (execFirmwareItemComplete s) := by
  unfold execFirmwareItemComplete
  try dsimp only
  repeat' (first
    | (with_reducible apply State.KeepsNext.next) | (with_reducible exact k0) | (with_reducible exact .refl _)
    | (with_reducible apply State.completeItem_keeps) | ((with_reducible intro _ _); try dsimp only) | (split)
    | (with_reducible apply State.Keeps.of_pair (by assumption)) | (dsimp only))

theorem State.latchObs_keeps {r0 s : State} (k0 : r0.Keeps s) (n : Nat) :
    r0.Keeps (State.latchObs s n) := by
  unfold State.latchObs
  try dsimp only
  repeat' (first
    | (with_reducible exact k0) | (with_reducible exact .refl _) | (with_reducible apply State.wr_keeps)
    | (with_reducible apply State.fresh_keeps) | ((with_reducible intro _ _); try dsimp only) | (split)
    | (with_reducible apply State.Keeps.of_pair (by assumption)) | (dsimp only))

theorem execObsWindowEnd_keeps {r0 s : State} (k0 : r0.Keeps s)  :
    r0.KeepsNext (execObsWindowEnd s) := by
  unfold execObsWindowEnd
  try dsimp only
  repeat' (first
    | (with_reducible apply State.KeepsNext.next) | (with_reducible exact k0) | (with_reducible exact .refl _)
    | (with_reducible apply State.obsTouch_keeps) | (with_reducible apply State.each_keeps) | (with_reducible apply State.latchObs_keeps)
    | (with_reducible apply State.onSched_keeps) | (with_reducible apply foldl_keeps) | (with_reducible apply foldlState_keeps)
    | ((with_reducible intro _ _); try dsimp only) | (split) | (with_reducible apply State.Keeps.of_pair (by assumption)) | (dsimp only))

/-! ### Machine/Render.lean -/

theorem State.pushMap_keeps {r0 s : State} (k0 : r0.Keeps s)  :
    r0.Keeps (State.pushMap s) := by
  unfold State.pushMap
  try dsimp only
  repeat' (first
    | (with_reducible exact k0) | (with_reducible exact .refl _) | (with_reducible apply State.onScene_keeps)
    | (with_reducible apply State.onPipe_keeps) | (with_reducible apply foldl_keeps) | (with_reducible apply foldlState_keeps)
    | ((with_reducible intro _ _); try dsimp only) | (split) | (with_reducible apply State.Keeps.of_pair (by assumption)) | (dsimp only))

theorem State.burstFails_keeps {r0 s : State} (k0 : r0.Keeps s) (q : Int) (e : Nat × Nat) :
    r0.Keeps (State.burstFails s q e) := by
  unfold State.burstFails
  try dsimp only
  repeat' (first
    | (with_reducible exact k0) | (with_reducible exact .refl _) | (with_reducible apply State.burstBad_keeps)
    | (with_reducible apply State.eccOutcome_keeps) | ((with_reducible intro _ _); try dsimp only) | (split)
    | (with_reducible apply State.Keeps.of_pair (by assumption)) | (dsimp only))

theorem State.alignSample_keeps {r0 s : State} (k0 : r0.Keeps s) (late : List Nat) (j : Nat) (i : Int) (k : Nat) (x : Int) :
    r0.Keeps (State.alignSample s late j i k x).1 := by
  unfold State.alignSample
  try dsimp only
  repeat' (first
    | (with_reducible exact k0) | (with_reducible exact .refl _) | (with_reducible apply State.withMem_keeps)
    | (intro hm; (repeat (first | exact hm | apply mwrite_wf | apply mclear_wf | apply mmove_wf)); done)
    | ((with_reducible intro _ _); try dsimp only) | (split) | (with_reducible apply State.Keeps.of_pair (by assumption)) | (dsimp only))

theorem State.alignDone_keeps {r0 s : State} (k0 : r0.Keeps s) (j : Nat) (q : Nat) :
    r0.Keeps (State.alignDone s j q) := by
  unfold State.alignDone
  try dsimp only
  repeat' (first
    | (with_reducible exact k0) | (with_reducible exact .refl _) | (with_reducible apply State.setObj_keeps)
    | (with_reducible apply State.pieceDone?_keeps) | ((with_reducible intro _ _); try dsimp only) | (split)
    | (with_reducible apply State.Keeps.of_pair (by assumption)) | (dsimp only))

theorem State.alignMove_keeps {r0 s : State} (k0 : r0.Keeps s) (j : Nat) :
    r0.Keeps (State.alignMove s j) := by
  unfold State.alignMove
  try dsimp only
  repeat' (first
    | (with_reducible exact k0) | (with_reducible exact .refl _) | (with_reducible apply State.setObj_keeps)
    | (with_reducible apply State.tidyLine_keeps) | (with_reducible apply State.withMem_keeps)
    | (intro hm; (repeat (first | exact hm | apply mwrite_wf | apply mclear_wf | apply mmove_wf)); done)
    | ((with_reducible intro _ _); try dsimp only) | (split) | (with_reducible apply State.Keeps.of_pair (by assumption)) | (dsimp only))

theorem State.alignHeld_keeps {r0 s : State} (k0 : r0.Keeps s) (j : Nat) :
    r0.Keeps (State.alignHeld s j) := by
  unfold State.alignHeld
  try dsimp only
  repeat' (first
    | (with_reducible exact k0) | (with_reducible exact .refl _) | (with_reducible apply State.setObj_keeps)
    | (with_reducible apply State.tidyLine_keeps) | (with_reducible refine State.relocateLine_keeps ?_ _ (by assumption))
    | (with_reducible apply getD_keeps) | ((with_reducible intro _ _); try dsimp only) | (split)
    | (with_reducible apply State.Keeps.of_pair (by assumption)) | (dsimp only))

theorem State.alignStep_keeps {r0 s : State} (k0 : r0.Keeps s) (q j : Nat) :
    r0.Keeps (State.alignStep s q j) := by
  unfold State.alignStep
  try dsimp only
  repeat' (first
    | (with_reducible exact k0) | (with_reducible exact .refl _) | (with_reducible apply State.alignMove_keeps)
    | (with_reducible apply State.alignDone_keeps) | (with_reducible apply State.alignHeld_keeps)
    | (with_reducible apply State.setObj_keeps) | ((with_reducible intro _ _); try dsimp only) | (split)
    | (with_reducible apply State.Keeps.of_pair (by assumption)) | (dsimp only))

theorem State.windowObj_keeps {r0 s : State} (k0 : r0.Keeps s) (late : List Nat) (m : QMap) (raw facet : Tbl Int) (q : Int) (ks : List Nat) (j : Nat) :
    r0.Keeps (State.windowObj s late m raw facet q ks j) := by
  unfold State.windowObj
  try dsimp only
  repeat' (first
    | (with_reducible exact k0) | (with_reducible exact .refl _) | (with_reducible apply State.each_keeps)
    | (with_reducible apply State.alignSample_keeps) | (with_reducible apply State.withMem_keeps)
    | (intro hm; (repeat (first | exact hm | apply mwrite_wf | apply mclear_wf | apply mmove_wf)); done)
    | ((with_reducible intro _ _); try dsimp only) | (split) | (with_reducible apply State.Keeps.of_pair (by assumption)) | (dsimp only))

theorem State.windows_keeps {r0 s : State} (k0 : r0.Keeps s) (late : List Nat) (m : QMap) (raw facet : Tbl Int) (q : Int) (ks : List Nat) :
    r0.Keeps (State.windows s late m raw facet q ks) := by
  unfold State.windows
  try dsimp only
  repeat' (first
    | (with_reducible exact k0) | (with_reducible exact .refl _) | (with_reducible apply State.each_keeps)
    | (with_reducible apply State.windowObj_keeps) | ((with_reducible intro _ _); try dsimp only) | (split)
    | (with_reducible apply State.Keeps.of_pair (by assumption)) | (dsimp only))

theorem State.markAbsent_keeps {r0 s : State} (k0 : r0.Keeps s) (m : QMap) (here : List Nat) :
    r0.Keeps (State.markAbsent s m here) := by
  unfold State.markAbsent
  try dsimp only
  repeat' (first
    | (with_reducible exact k0) | (with_reducible exact .refl _) | (with_reducible apply State.each_keeps)
    | (with_reducible apply State.setObj_keeps) | ((with_reducible intro _ _); try dsimp only) | (split)
    | (with_reducible apply State.Keeps.of_pair (by assumption)) | (dsimp only))

theorem State.bulkCounts_keeps {r0 s : State} (k0 : r0.Keeps s) (late : List Nat) :
    r0.Keeps (State.bulkCounts s late) := by
  unfold State.bulkCounts
  try dsimp only
  repeat' (first
    | (with_reducible exact k0) | (with_reducible exact .refl _) | (with_reducible apply State.bump_keeps)
    | (with_reducible apply State.perfAdd_keeps) | (with_reducible apply State.raise_keeps) | ((with_reducible intro _ _); try dsimp only)
    | (split) | (with_reducible apply State.Keeps.of_pair (by assumption)) | (dsimp only))

theorem State.prismQuantum_keeps {r0 s : State} (k0 : r0.Keeps s) (q : Int) :
    r0.Keeps (State.prismQuantum s q).1 := by
  unfold State.prismQuantum
  try dsimp only
  repeat' (first
    | (with_reducible exact k0) | (with_reducible exact .refl _) | (with_reducible apply State.onPrism_keeps)
    | (with_reducible apply State.bump_keeps) | (with_reducible apply State.perfAdd_keeps) | (with_reducible apply foldl_keeps)
    | (with_reducible apply foldlState_keeps) | ((with_reducible intro _ _); try dsimp only) | (split)
    | (with_reducible apply State.Keeps.of_pair (by assumption)) | (dsimp only))

theorem State.laneCounts_keeps {r0 s : State} (k0 : r0.Keeps s) (waits : List Nat) :
    r0.Keeps (State.laneCounts s waits) := by
  unfold State.laneCounts
  try dsimp only
  repeat' (first
    | (with_reducible exact k0) | (with_reducible exact .refl _) | (with_reducible apply State.onPrism_keeps)
    | (with_reducible apply State.bump_keeps) | (with_reducible apply State.perfAdd_keeps) | (with_reducible apply foldl_keeps)
    | (with_reducible apply foldlState_keeps) | ((with_reducible intro _ _); try dsimp only) | (split)
    | (with_reducible apply State.Keeps.of_pair (by assumption)) | (dsimp only))

theorem State.lensAll_keeps {r0 s : State} (k0 : r0.Keeps s) (q : Int) (input : Nat → List Nat) :
    r0.Keeps (State.lensAll s q input).1 := by
  unfold State.lensAll
  try dsimp only
  repeat' (first
    | (with_reducible exact k0) | (with_reducible exact .refl _) | (with_reducible apply State.lensQuantum_keeps)
    | (with_reducible apply foldl_keeps) | (with_reducible apply foldlState_keeps) | ((with_reducible intro _ _); try dsimp only)
    | (split) | (with_reducible apply State.Keeps.of_pair (by assumption)) | (dsimp only))

theorem State.renderQuantum_keeps {r0 s : State} (k0 : r0.Keeps s) (q : Int) (waits : List Nat) :
    r0.Keeps (State.renderQuantum s q waits) := by
  unfold State.renderQuantum
  try dsimp only
  repeat' (first
    | (with_reducible exact k0) | (with_reducible exact .refl _) | (with_reducible apply State.laneCounts_keeps)
    | (with_reducible apply State.prismQuantum_keeps) | (with_reducible apply State.lensAll_keeps)
    | (with_reducible apply State.onPipe_keeps) | ((with_reducible intro _ _); try dsimp only) | (split)
    | (with_reducible apply State.Keeps.of_pair (by assumption)) | (dsimp only))

theorem State.measureQuantum_keeps {r0 s : State} (k0 : r0.Keeps s) (n : Nat) (q : Int) :
    r0.Keeps (State.measureQuantum s n q) := by
  unfold State.measureQuantum
  try dsimp only
  repeat' (first
    | (with_reducible exact k0) | (with_reducible exact .refl _) | (with_reducible apply State.genQuantum_keeps)
    | (with_reducible apply State.lensAll_keeps) | (with_reducible apply State.onPipe_keeps)
    | ((with_reducible intro _ _); try dsimp only) | (split) | (with_reducible apply State.Keeps.of_pair (by assumption)) | (dsimp only))

/-! ### Machine/FacetCmd.lean -/

theorem cmdFacetTaskLoad_keeps : cmdFacetTaskLoad.Keeps := by
  intro h p s
  have k0 := State.Keeps.refl s
  unfold cmdFacetTaskLoad
  try dsimp only [mkCmd, mkBulk]
  repeat' (first
    | (with_reducible exact k0) | (with_reducible exact .refl _) | (with_reducible exact mkBulk_keeps)
    | (with_reducible apply checked_keeps) | (with_reducible apply State.setTask_keeps) | ((with_reducible intro _ _); try dsimp only)
    | (split) | (with_reducible apply State.Keeps.of_pair (by assumption)) | (dsimp only))

theorem cmdFacetTaskSet_keeps : cmdFacetTaskSet.Keeps := by
  intro h p s
  have k0 := State.Keeps.refl s
  unfold cmdFacetTaskSet
  try dsimp only [mkCmd, mkBulk]
  repeat' (first
    | (with_reducible exact k0) | (with_reducible exact .refl _) | (with_reducible exact mkCmd_keeps)
    | (with_reducible apply checked_keeps) | (with_reducible apply State.setTask_keeps) | ((with_reducible intro _ _); try dsimp only)
    | (split) | (with_reducible apply State.Keeps.of_pair (by assumption)) | (dsimp only))

theorem cmdFacetChanSet_keeps : cmdFacetChanSet.Keeps := by
  intro h p s
  have k0 := State.Keeps.refl s
  unfold cmdFacetChanSet
  try dsimp only [mkCmd, mkBulk]
  repeat' (first
    | (with_reducible exact k0) | (with_reducible exact .refl _) | (with_reducible exact mkCmd_keeps)
    | (with_reducible apply checkedEntries_keeps) | (with_reducible apply State.setTask_keeps) | (with_reducible apply checked_keeps)
    | (with_reducible apply foldl_keeps) | (with_reducible apply foldlState_keeps) | ((with_reducible intro _ _); try dsimp only)
    | (split) | (with_reducible apply State.Keeps.of_pair (by assumption)) | (dsimp only))

theorem State.reserve_keeps {r0 s : State} (k0 : r0.Keeps s) (t : Nat) (k : FTask) :
    r0.Keeps (State.reserve s t k) := by
  unfold State.reserve
  try dsimp only
  repeat' (first
    | (with_reducible exact k0) | (with_reducible exact .refl _) | (with_reducible apply State.setItem_keeps)
    | (with_reducible apply State.setTask_keeps) | ((with_reducible intro _ _); try dsimp only) | (split)
    | (with_reducible apply State.Keeps.of_pair (by assumption)) | (dsimp only))

theorem State.admitRefused_keeps {r0 s : State} (k0 : r0.Keeps s)  :
    r0.Keeps (State.admitRefused s).1 := by
  unfold State.admitRefused
  try dsimp only
  repeat' (first
    | (with_reducible exact k0) | (with_reducible exact .refl _) | (with_reducible apply State.bump_keeps)
    | ((with_reducible intro _ _); try dsimp only) | (split) | (with_reducible apply State.Keeps.of_pair (by assumption)) | (dsimp only))

theorem State.enableTask_keeps {r0 s : State} (k0 : r0.Keeps s) (t : Nat) :
    r0.Keeps (State.enableTask s t).1 := by
  unfold State.enableTask
  try dsimp only
  repeat' (first
    | (with_reducible exact k0) | (with_reducible exact .refl _) | (with_reducible apply State.admitRefused_keeps)
    | (with_reducible apply State.reserve_keeps) | ((with_reducible intro _ _); try dsimp only) | (split)
    | (with_reducible apply State.Keeps.of_pair (by assumption)) | (dsimp only))

theorem State.enableAgain_keeps {r0 s : State} (k0 : r0.Keeps s) (t : Nat) :
    r0.Keeps (State.enableAgain s t).1 := by
  unfold State.enableAgain
  try dsimp only
  repeat' (first
    | (with_reducible exact k0) | (with_reducible exact .refl _) | (with_reducible apply State.disableTask_keeps)
    | (with_reducible apply State.enableTask_keeps) | (with_reducible apply State.setTask_keeps)
    | ((with_reducible intro _ _); try dsimp only) | (split) | (with_reducible apply State.Keeps.of_pair (by assumption)) | (dsimp only))

theorem cmdFacetTaskEnable_keeps : cmdFacetTaskEnable.Keeps := by
  intro h p s
  have k0 := State.Keeps.refl s
  unfold cmdFacetTaskEnable
  try dsimp only [mkCmd, mkBulk]
  repeat' (first
    | (with_reducible exact k0) | (with_reducible exact .refl _) | (with_reducible exact mkCmd_keeps)
    | (with_reducible apply checked_keeps) | (with_reducible apply State.enableAgain_keeps)
    | (with_reducible apply State.enableTask_keeps) | (with_reducible apply State.setTask_keeps)
    | ((with_reducible intro _ _); try dsimp only) | (split) | (with_reducible apply State.Keeps.of_pair (by assumption)) | (dsimp only))

theorem State.initRegions_keeps {r0 s : State} (k0 : r0.Keeps s) (k : FTask) :
    r0.Keeps (State.initRegions s k) := by
  unfold State.initRegions
  try dsimp only
  repeat' (first
    | (with_reducible exact k0) | (with_reducible exact .refl _) | (with_reducible apply State.withMem_keeps)
    | (intro hm; (repeat (first | exact hm | apply mwrite_wf | apply mclear_wf | apply mmove_wf)); done)
    | ((with_reducible intro _ _); try dsimp only) | (split) | (with_reducible apply State.Keeps.of_pair (by assumption)) | (dsimp only))

theorem State.taskBoundary_keeps {r0 s : State} (k0 : r0.Keeps s)  :
    r0.Keeps (State.taskBoundary s) := by
  unfold State.taskBoundary
  try dsimp only
  repeat' (first
    | (with_reducible exact k0) | (with_reducible exact .refl _) | (with_reducible apply State.each_keeps)
    | (with_reducible apply State.setTask_keeps) | (with_reducible apply State.disableTask_keeps)
    | (with_reducible apply State.reserve_keeps) | (with_reducible apply State.initRegions_keeps)
    | ((with_reducible intro _ _); try dsimp only) | (split) | (with_reducible apply State.Keeps.of_pair (by assumption)) | (dsimp only))

theorem cmdFacetStageSet_keeps : cmdFacetStageSet.Keeps := by
  intro h p s
  have k0 := State.Keeps.refl s
  unfold cmdFacetStageSet
  try dsimp only [mkCmd, mkBulk]
  repeat' (first
    | (with_reducible exact k0) | (with_reducible exact .refl _) | (with_reducible exact mkCmd_keeps)
    | (with_reducible apply checked_keeps) | (with_reducible apply State.onTime_keeps) | ((with_reducible intro _ _); try dsimp only)
    | (split) | (with_reducible apply State.Keeps.of_pair (by assumption)) | (dsimp only))

theorem cmdFacetStatusGet_keeps : cmdFacetStatusGet.Keeps := by
  intro h p s
  have k0 := State.Keeps.refl s
  unfold cmdFacetStatusGet
  try dsimp only [mkCmd, mkBulk]
  repeat' (first
    | (with_reducible exact k0) | (with_reducible exact .refl _) | (with_reducible exact mkCmd_keeps)
    | (with_reducible apply checked_keeps) | ((with_reducible intro _ _); try dsimp only) | (split)
    | (with_reducible apply State.Keeps.of_pair (by assumption)) | (dsimp only))

theorem cmdFacetTaskUnload_keeps : cmdFacetTaskUnload.Keeps := by
  intro h p s
  have k0 := State.Keeps.refl s
  unfold cmdFacetTaskUnload
  try dsimp only [mkCmd, mkBulk]
  repeat' (first
    | (with_reducible exact k0) | (with_reducible exact .refl _) | (with_reducible exact mkCmd_keeps)
    | (with_reducible apply checked_keeps) | (with_reducible apply State.setTask_keeps) | ((with_reducible intro _ _); try dsimp only)
    | (split) | (with_reducible apply State.Keeps.of_pair (by assumption)) | (dsimp only))

theorem State.placeSpill_keeps {r0 s : State} (k0 : r0.Keeps s)  {t1 : State} (h1 : (State.placeSpill s) = some t1) :
    r0.Keeps t1 := by
  unfold State.placeSpill at h1
  try dsimp only at h1
  repeat' (first
    | (cases h1; done) | (injection h1 with h1; subst h1) | (split at h1)
    | (obtain ⟨e1, h2, h3⟩ := Option.map_eq_some_iff.1 h1; clear h1; subst h3; try dsimp only))
  all_goals repeat' (first
    | (with_reducible exact k0) | (with_reducible exact .refl _) | (with_reducible apply State.onSched_keeps)
    | (with_reducible apply State.wr_keeps) | (with_reducible refine State.place_keeps ?_ _ _ _ (by assumption))
    | (with_reducible refine State.place_keeps' ?_ _ _ _ (by assumption)) | ((with_reducible intro _ _); try dsimp only) | (split)
    | (with_reducible apply State.Keeps.of_pair (by assumption)) | (dsimp only))

theorem State.schedCfg_keeps {r0 s : State} (k0 : r0.Keeps s) (p : Bytes) :
    r0.Keeps (State.schedCfg s p) := by
  unfold State.schedCfg
  try dsimp only
  repeat' (first
    | (with_reducible exact k0) | (with_reducible exact .refl _) | (with_reducible apply State.wr_keeps)
    | (with_reducible apply State.each_keeps) | ((with_reducible intro _ _); try dsimp only) | (split)
    | (with_reducible apply State.Keeps.of_pair (by assumption)) | (dsimp only))

theorem cmdSchedCfgSet_keeps : cmdSchedCfgSet.Keeps := by
  intro h p s
  have k0 := State.Keeps.refl s
  unfold cmdSchedCfgSet
  try dsimp only [mkCmd, mkBulk]
  repeat' (first
    | (with_reducible exact k0) | (with_reducible exact .refl _) | (with_reducible exact mkCmd_keeps)
    | (with_reducible apply checked_keeps) | (with_reducible apply State.schedCfg_keeps)
    | (with_reducible refine State.placeSpill_keeps ?_ (by assumption)) | ((with_reducible intro _ _); try dsimp only) | (split)
    | (with_reducible apply State.Keeps.of_pair (by assumption)) | (dsimp only))

theorem State.pushBack_keeps {r0 s : State} (k0 : r0.Keeps s) (i : Item) (slot : Nat) :
    r0.Keeps (State.pushBack s i slot) := by
  unfold State.pushBack
  try dsimp only
  repeat' (first
    | (with_reducible exact k0) | (with_reducible exact .refl _) | (with_reducible apply State.bump_keeps)
    | (with_reducible apply State.perfAdd_keeps) | (with_reducible apply State.raise_keeps) | (with_reducible apply State.schedRec_keeps)
    | ((with_reducible intro _ _); try dsimp only) | (split) | (with_reducible apply State.Keeps.of_pair (by assumption)) | (dsimp only))

theorem cmdTaskSubmit_keeps : cmdTaskSubmit.Keeps := by
  intro h p s
  have k0 := State.Keeps.refl s
  unfold cmdTaskSubmit
  try dsimp only [mkCmd, mkBulk]
  repeat' (first
    | (with_reducible exact k0) | (with_reducible exact .refl _) | (with_reducible exact mkCmd_keeps)
    | (with_reducible apply checked_keeps) | (with_reducible apply State.pushBack_keeps) | (with_reducible apply State.setItem_keeps)
    | (with_reducible apply State.makeReady_keeps) | (with_reducible apply State.refillAll_keeps)
    | ((with_reducible intro _ _); try dsimp only) | (split) | (with_reducible apply State.Keeps.of_pair (by assumption)) | (dsimp only))

theorem State.armTimer_keeps {r0 s : State} (k0 : r0.Keeps s) (t list delay period slot : Nat) :
    r0.Keeps (State.armTimer s t list delay period slot) := by
  unfold State.armTimer
  try dsimp only
  repeat' (first
    | (with_reducible exact k0) | (with_reducible exact .refl _) | (with_reducible apply State.setItem_keeps)
    | (with_reducible apply State.onSched_keeps) | ((with_reducible intro _ _); try dsimp only) | (split)
    | (with_reducible apply State.Keeps.of_pair (by assumption)) | (dsimp only))

theorem cmdTimerSet_keeps : cmdTimerSet.Keeps := by
  intro h p s
  have k0 := State.Keeps.refl s
  unfold cmdTimerSet
  try dsimp only [mkCmd, mkBulk]
  repeat' (first
    | (with_reducible exact k0) | (with_reducible exact .refl _) | (with_reducible exact mkCmd_keeps)
    | (with_reducible apply State.cancelTimer_keeps) | (with_reducible apply checked_keeps) | (with_reducible apply State.pushBack_keeps)
    | (with_reducible apply State.armTimer_keeps) | ((with_reducible intro _ _); try dsimp only) | (split)
    | (with_reducible apply State.Keeps.of_pair (by assumption)) | (dsimp only))

theorem cmdSchedStatusGet_keeps : cmdSchedStatusGet.Keeps := by
  intro h p s
  have k0 := State.Keeps.refl s
  unfold cmdSchedStatusGet
  try dsimp only [mkCmd, mkBulk]
  repeat' (first
    | (with_reducible exact k0) | (with_reducible exact .refl _) | (with_reducible exact mkCmd_keeps)
    | (with_reducible apply State.setFld_keeps) | ((with_reducible intro _ _); try dsimp only) | (split)
    | (with_reducible apply State.Keeps.of_pair (by assumption)) | (dsimp only))

theorem cmdTestgenSet_keeps : cmdTestgenSet.Keeps := by
  intro h p s
  have k0 := State.Keeps.refl s
  unfold cmdTestgenSet
  try dsimp only [mkCmd, mkBulk]
  repeat' (first
    | (with_reducible exact k0) | (with_reducible exact .refl _) | (with_reducible exact mkCmd_keeps)
    | (with_reducible apply State.onMeas_keeps) | (with_reducible apply checkedEntries_keeps) | (with_reducible apply State.claim_keeps)
    | (with_reducible apply foldl_keeps) | (with_reducible apply foldlState_keeps) | ((with_reducible intro _ _); try dsimp only)
    | (split) | (with_reducible apply State.Keeps.of_pair (by assumption)) | (dsimp only))

theorem execFacetTaskLoad_keeps {r0 s : State} (k0 : r0.Keeps s) (h : Hdr) (p : Bytes) :
    r0.KeepsNext (execFacetTaskLoad h p s) := by
  unfold execFacetTaskLoad
  try dsimp only
  repeat' (first
    | (with_reducible apply State.KeepsNext.next) | (with_reducible exact k0) | (with_reducible exact .refl _)
    | (with_reducible apply CmdDef.exec_keeps) | (with_reducible exact cmdFacetTaskLoad_keeps)
    | (with_reducible refine State.KeepsNext.of (CmdDef.exec_keeps ?_ _ _ _) (by assumption))
    | ((with_reducible intro _ _); try dsimp only) | (split) | (with_reducible apply State.Keeps.of_pair (by assumption)) | (dsimp only)
    | (with_reducible apply CmdDef.exec_keeps))

theorem execFacetTaskSet_keeps {r0 s : State} (k0 : r0.Keeps s) (h : Hdr) (p : Bytes) :
    r0.KeepsNext (execFacetTaskSet h p s) := by
  unfold execFacetTaskSet
  try dsimp only
  repeat' (first
    | (with_reducible apply State.KeepsNext.next) | (with_reducible exact k0) | (with_reducible exact .refl _)
    | (with_reducible apply CmdDef.exec_keeps) | (with_reducible exact cmdFacetTaskSet_keeps)
    | (with_reducible refine State.KeepsNext.of (CmdDef.exec_keeps ?_ _ _ _) (by assumption))
    | ((with_reducible intro _ _); try dsimp only) | (split) | (with_reducible apply State.Keeps.of_pair (by assumption)) | (dsimp only)
    | (with_reducible apply CmdDef.exec_keeps))

theorem execFacetChanSet_keeps {r0 s : State} (k0 : r0.Keeps s) (h : Hdr) (p : Bytes) :
    r0.KeepsNext (execFacetChanSet h p s) := by
  unfold execFacetChanSet
  try dsimp only
  repeat' (first
    | (with_reducible apply State.KeepsNext.next) | (with_reducible exact k0) | (with_reducible exact .refl _)
    | (with_reducible apply CmdDef.exec_keeps) | (with_reducible exact cmdFacetChanSet_keeps)
    | (with_reducible refine State.KeepsNext.of (CmdDef.exec_keeps ?_ _ _ _) (by assumption))
    | ((with_reducible intro _ _); try dsimp only) | (split) | (with_reducible apply State.Keeps.of_pair (by assumption)) | (dsimp only)
    | (with_reducible apply CmdDef.exec_keeps))

theorem execFacetTaskEnable_keeps {r0 s : State} (k0 : r0.Keeps s) (h : Hdr) (p : Bytes) :
    r0.KeepsNext (execFacetTaskEnable h p s) := by
  unfold execFacetTaskEnable
  try dsimp only
  repeat' (first
    | (with_reducible apply State.KeepsNext.next) | (with_reducible exact k0) | (with_reducible exact .refl _)
    | (with_reducible apply CmdDef.exec_keeps) | (with_reducible exact cmdFacetTaskEnable_keeps)
    | (with_reducible refine State.KeepsNext.of (CmdDef.exec_keeps ?_ _ _ _) (by assumption))
    | ((with_reducible intro _ _); try dsimp only) | (split) | (with_reducible apply State.Keeps.of_pair (by assumption)) | (dsimp only)
    | (with_reducible apply CmdDef.exec_keeps))

theorem execFacetStageSet_keeps {r0 s : State} (k0 : r0.Keeps s) (h : Hdr) (p : Bytes) :
    r0.KeepsNext (execFacetStageSet h p s) := by
  unfold execFacetStageSet
  try dsimp only
  repeat' (first
    | (with_reducible apply State.KeepsNext.next) | (with_reducible exact k0) | (with_reducible exact .refl _)
    | (with_reducible apply CmdDef.exec_keeps) | (with_reducible exact cmdFacetStageSet_keeps)
    | (with_reducible refine State.KeepsNext.of (CmdDef.exec_keeps ?_ _ _ _) (by assumption))
    | ((with_reducible intro _ _); try dsimp only) | (split) | (with_reducible apply State.Keeps.of_pair (by assumption)) | (dsimp only)
    | (with_reducible apply CmdDef.exec_keeps))

theorem execFacetStatusGet_keeps {r0 s : State} (k0 : r0.Keeps s) (h : Hdr) (p : Bytes) :
    r0.KeepsNext (execFacetStatusGet h p s) := by
  unfold execFacetStatusGet
  try dsimp only
  repeat' (first
    | (with_reducible apply State.KeepsNext.next) | (with_reducible exact k0) | (with_reducible exact .refl _)
    | (with_reducible apply CmdDef.exec_keeps) | (with_reducible exact cmdFacetStatusGet_keeps)
    | (with_reducible refine State.KeepsNext.of (CmdDef.exec_keeps ?_ _ _ _) (by assumption))
    | ((with_reducible intro _ _); try dsimp only) | (split) | (with_reducible apply State.Keeps.of_pair (by assumption)) | (dsimp only)
    | (with_reducible apply CmdDef.exec_keeps))

theorem execFacetTaskUnload_keeps {r0 s : State} (k0 : r0.Keeps s) (h : Hdr) (p : Bytes) :
    r0.KeepsNext (execFacetTaskUnload h p s) := by
  unfold execFacetTaskUnload
  try dsimp only
  repeat' (first
    | (with_reducible apply State.KeepsNext.next) | (with_reducible exact k0) | (with_reducible exact .refl _)
    | (with_reducible apply CmdDef.exec_keeps) | (with_reducible exact cmdFacetTaskUnload_keeps)
    | (with_reducible refine State.KeepsNext.of (CmdDef.exec_keeps ?_ _ _ _) (by assumption))
    | ((with_reducible intro _ _); try dsimp only) | (split) | (with_reducible apply State.Keeps.of_pair (by assumption)) | (dsimp only)
    | (with_reducible apply CmdDef.exec_keeps))

theorem execSchedCfgSet_keeps {r0 s : State} (k0 : r0.Keeps s) (h : Hdr) (p : Bytes) :
    r0.KeepsNext (execSchedCfgSet h p s) := by
  unfold execSchedCfgSet
  try dsimp only
  repeat' (first
    | (with_reducible apply State.KeepsNext.next) | (with_reducible exact k0) | (with_reducible exact .refl _)
    | (with_reducible apply CmdDef.exec_keeps) | (with_reducible exact cmdSchedCfgSet_keeps)
    | (with_reducible refine State.KeepsNext.of (CmdDef.exec_keeps ?_ _ _ _) (by assumption))
    | ((with_reducible intro _ _); try dsimp only) | (split) | (with_reducible apply State.Keeps.of_pair (by assumption)) | (dsimp only)
    | (with_reducible apply CmdDef.exec_keeps))

theorem execTaskSubmit_keeps {r0 s : State} (k0 : r0.Keeps s) (h : Hdr) (p : Bytes) :
    r0.KeepsNext (execTaskSubmit h p s) := by
  unfold execTaskSubmit
  try dsimp only
  repeat' (first
    | (with_reducible apply State.KeepsNext.next) | (with_reducible exact k0) | (with_reducible exact .refl _)
    | (with_reducible apply CmdDef.exec_keeps) | (with_reducible exact cmdTaskSubmit_keeps)
    | (with_reducible refine State.KeepsNext.of (CmdDef.exec_keeps ?_ _ _ _) (by assumption))
    | ((with_reducible intro _ _); try dsimp only) | (split) | (with_reducible apply State.Keeps.of_pair (by assumption)) | (dsimp only)
    | (with_reducible apply CmdDef.exec_keeps))

theorem execTimerSet_keeps {r0 s : State} (k0 : r0.Keeps s) (h : Hdr) (p : Bytes) :
    r0.KeepsNext (execTimerSet h p s) := by
  unfold execTimerSet
  try dsimp only
  repeat' (first
    | (with_reducible apply State.KeepsNext.next) | (with_reducible exact k0) | (with_reducible exact .refl _)
    | (with_reducible apply CmdDef.exec_keeps) | (with_reducible exact cmdTimerSet_keeps)
    | (with_reducible refine State.KeepsNext.of (CmdDef.exec_keeps ?_ _ _ _) (by assumption))
    | ((with_reducible intro _ _); try dsimp only) | (split) | (with_reducible apply State.Keeps.of_pair (by assumption)) | (dsimp only)
    | (with_reducible apply CmdDef.exec_keeps))

theorem execSchedStatusGet_keeps {r0 s : State} (k0 : r0.Keeps s) (h : Hdr) (p : Bytes) :
    r0.KeepsNext (execSchedStatusGet h p s) := by
  unfold execSchedStatusGet
  try dsimp only
  repeat' (first
    | (with_reducible apply State.KeepsNext.next) | (with_reducible exact k0) | (with_reducible exact .refl _)
    | (with_reducible apply CmdDef.exec_keeps) | (with_reducible exact cmdSchedStatusGet_keeps)
    | (with_reducible refine State.KeepsNext.of (CmdDef.exec_keeps ?_ _ _ _) (by assumption))
    | ((with_reducible intro _ _); try dsimp only) | (split) | (with_reducible apply State.Keeps.of_pair (by assumption)) | (dsimp only)
    | (with_reducible apply CmdDef.exec_keeps))

theorem execTestgenSet_keeps {r0 s : State} (k0 : r0.Keeps s) (h : Hdr) (p : Bytes) :
    r0.KeepsNext (execTestgenSet h p s) := by
  unfold execTestgenSet
  try dsimp only
  repeat' (first
    | (with_reducible apply State.KeepsNext.next) | (with_reducible exact k0) | (with_reducible exact .refl _)
    | (with_reducible apply CmdDef.exec_keeps) | (with_reducible exact cmdTestgenSet_keeps)
    | (with_reducible refine State.KeepsNext.of (CmdDef.exec_keeps ?_ _ _ _) (by assumption))
    | ((with_reducible intro _ _); try dsimp only) | (split) | (with_reducible apply State.Keeps.of_pair (by assumption)) | (dsimp only)
    | (with_reducible apply CmdDef.exec_keeps))

/-! ### Machine/PortCmds.lean -/

theorem State.groupSet_keeps {r0 s : State} (k0 : r0.Keeps s) (p : Bytes) :
    r0.Keeps (State.groupSet s p) := by
  unfold State.groupSet
  try dsimp only
  repeat' (first
    | (with_reducible exact k0) | (with_reducible exact .refl _) | (with_reducible apply State.wr_keeps)
    | (with_reducible apply State.each_keeps) | (with_reducible apply State.claim_keeps) | (with_reducible apply State.setGrp_keeps)
    | ((with_reducible intro _ _); try dsimp only) | (split) | (with_reducible apply State.Keeps.of_pair (by assumption)) | (dsimp only))

theorem cmdPortGroupSet_keeps : cmdPortGroupSet.Keeps := by
  intro h p s
  have k0 := State.Keeps.refl s
  unfold cmdPortGroupSet
  try dsimp only [mkCmd, mkBulk]
  repeat' (first
    | (with_reducible exact k0) | (with_reducible exact .refl _) | (with_reducible exact mkCmd_keeps)
    | (with_reducible apply checked_keeps) | (with_reducible apply State.groupSet_keeps) | ((with_reducible intro _ _); try dsimp only)
    | (split) | (with_reducible apply State.Keeps.of_pair (by assumption)) | (dsimp only))

theorem State.maskWrite_keeps {r0 s : State} (k0 : r0.Keeps s) (p mask : Nat) (tri : Bool) :
    r0.Keeps (State.maskWrite s p mask tri) := by
  unfold State.maskWrite
  try dsimp only
  repeat' (first
    | (with_reducible exact k0) | (with_reducible exact .refl _) | (with_reducible apply State.setFld_keeps)
    | (with_reducible apply State.setPort_keeps) | ((with_reducible intro _ _); try dsimp only) | (split)
    | (with_reducible apply State.Keeps.of_pair (by assumption)) | (dsimp only))

theorem State.portSetOne_keeps {r0 s : State} (k0 : r0.Keeps s) (e : Bytes) :
    r0.Keeps (State.portSetOne s e) := by
  unfold State.portSetOne
  try dsimp only
  repeat' (first
    | (with_reducible exact k0) | (with_reducible exact .refl _) | (with_reducible apply State.setFld_keeps)
    | (with_reducible apply State.maskWrite_keeps) | ((with_reducible intro _ _); try dsimp only) | (split)
    | (with_reducible apply State.Keeps.of_pair (by assumption)) | (dsimp only))

theorem cmdPortSet_keeps : cmdPortSet.Keeps := by
  intro h p s
  have k0 := State.Keeps.refl s
  unfold cmdPortSet
  try dsimp only [mkCmd, mkBulk]
  repeat' (first
    | (with_reducible exact k0) | (with_reducible exact .refl _) | (with_reducible exact mkCmd_keeps)
    | (with_reducible apply checkedEntries_keeps) | (with_reducible apply State.each_keeps)
    | (with_reducible apply State.portSetOne_keeps) | ((with_reducible intro _ _); try dsimp only) | (split)
    | (with_reducible apply State.Keeps.of_pair (by assumption)) | (dsimp only))

theorem cmdPortMaskSet_keeps : cmdPortMaskSet.Keeps := by
  intro h p s
  have k0 := State.Keeps.refl s
  unfold cmdPortMaskSet
  try dsimp only [mkCmd, mkBulk]
  repeat' (first
    | (with_reducible exact k0) | (with_reducible exact .refl _) | (with_reducible exact mkCmd_keeps)
    | (with_reducible apply checkedEntries_keeps) | (with_reducible apply State.each_keeps) | (with_reducible apply State.maskWrite_keeps)
    | ((with_reducible intro _ _); try dsimp only) | (split) | (with_reducible apply State.Keeps.of_pair (by assumption)) | (dsimp only))

theorem cmdPortEnable_keeps : cmdPortEnable.Keeps := by
  intro h p s
  have k0 := State.Keeps.refl s
  unfold cmdPortEnable
  try dsimp only [mkCmd, mkBulk]
  repeat' (first
    | (with_reducible exact k0) | (with_reducible exact .refl _) | (with_reducible exact mkCmd_keeps)
    | (with_reducible apply State.each_keeps) | (with_reducible apply State.setFld_keeps) | ((with_reducible intro _ _); try dsimp only)
    | (split) | (with_reducible apply State.Keeps.of_pair (by assumption)) | (dsimp only))

theorem State.portClear_keeps {r0 s : State} (k0 : r0.Keeps s) (p : Nat) :
    r0.Keeps (State.portClear s p) := by
  unfold State.portClear
  try dsimp only
  repeat' (first
    | (with_reducible exact k0) | (with_reducible exact .refl _) | (with_reducible apply State.setFld_keeps)
    | ((with_reducible intro _ _); try dsimp only) | (split) | (with_reducible apply State.Keeps.of_pair (by assumption)) | (dsimp only))

theorem cmdPortStatusGet_keeps : cmdPortStatusGet.Keeps := by
  intro h p s
  have k0 := State.Keeps.refl s
  unfold cmdPortStatusGet
  try dsimp only [mkCmd, mkBulk]
  repeat' (first
    | (with_reducible exact k0) | (with_reducible exact .refl _) | (with_reducible exact mkCmd_keeps)
    | (with_reducible apply checked_keeps) | (with_reducible apply State.each_keeps) | (with_reducible apply State.portClear_keeps)
    | ((with_reducible intro _ _); try dsimp only) | (split) | (with_reducible apply State.Keeps.of_pair (by assumption)) | (dsimp only))

theorem execPortGroupSet_keeps {r0 s : State} (k0 : r0.Keeps s) (h : Hdr) (p : Bytes) :
    r0.KeepsNext (execPortGroupSet h p s) := by
  unfold execPortGroupSet
  try dsimp only
  repeat' (first
    | (with_reducible apply State.KeepsNext.next) | (with_reducible exact k0) | (with_reducible exact .refl _)
    | (with_reducible apply CmdDef.exec_keeps) | (with_reducible exact cmdPortGroupSet_keeps)
    | (with_reducible refine State.KeepsNext.of (CmdDef.exec_keeps ?_ _ _ _) (by assumption))
    | ((with_reducible intro _ _); try dsimp only) | (split) | (with_reducible apply State.Keeps.of_pair (by assumption)) | (dsimp only)
    | (with_reducible apply CmdDef.exec_keeps))

theorem execPortSet_keeps {r0 s : State} (k0 : r0.Keeps s) (h : Hdr) (p : Bytes) :
    r0.KeepsNext (execPortSet h p s) := by
  unfold execPortSet
  try dsimp only
  repeat' (first
    | (with_reducible apply State.KeepsNext.next) | (with_reducible exact k0) | (with_reducible exact .refl _)
    | (with_reducible apply CmdDef.exec_keeps) | (with_reducible exact cmdPortSet_keeps)
    | (with_reducible refine State.KeepsNext.of (CmdDef.exec_keeps ?_ _ _ _) (by assumption))
    | ((with_reducible intro _ _); try dsimp only) | (split) | (with_reducible apply State.Keeps.of_pair (by assumption)) | (dsimp only)
    | (with_reducible apply CmdDef.exec_keeps))

theorem execPortEnable_keeps {r0 s : State} (k0 : r0.Keeps s) (h : Hdr) (p : Bytes) :
    r0.KeepsNext (execPortEnable h p s) := by
  unfold execPortEnable
  try dsimp only
  repeat' (first
    | (with_reducible apply State.KeepsNext.next) | (with_reducible exact k0) | (with_reducible exact .refl _)
    | (with_reducible apply CmdDef.exec_keeps) | (with_reducible exact cmdPortEnable_keeps)
    | (with_reducible refine State.KeepsNext.of (CmdDef.exec_keeps ?_ _ _ _) (by assumption))
    | ((with_reducible intro _ _); try dsimp only) | (split) | (with_reducible apply State.Keeps.of_pair (by assumption)) | (dsimp only)
    | (with_reducible apply CmdDef.exec_keeps))

theorem execPortMaskSet_keeps {r0 s : State} (k0 : r0.Keeps s) (h : Hdr) (p : Bytes) :
    r0.KeepsNext (execPortMaskSet h p s) := by
  unfold execPortMaskSet
  try dsimp only
  repeat' (first
    | (with_reducible apply State.KeepsNext.next) | (with_reducible exact k0) | (with_reducible exact .refl _)
    | (with_reducible apply CmdDef.exec_keeps) | (with_reducible exact cmdPortMaskSet_keeps)
    | (with_reducible refine State.KeepsNext.of (CmdDef.exec_keeps ?_ _ _ _) (by assumption))
    | ((with_reducible intro _ _); try dsimp only) | (split) | (with_reducible apply State.Keeps.of_pair (by assumption)) | (dsimp only)
    | (with_reducible apply CmdDef.exec_keeps))

theorem execPortStatusGet_keeps {r0 s : State} (k0 : r0.Keeps s) (h : Hdr) (p : Bytes) :
    r0.KeepsNext (execPortStatusGet h p s) := by
  unfold execPortStatusGet
  try dsimp only
  repeat' (first
    | (with_reducible apply State.KeepsNext.next) | (with_reducible exact k0) | (with_reducible exact .refl _)
    | (with_reducible apply CmdDef.exec_keeps) | (with_reducible exact cmdPortStatusGet_keeps)
    | (with_reducible refine State.KeepsNext.of (CmdDef.exec_keeps ?_ _ _ _) (by assumption))
    | ((with_reducible intro _ _); try dsimp only) | (split) | (with_reducible apply State.Keeps.of_pair (by assumption)) | (dsimp only)
    | (with_reducible apply CmdDef.exec_keeps))

/-! ### Machine/MeasCmds.lean -/

theorem State.micClaim_keeps {r0 s : State} (k0 : r0.Keeps s) (mask : Nat) :
    r0.Keeps (State.micClaim s mask) := by
  unfold State.micClaim
  try dsimp only
  repeat' (first
    | (with_reducible exact k0) | (with_reducible exact .refl _) | (with_reducible apply State.onPorts_keeps)
    | (with_reducible apply State.each_keeps) | (with_reducible apply State.claim_keeps) | ((with_reducible intro _ _); try dsimp only)
    | (split) | (with_reducible apply State.Keeps.of_pair (by assumption)) | (dsimp only))

theorem State.micRecord_keeps {r0 s : State} (k0 : r0.Keeps s) (mask preset : Nat) :
    r0.Keeps (State.micRecord s mask preset) := by
  unfold State.micRecord
  try dsimp only
  repeat' (first
    | (with_reducible exact k0) | (with_reducible exact .refl _) | (with_reducible apply State.wr_keeps)
    | (with_reducible apply State.setFld_keeps) | ((with_reducible intro _ _); try dsimp only) | (split)
    | (with_reducible apply State.Keeps.of_pair (by assumption)) | (dsimp only))

theorem cmdMicCfg_keeps : cmdMicCfg.Keeps := by
  intro h p s
  have k0 := State.Keeps.refl s
  unfold cmdMicCfg
  try dsimp only [mkCmd, mkBulk]
  repeat' (first
    | (with_reducible exact k0) | (with_reducible exact .refl _) | (with_reducible exact mkCmd_keeps)
    | (with_reducible apply checked_keeps) | (with_reducible apply State.micClaim_keeps) | (with_reducible apply State.micRecord_keeps)
    | ((with_reducible intro _ _); try dsimp only) | (split) | (with_reducible apply State.Keeps.of_pair (by assumption)) | (dsimp only))

theorem State.compStart_keeps {r0 s : State} (k0 : r0.Keeps s) (h : Hdr) (is : List Bytes) :
    r0.Keeps (State.compStart s h is) := by
  unfold State.compStart
  try dsimp only
  repeat' (first
    | (with_reducible exact k0) | (with_reducible exact .refl _) | (with_reducible apply State.newJob_keeps)
    | (with_reducible apply State.each_keeps) | (with_reducible apply State.setMic_keeps) | (with_reducible apply State.startLoad_keeps)
    | (with_reducible apply State.onMeas_keeps) | (with_reducible apply State.parkDomains_keeps)
    | ((with_reducible intro _ _); try dsimp only) | (split) | (with_reducible apply State.Keeps.of_pair (by assumption)) | (dsimp only))

theorem cmdCompLoad_keeps : cmdCompLoad.Keeps := by
  intro h p s
  have k0 := State.Keeps.refl s
  unfold cmdCompLoad
  try dsimp only [mkCmd, mkBulk]
  repeat' (first
    | (with_reducible exact k0) | (with_reducible exact .refl _) | (with_reducible exact mkBulk_keeps)
    | (with_reducible apply checked_keeps) | (with_reducible apply State.compStart_keeps) | ((with_reducible intro _ _); try dsimp only)
    | (split) | (with_reducible apply State.Keeps.of_pair (by assumption)) | (dsimp only))

theorem State.compSwapEntry_keeps {r0 s : State} (k0 : r0.Keeps s) (c : Nat) (r : CompReq) :
    r0.Keeps (State.compSwapEntry s c r) := by
  unfold State.compSwapEntry
  try dsimp only
  repeat' (first
    | (with_reducible exact k0) | (with_reducible exact .refl _) | (with_reducible apply State.addPiece_keeps)
    | (with_reducible apply State.setMic_keeps) | (with_reducible apply State.pieceDrop_keeps)
    | ((with_reducible intro _ _); try dsimp only) | (split) | (with_reducible apply State.Keeps.of_pair (by assumption)) | (dsimp only))

theorem State.compSwapPark_keeps {r0 s : State} (k0 : r0.Keeps s) (es : List Bytes) :
    r0.Keeps (State.compSwapPark s es) := by
  unfold State.compSwapPark
  try dsimp only
  repeat' (first
    | (with_reducible exact k0) | (with_reducible exact .refl _) | (with_reducible apply State.each_keeps)
    | (with_reducible apply State.setMic_keeps) | ((with_reducible intro _ _); try dsimp only) | (split)
    | (with_reducible apply State.Keeps.of_pair (by assumption)) | (dsimp only))

theorem State.compSwapLive_keeps {r0 s : State} (k0 : r0.Keeps s) (h : Hdr) (p : Bytes) (es : List Bytes) :
    r0.Keeps (State.compSwapLive s h p es).1 := by
  unfold State.compSwapLive
  try dsimp only
  repeat' (first
    | (with_reducible exact k0) | (with_reducible exact .refl _) | (with_reducible apply State.newJob_keeps)
    | (with_reducible apply State.each_keeps) | (with_reducible apply State.compSwapEntry_keeps)
    | (with_reducible apply State.settleJob_keeps) | ((with_reducible intro _ _); try dsimp only) | (split)
    | (with_reducible apply State.Keeps.of_pair (by assumption)) | (dsimp only))

theorem cmdCompSwap_keeps : cmdCompSwap.Keeps := by
  intro h p s
  have k0 := State.Keeps.refl s
  unfold cmdCompSwap
  try dsimp only [mkCmd, mkBulk]
  repeat' (first
    | (with_reducible exact k0) | (with_reducible exact .refl _) | (with_reducible exact mkCmd_keeps)
    | (with_reducible apply checked_keeps) | (with_reducible apply checkedEntries_keeps) | (with_reducible apply State.compSwapPark_keeps)
    | (with_reducible apply State.compSwapLive_keeps) | ((with_reducible intro _ _); try dsimp only) | (split)
    | (with_reducible apply State.Keeps.of_pair (by assumption)) | (dsimp only))

theorem cmdMicDetMap_keeps : cmdMicDetMap.Keeps := by
  intro h p s
  have k0 := State.Keeps.refl s
  unfold cmdMicDetMap
  try dsimp only [mkCmd, mkBulk]
  repeat' (first
    | (with_reducible exact k0) | (with_reducible exact .refl _) | (with_reducible exact mkCmd_keeps)
    | (with_reducible apply checkedEntries_keeps) | (with_reducible apply State.each_keeps) | (with_reducible apply State.setMic_keeps)
    | ((with_reducible intro _ _); try dsimp only) | (split) | (with_reducible apply State.Keeps.of_pair (by assumption)) | (dsimp only))

theorem cmdMicMeterGet_keeps : cmdMicMeterGet.Keeps := by
  intro h p s
  have k0 := State.Keeps.refl s
  unfold cmdMicMeterGet
  try dsimp only [mkCmd, mkBulk]
  repeat' (first
    | (with_reducible exact k0) | (with_reducible exact .refl _) | (with_reducible exact mkCmd_keeps)
    | ((with_reducible intro _ _); try dsimp only) | (split) | (with_reducible apply State.Keeps.of_pair (by assumption)) | (dsimp only))

theorem cmdGenSet_keeps : cmdGenSet.Keeps := by
  intro h p s
  have k0 := State.Keeps.refl s
  unfold cmdGenSet
  try dsimp only [mkCmd, mkBulk]
  repeat' (first
    | (with_reducible exact k0) | (with_reducible exact .refl _) | (with_reducible exact mkCmd_keeps)
    | (with_reducible apply checked_keeps) | (with_reducible apply State.claim_keeps) | (with_reducible apply State.onMeas_keeps)
    | ((with_reducible intro _ _); try dsimp only) | (split) | (with_reducible apply State.Keeps.of_pair (by assumption)) | (dsimp only))

theorem cmdGenDrive_keeps : cmdGenDrive.Keeps := by
  intro h p s
  have k0 := State.Keeps.refl s
  unfold cmdGenDrive
  try dsimp only [mkCmd, mkBulk]
  repeat' (first
    | (with_reducible exact k0) | (with_reducible exact .refl _) | (with_reducible exact mkCmd_keeps)
    | (with_reducible apply checkedEntries_keeps) | (with_reducible apply checked_keeps) | (with_reducible apply State.onMeas_keeps)
    | ((with_reducible intro _ _); try dsimp only) | (split) | (with_reducible apply State.Keeps.of_pair (by assumption)) | (dsimp only))

theorem cmdGenStart_keeps : cmdGenStart.Keeps := by
  intro h p s
  have k0 := State.Keeps.refl s
  unfold cmdGenStart
  try dsimp only [mkCmd, mkBulk]
  repeat' (first
    | (with_reducible exact k0) | (with_reducible exact .refl _) | (with_reducible exact mkCmd_keeps)
    | (with_reducible apply checked_keeps) | (with_reducible apply State.onMeas_keeps) | ((with_reducible intro _ _); try dsimp only)
    | (split) | (with_reducible apply State.Keeps.of_pair (by assumption)) | (dsimp only))

theorem cmdGenStop_keeps : cmdGenStop.Keeps := by
  intro h p s
  have k0 := State.Keeps.refl s
  unfold cmdGenStop
  try dsimp only [mkCmd, mkBulk]
  repeat' (first
    | (with_reducible exact k0) | (with_reducible exact .refl _) | (with_reducible exact mkCmd_keeps)
    | (with_reducible apply checked_keeps) | (with_reducible apply State.genStop_keeps) | ((with_reducible intro _ _); try dsimp only)
    | (split) | (with_reducible apply State.Keeps.of_pair (by assumption)) | (dsimp only))

theorem cmdGenRelease_keeps : cmdGenRelease.Keeps := by
  intro h p s
  have k0 := State.Keeps.refl s
  unfold cmdGenRelease
  try dsimp only [mkCmd, mkBulk]
  repeat' (first
    | (with_reducible exact k0) | (with_reducible exact .refl _) | (with_reducible exact mkCmd_keeps)
    | (with_reducible apply checked_keeps) | (with_reducible apply State.genRelease_keeps) | ((with_reducible intro _ _); try dsimp only)
    | (split) | (with_reducible apply State.Keeps.of_pair (by assumption)) | (dsimp only))

theorem cmdCaptureSet_keeps : cmdCaptureSet.Keeps := by
  intro h p s
  have k0 := State.Keeps.refl s
  unfold cmdCaptureSet
  try dsimp only [mkCmd, mkBulk]
  repeat' (first
    | (with_reducible exact k0) | (with_reducible exact .refl _) | (with_reducible exact mkCmd_keeps)
    | (with_reducible apply checked_keeps) | (with_reducible apply State.unplace_keeps) | (with_reducible apply State.claim_keeps)
    | (with_reducible apply State.onMeas_keeps) | (with_reducible refine State.place_keeps ?_ _ _ _ (by assumption))
    | (with_reducible refine State.place_keeps' ?_ _ _ _ (by assumption)) | ((with_reducible intro _ _); try dsimp only) | (split)
    | (with_reducible apply State.Keeps.of_pair (by assumption)) | (dsimp only))

theorem cmdCaptureStart_keeps : cmdCaptureStart.Keeps := by
  intro h p s
  have k0 := State.Keeps.refl s
  unfold cmdCaptureStart
  try dsimp only [mkCmd, mkBulk]
  repeat' (first
    | (with_reducible exact k0) | (with_reducible exact .refl _) | (with_reducible exact mkCmd_keeps)
    | (with_reducible apply checked_keeps) | (with_reducible apply State.onCapture_keeps) | ((with_reducible intro _ _); try dsimp only)
    | (split) | (with_reducible apply State.Keeps.of_pair (by assumption)) | (dsimp only))

theorem cmdCaptureStop_keeps : cmdCaptureStop.Keeps := by
  intro h p s
  have k0 := State.Keeps.refl s
  unfold cmdCaptureStop
  try dsimp only [mkCmd, mkBulk]
  repeat' (first
    | (with_reducible exact k0) | (with_reducible exact .refl _) | (with_reducible exact mkCmd_keeps)
    | (with_reducible apply checked_keeps) | (with_reducible apply State.onCapture_keeps) | ((with_reducible intro _ _); try dsimp only)
    | (split) | (with_reducible apply State.Keeps.of_pair (by assumption)) | (dsimp only))

theorem cmdCaptureRead_keeps : cmdCaptureRead.Keeps := by
  intro h p s
  have k0 := State.Keeps.refl s
  unfold cmdCaptureRead
  try dsimp only [mkCmd, mkBulk]
  repeat' (first
    | (with_reducible exact k0) | (with_reducible exact .refl _) | (with_reducible exact mkBulk_keeps)
    | (with_reducible apply checked_keeps) | (with_reducible apply State.bufWrite_keeps) | ((with_reducible intro _ _); try dsimp only)
    | (split) | (with_reducible apply State.Keeps.of_pair (by assumption)) | (dsimp only))

theorem cmdCaptureRelease_keeps : cmdCaptureRelease.Keeps := by
  intro h p s
  have k0 := State.Keeps.refl s
  unfold cmdCaptureRelease
  try dsimp only [mkCmd, mkBulk]
  repeat' (first
    | (with_reducible exact k0) | (with_reducible exact .refl _) | (with_reducible exact mkCmd_keeps)
    | (with_reducible apply checked_keeps) | (with_reducible apply State.freeCapture_keeps) | ((with_reducible intro _ _); try dsimp only)
    | (split) | (with_reducible apply State.Keeps.of_pair (by assumption)) | (dsimp only))

theorem execMicCfg_keeps {r0 s : State} (k0 : r0.Keeps s) (h : Hdr) (p : Bytes) :
    r0.KeepsNext (execMicCfg h p s) := by
  unfold execMicCfg
  try dsimp only
  repeat' (first
    | (with_reducible apply State.KeepsNext.next) | (with_reducible exact k0) | (with_reducible exact .refl _)
    | (with_reducible apply CmdDef.exec_keeps) | (with_reducible exact cmdMicCfg_keeps)
    | (with_reducible refine State.KeepsNext.of (CmdDef.exec_keeps ?_ _ _ _) (by assumption))
    | ((with_reducible intro _ _); try dsimp only) | (split) | (with_reducible apply State.Keeps.of_pair (by assumption)) | (dsimp only)
    | (with_reducible apply CmdDef.exec_keeps))

theorem execCompLoad_keeps {r0 s : State} (k0 : r0.Keeps s) (h : Hdr) (p : Bytes) :
    r0.KeepsNext (execCompLoad h p s) := by
  unfold execCompLoad
  try dsimp only
  repeat' (first
    | (with_reducible apply State.KeepsNext.next) | (with_reducible exact k0) | (with_reducible exact .refl _)
    | (with_reducible apply CmdDef.exec_keeps) | (with_reducible exact cmdCompLoad_keeps)
    | (with_reducible refine State.KeepsNext.of (CmdDef.exec_keeps ?_ _ _ _) (by assumption))
    | ((with_reducible intro _ _); try dsimp only) | (split) | (with_reducible apply State.Keeps.of_pair (by assumption)) | (dsimp only)
    | (with_reducible apply CmdDef.exec_keeps))

theorem execCompSwap_keeps {r0 s : State} (k0 : r0.Keeps s) (h : Hdr) (p : Bytes) :
    r0.KeepsNext (execCompSwap h p s) := by
  unfold execCompSwap
  try dsimp only
  repeat' (first
    | (with_reducible apply State.KeepsNext.next) | (with_reducible exact k0) | (with_reducible exact .refl _)
    | (with_reducible apply CmdDef.exec_keeps) | (with_reducible exact cmdCompSwap_keeps)
    | (with_reducible refine State.KeepsNext.of (CmdDef.exec_keeps ?_ _ _ _) (by assumption))
    | ((with_reducible intro _ _); try dsimp only) | (split) | (with_reducible apply State.Keeps.of_pair (by assumption)) | (dsimp only)
    | (with_reducible apply CmdDef.exec_keeps))

theorem execMicDetMap_keeps {r0 s : State} (k0 : r0.Keeps s) (h : Hdr) (p : Bytes) :
    r0.KeepsNext (execMicDetMap h p s) := by
  unfold execMicDetMap
  try dsimp only
  repeat' (first
    | (with_reducible apply State.KeepsNext.next) | (with_reducible exact k0) | (with_reducible exact .refl _)
    | (with_reducible apply CmdDef.exec_keeps) | (with_reducible exact cmdMicDetMap_keeps)
    | (with_reducible refine State.KeepsNext.of (CmdDef.exec_keeps ?_ _ _ _) (by assumption))
    | ((with_reducible intro _ _); try dsimp only) | (split) | (with_reducible apply State.Keeps.of_pair (by assumption)) | (dsimp only)
    | (with_reducible apply CmdDef.exec_keeps))

theorem execMicMeterGet_keeps {r0 s : State} (k0 : r0.Keeps s) (h : Hdr) (p : Bytes) :
    r0.KeepsNext (execMicMeterGet h p s) := by
  unfold execMicMeterGet
  try dsimp only
  repeat' (first
    | (with_reducible apply State.KeepsNext.next) | (with_reducible exact k0) | (with_reducible exact .refl _)
    | (with_reducible apply CmdDef.exec_keeps) | (with_reducible exact cmdMicMeterGet_keeps)
    | (with_reducible refine State.KeepsNext.of (CmdDef.exec_keeps ?_ _ _ _) (by assumption))
    | ((with_reducible intro _ _); try dsimp only) | (split) | (with_reducible apply State.Keeps.of_pair (by assumption)) | (dsimp only)
    | (with_reducible apply CmdDef.exec_keeps))

theorem execGenSet_keeps {r0 s : State} (k0 : r0.Keeps s) (h : Hdr) (p : Bytes) :
    r0.KeepsNext (execGenSet h p s) := by
  unfold execGenSet
  try dsimp only
  repeat' (first
    | (with_reducible apply State.KeepsNext.next) | (with_reducible exact k0) | (with_reducible exact .refl _)
    | (with_reducible apply CmdDef.exec_keeps) | (with_reducible exact cmdGenSet_keeps)
    | (with_reducible refine State.KeepsNext.of (CmdDef.exec_keeps ?_ _ _ _) (by assumption))
    | ((with_reducible intro _ _); try dsimp only) | (split) | (with_reducible apply State.Keeps.of_pair (by assumption)) | (dsimp only)
    | (with_reducible apply CmdDef.exec_keeps))

theorem execGenDrive_keeps {r0 s : State} (k0 : r0.Keeps s) (h : Hdr) (p : Bytes) :
    r0.KeepsNext (execGenDrive h p s) := by
  unfold execGenDrive
  try dsimp only
  repeat' (first
    | (with_reducible apply State.KeepsNext.next) | (with_reducible exact k0) | (with_reducible exact .refl _)
    | (with_reducible apply CmdDef.exec_keeps) | (with_reducible exact cmdGenDrive_keeps)
    | (with_reducible refine State.KeepsNext.of (CmdDef.exec_keeps ?_ _ _ _) (by assumption))
    | ((with_reducible intro _ _); try dsimp only) | (split) | (with_reducible apply State.Keeps.of_pair (by assumption)) | (dsimp only)
    | (with_reducible apply CmdDef.exec_keeps))

theorem execGenStart_keeps {r0 s : State} (k0 : r0.Keeps s) (h : Hdr) (p : Bytes) :
    r0.KeepsNext (execGenStart h p s) := by
  unfold execGenStart
  try dsimp only
  repeat' (first
    | (with_reducible apply State.KeepsNext.next) | (with_reducible exact k0) | (with_reducible exact .refl _)
    | (with_reducible apply CmdDef.exec_keeps) | (with_reducible exact cmdGenStart_keeps)
    | (with_reducible refine State.KeepsNext.of (CmdDef.exec_keeps ?_ _ _ _) (by assumption))
    | ((with_reducible intro _ _); try dsimp only) | (split) | (with_reducible apply State.Keeps.of_pair (by assumption)) | (dsimp only)
    | (with_reducible apply CmdDef.exec_keeps))

theorem execGenStop_keeps {r0 s : State} (k0 : r0.Keeps s) (h : Hdr) (p : Bytes) :
    r0.KeepsNext (execGenStop h p s) := by
  unfold execGenStop
  try dsimp only
  repeat' (first
    | (with_reducible apply State.KeepsNext.next) | (with_reducible exact k0) | (with_reducible exact .refl _)
    | (with_reducible apply CmdDef.exec_keeps) | (with_reducible exact cmdGenStop_keeps)
    | (with_reducible refine State.KeepsNext.of (CmdDef.exec_keeps ?_ _ _ _) (by assumption))
    | ((with_reducible intro _ _); try dsimp only) | (split) | (with_reducible apply State.Keeps.of_pair (by assumption)) | (dsimp only)
    | (with_reducible apply CmdDef.exec_keeps))

theorem execGenRelease_keeps {r0 s : State} (k0 : r0.Keeps s) (h : Hdr) (p : Bytes) :
    r0.KeepsNext (execGenRelease h p s) := by
  unfold execGenRelease
  try dsimp only
  repeat' (first
    | (with_reducible apply State.KeepsNext.next) | (with_reducible exact k0) | (with_reducible exact .refl _)
    | (with_reducible apply CmdDef.exec_keeps) | (with_reducible exact cmdGenRelease_keeps)
    | (with_reducible refine State.KeepsNext.of (CmdDef.exec_keeps ?_ _ _ _) (by assumption))
    | ((with_reducible intro _ _); try dsimp only) | (split) | (with_reducible apply State.Keeps.of_pair (by assumption)) | (dsimp only)
    | (with_reducible apply CmdDef.exec_keeps))

theorem execCaptureSet_keeps {r0 s : State} (k0 : r0.Keeps s) (h : Hdr) (p : Bytes) :
    r0.KeepsNext (execCaptureSet h p s) := by
  unfold execCaptureSet
  try dsimp only
  repeat' (first
    | (with_reducible apply State.KeepsNext.next) | (with_reducible exact k0) | (with_reducible exact .refl _)
    | (with_reducible apply CmdDef.exec_keeps) | (with_reducible exact cmdCaptureSet_keeps)
    | (with_reducible refine State.KeepsNext.of (CmdDef.exec_keeps ?_ _ _ _) (by assumption))
    | ((with_reducible intro _ _); try dsimp only) | (split) | (with_reducible apply State.Keeps.of_pair (by assumption)) | (dsimp only)
    | (with_reducible apply CmdDef.exec_keeps))

theorem execCaptureStart_keeps {r0 s : State} (k0 : r0.Keeps s) (h : Hdr) (p : Bytes) :
    r0.KeepsNext (execCaptureStart h p s) := by
  unfold execCaptureStart
  try dsimp only
  repeat' (first
    | (with_reducible apply State.KeepsNext.next) | (with_reducible exact k0) | (with_reducible exact .refl _)
    | (with_reducible apply CmdDef.exec_keeps) | (with_reducible exact cmdCaptureStart_keeps)
    | (with_reducible refine State.KeepsNext.of (CmdDef.exec_keeps ?_ _ _ _) (by assumption))
    | ((with_reducible intro _ _); try dsimp only) | (split) | (with_reducible apply State.Keeps.of_pair (by assumption)) | (dsimp only)
    | (with_reducible apply CmdDef.exec_keeps))

theorem execCaptureStop_keeps {r0 s : State} (k0 : r0.Keeps s) (h : Hdr) (p : Bytes) :
    r0.KeepsNext (execCaptureStop h p s) := by
  unfold execCaptureStop
  try dsimp only
  repeat' (first
    | (with_reducible apply State.KeepsNext.next) | (with_reducible exact k0) | (with_reducible exact .refl _)
    | (with_reducible apply CmdDef.exec_keeps) | (with_reducible exact cmdCaptureStop_keeps)
    | (with_reducible refine State.KeepsNext.of (CmdDef.exec_keeps ?_ _ _ _) (by assumption))
    | ((with_reducible intro _ _); try dsimp only) | (split) | (with_reducible apply State.Keeps.of_pair (by assumption)) | (dsimp only)
    | (with_reducible apply CmdDef.exec_keeps))

theorem execCaptureRead_keeps {r0 s : State} (k0 : r0.Keeps s) (h : Hdr) (p : Bytes) :
    r0.KeepsNext (execCaptureRead h p s) := by
  unfold execCaptureRead
  try dsimp only
  repeat' (first
    | (with_reducible apply State.KeepsNext.next) | (with_reducible exact k0) | (with_reducible exact .refl _)
    | (with_reducible apply CmdDef.exec_keeps) | (with_reducible exact cmdCaptureRead_keeps)
    | (with_reducible refine State.KeepsNext.of (CmdDef.exec_keeps ?_ _ _ _) (by assumption))
    | ((with_reducible intro _ _); try dsimp only) | (split) | (with_reducible apply State.Keeps.of_pair (by assumption)) | (dsimp only)
    | (with_reducible apply CmdDef.exec_keeps))

theorem execCaptureRelease_keeps {r0 s : State} (k0 : r0.Keeps s) (h : Hdr) (p : Bytes) :
    r0.KeepsNext (execCaptureRelease h p s) := by
  unfold execCaptureRelease
  try dsimp only
  repeat' (first
    | (with_reducible apply State.KeepsNext.next) | (with_reducible exact k0) | (with_reducible exact .refl _)
    | (with_reducible apply CmdDef.exec_keeps) | (with_reducible exact cmdCaptureRelease_keeps)
    | (with_reducible refine State.KeepsNext.of (CmdDef.exec_keeps ?_ _ _ _) (by assumption))
    | ((with_reducible intro _ _); try dsimp only) | (split) | (with_reducible apply State.Keeps.of_pair (by assumption)) | (dsimp only)
    | (with_reducible apply CmdDef.exec_keeps))

/-! ### Machine/SceneCmds.lean -/

theorem cmdLayoutLoad_keeps : cmdLayoutLoad.Keeps := by
  intro h p s
  have k0 := State.Keeps.refl s
  unfold cmdLayoutLoad
  try dsimp only [mkCmd, mkBulk]
  repeat' (first
    | (with_reducible exact k0) | (with_reducible exact .refl _) | (with_reducible exact mkBulk_keeps)
    | (with_reducible apply State.onScene_keeps) | (with_reducible apply checked_keeps) | ((with_reducible intro _ _); try dsimp only)
    | (split) | (with_reducible apply State.Keeps.of_pair (by assumption)) | (dsimp only))

theorem State.swapLayouts_keeps {r0 s : State} (k0 : r0.Keeps s)  :
    r0.Keeps (State.swapLayouts s) := by
  unfold State.swapLayouts
  try dsimp only
  repeat' (first
    | (with_reducible exact k0) | (with_reducible exact .refl _) | (with_reducible apply State.onScene_keeps)
    | ((with_reducible intro _ _); try dsimp only) | (split) | (with_reducible apply State.Keeps.of_pair (by assumption)) | (dsimp only))

theorem cmdLayoutCommit_keeps : cmdLayoutCommit.Keeps := by
  intro h p s
  have k0 := State.Keeps.refl s
  unfold cmdLayoutCommit
  try dsimp only [mkCmd, mkBulk]
  repeat' (first
    | (with_reducible exact k0) | (with_reducible exact .refl _) | (with_reducible exact mkCmd_keeps)
    | (with_reducible apply checked_keeps) | (with_reducible apply State.onScene_keeps) | (with_reducible apply State.swapLayouts_keeps)
    | ((with_reducible intro _ _); try dsimp only) | (split) | (with_reducible apply State.Keeps.of_pair (by assumption)) | (dsimp only))

theorem cmdAirSet_keeps : cmdAirSet.Keeps := by
  intro h p s
  have k0 := State.Keeps.refl s
  unfold cmdAirSet
  try dsimp only [mkCmd, mkBulk]
  repeat' (first
    | (with_reducible exact k0) | (with_reducible exact .refl _) | (with_reducible exact mkCmd_keeps)
    | (with_reducible apply checked_keeps) | (with_reducible apply State.onScene_keeps) | ((with_reducible intro _ _); try dsimp only)
    | (split) | (with_reducible apply State.Keeps.of_pair (by assumption)) | (dsimp only))

theorem cmdObjectUpdate_keeps : cmdObjectUpdate.Keeps := by
  intro h p s
  have k0 := State.Keeps.refl s
  unfold cmdObjectUpdate
  try dsimp only [mkCmd, mkBulk]
  repeat' (first
    | (with_reducible exact k0) | (with_reducible exact .refl _) | (with_reducible exact mkCmd_keeps)
    | (with_reducible apply State.judgeAll_keeps) | ((with_reducible intro _ _); try dsimp only) | (split)
    | (with_reducible apply State.Keeps.of_pair (by assumption)) | (dsimp only))

theorem State.setDirect_keeps {r0 s : State} (k0 : r0.Keeps s) (j base : Nat) (es : List Bytes) :
    r0.Keeps (State.setDirect s j base es).1 := by
  unfold State.setDirect
  try dsimp only
  repeat' (first
    | (with_reducible exact k0) | (with_reducible exact .refl _) | (with_reducible apply checkedEntries_keeps)
    | (with_reducible apply State.setObj_keeps) | ((with_reducible intro _ _); try dsimp only) | (split)
    | (with_reducible apply State.Keeps.of_pair (by assumption)) | (dsimp only))

theorem cmdObjectDirectSet_keeps : cmdObjectDirectSet.Keeps := by
  intro h p s
  have k0 := State.Keeps.refl s
  unfold cmdObjectDirectSet
  try dsimp only [mkCmd, mkBulk]
  repeat' (first
    | (with_reducible exact k0) | (with_reducible exact .refl _) | (with_reducible apply checked_keeps)
    | (with_reducible apply State.setDirect_keeps) | ((with_reducible intro _ _); try dsimp only) | (split)
    | (with_reducible apply State.Keeps.of_pair (by assumption)) | (dsimp only))

theorem cmdObjectStatus_keeps : cmdObjectStatus.Keeps := by
  intro h p s
  have k0 := State.Keeps.refl s
  unfold cmdObjectStatus
  try dsimp only [mkCmd, mkBulk]
  repeat' (first
    | (with_reducible exact k0) | (with_reducible exact .refl _) | (with_reducible exact mkCmd_keeps)
    | (with_reducible apply State.setObj_keeps) | (with_reducible apply checked_keeps) | (with_reducible apply State.each_keeps)
    | ((with_reducible intro _ _); try dsimp only) | (split) | (with_reducible apply State.Keeps.of_pair (by assumption)) | (dsimp only))

theorem cmdTrajModelSet_keeps : cmdTrajModelSet.Keeps := by
  intro h p s
  have k0 := State.Keeps.refl s
  unfold cmdTrajModelSet
  try dsimp only [mkCmd, mkBulk]
  repeat' (first
    | (with_reducible exact k0) | (with_reducible exact .refl _) | (with_reducible exact mkCmd_keeps)
    | (with_reducible apply checkedEntries_keeps) | (with_reducible apply State.each_keeps) | (with_reducible apply State.setObj_keeps)
    | ((with_reducible intro _ _); try dsimp only) | (split) | (with_reducible apply State.Keeps.of_pair (by assumption)) | (dsimp only))

theorem cmdObjectRelease_keeps : cmdObjectRelease.Keeps := by
  intro h p s
  have k0 := State.Keeps.refl s
  unfold cmdObjectRelease
  try dsimp only [mkCmd, mkBulk]
  repeat' (first
    | (with_reducible exact k0) | (with_reducible exact .refl _) | (with_reducible exact mkCmd_keeps)
    | (with_reducible apply checkedEntries_keeps) | (with_reducible apply State.each_keeps) | (with_reducible apply State.release_keeps)
    | ((with_reducible intro _ _); try dsimp only) | (split) | (with_reducible apply State.Keeps.of_pair (by assumption)) | (dsimp only))

theorem cmdMetaCfgSet_keeps : cmdMetaCfgSet.Keeps := by
  intro h p s
  have k0 := State.Keeps.refl s
  unfold cmdMetaCfgSet
  try dsimp only [mkCmd, mkBulk]
  repeat' (first
    | (with_reducible exact k0) | (with_reducible exact .refl _) | (with_reducible exact mkCmd_keeps)
    | (with_reducible apply checked_keeps) | (with_reducible apply State.onScene_keeps) | ((with_reducible intro _ _); try dsimp only)
    | (split) | (with_reducible apply State.Keeps.of_pair (by assumption)) | (dsimp only))

theorem cmdInputMapSet_keeps : cmdInputMapSet.Keeps := by
  intro h p s
  have k0 := State.Keeps.refl s
  unfold cmdInputMapSet
  try dsimp only [mkCmd, mkBulk]
  repeat' (first
    | (with_reducible exact k0) | (with_reducible exact .refl _) | (with_reducible exact mkCmd_keeps)
    | (with_reducible apply checkedEntries_keeps) | (with_reducible apply State.onScene_keeps) | (with_reducible apply foldl_keeps)
    | (with_reducible apply foldlState_keeps) | ((with_reducible intro _ _); try dsimp only) | (split)
    | (with_reducible apply State.Keeps.of_pair (by assumption)) | (dsimp only))

theorem cmdOutputMapSet_keeps : cmdOutputMapSet.Keeps := by
  intro h p s
  have k0 := State.Keeps.refl s
  unfold cmdOutputMapSet
  try dsimp only [mkCmd, mkBulk]
  repeat' (first
    | (with_reducible exact k0) | (with_reducible exact .refl _) | (with_reducible exact mkCmd_keeps)
    | (with_reducible apply checkedEntries_keeps) | (with_reducible apply State.onScene_keeps) | (with_reducible apply foldl_keeps)
    | (with_reducible apply foldlState_keeps) | ((with_reducible intro _ _); try dsimp only) | (split)
    | (with_reducible apply State.Keeps.of_pair (by assumption)) | (dsimp only))

theorem cmdSceneRxSet_keeps : cmdSceneRxSet.Keeps := by
  intro h p s
  have k0 := State.Keeps.refl s
  unfold cmdSceneRxSet
  try dsimp only [mkCmd, mkBulk]
  repeat' (first
    | (with_reducible exact k0) | (with_reducible exact .refl _) | (with_reducible exact mkCmd_keeps)
    | (with_reducible apply checkedEntries_keeps) | (with_reducible apply checked_keeps) | (with_reducible apply State.each_keeps)
    | (with_reducible apply State.hashIn_keeps) | (with_reducible apply State.onScene_keeps) | (with_reducible apply foldl_keeps)
    | (with_reducible apply foldlState_keeps) | ((with_reducible intro _ _); try dsimp only) | (split)
    | (with_reducible apply State.Keeps.of_pair (by assumption)) | (dsimp only))

theorem cmdPrismAirSet_keeps : cmdPrismAirSet.Keeps := by
  intro h p s
  have k0 := State.Keeps.refl s
  unfold cmdPrismAirSet
  try dsimp only [mkCmd, mkBulk]
  repeat' (first
    | (with_reducible exact k0) | (with_reducible exact .refl _) | (with_reducible exact mkCmd_keeps)
    | (with_reducible apply checked_keeps) | (with_reducible apply State.setFld_keeps) | ((with_reducible intro _ _); try dsimp only)
    | (split) | (with_reducible apply State.Keeps.of_pair (by assumption)) | (dsimp only))

theorem cmdPrismXfadeSet_keeps : cmdPrismXfadeSet.Keeps := by
  intro h p s
  have k0 := State.Keeps.refl s
  unfold cmdPrismXfadeSet
  try dsimp only [mkCmd, mkBulk]
  repeat' (first
    | (with_reducible exact k0) | (with_reducible exact .refl _) | (with_reducible exact mkCmd_keeps)
    | (with_reducible apply checked_keeps) | (with_reducible apply State.setFld_keeps) | ((with_reducible intro _ _); try dsimp only)
    | (split) | (with_reducible apply State.Keeps.of_pair (by assumption)) | (dsimp only))

theorem cmdPrismStatusGet_keeps : cmdPrismStatusGet.Keeps := by
  intro h p s
  have k0 := State.Keeps.refl s
  unfold cmdPrismStatusGet
  try dsimp only [mkCmd, mkBulk]
  repeat' (first
    | (with_reducible exact k0) | (with_reducible exact .refl _) | (with_reducible exact mkCmd_keeps)
    | ((with_reducible intro _ _); try dsimp only) | (split) | (with_reducible apply State.Keeps.of_pair (by assumption)) | (dsimp only))

theorem State.startHalf_keeps {r0 s : State} (k0 : r0.Keeps s) (h : Hdr) (on : Bool) :
    r0.Keeps (State.startHalf s h on) := by
  unfold State.startHalf
  try dsimp only
  repeat' (first
    | (with_reducible exact k0) | (with_reducible exact .refl _) | (with_reducible apply State.newJob_keeps)
    | (with_reducible apply State.onPrism_keeps) | (with_reducible apply State.onSys_keeps) | (exact fun _ => ⟨rfl, rfl, id, fun _ => id⟩)
    | ((with_reducible intro _ _); try dsimp only) | (split) | (with_reducible apply State.Keeps.of_pair (by assumption)) | (dsimp only))

theorem State.halfPower_keeps {r0 s : State} (k0 : r0.Keeps s)  :
    r0.Keeps (State.halfPower s) := by
  unfold State.halfPower
  try dsimp only
  repeat' (first
    | (with_reducible exact k0) | (with_reducible exact .refl _) | (with_reducible apply State.onSys_keeps)
    | (exact fun _ => ⟨rfl, rfl, id, fun _ => id⟩) | ((with_reducible intro _ _); try dsimp only) | (split)
    | (with_reducible apply State.Keeps.of_pair (by assumption)) | (dsimp only))

theorem cmdPrismHalfSet_keeps : cmdPrismHalfSet.Keeps := by
  intro h p s
  have k0 := State.Keeps.refl s
  unfold cmdPrismHalfSet
  try dsimp only [mkCmd, mkBulk]
  repeat' (first
    | (with_reducible exact k0) | (with_reducible exact .refl _) | (with_reducible exact mkCmd_keeps)
    | (with_reducible apply checked_keeps) | (with_reducible apply State.onPrism_keeps) | (with_reducible apply State.halfPower_keeps)
    | (with_reducible apply State.startHalf_keeps) | ((with_reducible intro _ _); try dsimp only) | (split)
    | (with_reducible apply State.Keeps.of_pair (by assumption)) | (dsimp only))

theorem State.dropHeld_keeps {r0 s : State} (k0 : r0.Keeps s) (j : Nat) :
    r0.Keeps (State.dropHeld s j) := by
  unfold State.dropHeld
  try dsimp only
  repeat' (first
    | (with_reducible exact k0) | (with_reducible exact .refl _) | (with_reducible apply State.setObj_keeps)
    | (with_reducible apply State.pieceDrop_keeps) | ((with_reducible intro _ _); try dsimp only) | (split)
    | (with_reducible apply State.Keeps.of_pair (by assumption)) | (dsimp only))

theorem State.needLine_keeps {r0 s : State} (k0 : r0.Keeps s) (j a : Nat) {t1 : State} (h1 : (State.needLine s j a) = some t1) :
    r0.Keeps t1 := by
  unfold State.needLine at h1
  try dsimp only at h1
  repeat' (first
    | (cases h1; done) | (injection h1 with h1; subst h1) | (split at h1)
    | (obtain ⟨e1, h2, h3⟩ := Option.map_eq_some_iff.1 h1; clear h1; subst h3; try dsimp only))
  all_goals repeat' (first
    | (with_reducible exact k0) | (with_reducible exact .refl _) | (with_reducible refine State.placeLine_keeps ?_ _ (by assumption))
    | ((with_reducible intro _ _); try dsimp only) | (split) | (with_reducible apply State.Keeps.of_pair (by assumption)) | (dsimp only))

theorem State.lineFor_keeps {r0 s : State} (k0 : r0.Keeps s) (j a : Nat) {t1 : State} (h1 : State.lineFor s j a = some t1) : r0.Keeps t1 := by
  obtain ⟨t, h2, h3⟩ := Option.bind_eq_some_iff.1 h1
  exact State.relocateLine_keeps (State.needLine_keeps k0 j a h2) j h3

theorem State.alignStart_keeps {r0 s : State} (k0 : r0.Keeps s) (job j a : Nat) {t1 : State} (h1 : (State.alignStart s job j a) = some t1) :
    r0.Keeps t1 := by
  unfold State.alignStart at h1
  try dsimp only at h1
  repeat' (first
    | (cases h1; done) | (injection h1 with h1; subst h1) | (split at h1)
    | (obtain ⟨e1, h2, h3⟩ := Option.map_eq_some_iff.1 h1; clear h1; subst h3; try dsimp only))
  all_goals repeat' (first
    | (with_reducible exact k0) | (with_reducible exact .refl _) | (with_reducible apply State.addPiece_keeps)
    | (with_reducible apply State.setObj_keeps) | (with_reducible refine State.lineFor_keeps ?_ _ _ (by assumption))
    | ((with_reducible intro _ _); try dsimp only) | (split) | (with_reducible apply State.Keeps.of_pair (by assumption)) | (dsimp only))

theorem State.alignHold_keeps {r0 s : State} (k0 : r0.Keeps s) (job j a : Nat) {t1 : State} (h1 : (State.alignHold s job j a) = some t1) :
    r0.Keeps t1 := by
  unfold State.alignHold at h1
  try dsimp only at h1
  repeat' (first
    | (cases h1; done) | (injection h1 with h1; subst h1) | (split at h1)
    | (obtain ⟨e1, h2, h3⟩ := Option.map_eq_some_iff.1 h1; clear h1; subst h3; try dsimp only))
  all_goals repeat' (first
    | (with_reducible exact k0) | (with_reducible exact .refl _) | (with_reducible apply State.addPiece_keeps)
    | (with_reducible apply State.setObj_keeps) | (with_reducible refine State.needLine_keeps ?_ _ _ (by assumption))
    | ((with_reducible intro _ _); try dsimp only) | (split) | (with_reducible apply State.Keeps.of_pair (by assumption)) | (dsimp only))

theorem State.alignEntry_keeps {r0 s : State} (k0 : r0.Keeps s) (job j a : Nat) {t1 : State} (h1 : (State.alignEntry s job j a) = some t1) :
    r0.Keeps t1 := by
  unfold State.alignEntry at h1
  dsimp only at h1
  have kd := State.dropHeld_keeps k0 j
  split at h1
  · injection h1 with h1
    subst h1
    exact State.tidyLine_keeps kd _
  · split at h1
    · exact State.alignStart_keeps kd _ _ _ h1
    · obtain ⟨e, h2, h3⟩ := Option.map_eq_some_iff.1 h1
      subst h3
      exact State.tidyLine_keeps (State.alignHold_keeps kd _ _ _ h2) _

theorem State.alignAll_keeps {r0 s : State} (k0 : r0.Keeps s) (job : Nat) (z1 : List Bytes) {t1 : State}
    (h1 : State.alignAll s job z1 = some t1) : r0.Keeps t1 := by
  induction z1 generalizing s with
  | nil => unfold State.alignAll at h1; injection h1 with h1; subst h1; exact k0
  | cons e es ih =>
    unfold State.alignAll at h1
    obtain ⟨t, h2, h3⟩ := Option.bind_eq_some_iff.1 h1
    exact ih (State.alignEntry_keeps k0 _ _ _ h2) h3

theorem State.alignPark_keeps {r0 s : State} (k0 : r0.Keeps s) (es : List Bytes) :
    r0.Keeps (State.alignPark s es) := by
  unfold State.alignPark
  try dsimp only
  repeat' (first
    | (with_reducible exact k0) | (with_reducible exact .refl _) | (with_reducible apply State.each_keeps)
    | (with_reducible apply State.setObj_keeps) | (with_reducible apply State.tidyLine_keeps)
    | ((with_reducible intro _ _); try dsimp only) | (split) | (with_reducible apply State.Keeps.of_pair (by assumption)) | (dsimp only))

theorem State.alignLive_keeps {r0 s : State} (k0 : r0.Keeps s) (h : Hdr) (es : List Bytes) :
    r0.Keeps (State.alignLive s h es).1 := by
  unfold State.alignLive
  try dsimp only
  repeat' (first
    | (with_reducible exact k0) | (with_reducible exact .refl _) | (with_reducible apply State.newJob_keeps)
    | (with_reducible apply State.settleJob_keeps) | (with_reducible refine State.alignAll_keeps ?_ _ _ (by assumption))
    | ((with_reducible intro _ _); try dsimp only) | (split) | (with_reducible apply State.Keeps.of_pair (by assumption)) | (dsimp only))

theorem cmdAlignDelaySet_keeps : cmdAlignDelaySet.Keeps := by
  intro h p s
  have k0 := State.Keeps.refl s
  unfold cmdAlignDelaySet
  try dsimp only [mkCmd, mkBulk]
  repeat' (first
    | (with_reducible exact k0) | (with_reducible exact .refl _) | (with_reducible exact mkCmd_keeps)
    | (with_reducible apply checkedEntries_keeps) | (with_reducible apply State.alignPark_keeps)
    | (with_reducible apply State.alignLive_keeps) | ((with_reducible intro _ _); try dsimp only) | (split)
    | (with_reducible apply State.Keeps.of_pair (by assumption)) | (dsimp only))

theorem State.placeRecords_keeps {r0 s : State} (k0 : r0.Keeps s) (kind first n : Nat) (b : Buf) :
    r0.Keeps (State.placeRecords s kind first n b).1 := by
  unfold State.placeRecords
  try dsimp only
  repeat' (first
    | (with_reducible exact k0) | (with_reducible exact .refl _) | (with_reducible apply checked_keeps)
    | (with_reducible apply State.bufWrite_keeps) | ((with_reducible intro _ _); try dsimp only) | (split)
    | (with_reducible apply State.Keeps.of_pair (by assumption)) | (dsimp only))

theorem cmdPlacementReport_keeps : cmdPlacementReport.Keeps := by
  intro h p s
  have k0 := State.Keeps.refl s
  unfold cmdPlacementReport
  try dsimp only [mkCmd, mkBulk]
  repeat' (first
    | (with_reducible exact k0) | (with_reducible exact .refl _) | (with_reducible apply checked_keeps)
    | (with_reducible apply State.placeRecords_keeps) | ((with_reducible intro _ _); try dsimp only) | (split)
    | (with_reducible apply State.Keeps.of_pair (by assumption)) | (dsimp only))

theorem execLayoutLoad_keeps {r0 s : State} (k0 : r0.Keeps s) (h : Hdr) (p : Bytes) :
    r0.KeepsNext (execLayoutLoad h p s) := by
  unfold execLayoutLoad
  try dsimp only
  repeat' (first
    | (with_reducible apply State.KeepsNext.next) | (with_reducible exact k0) | (with_reducible exact .refl _)
    | (with_reducible apply CmdDef.exec_keeps) | (with_reducible exact cmdLayoutLoad_keeps)
    | (with_reducible refine State.KeepsNext.of (CmdDef.exec_keeps ?_ _ _ _) (by assumption))
    | ((with_reducible intro _ _); try dsimp only) | (split) | (with_reducible apply State.Keeps.of_pair (by assumption)) | (dsimp only)
    | (with_reducible apply CmdDef.exec_keeps))

theorem execLayoutCommit_keeps {r0 s : State} (k0 : r0.Keeps s) (h : Hdr) (p : Bytes) :
    r0.KeepsNext (execLayoutCommit h p s) := by
  unfold execLayoutCommit
  try dsimp only
  repeat' (first
    | (with_reducible apply State.KeepsNext.next) | (with_reducible exact k0) | (with_reducible exact .refl _)
    | (with_reducible apply CmdDef.exec_keeps) | (with_reducible exact cmdLayoutCommit_keeps)
    | (with_reducible refine State.KeepsNext.of (CmdDef.exec_keeps ?_ _ _ _) (by assumption))
    | ((with_reducible intro _ _); try dsimp only) | (split) | (with_reducible apply State.Keeps.of_pair (by assumption)) | (dsimp only)
    | (with_reducible apply CmdDef.exec_keeps))

theorem execAirSet_keeps {r0 s : State} (k0 : r0.Keeps s) (h : Hdr) (p : Bytes) :
    r0.KeepsNext (execAirSet h p s) := by
  unfold execAirSet
  try dsimp only
  repeat' (first
    | (with_reducible apply State.KeepsNext.next) | (with_reducible exact k0) | (with_reducible exact .refl _)
    | (with_reducible apply CmdDef.exec_keeps) | (with_reducible exact cmdAirSet_keeps)
    | (with_reducible refine State.KeepsNext.of (CmdDef.exec_keeps ?_ _ _ _) (by assumption))
    | ((with_reducible intro _ _); try dsimp only) | (split) | (with_reducible apply State.Keeps.of_pair (by assumption)) | (dsimp only)
    | (with_reducible apply CmdDef.exec_keeps))

theorem execObjectUpdate_keeps {r0 s : State} (k0 : r0.Keeps s) (h : Hdr) (p : Bytes) :
    r0.KeepsNext (execObjectUpdate h p s) := by
  unfold execObjectUpdate
  try dsimp only
  repeat' (first
    | (with_reducible apply State.KeepsNext.next) | (with_reducible exact k0) | (with_reducible exact .refl _)
    | (with_reducible apply CmdDef.exec_keeps) | (with_reducible exact cmdObjectUpdate_keeps)
    | (with_reducible refine State.KeepsNext.of (CmdDef.exec_keeps ?_ _ _ _) (by assumption))
    | ((with_reducible intro _ _); try dsimp only) | (split) | (with_reducible apply State.Keeps.of_pair (by assumption)) | (dsimp only)
    | (with_reducible apply CmdDef.exec_keeps))

theorem execObjectDirectSet_keeps {r0 s : State} (k0 : r0.Keeps s) (h : Hdr) (p : Bytes) :
    r0.KeepsNext (execObjectDirectSet h p s) := by
  unfold execObjectDirectSet
  try dsimp only
  repeat' (first
    | (with_reducible apply State.KeepsNext.next) | (with_reducible exact k0) | (with_reducible exact .refl _)
    | (with_reducible apply CmdDef.exec_keeps) | (with_reducible exact cmdObjectDirectSet_keeps)
    | (with_reducible refine State.KeepsNext.of (CmdDef.exec_keeps ?_ _ _ _) (by assumption))
    | ((with_reducible intro _ _); try dsimp only) | (split) | (with_reducible apply State.Keeps.of_pair (by assumption)) | (dsimp only)
    | (with_reducible apply CmdDef.exec_keeps))

theorem execObjectStatus_keeps {r0 s : State} (k0 : r0.Keeps s) (h : Hdr) (p : Bytes) :
    r0.KeepsNext (execObjectStatus h p s) := by
  unfold execObjectStatus
  try dsimp only
  repeat' (first
    | (with_reducible apply State.KeepsNext.next) | (with_reducible exact k0) | (with_reducible exact .refl _)
    | (with_reducible apply CmdDef.exec_keeps) | (with_reducible exact cmdObjectStatus_keeps)
    | (with_reducible refine State.KeepsNext.of (CmdDef.exec_keeps ?_ _ _ _) (by assumption))
    | ((with_reducible intro _ _); try dsimp only) | (split) | (with_reducible apply State.Keeps.of_pair (by assumption)) | (dsimp only)
    | (with_reducible apply CmdDef.exec_keeps))

theorem execInputMapSet_keeps {r0 s : State} (k0 : r0.Keeps s) (h : Hdr) (p : Bytes) :
    r0.KeepsNext (execInputMapSet h p s) := by
  unfold execInputMapSet
  try dsimp only
  repeat' (first
    | (with_reducible apply State.KeepsNext.next) | (with_reducible exact k0) | (with_reducible exact .refl _)
    | (with_reducible apply CmdDef.exec_keeps) | (with_reducible exact cmdInputMapSet_keeps)
    | (with_reducible refine State.KeepsNext.of (CmdDef.exec_keeps ?_ _ _ _) (by assumption))
    | ((with_reducible intro _ _); try dsimp only) | (split) | (with_reducible apply State.Keeps.of_pair (by assumption)) | (dsimp only)
    | (with_reducible apply CmdDef.exec_keeps))

theorem execOutputMapSet_keeps {r0 s : State} (k0 : r0.Keeps s) (h : Hdr) (p : Bytes) :
    r0.KeepsNext (execOutputMapSet h p s) := by
  unfold execOutputMapSet
  try dsimp only
  repeat' (first
    | (with_reducible apply State.KeepsNext.next) | (with_reducible exact k0) | (with_reducible exact .refl _)
    | (with_reducible apply CmdDef.exec_keeps) | (with_reducible exact cmdOutputMapSet_keeps)
    | (with_reducible refine State.KeepsNext.of (CmdDef.exec_keeps ?_ _ _ _) (by assumption))
    | ((with_reducible intro _ _); try dsimp only) | (split) | (with_reducible apply State.Keeps.of_pair (by assumption)) | (dsimp only)
    | (with_reducible apply CmdDef.exec_keeps))

theorem execSceneRxSet_keeps {r0 s : State} (k0 : r0.Keeps s) (h : Hdr) (p : Bytes) :
    r0.KeepsNext (execSceneRxSet h p s) := by
  unfold execSceneRxSet
  try dsimp only
  repeat' (first
    | (with_reducible apply State.KeepsNext.next) | (with_reducible exact k0) | (with_reducible exact .refl _)
    | (with_reducible apply CmdDef.exec_keeps) | (with_reducible exact cmdSceneRxSet_keeps)
    | (with_reducible refine State.KeepsNext.of (CmdDef.exec_keeps ?_ _ _ _) (by assumption))
    | ((with_reducible intro _ _); try dsimp only) | (split) | (with_reducible apply State.Keeps.of_pair (by assumption)) | (dsimp only)
    | (with_reducible apply CmdDef.exec_keeps))

theorem execPrismHalfSet_keeps {r0 s : State} (k0 : r0.Keeps s) (h : Hdr) (p : Bytes) :
    r0.KeepsNext (execPrismHalfSet h p s) := by
  unfold execPrismHalfSet
  try dsimp only
  repeat' (first
    | (with_reducible apply State.KeepsNext.next) | (with_reducible exact k0) | (with_reducible exact .refl _)
    | (with_reducible apply CmdDef.exec_keeps) | (with_reducible exact cmdPrismHalfSet_keeps)
    | (with_reducible refine State.KeepsNext.of (CmdDef.exec_keeps ?_ _ _ _) (by assumption))
    | ((with_reducible intro _ _); try dsimp only) | (split) | (with_reducible apply State.Keeps.of_pair (by assumption)) | (dsimp only)
    | (with_reducible apply CmdDef.exec_keeps))

theorem execAlignDelaySet_keeps {r0 s : State} (k0 : r0.Keeps s) (h : Hdr) (p : Bytes) :
    r0.KeepsNext (execAlignDelaySet h p s) := by
  unfold execAlignDelaySet
  try dsimp only
  repeat' (first
    | (with_reducible apply State.KeepsNext.next) | (with_reducible exact k0) | (with_reducible exact .refl _)
    | (with_reducible apply CmdDef.exec_keeps) | (with_reducible exact cmdAlignDelaySet_keeps)
    | (with_reducible refine State.KeepsNext.of (CmdDef.exec_keeps ?_ _ _ _) (by assumption))
    | ((with_reducible intro _ _); try dsimp only) | (split) | (with_reducible apply State.Keeps.of_pair (by assumption)) | (dsimp only)
    | (with_reducible apply CmdDef.exec_keeps))

theorem execPrismAirSet_keeps {r0 s : State} (k0 : r0.Keeps s) (h : Hdr) (p : Bytes) :
    r0.KeepsNext (execPrismAirSet h p s) := by
  unfold execPrismAirSet
  try dsimp only
  repeat' (first
    | (with_reducible apply State.KeepsNext.next) | (with_reducible exact k0) | (with_reducible exact .refl _)
    | (with_reducible apply CmdDef.exec_keeps) | (with_reducible exact cmdPrismAirSet_keeps)
    | (with_reducible refine State.KeepsNext.of (CmdDef.exec_keeps ?_ _ _ _) (by assumption))
    | ((with_reducible intro _ _); try dsimp only) | (split) | (with_reducible apply State.Keeps.of_pair (by assumption)) | (dsimp only)
    | (with_reducible apply CmdDef.exec_keeps))

theorem execPrismXfadeSet_keeps {r0 s : State} (k0 : r0.Keeps s) (h : Hdr) (p : Bytes) :
    r0.KeepsNext (execPrismXfadeSet h p s) := by
  unfold execPrismXfadeSet
  try dsimp only
  repeat' (first
    | (with_reducible apply State.KeepsNext.next) | (with_reducible exact k0) | (with_reducible exact .refl _)
    | (with_reducible apply CmdDef.exec_keeps) | (with_reducible exact cmdPrismXfadeSet_keeps)
    | (with_reducible refine State.KeepsNext.of (CmdDef.exec_keeps ?_ _ _ _) (by assumption))
    | ((with_reducible intro _ _); try dsimp only) | (split) | (with_reducible apply State.Keeps.of_pair (by assumption)) | (dsimp only)
    | (with_reducible apply CmdDef.exec_keeps))

theorem execPrismStatusGet_keeps {r0 s : State} (k0 : r0.Keeps s) (h : Hdr) (p : Bytes) :
    r0.KeepsNext (execPrismStatusGet h p s) := by
  unfold execPrismStatusGet
  try dsimp only
  repeat' (first
    | (with_reducible apply State.KeepsNext.next) | (with_reducible exact k0) | (with_reducible exact .refl _)
    | (with_reducible apply CmdDef.exec_keeps) | (with_reducible exact cmdPrismStatusGet_keeps)
    | (with_reducible refine State.KeepsNext.of (CmdDef.exec_keeps ?_ _ _ _) (by assumption))
    | ((with_reducible intro _ _); try dsimp only) | (split) | (with_reducible apply State.Keeps.of_pair (by assumption)) | (dsimp only)
    | (with_reducible apply CmdDef.exec_keeps))

theorem execMetaCfgSet_keeps {r0 s : State} (k0 : r0.Keeps s) (h : Hdr) (p : Bytes) :
    r0.KeepsNext (execMetaCfgSet h p s) := by
  unfold execMetaCfgSet
  try dsimp only
  repeat' (first
    | (with_reducible apply State.KeepsNext.next) | (with_reducible exact k0) | (with_reducible exact .refl _)
    | (with_reducible apply CmdDef.exec_keeps) | (with_reducible exact cmdMetaCfgSet_keeps)
    | (with_reducible refine State.KeepsNext.of (CmdDef.exec_keeps ?_ _ _ _) (by assumption))
    | ((with_reducible intro _ _); try dsimp only) | (split) | (with_reducible apply State.Keeps.of_pair (by assumption)) | (dsimp only)
    | (with_reducible apply CmdDef.exec_keeps))

theorem execTrajModelSet_keeps {r0 s : State} (k0 : r0.Keeps s) (h : Hdr) (p : Bytes) :
    r0.KeepsNext (execTrajModelSet h p s) := by
  unfold execTrajModelSet
  try dsimp only
  repeat' (first
    | (with_reducible apply State.KeepsNext.next) | (with_reducible exact k0) | (with_reducible exact .refl _)
    | (with_reducible apply CmdDef.exec_keeps) | (with_reducible exact cmdTrajModelSet_keeps)
    | (with_reducible refine State.KeepsNext.of (CmdDef.exec_keeps ?_ _ _ _) (by assumption))
    | ((with_reducible intro _ _); try dsimp only) | (split) | (with_reducible apply State.Keeps.of_pair (by assumption)) | (dsimp only)
    | (with_reducible apply CmdDef.exec_keeps))

theorem execObjectRelease_keeps {r0 s : State} (k0 : r0.Keeps s) (h : Hdr) (p : Bytes) :
    r0.KeepsNext (execObjectRelease h p s) := by
  unfold execObjectRelease
  try dsimp only
  repeat' (first
    | (with_reducible apply State.KeepsNext.next) | (with_reducible exact k0) | (with_reducible exact .refl _)
    | (with_reducible apply CmdDef.exec_keeps) | (with_reducible exact cmdObjectRelease_keeps)
    | (with_reducible refine State.KeepsNext.of (CmdDef.exec_keeps ?_ _ _ _) (by assumption))
    | ((with_reducible intro _ _); try dsimp only) | (split) | (with_reducible apply State.Keeps.of_pair (by assumption)) | (dsimp only)
    | (with_reducible apply CmdDef.exec_keeps))

theorem execPlacementReport_keeps {r0 s : State} (k0 : r0.Keeps s) (h : Hdr) (p : Bytes) :
    r0.KeepsNext (execPlacementReport h p s) := by
  unfold execPlacementReport
  try dsimp only
  repeat' (first
    | (with_reducible apply State.KeepsNext.next) | (with_reducible exact k0) | (with_reducible exact .refl _)
    | (with_reducible apply CmdDef.exec_keeps) | (with_reducible exact cmdPlacementReport_keeps)
    | (with_reducible refine State.KeepsNext.of (CmdDef.exec_keeps ?_ _ _ _) (by assumption))
    | ((with_reducible intro _ _); try dsimp only) | (split) | (with_reducible apply State.Keeps.of_pair (by assumption)) | (dsimp only)
    | (with_reducible apply CmdDef.exec_keeps))

/-! ### Machine/Steps.lean -/

theorem State.stepReport_keeps {r0 s : State} (k0 : r0.Keeps s) (r : StepReq) (d : Int) :
    r0.Keeps (State.stepReport s r d) := by
  unfold State.stepReport
  try dsimp only
  repeat' (first
    | (with_reducible exact k0) | (with_reducible exact .refl _) | (with_reducible apply State.bump_keeps)
    | (with_reducible apply State.raise_keeps) | (with_reducible apply State.traceRec_keeps) | (with_reducible apply State.setServo_keeps)
    | (with_reducible apply State.onTime_keeps) | (with_reducible apply State.pieceDone?_keeps)
    | ((with_reducible intro _ _); try dsimp only) | (split) | (with_reducible apply State.Keeps.of_pair (by assumption)) | (dsimp only))

theorem State.moveTick_keeps {r0 s : State} (k0 : r0.Keeps s) (d : Int) :
    r0.Keeps (State.moveTick s d) := by
  unfold State.moveTick
  try dsimp only
  repeat' (first
    | (with_reducible exact k0) | (with_reducible exact .refl _) | (with_reducible apply State.onTime_keeps)
    | ((with_reducible intro _ _); try dsimp only) | (split) | (with_reducible apply State.Keeps.of_pair (by assumption)) | (dsimp only))

theorem State.parkStep_keeps {r0 s : State} (k0 : r0.Keeps s)  :
    r0.Keeps (State.parkStep s) := by
  unfold State.parkStep
  try dsimp only
  repeat' (first
    | (with_reducible exact k0) | (with_reducible exact .refl _) | (with_reducible apply State.moveTick_keeps)
    | (with_reducible apply State.onTime_keeps) | (with_reducible apply State.stepReport_keeps)
    | ((with_reducible intro _ _); try dsimp only) | (split) | (with_reducible apply State.Keeps.of_pair (by assumption)) | (dsimp only))

theorem State.idleStep_keeps {r0 s : State} (k0 : r0.Keeps s)  :
    r0.Keeps (State.idleStep s) := by
  unfold State.idleStep
  try dsimp only
  repeat' (first
    | (with_reducible exact k0) | (with_reducible exact .refl _) | (with_reducible apply State.parkStep_keeps)
    | ((with_reducible intro _ _); try dsimp only) | (split) | (with_reducible apply State.Keeps.of_pair (by assumption)) | (dsimp only))

theorem State.condCount_keeps {r0 s : State} (k0 : r0.Keeps s) (k i : Nat) :
    r0.Keeps (State.condCount s k i) := by
  unfold State.condCount
  try dsimp only
  repeat' (first
    | (with_reducible exact k0) | (with_reducible exact .refl _) | (with_reducible apply State.perfRaw_keeps)
    | ((with_reducible intro _ _); try dsimp only) | (split) | (with_reducible apply State.Keeps.of_pair (by assumption)) | (dsimp only))

theorem State.condPass_keeps {r0 s : State} (k0 : r0.Keeps s) (k : Nat) :
    r0.Keeps (State.condPass s k) := by
  unfold State.condPass
  try dsimp only
  repeat' (first
    | (with_reducible exact k0) | (with_reducible exact .refl _) | (with_reducible apply State.each_keeps)
    | (with_reducible apply State.condCount_keeps) | (with_reducible apply State.onPerf_keeps) | (with_reducible apply State.fresh_keeps)
    | ((with_reducible intro _ _); try dsimp only) | (split) | (with_reducible apply State.Keeps.of_pair (by assumption)) | (dsimp only))

theorem State.passTicks_keeps {r0 s : State} (k0 : r0.Keeps s) (k : Nat) :
    r0.Keeps (State.passTicks s k) := by
  unfold State.passTicks
  try dsimp only
  repeat' (first
    | (with_reducible exact k0) | (with_reducible exact .refl _) | (with_reducible apply State.condPass_keeps)
    | (with_reducible apply State.onTime_keeps) | ((with_reducible intro _ _); try dsimp only) | (split)
    | (with_reducible apply State.Keeps.of_pair (by assumption)) | (dsimp only))

theorem State.tickTo_keeps {r0 s : State} (k0 : r0.Keeps s) (t : Nat) :
    r0.Keeps (State.tickTo s t) := by
  unfold State.tickTo
  try dsimp only
  repeat' (first
    | (with_reducible exact k0) | (with_reducible exact .refl _) | (with_reducible apply State.passTicks_keeps)
    | ((with_reducible intro _ _); try dsimp only) | (split) | (with_reducible apply State.Keeps.of_pair (by assumption)) | (dsimp only))

theorem State.idleTick_keeps {r0 s : State} (k0 : r0.Keeps s)  :
    r0.Keeps (State.idleTick s) := by
  unfold State.idleTick
  try dsimp only
  repeat' (first
    | (with_reducible exact k0) | (with_reducible exact .refl _) | (with_reducible apply State.passTicks_keeps)
    | (with_reducible apply State.idleStep_keeps) | ((with_reducible intro _ _); try dsimp only) | (split)
    | (with_reducible apply State.Keeps.of_pair (by assumption)) | (dsimp only))

/-! ### Machine/TraceBuf.lean -/

theorem State.drainTrace_keeps {r0 s : State} (k0 : r0.Keeps s)  :
    r0.Keeps (State.drainTrace s) := by
  unfold State.drainTrace
  try dsimp only
  repeat' (first
    | (with_reducible exact k0) | (with_reducible exact .refl _) | (with_reducible apply State.onTrace_keeps)
    | (with_reducible apply State.each_keeps) | (with_reducible apply State.bufStore_keeps) | ((with_reducible intro _ _); try dsimp only)
    | (split) | (with_reducible apply State.Keeps.of_pair (by assumption)) | (dsimp only))

theorem State.placeTrace_keeps {r0 s : State} (k0 : r0.Keeps s)  {t1 : State} (h1 : (State.placeTrace s) = some t1) :
    r0.Keeps t1 := by
  unfold State.placeTrace at h1
  try dsimp only at h1
  repeat' (first
    | (cases h1; done) | (injection h1 with h1; subst h1) | (split at h1)
    | (obtain ⟨e1, h2, h3⟩ := Option.map_eq_some_iff.1 h1; clear h1; subst h3; try dsimp only))
  all_goals repeat' (first
    | (with_reducible exact k0) | (with_reducible exact .refl _) | (with_reducible apply State.onTrace_keeps)
    | (with_reducible apply State.wr_keeps) | (with_reducible apply State.drainTrace_keeps)
    | (with_reducible refine State.place_keeps ?_ _ _ _ (by assumption))
    | (with_reducible refine State.place_keeps' ?_ _ _ _ (by assumption)) | ((with_reducible intro _ _); try dsimp only) | (split)
    | (with_reducible apply State.Keeps.of_pair (by assumption)) | (dsimp only))

theorem State.traceSkip_keeps {r0 s : State} (k0 : r0.Keeps s)  :
    r0.Keeps (State.traceSkip s) := by
  unfold State.traceSkip
  try dsimp only
  repeat' (first
    | (with_reducible exact k0) | (with_reducible exact .refl _) | (with_reducible apply State.onTrace_keeps)
    | ((with_reducible intro _ _); try dsimp only) | (split) | (with_reducible apply State.Keeps.of_pair (by assumption)) | (dsimp only))

theorem State.freeTrace_keeps {r0 s : State} (k0 : r0.Keeps s)  :
    r0.Keeps (State.freeTrace s) := by
  unfold State.freeTrace
  try dsimp only
  repeat' (first
    | (with_reducible exact k0) | (with_reducible exact .refl _) | (with_reducible apply State.onTrace_keeps)
    | (with_reducible apply State.unplace_keeps) | (with_reducible apply State.wr_keeps) | ((with_reducible intro _ _); try dsimp only)
    | (split) | (with_reducible apply State.Keeps.of_pair (by assumption)) | (dsimp only))

/-! ### Machine/Modes.lean -/

theorem State.placeLines_keeps {r0 s : State} (k0 : r0.Keeps s) (z1 : List Nat) {t1 : State} (h1 : State.placeLines s z1 = some t1) :
    r0.Keeps t1 := by
  induction z1 generalizing s with
  | nil => unfold State.placeLines at h1; injection h1 with h1; subst h1; exact k0
  | cons j js ih =>
    unfold State.placeLines at h1
    split at h1
    · exact ih k0 h1
    · split at h1
      · cases h1
      · exact ih (State.placeLine_keeps k0 _ (by assumption)) h1

theorem State.placeRegions_keeps {r0 s : State} (k0 : r0.Keeps s)  {t1 : State} (h1 : (State.placeRegions s) = some t1) :
    r0.Keeps t1 := by
  unfold State.placeRegions at h1
  try dsimp only at h1
  repeat' (first
    | (cases h1; done) | (injection h1 with h1; subst h1) | (split at h1)
    | (obtain ⟨e1, h2, h3⟩ := Option.map_eq_some_iff.1 h1; clear h1; subst h3; try dsimp only))
  all_goals repeat' (first
    | (with_reducible exact k0) | (with_reducible exact .refl _) | (with_reducible refine State.placeTrace_keeps ?_ (by assumption))
    | (with_reducible refine State.placeTails_keeps ?_ (by assumption))
    | (with_reducible refine State.placeLines_keeps ?_ _ (by assumption))
    | (with_reducible refine State.placeBuffers_keeps ?_ _ (by assumption)) | ((with_reducible intro _ _); try dsimp only) | (split)
    | (with_reducible apply State.Keeps.of_pair (by assumption)) | (dsimp only))

theorem State.startChange_keeps {r0 s : State} (k0 : r0.Keeps s) (h : Hdr) (m : Mode) :
    r0.Keeps (State.startChange s h m) := by
  unfold State.startChange
  try dsimp only
  repeat' (first
    | (with_reducible exact k0) | (with_reducible exact .refl _) | (with_reducible apply State.genStop_keeps)
    | (with_reducible apply State.newJob_keeps) | (with_reducible apply State.onSys_keeps) | (with_reducible apply State.wakeFor_keeps)
    | (exact fun _ => ⟨rfl, rfl, id, fun _ => id⟩) | ((with_reducible intro _ _); try dsimp only) | (split)
    | (with_reducible apply State.Keeps.of_pair (by assumption)) | (dsimp only))

theorem cmdModeSet_keeps : cmdModeSet.Keeps := by
  intro h p s
  have k0 := State.Keeps.refl s
  unfold cmdModeSet
  try dsimp only [mkCmd, mkBulk]
  repeat' (first
    | (with_reducible exact k0) | (with_reducible exact .refl _) | (with_reducible exact mkCmd_keeps)
    | (with_reducible apply checked_keeps) | (with_reducible apply State.startChange_keeps) | ((with_reducible intro _ _); try dsimp only)
    | (split) | (with_reducible apply State.Keeps.of_pair (by assumption)) | (dsimp only))

theorem execModeSet_keeps {r0 s : State} (k0 : r0.Keeps s) (h : Hdr) (p : Bytes) :
    r0.KeepsNext (execModeSet h p s) := by
  unfold execModeSet
  try dsimp only
  repeat' (first
    | (with_reducible apply State.KeepsNext.next) | (with_reducible exact k0) | (with_reducible exact .refl _)
    | (with_reducible apply CmdDef.exec_keeps) | (with_reducible exact cmdModeSet_keeps)
    | (with_reducible refine State.KeepsNext.of (CmdDef.exec_keeps ?_ _ _ _) (by assumption))
    | ((with_reducible intro _ _); try dsimp only) | (split) | (with_reducible apply State.Keeps.of_pair (by assumption)) | (dsimp only)
    | (with_reducible apply CmdDef.exec_keeps))

theorem State.lensEnter_keeps {r0 s : State} (k0 : r0.Keeps s) (q : Int) :
    r0.Keeps (State.lensEnter s q) := by
  unfold State.lensEnter
  try dsimp only
  repeat' (first
    | (with_reducible exact k0) | (with_reducible exact .refl _) | (with_reducible apply State.each_keeps)
    | (with_reducible apply State.setLensBus_keeps) | (with_reducible apply State.onLens_keeps)
    | ((with_reducible intro _ _); try dsimp only) | (split) | (with_reducible apply State.Keeps.of_pair (by assumption)) | (dsimp only))

theorem State.clearLive_keeps {r0 s : State} (k0 : r0.Keeps s)  :
    r0.Keeps (State.clearLive s) := by
  unfold State.clearLive
  try dsimp only
  repeat' (first
    | (with_reducible exact k0) | (with_reducible exact .refl _) | (with_reducible apply State.withMem_keeps)
    | (with_reducible apply State.each_keeps)
    | (intro hm; (repeat (first | exact hm | apply mwrite_wf | apply mclear_wf | apply mmove_wf)); done)
    | ((with_reducible intro _ _); try dsimp only) | (split) | (with_reducible apply State.Keeps.of_pair (by assumption)) | (dsimp only))

theorem State.tasksEnter_keeps {r0 s : State} (k0 : r0.Keeps s)  :
    r0.Keeps (State.tasksEnter s) := by
  unfold State.tasksEnter
  try dsimp only
  repeat' (first
    | (with_reducible exact k0) | (with_reducible exact .refl _) | (with_reducible apply State.each_keeps)
    | (with_reducible apply State.initRegions_keeps) | (with_reducible apply State.setTask_keeps)
    | ((with_reducible intro _ _); try dsimp only) | (split) | (with_reducible apply State.Keeps.of_pair (by assumption)) | (dsimp only))

theorem State.engines_keeps {r0 s : State} (k0 : r0.Keeps s) (on paths : Bool) :
    r0.Keeps (State.engines s on paths) := by
  unfold State.engines
  try dsimp only
  repeat' (first
    | (with_reducible exact k0) | (with_reducible exact .refl _) | (with_reducible apply State.setFld_keeps)
    | (with_reducible apply State.each_keeps) | ((with_reducible intro _ _); try dsimp only) | (split)
    | (with_reducible apply State.Keeps.of_pair (by assumption)) | (dsimp only))

theorem State.mirEnter_keeps {r0 s : State} (k0 : r0.Keeps s) (m : Mode) :
    r0.Keeps (State.mirEnter s m).1 := by
  unfold State.mirEnter
  try dsimp only
  repeat' (first
    | (with_reducible exact k0) | (with_reducible exact .refl _) | (with_reducible apply State.onMir_keeps)
    | ((with_reducible intro _ _); try dsimp only) | (split) | (with_reducible apply State.Keeps.of_pair (by assumption)) | (dsimp only))

theorem State.pipeEnter_keeps {r0 s : State} (k0 : r0.Keeps s) (m : Mode) :
    r0.Keeps (State.pipeEnter s m) := by
  unfold State.pipeEnter
  try dsimp only
  repeat' (first
    | (with_reducible exact k0) | (with_reducible exact .refl _) | (with_reducible apply State.onPipe_keeps)
    | (with_reducible apply State.halfPower_keeps) | (with_reducible apply State.onPrism_keeps)
    | ((with_reducible intro _ _); try dsimp only) | (split) | (with_reducible apply State.Keeps.of_pair (by assumption)) | (dsimp only))

theorem State.firstQuantum_keeps {r0 s : State} (k0 : r0.Keeps s) (n : Nat) (q : Int) :
    r0.Keeps (State.firstQuantum s n q) := by
  unfold State.firstQuantum
  try dsimp only
  repeat' (first
    | (with_reducible exact k0) | (with_reducible exact .refl _) | (with_reducible apply State.measureQuantum_keeps)
    | (with_reducible apply State.renderQuantum_keeps) | ((with_reducible intro _ _); try dsimp only) | (split)
    | (with_reducible apply State.Keeps.of_pair (by assumption)) | (dsimp only))

theorem State.firstSetup_keeps {r0 s : State} (k0 : r0.Keeps s) (n : Nat) :
    r0.Keeps (State.firstSetup s n) := by
  unfold State.firstSetup
  try dsimp only
  repeat' (first
    | (with_reducible exact k0) | (with_reducible exact .refl _) | (with_reducible apply State.stepAir_keeps)
    | (with_reducible apply State.commitLayout_keeps) | (with_reducible apply State.pathSetup_keeps)
    | (with_reducible apply State.metaEntry_keeps) | ((with_reducible intro _ _); try dsimp only) | (split)
    | (with_reducible apply State.Keeps.of_pair (by assumption)) | (dsimp only))

theorem State.modeEntered_keeps {r0 s : State} (k0 : r0.Keeps s) (r : ModeReq) (m : Mode) :
    r0.Keeps (State.modeEntered s r m) := by
  unfold State.modeEntered
  try dsimp only
  repeat' (first
    | (with_reducible exact k0) | (with_reducible exact .refl _) | (with_reducible apply State.onSys_keeps)
    | (with_reducible apply State.setMode_keeps) | (with_reducible apply State.pieceDone?_keeps)
    | (exact fun _ => ⟨rfl, rfl, id, fun _ => id⟩) | ((with_reducible intro _ _); try dsimp only) | (split)
    | (with_reducible apply State.Keeps.of_pair (by assumption)) | (dsimp only))

theorem State.enterLive_keeps {r0 s : State} (k0 : r0.Keeps s) (r : ModeReq) : r0.Keeps (State.enterLive s r) := by
  unfold State.enterLive
  extract_lets n q s1 s2
  have h1 : r0.Keeps s1 := State.clearLive_keeps (State.pipeEnter_keeps (getD_keeps k0 (fun _ h => State.placeRegions_keeps k0 h)) _)
  have h2 : r0.Keeps s2 :=
    State.engines_keeps (State.portsStart_keeps (State.micStart_keeps (State.lensEnter_keeps (State.tasksEnter_keeps h1) _))) _ _
  have h3 := State.mirEnter_keeps h2 r.target
  revert h3
  generalize s2.mirEnter r.target = p
  obtain ⟨s3, m⟩ := p
  intro h3
  have h4 : r0.Keeps (s3.onSys (fun x => { x with mode := m })) := State.onSys_keeps h3 _ (fun _ => ⟨rfl, rfl, id, fun _ => id⟩)
  have h5 := State.firstSetup_keeps (State.firstQuantum_keeps (State.streamsBoundary_keeps (State.pushMap_keeps h4) n) n q) n
  dsimp only
  with_reducible apply State.modeEntered_keeps
  with_reducible apply State.onSys_keeps
  · with_reducible apply State.onSched_keeps
    with_reducible exact h5
  · exact fun _ => ⟨rfl, rfl, id, fun _ => id⟩

theorem State.parkSwap_keeps {r0 s : State} (k0 : r0.Keeps s) (b : Nat) :
    r0.Keeps (State.parkSwap s b) := by
  unfold State.parkSwap
  try dsimp only
  repeat' (first
    | (with_reducible exact k0) | (with_reducible exact .refl _) | (with_reducible apply State.fadeEnd_keeps)
    | (with_reducible apply State.leaveQueue_keeps) | (with_reducible apply State.setLensBus_keeps)
    | (with_reducible apply State.pieceDrop_keeps) | ((with_reducible intro _ _); try dsimp only) | (split)
    | (with_reducible apply State.Keeps.of_pair (by assumption)) | (dsimp only))

theorem State.parkComp_keeps {r0 s : State} (k0 : r0.Keeps s) (c : Nat) :
    r0.Keeps (State.parkComp s c) := by
  unfold State.parkComp
  try dsimp only
  repeat' (first
    | (with_reducible exact k0) | (with_reducible exact .refl _) | (with_reducible apply State.compFadeEnd_keeps)
    | (with_reducible apply State.setMic_keeps) | (with_reducible apply State.pieceDrop_keeps)
    | ((with_reducible intro _ _); try dsimp only) | (split) | (with_reducible apply State.Keeps.of_pair (by assumption)) | (dsimp only))

theorem State.parkLoads_keeps {r0 s : State} (k0 : r0.Keeps s)  :
    r0.Keeps (State.parkLoads s) := by
  unfold State.parkLoads
  try dsimp only
  repeat' (first
    | (with_reducible exact k0) | (with_reducible exact .refl _) | (with_reducible apply State.each_keeps)
    | (with_reducible apply State.loadBank_keeps) | (with_reducible apply State.endCompLoads_keeps)
    | ((with_reducible intro _ _); try dsimp only) | (split) | (with_reducible apply State.Keeps.of_pair (by assumption)) | (dsimp only))

theorem State.parkAlign_keeps {r0 s : State} (k0 : r0.Keeps s) (j : Nat) :
    r0.Keeps (State.parkAlign s j) := by
  unfold State.parkAlign
  try dsimp only
  repeat' (first
    | (with_reducible exact k0) | (with_reducible exact .refl _) | (with_reducible apply State.setObj_keeps)
    | (with_reducible apply State.pieceDone?_keeps) | (with_reducible apply State.freeLine_keeps)
    | ((with_reducible intro _ _); try dsimp only) | (split) | (with_reducible apply State.Keeps.of_pair (by assumption)) | (dsimp only))

theorem State.parkGrants_keeps {r0 s : State} (k0 : r0.Keeps s)  :
    r0.Keeps (State.parkGrants s) := by
  unfold State.parkGrants
  try dsimp only
  repeat' (first
    | (with_reducible exact k0) | (with_reducible exact .refl _) | (with_reducible apply State.each_keeps)
    | (with_reducible apply State.setLensBus_keeps) | (with_reducible apply State.pieceDone_keeps)
    | ((with_reducible intro _ _); try dsimp only) | (split) | (with_reducible apply State.Keeps.of_pair (by assumption)) | (dsimp only))

theorem State.parkHalf_keeps {r0 s : State} (k0 : r0.Keeps s)  :
    r0.Keeps (State.parkHalf s) := by
  unfold State.parkHalf
  try dsimp only
  repeat' (first
    | (with_reducible exact k0) | (with_reducible exact .refl _) | (with_reducible apply State.onPrism_keeps)
    | (with_reducible apply State.endJob_keeps) | ((with_reducible intro _ _); try dsimp only) | (split)
    | (with_reducible apply State.Keeps.of_pair (by assumption)) | (dsimp only))

theorem State.parkStop_keeps {r0 s : State} (k0 : r0.Keeps s)  :
    r0.Keeps (State.parkStop s) := by
  unfold State.parkStop
  try dsimp only
  repeat' (first
    | (with_reducible exact k0) | (with_reducible exact .refl _) | (with_reducible apply State.freeCapture_keeps)
    | (with_reducible apply State.discardFacet_keeps) | (with_reducible apply State.parkHalf_keeps)
    | (with_reducible apply State.portsStop_keeps) | (with_reducible apply State.micStop_keeps)
    | (with_reducible apply State.onPrism_keeps) | (with_reducible apply State.onPipe_keeps) | (with_reducible apply State.metaPark_keeps)
    | (with_reducible apply State.genRelease_keeps) | (with_reducible apply State.streamsStop_keeps)
    | ((with_reducible intro _ _); try dsimp only) | (split) | (with_reducible apply State.Keeps.of_pair (by assumption)) | (dsimp only))

theorem State.freeHostRegion_keeps {r0 s : State} (k0 : r0.Keeps s)  :
    r0.Keeps (State.freeHostRegion s) := by
  unfold State.freeHostRegion
  try dsimp only
  repeat' (first
    | (with_reducible exact k0) | (with_reducible exact .refl _) | (with_reducible apply State.unplace_keeps)
    | (with_reducible apply State.onHost_keeps) | (with_reducible apply State.wr_keeps) | ((with_reducible intro _ _); try dsimp only)
    | (split) | (with_reducible apply State.Keeps.of_pair (by assumption)) | (dsimp only))

theorem State.moveTails_keeps {r0 s : State} (k0 : r0.Keeps s) : r0.Keeps (State.moveTails s) := by
  unfold State.moveTails
  split
  · have h1 : r0.Keeps ((((s.unplace 2 0).place 2 0 s.tailUnits).map (·.2)).getD s) := getD_keeps k0 (fun t ht => by
      obtain ⟨e, h2, h3⟩ := Option.map_eq_some_iff.1 ht
      subst h3
      exact State.place_keeps (State.unplace_keeps k0 _ _) _ _ _ h2)
    refine State.fresh_keeps (State.each_keeps h1 _ _ (fun t e => ?_))
    split
    · exact .refl _
    · exact State.setLensBus_keeps (.refl _) _ _
  · exact k0

theorem State.moveSpill_keeps {r0 s : State} (k0 : r0.Keeps s)  :
    r0.Keeps (State.moveSpill s) := by
  unfold State.moveSpill
  try dsimp only
  repeat' (first
    | (with_reducible exact k0) | (with_reducible exact .refl _) | (with_reducible apply State.unplace_keeps)
    | (with_reducible apply State.onSched_keeps) | (with_reducible refine State.placeSpill_keeps ?_ (by assumption))
    | (with_reducible apply getD_keeps) | ((with_reducible intro _ _); try dsimp only) | (split)
    | (with_reducible apply State.Keeps.of_pair (by assumption)) | (dsimp only))

theorem State.dropRetired_keeps {r0 s : State} (k0 : r0.Keeps s)  :
    r0.Keeps (State.dropRetired s) := by
  unfold State.dropRetired
  try dsimp only
  repeat' (first
    | (with_reducible exact k0) | (with_reducible exact .refl _) | (with_reducible apply State.each_keeps)
    | (with_reducible apply State.freeLine_keeps) | (with_reducible apply State.freeBuffer_keeps)
    | (with_reducible refine State.place_keeps ?_ _ _ _ (by assumption))
    | (with_reducible refine State.place_keeps' ?_ _ _ _ (by assumption)) | ((with_reducible intro _ _); try dsimp only) | (split)
    | (with_reducible apply State.Keeps.of_pair (by assumption)) | (dsimp only))

theorem State.dropSegments_keeps {r0 s : State} (k0 : r0.Keeps s)  :
    r0.Keeps (State.dropSegments s) := by
  unfold State.dropSegments
  try dsimp only
  repeat' (first
    | (with_reducible exact k0) | (with_reducible exact .refl _) | (with_reducible apply State.each_keeps)
    | (with_reducible apply State.withMem_keeps)
    | (intro hm; (repeat (first | exact hm | apply mwrite_wf | apply mclear_wf | apply mmove_wf)); done)
    | ((with_reducible intro _ _); try dsimp only) | (split) | (with_reducible apply State.Keeps.of_pair (by assumption)) | (dsimp only))

theorem State.parkDram_keeps {r0 s : State} (k0 : r0.Keeps s)  :
    r0.Keeps (State.parkDram s) := by
  unfold State.parkDram
  try dsimp only
  repeat' (first
    | (with_reducible exact k0) | (with_reducible exact .refl _) | (with_reducible apply State.freeTrace_keeps)
    | (with_reducible apply State.dropRetired_keeps) | (with_reducible apply State.moveSpill_keeps)
    | (with_reducible apply State.dropSegments_keeps) | (with_reducible apply State.freeHostRegion_keeps)
    | (with_reducible apply State.moveTails_keeps) | ((with_reducible intro _ _); try dsimp only) | (split)
    | (with_reducible apply State.Keeps.of_pair (by assumption)) | (dsimp only))

theorem State.enterPark_keeps {r0 s : State} (k0 : r0.Keeps s) (r : ModeReq) :
    r0.Keeps (State.enterPark s r) := by
  unfold State.enterPark
  try dsimp only
  repeat' (first
    | (with_reducible exact k0) | (with_reducible exact .refl _) | (with_reducible apply State.each_keeps)
    | (with_reducible apply State.parkSwap_keeps) | (with_reducible apply State.parkComp_keeps)
    | (with_reducible apply State.parkAlign_keeps) | (with_reducible apply State.parkStop_keeps)
    | (with_reducible apply State.parkStep_keeps) | (with_reducible apply State.engines_keeps) | (with_reducible apply State.onMir_keeps)
    | (with_reducible apply State.ddrSleep_keeps) | (with_reducible apply State.setPwr_keeps)
    | (with_reducible apply State.modeEntered_keeps) | (with_reducible apply State.parkLoads_keeps)
    | (with_reducible apply State.parkGrants_keeps) | (with_reducible apply State.parkDram_keeps)
    | ((with_reducible intro _ _); try dsimp only) | (split) | (with_reducible apply State.Keeps.of_pair (by assumption)) | (dsimp only))

theorem execModeEntry_keeps {r0 s : State} (k0 : r0.Keeps s)  :
    r0.KeepsNext (execModeEntry s) := by
  unfold execModeEntry
  try dsimp only
  repeat' (first
    | (with_reducible apply State.KeepsNext.next) | (with_reducible exact k0) | (with_reducible exact .refl _)
    | (with_reducible apply State.enterPark_keeps) | (with_reducible apply State.enterLive_keeps)
    | ((with_reducible intro _ _); try dsimp only) | (split) | (with_reducible apply State.Keeps.of_pair (by assumption)) | (dsimp only))

theorem State.atRate_keeps {r0 s : State} (k0 : r0.Keeps s) (r96 : Bool) :
    r0.Keeps (State.atRate s r96) := by
  unfold State.atRate
  try dsimp only
  repeat' (first
    | (with_reducible exact k0) | (with_reducible exact .refl _) | (with_reducible apply State.onTime_keeps)
    | ((with_reducible intro _ _); try dsimp only) | (split) | (with_reducible apply State.Keeps.of_pair (by assumption)) | (dsimp only))

theorem State.rateSet_keeps {r0 s : State} (k0 : r0.Keeps s) (r96 : Bool) :
    r0.Keeps (State.rateSet s r96) := by
  unfold State.rateSet
  try dsimp only
  repeat' (first
    | (with_reducible exact k0) | (with_reducible exact .refl _) | (with_reducible apply State.atRate_keeps)
    | (with_reducible apply State.onTime_keeps) | (with_reducible apply State.onMir_keeps) | (with_reducible apply State.setFld_keeps)
    | ((with_reducible intro _ _); try dsimp only) | (split) | (with_reducible apply State.Keeps.of_pair (by assumption)) | (dsimp only))

theorem cmdRateSet_keeps : cmdRateSet.Keeps := by
  intro h p s
  have k0 := State.Keeps.refl s
  unfold cmdRateSet
  try dsimp only [mkCmd, mkBulk]
  repeat' (first
    | (with_reducible exact k0) | (with_reducible exact .refl _) | (with_reducible exact mkCmd_keeps)
    | (with_reducible apply State.atRate_keeps) | (with_reducible apply checked_keeps) | (with_reducible apply State.rateSet_keeps)
    | ((with_reducible intro _ _); try dsimp only) | (split) | (with_reducible apply State.Keeps.of_pair (by assumption)) | (dsimp only))

theorem execRateSet_keeps {r0 s : State} (k0 : r0.Keeps s) (h : Hdr) (p : Bytes) :
    r0.KeepsNext (execRateSet h p s) := by
  unfold execRateSet
  try dsimp only
  repeat' (first
    | (with_reducible apply State.KeepsNext.next) | (with_reducible exact k0) | (with_reducible exact .refl _)
    | (with_reducible apply CmdDef.exec_keeps) | (with_reducible exact cmdRateSet_keeps)
    | (with_reducible refine State.KeepsNext.of (CmdDef.exec_keeps ?_ _ _ _) (by assumption))
    | ((with_reducible intro _ _); try dsimp only) | (split) | (with_reducible apply State.Keeps.of_pair (by assumption)) | (dsimp only)
    | (with_reducible apply CmdDef.exec_keeps))

theorem cmdSysReset_keeps : cmdSysReset.Keeps := by
  intro h p s
  have k0 := State.Keeps.refl s
  unfold cmdSysReset
  try dsimp only [mkCmd, mkBulk]
  repeat' (first
    | (with_reducible exact k0) | (with_reducible exact .refl _) | (with_reducible exact mkCmd_keeps)
    | (with_reducible apply checked_keeps) | (with_reducible apply State.onSys_keeps) | (exact fun _ => ⟨rfl, rfl, id, fun _ => id⟩)
    | ((with_reducible intro _ _); try dsimp only) | (split) | (with_reducible apply State.Keeps.of_pair (by assumption)) | (dsimp only))

theorem execSysReset_keeps {r0 s : State} (k0 : r0.Keeps s) (h : Hdr) (p : Bytes) :
    r0.KeepsNext (execSysReset h p s) := by
  unfold execSysReset
  try dsimp only
  repeat' (first
    | (with_reducible apply State.KeepsNext.next) | (with_reducible exact k0) | (with_reducible exact .refl _)
    | (with_reducible apply CmdDef.exec_keeps) | (with_reducible exact cmdSysReset_keeps)
    | (with_reducible refine State.KeepsNext.of (CmdDef.exec_keeps ?_ _ _ _) (by assumption))
    | ((with_reducible intro _ _); try dsimp only) | (split) | (with_reducible apply State.Keeps.of_pair (by assumption)) | (dsimp only)
    | (with_reducible apply CmdDef.exec_keeps))

end Sys2Proof.Machine
end

