-- ==== Sys2Proof/Laws/KeepsRows.lean ====
section
/-! SUPPORT. Keeps of the rows, and exec over all of them: one lemma for each operation, by the lemmas of what it calls. -/

namespace Sys2Proof.Machine

set_option linter.all false

/-! ### Machine/Facet.lean -/

theorem facetNext_keeps {r0 s : State} (k0 : r0.Keeps s) (n : Nat) (o : FOp) : r0.KeepsNext (facetNext s n o) := by
  unfold facetNext
  exact .next (State.facetExec_keeps k0 n o)

theorem execMulM_keeps {r0 s : State} (k0 : r0.Keeps s) (core : Nat) (a : MacArgs) :
    r0.KeepsNext (execMulM core a s) := by
  unfold execMulM
  try dsimp only
  repeat' (first
    | (with_reducible apply State.KeepsNext.next) | (with_reducible exact k0) | (with_reducible exact .refl _)
    | (with_reducible apply facetNext_keeps) | (with_reducible refine State.KeepsNext.of (facetNext_keeps ?_ _ _) (by assumption))
    | ((with_reducible intro _ _); try dsimp only) | (split) | (with_reducible apply State.Keeps.of_pair (by assumption)) | (dsimp only))

theorem execMac_keeps {r0 s : State} (k0 : r0.Keeps s) (core : Nat) (a : MacArgs) :
    r0.KeepsNext (execMac core a s) := by
  unfold execMac
  try dsimp only
  repeat' (first
    | (with_reducible apply State.KeepsNext.next) | (with_reducible exact k0) | (with_reducible exact .refl _)
    | (with_reducible apply facetNext_keeps) | (with_reducible refine State.KeepsNext.of (facetNext_keeps ?_ _ _) (by assumption))
    | ((with_reducible intro _ _); try dsimp only) | (split) | (with_reducible apply State.Keeps.of_pair (by assumption)) | (dsimp only))

theorem execMsb_keeps {r0 s : State} (k0 : r0.Keeps s) (core : Nat) (a : MacArgs) :
    r0.KeepsNext (execMsb core a s) := by
  unfold execMsb
  try dsimp only
  repeat' (first
    | (with_reducible apply State.KeepsNext.next) | (with_reducible exact k0) | (with_reducible exact .refl _)
    | (with_reducible apply facetNext_keeps) | (with_reducible refine State.KeepsNext.of (facetNext_keeps ?_ _ _) (by assumption))
    | ((with_reducible intro _ _); try dsimp only) | (split) | (with_reducible apply State.Keeps.of_pair (by assumption)) | (dsimp only))

theorem execMacq_keeps {r0 s : State} (k0 : r0.Keeps s) (core : Nat) (a : MacArgs) :
    r0.KeepsNext (execMacq core a s) := by
  unfold execMacq
  try dsimp only
  repeat' (first
    | (with_reducible apply State.KeepsNext.next) | (with_reducible exact k0) | (with_reducible exact .refl _)
    | (with_reducible apply facetNext_keeps) | (with_reducible refine State.KeepsNext.of (facetNext_keeps ?_ _ _) (by assumption))
    | ((with_reducible intro _ _); try dsimp only) | (split) | (with_reducible apply State.Keeps.of_pair (by assumption)) | (dsimp only))

theorem execDmac_keeps {r0 s : State} (k0 : r0.Keeps s) (core : Nat) (a : MacArgs) :
    r0.KeepsNext (execDmac core a s) := by
  unfold execDmac
  try dsimp only
  repeat' (first
    | (with_reducible apply State.KeepsNext.next) | (with_reducible exact k0) | (with_reducible exact .refl _)
    | (with_reducible apply facetNext_keeps) | (with_reducible refine State.KeepsNext.of (facetNext_keeps ?_ _ _) (by assumption))
    | ((with_reducible intro _ _); try dsimp only) | (split) | (with_reducible apply State.Keeps.of_pair (by assumption)) | (dsimp only))

theorem execDmsb_keeps {r0 s : State} (k0 : r0.Keeps s) (core : Nat) (a : MacArgs) :
    r0.KeepsNext (execDmsb core a s) := by
  unfold execDmsb
  try dsimp only
  repeat' (first
    | (with_reducible apply State.KeepsNext.next) | (with_reducible exact k0) | (with_reducible exact .refl _)
    | (with_reducible apply facetNext_keeps) | (with_reducible refine State.KeepsNext.of (facetNext_keeps ?_ _ _) (by assumption))
    | ((with_reducible intro _ _); try dsimp only) | (split) | (with_reducible apply State.Keeps.of_pair (by assumption)) | (dsimp only))

theorem execCmac_keeps {r0 s : State} (k0 : r0.Keeps s) (core : Nat) (a : MacArgs) :
    r0.KeepsNext (execCmac core a s) := by
  unfold execCmac
  try dsimp only
  repeat' (first
    | (with_reducible apply State.KeepsNext.next) | (with_reducible exact k0) | (with_reducible exact .refl _)
    | (with_reducible apply facetNext_keeps) | (with_reducible refine State.KeepsNext.of (facetNext_keeps ?_ _ _) (by assumption))
    | ((with_reducible intro _ _); try dsimp only) | (split) | (with_reducible apply State.Keeps.of_pair (by assumption)) | (dsimp only))

theorem execCmsb_keeps {r0 s : State} (k0 : r0.Keeps s) (core : Nat) (a : MacArgs) :
    r0.KeepsNext (execCmsb core a s) := by
  unfold execCmsb
  try dsimp only
  repeat' (first
    | (with_reducible apply State.KeepsNext.next) | (with_reducible exact k0) | (with_reducible exact .refl _)
    | (with_reducible apply facetNext_keeps) | (with_reducible refine State.KeepsNext.of (facetNext_keeps ?_ _ _) (by assumption))
    | ((with_reducible intro _ _); try dsimp only) | (split) | (with_reducible apply State.Keeps.of_pair (by assumption)) | (dsimp only))

theorem execAccClr_keeps {r0 s : State} (k0 : r0.Keeps s) (core : Nat) (a : AccArgs) :
    r0.KeepsNext (execAccClr core a s) := by
  unfold execAccClr
  try dsimp only
  repeat' (first
    | (with_reducible apply State.KeepsNext.next) | (with_reducible exact k0) | (with_reducible exact .refl _)
    | (with_reducible apply facetNext_keeps) | (with_reducible refine State.KeepsNext.of (facetNext_keeps ?_ _ _) (by assumption))
    | ((with_reducible intro _ _); try dsimp only) | (split) | (with_reducible apply State.Keeps.of_pair (by assumption)) | (dsimp only))

theorem execAccAdd_keeps {r0 s : State} (k0 : r0.Keeps s) (core : Nat) (a : AccArgs) :
    r0.KeepsNext (execAccAdd core a s) := by
  unfold execAccAdd
  try dsimp only
  repeat' (first
    | (with_reducible apply State.KeepsNext.next) | (with_reducible exact k0) | (with_reducible exact .refl _)
    | (with_reducible apply facetNext_keeps) | (with_reducible refine State.KeepsNext.of (facetNext_keeps ?_ _ _) (by assumption))
    | ((with_reducible intro _ _); try dsimp only) | (split) | (with_reducible apply State.Keeps.of_pair (by assumption)) | (dsimp only))

theorem execAccSub_keeps {r0 s : State} (k0 : r0.Keeps s) (core : Nat) (a : AccArgs) :
    r0.KeepsNext (execAccSub core a s) := by
  unfold execAccSub
  try dsimp only
  repeat' (first
    | (with_reducible apply State.KeepsNext.next) | (with_reducible exact k0) | (with_reducible exact .refl _)
    | (with_reducible apply facetNext_keeps) | (with_reducible refine State.KeepsNext.of (facetNext_keeps ?_ _ _) (by assumption))
    | ((with_reducible intro _ _); try dsimp only) | (split) | (with_reducible apply State.Keeps.of_pair (by assumption)) | (dsimp only))

theorem execAddd_keeps {r0 s : State} (k0 : r0.Keeps s) (core : Nat) (a : AccArgs) :
    r0.KeepsNext (execAddd core a s) := by
  unfold execAddd
  try dsimp only
  repeat' (first
    | (with_reducible apply State.KeepsNext.next) | (with_reducible exact k0) | (with_reducible exact .refl _)
    | (with_reducible apply facetNext_keeps) | (with_reducible refine State.KeepsNext.of (facetNext_keeps ?_ _ _) (by assumption))
    | ((with_reducible intro _ _); try dsimp only) | (split) | (with_reducible apply State.Keeps.of_pair (by assumption)) | (dsimp only))

theorem execSubd_keeps {r0 s : State} (k0 : r0.Keeps s) (core : Nat) (a : AccArgs) :
    r0.KeepsNext (execSubd core a s) := by
  unfold execSubd
  try dsimp only
  repeat' (first
    | (with_reducible apply State.KeepsNext.next) | (with_reducible exact k0) | (with_reducible exact .refl _)
    | (with_reducible apply facetNext_keeps) | (with_reducible refine State.KeepsNext.of (facetNext_keeps ?_ _ _) (by assumption))
    | ((with_reducible intro _ _); try dsimp only) | (split) | (with_reducible apply State.Keeps.of_pair (by assumption)) | (dsimp only))

theorem execNegA_keeps {r0 s : State} (k0 : r0.Keeps s) (core : Nat) (a : AccArgs) :
    r0.KeepsNext (execNegA core a s) := by
  unfold execNegA
  try dsimp only
  repeat' (first
    | (with_reducible apply State.KeepsNext.next) | (with_reducible exact k0) | (with_reducible exact .refl _)
    | (with_reducible apply facetNext_keeps) | (with_reducible refine State.KeepsNext.of (facetNext_keeps ?_ _ _) (by assumption))
    | ((with_reducible intro _ _); try dsimp only) | (split) | (with_reducible apply State.Keeps.of_pair (by assumption)) | (dsimp only))

theorem execAbsA_keeps {r0 s : State} (k0 : r0.Keeps s) (core : Nat) (a : AccArgs) :
    r0.KeepsNext (execAbsA core a s) := by
  unfold execAbsA
  try dsimp only
  repeat' (first
    | (with_reducible apply State.KeepsNext.next) | (with_reducible exact k0) | (with_reducible exact .refl _)
    | (with_reducible apply facetNext_keeps) | (with_reducible refine State.KeepsNext.of (facetNext_keeps ?_ _ _) (by assumption))
    | ((with_reducible intro _ _); try dsimp only) | (split) | (with_reducible apply State.Keeps.of_pair (by assumption)) | (dsimp only))

theorem execAccTfr_keeps {r0 s : State} (k0 : r0.Keeps s) (core : Nat) (a : AccArgs) :
    r0.KeepsNext (execAccTfr core a s) := by
  unfold execAccTfr
  try dsimp only
  repeat' (first
    | (with_reducible apply State.KeepsNext.next) | (with_reducible exact k0) | (with_reducible exact .refl _)
    | (with_reducible apply facetNext_keeps) | (with_reducible refine State.KeepsNext.of (facetNext_keeps ?_ _ _) (by assumption))
    | ((with_reducible intro _ _); try dsimp only) | (split) | (with_reducible apply State.Keeps.of_pair (by assumption)) | (dsimp only))

theorem execQnt_keeps {r0 s : State} (k0 : r0.Keeps s) (core : Nat) (a : AccArgs) :
    r0.KeepsNext (execQnt core a s) := by
  unfold execQnt
  try dsimp only
  repeat' (first
    | (with_reducible apply State.KeepsNext.next) | (with_reducible exact k0) | (with_reducible exact .refl _)
    | (with_reducible apply facetNext_keeps) | (with_reducible refine State.KeepsNext.of (facetNext_keeps ?_ _ _) (by assumption))
    | ((with_reducible intro _ _); try dsimp only) | (split) | (with_reducible apply State.Keeps.of_pair (by assumption)) | (dsimp only))

theorem execSatA_keeps {r0 s : State} (k0 : r0.Keeps s) (core : Nat) (a : AccArgs) :
    r0.KeepsNext (execSatA core a s) := by
  unfold execSatA
  try dsimp only
  repeat' (first
    | (with_reducible apply State.KeepsNext.next) | (with_reducible exact k0) | (with_reducible exact .refl _)
    | (with_reducible apply facetNext_keeps) | (with_reducible refine State.KeepsNext.of (facetNext_keeps ?_ _ _) (by assumption))
    | ((with_reducible intro _ _); try dsimp only) | (split) | (with_reducible apply State.Keeps.of_pair (by assumption)) | (dsimp only))

theorem execAccAsl_keeps {r0 s : State} (k0 : r0.Keeps s) (core : Nat) (a : AccArgs) :
    r0.KeepsNext (execAccAsl core a s) := by
  unfold execAccAsl
  try dsimp only
  repeat' (first
    | (with_reducible apply State.KeepsNext.next) | (with_reducible exact k0) | (with_reducible exact .refl _)
    | (with_reducible apply facetNext_keeps) | (with_reducible refine State.KeepsNext.of (facetNext_keeps ?_ _ _) (by assumption))
    | ((with_reducible intro _ _); try dsimp only) | (split) | (with_reducible apply State.Keeps.of_pair (by assumption)) | (dsimp only))

theorem execAccAsr_keeps {r0 s : State} (k0 : r0.Keeps s) (core : Nat) (a : AccArgs) :
    r0.KeepsNext (execAccAsr core a s) := by
  unfold execAccAsr
  try dsimp only
  repeat' (first
    | (with_reducible apply State.KeepsNext.next) | (with_reducible exact k0) | (with_reducible exact .refl _)
    | (with_reducible apply facetNext_keeps) | (with_reducible refine State.KeepsNext.of (facetNext_keeps ?_ _ _) (by assumption))
    | ((with_reducible intro _ _); try dsimp only) | (split) | (with_reducible apply State.Keeps.of_pair (by assumption)) | (dsimp only))

theorem execAsh_keeps {r0 s : State} (k0 : r0.Keeps s) (core : Nat) (a : AccArgs) :
    r0.KeepsNext (execAsh core a s) := by
  unfold execAsh
  try dsimp only
  repeat' (first
    | (with_reducible apply State.KeepsNext.next) | (with_reducible exact k0) | (with_reducible exact .refl _)
    | (with_reducible apply facetNext_keeps) | (with_reducible refine State.KeepsNext.of (facetNext_keeps ?_ _ _) (by assumption))
    | ((with_reducible intro _ _); try dsimp only) | (split) | (with_reducible apply State.Keeps.of_pair (by assumption)) | (dsimp only))

theorem execNormA_keeps {r0 s : State} (k0 : r0.Keeps s) (core : Nat) (a : AccArgs) :
    r0.KeepsNext (execNormA core a s) := by
  unfold execNormA
  try dsimp only
  repeat' (first
    | (with_reducible apply State.KeepsNext.next) | (with_reducible exact k0) | (with_reducible exact .refl _)
    | (with_reducible apply facetNext_keeps) | (with_reducible refine State.KeepsNext.of (facetNext_keeps ?_ _ _) (by assumption))
    | ((with_reducible intro _ _); try dsimp only) | (split) | (with_reducible apply State.Keeps.of_pair (by assumption)) | (dsimp only))

theorem execExpA_keeps {r0 s : State} (k0 : r0.Keeps s) (core : Nat) (a : AccArgs) :
    r0.KeepsNext (execExpA core a s) := by
  unfold execExpA
  try dsimp only
  repeat' (first
    | (with_reducible apply State.KeepsNext.next) | (with_reducible exact k0) | (with_reducible exact .refl _)
    | (with_reducible apply facetNext_keeps) | (with_reducible refine State.KeepsNext.of (facetNext_keeps ?_ _ _) (by assumption))
    | ((with_reducible intro _ _); try dsimp only) | (split) | (with_reducible apply State.Keeps.of_pair (by assumption)) | (dsimp only))

theorem execAccMax_keeps {r0 s : State} (k0 : r0.Keeps s) (core : Nat) (a : AccArgs) :
    r0.KeepsNext (execAccMax core a s) := by
  unfold execAccMax
  try dsimp only
  repeat' (first
    | (with_reducible apply State.KeepsNext.next) | (with_reducible exact k0) | (with_reducible exact .refl _)
    | (with_reducible apply facetNext_keeps) | (with_reducible refine State.KeepsNext.of (facetNext_keeps ?_ _ _) (by assumption))
    | ((with_reducible intro _ _); try dsimp only) | (split) | (with_reducible apply State.Keeps.of_pair (by assumption)) | (dsimp only))

theorem execAccMin_keeps {r0 s : State} (k0 : r0.Keeps s) (core : Nat) (a : AccArgs) :
    r0.KeepsNext (execAccMin core a s) := by
  unfold execAccMin
  try dsimp only
  repeat' (first
    | (with_reducible apply State.KeepsNext.next) | (with_reducible exact k0) | (with_reducible exact .refl _)
    | (with_reducible apply facetNext_keeps) | (with_reducible refine State.KeepsNext.of (facetNext_keeps ?_ _ _) (by assumption))
    | ((with_reducible intro _ _); try dsimp only) | (split) | (with_reducible apply State.Keeps.of_pair (by assumption)) | (dsimp only))

theorem execAccCmp_keeps {r0 s : State} (k0 : r0.Keeps s) (core : Nat) (a : AccArgs) :
    r0.KeepsNext (execAccCmp core a s) := by
  unfold execAccCmp
  try dsimp only
  repeat' (first
    | (with_reducible apply State.KeepsNext.next) | (with_reducible exact k0) | (with_reducible exact .refl _)
    | (with_reducible apply facetNext_keeps) | (with_reducible refine State.KeepsNext.of (facetNext_keeps ?_ _ _) (by assumption))
    | ((with_reducible intro _ _); try dsimp only) | (split) | (with_reducible apply State.Keeps.of_pair (by assumption)) | (dsimp only))

theorem execDaluAdd_keeps {r0 s : State} (k0 : r0.Keeps s) (core : Nat) (a : DataArgs) :
    r0.KeepsNext (execDaluAdd core a s) := by
  unfold execDaluAdd
  try dsimp only
  repeat' (first
    | (with_reducible apply State.KeepsNext.next) | (with_reducible exact k0) | (with_reducible exact .refl _)
    | (with_reducible apply facetNext_keeps) | (with_reducible refine State.KeepsNext.of (facetNext_keeps ?_ _ _) (by assumption))
    | ((with_reducible intro _ _); try dsimp only) | (split) | (with_reducible apply State.Keeps.of_pair (by assumption)) | (dsimp only))

theorem execDaluSub_keeps {r0 s : State} (k0 : r0.Keeps s) (core : Nat) (a : DataArgs) :
    r0.KeepsNext (execDaluSub core a s) := by
  unfold execDaluSub
  try dsimp only
  repeat' (first
    | (with_reducible apply State.KeepsNext.next) | (with_reducible exact k0) | (with_reducible exact .refl _)
    | (with_reducible apply facetNext_keeps) | (with_reducible refine State.KeepsNext.of (facetNext_keeps ?_ _ _) (by assumption))
    | ((with_reducible intro _ _); try dsimp only) | (split) | (with_reducible apply State.Keeps.of_pair (by assumption)) | (dsimp only))

theorem execAndD_keeps {r0 s : State} (k0 : r0.Keeps s) (core : Nat) (a : DataArgs) :
    r0.KeepsNext (execAndD core a s) := by
  unfold execAndD
  try dsimp only
  repeat' (first
    | (with_reducible apply State.KeepsNext.next) | (with_reducible exact k0) | (with_reducible exact .refl _)
    | (with_reducible apply facetNext_keeps) | (with_reducible refine State.KeepsNext.of (facetNext_keeps ?_ _ _) (by assumption))
    | ((with_reducible intro _ _); try dsimp only) | (split) | (with_reducible apply State.Keeps.of_pair (by assumption)) | (dsimp only))

theorem execOrD_keeps {r0 s : State} (k0 : r0.Keeps s) (core : Nat) (a : DataArgs) :
    r0.KeepsNext (execOrD core a s) := by
  unfold execOrD
  try dsimp only
  repeat' (first
    | (with_reducible apply State.KeepsNext.next) | (with_reducible exact k0) | (with_reducible exact .refl _)
    | (with_reducible apply facetNext_keeps) | (with_reducible refine State.KeepsNext.of (facetNext_keeps ?_ _ _) (by assumption))
    | ((with_reducible intro _ _); try dsimp only) | (split) | (with_reducible apply State.Keeps.of_pair (by assumption)) | (dsimp only))

theorem execXorD_keeps {r0 s : State} (k0 : r0.Keeps s) (core : Nat) (a : DataArgs) :
    r0.KeepsNext (execXorD core a s) := by
  unfold execXorD
  try dsimp only
  repeat' (first
    | (with_reducible apply State.KeepsNext.next) | (with_reducible exact k0) | (with_reducible exact .refl _)
    | (with_reducible apply facetNext_keeps) | (with_reducible refine State.KeepsNext.of (facetNext_keeps ?_ _ _) (by assumption))
    | ((with_reducible intro _ _); try dsimp only) | (split) | (with_reducible apply State.Keeps.of_pair (by assumption)) | (dsimp only))

theorem execNotD_keeps {r0 s : State} (k0 : r0.Keeps s) (core : Nat) (a : DataArgs) :
    r0.KeepsNext (execNotD core a s) := by
  unfold execNotD
  try dsimp only
  repeat' (first
    | (with_reducible apply State.KeepsNext.next) | (with_reducible exact k0) | (with_reducible exact .refl _)
    | (with_reducible apply facetNext_keeps) | (with_reducible refine State.KeepsNext.of (facetNext_keeps ?_ _ _) (by assumption))
    | ((with_reducible intro _ _); try dsimp only) | (split) | (with_reducible apply State.Keeps.of_pair (by assumption)) | (dsimp only))

theorem execDaluAsl_keeps {r0 s : State} (k0 : r0.Keeps s) (core : Nat) (a : DataArgs) :
    r0.KeepsNext (execDaluAsl core a s) := by
  unfold execDaluAsl
  try dsimp only
  repeat' (first
    | (with_reducible apply State.KeepsNext.next) | (with_reducible exact k0) | (with_reducible exact .refl _)
    | (with_reducible apply facetNext_keeps) | (with_reducible refine State.KeepsNext.of (facetNext_keeps ?_ _ _) (by assumption))
    | ((with_reducible intro _ _); try dsimp only) | (split) | (with_reducible apply State.Keeps.of_pair (by assumption)) | (dsimp only))

theorem execDaluAsr_keeps {r0 s : State} (k0 : r0.Keeps s) (core : Nat) (a : DataArgs) :
    r0.KeepsNext (execDaluAsr core a s) := by
  unfold execDaluAsr
  try dsimp only
  repeat' (first
    | (with_reducible apply State.KeepsNext.next) | (with_reducible exact k0) | (with_reducible exact .refl _)
    | (with_reducible apply facetNext_keeps) | (with_reducible refine State.KeepsNext.of (facetNext_keeps ?_ _ _) (by assumption))
    | ((with_reducible intro _ _); try dsimp only) | (split) | (with_reducible apply State.Keeps.of_pair (by assumption)) | (dsimp only))

theorem execLsr_keeps {r0 s : State} (k0 : r0.Keeps s) (core : Nat) (a : DataArgs) :
    r0.KeepsNext (execLsr core a s) := by
  unfold execLsr
  try dsimp only
  repeat' (first
    | (with_reducible apply State.KeepsNext.next) | (with_reducible exact k0) | (with_reducible exact .refl _)
    | (with_reducible apply facetNext_keeps) | (with_reducible refine State.KeepsNext.of (facetNext_keeps ?_ _ _) (by assumption))
    | ((with_reducible intro _ _); try dsimp only) | (split) | (with_reducible apply State.Keeps.of_pair (by assumption)) | (dsimp only))

theorem execDaluMin_keeps {r0 s : State} (k0 : r0.Keeps s) (core : Nat) (a : DataArgs) :
    r0.KeepsNext (execDaluMin core a s) := by
  unfold execDaluMin
  try dsimp only
  repeat' (first
    | (with_reducible apply State.KeepsNext.next) | (with_reducible exact k0) | (with_reducible exact .refl _)
    | (with_reducible apply facetNext_keeps) | (with_reducible refine State.KeepsNext.of (facetNext_keeps ?_ _ _) (by assumption))
    | ((with_reducible intro _ _); try dsimp only) | (split) | (with_reducible apply State.Keeps.of_pair (by assumption)) | (dsimp only))

theorem execDaluMax_keeps {r0 s : State} (k0 : r0.Keeps s) (core : Nat) (a : DataArgs) :
    r0.KeepsNext (execDaluMax core a s) := by
  unfold execDaluMax
  try dsimp only
  repeat' (first
    | (with_reducible apply State.KeepsNext.next) | (with_reducible exact k0) | (with_reducible exact .refl _)
    | (with_reducible apply facetNext_keeps) | (with_reducible refine State.KeepsNext.of (facetNext_keeps ?_ _ _) (by assumption))
    | ((with_reducible intro _ _); try dsimp only) | (split) | (with_reducible apply State.Keeps.of_pair (by assumption)) | (dsimp only))

theorem execDaluCmp_keeps {r0 s : State} (k0 : r0.Keeps s) (core : Nat) (a : DataArgs) :
    r0.KeepsNext (execDaluCmp core a s) := by
  unfold execDaluCmp
  try dsimp only
  repeat' (first
    | (with_reducible apply State.KeepsNext.next) | (with_reducible exact k0) | (with_reducible exact .refl _)
    | (with_reducible apply facetNext_keeps) | (with_reducible refine State.KeepsNext.of (facetNext_keeps ?_ _ _) (by assumption))
    | ((with_reducible intro _ _); try dsimp only) | (split) | (with_reducible apply State.Keeps.of_pair (by assumption)) | (dsimp only))

theorem execMull_keeps {r0 s : State} (k0 : r0.Keeps s) (core : Nat) (a : DataArgs) :
    r0.KeepsNext (execMull core a s) := by
  unfold execMull
  try dsimp only
  repeat' (first
    | (with_reducible apply State.KeepsNext.next) | (with_reducible exact k0) | (with_reducible exact .refl _)
    | (with_reducible apply facetNext_keeps) | (with_reducible refine State.KeepsNext.of (facetNext_keeps ?_ _ _) (by assumption))
    | ((with_reducible intro _ _); try dsimp only) | (split) | (with_reducible apply State.Keeps.of_pair (by assumption)) | (dsimp only))

theorem execMoveI_keeps {r0 s : State} (k0 : r0.Keeps s) (core : Nat) (a : MovArgs) :
    r0.KeepsNext (execMoveI core a s) := by
  unfold execMoveI
  try dsimp only
  repeat' (first
    | (with_reducible apply State.KeepsNext.next) | (with_reducible exact k0) | (with_reducible exact .refl _)
    | (with_reducible apply facetNext_keeps) | (with_reducible refine State.KeepsNext.of (facetNext_keeps ?_ _ _) (by assumption))
    | ((with_reducible intro _ _); try dsimp only) | (split) | (with_reducible apply State.Keeps.of_pair (by assumption)) | (dsimp only))

theorem execTfr_keeps {r0 s : State} (k0 : r0.Keeps s) (core : Nat) (a : RegArgs) :
    r0.KeepsNext (execTfr core a s) := by
  unfold execTfr
  try dsimp only
  repeat' (first
    | (with_reducible apply State.KeepsNext.next) | (with_reducible exact k0) | (with_reducible exact .refl _)
    | (with_reducible apply facetNext_keeps) | (with_reducible refine State.KeepsNext.of (facetNext_keeps ?_ _ _) (by assumption))
    | ((with_reducible intro _ _); try dsimp only) | (split) | (with_reducible apply State.Keeps.of_pair (by assumption)) | (dsimp only))

theorem execLds_keeps {r0 s : State} (k0 : r0.Keeps s) (core : Nat) (a : RegArgs) :
    r0.KeepsNext (execLds core a s) := by
  unfold execLds
  try dsimp only
  repeat' (first
    | (with_reducible apply State.KeepsNext.next) | (with_reducible exact k0) | (with_reducible exact .refl _)
    | (with_reducible apply facetNext_keeps) | (with_reducible refine State.KeepsNext.of (facetNext_keeps ?_ _ _) (by assumption))
    | ((with_reducible intro _ _); try dsimp only) | (split) | (with_reducible apply State.Keeps.of_pair (by assumption)) | (dsimp only))

theorem execLdh_keeps {r0 s : State} (k0 : r0.Keeps s) (core : Nat) (a : RegArgs) :
    r0.KeepsNext (execLdh core a s) := by
  unfold execLdh
  try dsimp only
  repeat' (first
    | (with_reducible apply State.KeepsNext.next) | (with_reducible exact k0) | (with_reducible exact .refl _)
    | (with_reducible apply facetNext_keeps) | (with_reducible refine State.KeepsNext.of (facetNext_keeps ?_ _ _) (by assumption))
    | ((with_reducible intro _ _); try dsimp only) | (split) | (with_reducible apply State.Keeps.of_pair (by assumption)) | (dsimp only))

theorem execLda_keeps {r0 s : State} (k0 : r0.Keeps s) (core : Nat) (a : AddrArgs) :
    r0.KeepsNext (execLda core a s) := by
  unfold execLda
  try dsimp only
  repeat' (first
    | (with_reducible apply State.KeepsNext.next) | (with_reducible exact k0) | (with_reducible exact .refl _)
    | (with_reducible apply facetNext_keeps) | (with_reducible refine State.KeepsNext.of (facetNext_keeps ?_ _ _) (by assumption))
    | ((with_reducible intro _ _); try dsimp only) | (split) | (with_reducible apply State.Keeps.of_pair (by assumption)) | (dsimp only))

theorem execAdda_keeps {r0 s : State} (k0 : r0.Keeps s) (core : Nat) (a : AddrArgs) :
    r0.KeepsNext (execAdda core a s) := by
  unfold execAdda
  try dsimp only
  repeat' (first
    | (with_reducible apply State.KeepsNext.next) | (with_reducible exact k0) | (with_reducible exact .refl _)
    | (with_reducible apply facetNext_keeps) | (with_reducible refine State.KeepsNext.of (facetNext_keeps ?_ _ _) (by assumption))
    | ((with_reducible intro _ _); try dsimp only) | (split) | (with_reducible apply State.Keeps.of_pair (by assumption)) | (dsimp only))

theorem execAddl_keeps {r0 s : State} (k0 : r0.Keeps s) (core : Nat) (a : AddrArgs) :
    r0.KeepsNext (execAddl core a s) := by
  unfold execAddl
  try dsimp only
  repeat' (first
    | (with_reducible apply State.KeepsNext.next) | (with_reducible exact k0) | (with_reducible exact .refl _)
    | (with_reducible apply facetNext_keeps) | (with_reducible refine State.KeepsNext.of (facetNext_keeps ?_ _ _) (by assumption))
    | ((with_reducible intro _ _); try dsimp only) | (split) | (with_reducible apply State.Keeps.of_pair (by assumption)) | (dsimp only))

theorem execMova_keeps {r0 s : State} (k0 : r0.Keeps s) (core : Nat) (a : AddrArgs) :
    r0.KeepsNext (execMova core a s) := by
  unfold execMova
  try dsimp only
  repeat' (first
    | (with_reducible apply State.KeepsNext.next) | (with_reducible exact k0) | (with_reducible exact .refl _)
    | (with_reducible apply facetNext_keeps) | (with_reducible refine State.KeepsNext.of (facetNext_keeps ?_ _ _) (by assumption))
    | ((with_reducible intro _ _); try dsimp only) | (split) | (with_reducible apply State.Keeps.of_pair (by assumption)) | (dsimp only))

theorem execTfra_keeps {r0 s : State} (k0 : r0.Keeps s) (core : Nat) (a : AddrArgs) :
    r0.KeepsNext (execTfra core a s) := by
  unfold execTfra
  try dsimp only
  repeat' (first
    | (with_reducible apply State.KeepsNext.next) | (with_reducible exact k0) | (with_reducible exact .refl _)
    | (with_reducible apply facetNext_keeps) | (with_reducible refine State.KeepsNext.of (facetNext_keeps ?_ _ _) (by assumption))
    | ((with_reducible intro _ _); try dsimp only) | (split) | (with_reducible apply State.Keeps.of_pair (by assumption)) | (dsimp only))

theorem execTfrd_keeps {r0 s : State} (k0 : r0.Keeps s) (core : Nat) (a : AddrArgs) :
    r0.KeepsNext (execTfrd core a s) := by
  unfold execTfrd
  try dsimp only
  repeat' (first
    | (with_reducible apply State.KeepsNext.next) | (with_reducible exact k0) | (with_reducible exact .refl _)
    | (with_reducible apply facetNext_keeps) | (with_reducible refine State.KeepsNext.of (facetNext_keeps ?_ _ _) (by assumption))
    | ((with_reducible intro _ _); try dsimp only) | (split) | (with_reducible apply State.Keeps.of_pair (by assumption)) | (dsimp only))

theorem execRpt_keeps {r0 s : State} (k0 : r0.Keeps s) (core : Nat) (reg : Bool) (n : Nat) :
    r0.KeepsNext (execRpt core reg n s) := by
  unfold execRpt
  try dsimp only
  repeat' (first
    | (with_reducible apply State.KeepsNext.next) | (with_reducible exact k0) | (with_reducible exact .refl _)
    | (with_reducible apply facetNext_keeps) | (with_reducible refine State.KeepsNext.of (facetNext_keeps ?_ _ _) (by assumption))
    | ((with_reducible intro _ _); try dsimp only) | (split) | (with_reducible apply State.Keeps.of_pair (by assumption)) | (dsimp only))

theorem execLoopI_keeps {r0 s : State} (k0 : r0.Keeps s) (core : Nat) (reg : Bool) (body n : Nat) :
    r0.KeepsNext (execLoopI core reg body n s) := by
  unfold execLoopI
  try dsimp only
  repeat' (first
    | (with_reducible apply State.KeepsNext.next) | (with_reducible exact k0) | (with_reducible exact .refl _)
    | (with_reducible apply facetNext_keeps) | (with_reducible refine State.KeepsNext.of (facetNext_keeps ?_ _ _) (by assumption))
    | ((with_reducible intro _ _); try dsimp only) | (split) | (with_reducible apply State.Keeps.of_pair (by assumption)) | (dsimp only))

theorem execLeaveI_keeps {r0 s : State} (k0 : r0.Keeps s) (core cc : Nat) :
    r0.KeepsNext (execLeaveI core cc s) := by
  unfold execLeaveI
  try dsimp only
  repeat' (first
    | (with_reducible apply State.KeepsNext.next) | (with_reducible exact k0) | (with_reducible exact .refl _)
    | (with_reducible apply facetNext_keeps) | (with_reducible refine State.KeepsNext.of (facetNext_keeps ?_ _ _) (by assumption))
    | ((with_reducible intro _ _); try dsimp only) | (split) | (with_reducible apply State.Keeps.of_pair (by assumption)) | (dsimp only))

theorem execNopI_keeps {r0 s : State} (k0 : r0.Keeps s) (core : Nat) :
    r0.KeepsNext (execNopI core s) := by
  unfold execNopI
  try dsimp only
  repeat' (first
    | (with_reducible apply State.KeepsNext.next) | (with_reducible exact k0) | (with_reducible exact .refl _)
    | (with_reducible apply facetNext_keeps) | (with_reducible refine State.KeepsNext.of (facetNext_keeps ?_ _ _) (by assumption))
    | ((with_reducible intro _ _); try dsimp only) | (split) | (with_reducible apply State.Keeps.of_pair (by assumption)) | (dsimp only))

theorem execBra_keeps {r0 s : State} (k0 : r0.Keeps s) (core cc t : Nat) :
    r0.KeepsNext (execBra core cc t s) := by
  unfold execBra
  try dsimp only
  repeat' (first
    | (with_reducible apply State.KeepsNext.next) | (with_reducible exact k0) | (with_reducible exact .refl _)
    | (with_reducible apply facetNext_keeps) | (with_reducible refine State.KeepsNext.of (facetNext_keeps ?_ _ _) (by assumption))
    | ((with_reducible intro _ _); try dsimp only) | (split) | (with_reducible apply State.Keeps.of_pair (by assumption)) | (dsimp only))

theorem execBsr_keeps {r0 s : State} (k0 : r0.Keeps s) (core cc t : Nat) :
    r0.KeepsNext (execBsr core cc t s) := by
  unfold execBsr
  try dsimp only
  repeat' (first
    | (with_reducible apply State.KeepsNext.next) | (with_reducible exact k0) | (with_reducible exact .refl _)
    | (with_reducible apply facetNext_keeps) | (with_reducible refine State.KeepsNext.of (facetNext_keeps ?_ _ _) (by assumption))
    | ((with_reducible intro _ _); try dsimp only) | (split) | (with_reducible apply State.Keeps.of_pair (by assumption)) | (dsimp only))

theorem execRts_keeps {r0 s : State} (k0 : r0.Keeps s) (core cc : Nat) :
    r0.KeepsNext (execRts core cc s) := by
  unfold execRts
  try dsimp only
  repeat' (first
    | (with_reducible apply State.KeepsNext.next) | (with_reducible exact k0) | (with_reducible exact .refl _)
    | (with_reducible apply facetNext_keeps) | (with_reducible refine State.KeepsNext.of (facetNext_keeps ?_ _ _) (by assumption))
    | ((with_reducible intro _ _); try dsimp only) | (split) | (with_reducible apply State.Keeps.of_pair (by assumption)) | (dsimp only))

theorem execJmp_keeps {r0 s : State} (k0 : r0.Keeps s) (core m : Nat) :
    r0.KeepsNext (execJmp core m s) := by
  unfold execJmp
  try dsimp only
  repeat' (first
    | (with_reducible apply State.KeepsNext.next) | (with_reducible exact k0) | (with_reducible exact .refl _)
    | (with_reducible apply facetNext_keeps) | (with_reducible refine State.KeepsNext.of (facetNext_keeps ?_ _ _) (by assumption))
    | ((with_reducible intro _ _); try dsimp only) | (split) | (with_reducible apply State.Keeps.of_pair (by assumption)) | (dsimp only))

theorem execYieldI_keeps {r0 s : State} (k0 : r0.Keeps s) (core : Nat) :
    r0.KeepsNext (execYieldI core s) := by
  unfold execYieldI
  try dsimp only
  repeat' (first
    | (with_reducible apply State.KeepsNext.next) | (with_reducible exact k0) | (with_reducible exact .refl _)
    | (with_reducible apply facetNext_keeps) | (with_reducible refine State.KeepsNext.of (facetNext_keeps ?_ _ _) (by assumption))
    | ((with_reducible intro _ _); try dsimp only) | (split) | (with_reducible apply State.Keeps.of_pair (by assumption)) | (dsimp only))

theorem execTrapI_keeps {r0 s : State} (k0 : r0.Keeps s) (core k : Nat) :
    r0.KeepsNext (execTrapI core k s) := by
  unfold execTrapI
  try dsimp only
  repeat' (first
    | (with_reducible apply State.KeepsNext.next) | (with_reducible exact k0) | (with_reducible exact .refl _)
    | (with_reducible apply facetNext_keeps) | (with_reducible refine State.KeepsNext.of (facetNext_keeps ?_ _ _) (by assumption))
    | ((with_reducible intro _ _); try dsimp only) | (split) | (with_reducible apply State.Keeps.of_pair (by assumption)) | (dsimp only))

theorem execFenceI_keeps {r0 s : State} (k0 : r0.Keeps s) (core wait : Nat) :
    r0.KeepsNext (execFenceI core wait s) := by
  unfold execFenceI
  try dsimp only
  repeat' (first
    | (with_reducible apply State.KeepsNext.next) | (with_reducible exact k0) | (with_reducible exact .refl _)
    | (with_reducible apply facetNext_keeps) | (with_reducible refine State.KeepsNext.of (facetNext_keeps ?_ _ _) (by assumption))
    | ((with_reducible intro _ _); try dsimp only) | (split) | (with_reducible apply State.Keeps.of_pair (by assumption)) | (dsimp only))

theorem execSetm_keeps {r0 s : State} (k0 : r0.Keeps s) (core mask v : Nat) :
    r0.KeepsNext (execSetm core mask v s) := by
  unfold execSetm
  try dsimp only
  repeat' (first
    | (with_reducible apply State.KeepsNext.next) | (with_reducible exact k0) | (with_reducible exact .refl _)
    | (with_reducible apply facetNext_keeps) | (with_reducible refine State.KeepsNext.of (facetNext_keeps ?_ _ _) (by assumption))
    | ((with_reducible intro _ _); try dsimp only) | (split) | (with_reducible apply State.Keeps.of_pair (by assumption)) | (dsimp only))

theorem execSegI_keeps {r0 s : State} (k0 : r0.Keeps s) (core k : Nat) :
    r0.KeepsNext (execSegI core k s) := by
  unfold execSegI
  try dsimp only
  repeat' (first
    | (with_reducible apply State.KeepsNext.next) | (with_reducible exact k0) | (with_reducible exact .refl _)
    | (with_reducible apply facetNext_keeps) | (with_reducible refine State.KeepsNext.of (facetNext_keeps ?_ _ _) (by assumption))
    | ((with_reducible intro _ _); try dsimp only) | (split) | (with_reducible apply State.Keeps.of_pair (by assumption)) | (dsimp only))

theorem execLdi_keeps {r0 s : State} (k0 : r0.Keeps s) (core : Nat) (a : LongArgs) :
    r0.KeepsNext (execLdi core a s) := by
  unfold execLdi
  try dsimp only
  repeat' (first
    | (with_reducible apply State.KeepsNext.next) | (with_reducible exact k0) | (with_reducible exact .refl _)
    | (with_reducible apply facetNext_keeps) | (with_reducible refine State.KeepsNext.of (facetNext_keeps ?_ _ _) (by assumption))
    | ((with_reducible intro _ _); try dsimp only) | (split) | (with_reducible apply State.Keeps.of_pair (by assumption)) | (dsimp only))

theorem execAddi_keeps {r0 s : State} (k0 : r0.Keeps s) (core : Nat) (a : LongArgs) :
    r0.KeepsNext (execAddi core a s) := by
  unfold execAddi
  try dsimp only
  repeat' (first
    | (with_reducible apply State.KeepsNext.next) | (with_reducible exact k0) | (with_reducible exact .refl _)
    | (with_reducible apply facetNext_keeps) | (with_reducible refine State.KeepsNext.of (facetNext_keeps ?_ _ _) (by assumption))
    | ((with_reducible intro _ _); try dsimp only) | (split) | (with_reducible apply State.Keeps.of_pair (by assumption)) | (dsimp only))

theorem execCmpi_keeps {r0 s : State} (k0 : r0.Keeps s) (core : Nat) (a : LongArgs) :
    r0.KeepsNext (execCmpi core a s) := by
  unfold execCmpi
  try dsimp only
  repeat' (first
    | (with_reducible apply State.KeepsNext.next) | (with_reducible exact k0) | (with_reducible exact .refl _)
    | (with_reducible apply facetNext_keeps) | (with_reducible refine State.KeepsNext.of (facetNext_keeps ?_ _ _) (by assumption))
    | ((with_reducible intro _ _); try dsimp only) | (split) | (with_reducible apply State.Keeps.of_pair (by assumption)) | (dsimp only))

theorem execFld_keeps {r0 s : State} (k0 : r0.Keeps s) (core : Nat) (a : LongArgs) (f : Far) :
    r0.KeepsNext (execFld core a f s) := by
  unfold execFld
  try dsimp only
  repeat' (first
    | (with_reducible apply State.KeepsNext.next) | (with_reducible exact k0) | (with_reducible exact .refl _)
    | (with_reducible apply facetNext_keeps) | (with_reducible refine State.KeepsNext.of (facetNext_keeps ?_ _ _) (by assumption))
    | ((with_reducible intro _ _); try dsimp only) | (split) | (with_reducible apply State.Keeps.of_pair (by assumption)) | (dsimp only))

theorem execFst_keeps {r0 s : State} (k0 : r0.Keeps s) (core : Nat) (a : LongArgs) (f : Far) :
    r0.KeepsNext (execFst core a f s) := by
  unfold execFst
  try dsimp only
  repeat' (first
    | (with_reducible apply State.KeepsNext.next) | (with_reducible exact k0) | (with_reducible exact .refl _)
    | (with_reducible apply facetNext_keeps) | (with_reducible refine State.KeepsNext.of (facetNext_keeps ?_ _ _) (by assumption))
    | ((with_reducible intro _ _); try dsimp only) | (split) | (with_reducible apply State.Keeps.of_pair (by assumption)) | (dsimp only))

theorem execStepCore_keeps {r0 s : State} (k0 : r0.Keeps s) (core : Nat) (f : Far) :
    r0.KeepsNext (execStepCore core f s) := by
  unfold execStepCore
  try dsimp only
  repeat' (first
    | (with_reducible apply State.KeepsNext.next) | (with_reducible exact k0) | (with_reducible exact .refl _)
    | (with_reducible apply State.facetStep_keeps) | ((with_reducible intro _ _); try dsimp only) | (split)
    | (with_reducible apply State.Keeps.of_pair (by assumption)) | (dsimp only))

theorem execHaltCore_keeps {r0 s : State} (k0 : r0.Keeps s) (core : Nat) :
    r0.KeepsNext (execHaltCore core s) := by
  unfold execHaltCore
  try dsimp only
  repeat' (first
    | (with_reducible apply State.KeepsNext.next) | (with_reducible exact k0) | (with_reducible exact .refl _)
    | (with_reducible apply State.raise_keeps) | ((with_reducible intro _ _); try dsimp only) | (split)
    | (with_reducible apply State.Keeps.of_pair (by assumption)) | (dsimp only))

/-! ### Machine/MbxOps.lean -/

theorem State.romAnswer_keeps {r0 s : State} (k0 : r0.Keeps s) (n : Nat) :
    r0.Keeps (State.romAnswer s n) := by
  unfold State.romAnswer
  try dsimp only
  repeat' (first
    | (with_reducible exact k0) | (with_reducible exact .refl _) | (with_reducible apply State.bootGo_keeps)
    | (with_reducible apply State.onSys_keeps) | (with_reducible apply State.answerBooting_keeps)
    | (exact fun _ => ⟨rfl, rfl, id, fun _ => id⟩) | ((with_reducible intro _ _); try dsimp only) | (split)
    | (with_reducible apply State.Keeps.of_pair (by assumption)) | (dsimp only))

theorem State.ring_keeps {r0 s0 : State} (k0 : r0.Keeps s0) (n : Nat) :
    r0.Keeps (State.ring s0 n) := by
  unfold State.ring
  try dsimp only
  repeat' (first
    | (with_reducible exact k0) | (with_reducible exact .refl _) | (with_reducible apply State.onMbx_keeps)
    | (with_reducible apply State.setFld_keeps) | (with_reducible apply State.romAnswer_keeps)
    | (with_reducible apply State.setSlot_keeps) | (with_reducible apply State.bump_keeps) | ((with_reducible intro _ _); try dsimp only)
    | (split) | (with_reducible apply State.Keeps.of_pair (by assumption)) | (dsimp only))

theorem State.doorbell_keeps {r0 s : State} (k0 : r0.Keeps s) (bits : Nat) :
    r0.Keeps (State.doorbell s bits) := by
  unfold State.doorbell
  try dsimp only
  repeat' (first
    | (with_reducible exact k0) | (with_reducible exact .refl _) | (with_reducible apply State.each_keeps)
    | (with_reducible apply State.ring_keeps) | ((with_reducible intro _ _); try dsimp only) | (split)
    | (with_reducible apply State.Keeps.of_pair (by assumption)) | (dsimp only))

theorem State.doneClear_keeps {r0 s : State} (k0 : r0.Keeps s) (bits : Nat) :
    r0.Keeps (State.doneClear s bits) := by
  unfold State.doneClear
  try dsimp only
  repeat' (first
    | (with_reducible exact k0) | (with_reducible exact .refl _) | (with_reducible apply State.each_keeps)
    | (with_reducible apply State.setFld_keeps) | (with_reducible apply State.setSlot_keeps)
    | ((with_reducible intro _ _); try dsimp only) | (split) | (with_reducible apply State.Keeps.of_pair (by assumption)) | (dsimp only))

theorem State.slotWriteOne_keeps {r0 s : State} (k0 : r0.Keeps s) (off : Nat) (d : Bytes) (n : Nat) :
    r0.Keeps (State.slotWriteOne s off d n) := by
  unfold State.slotWriteOne
  try dsimp only
  repeat' (first
    | (with_reducible exact k0) | (with_reducible exact .refl _) | (with_reducible apply State.bump_keeps)
    | (with_reducible apply State.withMem_keeps)
    | (intro hm; (repeat (first | exact hm | apply mwrite_wf | apply mclear_wf | apply mmove_wf)); done)
    | ((with_reducible intro _ _); try dsimp only) | (split) | (with_reducible apply State.Keeps.of_pair (by assumption)) | (dsimp only))

theorem State.slotWrite_keeps {r0 s : State} (k0 : r0.Keeps s) (off : Nat) (d : Bytes) :
    r0.Keeps (State.slotWrite s off d) := by
  unfold State.slotWrite
  try dsimp only
  repeat' (first
    | (with_reducible exact k0) | (with_reducible exact .refl _) | (with_reducible apply State.each_keeps)
    | (with_reducible apply State.slotWriteOne_keeps) | ((with_reducible intro _ _); try dsimp only) | (split)
    | (with_reducible apply State.Keeps.of_pair (by assumption)) | (dsimp only))

theorem State.evrCfg_keeps {r0 s : State} (k0 : r0.Keeps s) (v : Nat) :
    r0.Keeps (State.evrCfg s v) := by
  unfold State.evrCfg
  try dsimp only
  repeat' (first
    | (with_reducible exact k0) | (with_reducible exact .refl _) | (with_reducible apply State.setFld_keeps)
    | (with_reducible apply State.wr_keeps) | ((with_reducible intro _ _); try dsimp only) | (split)
    | (with_reducible apply State.Keeps.of_pair (by assumption)) | (dsimp only))

theorem State.evrCons_keeps {r0 s : State} (k0 : r0.Keeps s) (v : Nat) :
    r0.Keeps (State.evrCons s v) := by
  unfold State.evrCons
  try dsimp only
  repeat' (first
    | (with_reducible exact k0) | (with_reducible exact .refl _) | (with_reducible apply State.wr_keeps)
    | ((with_reducible intro _ _); try dsimp only) | (split) | (with_reducible apply State.Keeps.of_pair (by assumption)) | (dsimp only))

theorem State.evrBase_keeps {r0 s : State} (k0 : r0.Keeps s) (a v : Nat) :
    r0.Keeps (State.evrBase s a v) := by
  unfold State.evrBase
  try dsimp only
  repeat' (first
    | (with_reducible exact k0) | (with_reducible exact .refl _) | (with_reducible apply State.wr_keeps)
    | ((with_reducible intro _ _); try dsimp only) | (split) | (with_reducible apply State.Keeps.of_pair (by assumption)) | (dsimp only))

/-! ### Machine/RegWrite.lean -/

theorem State.storeReg_keeps {r0 s : State} (k0 : r0.Keeps s) (a v : Nat) :
    r0.Keeps (State.storeReg s a v) := by
  unfold State.storeReg
  try dsimp only
  repeat' (first
    | (with_reducible exact k0) | (with_reducible exact .refl _) | (with_reducible apply State.wr_keeps)
    | ((with_reducible intro _ _); try dsimp only) | (split) | (with_reducible apply State.Keeps.of_pair (by assumption)) | (dsimp only))

theorem State.restartWdt_keeps {r0 s : State} (k0 : r0.Keeps s)  :
    r0.Keeps (State.restartWdt s) := by
  unfold State.restartWdt
  try dsimp only
  repeat' (first
    | (with_reducible exact k0) | (with_reducible exact .refl _) | (with_reducible apply State.onSys_keeps)
    | (exact fun _ => ⟨rfl, rfl, id, fun _ => id⟩) | ((with_reducible intro _ _); try dsimp only) | (split)
    | (with_reducible apply State.Keeps.of_pair (by assumption)) | (dsimp only))

theorem State.pwrRequest_keeps {r0 s : State} (k0 : r0.Keeps s) (v : Nat) :
    r0.Keeps (State.pwrRequest s v) := by
  unfold State.pwrRequest
  try dsimp only
  repeat' (first
    | (with_reducible exact k0) | (with_reducible exact .refl _) | (with_reducible apply State.setPwr_keeps)
    | ((with_reducible intro _ _); try dsimp only) | (split) | (with_reducible apply State.Keeps.of_pair (by assumption)) | (dsimp only))

theorem State.mirSync_keeps {r0 s : State} (k0 : r0.Keeps s)  :
    r0.Keeps (State.mirSync s) := by
  unfold State.mirSync
  try dsimp only
  repeat' (first
    | (with_reducible exact k0) | (with_reducible exact .refl _) | (with_reducible apply State.onMir_keeps)
    | ((with_reducible intro _ _); try dsimp only) | (split) | (with_reducible apply State.Keeps.of_pair (by assumption)) | (dsimp only))

theorem State.writeMbx_keeps {r0 s : State} (k0 : r0.Keeps s) (a v : Nat) :
    r0.Keeps (State.writeMbx s a v) := by
  unfold State.writeMbx
  try dsimp only
  repeat' (first
    | (with_reducible exact k0) | (with_reducible exact .refl _) | (with_reducible apply State.doorbell_keeps)
    | (with_reducible apply State.doneClear_keeps) | (with_reducible apply State.evrCfg_keeps)
    | (with_reducible apply State.evrCons_keeps) | (with_reducible apply State.evrBase_keeps) | (with_reducible apply State.withMem_keeps)
    | (with_reducible apply State.storeReg_keeps)
    | (intro hm; (repeat (first | exact hm | apply mwrite_wf | apply mclear_wf | apply mmove_wf)); done)
    | ((with_reducible intro _ _); try dsimp only) | (split) | (with_reducible apply State.Keeps.of_pair (by assumption)) | (dsimp only))

theorem State.writeMac_keeps {r0 s : State} (k0 : r0.Keeps s) (was : State) (m a v : Nat) (k1 : r0.Keeps was) :
    r0.Keeps (State.writeMac s was m a v) := by
  unfold State.writeMac
  dsimp only
  repeat' (first
    | (with_reducible exact k0) | (with_reducible exact k1)
    | (with_reducible refine State.KeepsNext.of (execRxRingReturn_keeps ?_ _ _ _) (by assumption))
    | (with_reducible refine State.KeepsNext.of (execRxRingEnable_keeps ?_ _ _) (by assumption))
    | (with_reducible refine State.KeepsNext.of (execTxRingEnable_keeps ?_ _ _) (by assumption))
    | (with_reducible refine State.KeepsNext.of (execTxRingTailWrite_keeps ?_ _ _ _) (by assumption))
    | (with_reducible apply State.portOn_keeps) | (split))

theorem State.writePort_keeps {r0 s : State} (k0 : r0.Keeps s) (a : Nat) :
    r0.Keeps (State.writePort s a) := by
  unfold State.writePort
  try dsimp only
  repeat' (first
    | (with_reducible exact k0) | (with_reducible exact .refl _) | (with_reducible apply State.maskWrite_keeps)
    | (with_reducible apply State.each_keeps) | (with_reducible apply State.undrive_keeps) | (with_reducible apply State.setGrp_keeps)
    | ((with_reducible intro _ _); try dsimp only) | (split) | (with_reducible apply State.Keeps.of_pair (by assumption)) | (dsimp only))

theorem State.writeSticky_keeps {r0 s : State} (k0 : r0.Keeps s) (a v : Nat) :
    r0.Keeps (State.writeSticky s a v) := by
  unfold State.writeSticky
  try dsimp only
  repeat' (first
    | (with_reducible exact k0) | (with_reducible exact .refl _) | (with_reducible apply State.setLensBus_keeps)
    | (with_reducible apply State.setMic_keeps) | ((with_reducible intro _ _); try dsimp only) | (split)
    | (with_reducible apply State.Keeps.of_pair (by assumption)) | (dsimp only))

theorem State.writeCtl_keeps {r0 s : State} (k0 : r0.Keeps s) (a v : Nat) :
    r0.Keeps (State.writeCtl s a v) := by
  unfold State.writeCtl
  try dsimp only
  repeat' (first
    | (with_reducible exact k0) | (with_reducible exact .refl _) | (with_reducible apply State.latchTime_keeps)
    | (with_reducible apply State.servoUpdate_keeps) | (with_reducible apply State.onLens_keeps)
    | (with_reducible apply State.restartWdt_keeps) | (with_reducible apply State.pwrRequest_keeps)
    | (with_reducible apply State.mirSync_keeps) | (with_reducible apply State.syncOff_keeps)
    | ((with_reducible intro _ _); try dsimp only) | (split) | (with_reducible apply State.Keeps.of_pair (by assumption)) | (dsimp only))

theorem State.writeCore_keeps {r0 s : State} (k0 : r0.Keeps s) (a v : Nat) :
    r0.Keeps (State.writeCore s a v) := by
  unfold State.writeCore
  try dsimp only
  repeat' (first
    | (with_reducible exact k0) | (with_reducible exact .refl _) | (with_reducible apply State.storeReg_keeps)
    | (with_reducible apply State.facetStep_keeps) | ((with_reducible intro _ _); try dsimp only) | (split)
    | (with_reducible apply State.Keeps.of_pair (by assumption)) | (dsimp only))

theorem State.regWrite_keeps {r0 s : State} (k0 : r0.Keeps s) (m a v : Nat) :
    r0.Keeps (State.regWrite s m a v) := by
  unfold State.regWrite
  try dsimp only
  repeat' (first
    | (with_reducible exact k0) | (with_reducible exact .refl _) | (with_reducible apply State.writeCore_keeps)
    | (with_reducible apply State.writeMbx_keeps) | (with_reducible apply State.lockRel_keeps)
    | (with_reducible apply State.storeReg_keeps) | (with_reducible apply State.dlyWrite_keeps)
    | (with_reducible apply State.writePort_keeps) | (with_reducible apply State.writeMac_keeps)
    | (with_reducible apply State.writeSticky_keeps) | (with_reducible apply State.writeCtl_keeps)
    | ((with_reducible intro _ _); try dsimp only) | (split) | (with_reducible apply State.Keeps.of_pair (by assumption)) | (dsimp only))

theorem State.sendPending_keeps {r0 s : State} (k0 : r0.Keeps s) (v : Nat) :
    r0.Keeps (State.sendPending s v) := by
  unfold State.sendPending
  try dsimp only
  repeat' (first
    | (with_reducible exact k0) | (with_reducible exact .refl _) | (with_reducible apply State.onHost_keeps)
    | ((with_reducible intro _ _); try dsimp only) | (split) | (with_reducible apply State.Keeps.of_pair (by assumption)) | (dsimp only))

theorem State.bar0Write_keeps {r0 s : State} (k0 : r0.Keeps s) (o v : Nat) :
    r0.Keeps (State.bar0Write s o v) := by
  unfold State.bar0Write
  try dsimp only
  repeat' (first
    | (with_reducible exact k0) | (with_reducible exact .refl _) | (with_reducible apply State.slotWrite_keeps)
    | (with_reducible apply State.regWrite_keeps) | (with_reducible apply State.onHost_keeps)
    | (with_reducible apply State.sendPending_keeps) | ((with_reducible intro _ _); try dsimp only) | (split)
    | (with_reducible apply State.Keeps.of_pair (by assumption)) | (dsimp only))

theorem State.cpWrite_keeps {r0 s : State} (k0 : r0.Keeps s) (t a v : Nat) :
    r0.Keeps (State.cpWrite s t a v) := by
  unfold State.cpWrite
  try dsimp only
  repeat' (first
    | (with_reducible exact k0) | (with_reducible exact .refl _) | (with_reducible apply State.withRstat_keeps)
    | (with_reducible apply State.regWrite_keeps) | (with_reducible apply State.busError_keeps)
    | (intro hm; (repeat (first | exact hm | apply mwrite_wf | apply mclear_wf | apply mmove_wf)); done)
    | ((with_reducible intro _ _); try dsimp only) | (split) | (with_reducible apply State.Keeps.of_pair (by assumption)) | (dsimp only))

theorem execRegisterWrite_keeps {r0 s : State} (k0 : r0.Keeps s) (addr : Nat) (v : Word) :
    r0.KeepsNext (execRegisterWrite addr v s) := by
  unfold execRegisterWrite
  try dsimp only
  repeat' (first
    | (with_reducible apply State.KeepsNext.next) | (with_reducible exact k0) | (with_reducible exact .refl _)
    | (with_reducible apply State.bar0Write_keeps) | (with_reducible apply State.cpWrite_keeps)
    | ((with_reducible intro _ _); try dsimp only) | (split) | (with_reducible apply State.Keeps.of_pair (by assumption)) | (dsimp only))

theorem execRestartWdt_keeps {r0 s : State} (k0 : r0.Keeps s)  :
    r0.KeepsNext (execRestartWdt s) := by
  unfold execRestartWdt
  try dsimp only
  repeat' (first
    | (with_reducible apply State.KeepsNext.next) | (with_reducible exact k0) | (with_reducible exact .refl _)
    | (with_reducible apply State.restartWdt_keeps) | ((with_reducible intro _ _); try dsimp only) | (split)
    | (with_reducible apply State.Keeps.of_pair (by assumption)) | (dsimp only))

/-! ### Machine/BusAccess.lean -/

theorem State.readReg_keeps {r0 s : State} (k0 : r0.Keeps s) (m a : Nat) :
    r0.Keeps (State.readReg s m a).1 := by
  unfold State.readReg
  try dsimp only
  repeat' (first
    | (with_reducible exact k0) | (with_reducible exact .refl _) | (with_reducible apply State.lockAcq_keeps)
    | (with_reducible apply State.perfLo_keeps) | ((with_reducible intro _ _); try dsimp only) | (split)
    | (with_reducible apply State.Keeps.of_pair (by assumption)) | (dsimp only))

theorem State.readRegs_keeps {r0 s : State} (k0 : r0.Keeps s) (m a n : Nat) :
    r0.Keeps (State.readRegs s m a n).1 := by
  unfold State.readRegs
  try dsimp only
  repeat' (first
    | (with_reducible exact k0) | (with_reducible exact .refl _) | (with_reducible apply State.readReg_keeps)
    | (with_reducible apply foldl_keeps) | (with_reducible apply foldlState_keeps) | ((with_reducible intro _ _); try dsimp only)
    | (split) | (with_reducible apply State.Keeps.of_pair (by assumption)) | (dsimp only))

theorem State.writeRegs_keeps {r0 s : State} (k0 : r0.Keeps s) (m a : Nat) (d : Bytes) :
    r0.Keeps (State.writeRegs s m a d) := by
  unfold State.writeRegs
  try dsimp only
  repeat' (first
    | (with_reducible exact k0) | (with_reducible exact .refl _) | (with_reducible apply State.each_keeps)
    | (with_reducible apply State.regWrite_keeps) | ((with_reducible intro _ _); try dsimp only) | (split)
    | (with_reducible apply State.Keeps.of_pair (by assumption)) | (dsimp only))

theorem State.lensWord_keeps {r0 s : State} (k0 : r0.Keeps s) (a v : Nat) :
    r0.Keeps (State.lensWord s a v) := by
  unfold State.lensWord
  try dsimp only
  repeat' (first
    | (with_reducible exact k0) | (with_reducible exact .refl _) | (with_reducible apply State.setLensBus_keeps)
    | ((with_reducible intro _ _); try dsimp only) | (split) | (with_reducible apply State.Keeps.of_pair (by assumption)) | (dsimp only))

theorem State.windowStall_keeps {r0 s : State} (k0 : r0.Keeps s) (n k : Nat) :
    r0.Keeps (State.windowStall s n k) := by
  unfold State.windowStall
  try dsimp only
  repeat' (first
    | (with_reducible exact k0) | (with_reducible exact .refl _) | (with_reducible apply State.setItem_keeps)
    | (with_reducible apply State.bump_keeps) | (with_reducible apply State.fresh_keeps) | ((with_reducible intro _ _); try dsimp only)
    | (split) | (with_reducible apply State.Keeps.of_pair (by assumption)) | (dsimp only))

theorem State.windowTouch_keeps {r0 s : State} (k0 : r0.Keeps s) (a n : Nat) :
    r0.Keeps (State.windowTouch s a n) := by
  unfold State.windowTouch
  try dsimp only
  repeat' (first
    | (with_reducible exact k0) | (with_reducible exact .refl _) | (with_reducible apply State.windowStall_keeps)
    | ((with_reducible intro _ _); try dsimp only) | (split) | (with_reducible apply State.Keeps.of_pair (by assumption)) | (dsimp only))

theorem State.windowWrite_keeps {r0 s : State} (k0 : r0.Keeps s) (m a : Nat) (d : Bytes) :
    r0.Keeps (State.windowWrite s m a d) := by
  unfold State.windowWrite
  try dsimp only
  repeat' (first
    | (with_reducible exact k0) | (with_reducible exact .refl _) | (with_reducible apply State.writeRegs_keeps)
    | (with_reducible apply State.withMem_keeps)
    | (intro hm; (repeat (first | exact hm | apply mwrite_wf | apply mclear_wf | apply mmove_wf)); done)
    | ((with_reducible intro _ _); try dsimp only) | (split) | (with_reducible apply State.Keeps.of_pair (by assumption)) | (dsimp only))

theorem State.targetRead_keeps {r0 s : State} (k0 : r0.Keeps s) (m t a n : Nat) :
    r0.Keeps (State.targetRead s m t a n).1 := by
  unfold State.targetRead
  try dsimp only
  repeat' (first
    | (with_reducible exact k0) | (with_reducible exact .refl _) | (with_reducible apply State.windowTouch_keeps)
    | (with_reducible apply State.readRegs_keeps) | ((with_reducible intro _ _); try dsimp only) | (split)
    | (with_reducible apply State.Keeps.of_pair (by assumption)) | (dsimp only))

theorem State.targetWrite_keeps {r0 s : State} (k0 : r0.Keeps s) (m t a : Nat) (d : Bytes) :
    r0.Keeps (State.targetWrite s m t a d) := by
  unfold State.targetWrite
  try dsimp only
  repeat' (first
    | (with_reducible exact k0) | (with_reducible exact .refl _) | (with_reducible apply State.each_keeps)
    | (with_reducible apply State.lensWord_keeps) | (with_reducible apply State.windowTouch_keeps)
    | (with_reducible apply State.windowWrite_keeps) | (with_reducible apply State.writeRegs_keeps)
    | (with_reducible apply State.withMem_keeps)
    | (intro hm; (repeat (first | exact hm | apply mwrite_wf | apply mclear_wf | apply mmove_wf)); done)
    | ((with_reducible intro _ _); try dsimp only) | (split) | (with_reducible apply State.Keeps.of_pair (by assumption)) | (dsimp only))

theorem State.carryOut_keeps {r0 s : State} (k0 : r0.Keeps s) (m t a : Nat) (acc : Access) (e : Ecc) :
    r0.Keeps (State.carryOut s m t a acc e) := by
  unfold State.carryOut
  try dsimp only
  repeat' (first
    | (with_reducible exact k0) | (with_reducible exact .refl _) | (with_reducible apply State.withRdata_keeps)
    | (with_reducible apply State.withRstat_keeps) | (with_reducible apply State.dramServe_keeps)
    | (with_reducible apply State.targetRead_keeps) | (with_reducible apply State.targetWrite_keeps)
    | (intro hm; (repeat (first | exact hm | apply mwrite_wf | apply mclear_wf | apply mmove_wf)); done)
    | ((with_reducible intro _ _); try dsimp only) | (split) | (with_reducible apply State.Keeps.of_pair (by assumption)) | (dsimp only))

/-! ### Machine/XbarRows.lean -/

theorem State.grantTo_keeps {r0 s : State} (k0 : r0.Keeps s) (t m : Nat) :
    r0.Keeps (State.grantTo s t m) := by
  unfold State.grantTo
  try dsimp only
  repeat' (first
    | (with_reducible exact k0) | (with_reducible exact .refl _) | (with_reducible apply State.onXbar_keeps)
    | ((with_reducible intro _ _); try dsimp only) | (split) | (with_reducible apply State.Keeps.of_pair (by assumption)) | (dsimp only))

theorem State.issueReq_keeps {r0 s : State} (k0 : r0.Keeps s) (r : XReq) :
    r0.Keeps (State.issueReq s r) := by
  unfold State.issueReq
  try dsimp only
  repeat' (first
    | (with_reducible exact k0) | (with_reducible exact .refl _) | (with_reducible apply State.busError_keeps)
    | (with_reducible apply State.onXbar_keeps) | (with_reducible apply State.grantTo_keeps)
    | ((with_reducible intro _ _); try dsimp only) | (split) | (with_reducible apply State.Keeps.of_pair (by assumption)) | (dsimp only))

theorem execXbarRequest_keeps {r0 s : State} (k0 : r0.Keeps s) (r : XReq) :
    r0.KeepsNext (execXbarRequest r s) := by
  unfold execXbarRequest
  try dsimp only
  repeat' (first
    | (with_reducible apply State.KeepsNext.next) | (with_reducible exact k0) | (with_reducible exact .refl _)
    | (with_reducible apply State.withRstat_keeps) | (with_reducible apply State.onXbar_keeps)
    | (with_reducible apply State.issueReq_keeps)
    | (intro hm; (repeat (first | exact hm | apply mwrite_wf | apply mclear_wf | apply mmove_wf)); done)
    | ((with_reducible intro _ _); try dsimp only) | (split) | (with_reducible apply State.Keeps.of_pair (by assumption)) | (dsimp only))

theorem execXbarGrant_keeps {r0 s : State} (k0 : r0.Keeps s) (target : Nat) (withdrawn : Bool) :
    r0.KeepsNext (execXbarGrant target withdrawn s) := by
  unfold execXbarGrant
  try dsimp only
  repeat' (first
    | (with_reducible apply State.KeepsNext.next) | (with_reducible exact k0) | (with_reducible exact .refl _)
    | (with_reducible apply State.onXbar_keeps) | (with_reducible apply State.bump_keeps) | (with_reducible apply State.perfAdd_keeps)
    | (with_reducible apply State.grantTo_keeps) | ((with_reducible intro _ _); try dsimp only) | (split)
    | (with_reducible apply State.Keeps.of_pair (by assumption)) | (dsimp only))

theorem State.issueStalled_keeps {r0 s : State} (k0 : r0.Keeps s) (m : Nat) (z1 : Nat) :
    r0.Keeps (State.issueStalled s m z1) := by
  induction z1 generalizing s with
  | zero =>
    unfold State.issueStalled
    try dsimp only
    repeat' (first
      | (with_reducible exact k0) | (with_reducible exact .refl _) | (with_reducible apply State.onXbar_keeps)
      | (with_reducible apply State.issueReq_keeps) | ((with_reducible intro _ _); try dsimp only) | (split)
      | (with_reducible apply State.Keeps.of_pair (by assumption)) | (dsimp only))
  | succ _ ih =>
    unfold State.issueStalled
    try dsimp only
    repeat' (first
      | (with_reducible exact k0) | (with_reducible exact .refl _) | (with_reducible apply ih) | (with_reducible apply State.onXbar_keeps)
      | (with_reducible apply State.issueReq_keeps) | ((with_reducible intro _ _); try dsimp only) | (split)
      | (with_reducible apply State.Keeps.of_pair (by assumption)) | (dsimp only))

theorem State.afterLeave_keeps {r0 s : State} (k0 : r0.Keeps s) (m : Nat) :
    r0.Keeps (State.afterLeave s m) := by
  unfold State.afterLeave
  try dsimp only
  repeat' (first
    | (with_reducible exact k0) | (with_reducible exact .refl _) | (with_reducible apply State.onXbar_keeps)
    | (with_reducible apply State.issueStalled_keeps) | ((with_reducible intro _ _); try dsimp only) | (split)
    | (with_reducible apply State.Keeps.of_pair (by assumption)) | (dsimp only))

theorem State.sramEcc_keeps {r0 s : State} (k0 : r0.Keeps s) (m t a : Nat) (z1 : Ecc) :
    r0.Keeps (State.sramEcc s m t a z1) := by
  unfold State.sramEcc
  try dsimp only
  repeat' (first
    | (with_reducible exact k0) | (with_reducible exact .refl _) | (with_reducible apply State.corrected_keeps)
    | (with_reducible apply State.bump_keeps) | (with_reducible apply State.perfAdd_keeps) | (with_reducible apply State.noteErr_keeps)
    | (with_reducible apply State.raise_keeps) | (with_reducible apply State.traceRec_keeps)
    | ((with_reducible intro _ _); try dsimp only) | (split) | (with_reducible apply State.Keeps.of_pair (by assumption)) | (dsimp only))

theorem State.readOutcome_keeps {r0 s : State} (k0 : r0.Keeps s) (m t a n : Nat) (e : Ecc) :
    r0.Keeps (State.readOutcome s m t a n e) := by
  unfold State.readOutcome
  try dsimp only
  repeat' (first
    | (with_reducible exact k0) | (with_reducible exact .refl _) | (with_reducible apply State.sramEcc_keeps)
    | (with_reducible apply State.withRdata_keeps) | (with_reducible apply State.withRstat_keeps)
    | (with_reducible apply State.fatalError_keeps) | (with_reducible apply State.errorTo_keeps)
    | (intro hm; (repeat (first | exact hm | apply mwrite_wf | apply mclear_wf | apply mmove_wf)); done)
    | ((with_reducible intro _ _); try dsimp only) | (split) | (with_reducible apply State.Keeps.of_pair (by assumption)) | (dsimp only))

theorem State.retrySucceeded_keeps {r0 s : State} (k0 : r0.Keeps s) (x : XEntry) :
    r0.Keeps (State.retrySucceeded s x) := by
  unfold State.retrySucceeded
  try dsimp only
  repeat' (first
    | (with_reducible exact k0) | (with_reducible exact .refl _) | (with_reducible apply State.noteErr_keeps)
    | (with_reducible apply State.bump_keeps) | (with_reducible apply State.raise_keeps) | (with_reducible apply State.traceRec_keeps)
    | ((with_reducible intro _ _); try dsimp only) | (split) | (with_reducible apply State.Keeps.of_pair (by assumption)) | (dsimp only))

theorem State.dropGranted_keeps {r0 s : State} (k0 : r0.Keeps s) (m tag : Nat) :
    r0.Keeps (State.dropGranted s m tag) := by
  unfold State.dropGranted
  try dsimp only
  repeat' (first
    | (with_reducible exact k0) | (with_reducible exact .refl _) | (with_reducible apply State.onXbar_keeps)
    | ((with_reducible intro _ _); try dsimp only) | (split) | (with_reducible apply State.Keeps.of_pair (by assumption)) | (dsimp only))

theorem execXbarComplete_keeps {r0 s : State} (k0 : r0.Keeps s) (master tag : Nat) (e : Ecc) (held : Nat) :
    r0.KeepsNext (execXbarComplete master tag e held s) := by
  unfold execXbarComplete
  try dsimp only
  repeat' (first
    | (with_reducible apply State.KeepsNext.next) | (with_reducible exact k0) | (with_reducible exact .refl _)
    | (with_reducible apply State.dropGranted_keeps) | (with_reducible apply State.retrySucceeded_keeps)
    | (with_reducible apply State.carryOut_keeps) | (with_reducible apply State.withRdata_keeps)
    | (with_reducible apply State.withRstat_keeps) | (with_reducible apply State.readOutcome_keeps)
    | (with_reducible apply State.errorTo_keeps) | (with_reducible apply State.bump_keeps) | (with_reducible apply State.perfAdd_keeps)
    | (with_reducible apply State.afterLeave_keeps)
    | (intro hm; (repeat (first | exact hm | apply mwrite_wf | apply mclear_wf | apply mmove_wf)); done)
    | ((with_reducible intro _ _); try dsimp only) | (split) | (with_reducible apply State.Keeps.of_pair (by assumption)) | (dsimp only))

theorem State.failTarget_keeps {r0 s : State} (k0 : r0.Keeps s) (t a : Nat) :
    r0.Keeps (State.failTarget s t a) := by
  unfold State.failTarget
  try dsimp only
  repeat' (first
    | (with_reducible exact k0) | (with_reducible exact .refl _) | (with_reducible apply State.onXbar_keeps)
    | ((with_reducible intro _ _); try dsimp only) | (split) | (with_reducible apply State.Keeps.of_pair (by assumption)) | (dsimp only))

theorem State.timeoutFail_keeps {r0 s : State} (k0 : r0.Keeps s) (x : XEntry) :
    r0.Keeps (State.timeoutFail s x) := by
  unfold State.timeoutFail
  try dsimp only
  repeat' (first
    | (with_reducible exact k0) | (with_reducible exact .refl _) | (with_reducible apply State.bump_keeps)
    | (with_reducible apply State.raise_keeps) | (with_reducible apply State.logErr_keeps) | (with_reducible apply State.failTarget_keeps)
    | (with_reducible apply State.traceRec_keeps) | (with_reducible apply State.fatalError_keeps)
    | (with_reducible apply State.withRdata_keeps) | (with_reducible apply State.errorTo_keeps)
    | (intro hm; (repeat (first | exact hm | apply mwrite_wf | apply mclear_wf | apply mmove_wf)); done)
    | ((with_reducible intro _ _); try dsimp only) | (split) | (with_reducible apply State.Keeps.of_pair (by assumption)) | (dsimp only))

theorem execXbarTimeout_keeps {r0 s : State} (k0 : r0.Keeps s) (master tag : Nat) :
    r0.KeepsNext (execXbarTimeout master tag s) := by
  unfold execXbarTimeout
  try dsimp only
  repeat' (first
    | (with_reducible apply State.KeepsNext.next) | (with_reducible exact k0) | (with_reducible exact .refl _)
    | (with_reducible apply State.onXbar_keeps) | (with_reducible apply State.dropGranted_keeps)
    | (with_reducible apply State.timeoutFail_keeps) | (with_reducible apply State.afterLeave_keeps)
    | ((with_reducible intro _ _); try dsimp only) | (split) | (with_reducible apply State.Keeps.of_pair (by assumption)) | (dsimp only))

theorem execParkDefault_keeps {r0 s : State} (k0 : r0.Keeps s) (target : Nat) :
    r0.KeepsNext (execParkDefault target s) := by
  unfold execParkDefault
  try dsimp only
  repeat' (first
    | (with_reducible apply State.KeepsNext.next) | (with_reducible exact k0) | (with_reducible exact .refl _)
    | (with_reducible apply State.onXbar_keeps) | ((with_reducible intro _ _); try dsimp only) | (split)
    | (with_reducible apply State.Keeps.of_pair (by assumption)) | (dsimp only))

/-! ### Machine/Dump.lean -/

theorem State.writeDump_keeps {r0 s : State} (k0 : r0.Keeps s) (f : Fatal) (rom : Bool) : r0.Keeps (State.writeDump s f rom) := by
  unfold State.writeDump
  extract_lets a secs head s1 s2
  have h1 : r0.Keeps s1 := State.withMem_keeps k0 _ (fun h => mclear_wf h _ _)
  have h2 : r0.Keeps s2 := State.each_keeps h1 _ _ (fun t e => State.withMem_keeps (.refl _) _ (fun h => mwrite_wf h _ _))
  exact State.onTrace_keeps (State.fresh_keeps (State.withMem_keeps h2 _ (fun h => mwrite_wf h _ _))) _

/-! ### Machine/Diag.lean -/

theorem cmdCounterRead_keeps : cmdCounterRead.Keeps := by
  intro h p s
  have k0 := State.Keeps.refl s
  unfold cmdCounterRead
  try dsimp only [mkCmd, mkBulk]
  repeat' (first
    | (with_reducible exact k0) | (with_reducible exact .refl _) | (with_reducible exact mkCmd_keeps)
    | (with_reducible apply checked_keeps) | ((with_reducible intro _ _); try dsimp only) | (split)
    | (with_reducible apply State.Keeps.of_pair (by assumption)) | (dsimp only))

theorem execCounterRead_keeps {r0 s : State} (k0 : r0.Keeps s) (h : Hdr) (p : Bytes) :
    r0.KeepsNext (execCounterRead h p s) := by
  unfold execCounterRead
  try dsimp only
  repeat' (first
    | (with_reducible apply State.KeepsNext.next) | (with_reducible exact k0) | (with_reducible exact .refl _)
    | (with_reducible apply CmdDef.exec_keeps) | (with_reducible exact cmdCounterRead_keeps)
    | (with_reducible refine State.KeepsNext.of (CmdDef.exec_keeps ?_ _ _ _) (by assumption))
    | ((with_reducible intro _ _); try dsimp only) | (split) | (with_reducible apply State.Keeps.of_pair (by assumption)) | (dsimp only)
    | (with_reducible apply CmdDef.exec_keeps))

theorem cmdPerfCfg_keeps : cmdPerfCfg.Keeps := by
  intro h p s
  have k0 := State.Keeps.refl s
  unfold cmdPerfCfg
  try dsimp only [mkCmd, mkBulk]
  repeat' (first
    | (with_reducible exact k0) | (with_reducible exact .refl _) | (with_reducible exact mkCmd_keeps)
    | (with_reducible apply checkedEntries_keeps) | (with_reducible apply State.each_keeps) | (with_reducible apply State.wr_keeps)
    | ((with_reducible intro _ _); try dsimp only) | (split) | (with_reducible apply State.Keeps.of_pair (by assumption)) | (dsimp only))

theorem execPerfCfg_keeps {r0 s : State} (k0 : r0.Keeps s) (h : Hdr) (p : Bytes) :
    r0.KeepsNext (execPerfCfg h p s) := by
  unfold execPerfCfg
  try dsimp only
  repeat' (first
    | (with_reducible apply State.KeepsNext.next) | (with_reducible exact k0) | (with_reducible exact .refl _)
    | (with_reducible apply CmdDef.exec_keeps) | (with_reducible exact cmdPerfCfg_keeps)
    | (with_reducible refine State.KeepsNext.of (CmdDef.exec_keeps ?_ _ _ _) (by assumption))
    | ((with_reducible intro _ _); try dsimp only) | (split) | (with_reducible apply State.Keeps.of_pair (by assumption)) | (dsimp only)
    | (with_reducible apply CmdDef.exec_keeps))

theorem cmdPerfRead_keeps : cmdPerfRead.Keeps := by
  intro h p s
  have k0 := State.Keeps.refl s
  unfold cmdPerfRead
  try dsimp only [mkCmd, mkBulk]
  repeat' (first
    | (with_reducible exact k0) | (with_reducible exact .refl _) | (with_reducible exact mkCmd_keeps)
    | (with_reducible apply checked_keeps) | ((with_reducible intro _ _); try dsimp only) | (split)
    | (with_reducible apply State.Keeps.of_pair (by assumption)) | (dsimp only))

theorem execPerfRead_keeps {r0 s : State} (k0 : r0.Keeps s) (h : Hdr) (p : Bytes) :
    r0.KeepsNext (execPerfRead h p s) := by
  unfold execPerfRead
  try dsimp only
  repeat' (first
    | (with_reducible apply State.KeepsNext.next) | (with_reducible exact k0) | (with_reducible exact .refl _)
    | (with_reducible apply CmdDef.exec_keeps) | (with_reducible exact cmdPerfRead_keeps)
    | (with_reducible refine State.KeepsNext.of (CmdDef.exec_keeps ?_ _ _ _) (by assumption))
    | ((with_reducible intro _ _); try dsimp only) | (split) | (with_reducible apply State.Keeps.of_pair (by assumption)) | (dsimp only)
    | (with_reducible apply CmdDef.exec_keeps))

theorem State.traceEmpty_keeps {r0 s : State} (k0 : r0.Keeps s)  :
    r0.Keeps (State.traceEmpty s) := by
  unfold State.traceEmpty
  try dsimp only
  repeat' (first
    | (with_reducible exact k0) | (with_reducible exact .refl _) | (with_reducible apply State.onTrace_keeps)
    | ((with_reducible intro _ _); try dsimp only) | (split) | (with_reducible apply State.Keeps.of_pair (by assumption)) | (dsimp only))

theorem State.traceSet_keeps {r0 s : State} (k0 : r0.Keeps s) (p : Bytes) :
    r0.Keeps (State.traceSet s p) := by
  unfold State.traceSet
  try dsimp only
  repeat' (first
    | (with_reducible exact k0) | (with_reducible exact .refl _) | (with_reducible apply State.wr_keeps)
    | (with_reducible apply State.setFld_keeps) | ((with_reducible intro _ _); try dsimp only) | (split)
    | (with_reducible apply State.Keeps.of_pair (by assumption)) | (dsimp only))

theorem cmdTraceCfg_keeps : cmdTraceCfg.Keeps := by
  intro h p s
  have k0 := State.Keeps.refl s
  unfold cmdTraceCfg
  try dsimp only [mkCmd, mkBulk]
  repeat' (first
    | (with_reducible exact k0) | (with_reducible exact .refl _) | (with_reducible exact mkCmd_keeps)
    | (with_reducible apply State.traceEmpty_keeps) | (with_reducible apply State.setFld_keeps) | (with_reducible apply checked_keeps)
    | (with_reducible apply State.traceSet_keeps) | (with_reducible apply State.freeTrace_keeps)
    | (with_reducible refine State.placeTrace_keeps ?_ (by assumption)) | ((with_reducible intro _ _); try dsimp only) | (split)
    | (with_reducible apply State.Keeps.of_pair (by assumption)) | (dsimp only))

theorem execTraceCfg_keeps {r0 s : State} (k0 : r0.Keeps s) (h : Hdr) (p : Bytes) :
    r0.KeepsNext (execTraceCfg h p s) := by
  unfold execTraceCfg
  try dsimp only
  repeat' (first
    | (with_reducible apply State.KeepsNext.next) | (with_reducible exact k0) | (with_reducible exact .refl _)
    | (with_reducible apply CmdDef.exec_keeps) | (with_reducible exact cmdTraceCfg_keeps)
    | (with_reducible refine State.KeepsNext.of (CmdDef.exec_keeps ?_ _ _ _) (by assumption))
    | ((with_reducible intro _ _); try dsimp only) | (split) | (with_reducible apply State.Keeps.of_pair (by assumption)) | (dsimp only)
    | (with_reducible apply CmdDef.exec_keeps))

theorem State.traceCopy_keeps {r0 s : State} (k0 : r0.Keeps s) (b : Buf) :
    r0.Keeps (State.traceCopy s b).1 := by
  unfold State.traceCopy
  try dsimp only
  repeat' (first
    | (with_reducible exact k0) | (with_reducible exact .refl _) | (with_reducible apply State.traceSkip_keeps)
    | (with_reducible apply State.bufWrite_keeps) | (with_reducible apply State.onTrace_keeps)
    | (with_reducible apply State.stopped_keeps) | ((with_reducible intro _ _); try dsimp only) | (split)
    | (with_reducible apply State.Keeps.of_pair (by assumption)) | (dsimp only))

theorem cmdTraceRead_keeps : cmdTraceRead.Keeps := by
  intro h p s
  have k0 := State.Keeps.refl s
  unfold cmdTraceRead
  try dsimp only [mkCmd, mkBulk]
  repeat' (first
    | (with_reducible exact k0) | (with_reducible exact .refl _) | (with_reducible exact mkBulk_keeps)
    | (with_reducible apply checked_keeps) | (with_reducible apply State.traceCopy_keeps) | ((with_reducible intro _ _); try dsimp only)
    | (split) | (with_reducible apply State.Keeps.of_pair (by assumption)) | (dsimp only))

theorem execTraceRead_keeps {r0 s : State} (k0 : r0.Keeps s) (h : Hdr) (p : Bytes) :
    r0.KeepsNext (execTraceRead h p s) := by
  unfold execTraceRead
  try dsimp only
  repeat' (first
    | (with_reducible apply State.KeepsNext.next) | (with_reducible exact k0) | (with_reducible exact .refl _)
    | (with_reducible apply CmdDef.exec_keeps) | (with_reducible exact cmdTraceRead_keeps)
    | (with_reducible refine State.KeepsNext.of (CmdDef.exec_keeps ?_ _ _ _) (by assumption))
    | ((with_reducible intro _ _); try dsimp only) | (split) | (with_reducible apply State.Keeps.of_pair (by assumption)) | (dsimp only)
    | (with_reducible apply CmdDef.exec_keeps))

theorem cmdDumpInfo_keeps : cmdDumpInfo.Keeps := by
  intro h p s
  have k0 := State.Keeps.refl s
  unfold cmdDumpInfo
  try dsimp only [mkCmd, mkBulk]
  repeat' (first
    | (with_reducible exact k0) | (with_reducible exact .refl _) | (with_reducible exact mkCmd_keeps)
    | ((with_reducible intro _ _); try dsimp only) | (split) | (with_reducible apply State.Keeps.of_pair (by assumption)) | (dsimp only))

theorem execDumpInfo_keeps {r0 s : State} (k0 : r0.Keeps s) (h : Hdr) (p : Bytes) :
    r0.KeepsNext (execDumpInfo h p s) := by
  unfold execDumpInfo
  try dsimp only
  repeat' (first
    | (with_reducible apply State.KeepsNext.next) | (with_reducible exact k0) | (with_reducible exact .refl _)
    | (with_reducible apply CmdDef.exec_keeps) | (with_reducible exact cmdDumpInfo_keeps)
    | (with_reducible refine State.KeepsNext.of (CmdDef.exec_keeps ?_ _ _ _) (by assumption))
    | ((with_reducible intro _ _); try dsimp only) | (split) | (with_reducible apply State.Keeps.of_pair (by assumption)) | (dsimp only)
    | (with_reducible apply CmdDef.exec_keeps))

theorem cmdDumpRead_keeps : cmdDumpRead.Keeps := by
  intro h p s
  have k0 := State.Keeps.refl s
  unfold cmdDumpRead
  try dsimp only [mkCmd, mkBulk]
  repeat' (first
    | (with_reducible exact k0) | (with_reducible exact .refl _) | (with_reducible exact mkBulk_keeps)
    | (with_reducible apply checked_keeps) | (with_reducible apply State.bufWrite_keeps) | ((with_reducible intro _ _); try dsimp only)
    | (split) | (with_reducible apply State.Keeps.of_pair (by assumption)) | (dsimp only))

theorem execDumpRead_keeps {r0 s : State} (k0 : r0.Keeps s) (h : Hdr) (p : Bytes) :
    r0.KeepsNext (execDumpRead h p s) := by
  unfold execDumpRead
  try dsimp only
  repeat' (first
    | (with_reducible apply State.KeepsNext.next) | (with_reducible exact k0) | (with_reducible exact .refl _)
    | (with_reducible apply CmdDef.exec_keeps) | (with_reducible exact cmdDumpRead_keeps)
    | (with_reducible refine State.KeepsNext.of (CmdDef.exec_keeps ?_ _ _ _) (by assumption))
    | ((with_reducible intro _ _); try dsimp only) | (split) | (with_reducible apply State.Keeps.of_pair (by assumption)) | (dsimp only)
    | (with_reducible apply CmdDef.exec_keeps))

theorem cmdDumpClear_keeps : cmdDumpClear.Keeps := by
  intro h p s
  have k0 := State.Keeps.refl s
  unfold cmdDumpClear
  try dsimp only [mkCmd, mkBulk]
  repeat' (first
    | (with_reducible exact k0) | (with_reducible exact .refl _) | (with_reducible exact mkCmd_keeps)
    | (with_reducible apply State.onTrace_keeps) | ((with_reducible intro _ _); try dsimp only) | (split)
    | (with_reducible apply State.Keeps.of_pair (by assumption)) | (dsimp only))

theorem execDumpClear_keeps {r0 s : State} (k0 : r0.Keeps s) (h : Hdr) (p : Bytes) :
    r0.KeepsNext (execDumpClear h p s) := by
  unfold execDumpClear
  try dsimp only
  repeat' (first
    | (with_reducible apply State.KeepsNext.next) | (with_reducible exact k0) | (with_reducible exact .refl _)
    | (with_reducible apply CmdDef.exec_keeps) | (with_reducible exact cmdDumpClear_keeps)
    | (with_reducible refine State.KeepsNext.of (CmdDef.exec_keeps ?_ _ _ _) (by assumption))
    | ((with_reducible intro _ _); try dsimp only) | (split) | (with_reducible apply State.Keeps.of_pair (by assumption)) | (dsimp only)
    | (with_reducible apply CmdDef.exec_keeps))

theorem State.maskEvent_keeps {r0 s : State} (k0 : r0.Keeps s) (e : Bytes) :
    r0.Keeps (State.maskEvent s e) := by
  unfold State.maskEvent
  try dsimp only
  repeat' (first
    | (with_reducible exact k0) | (with_reducible exact .refl _) | (with_reducible apply State.onMbx_keeps)
    | ((with_reducible intro _ _); try dsimp only) | (split) | (with_reducible apply State.Keeps.of_pair (by assumption)) | (dsimp only))

theorem cmdEventMaskSet_keeps : cmdEventMaskSet.Keeps := by
  intro h p s
  have k0 := State.Keeps.refl s
  unfold cmdEventMaskSet
  try dsimp only [mkCmd, mkBulk]
  repeat' (first
    | (with_reducible exact k0) | (with_reducible exact .refl _) | (with_reducible exact mkCmd_keeps)
    | (with_reducible apply checkedEntries_keeps) | (with_reducible apply State.each_keeps) | (with_reducible apply State.maskEvent_keeps)
    | ((with_reducible intro _ _); try dsimp only) | (split) | (with_reducible apply State.Keeps.of_pair (by assumption)) | (dsimp only))

theorem execEventMaskSet_keeps {r0 s : State} (k0 : r0.Keeps s) (h : Hdr) (p : Bytes) :
    r0.KeepsNext (execEventMaskSet h p s) := by
  unfold execEventMaskSet
  try dsimp only
  repeat' (first
    | (with_reducible apply State.KeepsNext.next) | (with_reducible exact k0) | (with_reducible exact .refl _)
    | (with_reducible apply CmdDef.exec_keeps) | (with_reducible exact cmdEventMaskSet_keeps)
    | (with_reducible refine State.KeepsNext.of (CmdDef.exec_keeps ?_ _ _ _) (by assumption))
    | ((with_reducible intro _ _); try dsimp only) | (split) | (with_reducible apply State.Keeps.of_pair (by assumption)) | (dsimp only)
    | (with_reducible apply CmdDef.exec_keeps))

/-! ### Machine/HostRows.lean -/

theorem State.placeHost_keeps {r0 s : State} (k0 : r0.Keeps s) (n : Nat) {t1 : State} (h1 : (State.placeHost s n) = some t1) :
    r0.Keeps t1 := by
  unfold State.placeHost at h1
  try dsimp only at h1
  repeat' (first
    | (cases h1; done) | (injection h1 with h1; subst h1) | (split at h1)
    | (obtain ⟨e1, h2, h3⟩ := Option.map_eq_some_iff.1 h1; clear h1; subst h3; try dsimp only))
  all_goals repeat' (first
    | (with_reducible exact k0) | (with_reducible exact .refl _) | (with_reducible apply State.withMem_keeps)
    | (with_reducible apply State.onHost_keeps) | (with_reducible apply State.wr_keeps)
    | (with_reducible apply State.freeHostRegion_keeps) | (with_reducible refine State.place_keeps ?_ _ _ _ (by assumption))
    | (with_reducible refine State.place_keeps' ?_ _ _ _ (by assumption))
    | (intro hm; (repeat (first | exact hm | apply mwrite_wf | apply mclear_wf | apply mmove_wf)); done)
    | ((with_reducible intro _ _); try dsimp only) | (split) | (with_reducible apply State.Keeps.of_pair (by assumption)) | (dsimp only))

theorem cmdHostRegionSet_keeps : cmdHostRegionSet.Keeps := by
  intro h p s
  have k0 := State.Keeps.refl s
  unfold cmdHostRegionSet
  try dsimp only [mkCmd, mkBulk]
  repeat' (first
    | (with_reducible exact k0) | (with_reducible exact .refl _) | (with_reducible exact mkCmd_keeps)
    | (with_reducible apply checked_keeps) | (with_reducible refine State.placeHost_keeps ?_ _ (by assumption))
    | ((with_reducible intro _ _); try dsimp only) | (split) | (with_reducible apply State.Keeps.of_pair (by assumption)) | (dsimp only))

theorem execHostRegionSet_keeps {r0 s : State} (k0 : r0.Keeps s) (h : Hdr) (p : Bytes) :
    r0.KeepsNext (execHostRegionSet h p s) := by
  unfold execHostRegionSet
  try dsimp only
  repeat' (first
    | (with_reducible apply State.KeepsNext.next) | (with_reducible exact k0) | (with_reducible exact .refl _)
    | (with_reducible apply CmdDef.exec_keeps) | (with_reducible exact cmdHostRegionSet_keeps)
    | (with_reducible refine State.KeepsNext.of (CmdDef.exec_keeps ?_ _ _ _) (by assumption))
    | ((with_reducible intro _ _); try dsimp only) | (split) | (with_reducible apply State.Keeps.of_pair (by assumption)) | (dsimp only)
    | (with_reducible apply CmdDef.exec_keeps))

theorem cmdClaimList_keeps : cmdClaimList.Keeps := by
  intro h p s
  have k0 := State.Keeps.refl s
  unfold cmdClaimList
  try dsimp only [mkCmd, mkBulk]
  repeat' (first
    | (with_reducible exact k0) | (with_reducible exact .refl _) | (with_reducible exact mkCmd_keeps)
    | ((with_reducible intro _ _); try dsimp only) | (split) | (with_reducible apply State.Keeps.of_pair (by assumption)) | (dsimp only))

theorem execClaimList_keeps {r0 s : State} (k0 : r0.Keeps s) (h : Hdr) (p : Bytes) :
    r0.KeepsNext (execClaimList h p s) := by
  unfold execClaimList
  try dsimp only
  repeat' (first
    | (with_reducible apply State.KeepsNext.next) | (with_reducible exact k0) | (with_reducible exact .refl _)
    | (with_reducible apply CmdDef.exec_keeps) | (with_reducible exact cmdClaimList_keeps)
    | (with_reducible refine State.KeepsNext.of (CmdDef.exec_keeps ?_ _ _ _) (by assumption))
    | ((with_reducible intro _ _); try dsimp only) | (split) | (with_reducible apply State.Keeps.of_pair (by assumption)) | (dsimp only)
    | (with_reducible apply CmdDef.exec_keeps))

theorem State.completerAbort_keeps {r0 s : State} (k0 : r0.Keeps s)  :
    r0.Keeps (State.completerAbort s) := by
  unfold State.completerAbort
  try dsimp only
  repeat' (first
    | (with_reducible exact k0) | (with_reducible exact .refl _) | (with_reducible apply State.withRdata_keeps)
    | (with_reducible apply State.withRstat_keeps) | (with_reducible apply State.raise_keeps) | (with_reducible apply State.bump_keeps)
    | (intro hm; (repeat (first | exact hm | apply mwrite_wf | apply mclear_wf | apply mmove_wf)); done)
    | ((with_reducible intro _ _); try dsimp only) | (split) | (with_reducible apply State.Keeps.of_pair (by assumption)) | (dsimp only))

theorem State.memAccess_keeps {r0 s : State} (k0 : r0.Keeps s) (a : Nat) (z1 : Access) :
    r0.Keeps (State.memAccess s a z1) := by
  unfold State.memAccess
  try dsimp only
  repeat' (first
    | (with_reducible exact k0) | (with_reducible exact .refl _) | (with_reducible apply State.withRdata_keeps)
    | (with_reducible apply State.withRstat_keeps) | (with_reducible apply State.withMem_keeps)
    | (intro hm; (repeat (first | exact hm | apply mwrite_wf | apply mclear_wf | apply mmove_wf)); done)
    | ((with_reducible intro _ _); try dsimp only) | (split) | (with_reducible apply State.Keeps.of_pair (by assumption)) | (dsimp only))

theorem State.bar2Region_keeps {r0 s : State} (k0 : r0.Keeps s) (off : Nat) (acc : Access) :
    r0.Keeps (State.bar2Region s off acc) := by
  unfold State.bar2Region
  try dsimp only
  repeat' (first
    | (with_reducible exact k0) | (with_reducible exact .refl _) | (with_reducible apply State.completerAbort_keeps)
    | (with_reducible apply State.busError_keeps) | (with_reducible apply State.withRdata_keeps)
    | (with_reducible apply State.withRstat_keeps) | (with_reducible apply State.dramServe_keeps)
    | (intro hm; (repeat (first | exact hm | apply mwrite_wf | apply mclear_wf | apply mmove_wf)); done)
    | ((with_reducible intro _ _); try dsimp only) | (split) | (with_reducible apply State.Keeps.of_pair (by assumption)) | (dsimp only))

theorem execBar2Access_keeps {r0 s : State} (k0 : r0.Keeps s) (off : Nat) (acc : Access) :
    r0.KeepsNext (execBar2Access off acc s) := by
  unfold execBar2Access
  try dsimp only
  repeat' (first
    | (with_reducible apply State.KeepsNext.next) | (with_reducible exact k0) | (with_reducible exact .refl _)
    | (with_reducible apply State.completerAbort_keeps) | (with_reducible apply State.memAccess_keeps)
    | (with_reducible apply State.bar2Region_keeps) | ((with_reducible intro _ _); try dsimp only) | (split)
    | (with_reducible apply State.Keeps.of_pair (by assumption)) | (dsimp only))

theorem State.window32_keeps {r0 s : State} (k0 : r0.Keeps s) (a : Nat) (acc : Access) :
    r0.Keeps (State.window32 s a acc) := by
  unfold State.window32
  try dsimp only
  repeat' (first
    | (with_reducible exact k0) | (with_reducible exact .refl _) | (with_reducible apply State.logErr_keeps)
    | (with_reducible apply State.bump_keeps) | (with_reducible apply State.perfAdd_keeps)
    | (with_reducible apply State.completerAbort_keeps) | (with_reducible apply State.carryOut_keeps)
    | (with_reducible apply State.withRdata_keeps)
    | (intro hm; (repeat (first | exact hm | apply mwrite_wf | apply mclear_wf | apply mmove_wf)); done)
    | ((with_reducible intro _ _); try dsimp only) | (split) | (with_reducible apply State.Keeps.of_pair (by assumption)) | (dsimp only))

theorem State.window64_keeps {r0 s : State} (k0 : r0.Keeps s) (a : Nat) (acc : Access) :
    r0.Keeps (State.window64 s a acc) := by
  unfold State.window64
  try dsimp only
  repeat' (first
    | (with_reducible exact k0) | (with_reducible exact .refl _) | (with_reducible apply State.window32_keeps)
    | ((with_reducible intro _ _); try dsimp only) | (split) | (with_reducible apply State.Keeps.of_pair (by assumption)) | (dsimp only))

theorem State.windowNarrow_keeps {r0 s : State} (k0 : r0.Keeps s) (a n : Nat) :
    r0.Keeps (State.windowNarrow s a n) := by
  unfold State.windowNarrow
  try dsimp only
  repeat' (first
    | (with_reducible exact k0) | (with_reducible exact .refl _) | (with_reducible apply State.window32_keeps)
    | (with_reducible apply State.withRdata_keeps)
    | (intro hm; (repeat (first | exact hm | apply mwrite_wf | apply mclear_wf | apply mmove_wf)); done)
    | ((with_reducible intro _ _); try dsimp only) | (split) | (with_reducible apply State.Keeps.of_pair (by assumption)) | (dsimp only))

theorem execDebugWindowAccess_keeps {r0 s : State} (k0 : r0.Keeps s) (w : Nat) (acc : Access) :
    r0.KeepsNext (execDebugWindowAccess w acc s) := by
  unfold execDebugWindowAccess
  try dsimp only
  repeat' (first
    | (with_reducible apply State.KeepsNext.next) | (with_reducible exact k0) | (with_reducible exact .refl _)
    | (with_reducible apply State.withRdata_keeps) | (with_reducible apply State.withRstat_keeps)
    | (with_reducible apply State.window32_keeps) | (with_reducible apply State.window64_keeps)
    | (with_reducible apply State.windowNarrow_keeps)
    | (intro hm; (repeat (first | exact hm | apply mwrite_wf | apply mclear_wf | apply mmove_wf)); done)
    | ((with_reducible intro _ _); try dsimp only) | (split) | (with_reducible apply State.Keeps.of_pair (by assumption)) | (dsimp only))

theorem execHostifDbgWinWrite_keeps {r0 s : State} (k0 : r0.Keeps s) (v : Word) :
    r0.KeepsNext (execHostifDbgWinWrite v s) := by
  unfold execHostifDbgWinWrite
  try dsimp only
  repeat' (first
    | (with_reducible apply State.KeepsNext.next) | (with_reducible exact k0) | (with_reducible exact .refl _)
    | (with_reducible apply State.regWrite_keeps) | ((with_reducible intro _ _); try dsimp only) | (split)
    | (with_reducible apply State.Keeps.of_pair (by assumption)) | (dsimp only))

theorem State.spiRegs_keeps {r0 s : State} (k0 : r0.Keeps s) (off : Nat) (d : Bytes) :
    r0.Keeps (State.spiRegs s off d) := by
  unfold State.spiRegs
  try dsimp only
  repeat' (first
    | (with_reducible exact k0) | (with_reducible exact .refl _) | (with_reducible apply State.each_keeps)
    | (with_reducible apply State.regWrite_keeps) | ((with_reducible intro _ _); try dsimp only) | (split)
    | (with_reducible apply State.Keeps.of_pair (by assumption)) | (dsimp only))

theorem State.spiMem_keeps {r0 s : State} (k0 : r0.Keeps s) (off : Nat) (d : Bytes) :
    r0.Keeps (State.spiMem s off d) := by
  unfold State.spiMem
  try dsimp only
  repeat' (first
    | (with_reducible exact k0) | (with_reducible exact .refl _) | (with_reducible apply State.withMem_keeps)
    | (intro hm; (repeat (first | exact hm | apply mwrite_wf | apply mclear_wf | apply mmove_wf)); done)
    | ((with_reducible intro _ _); try dsimp only) | (split) | (with_reducible apply State.Keeps.of_pair (by assumption)) | (dsimp only))

theorem State.spiWrite_keeps {r0 s : State} (k0 : r0.Keeps s) (off : Nat) (d : Bytes) :
    r0.Keeps (State.spiWrite s off d) := by
  unfold State.spiWrite
  try dsimp only
  repeat' (first
    | (with_reducible exact k0) | (with_reducible exact .refl _) | (with_reducible apply State.slotWrite_keeps)
    | (with_reducible apply State.spiRegs_keeps) | (with_reducible apply State.spiMem_keeps)
    | ((with_reducible intro _ _); try dsimp only) | (split) | (with_reducible apply State.Keeps.of_pair (by assumption)) | (dsimp only))

theorem execSpiTransaction_keeps {r0 s : State} (k0 : r0.Keeps s) (ins : Byte) (off : Nat) (data : Bytes) (n : Nat) :
    r0.KeepsNext (execSpiTransaction ins off data n s) := by
  unfold execSpiTransaction
  try dsimp only
  repeat' (first
    | (with_reducible apply State.KeepsNext.next) | (with_reducible exact k0) | (with_reducible exact .refl _)
    | (with_reducible apply State.withRdata_keeps) | (with_reducible apply State.withRstat_keeps)
    | (with_reducible apply State.spiWrite_keeps)
    | (intro hm; (repeat (first | exact hm | apply mwrite_wf | apply mclear_wf | apply mmove_wf)); done)
    | ((with_reducible intro _ _); try dsimp only) | (split) | (with_reducible apply State.Keeps.of_pair (by assumption)) | (dsimp only))

theorem State.stopTransfer_keeps {r0 s : State} (k0 : r0.Keeps s) (j : Job) :
    r0.Keeps (State.stopTransfer s j) := by
  unfold State.stopTransfer
  try dsimp only
  repeat' (first
    | (with_reducible exact k0) | (with_reducible exact .refl _) | (with_reducible apply State.onMbx_keeps)
    | (with_reducible apply State.bump_keeps) | (with_reducible apply State.respond_keeps) | ((with_reducible intro _ _); try dsimp only)
    | (split) | (with_reducible apply State.Keeps.of_pair (by assumption)) | (dsimp only))

theorem State.idleSlots_keeps {r0 s : State} (k0 : r0.Keeps s)  :
    r0.Keeps (State.idleSlots s) := by
  unfold State.idleSlots
  try dsimp only
  repeat' (first
    | (with_reducible exact k0) | (with_reducible exact .refl _) | (with_reducible apply State.each_keeps)
    | (with_reducible apply State.setSlot_keeps) | (with_reducible apply State.setFld_keeps) | (with_reducible apply State.onMbx_keeps)
    | ((with_reducible intro _ _); try dsimp only) | (split) | (with_reducible apply State.Keeps.of_pair (by assumption)) | (dsimp only))

theorem State.linkEffects_keeps {r0 s : State} (k0 : r0.Keeps s)  :
    r0.Keeps (State.linkEffects s) := by
  unfold State.linkEffects
  try dsimp only
  repeat' (first
    | (with_reducible exact k0) | (with_reducible exact .refl _) | (with_reducible apply State.onXbar_keeps)
    | (with_reducible apply State.maskEvents_keeps) | (with_reducible apply State.onHost_keeps) | (with_reducible apply State.wr_keeps)
    | (with_reducible apply State.idleSlots_keeps) | (with_reducible apply State.each_keeps)
    | (with_reducible apply State.stopTransfer_keeps) | ((with_reducible intro _ _); try dsimp only) | (split)
    | (with_reducible apply State.Keeps.of_pair (by assumption)) | (dsimp only))

theorem execFunctionLevelReset_keeps {r0 s : State} (k0 : r0.Keeps s)  :
    r0.KeepsNext (execFunctionLevelReset s) := by
  unfold execFunctionLevelReset
  try dsimp only
  repeat' (first
    | (with_reducible apply State.KeepsNext.next) | (with_reducible exact k0) | (with_reducible exact .refl _)
    | (with_reducible apply State.bump_keeps) | (with_reducible apply State.raise_keeps) | (with_reducible apply State.linkEffects_keeps)
    | ((with_reducible intro _ _); try dsimp only) | (split) | (with_reducible apply State.Keeps.of_pair (by assumption)) | (dsimp only))

theorem State.linkLost_keeps {r0 s : State} (k0 : r0.Keeps s)  :
    r0.Keeps (State.linkLost s) := by
  unfold State.linkLost
  try dsimp only
  repeat' (first
    | (with_reducible exact k0) | (with_reducible exact .refl _) | (with_reducible apply State.onHost_keeps)
    | (with_reducible apply State.bump_keeps) | (with_reducible apply State.raise_keeps) | (with_reducible apply State.linkEffects_keeps)
    | ((with_reducible intro _ _); try dsimp only) | (split) | (with_reducible apply State.Keeps.of_pair (by assumption)) | (dsimp only))

theorem State.pciePllLost_keeps {r0 s : State} (k0 : r0.Keeps s)  :
    r0.Keeps (State.pciePllLost s) := by
  unfold State.pciePllLost
  try dsimp only
  repeat' (first
    | (with_reducible exact k0) | (with_reducible exact .refl _) | (with_reducible apply State.onTime_keeps)
    | (with_reducible apply State.raise_keeps) | ((with_reducible intro _ _); try dsimp only) | (split)
    | (with_reducible apply State.Keeps.of_pair (by assumption)) | (dsimp only))

theorem execLinkDown_keeps {r0 s : State} (k0 : r0.Keeps s)  :
    r0.KeepsNext (execLinkDown s) := by
  unfold execLinkDown
  try dsimp only
  repeat' (first
    | (with_reducible apply State.KeepsNext.next) | (with_reducible exact k0) | (with_reducible exact .refl _)
    | (with_reducible apply State.pciePllLost_keeps) | (with_reducible apply State.linkLost_keeps)
    | (with_reducible apply State.fresh_keeps) | ((with_reducible intro _ _); try dsimp only) | (split)
    | (with_reducible apply State.Keeps.of_pair (by assumption)) | (dsimp only))

theorem execPciePerstN_keeps {r0 s : State} (k0 : r0.Keeps s) (level : Bool) :
    r0.KeepsNext (execPciePerstN level s) := by
  unfold execPciePerstN
  try dsimp only
  repeat' (first
    | (with_reducible apply State.KeepsNext.next) | (with_reducible exact k0) | (with_reducible exact .refl _)
    | (with_reducible apply State.onHost_keeps) | (with_reducible apply State.linkLost_keeps)
    | ((with_reducible intro _ _); try dsimp only) | (split) | (with_reducible apply State.Keeps.of_pair (by assumption)) | (dsimp only))

theorem execPcieLinkUp_keeps {r0 s : State} (k0 : r0.Keeps s) (speed width : Nat) :
    r0.KeepsNext (execPcieLinkUp speed width s) := by
  unfold execPcieLinkUp
  try dsimp only
  repeat' (first
    | (with_reducible apply State.KeepsNext.next) | (with_reducible exact k0) | (with_reducible exact .refl _)
    | (with_reducible apply State.onHost_keeps) | (with_reducible apply State.onTime_keeps) | (with_reducible apply State.onXbar_keeps)
    | ((with_reducible intro _ _); try dsimp only) | (split) | (with_reducible apply State.Keeps.of_pair (by assumption)) | (dsimp only))

theorem execJtagIdcode_keeps {r0 s : State} (k0 : r0.Keeps s)  :
    r0.KeepsNext (execJtagIdcode s) := by
  unfold execJtagIdcode
  try dsimp only
  repeat' (first
    | (with_reducible apply State.KeepsNext.next) | (with_reducible exact k0) | (with_reducible exact .refl _)
    | (with_reducible apply State.onHost_keeps) | ((with_reducible intro _ _); try dsimp only) | (split)
    | (with_reducible apply State.Keeps.of_pair (by assumption)) | (dsimp only))

theorem execJtagBypass_keeps {r0 s : State} (k0 : r0.Keeps s)  :
    r0.KeepsNext (execJtagBypass s) := by
  unfold execJtagBypass
  try dsimp only
  repeat' (first
    | (with_reducible apply State.KeepsNext.next) | (with_reducible exact k0) | (with_reducible exact .refl _)
    | (with_reducible apply State.onHost_keeps) | ((with_reducible intro _ _); try dsimp only) | (split)
    | (with_reducible apply State.Keeps.of_pair (by assumption)) | (dsimp only))

/-! ### Machine/MirrorRows.lean -/

theorem cmdMirrorCfg_keeps : cmdMirrorCfg.Keeps := by
  intro h p s
  have k0 := State.Keeps.refl s
  unfold cmdMirrorCfg
  try dsimp only [mkCmd, mkBulk]
  repeat' (first
    | (with_reducible exact k0) | (with_reducible exact .refl _) | (with_reducible exact mkCmd_keeps)
    | (with_reducible apply checked_keeps) | (with_reducible apply State.setFld_keeps) | (with_reducible apply State.onMir_keeps)
    | ((with_reducible intro _ _); try dsimp only) | (split) | (with_reducible apply State.Keeps.of_pair (by assumption)) | (dsimp only))

theorem execMirrorCfg_keeps {r0 s : State} (k0 : r0.Keeps s) (h : Hdr) (p : Bytes) :
    r0.KeepsNext (execMirrorCfg h p s) := by
  unfold execMirrorCfg
  try dsimp only
  repeat' (first
    | (with_reducible apply State.KeepsNext.next) | (with_reducible exact k0) | (with_reducible exact .refl _)
    | (with_reducible apply CmdDef.exec_keeps) | (with_reducible exact cmdMirrorCfg_keeps)
    | (with_reducible refine State.KeepsNext.of (CmdDef.exec_keeps ?_ _ _ _) (by assumption))
    | ((with_reducible intro _ _); try dsimp only) | (split) | (with_reducible apply State.Keeps.of_pair (by assumption)) | (dsimp only)
    | (with_reducible apply CmdDef.exec_keeps))

theorem cmdHandover_keeps : cmdHandover.Keeps := by
  intro h p s
  have k0 := State.Keeps.refl s
  unfold cmdHandover
  try dsimp only [mkCmd, mkBulk]
  repeat' (first
    | (with_reducible exact k0) | (with_reducible exact .refl _) | (with_reducible exact mkCmd_keeps)
    | (with_reducible apply checked_keeps) | (with_reducible apply State.newJob_keeps) | (with_reducible apply State.onMir_keeps)
    | ((with_reducible intro _ _); try dsimp only) | (split) | (with_reducible apply State.Keeps.of_pair (by assumption)) | (dsimp only))

theorem execHandover_keeps {r0 s : State} (k0 : r0.Keeps s) (h : Hdr) (p : Bytes) :
    r0.KeepsNext (execHandover h p s) := by
  unfold execHandover
  try dsimp only
  repeat' (first
    | (with_reducible apply State.KeepsNext.next) | (with_reducible exact k0) | (with_reducible exact .refl _)
    | (with_reducible apply CmdDef.exec_keeps) | (with_reducible exact cmdHandover_keeps)
    | (with_reducible refine State.KeepsNext.of (CmdDef.exec_keeps ?_ _ _ _) (by assumption))
    | ((with_reducible intro _ _); try dsimp only) | (split) | (with_reducible apply State.Keeps.of_pair (by assumption)) | (dsimp only)
    | (with_reducible apply CmdDef.exec_keeps))

theorem cmdMirrorReady_keeps : cmdMirrorReady.Keeps := by
  intro h p s
  have k0 := State.Keeps.refl s
  unfold cmdMirrorReady
  try dsimp only [mkCmd, mkBulk]
  repeat' (first
    | (with_reducible exact k0) | (with_reducible exact .refl _) | (with_reducible exact mkCmd_keeps)
    | (with_reducible apply State.onMir_keeps) | (with_reducible apply State.judgeSynced_keeps)
    | ((with_reducible intro _ _); try dsimp only) | (split) | (with_reducible apply State.Keeps.of_pair (by assumption)) | (dsimp only))

theorem execMirrorReady_keeps {r0 s : State} (k0 : r0.Keeps s) (h : Hdr) (p : Bytes) :
    r0.KeepsNext (execMirrorReady h p s) := by
  unfold execMirrorReady
  try dsimp only
  repeat' (first
    | (with_reducible apply State.KeepsNext.next) | (with_reducible exact k0) | (with_reducible exact .refl _)
    | (with_reducible apply CmdDef.exec_keeps) | (with_reducible exact cmdMirrorReady_keeps)
    | (with_reducible refine State.KeepsNext.of (CmdDef.exec_keeps ?_ _ _ _) (by assumption))
    | ((with_reducible intro _ _); try dsimp only) | (split) | (with_reducible apply State.Keeps.of_pair (by assumption)) | (dsimp only)
    | (with_reducible apply CmdDef.exec_keeps))

theorem cmdMirrorStatusGet_keeps : cmdMirrorStatusGet.Keeps := by
  intro h p s
  have k0 := State.Keeps.refl s
  unfold cmdMirrorStatusGet
  try dsimp only [mkCmd, mkBulk]
  repeat' (first
    | (with_reducible exact k0) | (with_reducible exact .refl _) | (with_reducible exact mkCmd_keeps)
    | ((with_reducible intro _ _); try dsimp only) | (split) | (with_reducible apply State.Keeps.of_pair (by assumption)) | (dsimp only))

theorem execMirrorStatusGet_keeps {r0 s : State} (k0 : r0.Keeps s) (h : Hdr) (p : Bytes) :
    r0.KeepsNext (execMirrorStatusGet h p s) := by
  unfold execMirrorStatusGet
  try dsimp only
  repeat' (first
    | (with_reducible apply State.KeepsNext.next) | (with_reducible exact k0) | (with_reducible exact .refl _)
    | (with_reducible apply CmdDef.exec_keeps) | (with_reducible exact cmdMirrorStatusGet_keeps)
    | (with_reducible refine State.KeepsNext.of (CmdDef.exec_keeps ?_ _ _ _) (by assumption))
    | ((with_reducible intro _ _); try dsimp only) | (split) | (with_reducible apply State.Keeps.of_pair (by assumption)) | (dsimp only)
    | (with_reducible apply CmdDef.exec_keeps))

theorem State.setHier_keeps {r0 s : State} (k0 : r0.Keeps s) (p : Bytes) :
    r0.Keeps (State.setHier s p) := by
  unfold State.setHier
  try dsimp only
  repeat' (first
    | (with_reducible exact k0) | (with_reducible exact .refl _) | (with_reducible apply State.onHier_keeps)
    | (with_reducible apply State.onScene_keeps) | ((with_reducible intro _ _); try dsimp only) | (split)
    | (with_reducible apply State.Keeps.of_pair (by assumption)) | (dsimp only))

theorem cmdHierCfg_keeps : cmdHierCfg.Keeps := by
  intro h p s
  have k0 := State.Keeps.refl s
  unfold cmdHierCfg
  try dsimp only [mkCmd, mkBulk]
  repeat' (first
    | (with_reducible exact k0) | (with_reducible exact .refl _) | (with_reducible exact mkCmd_keeps)
    | (with_reducible apply checked_keeps) | (with_reducible apply State.setHier_keeps) | ((with_reducible intro _ _); try dsimp only)
    | (split) | (with_reducible apply State.Keeps.of_pair (by assumption)) | (dsimp only))

theorem execHierCfg_keeps {r0 s : State} (k0 : r0.Keeps s) (h : Hdr) (p : Bytes) :
    r0.KeepsNext (execHierCfg h p s) := by
  unfold execHierCfg
  try dsimp only
  repeat' (first
    | (with_reducible apply State.KeepsNext.next) | (with_reducible exact k0) | (with_reducible exact .refl _)
    | (with_reducible apply CmdDef.exec_keeps) | (with_reducible exact cmdHierCfg_keeps)
    | (with_reducible refine State.KeepsNext.of (CmdDef.exec_keeps ?_ _ _ _) (by assumption))
    | ((with_reducible intro _ _); try dsimp only) | (split) | (with_reducible apply State.Keeps.of_pair (by assumption)) | (dsimp only)
    | (with_reducible apply CmdDef.exec_keeps))

theorem cmdHierStatusGet_keeps : cmdHierStatusGet.Keeps := by
  intro h p s
  have k0 := State.Keeps.refl s
  unfold cmdHierStatusGet
  try dsimp only [mkCmd, mkBulk]
  repeat' (first
    | (with_reducible exact k0) | (with_reducible exact .refl _) | (with_reducible exact mkCmd_keeps)
    | ((with_reducible intro _ _); try dsimp only) | (split) | (with_reducible apply State.Keeps.of_pair (by assumption)) | (dsimp only))

theorem execHierStatusGet_keeps {r0 s : State} (k0 : r0.Keeps s) (h : Hdr) (p : Bytes) :
    r0.KeepsNext (execHierStatusGet h p s) := by
  unfold execHierStatusGet
  try dsimp only
  repeat' (first
    | (with_reducible apply State.KeepsNext.next) | (with_reducible exact k0) | (with_reducible exact .refl _)
    | (with_reducible apply CmdDef.exec_keeps) | (with_reducible exact cmdHierStatusGet_keeps)
    | (with_reducible refine State.KeepsNext.of (CmdDef.exec_keeps ?_ _ _ _) (by assumption))
    | ((with_reducible intro _ _); try dsimp only) | (split) | (with_reducible apply State.Keeps.of_pair (by assumption)) | (dsimp only)
    | (with_reducible apply CmdDef.exec_keeps))

theorem State.failHandover_keeps {r0 s : State} (k0 : r0.Keeps s) (r : HandoverReq) :
    r0.Keeps (State.failHandover s r) := by
  unfold State.failHandover
  try dsimp only
  repeat' (first
    | (with_reducible exact k0) | (with_reducible exact .refl _) | (with_reducible apply State.onMir_keeps)
    | (with_reducible apply State.endJob_keeps) | ((with_reducible intro _ _); try dsimp only) | (split)
    | (with_reducible apply State.Keeps.of_pair (by assumption)) | (dsimp only))

theorem State.switchHandover_keeps {r0 s : State} (k0 : r0.Keeps s) (n : Nat) :
    r0.Keeps (State.switchHandover s n) := by
  unfold State.switchHandover
  try dsimp only
  repeat' (first
    | (with_reducible exact k0) | (with_reducible exact .refl _) | (with_reducible apply State.onMir_keeps)
    | (with_reducible apply State.bump_keeps) | (with_reducible apply State.failHandover_keeps)
    | (with_reducible apply State.lowerAct_keeps) | (with_reducible apply State.raiseAct_keeps)
    | ((with_reducible intro _ _); try dsimp only) | (split) | (with_reducible apply State.Keeps.of_pair (by assumption)) | (dsimp only))

theorem State.switchRaise_keeps {r0 s : State} (k0 : r0.Keeps s) (n : Nat) :
    r0.Keeps (State.switchRaise s n) := by
  unfold State.switchRaise
  try dsimp only
  repeat' (first
    | (with_reducible exact k0) | (with_reducible exact .refl _) | (with_reducible apply State.raiseAct_keeps)
    | ((with_reducible intro _ _); try dsimp only) | (split) | (with_reducible apply State.Keeps.of_pair (by assumption)) | (dsimp only))

theorem State.switchPark_keeps {r0 s : State} (k0 : r0.Keeps s) (n : Nat) :
    r0.Keeps (State.switchPark s n) := by
  unfold State.switchPark
  try dsimp only
  repeat' (first
    | (with_reducible exact k0) | (with_reducible exact .refl _) | (with_reducible apply State.lowerAct_keeps)
    | (with_reducible apply State.onMir_keeps) | ((with_reducible intro _ _); try dsimp only) | (split)
    | (with_reducible apply State.Keeps.of_pair (by assumption)) | (dsimp only))

theorem execSwitchTick_keeps {r0 s : State} (k0 : r0.Keeps s)  :
    r0.KeepsNext (execSwitchTick s) := by
  unfold execSwitchTick
  try dsimp only
  repeat' (first
    | (with_reducible apply State.KeepsNext.next) | (with_reducible exact k0) | (with_reducible exact .refl _)
    | (with_reducible apply State.tickTo_keeps) | (with_reducible apply State.switchHandover_keeps)
    | (with_reducible apply State.switchPark_keeps) | (with_reducible apply State.lowerAct_keeps)
    | (with_reducible apply State.switchRaise_keeps) | ((with_reducible intro _ _); try dsimp only) | (split)
    | (with_reducible apply State.Keeps.of_pair (by assumption)) | (dsimp only))

theorem execMirActInChange_keeps {r0 s : State} (k0 : r0.Keeps s) (level : Bool) :
    r0.KeepsNext (execMirActInChange level s) := by
  unfold execMirActInChange
  try dsimp only
  repeat' (first
    | (with_reducible apply State.KeepsNext.next) | (with_reducible exact k0) | (with_reducible exact .refl _)
    | (with_reducible apply State.onMir_keeps) | (with_reducible apply State.actInEdge_keeps)
    | ((with_reducible intro _ _); try dsimp only) | (split) | (with_reducible apply State.Keeps.of_pair (by assumption)) | (dsimp only))

theorem execActInConfirmed_keeps {r0 s : State} (k0 : r0.Keeps s)  :
    r0.KeepsNext (execActInConfirmed s) := by
  unfold execActInConfirmed
  try dsimp only
  repeat' (first
    | (with_reducible apply State.KeepsNext.next) | (with_reducible exact k0) | (with_reducible exact .refl _)
    | (with_reducible apply State.actInConfirmed_keeps) | ((with_reducible intro _ _); try dsimp only) | (split)
    | (with_reducible apply State.Keeps.of_pair (by assumption)) | (dsimp only))

theorem execHeartbeatCheck_keeps {r0 s : State} (k0 : r0.Keeps s) (present : Bool) (strays : Nat) (level : Bool) :
    r0.KeepsNext (execHeartbeatCheck present strays level s) := by
  unfold execHeartbeatCheck
  try dsimp only
  repeat' (first
    | (with_reducible apply State.KeepsNext.next) | (with_reducible exact k0) | (with_reducible exact .refl _)
    | (with_reducible apply State.onMir_keeps) | (with_reducible apply State.hbStray_keeps) | (with_reducible apply State.hbCheck_keeps)
    | (with_reducible apply State.keepReady_keeps) | ((with_reducible intro _ _); try dsimp only) | (split)
    | (with_reducible apply State.Keeps.of_pair (by assumption)) | (dsimp only))

theorem State.toMirror_keeps {r0 s : State} (k0 : r0.Keeps s)  :
    r0.Keeps (State.toMirror s) := by
  unfold State.toMirror
  try dsimp only
  repeat' (first
    | (with_reducible exact k0) | (with_reducible exact .refl _) | (with_reducible apply State.onMir_keeps)
    | (with_reducible apply State.setMode_keeps) | ((with_reducible intro _ _); try dsimp only) | (split)
    | (with_reducible apply State.Keeps.of_pair (by assumption)) | (dsimp only))

theorem State.dropLeaving_keeps {r0 s : State} (k0 : r0.Keeps s)  :
    r0.Keeps (State.dropLeaving s) := by
  unfold State.dropLeaving
  try dsimp only
  repeat' (first
    | (with_reducible exact k0) | (with_reducible exact .refl _) | (with_reducible apply State.abandonMode_keeps)
    | ((with_reducible intro _ _); try dsimp only) | (split) | (with_reducible apply State.Keeps.of_pair (by assumption)) | (dsimp only))

theorem State.mirrorModes_keeps {r0 s : State} (k0 : r0.Keeps s)  :
    r0.Keeps (State.mirrorModes s) := by
  unfold State.mirrorModes
  try dsimp only
  repeat' (first
    | (with_reducible exact k0) | (with_reducible exact .refl _) | (with_reducible apply State.toMirror_keeps)
    | (with_reducible apply State.setMode_keeps) | (with_reducible apply State.onMir_keeps)
    | (with_reducible apply State.dropLeaving_keeps) | ((with_reducible intro _ _); try dsimp only) | (split)
    | (with_reducible apply State.Keeps.of_pair (by assumption)) | (dsimp only))

theorem State.endHandover_keeps {r0 s : State} (k0 : r0.Keeps s) (n : Nat) :
    r0.Keeps (State.endHandover s n) := by
  unfold State.endHandover
  try dsimp only
  repeat' (first
    | (with_reducible exact k0) | (with_reducible exact .refl _) | (with_reducible apply State.onMir_keeps)
    | (with_reducible apply State.post_keeps) | (with_reducible apply State.endJob_keeps) | ((with_reducible intro _ _); try dsimp only)
    | (split) | (with_reducible apply State.Keeps.of_pair (by assumption)) | (dsimp only))

theorem State.mirrorBoundary_keeps {r0 s : State} (k0 : r0.Keeps s) (n : Nat) :
    r0.Keeps (State.mirrorBoundary s n) := by
  unfold State.mirrorBoundary
  try dsimp only
  repeat' (first
    | (with_reducible exact k0) | (with_reducible exact .refl _) | (with_reducible apply State.viewBoundary_keeps)
    | (with_reducible apply State.gateBoundary_keeps) | (with_reducible apply State.mirrorModes_keeps)
    | (with_reducible apply State.onMir_keeps) | (with_reducible apply State.endHandover_keeps)
    | ((with_reducible intro _ _); try dsimp only) | (split) | (with_reducible apply State.Keeps.of_pair (by assumption)) | (dsimp only))

/-! ### Machine/Resets.lean -/

theorem State.passTo_keeps {r0 s : State} (k0 : r0.Keeps s) (e : Nat) :
    r0.Keeps (State.passTo s e) := by
  unfold State.passTo
  try dsimp only
  repeat' (first
    | (with_reducible exact k0) | (with_reducible exact .refl _) | (with_reducible apply State.tickTo_keeps)
    | ((with_reducible intro _ _); try dsimp only) | (split) | (with_reducible apply State.Keeps.of_pair (by assumption)) | (dsimp only))

theorem State.outside_keeps {r0 s : State} (k0 : r0.Keeps s) (hp : r0.sys.phase ≠ .testMode) : r0.Keeps (State.outside s) :=
  ⟨k0.pending, ⟨k0.sec.uniqueId, k0.sec.keyHash, k0.sec.keyRevoked, k0.sec.debugState, k0.sec.floor⟩,
    ⟨k0.sys.orderIL, k0.sys.dram8, fun e => absurd e hp, fun e => absurd e hp⟩, fun _ => nil_wf _, k0.hostMem, k0.flash, fun _ => nil_wf _⟩

theorem execPorstN_keeps {r0 s : State} (k0 : r0.Keeps s) (hp : r0.sys.phase ≠ .testMode) : r0.KeepsNext (execPorstN s) := by
  unfold execPorstN
  exact .next (State.outside_keeps k0 hp)

theorem State.strapsTaken_keeps {r0 s : State} (k0 : r0.Keeps s)  :
    r0.Keeps (State.strapsTaken s) := by
  unfold State.strapsTaken
  try dsimp only
  repeat' (first
    | (with_reducible exact k0) | (with_reducible exact .refl _) | (with_reducible apply State.each_keeps)
    | (with_reducible apply State.setFld_keeps) | (with_reducible apply State.onSec_keeps) | (with_reducible apply State.onPrism_keeps)
    | (with_reducible apply State.onXbar_keeps) | (exact fun _ => ⟨rfl, rfl, rfl, rfl, Nat.le_refl _⟩)
    | ((with_reducible intro _ _); try dsimp only) | (split) | (with_reducible apply State.Keeps.of_pair (by assumption)) | (dsimp only))

theorem execPorstNRelease_keeps {r0 s : State} (k0 : r0.Keeps s) (straps : Straps) (banks : Nat) :
    r0.KeepsNext (execPorstNRelease straps banks s) := by
  unfold execPorstNRelease
  split
  · exact .next k0
  · extract_lets s1 s2 s3
    have hp : r0.sys.phase ≠ .testMode := k0.notTest (by simp_all)
    have h1 : r0.Keeps s1 := State.onSys_leaves k0 _ hp (fun _ => rfl) (fun _ => rfl)
    have h3 : r0.Keeps s3 := State.onTime_keeps (State.onPorts_keeps h1 _) _
    split
    · exact .next h3
    · exact .next (State.bootStart_keeps (State.strapsTaken_keeps h3))

theorem openDram_wf (k : Nat) {m : List Host.Cell} (h : memWf m) : memWf (openDram k m) := by
  unfold openDram
  constructor
  · apply List.Pairwise.filter
    rw [List.pairwise_map]
    exact h.1
  · intro e he
    simpa using (List.mem_filter.1 he).2

theorem State.warmMem_wf (s : State) (h : memWf s.mem) : memWf s.warmMem := by
  unfold State.warmMem
  dsimp only
  split
  · exact openDram_wf _ (filter_wf h _)
  · exact filter_wf h _

theorem State.warmState_keeps {r0 s : State} (k0 : r0.Keeps s) (hp : r0.sys.phase ≠ .testMode) : r0.Keeps (State.warmState s) :=
  ⟨k0.pending, ⟨k0.sec.uniqueId, k0.sec.keyHash, k0.sec.keyRevoked, k0.sec.debugState, k0.sec.floor⟩,
    ⟨k0.sys.orderIL, k0.sys.dram8, fun e => absurd e hp, fun e => absurd e hp⟩, fun h => s.warmMem_wf (k0.mem h), k0.hostMem, k0.flash,
    fun h => filter_wf (k0.regs h) _⟩

theorem State.resetDomains_keeps {r0 s : State} (k0 : r0.Keeps s) (hp : r0.sys.phase ≠ .testMode) : r0.Keeps (State.resetDomains s) := by
  unfold State.resetDomains
  dsimp only
  refine State.warmState_keeps ?_ hp
  have h1 := State.setTickSrc_keeps (State.forcedDrop_keeps k0) s.fallbackSrc
  split
  · exact h1
  · exact State.raise_keeps h1 _ _

theorem State.warmReset_keeps {r0 s : State} (k0 : r0.Keeps s) (cause : Nat) (hp : r0.sys.phase ≠ .testMode) :
    r0.Keeps (State.warmReset s cause) := by
  have h1 := State.setFld_keeps (State.bump_keeps (State.resetDomains_keeps k0 hp) (Reg.SYS_CNT 0) 1) Reg.SYS_RESET_CAUSE 2 0 cause
  unfold State.warmReset
  exact State.onSys_leaves h1 _ hp (fun _ => rfl) (fun _ => rfl)

theorem execWarmRstN_keeps {r0 s : State} (k0 : r0.Keeps s) : r0.KeepsNext (execWarmRstN s) := by
  unfold execWarmRstN
  refine .next ?_
  split
  · exact State.warmReset_keeps k0 1 (k0.notTest (by intro h; simp_all))
  · exact k0

theorem execWarmResetRelease_keeps {r0 s : State} (k0 : r0.Keeps s) (straps : Straps) : r0.KeepsNext (execWarmResetRelease straps s) := by
  unfold execWarmResetRelease
  split
  · exact .next k0
  · extract_lets w s1
    have hp : r0.sys.phase ≠ .testMode := k0.notTest (by simp_all)
    have h1 : r0.Keeps s1 := State.onSys_leaves (State.passTo_keeps k0 _) _ hp (fun _ => rfl) (fun _ => rfl)
    exact .next (State.bootStart_keeps (State.strapsTaken_keeps h1))

theorem execSysResetApply_keeps {r0 s : State} (k0 : r0.Keeps s) : r0.KeepsNext (execSysResetApply s) := by
  unfold execSysResetApply
  split
  · exact .next k0
  · refine .next ?_
    split
    · exact State.warmReset_keeps (State.passTo_keeps k0 _) 2 (k0.notTest (by simp_all))
    · exact k0

theorem execPowerFail_keeps {r0 s : State} (k0 : r0.Keeps s) : r0.KeepsNext (execPowerFail s) := by
  unfold execPowerFail
  split
  · exact .next k0
  · have hp : r0.sys.phase ≠ .testMode := k0.notTest (by simp_all)
    have h1 := State.bump_keeps (State.resetDomains_keeps k0 hp) (Reg.SYS_CNT 1) 1
    exact .next (State.onSys_leaves h1 _ hp (fun _ => rfl) (fun _ => rfl))

theorem execPowerFailRestart_keeps {r0 s : State} (k0 : r0.Keeps s) : r0.KeepsNext (execPowerFailRestart s) := by
  unfold execPowerFailRestart
  split
  · exact .next k0
  · exact .next (State.warmReset_keeps (State.passTo_keeps k0 _) 3 (k0.notTest (by simp_all)))

theorem State.ctrlReset_keeps {r0 s : State} (k0 : r0.Keeps s) : r0.Keeps (State.ctrlReset s) := by
  unfold State.ctrlReset
  dsimp only
  repeat' (first
    | (with_reducible exact k0) | (with_reducible apply State.onSys_keeps) | (with_reducible apply State.onSec_keeps)
    | (with_reducible apply State.onHost_keeps) | (with_reducible apply State.onMbx_keeps) | (with_reducible apply State.withRegs_keeps)
    | (with_reducible apply State.withMem_keeps) | (with_reducible apply State.onXbar_keeps) | (with_reducible apply State.maskEvents_keeps)
    | (exact fun _ => ⟨rfl, rfl, id, fun _ h => absurd h (by simp)⟩) | (exact fun _ => ⟨rfl, rfl, rfl, rfl, Nat.le_refl _⟩)
    | (exact fun h => filter_wf h _) | (exact fun h => mclear_wf (mclear_wf h _ _) _ _))

theorem execWatchdogExpiry_keeps {r0 s : State} (k0 : r0.Keeps s)  :
    r0.KeepsNext (execWatchdogExpiry s) := by
  unfold execWatchdogExpiry
  try dsimp only
  repeat' (first
    | (with_reducible apply State.KeepsNext.next) | (with_reducible exact k0) | (with_reducible exact .refl _)
    | (with_reducible apply State.passTo_keeps) | (with_reducible apply State.fatalError_keeps) | (with_reducible apply State.onSys_keeps)
    | (with_reducible apply State.noteDev_keeps) | (with_reducible apply State.ctrlReset_keeps)
    | (exact fun _ => ⟨rfl, rfl, id, fun _ => id⟩) | ((with_reducible intro _ _); try dsimp only) | (split)
    | (with_reducible apply State.Keeps.of_pair (by assumption)) | (dsimp only))

theorem State.endFatalJobs_keeps {r0 s : State} (k0 : r0.Keeps s)  :
    r0.Keeps (State.endFatalJobs s) := by
  unfold State.endFatalJobs
  try dsimp only
  repeat' (first
    | (with_reducible exact k0) | (with_reducible exact .refl _) | (with_reducible apply State.each_keeps)
    | (with_reducible apply State.endJob_keeps) | ((with_reducible intro _ _); try dsimp only) | (split)
    | (with_reducible apply State.Keeps.of_pair (by assumption)) | (dsimp only))

theorem State.fatalDump_keeps {r0 s : State} (k0 : r0.Keeps s) (f : Fatal) :
    r0.Keeps (State.fatalDump s f) := by
  unfold State.fatalDump
  try dsimp only
  repeat' (first
    | (with_reducible exact k0) | (with_reducible exact .refl _) | (with_reducible apply State.onTrace_keeps)
    | (with_reducible apply State.setPwr_keeps) | (with_reducible apply State.onDdrc_keeps) | (with_reducible apply State.writeDump_keeps)
    | ((with_reducible intro _ _); try dsimp only) | (split) | (with_reducible apply State.Keeps.of_pair (by assumption)) | (dsimp only))

theorem State.safeDown_keeps {r0 s : State} (k0 : r0.Keeps s)  :
    r0.Keeps (State.safeDown s) := by
  unfold State.safeDown
  try dsimp only
  repeat' (first
    | (with_reducible exact k0) | (with_reducible exact .refl _) | (with_reducible apply State.engines_keeps)
    | (with_reducible apply State.onMir_keeps) | (with_reducible apply State.onLens_keeps) | (with_reducible apply State.setPwr_keeps)
    | (with_reducible apply State.parkStop_keeps) | ((with_reducible intro _ _); try dsimp only) | (split)
    | (with_reducible apply State.Keeps.of_pair (by assumption)) | (dsimp only))

theorem execSafeEntry_keeps {r0 s : State} (k0 : r0.Keeps s)  :
    r0.KeepsNext (execSafeEntry s) := by
  unfold execSafeEntry
  try dsimp only
  repeat' (first
    | (with_reducible apply State.KeepsNext.next) | (with_reducible exact k0) | (with_reducible exact .refl _)
    | (with_reducible apply State.fatalDump_keeps) | (with_reducible apply State.safeDown_keeps)
    | (with_reducible apply State.setMode_keeps) | (with_reducible apply State.onSys_keeps)
    | (with_reducible apply State.endFatalJobs_keeps) | (exact fun _ => ⟨rfl, rfl, id, fun _ => id⟩)
    | ((with_reducible intro _ _); try dsimp only) | (split) | (with_reducible apply State.Keeps.of_pair (by assumption)) | (dsimp only))

theorem execAutoReset_keeps {r0 s : State} (k0 : r0.Keeps s) : r0.KeepsNext (execAutoReset s) := by
  unfold execAutoReset
  extract_lets s0
  split
  · exact .next k0
  · have h1 : r0.Keeps s0 := State.passTo_keeps k0 _
    apply State.KeepsNext.next
    with_reducible apply State.warmReset_keeps
    · with_reducible apply State.onSys_keeps h1
      exact fun _ => ⟨rfl, rfl, id, fun _ => id⟩
    · exact k0.notTest (by simp_all)

theorem execThermTripN_keeps {r0 s : State} (k0 : r0.Keeps s)  :
    r0.KeepsNext (execThermTripN s) := by
  unfold execThermTripN
  try dsimp only
  repeat' (first
    | (with_reducible apply State.KeepsNext.next) | (with_reducible exact k0) | (with_reducible exact .refl _)
    | (with_reducible apply State.fatalError_keeps) | ((with_reducible intro _ _); try dsimp only) | (split)
    | (with_reducible apply State.Keeps.of_pair (by assumption)) | (dsimp only))

theorem execInternalThermalTrip_keeps {r0 s : State} (k0 : r0.Keeps s)  :
    r0.KeepsNext (execInternalThermalTrip s) := by
  unfold execInternalThermalTrip
  try dsimp only
  repeat' (first
    | (with_reducible apply State.KeepsNext.next) | (with_reducible exact k0) | (with_reducible exact .refl _)
    | (with_reducible apply State.fatalError_keeps) | ((with_reducible intro _ _); try dsimp only) | (split)
    | (with_reducible apply State.Keeps.of_pair (by assumption)) | (dsimp only))

theorem execThermWarn_keeps {r0 s : State} (k0 : r0.Keeps s) (temp : Nat) :
    r0.KeepsNext (execThermWarn temp s) := by
  unfold execThermWarn
  try dsimp only
  repeat' (first
    | (with_reducible apply State.KeepsNext.next) | (with_reducible exact k0) | (with_reducible exact .refl _)
    | (with_reducible apply State.setFld_keeps) | (with_reducible apply State.onSys_keeps) | (with_reducible apply State.raise_keeps)
    | (with_reducible apply State.bump_keeps) | (exact fun _ => ⟨rfl, rfl, id, fun _ => id⟩)
    | ((with_reducible intro _ _); try dsimp only) | (split) | (with_reducible apply State.Keeps.of_pair (by assumption)) | (dsimp only))

/-! ### Machine/StepLive.lean -/

theorem rotateMem_wf {m : List Host.Cell} (h : memWf m) (base len blk : Nat) (d : Int) : memWf (rotateMem m base len blk d) := by
  unfold rotateMem
  exact foldl_memWf _ _ _ (filter_wf h _) (fun _ _ h => mset_wf h _ _)

theorem State.stepWindows_keeps {r0 s : State} (k0 : r0.Keeps s) (k : Int) : r0.Keeps (State.stepWindows s k) := by
  unfold State.stepWindows
  exact State.each_keeps (State.withMem_keeps k0 _ (fun h => rotateMem_wf h _ _ _ _)) _ _
    (fun _ _ => State.withMem_keeps (.refl _) _ (fun h => rotateMem_wf h _ _ _ _))

theorem State.dropSpeculative_keeps {r0 s : State} (k0 : r0.Keeps s)  :
    r0.Keeps (State.dropSpeculative s) := by
  unfold State.dropSpeculative
  try dsimp only
  repeat' (first
    | (with_reducible exact k0) | (with_reducible exact .refl _) | (with_reducible apply State.discardItems_keeps)
    | ((with_reducible intro _ _); try dsimp only) | (split) | (with_reducible apply State.Keeps.of_pair (by assumption)) | (dsimp only))

theorem State.stepPaths_keeps {r0 s : State} (k0 : r0.Keeps s) (k : Int) :
    r0.Keeps (State.stepPaths s k) := by
  unfold State.stepPaths
  try dsimp only
  repeat' (first
    | (with_reducible exact k0) | (with_reducible exact .refl _) | (with_reducible apply State.onPrism_keeps)
    | (with_reducible apply State.each_keeps) | (with_reducible apply State.setObj_keeps)
    | (with_reducible apply State.dropSpeculative_keeps) | ((with_reducible intro _ _); try dsimp only) | (split)
    | (with_reducible apply State.Keeps.of_pair (by assumption)) | (dsimp only))

theorem State.stepLens_keeps {r0 s : State} (k0 : r0.Keeps s) (k q : Int) :
    r0.Keeps (State.stepLens s k q) := by
  unfold State.stepLens
  try dsimp only
  repeat' (first
    | (with_reducible exact k0) | (with_reducible exact .refl _) | (with_reducible apply State.onLens_keeps)
    | ((with_reducible intro _ _); try dsimp only) | (split) | (with_reducible apply State.Keeps.of_pair (by assumption)) | (dsimp only))

theorem State.stepMeas_keeps {r0 s : State} (k0 : r0.Keeps s) (k q : Int) (n : Nat) :
    r0.Keeps (State.stepMeas s k q n) := by
  unfold State.stepMeas
  try dsimp only
  repeat' (first
    | (with_reducible exact k0) | (with_reducible exact .refl _) | (with_reducible apply State.onMeas_keeps)
    | ((with_reducible intro _ _); try dsimp only) | (split) | (with_reducible apply State.Keeps.of_pair (by assumption)) | (dsimp only))

theorem State.stepPorts_keeps {r0 s : State} (k0 : r0.Keeps s) (k d : Int) (n : Nat) :
    r0.Keeps (State.stepPorts s k d n) := by
  unfold State.stepPorts
  try dsimp only
  repeat' (first
    | (with_reducible exact k0) | (with_reducible exact .refl _) | (with_reducible apply State.each_keeps)
    | (with_reducible apply State.setPort_keeps) | (with_reducible apply State.setGrp_keeps) | (with_reducible apply State.bump_keeps)
    | (with_reducible apply State.perfAdd_keeps) | (with_reducible apply State.onPorts_keeps)
    | ((with_reducible intro _ _); try dsimp only) | (split) | (with_reducible apply State.Keeps.of_pair (by assumption)) | (dsimp only))

theorem State.stepStreams_keeps {r0 s : State} (k0 : r0.Keeps s) (n : Nat) :
    r0.Keeps (State.stepStreams s n) := by
  unfold State.stepStreams
  try dsimp only
  repeat' (first
    | (with_reducible exact k0) | (with_reducible exact .refl _) | (with_reducible apply State.each_keeps)
    | (with_reducible apply State.setCtx_keeps) | (with_reducible apply State.streamsStep_keeps)
    | ((with_reducible intro _ _); try dsimp only) | (split) | (with_reducible apply State.Keeps.of_pair (by assumption)) | (dsimp only))

theorem State.stepLive_keeps {r0 s : State} (k0 : r0.Keeps s) (n : Nat) (r : StepReq) :
    r0.Keeps (State.stepLive s n r) := by
  unfold State.stepLive
  try dsimp only
  repeat' (first
    | (with_reducible exact k0) | (with_reducible exact .refl _) | (with_reducible apply State.invalidateCapture_keeps)
    | (with_reducible apply State.moveTick_keeps) | (with_reducible apply State.onTime_keeps)
    | (with_reducible apply State.stepWindows_keeps) | (with_reducible apply State.stepPaths_keeps)
    | (with_reducible apply State.stepLens_keeps) | (with_reducible apply State.stepMeas_keeps)
    | (with_reducible apply State.stepPorts_keeps) | (with_reducible apply State.stepStreams_keeps)
    | (with_reducible apply State.stepReport_keeps) | ((with_reducible intro _ _); try dsimp only) | (split)
    | (with_reducible apply State.Keeps.of_pair (by assumption)) | (dsimp only))

theorem State.liveStep_keeps {r0 s : State} (k0 : r0.Keeps s) (n : Nat) :
    r0.Keeps (State.liveStep s n) := by
  unfold State.liveStep
  try dsimp only
  repeat' (first
    | (with_reducible exact k0) | (with_reducible exact .refl _) | (with_reducible apply State.stepLive_keeps)
    | ((with_reducible intro _ _); try dsimp only) | (split) | (with_reducible apply State.Keeps.of_pair (by assumption)) | (dsimp only))

/-! ### Machine/Boundary.lean -/

theorem State.testAssemble_keeps {r0 s : State} (k0 : r0.Keeps s) (t : Tbl Int) :
    r0.Keeps (State.testAssemble s t).1 := by
  unfold State.testAssemble
  try dsimp only
  repeat' (first
    | (with_reducible exact k0) | (with_reducible exact .refl _) | (with_reducible apply State.onMeas_keeps)
    | (with_reducible apply foldl_keeps) | (with_reducible apply foldlState_keeps) | ((with_reducible intro _ _); try dsimp only)
    | (split) | (with_reducible apply State.Keeps.of_pair (by assumption)) | (dsimp only))

theorem State.assembleFirst_keeps {r0 s : State} (k0 : r0.Keeps s) (q : Nat) (quiet : Bool) :
    r0.Keeps (State.assembleFirst s q quiet) := by
  unfold State.assembleFirst
  try dsimp only
  repeat' (first
    | (with_reducible exact k0) | (with_reducible exact .refl _) | (with_reducible apply State.portsFirst_keeps)
    | (with_reducible apply State.streamsAssemble_keeps) | (with_reducible apply State.testAssemble_keeps)
    | (with_reducible apply State.onPipe_keeps) | ((with_reducible intro _ _); try dsimp only) | (split)
    | (with_reducible apply State.Keeps.of_pair (by assumption)) | (dsimp only))

theorem State.alignSteps_keeps {r0 s : State} (k0 : r0.Keeps s) (q : Nat) :
    r0.Keeps (State.alignSteps s q) := by
  unfold State.alignSteps
  try dsimp only
  repeat' (first
    | (with_reducible exact k0) | (with_reducible exact .refl _) | (with_reducible apply State.each_keeps)
    | (with_reducible apply State.alignStep_keeps) | ((with_reducible intro _ _); try dsimp only) | (split)
    | (with_reducible apply State.Keeps.of_pair (by assumption)) | (dsimp only))

theorem State.fillWhole_keeps {r0 s : State} (k0 : r0.Keeps s) (m : QMap) (raw facet : Tbl Int) (here : Option (List Nat)) (q : Int) :
    r0.Keeps (State.fillWhole s m raw facet here q) := by
  unfold State.fillWhole
  try dsimp only
  repeat' (first
    | (with_reducible exact k0) | (with_reducible exact .refl _) | (with_reducible apply State.windows_keeps)
    | (with_reducible apply State.markAbsent_keeps) | (with_reducible apply State.bulkCounts_keeps)
    | ((with_reducible intro _ _); try dsimp only) | (split) | (with_reducible apply State.Keeps.of_pair (by assumption)) | (dsimp only))

theorem State.fillAhead_keeps {r0 s : State} (k0 : r0.Keeps s) (b : BulkBad) (m : QMap) (raw facet : Tbl Int) (q : Int) :
    r0.Keeps (State.fillAhead s b m raw facet q) := by
  unfold State.fillAhead
  try dsimp only
  repeat' (first
    | (with_reducible exact k0) | (with_reducible exact .refl _) | (with_reducible apply State.alignSteps_keeps)
    | (with_reducible apply State.each_keeps) | (with_reducible apply State.setObj_keeps) | (with_reducible apply State.burstFails_keeps)
    | (with_reducible apply State.windows_keeps) | (with_reducible apply State.onPipe_keeps)
    | ((with_reducible intro _ _); try dsimp only) | (split) | (with_reducible apply State.Keeps.of_pair (by assumption)) | (dsimp only))

theorem State.fillWindows_keeps {r0 s : State} (k0 : r0.Keeps s) (b : BulkBad) (m next : QMap) (raw facet rawNext facetNext : Tbl Int) (here : Option (List Nat)) (q : Int) :
    r0.Keeps (State.fillWindows s b m next raw facet rawNext facetNext here q) := by
  unfold State.fillWindows
  try dsimp only
  repeat' (first
    | (with_reducible exact k0) | (with_reducible exact .refl _) | (with_reducible apply State.fillWhole_keeps)
    | (with_reducible apply State.fillAhead_keeps) | (with_reducible apply facetNext_keeps)
    | (with_reducible refine State.KeepsNext.of (facetNext_keeps ?_ _ _) (by assumption)) | ((with_reducible intro _ _); try dsimp only)
    | (split) | (with_reducible apply State.Keeps.of_pair (by assumption)) | (dsimp only))

theorem State.assemble_keeps {r0 s : State} (k0 : r0.Keeps s) (n : Nat) (raw0 : Tbl Int) (quiet : Bool) (b : BulkBad) :
    r0.Keeps (State.assemble s n raw0 quiet b) := by
  unfold State.assemble
  try dsimp only
  repeat' (first
    | (with_reducible exact k0) | (with_reducible exact .refl _) | (with_reducible apply State.assembleFirst_keeps)
    | (with_reducible apply State.fillWindows_keeps) | (with_reducible apply State.onPipe_keeps)
    | ((with_reducible intro _ _); try dsimp only) | (split) | (with_reducible apply State.Keeps.of_pair (by assumption)) | (dsimp only))

theorem State.halfDone_keeps {r0 s : State} (k0 : r0.Keeps s) (c : HalfChange) :
    r0.Keeps (State.halfDone s c) := by
  unfold State.halfDone
  try dsimp only
  repeat' (first
    | (with_reducible exact k0) | (with_reducible exact .refl _) | (with_reducible apply State.onPrism_keeps)
    | (with_reducible apply State.setFld_keeps) | (with_reducible apply State.setPwr_keeps) | (with_reducible apply State.raise_keeps)
    | (with_reducible apply State.endJob_keeps) | ((with_reducible intro _ _); try dsimp only) | (split)
    | (with_reducible apply State.Keeps.of_pair (by assumption)) | (dsimp only))

theorem State.halfStep_keeps {r0 s : State} (k0 : r0.Keeps s) (tested : Bool) :
    r0.Keeps (State.halfStep s tested) := by
  unfold State.halfStep
  try dsimp only
  repeat' (first
    | (with_reducible exact k0) | (with_reducible exact .refl _) | (with_reducible apply State.onPrism_keeps)
    | (with_reducible apply State.halfDone_keeps) | ((with_reducible intro _ _); try dsimp only) | (split)
    | (with_reducible apply State.Keeps.of_pair (by assumption)) | (dsimp only))

theorem State.stageLate_keeps {r0 s : State} (k0 : r0.Keeps s) (late : Bool) (int bit code : Nat) :
    r0.Keeps (State.stageLate s late int bit code) := by
  unfold State.stageLate
  try dsimp only
  repeat' (first
    | (with_reducible exact k0) | (with_reducible exact .refl _) | (with_reducible apply State.raise_keeps)
    | (with_reducible apply State.onPipe_keeps) | (with_reducible apply State.fatalError_keeps)
    | ((with_reducible intro _ _); try dsimp only) | (split) | (with_reducible apply State.Keeps.of_pair (by assumption)) | (dsimp only))

theorem State.coreEcc_keeps {r0 s : State} (k0 : r0.Keeps s) (a : Nat) :
    r0.Keeps (State.coreEcc s a) := by
  unfold State.coreEcc
  try dsimp only
  repeat' (first
    | (with_reducible exact k0) | (with_reducible exact .refl _) | (with_reducible apply State.facetFault_keeps)
    | ((with_reducible intro _ _); try dsimp only) | (split) | (with_reducible apply State.Keeps.of_pair (by assumption)) | (dsimp only))

theorem State.engineEcc_keeps {r0 s : State} (k0 : r0.Keeps s) (e : Nat × Ecc) :
    r0.Keeps (State.engineEcc s e) := by
  unfold State.engineEcc
  try dsimp only
  repeat' (first
    | (with_reducible exact k0) | (with_reducible exact .refl _) | (with_reducible apply State.fresh_keeps)
    | (with_reducible apply State.sramEcc_keeps) | (with_reducible apply State.coreEcc_keeps)
    | (with_reducible apply State.fatalError_keeps) | ((with_reducible intro _ _); try dsimp only) | (split)
    | (with_reducible apply State.Keeps.of_pair (by assumption)) | (dsimp only))

theorem State.adoptOutputs_keeps {r0 s : State} (k0 : r0.Keeps s)  :
    r0.Keeps (State.adoptOutputs s) := by
  unfold State.adoptOutputs
  try dsimp only
  repeat' (first
    | (with_reducible exact k0) | (with_reducible exact .refl _) | (with_reducible apply State.onScene_keeps)
    | (with_reducible apply foldl_keeps) | (with_reducible apply foldlState_keeps) | ((with_reducible intro _ _); try dsimp only)
    | (split) | (with_reducible apply State.Keeps.of_pair (by assumption)) | (dsimp only))

theorem State.outputStage_keeps {r0 s : State} (k0 : r0.Keeps s) (n : Nat) (env : BoundaryEnv) :
    r0.Keeps (State.outputStage s n env) := by
  unfold State.outputStage
  try dsimp only
  repeat' (first
    | (with_reducible exact k0) | (with_reducible exact .refl _) | (with_reducible apply State.adoptOutputs_keeps)
    | (with_reducible apply State.portsOutput_keeps) | (with_reducible apply State.streamsOutput_keeps)
    | (with_reducible apply State.streamLate_keeps) | (with_reducible apply State.onPipe_keeps)
    | ((with_reducible intro _ _); try dsimp only) | (split) | (with_reducible apply State.Keeps.of_pair (by assumption)) | (dsimp only))

theorem State.renderStage_keeps {r0 s : State} (k0 : r0.Keeps s) (n : Nat) (env : BoundaryEnv) :
    r0.Keeps (State.renderStage s n env) := by
  unfold State.renderStage
  try dsimp only
  repeat' (first
    | (with_reducible exact k0) | (with_reducible exact .refl _) | (with_reducible apply State.commitSetup_keeps)
    | (with_reducible apply State.halfStep_keeps) | (with_reducible apply State.renderQuantum_keeps)
    | (with_reducible apply State.measureQuantum_keeps) | ((with_reducible intro _ _); try dsimp only) | (split)
    | (with_reducible apply State.Keeps.of_pair (by assumption)) | (dsimp only))

theorem State.setupStage_keeps {r0 s : State} (k0 : r0.Keeps s)  :
    r0.Keeps (State.setupStage s) := by
  unfold State.setupStage
  try dsimp only
  repeat' (first
    | (with_reducible exact k0) | (with_reducible exact .refl _) | (with_reducible apply State.stepAir_keeps)
    | (with_reducible apply State.commitLayout_keeps) | (with_reducible apply State.pathSetup_keeps)
    | ((with_reducible intro _ _); try dsimp only) | (split) | (with_reducible apply State.Keeps.of_pair (by assumption)) | (dsimp only))

theorem State.latchUsed_keeps {r0 s : State} (k0 : r0.Keeps s)  :
    r0.Keeps (State.latchUsed s) := by
  unfold State.latchUsed
  try dsimp only
  repeat' (first
    | (with_reducible exact k0) | (with_reducible exact .refl _) | (with_reducible apply State.each_keeps)
    | (with_reducible apply State.wr_keeps) | (with_reducible apply State.onSched_keeps) | ((with_reducible intro _ _); try dsimp only)
    | (split) | (with_reducible apply State.Keeps.of_pair (by assumption)) | (dsimp only))

theorem State.boundaryTime_keeps {r0 s : State} (k0 : r0.Keeps s) (n : Nat) :
    r0.Keeps (State.boundaryTime s n) := by
  unfold State.boundaryTime
  try dsimp only
  repeat' (first
    | (with_reducible exact k0) | (with_reducible exact .refl _) | (with_reducible apply State.sliceWord_keeps)
    | (with_reducible apply State.perfAdd_keeps) | (with_reducible apply State.syncPulse_keeps)
    | ((with_reducible intro _ _); try dsimp only) | (split) | (with_reducible apply State.Keeps.of_pair (by assumption)) | (dsimp only))

theorem State.pipeline_keeps {r0 s : State} (k0 : r0.Keeps s) (n : Nat) (env : BoundaryEnv) (quiet : Bool) :
    r0.Keeps (State.pipeline s n env quiet) := by
  unfold State.pipeline
  try dsimp only
  repeat' (first
    | (with_reducible exact k0) | (with_reducible exact .refl _) | (with_reducible apply State.stageLate_keeps)
    | (with_reducible apply State.each_keeps) | (with_reducible apply State.engineEcc_keeps) | (with_reducible apply State.pushMap_keeps)
    | (with_reducible apply State.portsSecond_keeps) | (with_reducible apply State.portsEnable_keeps)
    | (with_reducible apply State.streamsFirst_keeps) | (with_reducible apply State.outputStage_keeps)
    | (with_reducible apply State.assemble_keeps) | (with_reducible apply State.legsIdle_keeps)
    | (with_reducible apply State.lensBoundary_keeps) | (with_reducible apply State.renderStage_keeps)
    | (with_reducible apply State.micBoundary_keeps) | (with_reducible apply State.latchUsed_keeps)
    | (with_reducible apply State.taskBoundary_keeps) | (with_reducible apply State.portsBoundary_keeps)
    | (with_reducible apply State.streamsBoundary_keeps) | (with_reducible apply State.liveStep_keeps)
    | (with_reducible apply State.setupStage_keeps) | (with_reducible apply State.metaConfig_keeps)
    | (with_reducible apply State.metaBoundary_keeps) | ((with_reducible intro _ _); try dsimp only) | (split)
    | (with_reducible apply State.Keeps.of_pair (by assumption)) | (dsimp only))

theorem State.stopped_keeps {r0 s : State} (k0 : r0.Keeps s) (n : Nat) :
    r0.Keeps (State.stopped s n) := by
  unfold State.stopped
  try dsimp only
  repeat' (first
    | (with_reducible exact k0) | (with_reducible exact .refl _) | (with_reducible apply State.portsStop_keeps)
    | (with_reducible apply State.micStop_keeps) | (with_reducible apply State.legsIdle_keeps)
    | (with_reducible apply State.streamsBoundary_keeps) | ((with_reducible intro _ _); try dsimp only) | (split)
    | (with_reducible apply State.Keeps.of_pair (by assumption)) | (dsimp only))

theorem State.idleBoundary_keeps {r0 s : State} (k0 : r0.Keeps s) (n : Nat) :
    r0.Keeps (State.idleBoundary s n) := by
  unfold State.idleBoundary
  try dsimp only
  repeat' (first
    | (with_reducible exact k0) | (with_reducible exact .refl _) | (with_reducible apply State.taskBoundary_keeps)
    | (with_reducible apply State.endCompLoads_keeps) | (with_reducible apply State.metaConfig_keeps)
    | ((with_reducible intro _ _); try dsimp only) | (split) | (with_reducible apply State.Keeps.of_pair (by assumption)) | (dsimp only))

theorem State.boundary_keeps {r0 s : State} (k0 : r0.Keeps s) (n : Nat) (env : BoundaryEnv) :
    r0.Keeps (State.boundary s n env) := by
  unfold State.boundary
  try dsimp only
  repeat' (first
    | (with_reducible exact k0) | (with_reducible exact .refl _) | (with_reducible apply State.onTime_keeps)
    | (with_reducible apply State.boundaryTime_keeps) | (with_reducible apply State.mirrorBoundary_keeps)
    | (with_reducible apply State.heartbeat_keeps) | (with_reducible apply State.idleBoundary_keeps)
    | (with_reducible apply State.stopped_keeps) | (with_reducible apply State.pipeline_keeps)
    | (with_reducible apply State.hierBoundary_keeps) | (with_reducible apply State.ptpBoundary_keeps)
    | (with_reducible apply State.lossBoundary_keeps) | ((with_reducible intro _ _); try dsimp only) | (split)
    | (with_reducible apply State.Keeps.of_pair (by assumption)) | (dsimp only))

theorem State.atBoundary_keeps {r0 s : State} (k0 : r0.Keeps s) (env : BoundaryEnv) :
    r0.Keeps (State.atBoundary s env) := by
  unfold State.atBoundary
  try dsimp only
  repeat' (first
    | (with_reducible exact k0) | (with_reducible exact .refl _) | (with_reducible apply State.tickTo_keeps)
    | (with_reducible apply State.boundary_keeps) | (with_reducible apply State.onTime_keeps)
    | ((with_reducible intro _ _); try dsimp only) | (split) | (with_reducible apply State.Keeps.of_pair (by assumption)) | (dsimp only))

theorem execQuantumBoundary_keeps {r0 s : State} (k0 : r0.Keeps s) (env : BoundaryEnv) :
    r0.KeepsNext (execQuantumBoundary env s) := by
  unfold execQuantumBoundary
  try dsimp only
  repeat' (first
    | (with_reducible apply State.KeepsNext.next) | (with_reducible exact k0) | (with_reducible exact .refl _)
    | (with_reducible apply State.atBoundary_keeps) | (with_reducible apply State.idleStep_keeps)
    | (with_reducible apply State.idleTick_keeps) | ((with_reducible intro _ _); try dsimp only) | (split)
    | (with_reducible apply State.Keeps.of_pair (by assumption)) | (dsimp only))

/-! ### Machine/DramCmds.lean -/

theorem State.dropDeferred_keeps {r0 s : State} (k0 : r0.Keeps s)  :
    r0.Keeps (State.dropDeferred s) := by
  unfold State.dropDeferred
  try dsimp only
  repeat' (first
    | (with_reducible exact k0) | (with_reducible exact .refl _) | (with_reducible apply State.onDdrc_keeps)
    | (with_reducible apply State.endJob_keeps) | ((with_reducible intro _ _); try dsimp only) | (split)
    | (with_reducible apply State.Keeps.of_pair (by assumption)) | (dsimp only))

theorem State.speedSet_keeps {r0 s : State} (k0 : r0.Keeps s) (h : Hdr) (r : Nat) :
    r0.Keeps (State.speedSet s h r) := by
  unfold State.speedSet
  try dsimp only
  repeat' (first
    | (with_reducible exact k0) | (with_reducible exact .refl _) | (with_reducible apply State.dropDeferred_keeps)
    | (with_reducible apply State.newJob_keeps) | (with_reducible apply State.onDdrc_keeps)
    | (with_reducible apply State.startSweep_keeps) | ((with_reducible intro _ _); try dsimp only) | (split)
    | (with_reducible apply State.Keeps.of_pair (by assumption)) | (dsimp only))

theorem cmdDdrSpeedSet_keeps : cmdDdrSpeedSet.Keeps := by
  intro h p s
  have k0 := State.Keeps.refl s
  unfold cmdDdrSpeedSet
  try dsimp only [mkCmd, mkBulk]
  repeat' (first
    | (with_reducible exact k0) | (with_reducible exact .refl _) | (with_reducible exact mkCmd_keeps)
    | (with_reducible apply checked_keeps) | (with_reducible apply State.speedSet_keeps) | ((with_reducible intro _ _); try dsimp only)
    | (split) | (with_reducible apply State.Keeps.of_pair (by assumption)) | (dsimp only))

theorem cmdDdrCal_keeps : cmdDdrCal.Keeps := by
  intro h p s
  have k0 := State.Keeps.refl s
  unfold cmdDdrCal
  try dsimp only [mkCmd, mkBulk]
  repeat' (first
    | (with_reducible exact k0) | (with_reducible exact .refl _) | (with_reducible exact mkCmd_keeps)
    | (with_reducible apply checked_keeps) | (with_reducible apply State.newJob_keeps) | (with_reducible apply State.startSweep_keeps)
    | ((with_reducible intro _ _); try dsimp only) | (split) | (with_reducible apply State.Keeps.of_pair (by assumption)) | (dsimp only))

theorem cmdDdrKeepSet_keeps : cmdDdrKeepSet.Keeps := by
  intro h p s
  have k0 := State.Keeps.refl s
  unfold cmdDdrKeepSet
  try dsimp only [mkCmd, mkBulk]
  repeat' (first
    | (with_reducible exact k0) | (with_reducible exact .refl _) | (with_reducible exact mkCmd_keeps)
    | (with_reducible apply checked_keeps) | (with_reducible apply State.setFld_keeps) | ((with_reducible intro _ _); try dsimp only)
    | (split) | (with_reducible apply State.Keeps.of_pair (by assumption)) | (dsimp only))

theorem cmdDdrGuardSet_keeps : cmdDdrGuardSet.Keeps := by
  intro h p s
  have k0 := State.Keeps.refl s
  unfold cmdDdrGuardSet
  try dsimp only [mkCmd, mkBulk]
  repeat' (first
    | (with_reducible exact k0) | (with_reducible exact .refl _) | (with_reducible exact mkCmd_keeps)
    | (with_reducible apply checked_keeps) | (with_reducible apply State.wr_keeps) | ((with_reducible intro _ _); try dsimp only)
    | (split) | (with_reducible apply State.Keeps.of_pair (by assumption)) | (dsimp only))

theorem cmdDdrStatusGet_keeps : cmdDdrStatusGet.Keeps := by
  intro h p s
  have k0 := State.Keeps.refl s
  unfold cmdDdrStatusGet
  try dsimp only [mkCmd, mkBulk]
  repeat' (first
    | (with_reducible exact k0) | (with_reducible exact .refl _) | (with_reducible exact mkCmd_keeps)
    | (with_reducible apply State.wr_keeps) | ((with_reducible intro _ _); try dsimp only) | (split)
    | (with_reducible apply State.Keeps.of_pair (by assumption)) | (dsimp only))

theorem execDdrSpeedSet_keeps {r0 s : State} (k0 : r0.Keeps s) (h : Hdr) (p : Bytes) :
    r0.KeepsNext (execDdrSpeedSet h p s) := by
  unfold execDdrSpeedSet
  try dsimp only
  repeat' (first
    | (with_reducible apply State.KeepsNext.next) | (with_reducible exact k0) | (with_reducible exact .refl _)
    | (with_reducible apply CmdDef.exec_keeps) | (with_reducible exact cmdDdrSpeedSet_keeps)
    | (with_reducible refine State.KeepsNext.of (CmdDef.exec_keeps ?_ _ _ _) (by assumption))
    | ((with_reducible intro _ _); try dsimp only) | (split) | (with_reducible apply State.Keeps.of_pair (by assumption)) | (dsimp only)
    | (with_reducible apply CmdDef.exec_keeps))

theorem execDdrCal_keeps {r0 s : State} (k0 : r0.Keeps s) (h : Hdr) (p : Bytes) :
    r0.KeepsNext (execDdrCal h p s) := by
  unfold execDdrCal
  try dsimp only
  repeat' (first
    | (with_reducible apply State.KeepsNext.next) | (with_reducible exact k0) | (with_reducible exact .refl _)
    | (with_reducible apply CmdDef.exec_keeps) | (with_reducible exact cmdDdrCal_keeps)
    | (with_reducible refine State.KeepsNext.of (CmdDef.exec_keeps ?_ _ _ _) (by assumption))
    | ((with_reducible intro _ _); try dsimp only) | (split) | (with_reducible apply State.Keeps.of_pair (by assumption)) | (dsimp only)
    | (with_reducible apply CmdDef.exec_keeps))

theorem execDdrKeepSet_keeps {r0 s : State} (k0 : r0.Keeps s) (h : Hdr) (p : Bytes) :
    r0.KeepsNext (execDdrKeepSet h p s) := by
  unfold execDdrKeepSet
  try dsimp only
  repeat' (first
    | (with_reducible apply State.KeepsNext.next) | (with_reducible exact k0) | (with_reducible exact .refl _)
    | (with_reducible apply CmdDef.exec_keeps) | (with_reducible exact cmdDdrKeepSet_keeps)
    | (with_reducible refine State.KeepsNext.of (CmdDef.exec_keeps ?_ _ _ _) (by assumption))
    | ((with_reducible intro _ _); try dsimp only) | (split) | (with_reducible apply State.Keeps.of_pair (by assumption)) | (dsimp only)
    | (with_reducible apply CmdDef.exec_keeps))

theorem execDdrGuardSet_keeps {r0 s : State} (k0 : r0.Keeps s) (h : Hdr) (p : Bytes) :
    r0.KeepsNext (execDdrGuardSet h p s) := by
  unfold execDdrGuardSet
  try dsimp only
  repeat' (first
    | (with_reducible apply State.KeepsNext.next) | (with_reducible exact k0) | (with_reducible exact .refl _)
    | (with_reducible apply CmdDef.exec_keeps) | (with_reducible exact cmdDdrGuardSet_keeps)
    | (with_reducible refine State.KeepsNext.of (CmdDef.exec_keeps ?_ _ _ _) (by assumption))
    | ((with_reducible intro _ _); try dsimp only) | (split) | (with_reducible apply State.Keeps.of_pair (by assumption)) | (dsimp only)
    | (with_reducible apply CmdDef.exec_keeps))

theorem execDdrStatusGet_keeps {r0 s : State} (k0 : r0.Keeps s) (h : Hdr) (p : Bytes) :
    r0.KeepsNext (execDdrStatusGet h p s) := by
  unfold execDdrStatusGet
  try dsimp only
  repeat' (first
    | (with_reducible apply State.KeepsNext.next) | (with_reducible exact k0) | (with_reducible exact .refl _)
    | (with_reducible apply CmdDef.exec_keeps) | (with_reducible exact cmdDdrStatusGet_keeps)
    | (with_reducible refine State.KeepsNext.of (CmdDef.exec_keeps ?_ _ _ _) (by assumption))
    | ((with_reducible intro _ _); try dsimp only) | (split) | (with_reducible apply State.Keeps.of_pair (by assumption)) | (dsimp only)
    | (with_reducible apply CmdDef.exec_keeps))

/-! ### Machine/Commands.lean -/

theorem State.noteLoad_keeps {r0 s : State} (k0 : r0.Keeps s) (op : Nat) :
    r0.Keeps (State.noteLoad s op) := by
  unfold State.noteLoad
  try dsimp only
  repeat' (first
    | (with_reducible exact k0) | (with_reducible exact .refl _) | (with_reducible apply State.onScene_keeps)
    | ((with_reducible intro _ _); try dsimp only) | (split) | (with_reducible apply State.Keeps.of_pair (by assumption)) | (dsimp only))

theorem CmdDef.launch_keeps {r0 s : State} (k0 : r0.Keeps s) (c : CmdDef) (hc : c.Keeps) (h : Hdr) (p : Bytes) :
    r0.Keeps (CmdDef.launch c h p s) := by
  unfold CmdDef.launch
  split
  · exact CmdDef.early_keeps k0 _ _ _ (by assumption)
  · split
    · exact State.noteLoad_keeps (State.perfAdd_keeps (State.onMbx_keeps (State.setSlot_keeps k0 _ _) _) _ _) _
    · exact CmdDef.finish_keeps k0 c hc _ _

theorem cmdsGroup0_keeps : ∀ c ∈ cmdsGroup0, c.Keeps := by
  unfold cmdsGroup0
  simp only [List.forall_mem_cons]
  exact ⟨cmdBootGo_keeps, cmdSysInfo_keeps, cmdModeSet_keeps, cmdRateSet_keeps, cmdSysReset_keeps, cmdFwStage_keeps, cmdFwCommit_keeps,
    cmdFwStatus_keeps, cmdDebugChallenge_keeps, cmdDebugUnlock_keeps, cmdHostRegionSet_keeps, cmdClaimList_keeps, cmdDdrSpeedSet_keeps,
    cmdDdrCal_keeps, cmdDdrKeepSet_keeps, cmdDdrGuardSet_keeps, cmdDdrStatusGet_keeps, by simp⟩

theorem cmdsGroup1_keeps : ∀ c ∈ cmdsGroup1, c.Keeps := by
  unfold cmdsGroup1
  simp only [List.forall_mem_cons]
  exact ⟨cmdLayoutLoad_keeps, cmdLayoutCommit_keeps, cmdAirSet_keeps, cmdObjectUpdate_keeps, cmdObjectDirectSet_keeps,
    cmdObjectStatus_keeps, cmdInputMapSet_keeps, cmdOutputMapSet_keeps, cmdSceneRxSet_keeps, cmdPrismHalfSet_keeps,
    cmdAlignDelaySet_keeps, cmdPrismAirSet_keeps, cmdPrismXfadeSet_keeps, cmdPrismStatusGet_keeps, cmdMetaCfgSet_keeps,
    cmdTrajModelSet_keeps, cmdObjectRelease_keeps, cmdPlacementReport_keeps, by simp⟩

theorem cmdsGroup2_keeps : ∀ c ∈ cmdsGroup2, c.Keeps := by
  unfold cmdsGroup2
  simp only [List.forall_mem_cons]
  exact ⟨cmdLensBankLoad_keeps, cmdLensSwap_keeps, cmdLensTailSet_keeps, cmdLensTrimSet_keeps, cmdLensLimitSet_keeps, cmdLensDetSet_keeps,
    cmdLensDetMap_keeps, cmdLensMeterGet_keeps, cmdLensStatusGet_keeps, by simp⟩

theorem cmdsGroup3_keeps : ∀ c ∈ cmdsGroup3, c.Keeps := by
  unfold cmdsGroup3
  simp only [List.forall_mem_cons]
  exact ⟨cmdPortGroupSet_keeps, cmdPortSet_keeps, cmdPortEnable_keeps, cmdPortMaskSet_keeps, cmdPortStatusGet_keeps, by simp⟩

theorem cmdsGroup4_keeps : ∀ c ∈ cmdsGroup4, c.Keeps := by
  unfold cmdsGroup4
  simp only [List.forall_mem_cons]
  exact ⟨cmdNetModeSet_keeps, cmdNetAddrSet_keeps, cmdNetFilterSet_keeps, cmdNetStatusGet_keeps, cmdNetHostRx_keeps, cmdNetHostTx_keeps,
    cmdMdioAccess_keeps, cmdStreamSet_keeps, cmdStreamEnable_keeps, cmdStreamStatusGet_keeps, by simp⟩

theorem cmdsGroup5_keeps : ∀ c ∈ cmdsGroup5, c.Keeps := by
  unfold cmdsGroup5
  simp only [List.forall_mem_cons]
  exact ⟨cmdTimePtpSet_keeps, cmdTimeServoSet_keeps, cmdTimeStep_keeps, cmdTimeSourceSet_keeps, cmdTimeStatusGet_keeps, cmdTsAdjSet_keeps,
    cmdSyncOutSet_keeps, cmdCapSet_keeps, cmdCapRead_keeps, by simp⟩

theorem cmdsGroup6_keeps : ∀ c ∈ cmdsGroup6, c.Keeps := by
  unfold cmdsGroup6
  simp only [List.forall_mem_cons]
  exact ⟨cmdMicCfg_keeps, cmdCompLoad_keeps, cmdCompSwap_keeps, cmdMicDetMap_keeps, cmdMicMeterGet_keeps, cmdGenSet_keeps,
    cmdGenDrive_keeps, cmdGenStart_keeps, cmdGenStop_keeps, cmdGenRelease_keeps, cmdCaptureSet_keeps, cmdCaptureStart_keeps,
    cmdCaptureStop_keeps, cmdCaptureRead_keeps, cmdCaptureRelease_keeps, by simp⟩

theorem cmdsGroup7_keeps : ∀ c ∈ cmdsGroup7, c.Keeps := by
  unfold cmdsGroup7
  simp only [List.forall_mem_cons]
  exact ⟨cmdFacetTaskLoad_keeps, cmdFacetTaskSet_keeps, cmdFacetChanSet_keeps, cmdFacetTaskEnable_keeps, cmdFacetStageSet_keeps,
    cmdFacetStatusGet_keeps, cmdFacetTaskUnload_keeps, cmdSchedCfgSet_keeps, cmdTaskSubmit_keeps, cmdTimerSet_keeps,
    cmdSchedStatusGet_keeps, cmdTestgenSet_keeps, by simp⟩

theorem cmdsGroup8_keeps : ∀ c ∈ cmdsGroup8, c.Keeps := by
  unfold cmdsGroup8
  simp only [List.forall_mem_cons]
  exact ⟨cmdMirrorCfg_keeps, cmdHandover_keeps, cmdMirrorReady_keeps, cmdMirrorStatusGet_keeps, cmdHierCfg_keeps, cmdHierStatusGet_keeps,
    by simp⟩

theorem cmdsGroup9_keeps : ∀ c ∈ cmdsGroup9, c.Keeps := by
  unfold cmdsGroup9
  simp only [List.forall_mem_cons]
  exact ⟨cmdCounterRead_keeps, cmdPerfCfg_keeps, cmdPerfRead_keeps, cmdTraceCfg_keeps, cmdTraceRead_keeps, cmdDumpInfo_keeps,
    cmdDumpRead_keeps, cmdDumpClear_keeps, cmdEventMaskSet_keeps, by simp⟩

/-- Every command of chapter 15 keeps what no command takes away. -/
theorem commandOf_keeps {op : Nat} {c : CmdDef} (h : commandOf op = some c) : c.Keeps := by
  have hm : c ∈ commandTable := List.mem_of_find?_eq_some h
  unfold commandTable at hm
  simp only [List.mem_append] at hm
  rcases hm with ((((((((h | h) | h) | h) | h) | h) | h) | h) | h) | h
  · exact cmdsGroup0_keeps c h
  · exact cmdsGroup1_keeps c h
  · exact cmdsGroup2_keeps c h
  · exact cmdsGroup3_keeps c h
  · exact cmdsGroup4_keeps c h
  · exact cmdsGroup5_keeps c h
  · exact cmdsGroup6_keeps c h
  · exact cmdsGroup7_keeps c h
  · exact cmdsGroup8_keeps c h
  · exact cmdsGroup9_keeps c h

theorem State.repeatAnswer_keeps {r0 s : State} (k0 : r0.Keeps s) (h : Hdr) (op : Nat) (r : SlotRec) :
    r0.Keeps (State.repeatAnswer s h op r) := by
  unfold State.repeatAnswer
  try dsimp only
  repeat' (first
    | (with_reducible exact k0) | (with_reducible exact .refl _) | (with_reducible apply State.bump_keeps)
    | (with_reducible apply State.putResponse_keeps) | ((with_reducible intro _ _); try dsimp only) | (split)
    | (with_reducible apply State.Keeps.of_pair (by assumption)) | (dsimp only))

theorem State.judgeSlot_keeps {r0 s : State} (k0 : r0.Keeps s) (h : Hdr) (op crc : Nat) (p : Bytes) :
    r0.Keeps (State.judgeSlot s h op crc p) := by
  unfold State.judgeSlot
  try dsimp only
  repeat' (first
    | (with_reducible exact k0) | (with_reducible exact .refl _) | (with_reducible apply State.repeatAnswer_keeps)
    | (with_reducible apply State.respond_keeps) | (with_reducible apply CmdDef.launch_keeps) | (exact commandOf_keeps (by assumption))
    | ((with_reducible intro _ _); try dsimp only) | (split) | (with_reducible apply State.Keeps.of_pair (by assumption)) | (dsimp only))

theorem State.popQueue_keeps {r0 s : State} (k0 : r0.Keeps s) (n : Nat) :
    r0.Keeps (State.popQueue s n) := by
  unfold State.popQueue
  try dsimp only
  repeat' (first
    | (with_reducible exact k0) | (with_reducible exact .refl _) | (with_reducible apply State.onMbx_keeps)
    | (with_reducible apply State.setSlot_keeps) | ((with_reducible intro _ _); try dsimp only) | (split)
    | (with_reducible apply State.Keeps.of_pair (by assumption)) | (dsimp only))

theorem State.runHeldJob_keeps {r0 s : State} (k0 : r0.Keeps s) (n : Nat) (j : Job) :
    r0.Keeps (State.runHeldJob s n j) := by
  unfold State.runHeldJob
  try dsimp only
  repeat' (first
    | (with_reducible exact k0) | (with_reducible exact .refl _) | (with_reducible apply State.popQueue_keeps)
    | (with_reducible apply State.onMbx_keeps) | (with_reducible apply CmdDef.launch_keeps) | (exact commandOf_keeps (by assumption))
    | ((with_reducible intro _ _); try dsimp only) | (split) | (with_reducible apply State.Keeps.of_pair (by assumption)) | (dsimp only))

theorem State.handleSlot_keeps {r0 s : State} (k0 : r0.Keeps s) (n : Nat) (glitch : Bool) :
    r0.Keeps (State.handleSlot s n glitch) := by
  unfold State.handleSlot
  try dsimp only
  repeat' (first
    | (with_reducible exact k0) | (with_reducible exact .refl _) | (with_reducible apply State.popQueue_keeps)
    | (with_reducible apply State.taken_keeps) | (with_reducible apply State.respondUnrecorded_keeps)
    | (with_reducible apply State.bump_keeps) | (with_reducible apply State.judgeSlot_keeps)
    | ((with_reducible intro _ _); try dsimp only) | (split) | (with_reducible apply State.Keeps.of_pair (by assumption)) | (dsimp only))

theorem State.handleHead_keeps {r0 s : State} (k0 : r0.Keeps s) (glitch : Bool) :
    r0.Keeps (State.handleHead s glitch) := by
  unfold State.handleHead
  try dsimp only
  repeat' (first
    | (with_reducible exact k0) | (with_reducible exact .refl _) | (with_reducible apply State.runHeldJob_keeps)
    | (with_reducible apply State.handleSlot_keeps) | ((with_reducible intro _ _); try dsimp only) | (split)
    | (with_reducible apply State.Keeps.of_pair (by assumption)) | (dsimp only))

theorem execCommandHandle_keeps {r0 s : State} (k0 : r0.Keeps s) (glitch : Bool) :
    r0.KeepsNext (execCommandHandle glitch s) := by
  unfold execCommandHandle
  try dsimp only
  repeat' (first
    | (with_reducible apply State.KeepsNext.next) | (with_reducible exact k0) | (with_reducible exact .refl _)
    | (with_reducible apply State.handleHead_keeps) | ((with_reducible intro _ _); try dsimp only) | (split)
    | (with_reducible apply State.Keeps.of_pair (by assumption)) | (dsimp only))

theorem execBulkCopyDone_keeps {r0 s : State} (k0 : r0.Keeps s) (slot : Nat) :
    r0.KeepsNext (execBulkCopyDone slot s) := by
  unfold execBulkCopyDone
  try dsimp only
  repeat' (first
    | (with_reducible apply State.KeepsNext.next) | (with_reducible exact k0) | (with_reducible exact .refl _)
    | (with_reducible apply State.onMbx_keeps) | (with_reducible apply CmdDef.finish_keeps) | (exact commandOf_keeps (by assumption))
    | ((with_reducible intro _ _); try dsimp only) | (split) | (with_reducible apply State.Keeps.of_pair (by assumption)) | (dsimp only))

theorem State.mbxAccess_keeps {r0 s : State} (k0 : r0.Keeps s) (t : State) (k1 : r0.Keeps t) : r0.Keeps (State.mbxAccess s t) := by
  unfold State.mbxAccess
  split
  · exact k1
  · exact k0

theorem execDoorbell_keeps {r0 s : State} (k0 : r0.Keeps s) (bits : Byte) :
    r0.KeepsNext (execDoorbell bits s) := by
  unfold execDoorbell
  try dsimp only
  repeat' (first
    | (with_reducible apply State.KeepsNext.next) | (with_reducible exact k0) | (with_reducible exact .refl _)
    | (with_reducible apply State.doorbell_keeps) | ((with_reducible intro _ _); try dsimp only) | (split)
    | (with_reducible apply State.Keeps.of_pair (by assumption)) | (dsimp only))

theorem execMbxDoneClear_keeps {r0 s : State} (k0 : r0.Keeps s) (bits : Byte) :
    r0.KeepsNext (execMbxDoneClear bits s) := by
  unfold execMbxDoneClear
  try dsimp only
  repeat' (first
    | (with_reducible apply State.KeepsNext.next) | (with_reducible exact k0) | (with_reducible exact .refl _)
    | (with_reducible apply State.mbxAccess_keeps) | (with_reducible apply State.doneClear_keeps)
    | ((with_reducible intro _ _); try dsimp only) | (split) | (with_reducible apply State.Keeps.of_pair (by assumption)) | (dsimp only))

theorem execCommandSlotWrite_keeps {r0 s : State} (k0 : r0.Keeps s) (off : Nat) (data : Bytes) :
    r0.KeepsNext (execCommandSlotWrite off data s) := by
  unfold execCommandSlotWrite
  try dsimp only
  repeat' (first
    | (with_reducible apply State.KeepsNext.next) | (with_reducible exact k0) | (with_reducible exact .refl _)
    | (with_reducible apply State.mbxAccess_keeps) | (with_reducible apply State.slotWrite_keeps)
    | ((with_reducible intro _ _); try dsimp only) | (split) | (with_reducible apply State.Keeps.of_pair (by assumption)) | (dsimp only))

theorem execMbxEvrCfgWrite_keeps {r0 s : State} (k0 : r0.Keeps s) (v : Word) :
    r0.KeepsNext (execMbxEvrCfgWrite v s) := by
  unfold execMbxEvrCfgWrite
  try dsimp only
  repeat' (first
    | (with_reducible apply State.KeepsNext.next) | (with_reducible exact k0) | (with_reducible exact .refl _)
    | (with_reducible apply State.mbxAccess_keeps) | (with_reducible apply State.evrCfg_keeps)
    | ((with_reducible intro _ _); try dsimp only) | (split) | (with_reducible apply State.Keeps.of_pair (by assumption)) | (dsimp only))

theorem execMbxEvrConsWrite_keeps {r0 s : State} (k0 : r0.Keeps s) (v : Word) :
    r0.KeepsNext (execMbxEvrConsWrite v s) := by
  unfold execMbxEvrConsWrite
  try dsimp only
  repeat' (first
    | (with_reducible apply State.KeepsNext.next) | (with_reducible exact k0) | (with_reducible exact .refl _)
    | (with_reducible apply State.mbxAccess_keeps) | (with_reducible apply State.evrCons_keeps)
    | ((with_reducible intro _ _); try dsimp only) | (split) | (with_reducible apply State.Keeps.of_pair (by assumption)) | (dsimp only))

theorem State.trialPassed_keeps {r0 s : State} (k0 : r0.Keeps s)  :
    r0.Keeps (State.trialPassed s) := by
  unfold State.trialPassed
  try dsimp only
  repeat' (first
    | (with_reducible exact k0) | (with_reducible exact .refl _) | (with_reducible apply State.writeBootRec_keeps)
    | (with_reducible apply State.onSys_keeps) | (with_reducible apply State.onSec_keeps)
    | (exact fun _ => ⟨rfl, rfl, rfl, rfl, Nat.le_max_left _ _⟩) | (exact fun _ => ⟨rfl, rfl, id, fun _ => id⟩)
    | (exact fun _ => ⟨rfl, rfl, rfl, rfl, Nat.le_refl _⟩) | ((with_reducible intro _ _); try dsimp only) | (split)
    | (with_reducible apply State.Keeps.of_pair (by assumption)) | (dsimp only))

theorem State.queueHeld_keeps {r0 s : State} (k0 : r0.Keeps s)  :
    r0.Keeps (State.queueHeld s) := by
  unfold State.queueHeld
  try dsimp only
  repeat' (first
    | (with_reducible exact k0) | (with_reducible exact .refl _) | (with_reducible apply State.onMbx_keeps)
    | ((with_reducible intro _ _); try dsimp only) | (split) | (with_reducible apply State.Keeps.of_pair (by assumption)) | (dsimp only))

theorem State.runHeld_keeps {r0 s : State} (k0 : r0.Keeps s) (z1 : Nat) :
    r0.Keeps (State.runHeld s z1) := by
  induction z1 generalizing s with
  | zero =>
    unfold State.runHeld
    try dsimp only
    repeat' (first
      | (with_reducible exact k0) | (with_reducible exact .refl _) | (with_reducible apply State.runHeldJob_keeps)
      | ((with_reducible intro _ _); try dsimp only) | (split) | (with_reducible apply State.Keeps.of_pair (by assumption)) | (dsimp only))
  | succ _ ih =>
    unfold State.runHeld
    try dsimp only
    repeat' (first
      | (with_reducible exact k0) | (with_reducible exact .refl _) | (with_reducible apply ih)
      | (with_reducible apply State.runHeldJob_keeps) | ((with_reducible intro _ _); try dsimp only) | (split)
      | (with_reducible apply State.Keeps.of_pair (by assumption)) | (dsimp only))

theorem execStartupPark_keeps {r0 s : State} (k0 : r0.Keeps s)  :
    r0.KeepsNext (execStartupPark s) := by
  unfold execStartupPark
  try dsimp only
  repeat' (first
    | (with_reducible apply State.KeepsNext.next) | (with_reducible exact k0) | (with_reducible exact .refl _)
    | (with_reducible apply State.sweepPassed_keeps) | (with_reducible apply State.ddrSleep_keeps)
    | (with_reducible apply State.setPwr_keeps) | (with_reducible apply State.setMode_keeps) | (with_reducible apply State.runHeld_keeps)
    | (with_reducible apply State.trialPassed_keeps) | (with_reducible apply State.queueHeld_keeps)
    | ((with_reducible intro _ _); try dsimp only) | (split) | (with_reducible apply State.Keeps.of_pair (by assumption)) | (dsimp only))

/-! ### Dispatch -/

/-- Every command keeps what no command takes away; PORST_N, outside the test state. -/
theorem exec_keeps {r0 s : State} (k0 : r0.Keeps s) (c : Instr) (hc : c = .porstN → r0.sys.phase ≠ .testMode) :
    r0.KeepsNext (exec c s) := by
  cases c with
  | bootGo _ _ => exact execBootGo_keeps k0 _ _
  | sysInfo _ _ => exact execSysInfo_keeps k0 _ _
  | modeSet _ _ => exact execModeSet_keeps k0 _ _
  | rateSet _ _ => exact execRateSet_keeps k0 _ _
  | sysReset _ _ => exact execSysReset_keeps k0 _ _
  | fwStage _ _ => exact execFwStage_keeps k0 _ _
  | fwCommit _ _ => exact execFwCommit_keeps k0 _ _
  | fwStatus _ _ => exact execFwStatus_keeps k0 _ _
  | debugChallenge _ _ => exact execDebugChallenge_keeps k0 _ _
  | debugUnlock _ _ => exact execDebugUnlock_keeps k0 _ _
  | hostRegionSet _ _ => exact execHostRegionSet_keeps k0 _ _
  | claimList _ _ => exact execClaimList_keeps k0 _ _
  | ddrSpeedSet _ _ => exact execDdrSpeedSet_keeps k0 _ _
  | ddrCal _ _ => exact execDdrCal_keeps k0 _ _
  | ddrKeepSet _ _ => exact execDdrKeepSet_keeps k0 _ _
  | ddrGuardSet _ _ => exact execDdrGuardSet_keeps k0 _ _
  | ddrStatusGet _ _ => exact execDdrStatusGet_keeps k0 _ _
  | layoutLoad _ _ => exact execLayoutLoad_keeps k0 _ _
  | layoutCommit _ _ => exact execLayoutCommit_keeps k0 _ _
  | airSet _ _ => exact execAirSet_keeps k0 _ _
  | objectUpdate _ _ => exact execObjectUpdate_keeps k0 _ _
  | objectDirectSet _ _ => exact execObjectDirectSet_keeps k0 _ _
  | objectStatus _ _ => exact execObjectStatus_keeps k0 _ _
  | inputMapSet _ _ => exact execInputMapSet_keeps k0 _ _
  | outputMapSet _ _ => exact execOutputMapSet_keeps k0 _ _
  | sceneRxSet _ _ => exact execSceneRxSet_keeps k0 _ _
  | prismHalfSet _ _ => exact execPrismHalfSet_keeps k0 _ _
  | alignDelaySet _ _ => exact execAlignDelaySet_keeps k0 _ _
  | prismAirSet _ _ => exact execPrismAirSet_keeps k0 _ _
  | prismXfadeSet _ _ => exact execPrismXfadeSet_keeps k0 _ _
  | prismStatusGet _ _ => exact execPrismStatusGet_keeps k0 _ _
  | metaCfgSet _ _ => exact execMetaCfgSet_keeps k0 _ _
  | trajModelSet _ _ => exact execTrajModelSet_keeps k0 _ _
  | objectRelease _ _ => exact execObjectRelease_keeps k0 _ _
  | placementReport _ _ => exact execPlacementReport_keeps k0 _ _
  | lensBankLoad _ _ => exact execLensBankLoad_keeps k0 _ _
  | lensSwap _ _ => exact execLensSwap_keeps k0 _ _
  | lensTailSet _ _ => exact execLensTailSet_keeps k0 _ _
  | lensTrimSet _ _ => exact execLensTrimSet_keeps k0 _ _
  | lensLimitSet _ _ => exact execLensLimitSet_keeps k0 _ _
  | lensDetSet _ _ => exact execLensDetSet_keeps k0 _ _
  | lensDetMap _ _ => exact execLensDetMap_keeps k0 _ _
  | lensMeterGet _ _ => exact execLensMeterGet_keeps k0 _ _
  | lensStatusGet _ _ => exact execLensStatusGet_keeps k0 _ _
  | portGroupSet _ _ => exact execPortGroupSet_keeps k0 _ _
  | portSet _ _ => exact execPortSet_keeps k0 _ _
  | portEnable _ _ => exact execPortEnable_keeps k0 _ _
  | portMaskSet _ _ => exact execPortMaskSet_keeps k0 _ _
  | portStatusGet _ _ => exact execPortStatusGet_keeps k0 _ _
  | netModeSet _ _ => exact execNetModeSet_keeps k0 _ _
  | netAddrSet _ _ => exact execNetAddrSet_keeps k0 _ _
  | netFilterSet _ _ => exact execNetFilterSet_keeps k0 _ _
  | netStatusGet _ _ => exact execNetStatusGet_keeps k0 _ _
  | netHostRx _ _ => exact execNetHostRx_keeps k0 _ _
  | netHostTx _ _ => exact execNetHostTx_keeps k0 _ _
  | mdioAccess _ _ => exact execMdioAccess_keeps k0 _ _
  | streamSet _ _ => exact execStreamSet_keeps k0 _ _
  | streamEnable _ _ => exact execStreamEnable_keeps k0 _ _
  | streamStatusGet _ _ => exact execStreamStatusGet_keeps k0 _ _
  | timePtpSet _ _ => exact execTimePtpSet_keeps k0 _ _
  | timeServoSet _ _ => exact execTimeServoSet_keeps k0 _ _
  | timeStep _ _ => exact execTimeStep_keeps k0 _ _
  | timeSourceSet _ _ => exact execTimeSourceSet_keeps k0 _ _
  | timeStatusGet _ _ => exact execTimeStatusGet_keeps k0 _ _
  | tsAdjSet _ _ => exact execTsAdjSet_keeps k0 _ _
  | syncOutSet _ _ => exact execSyncOutSet_keeps k0 _ _
  | capSet _ _ => exact execCapSet_keeps k0 _ _
  | capRead _ _ => exact execCapRead_keeps k0 _ _
  | micCfg _ _ => exact execMicCfg_keeps k0 _ _
  | compLoad _ _ => exact execCompLoad_keeps k0 _ _
  | compSwap _ _ => exact execCompSwap_keeps k0 _ _
  | micDetMap _ _ => exact execMicDetMap_keeps k0 _ _
  | micMeterGet _ _ => exact execMicMeterGet_keeps k0 _ _
  | genSet _ _ => exact execGenSet_keeps k0 _ _
  | genDrive _ _ => exact execGenDrive_keeps k0 _ _
  | genStart _ _ => exact execGenStart_keeps k0 _ _
  | genStop _ _ => exact execGenStop_keeps k0 _ _
  | genRelease _ _ => exact execGenRelease_keeps k0 _ _
  | captureSet _ _ => exact execCaptureSet_keeps k0 _ _
  | captureStart _ _ => exact execCaptureStart_keeps k0 _ _
  | captureStop _ _ => exact execCaptureStop_keeps k0 _ _
  | captureRead _ _ => exact execCaptureRead_keeps k0 _ _
  | captureRelease _ _ => exact execCaptureRelease_keeps k0 _ _
  | facetTaskLoad _ _ => exact execFacetTaskLoad_keeps k0 _ _
  | facetTaskSet _ _ => exact execFacetTaskSet_keeps k0 _ _
  | facetChanSet _ _ => exact execFacetChanSet_keeps k0 _ _
  | facetTaskEnable _ _ => exact execFacetTaskEnable_keeps k0 _ _
  | facetStageSet _ _ => exact execFacetStageSet_keeps k0 _ _
  | facetStatusGet _ _ => exact execFacetStatusGet_keeps k0 _ _
  | facetTaskUnload _ _ => exact execFacetTaskUnload_keeps k0 _ _
  | schedCfgSet _ _ => exact execSchedCfgSet_keeps k0 _ _
  | taskSubmit _ _ => exact execTaskSubmit_keeps k0 _ _
  | timerSet _ _ => exact execTimerSet_keeps k0 _ _
  | schedStatusGet _ _ => exact execSchedStatusGet_keeps k0 _ _
  | testgenSet _ _ => exact execTestgenSet_keeps k0 _ _
  | mirrorCfg _ _ => exact execMirrorCfg_keeps k0 _ _
  | handover _ _ => exact execHandover_keeps k0 _ _
  | mirrorReady _ _ => exact execMirrorReady_keeps k0 _ _
  | mirrorStatusGet _ _ => exact execMirrorStatusGet_keeps k0 _ _
  | hierCfg _ _ => exact execHierCfg_keeps k0 _ _
  | hierStatusGet _ _ => exact execHierStatusGet_keeps k0 _ _
  | counterRead _ _ => exact execCounterRead_keeps k0 _ _
  | perfCfg _ _ => exact execPerfCfg_keeps k0 _ _
  | perfRead _ _ => exact execPerfRead_keeps k0 _ _
  | traceCfg _ _ => exact execTraceCfg_keeps k0 _ _
  | traceRead _ _ => exact execTraceRead_keeps k0 _ _
  | dumpInfo _ _ => exact execDumpInfo_keeps k0 _ _
  | dumpRead _ _ => exact execDumpRead_keeps k0 _ _
  | dumpClear _ _ => exact execDumpClear_keeps k0 _ _
  | eventMaskSet _ _ => exact execEventMaskSet_keeps k0 _ _
  | doorbell _ => exact execDoorbell_keeps k0 _
  | commandHandle _ => exact execCommandHandle_keeps k0 _
  | mbxDoneClear _ => exact execMbxDoneClear_keeps k0 _
  | commandSlotWrite _ _ => exact execCommandSlotWrite_keeps k0 _ _
  | bulkCopyDone _ => exact execBulkCopyDone_keeps k0 _
  | mbxEvrCfgWrite _ => exact execMbxEvrCfgWrite_keeps k0 _
  | mbxEvrConsWrite _ => exact execMbxEvrConsWrite_keeps k0 _
  | spiTransaction _ _ _ _ => exact execSpiTransaction_keeps k0 _ _ _ _
  | bar2Access _ _ => exact execBar2Access_keeps k0 _ _
  | debugWindowAccess _ _ => exact execDebugWindowAccess_keeps k0 _ _
  | hostifDbgWinWrite _ => exact execHostifDbgWinWrite_keeps k0 _
  | functionLevelReset => exact execFunctionLevelReset_keeps k0
  | linkDown => exact execLinkDown_keeps k0
  | pciePerstN _ => exact execPciePerstN_keeps k0 _
  | latchTime => exact execLatchTime_keeps k0
  | updateServo => exact execUpdateServo_keeps k0
  | lockAcq _ _ => exact execLockAcq_keeps k0 _ _
  | lockRel _ _ => exact execLockRel_keeps k0 _ _
  | perfCntLoRead _ _ => exact execPerfCntLoRead_keeps k0 _ _
  | perfCntHiRead _ _ => exact execPerfCntHiRead_keeps k0 _ _
  | rxRingReturn _ _ _ => exact execRxRingReturn_keeps k0 _ _ _
  | rxRingEnable _ _ => exact execRxRingEnable_keeps k0 _ _
  | txRingTailWrite _ _ _ => exact execTxRingTailWrite_keeps k0 _ _ _
  | txRingEnable _ _ => exact execTxRingEnable_keeps k0 _ _
  | txDescriptorDone _ _ => exact execTxDescriptorDone_keeps k0 _ _
  | marginClr => exact execMarginClr_keeps k0
  | stepCore _ _ => exact execStepCore_keeps k0 _ _
  | haltCore _ => exact execHaltCore_keeps k0 _
  | restartWdt => exact execRestartWdt_keeps k0
  | registerWrite _ _ => exact execRegisterWrite_keeps k0 _ _
  | jtagIdcode => exact execJtagIdcode_keeps k0
  | jtagBypass => exact execJtagBypass_keeps k0
  | porstN => exact execPorstN_keeps k0 (hc rfl)
  | warmRstN => exact execWarmRstN_keeps k0
  | warmResetRelease _ => exact execWarmResetRelease_keeps k0 _
  | powerFail => exact execPowerFail_keeps k0
  | powerFailRestart => exact execPowerFailRestart_keeps k0
  | imageLoadDone _ => exact execImageLoadDone_keeps k0 _
  | chainBootForward _ => exact execChainBootForward_keeps k0 _
  | firmwareStart => exact execFirmwareStart_keeps k0
  | networkStart _ => exact execNetworkStart_keeps k0 _
  | startupPark => exact execStartupPark_keeps k0
  | modeEntry => exact execModeEntry_keeps k0
  | watchdogExpiry => exact execWatchdogExpiry_keeps k0
  | safeEntry => exact execSafeEntry_keeps k0
  | autoReset => exact execAutoReset_keeps k0
  | thermTripN => exact execThermTripN_keeps k0
  | internalThermalTrip => exact execInternalThermalTrip_keeps k0
  | thermWarn _ => exact execThermWarn_keeps k0 _
  | quantumBoundary _ => exact execQuantumBoundary_keeps k0 _
  | rtRelease => exact execRtRelease_keeps k0
  | cutOff => exact execCutOff_keeps k0
  | facetOverrun _ => exact execFacetOverrun_keeps k0 _
  | taskDispatch _ => exact execTaskDispatch_keeps k0 _
  | resumeI _ => exact execResumeI_keeps k0 _
  | timerExpiry _ => exact execTimerExpiry_keeps k0 _
  | eventItem _ _ _ _ => exact execEventItem_keeps k0 _ _ _ _
  | obsWindowEnd => exact execObsWindowEnd_keeps k0
  | mulM _ _ => exact execMulM_keeps k0 _ _
  | mac _ _ => exact execMac_keeps k0 _ _
  | msb _ _ => exact execMsb_keeps k0 _ _
  | macq _ _ => exact execMacq_keeps k0 _ _
  | dmac _ _ => exact execDmac_keeps k0 _ _
  | dmsb _ _ => exact execDmsb_keeps k0 _ _
  | cmac _ _ => exact execCmac_keeps k0 _ _
  | cmsb _ _ => exact execCmsb_keeps k0 _ _
  | accClr _ _ => exact execAccClr_keeps k0 _ _
  | accAdd _ _ => exact execAccAdd_keeps k0 _ _
  | accSub _ _ => exact execAccSub_keeps k0 _ _
  | addd _ _ => exact execAddd_keeps k0 _ _
  | subd _ _ => exact execSubd_keeps k0 _ _
  | negA _ _ => exact execNegA_keeps k0 _ _
  | absA _ _ => exact execAbsA_keeps k0 _ _
  | accTfr _ _ => exact execAccTfr_keeps k0 _ _
  | qnt _ _ => exact execQnt_keeps k0 _ _
  | satA _ _ => exact execSatA_keeps k0 _ _
  | accAsl _ _ => exact execAccAsl_keeps k0 _ _
  | accAsr _ _ => exact execAccAsr_keeps k0 _ _
  | ash _ _ => exact execAsh_keeps k0 _ _
  | normA _ _ => exact execNormA_keeps k0 _ _
  | expA _ _ => exact execExpA_keeps k0 _ _
  | accMax _ _ => exact execAccMax_keeps k0 _ _
  | accMin _ _ => exact execAccMin_keeps k0 _ _
  | accCmp _ _ => exact execAccCmp_keeps k0 _ _
  | daluAdd _ _ => exact execDaluAdd_keeps k0 _ _
  | daluSub _ _ => exact execDaluSub_keeps k0 _ _
  | andD _ _ => exact execAndD_keeps k0 _ _
  | orD _ _ => exact execOrD_keeps k0 _ _
  | xorD _ _ => exact execXorD_keeps k0 _ _
  | notD _ _ => exact execNotD_keeps k0 _ _
  | daluAsl _ _ => exact execDaluAsl_keeps k0 _ _
  | daluAsr _ _ => exact execDaluAsr_keeps k0 _ _
  | lsr _ _ => exact execLsr_keeps k0 _ _
  | daluMin _ _ => exact execDaluMin_keeps k0 _ _
  | daluMax _ _ => exact execDaluMax_keeps k0 _ _
  | daluCmp _ _ => exact execDaluCmp_keeps k0 _ _
  | mull _ _ => exact execMull_keeps k0 _ _
  | moveI _ _ => exact execMoveI_keeps k0 _ _
  | tfr _ _ => exact execTfr_keeps k0 _ _
  | lds _ _ => exact execLds_keeps k0 _ _
  | ldh _ _ => exact execLdh_keeps k0 _ _
  | lda _ _ => exact execLda_keeps k0 _ _
  | adda _ _ => exact execAdda_keeps k0 _ _
  | addl _ _ => exact execAddl_keeps k0 _ _
  | mova _ _ => exact execMova_keeps k0 _ _
  | tfra _ _ => exact execTfra_keeps k0 _ _
  | tfrd _ _ => exact execTfrd_keeps k0 _ _
  | rpt _ _ _ => exact execRpt_keeps k0 _ _ _
  | loopI _ _ _ _ => exact execLoopI_keeps k0 _ _ _ _
  | leaveI _ _ => exact execLeaveI_keeps k0 _ _
  | nopI _ => exact execNopI_keeps k0 _
  | bra _ _ _ => exact execBra_keeps k0 _ _ _
  | bsr _ _ _ => exact execBsr_keeps k0 _ _ _
  | rts _ _ => exact execRts_keeps k0 _ _
  | jmp _ _ => exact execJmp_keeps k0 _ _
  | yieldI _ => exact execYieldI_keeps k0 _
  | trapI _ _ => exact execTrapI_keeps k0 _ _
  | fenceI _ _ => exact execFenceI_keeps k0 _ _
  | setm _ _ _ => exact execSetm_keeps k0 _ _ _
  | segI _ _ => exact execSegI_keeps k0 _ _
  | ldi _ _ => exact execLdi_keeps k0 _ _
  | addi _ _ => exact execAddi_keeps k0 _ _
  | cmpi _ _ => exact execCmpi_keeps k0 _ _
  | fld _ _ _ => exact execFld_keeps k0 _ _ _
  | fst _ _ _ => exact execFst_keeps k0 _ _ _
  | xbarRequest _ => exact execXbarRequest_keeps k0 _
  | xbarGrant _ _ => exact execXbarGrant_keeps k0 _ _
  | xbarComplete _ _ _ _ => exact execXbarComplete_keeps k0 _ _ _ _
  | xbarTimeout _ _ => exact execXbarTimeout_keeps k0 _ _
  | parkDefault _ => exact execParkDefault_keeps k0 _
  | dramRequest _ => exact execDramRequest_keeps k0 _
  | refresh _ _ => exact execRefresh_keeps k0 _ _
  | mr4Poll _ _ => exact execMr4Poll_keeps k0 _ _
  | rowWindowEnd => exact execRowWindowEnd_keeps k0
  | scrub _ => exact execScrub_keeps k0 _
  | dlyApply _ => exact execDlyApply_keeps k0 _
  | sweepDone _ _ => exact execSweepDone_keeps k0 _ _
  | ddrPllLoss => exact execDdrPllLoss_keeps k0
  | ddrRelockEnd _ => exact execDdrRelockEnd_keeps k0 _
  | lockWindowEnd _ => exact execLockWindowEnd_keeps k0 _
  | clockLoss => exact execClockLoss_keeps k0
  | refclkMissing => exact execRefclkMissing_keeps k0
  | refclkPresent => exact execRefclkPresent_keeps k0
  | relockEnd => exact execRelockEnd_keeps k0
  | holdTimeout => exact execHoldTimeout_keeps k0
  | pps => exact execPps_keeps k0
  | syncInEdge _ => exact execSyncInEdge_keeps k0 _
  | capEdge _ _ => exact execCapEdge_keeps k0 _ _
  | portFrameEdge _ _ _ => exact execPortFrameEdge_keeps k0 _ _ _
  | grpLost _ => exact execGrpLost_keeps k0 _
  | nonaudioRelease _ _ _ => exact execNonaudioRelease_keeps k0 _ _ _
  | micStuck _ => exact execMicStuck_keeps k0 _
  | genDone => exact execGenDone_keeps k0
  | blockLockLoss _ => exact execBlockLockLoss_keeps k0 _
  | retrainEnd _ _ => exact execRetrainEnd_keeps k0 _ _
  | linkPoll _ _ => exact execLinkPoll_keeps k0 _ _
  | frameReceived _ _ _ => exact execFrameReceived_keeps k0 _ _ _
  | forwardTransmit _ _ => exact execForwardTransmit_keeps k0 _ _
  | streamPacketSend => exact execStreamPacketSend_keeps k0
  | legDown _ _ => exact execLegDown_keeps k0 _ _
  | arpTimeout => exact execArpTimeout_keeps k0
  | flashProgramDone => exact execFlashProgramDone_keeps k0
  | lensLoadDone _ _ => exact execLensLoadDone_keeps k0 _ _
  | tailBlockBoundary _ _ _ => exact execTailBlockBoundary_keeps k0 _ _ _
  | switchTick => exact execSwitchTick_keeps k0
  | mirActInChange _ => exact execMirActInChange_keeps k0 _
  | actInConfirmed => exact execActInConfirmed_keeps k0
  | heartbeatCheck _ _ _ => exact execHeartbeatCheck_keeps k0 _ _ _
  | workerLost _ => exact execWorkerLost_keeps k0 _
  | porstNRelease _ _ => exact execPorstNRelease_keeps k0 _ _
  | pcieLinkUp _ _ => exact execPcieLinkUp_keeps k0 _ _
  | micTransition _ => exact execMicTransition_keeps k0 _
  | sysResetApply => exact execSysResetApply_keeps k0
  | firmwareItemComplete => exact execFirmwareItemComplete_keeps k0

end Sys2Proof.Machine
end

