-- ==== Sys2Proof/Laws/All.lean ====
section
/-! SUPPORT. Every law in one import. -/
end

