-- ==== Sys2Proof/Tests/Slice0.lean ====
section
/-! SUPPORT. Tests: for every statement of Obligations.lean with hypotheses, operands and states that meet them, clause by clause; for every
check of WellFormed, an operand that it refuses; and effects of single commands, expected from the spec's tables. -/

open Sys2Proof Sys2Proof.Machine

section

set_option Elab.async false
set_option linter.unusedVariables false
set_option maxRecDepth 100000

/-! ### What the witnesses are built of -/

/-- An optional value that is there is its own content. -/
theorem eq_some_get {α : Type} {o : Option α} (h : o.isSome = true) : o = some (o.get h) := by simp

/-- A pair whose second part is known. -/
theorem pair_snd {α β : Type} {x : α × β} {b : β} (h : x.2 = b) : x = (x.1, b) := by rw [← h]

/-- A header: slot 0, sequence 1. -/
def wHdr : Hdr := ⟨0, 1, 0, false⟩

/-- The block with every domain powered, firmware running and the tick from the media clock, in a mode. -/
def wIn (m : Mode) : State :=
  (State.reset.onTime (fun x => { x with tickSrc := 0 })).onSys (fun x => { x with phase := .running, fwRunning := true, mode := m, pwr := 511 })

/-- The public key of a key pair whose private key is 0x1234567890abcdef four times over. -/
def wKey : Bytes :=
  beBytes 32 0x471c3e758c4904285bba7e53118ed0f524adeb0757d25bd2f8e7b0d76dfa714c
    ++ beBytes 32 0xdd520f7aca8a8b917acc37f51de8f0c9bbe3ad858382e702dc25a12d09f7a858

/-- Its signature over 24 zero bytes (a nonce of zeros and unique ID 0). -/
def wUnlockSig : Bytes :=
  beBytes 32 0x5dc13968c297ee08663bf287c55b2703701a4580b1a3cf66bd542abd56af6de2
    ++ beBytes 32 0xe4bef2ab5fbf0f00988bb129c30af86505dbad81662decde6be7e41b9f843817

/-- An image of the body 1, 2, 3, 4 with security version 7, signed with that key. -/
def wImage : Bytes :=
  le32 0x57464B4D ++ le16 1 ++ zeros 2 ++ le32 7 ++ le32 4 ++ zeros 16
    ++ beBytes 32 0x9f64a747e1b97f131fabb6b447296c9b6f0201e79fb3c5356e6c77e89b6a806a ++ wKey
    ++ beBytes 32 0x5dc13968c297ee08663bf287c55b2703701a4580b1a3cf66bd542abd56af6de2
    ++ beBytes 32 0xda2d11093eb01e4bff9c6a160914501d738c331880746fada9e10b077540f9e9 ++ zeros 64 ++ [1, 2, 3, 4]

/-- A block in PARK whose OTP key slot 0 holds the hash of that key. -/
def wKeyed : State :=
  (wIn .park).onSec (fun x => { x with
    keyHash := [(0, beBytes 32 0xb3d283416a8e6401d39a988f2e469a12968dc63c4387a3f2c67338ad14a1e6d0)] })

/-- The boot ROM waits for BOOT_GO with the image in TCM. -/
def wImaged : State :=
  (wKeyed.onSys (fun x => { x with fwRunning := false, mode := .boot, hostBootWait := true })).withMem (mwrite [] tcmBase wImage)

/-- A layout of one speaker on bus 0. -/
def wLayout : Bytes := le16 0x4C59 ++ le16 1 ++ le16 1 ++ zeros 22 ++ le32 1000 ++ le32 100 ++ zeros 1084

/-- An image of bank 1 of bus 0 with coefficients of zero (R150). -/
def wLensImage : Bytes := le16 0x4C4B ++ [1, 1] ++ zeros 4 ++ le32 2400 ++ zeros 2388

/-- A context set for output with a unicast leg. -/
def wTalker : StreamCtx :=
  { StreamCtx.init with isSet := true, output := true, chans := 1, legAOn := true, ttl := 1, ptype := 96, legA := { Leg.init with dst := 0xC0A80002 } }

/-- A list of one element. -/
theorem all_of_one {α : Type} {l : List α} {x : α} {q : α → Prop} (h : l = [x]) (hq : q x) : ∀ e ∈ l, q e := by simpa [h] using hq

/-- RENDER with REFCLK_IN present. -/
def wClocked : State := (wIn .render).onTime (fun x => { x with refclkOk := true })

/-- A compensation image of bank 1 of channel 15 with taps of zero (R161). -/
def wCompImage : Bytes := le16 0x4D43 ++ [1, 1, 15] ++ zeros 139

/-- A task image of one program word, NOP, and 16 X words (R301). -/
def wTaskImage : Bytes := le16 0x4654 ++ [1, 0] ++ le16 1 ++ le16 16 ++ zeros 24 ++ le32 0xA0000000

/-- A HOST task with that image, permitted on core 0. -/
def wTask : FTask := { FTask.init with image := some wTaskImage, attach := 3, level := 2, mask := 1 }

/-- RENDER with that task enabled as task 5. -/
def wServing : State := (wIn .render).setTask 5 { wTask with enabled := true }

/-- MEASURE with a capture of one channel of one quantum that has ended. -/
def wCapturing : State :=
  ((wIn .measure).claim 0x301 4).onMeas (fun x => { x with
    capture := some ⟨0, [0], 1, 0, 1, 2, 0, 8, 8, 0, 0, none, 0, false, true, 0⟩ })

/-- A valid dump in the first DRAM unit. -/
def wDumped : State :=
  ((wIn .park).onTrace (fun x => { x with dumpValid := true })).withMem
    (mwrite [] 0x100000000 (le32 0x4D504B4D ++ zeros 56 ++ le32 (crc32 (le32 0x4D504B4D ++ zeros 56))))

/-- RENDER as the active unit of a pair whose partner is synced. -/
def wActive : State :=
  ((wIn .render).setFld Reg.MIR_CTRL 0 0 1).onMir (fun x => { x with st := .active, actInForce := true, hbIn := true })

/-- PARK with a SYS_INFO posted in slot 7. -/
def wPosted : State :=
  ((wIn .park).onMbx (fun x => { x with queue := [7] })).withMem
    (mwrite [] (cmdSlotAddr 7) (le16 2 ++ le16 1 ++ zeros 8 ++ le32 (crc32 (le16 2 ++ le16 1 ++ zeros 12))))

/-- A SYS_INFO as a job. -/
def wJob : Job := ⟨⟨7, 1, 0, false⟩, 0x0002, []⟩

/-- The block with HOST_IF at SPI. -/
def wSpi : State := (wIn .park).onSys (fun x => { x with straps := { x.straps with hostIf := true } })

/-- PARK with the PCIe link up and master 9 unmasked. -/
def wLinked : State :=
  ((wIn .park).onHost (fun x => { x with linkUp := true, regionUnits := 1 })).onXbar (fun x => { x with resetMask := 0 })

/-- The same with debug unlocked. -/
def wDebug : State := wLinked.onSec (fun x => { x with unlocked := true })

/-- RENDER with item 1 of task 5 resident on core 0, whose context is given. -/
def wCore (c : FCtx) : State :=
  ((wIn .render).setTask 5 { wTask with image := some (wTaskImage.take 4 ++ le16 64 ++ wTaskImage.drop 6 ++ zeros 252), enabled := true }).onSched (fun x =>
    { x with server := [(0, 2)], items := [(1, ⟨some 5, 1, 2, none, 1, .resident, 0, 0, 0, true, false, false, [], c⟩)] })

/-- No parallel move. -/
def wNoMove : PMove := ⟨false, 0, 0, false, 0, 0, false⟩

/-- That item. -/
def wItem (c : FCtx) : Item := ⟨some 5, 1, 2, none, 1, .resident, 0, 0, 0, true, false, false, [], c⟩

/-- The context in which it executes an instruction. -/
def wCtx (c : FCtx) (o : FOp) : FCtx := { c.aged (c.stall o) with flagsBy := 0 }

/-- Core 0 issues an instruction. -/
theorem wIssues (c : FCtx) (o : FOp)
    (h : (wCore c).resident 0 = some 1 ∧ (wCore c).item? 1 = some (wItem c) ∧ (wCore c).coreAlive 0 = true ∧ (wCore c).coreHalted 0 = false ∧
      c.pc + o.len ≤ ((wCore c).task 5).pWords ∧ (c.rpt = none ∨ o.repeatable = true) ∧ (o.flow = false ∨ c.atLast = false) ∧ (wCore c).spentOut ((wItem c).spent (c.stall o)) = false) :
    (wCore c).Issues 0 1 (wItem c) o ((wCore c).task 5) (wCtx c o) :=
  ⟨h.1, h.2.1, h.2.2.1, h.2.2.2.1, rfl, h.2.2.2.2.1, h.2.2.2.2.2.1, h.2.2.2.2.2.2.1, h.2.2.2.2.2.2.2, rfl⟩

/-- What an instruction of classes 0x0 to 0x8 leaves there. -/
def wRun (c : FCtx) (o : FOp) : State × FCtx × Nat × Option Nat :=
  State.facetTimes ((wCore c).task 5) o (((wCore c).facetLimit (wItem c)).map (· - c.charged)) ((wCtx c o).rpt.getD 1) (wCore c)
    { wCtx c o with rpt := none } (c.stall o)

/-- Core 0 executes an instruction of classes 0x0 to 0x8. -/
theorem wExec (c : FCtx) (o : FOp)
    (h : ((wCore c).resident 0 = some 1 ∧ (wCore c).item? 1 = some (wItem c) ∧ (wCore c).coreAlive 0 = true ∧ (wCore c).coreHalted 0 = false ∧
      c.pc + o.len ≤ ((wCore c).task 5).pWords ∧ (c.rpt = none ∨ o.repeatable = true) ∧ (o.flow = false ∨ c.atLast = false) ∧
      (wCore c).spentOut ((wItem c).spent (c.stall o)) = false) ∧ (wRun c o).2.2.2 = none) :
    (wCore c).Executes 0 o ((wRun c o).1.facetDone 0 1 (wItem c) ((wRun c o).2.1.advance 1) (wRun c o).2.2.1) := by
  refine ⟨1, wItem c, _, _, (wRun c o).1, (wRun c o).2.1, (wRun c o).2.2.1, wIssues c o h.1, ?_, rfl⟩
  have h2 := h.2
  rcases hr : wRun c o with ⟨s1, c1, cyc, e⟩
  rw [hr] at h2
  dsimp only at h2
  subst h2
  exact hr

/-- PARK with a transmit ring of port 0 enabled and a frame of descriptor 0, of the given status, started. -/
def wRing (st : Nat) : State :=
  ((((((wIn .park).setFld (Reg.MAC_CTRL 0) 0 0 1).setFld (Reg.TX_RING_CFG 0 0) 31 31 1).setFld (Reg.TX_RING_TAIL 0 0) 11 0 1).setMac 0 { MacSt.init with
    started := [(0, 0, some 5)] }).setFld (Reg.TX_RING_DESC 0 0) 31 0 0x1000000).withMem (mwrite [] 0x100000000 (zeros 8 ++ le16 64 ++ le16 st))

/-- A block whose boot ROM has loaded the signed image from slot A. -/
def wFlashed : State :=
  (wKeyed.onSys (fun x => { x with mode := .boot, fwRunning := false, bootTry := some 0 })).withFlash (mwrite [] (slotAddr 0) wImage)

/-- The same while nothing of the flash is valid. -/
def wBlank : State := (wIn .boot).onSys (fun x => { x with fwRunning := false, bootTry := some 1 })

/-- A read of 4 bytes by master 9. -/
def wReq : XReq := ⟨9, 0, 0x10000000, .read 4⟩

/-- A running block whose fabric masks no master. -/
def wFab : State := (wIn .park).onXbar (fun x => { x with resetMask := 0 })

/-- The same with that request visible at target 7. -/
def wVisible : State := wFab.onXbar (fun x => { x with reqs := [⟨wReq, 7, .visible, false, false⟩] })

/-- The same with that request granted. -/
def wGranted : State := wFab.onXbar (fun x => { x with reqs := [⟨wReq, 7, .granted, false, false⟩] })

/-- A running block that serves DRAM. -/
def wDram : State := (((wIn .render).setFld Reg.DDRC_CTRL 0 0 1).onTime (fun x => { x with ddrLock := true })).onDdrc (fun x => { x with selfRefresh := false, sweep := none })

/-- A firmware item that is ready. -/
def wFwItem : Item := ⟨none, 2, 2, none, 256, .ready, 0, 0, 0, false, false, false, [], FCtx.init⟩

/-- RENDER with the ports running and group 7 a slave group. -/
def wPorts : State := ((wIn .render).setFld Reg.PORTS_CTRL 0 0 1).setFld (Reg.GRP_CFG 7) 29 28 2

/-- RENDER with a sweep of one repetition that has ended. -/
def wSweeping : State :=
  ((wIn .render).onTime (fun x => { x with lastQ := 10 })).onMeas (fun x => { x with
    gen := { x.gen with cfg := some ⟨100, 1000, 8, 0, 0, 1, false, 0, 0, 1⟩, start := some 0, sweepDone := false } })

/-- RENDER with port 1 on and its link up. -/
def wNet : State := ((wIn .render).setFld (Reg.MAC_CTRL 1) 0 0 1).setMac 1 { MacSt.init with linkUp := true }

/-- Surroundings in which nothing is late. -/
def wEnv : BoundaryEnv := ⟨[], [], [], [], [], [], [], true, false, false, [], true⟩

/-- A running block in which master 12 holds lock 63. -/
def wLocked : State := wFab.onXbar (fun x => { x with locks := [(63, ⟨true, 12, false⟩)] })

/-- A context with 3 in D1 and 5 in D2. -/
def wOperands : FCtx := { FCtx.init with d := [(1, 3), (2, 5)] }

/-- A task without declared cycles has room for any. -/
theorem wRoom (c : FCtx) (cyc : Nat) (h : (wCore c).facetLimit (wItem c) = none) : (wCore c).Room (wItem c) cyc := by
  intro l hl
  rw [h] at hl
  cases hl


/-- States and operands that meet the hypotheses of SystemAndUpdateCommands, clause by clause. -/
theorem test_SystemAndUpdateCommands_witness :
    (∃ (h : Hdr) (s : State), s.Serves modesAll) ∧
    (∃ (h : Hdr) (s : State), s.Serves modesAny) ∧
    (∃ (h : Hdr) (p : Bytes) (s : State), s.Serves modesAny ∧ p.length = 20 ∧ s.BulkRoom ∧ s.stageRange (u32At p 0) (u32At p 4) (bufAt p 8) = none ∧ ((s.sys.bootSlot ≠ 2 ∨ s.sec.flashFitted = true)) ∧ ((u32At p 0 = 0 ∨ s.stagingNow.map (·.got) = some (u32At p 0)))) ∧
    (∃ (h : Hdr) (p : Bytes) (s : State) (g : Staging), s.Serves modesAny ∧ p.length = 4 ∧ s.sec.staging = some g ∧ g.state = 2) ∧
    (∃ (h : Hdr) (s : State), s.sys.phase = .running ∧ s.sys.hostBootWait = true ∧ s.imageError (mread s.mem tcmBase 256) (mread s.mem (tcmBase + 256)) = 0) :=
  ⟨⟨wHdr, (wIn .boot), by decide +kernel⟩,
   ⟨wHdr, (wIn .park), by decide +kernel⟩,
   ⟨wHdr, (zeros 4 ++ le32 4 ++ le64 0 ++ le32 4), (wIn .park), by decide +kernel⟩,
   ⟨wHdr, (zeros 4), (wIn .park).onSec (fun x => { x with staging := some ⟨0, 1, 4, 4, 4, 2, 0, 0, 0⟩ }), ⟨0, 1, 4, 4, 4, 2, 0, 0, 0⟩, by decide +kernel⟩,
   ⟨wHdr, wImaged, by decide +kernel⟩⟩

/-- States and operands that meet the hypotheses of ModeRateResetDebugCommands, clause by clause. -/
theorem test_ModeRateResetDebugCommands_witness :
    (∃ (h : Hdr) (p : Bytes) (s : State) (m : Mode), s.Serves [.park, .measure, .render] ∧ p.length = 4 ∧ modeOf (u8At p 0) = some m ∧ s.sys.modeReq = none ∧ m = s.sys.mode) ∧
    (∃ (h : Hdr) (p : Bytes) (s : State) (m : Mode), s.Serves [.park] ∧ p.length = 4 ∧ modeOf (u8At p 0) = some m ∧ m ≠ .park ∧ s.sys.modeReq = none ∧ firstBad (s.taken h 0x0003).leaveChecks = none) ∧
    (∃ (h : Hdr) (p : Bytes) (s : State), s.Serves [.measure, .render] ∧ p.length = 4 ∧ u8At p 0 = 2 ∧ s.sys.modeReq = none) ∧
    (∃ (h : Hdr) (p : Bytes) (s : State), s.Serves [.park] ∧ p.length = 4 ∧ u8At p 0 ≤ 1 ∧ ((u8At p 0 = 1 → s.highBus = false ∧ s.highGrant = false)) ∧ ((s.taken h 0x0004).atRate (u8At p 0 == 1)).badCtx = false ∧ ((s.taken h 0x0004).atRate (u8At p 0 == 1)).badGroup = false) ∧
    (∃ (h : Hdr) (p : Bytes) (s : State), s.Serves modesAny ∧ p.length = 4 ∧ u8At p 0 = 1) ∧
    (∃ (h : Hdr) (s : State), s.Serves modesAny ∧ s.debugRefused = none) ∧
    (∃ (h : Hdr) (p : Bytes) (s : State), s.Serves modesAny ∧ p.length = 132 ∧ s.debugRefused = none ∧ u8At p 0 ≤ 3 ∧ s.unlockOk p = true) :=
  ⟨⟨wHdr, (2 :: zeros 3), (wIn .park), .park, by decide +kernel⟩,
   ⟨wHdr, (4 :: zeros 3), (wIn .park), .render, by decide +kernel⟩,
   ⟨wHdr, (2 :: zeros 3), (wIn .render), by decide +kernel⟩,
   ⟨wHdr, (1 :: zeros 3), (wIn .park), by decide +kernel⟩,
   ⟨wHdr, (1 :: zeros 3), (wIn .park), by decide +kernel⟩,
   ⟨wHdr, (wIn .park), by decide +kernel⟩,
   ⟨wHdr, (zeros 4 ++ wUnlockSig ++ wKey), (wKeyed.onSec (fun x => { x with nonce := some (zeros 16) })), by decide +kernel⟩⟩

/-- States and operands that meet the hypotheses of HostRegionAndDramCommands, clause by clause. -/
theorem test_HostRegionAndDramCommands_witness :
    (∃ (h : Hdr) (p : Bytes) (s : State), s.Serves modesAny ∧ p.length = 4 ∧ u16At p 0 ≤ 128 ∧ s.mbx.bulk.any (fun j => j.buf.space == 2) = false ∧ u16At p 0 = s.host.regionUnits) ∧
    (∃ (h : Hdr) (p : Bytes) (s t : State), (s.taken h 0x0020).placeHost (u16At p 0) = some t ∧ s.Serves modesAny ∧ p.length = 4 ∧ u16At p 0 ≤ 128 ∧ s.mbx.bulk.any (fun j => j.buf.space == 2) = false ∧ u16At p 0 ≠ s.host.regionUnits) ∧
    (∃ (h : Hdr) (p : Bytes) (s : State), s.Serves modesAny ∧ p.length = 4) ∧
    (∃ (h : Hdr) (p : Bytes) (s : State), s.Serves [.park] ∧ p.length = 4 ∧ u8At p 0 ≤ 1 ∧ u8At p 0 = s.ddrc.rate ∧ s.ddrc.deferred = none) ∧
    (∃ (h : Hdr) (p : Bytes) (s : State), s.Serves [.park] ∧ p.length = 4 ∧ u8At p 0 ≤ 1 ∧ u8At p 0 ≠ s.ddrc.rate ∧ s.ddrc.deferred = none ∧ s.ddrc.sweep = none) ∧
    (∃ (h : Hdr) (p : Bytes) (s : State), s.Serves [.park] ∧ p.length = 4 ∧ u8At p 0 ≤ 1 ∧ ((u8At p 0 ≠ s.ddrc.rate ∨ s.ddrc.deferred ≠ none)) ∧ s.ddrc.sweep ≠ none) ∧
    (∃ (h : Hdr) (s : State), s.Serves [.park] ∧ s.ddrc.sweep = none ∧ s.ddrc.deferred = none) ∧
    (∃ (h : Hdr) (p : Bytes) (s : State), s.Serves modesCfg ∧ p.length = 4 ∧ u8At p 0 ≤ 127 ∧ s.persistentUnits ≤ s.keepRoom (u8At p 0)) ∧
    (∃ (h : Hdr) (p : Bytes) (s : State), s.Serves modesCfg ∧ p.length = 4 ∧ 1024 ≤ u16At p 0) ∧
    (∃ (h : Hdr) (p : Bytes) (s : State), s.Serves modesAny ∧ p.length = 4) :=
  ⟨⟨wHdr, (zeros 4), (wIn .park), by decide +kernel⟩,
   ⟨wHdr, (1 :: zeros 3), (wIn .park), _, eq_some_get (by decide +kernel), by decide +kernel⟩,
   ⟨wHdr, (zeros 4), (wIn .park), by decide +kernel⟩,
   ⟨wHdr, (zeros 4), (wIn .park), by decide +kernel⟩,
   ⟨wHdr, (1 :: zeros 3), (wIn .park), by decide +kernel⟩,
   ⟨wHdr, (1 :: zeros 3), (wIn .park).onDdrc (fun x => { x with sweep := some ⟨0, [], false⟩ }), by decide +kernel⟩,
   ⟨wHdr, (wIn .park), by decide +kernel⟩,
   ⟨wHdr, (zeros 4), (wIn .park), by decide +kernel⟩,
   ⟨wHdr, (le16 1024 ++ zeros 2), (wIn .park), by decide +kernel⟩,
   ⟨wHdr, (1 :: zeros 3), (wIn .park), by decide +kernel⟩⟩

/-- States and operands that meet the hypotheses of SceneAndObjectCommands, clause by clause. -/
theorem test_SceneAndObjectCommands_witness :
    (∃ (h : Hdr) (p d : Bytes) (s : State), (s.taken h 0x1001).bufRead (bufAt p 0) (bufAt p 0).len = d ∧ s.Serves modesCfg ∧ p.length = 12 ∧ s.BulkRoom ∧ s.bufOk (bufAt p 0) = true ∧ (bufAt p 0).len ≤ 275008 ∧ layoutBad d (bufAt p 0).len s.busCount = none ∧ s.commitHeld = false) ∧
    (∃ (h : Hdr) (s : State) (l : Layout), s.scene.staged = some l ∧ s.Serves modesCfg ∧ s.rendering = true ∧ s.scene.commitWait = false) ∧
    (∃ (h : Hdr) (s : State) (l : Layout), s.scene.staged = some l ∧ s.Serves modesCfg ∧ s.rendering = false ∧ s.scene.commitWait = false) ∧
    (∃ (h : Hdr) (p : Bytes) (s : State), s.Serves modesCfg ∧ p.length = 4 ∧ -200 ≤ s16At p 0 ∧ s16At p 0 ≤ 500) ∧
    (∃ (h : Hdr) (p : Bytes) (s : State), s.Serves modesCfg ∧ p.length = 4 ∧ -200 ≤ s16At p 0 ∧ s16At p 0 ≤ 500) ∧
    (∃ (h : Hdr) (p : Bytes) (s : State), s.Serves modesScn ∧ lenEntries 0 32 7 p = true) ∧
    (∃ (h : Hdr) (p : Bytes) (s : State), s.Serves modesScn ∧ u16At p 2 ≤ 58 ∧ p.length = 8 + 4 * u16At p 2 ∧ u16At p 0 ≤ 1023 ∧ badEntry (entries 4 (p.drop 8)) (directBad s.busCount 8 (entries 4 (p.drop 8))) = none) ∧
    (∃ (h : Hdr) (p : Bytes) (s : State) (es : List Bytes), es = entries 4 ((s.taken h 0x1101).bufRead (bufAt p 8) (bufAt p 8).len) ∧ s.Serves modesScn ∧ 58 < u16At p 2 ∧ u16At p 2 ≤ 256 ∧ p.length = 20 ∧ s.BulkRoom ∧ u16At p 0 ≤ 1023 ∧ s.bufOk (bufAt p 8) = true ∧ (bufAt p 8).len = 4 * u16At p 2 ∧ badEntry es (directBad s.busCount 0 es) = none) ∧
    (∃ (h : Hdr) (p : Bytes) (s : State) (ids : List Nat), ids = (List.range (u16At p 2)).map (· + u16At p 0) ∧ s.Serves modesAny ∧ p.length = 8 ∧ 1 ≤ u16At p 2 ∧ u16At p 2 ≤ 56 ∧ u16At p 0 + u16At p 2 ≤ 1024) :=
  ⟨⟨wHdr, (le64 0 ++ le32 1120), _, (wIn .park).withHostMem (mwrite [] 0 wLayout), rfl, by decide +kernel⟩,
   ⟨wHdr, (wIn .render).onScene (fun x => { x with staged := some (layoutAt wLayout) }), _, eq_some_get (by decide +kernel), by decide +kernel⟩,
   ⟨wHdr, (wIn .park).onScene (fun x => { x with staged := some (layoutAt wLayout) }), _, eq_some_get (by decide +kernel), by decide +kernel⟩,
   ⟨wHdr, (leS16 (-200) ++ zeros 2), (wIn .park), by decide +kernel⟩,
   ⟨wHdr, (leS16 500 ++ zeros 2), (wIn .park), by decide +kernel⟩,
   ⟨wHdr, (zeros 32), (wIn .render), by decide +kernel⟩,
   ⟨wHdr, (le16 1023 ++ zeros 6), (wIn .render), by decide +kernel⟩,
   ⟨wHdr, (le16 1023 ++ le16 59 ++ zeros 4 ++ le64 0 ++ le32 236), (wIn .render).withHostMem (mwrite [] 0 ((List.range 59).flatMap (fun i => le16 i ++ le16 0))), _, rfl, by decide +kernel⟩,
   ⟨wHdr, (le16 968 ++ le16 56 ++ 1 :: zeros 3), (wIn .render), _, rfl, by decide +kernel⟩⟩

/-- States and operands that meet the hypotheses of MapListenerAndModelCommands, clause by clause. -/
theorem test_MapListenerAndModelCommands_witness :
    (∃ (h : Hdr) (p : Bytes) (s : State), s.Serves modesScn ∧ lenEntries 0 6 40 p = true ∧ (∀ e ∈ entries 6 p, u16At e 0 ≤ 1023 ∧ u8At e 2 ≤ 4 ∧ u16At e 4 < sourceLimit (u8At e 2))) ∧
    (∃ (h : Hdr) (p : Bytes) (s : State), s.Serves modesCfg ∧ lenEntries 0 20 12 p = true ∧ badEntry (entries 20 p) (outEntryBad s.busCount (entries 20 p)) = none ∧ outConflict s.outputLast ((entries 20 p).foldl (fun t e => tset [] t (u16At e 0) (entryDests e)) s.outputLast) (entries 20 p) = none) ∧
    (∃ (h : Hdr) (p : Bytes) (s : State), s.Serves modesCfg ∧ lenEntries 0 8 4 p = true ∧ (∀ e ∈ entries 8 p, u8At e 0 ≤ 3) ∧ ((s.hier.role = 2 → ∀ e ∈ entries 8 p, u8At e 0 ≤ 1))) ∧
    (∃ (h : Hdr) (p : Bytes) (s : State), s.Serves modesCfg ∧ p.length = 4 ∧ 1 ≤ u8At p 0 ∧ u8At p 0 ≤ 48 ∧ 1 ≤ u8At p 1 ∧ u8At p 1 ≤ 64 ∧ 1 ≤ u16At p 2) ∧
    (∃ (h : Hdr) (p : Bytes) (s : State), s.Serves modesCfg ∧ p.length = 4 ∧ 1 ≤ u8At p 0 ∧ u8At p 0 ≤ 48 ∧ 1 ≤ u8At p 1 ∧ u8At p 1 ≤ 64 ∧ 1 ≤ u16At p 2) ∧
    (∃ (h : Hdr) (p : Bytes) (s : State), s.Serves modesScn ∧ lenEntries 0 4 60 p = true ∧ (∀ e ∈ entries 4 p, u16At e 0 ≤ 1023 ∧ u8At e 2 ≤ 1)) ∧
    (∃ (h : Hdr) (p : Bytes) (s : State), s.Serves modesScn ∧ lenEntries 0 2 120 p = true ∧ (∀ e ∈ entries 2 p, u16At e 0 ≤ 1023)) :=
  ⟨⟨wHdr, (le16 1023 ++ [1, 0] ++ le16 1023), (wIn .render), by decide +kernel⟩,
   ⟨wHdr, (zeros 2 ++ [1, 0] ++ [1, 0] ++ zeros 14), (wIn .render), by decide +kernel⟩,
   ⟨wHdr, ([3, 1] ++ le16 5000 ++ le32 0xEF010203), (wIn .render), by decide +kernel⟩,
   ⟨wHdr, ([48, 64] ++ le16 1), (wIn .park), by decide +kernel⟩,
   ⟨wHdr, ([1, 1] ++ le16 65535), (wIn .park), by decide +kernel⟩,
   ⟨wHdr, (le16 1023 ++ [1, 0]), (wIn .render), by decide +kernel⟩,
   ⟨wHdr, (le16 1023), (wIn .render), by decide +kernel⟩⟩

/-- States and operands that meet the hypotheses of PathEngineCommands, clause by clause. -/
theorem test_PathEngineCommands_witness :
    (∃ (h : Hdr) (p : Bytes) (s : State), s.Serves [.park] ∧ p.length = 4 ∧ u8At p 0 ≤ 1 ∧ s.sys.orderIL = false ∧ s.prism.halfChange = none) ∧
    (∃ (h : Hdr) (p : Bytes) (s : State), s.Serves [.render, .mirror] ∧ p.length = 4 ∧ u8At p 0 ≤ 1 ∧ s.sys.orderIL = false ∧ s.prism.halfChange = none ∧ (u8At p 0 == 1) = s.prism.half) ∧
    (∃ (h : Hdr) (p : Bytes) (s : State), s.Serves [.render, .mirror] ∧ p.length = 4 ∧ u8At p 0 ≤ 1 ∧ s.sys.orderIL = false ∧ s.prism.halfChange = none ∧ (u8At p 0 == 1) ≠ s.prism.half ∧ ((u8At p 0 = 0 → s.halfTooFull = false))) ∧
    (∃ (h : Hdr) (p : Bytes) (s : State), s.Serves [.park] ∧ lenEntries 0 4 40 p = true ∧ (∀ e ∈ entries 4 p, u16At e 0 ≤ 1023)) ∧
    (∃ (h : Hdr) (p : Bytes) (s t : State), ((s.taken h 0x1401).newJob h 0x1401 1 (zeros 4)).alignAll s.mbx.nextJob (entries 4 p) = some t ∧ s.Serves [.render, .mirror] ∧ lenEntries 0 4 40 p = true ∧ (∀ e ∈ entries 4 p, u16At e 0 ≤ 1023)) ∧
    (∃ (h : Hdr) (p : Bytes) (s : State), s.Serves modesCfg ∧ p.length = 4 ∧ u16At p 0 ≤ 1000) ∧
    (∃ (h : Hdr) (p : Bytes) (s : State), s.Serves modesCfg ∧ p.length = 4 ∧ 1 ≤ u16At p 0) ∧
    (∃ (h : Hdr) (s : State), s.Serves modesAny) ∧
    (∃ (h : Hdr) (p : Bytes) (s : State), s.Serves modesAny ∧ p.length = 20 ∧ u8At p 0 = 0) ∧
    (∃ (h : Hdr) (p : Bytes) (s : State), s.Serves modesAny ∧ p.length = 20 ∧ s.BulkRoom ∧ ((u8At p 0 = 1 ∨ u8At p 0 = 2)) ∧ 1 ≤ u16At p 4 ∧ u16At p 2 + u16At p 4 ≤ (if u8At p 0 = 1 then 1024 else s.busCount) ∧ s.bufOk (bufAt p 8) = true ∧ (if u8At p 0 = 1 then 16 else 8) * u16At p 4 ≤ (bufAt p 8).len) :=
  ⟨⟨wHdr, (1 :: zeros 3), (wIn .park), by decide +kernel⟩,
   ⟨wHdr, (zeros 4), (wIn .render), by decide +kernel⟩,
   ⟨wHdr, (1 :: zeros 3), (wIn .render), by decide +kernel⟩,
   ⟨wHdr, (le16 1023 ++ le16 480), (wIn .park), by decide +kernel⟩,
   ⟨wHdr, (le16 1023 ++ le16 480), (wIn .render), _, eq_some_get (by decide +kernel), by decide +kernel⟩,
   ⟨wHdr, (le16 1000 ++ zeros 2), (wIn .park), by decide +kernel⟩,
   ⟨wHdr, (le16 1 ++ zeros 2), (wIn .park), by decide +kernel⟩,
   ⟨wHdr, (wIn .render), by decide +kernel⟩,
   ⟨wHdr, (zeros 20), (wIn .render), by decide +kernel⟩,
   ⟨wHdr, ([1, 0] ++ le16 1023 ++ le16 1 ++ zeros 2 ++ le64 0 ++ le32 16), (wIn .render), by decide +kernel⟩⟩

/-- States and operands that meet the hypotheses of LensSettingAndReportCommands, clause by clause. -/
theorem test_LensSettingAndReportCommands_witness :
    (∃ (h : Hdr) (p : Bytes) (s : State), s.Serves modesCfg ∧ lenEntries 4 8 29 p = true ∧ 1 ≤ u16At p 0 ∧ u16At p 0 ≤ 1024 ∧ ((∀ e ∈ entries 8 (p.drop 4), u16At e 0 < s.busCount ∧ (s16At e 2 = -32768 ∨ (-12000 ≤ s16At e 2 ∧ s16At e 2 ≤ 2400)) ∧ u8At e 4 ≤ 1))) ∧
    (∃ (h : Hdr) (p : Bytes) (s : State), s.Serves modesCfg ∧ lenEntries 4 12 19 p = true ∧ (∀ e ∈ entries 12 (p.drop 4), u16At e 0 < s.busCount ∧ u8At e 2 ≤ 1 ∧ u8At e 3 ≤ 48 ∧ -6000 ≤ s16At e 4 ∧ s16At e 4 ≤ 0 ∧ 1 ≤ u16At e 6 ∧ u16At e 6 ≤ 10000 ∧ 50 ≤ u32At e 8 ∧ u32At e 8 ≤ 100000)) ∧
    (∃ (h : Hdr) (p : Bytes) (s : State) (d : DetProfile), d = ⟨u16At p 4, u16At p 6, u16At p 8, u16At p 10, u16At p 12⟩ ∧ s.Serves modesCfg ∧ p.length = 16 ∧ u8At p 0 ≤ 7 ∧ u16At p 4 ≤ 10000 ∧ 1 ≤ u16At p 6 ∧ u16At p 6 ≤ 10000 ∧ 1 ≤ u16At p 8 ∧ u16At p 8 ≤ 10000 ∧ 1 ≤ u16At p 10 ∧ u16At p 10 ≤ 1000 ∧ 1 ≤ u16At p 12 ∧ u16At p 12 ≤ 10000) ∧
    (∃ (h : Hdr) (p : Bytes) (s : State), s.Serves modesCfg ∧ lenEntries 0 4 60 p = true ∧ (∀ e ∈ entries 4 p, u16At e 0 < s.busCount ∧ u8At e 2 ≤ 7)) ∧
    (∃ (h : Hdr) (p : Bytes) (s : State), s.Serves modesAny ∧ p.length = 4 ∧ 1 ≤ u16At p 2 ∧ u16At p 2 ≤ 30 ∧ u16At p 0 + u16At p 2 ≤ s.busCount) :=
  ⟨⟨wHdr, (le16 1024 ++ zeros 2 ++ le16 1023 ++ leS16 2400 ++ zeros 4), (wIn .render), by decide +kernel⟩,
   ⟨wHdr, ([1, 0, 0, 0] ++ le16 1023 ++ [1, 48] ++ leS16 (-6000) ++ le16 10000 ++ le32 50), (wIn .render), by decide +kernel⟩,
   ⟨wHdr, (7 :: zeros 3 ++ le16 0 ++ le16 1 ++ le16 10000 ++ le16 1000 ++ le16 1 ++ zeros 2), (wIn .park), _, rfl, by decide +kernel⟩,
   ⟨wHdr, (le16 1023 ++ [7, 0]), (wIn .render), by decide +kernel⟩,
   ⟨wHdr, (le16 994 ++ le16 30), (wIn .render), by decide +kernel⟩⟩

/-- States and operands that meet the hypotheses of LensBankSwapAndGrantCommands, clause by clause. -/
theorem test_LensBankSwapAndGrantCommands_witness :
    (∃ (h : Hdr) (p d : Bytes) (is : List Bytes) (s : State), (s.taken h 0x2001).bufRead (bufAt p 4) (bufAt p 4).len = d ∧ cutImages (u16At p 0) d = some is ∧ s.Serves modesCfg ∧ p.length = 16 ∧ s.BulkRoom ∧ s.bufOk (bufAt p 4) = true ∧ 1 ≤ u16At p 0 ∧ u16At p 0 ≤ 1024 ∧ s.imagesBad is = none ∧ ((s.sys.mode = .park → (s.taken h 0x2001).placeTails.isSome = true))) ∧
    (∃ (h : Hdr) (p : Bytes) (s : State), s.Serves [.park] ∧ p.length = 8 + 4 * u8At p 7 ∧ 1 ≤ u16At p 4 ∧ u16At p 4 ≤ 1024 ∧ 1 ≤ u8At p 7 ∧ u8At p 7 ≤ 58 ∧ badEntry (entries 4 (p.drop 8)) s.swapBad = none ∧ ((bitOf (u8At p 6) 0 = true → s.laterThanNext (u32At p 0 + 2 ^ 32 - 32) = true)) ∧ badEntry (entries 4 (p.drop 8)) s.swapState = none) ∧
    (∃ (h : Hdr) (p : Bytes) (s : State), s.Serves [.measure, .render, .mirror] ∧ p.length = 8 + 4 * u8At p 7 ∧ 1 ≤ u16At p 4 ∧ u16At p 4 ≤ 1024 ∧ 1 ≤ u8At p 7 ∧ u8At p 7 ≤ 58 ∧ badEntry (entries 4 (p.drop 8)) s.swapBad = none ∧ ((bitOf (u8At p 6) 0 = true → s.laterThanNext (u32At p 0 + 2 ^ 32 - 32) = true)) ∧ badEntry (entries 4 (p.drop 8)) s.swapState = none) ∧
    (∃ (h : Hdr) (p : Bytes) (s : State), s.Serves [.park] ∧ lenEntries 0 4 60 p = true ∧ badEntry (entries 4 p) s.tailBad = none ∧ badEntry (entries 4 p) s.tailState = none ∧ ((s.taken h 0x2003).each (entries 4 p) (fun t e => t.setLensBus (u16At e 0) ((t.lensBus (u16At e 0)).setParts (u16At e 2)))).grantSum ≤ s.tailPool) ∧
    (∃ (h : Hdr) (p : Bytes) (s t : State), (((s.taken h 0x2003).newJob h 0x2003 1 (le32 (s.grantBlock % 2 ^ 32))).each (entries 4 p) (fun u e => u.grantEntry s.grantBlock s.mbx.nextJob e)).placeTails = some t ∧ s.Serves [.measure, .render, .mirror] ∧ lenEntries 0 4 60 p = true ∧ badEntry (entries 4 p) s.tailBad = none ∧ badEntry (entries 4 p) s.tailState = none ∧ t.grantSum ≤ s.tailPool) :=
  ⟨⟨wHdr, (le16 1 ++ zeros 2 ++ le64 0 ++ le32 2400), _, _, (wIn .park).withHostMem (mwrite [] 0 wLensImage), rfl, eq_some_get (by decide +kernel), by decide +kernel⟩,
   ⟨wHdr, (zeros 4 ++ le16 1 ++ [0, 1] ++ le16 1023 ++ [1, 0]), (wIn .park), by decide +kernel⟩,
   ⟨wHdr, (zeros 4 ++ le16 1024 ++ [0, 1] ++ le16 1023 ++ [1, 0]), (wIn .render), by decide +kernel⟩,
   ⟨wHdr, (le16 1023 ++ le16 0), (wIn .park), by decide +kernel⟩,
   ⟨wHdr, (le16 1023 ++ le16 0), (wIn .render), _, eq_some_get (by decide +kernel), by decide +kernel⟩⟩

/-- States and operands that meet the hypotheses of PortCommands, clause by clause. -/
theorem test_PortCommands_witness :
    (∃ (h : Hdr) (p : Bytes) (s u : State), u = s.taken h 0x3001 ∧ s.Serves modesCfg ∧ p.length = 8 ∧ (∀ e ∈ u.groupChecks p, e.1 = false) ∧ u.groupFits p = none ∧ ((u.live = true → ∀ q ∈ grpPorts (u8At p 0), u.portEnabled q = false ∧ (u.port q).active = false)) ∧ u.conflict 1 (grpResources (u8At p 0)) = none) ∧
    (∃ (h : Hdr) (p : Bytes) (s u : State), u = s.taken h 0x3002 ∧ s.Serves modesCfg ∧ lenEntries 0 8 30 p = true ∧ (∀ e ∈ entries 8 p, u8At e 0 ≤ 63 ∧ u8At e 1 ≤ 1 ∧ isWidth (u8At e 2) = true ∧ u8At e 3 ≤ 1 ∧ u16At e 4 ≤ 1023) ∧ badEntry (entries 8 p) (u.portFits (portSetAll u.portSettings (entries 8 p)) 8 [2, 4, 6]) = none ∧ (∀ e ∈ entries 8 p, u.portRunning 0 e = none) ∧ ((∀ e ∈ entries 8 p, u.owner (u8At e 0) = 0 ∨ u.owner (u8At e 0) = 1))) ∧
    (∃ (h : Hdr) (p : Bytes) (s u : State), u = s.taken h 0x3004 ∧ s.Serves modesCfg ∧ lenEntries 0 4 60 p = true ∧ (∀ e ∈ entries 4 p, u8At e 0 ≤ 63) ∧ badEntry (entries 4 p) (u.portFits (portMaskAll u.portSettings (entries 4 p)) 4 [2, 2, 2]) = none ∧ ((∀ e ∈ entries 4 p, u.owner (u8At e 0) = 0 ∨ u.owner (u8At e 0) = 1))) ∧
    (∃ (h : Hdr) (p : Bytes) (s u : State), u = s.taken h 0x3003 ∧ s.Serves modesCfg ∧ p.length = 16 ∧ u.conflict 1 (selected (u64At p 0)) = none) ∧
    (∃ (h : Hdr) (p : Bytes) (s u : State), u = s.taken h 0x3005 ∧ s.Serves modesAny ∧ p.length = 4 ∧ 1 ≤ u8At p 1 ∧ u8At p 1 ≤ 16 ∧ u8At p 0 + u8At p 1 ≤ 64) :=
  ⟨⟨wHdr, ([7, 1, 2, 16, 32, 0] ++ le16 512), (wIn .park), _, rfl, by decide +kernel⟩,
   ⟨wHdr, ([63, 1, 16, 1] ++ le16 1022 ++ le16 3), (wIn .park), _, rfl, by decide +kernel⟩,
   ⟨wHdr, ([63, 0] ++ le16 3), (wIn .park), _, rfl, by decide +kernel⟩,
   ⟨wHdr, (le64 1 ++ le64 1), (wIn .park), _, rfl, by decide +kernel⟩,
   ⟨wHdr, [63, 1, 1, 0], (wIn .park), _, rfl, by decide +kernel⟩⟩

/-- States and operands that meet the hypotheses of NetworkCommands, clause by clause. -/
theorem test_NetworkCommands_witness :
    (∃ (h : Hdr) (p : Bytes) (s u : State), u = s.taken h 0x4001 ∧ s.Serves [.park] ∧ p.length = 4 ∧ u8At p 0 ≤ 1 ∧ u8At p 1 ≤ 3) ∧
    (∃ (h : Hdr) (p : Bytes) (s u : State), u = s.taken h 0x4002 ∧ s.Serves modesCfg ∧ p.length = 32 ∧ u8At p 12 ≤ 32 ∧ u8At p 28 ≤ 32) ∧
    (∃ (h : Hdr) (p : Bytes) (s u : State), u = s.taken h 0x4003 ∧ s.Serves modesCfg ∧ p.length = 2 + 4 * u8At p 1 ∧ u8At p 0 ≤ 1 ∧ u8At p 1 ≤ 8 ∧ (∀ e ∈ entries 4 (p.drop 2), u8At e 0 ≤ 1 ∧ 2 ≤ u8At e 1 ∧ u8At e 1 ≤ 3)) ∧
    (∃ (h : Hdr) (p : Bytes) (s u : State), u = s.taken h 0x4004 ∧ s.Serves modesAny ∧ p.length = 4 ∧ u8At p 0 ≤ 1) ∧
    (∃ (h : Hdr) (p d : Bytes) (n : Nat) (s u t : State), u = s.taken h 0x4005 ∧ u.hostFrames (u8At p 0) (bufAt p 4).len 4096 = (t, n, d) ∧ s.Serves modesCfg ∧ p.length = 16 ∧ s.BulkRoom ∧ u8At p 0 ≤ 1 ∧ u.bufOk (bufAt p 4) = true ∧ u.hostTooLong (u8At p 0) (bufAt p 4).len = false) ∧
    (∃ (h : Hdr) (p : Bytes) (fs : List Bytes) (s u : State), u = s.taken h 0x4006 ∧ s.Serves modesCfg ∧ p.length = 16 ∧ s.BulkRoom ∧ u8At p 0 ≤ 1 ∧ u.bufOk (bufAt p 4) = true ∧ (bufAt p 4).len ≠ 0 ∧ hostTxFrames (u.txMax (u8At p 0)) (u.bufRead (bufAt p 4) (bufAt p 4).len) 0 0 65 = .inl fs) ∧
    (∃ (h : Hdr) (p : Bytes) (s u : State), u = s.taken h 0x4007 ∧ s.Serves modesCfg ∧ p.length = 10 ∧ u8At p 0 ≤ 1 ∧ ((u8At p 1 = 22 ∨ u8At p 1 = 45)) ∧ u8At p 2 ≤ 1 ∧ u8At p 3 ≤ 31 ∧ u16At p 4 ≤ 31 ∧ ((u8At p 1 = 22 → u16At p 6 ≤ 31))) :=
  ⟨⟨wHdr, [1, 3, 0, 0], (wIn .park), _, rfl, by decide +kernel⟩,
   ⟨wHdr, (zeros 12 ++ [32] ++ zeros 15 ++ [32] ++ zeros 3), (wIn .park), _, rfl, by decide +kernel⟩,
   ⟨wHdr, ([1, 1] ++ [1, 3] ++ le16 7), (wIn .park), _, rfl, by decide +kernel⟩,
   ⟨wHdr, [1, 1, 0, 0], (wIn .park), _, rfl, by decide +kernel⟩,
   ⟨wHdr, (zeros 4 ++ le64 0 ++ le32 64), _, _, (wIn .park), _, _, rfl, rfl, by decide +kernel⟩,
   ⟨wHdr, (zeros 4 ++ le64 0 ++ le32 68), [zeros 64], (wIn .park).withHostMem (mwrite [] 0 (le16 64)), _, rfl, by decide +kernel⟩,
   ⟨wHdr, ([1, 22, 1, 31] ++ le16 31 ++ le16 31 ++ zeros 2), (wIn .park), _, rfl, by decide +kernel⟩⟩

/-- States and operands that meet the hypotheses of StreamCommands, clause by clause. -/
theorem test_StreamCommands_witness :
    (∃ (h : Hdr) (p : Bytes) (s u : State), u = s.taken h 0x4010 ∧ s.Serves modesCfg ∧ p.length = 48 ∧ (∀ e ∈ u.streamChecks p, e.1 = false) ∧ (u.ctx (u8At p 0)).enabled = false ∧ (u.ctx (u8At p 0)).running = false ∧ u.legClash (u8At p 0) (ctxAt p) = none) ∧
    (∃ (h : Hdr) (p : Bytes) (s u t : State), u = s.taken h 0x4011 ∧ u.placeBuffers (u.turned p true) = some t ∧ s.Serves modesCfg ∧ p.length = 64 ∧ maskBit p 0 255 = false ∧ (∀ c ∈ u.turned p true, (u.ctx c).isSet = true) ∧ (∀ m < 2, u.portLoad (u.wouldSend p) m ≤ 9000000000) ∧ u.arpNeed p = []) ∧
    (∃ (h : Hdr) (p : Bytes) (s u t : State), u = s.taken h 0x4011 ∧ u.enableStreams p = (t, Resp.ok) ∧ s.Serves modesCfg ∧ p.length = 64 ∧ maskBit p 0 255 = false ∧ u.arpNeed p ≠ []) ∧
    (∃ (h : Hdr) (p : Bytes) (s u : State), u = s.taken h 0x4012 ∧ s.Serves modesAny ∧ p.length = 4 ∧ u8At p 0 ≤ 254 ∧ 1 ≤ u8At p 1 ∧ u8At p 1 ≤ 8 ∧ u8At p 0 + u8At p 1 ≤ 255) :=
  ⟨⟨wHdr, ([254, 0, 1, 0, 0, 2] ++ le16 192 ++ zeros 4 ++ zeros 4 ++ [96, 0, 1, 0] ++ zeros 2 ++ zeros 2 ++ zeros 24), (wIn .park), _, rfl, by decide +kernel⟩,
   ⟨wHdr, (zeros 64), (wIn .park), _, _, rfl, eq_some_get (by decide +kernel), by decide +kernel⟩,
   ⟨wHdr, (1 :: zeros 31 ++ 1 :: zeros 31), ((wIn .render).setCtx 0 wTalker), _, _, rfl, pair_snd (by decide +kernel), by decide +kernel⟩,
   ⟨wHdr, [254, 1, 1, 0], (wIn .park), _, rfl, by decide +kernel⟩⟩

/-- States and operands that meet the hypotheses of TimeCommands, clause by clause. -/
theorem test_TimeCommands_witness :
    (∃ (h : Hdr) (p : Bytes) (s u : State), u = s.taken h 0x5001 ∧ s.Serves modesCfg ∧ p.length = 12 ∧ u8At p 0 ≤ 2 ∧ u8At p 1 ≤ 127 ∧ u8At p 2 ≤ 1 ∧ u8At p 3 ≤ 1 ∧ -7 ≤ s8At p 4 ∧ s8At p 4 ≤ 1 ∧ -3 ≤ s8At p 5 ∧ s8At p 5 ≤ 3 ∧ -7 ≤ s8At p 6 ∧ s8At p 6 ≤ 5 ∧ u8At p 9 ≤ 3) ∧
    (∃ (h : Hdr) (p : Bytes) (s u : State), u = s.taken h 0x5002 ∧ s.Serves modesCfg ∧ p.length = 24 ∧ 1000 ≤ u32At p 4 ∧ u32At p 4 ≤ 1000000000 ∧ 10 ≤ u32At p 8 ∧ u32At p 8 ≤ 1000000 ∧ u32At p 12 ≤ 65536000 ∧ 100 ≤ u16At p 20 ∧ u16At p 20 ≤ 60000) ∧
    (∃ (h : Hdr) (p : Bytes) (s u : State), u = s.taken h 0x5003 ∧ s.Serves modesCfg ∧ p.length = 16 ∧ u8At p 0 < 8 ∧ ¬ (bitOf (u8At p 0) 0 = true ∧ bitOf (u8At p 0) 1 = true) ∧ ((bitOf (u8At p 0) 2 = true → u.live = true ∧ u.laterThanNext (u32At p 4) = true)) ∧ ((bitOf (u8At p 0) 1 = true → u.time.refused ≠ none)) ∧ u.time.step = none) ∧
    (∃ (h : Hdr) (p : Bytes) (s u : State), u = s.taken h 0x5003 ∧ s.Serves modesCfg ∧ p.length = 16 ∧ u8At p 0 < 8 ∧ ¬ (bitOf (u8At p 0) 0 = true ∧ bitOf (u8At p 0) 1 = true) ∧ ((bitOf (u8At p 0) 2 = true → u.live = true ∧ u.laterThanNext (u32At p 4) = true)) ∧ ((bitOf (u8At p 0) 1 = true → u.time.refused ≠ none)) ∧ u.time.step = none) ∧
    (∃ (h : Hdr) (p : Bytes) (s u : State), u = s.taken h 0x5004 ∧ s.Serves modesCfg ∧ p.length = 12 ∧ u8At p 0 ≤ 2 ∧ -65536000 ≤ s32At p 4 ∧ s32At p 4 ≤ 65536000) ∧
    (∃ (h : Hdr) (s u : State), u = s.taken h 0x5005 ∧ s.Serves modesAny) ∧
    (∃ (h : Hdr) (p : Bytes) (s u : State), u = s.taken h 0x5006 ∧ s.Serves [.park] ∧ p.length = 16) ∧
    (∃ (h : Hdr) (p : Bytes) (s u : State), u = s.taken h 0x5010 ∧ s.Serves modesCfg ∧ p.length = 4 ∧ u8At p 0 ≤ 3 ∧ 1 ≤ u8At p 1 ∧ 1 ≤ u16At p 2) ∧
    (∃ (h : Hdr) (p : Bytes) (s u : State), u = s.taken h 0x5020 ∧ s.Serves modesCfg ∧ lenEntries 0 2 8 p = true ∧ ((∀ e ∈ entries 2 p, u8At e 0 ≤ 7 ∧ u8At e 1 ≤ 3 ∧ (u8At e 1 ≠ 0 → u.owner (0x200 + u8At e 0) = 0 ∨ u.owner (0x200 + u8At e 0) = 3)))) ∧
    (∃ (h : Hdr) (p : Bytes) (q : List CapRec) (n : Nat) (s u : State), u = s.taken h 0x5021 ∧ q = tget [] u.time.capQ (u8At p 0) ∧ n = min (u8At p 1) q.length ∧ s.Serves modesAny ∧ p.length = 4 ∧ u8At p 0 ≤ 7 ∧ 1 ≤ u8At p 1 ∧ u8At p 1 ≤ 14) :=
  ⟨⟨wHdr, [2, 127, 1, 1] ++ [0xF9, 0xFD, 0xF9] ++ [0, 0, 3, 0, 0], (wIn .park), _, rfl, by decide +kernel⟩,
   ⟨wHdr, (zeros 4 ++ le32 1000 ++ le32 10 ++ zeros 8 ++ le16 100 ++ zeros 2), (wIn .park), _, rfl, by decide +kernel⟩,
   ⟨wHdr, (zeros 16), (wIn .park), _, rfl, by decide +kernel⟩,
   ⟨wHdr, (4 :: zeros 3 ++ le32 100 ++ zeros 8), (wIn .render), _, rfl, by decide +kernel⟩,
   ⟨wHdr, (2 :: zeros 3 ++ leS32 (-65536000) ++ zeros 4), (wIn .park), _, rfl, by decide +kernel⟩,
   ⟨wHdr, (wIn .park), _, rfl, by decide +kernel⟩,
   ⟨wHdr, (zeros 16), (wIn .park), _, rfl, by decide +kernel⟩,
   ⟨wHdr, ([3, 1] ++ le16 1), (wIn .park), _, rfl, by decide +kernel⟩,
   ⟨wHdr, [7, 3], (wIn .park), _, rfl, by decide +kernel⟩,
   ⟨wHdr, [7, 14, 0, 0], _, _, (wIn .park), _, rfl, rfl, rfl, by decide +kernel⟩⟩

/-- States and operands that meet the hypotheses of TimeEvents, clause by clause. -/
theorem test_TimeEvents_witness :
    (∃ (s u : State), u = (s.bump (Reg.TIME_CNT 4)).perfAdd 121 ∧ s.discards = false) ∧
    (∃ (s u v : State) (o d : Int), o = toSigned 32 (s.rd Reg.SERVO_IN_OFFSET) * 65536 + s.fld Reg.SERVO_IN_FRAC 15 0 ∧ d = (s.rd Reg.SERVO_IN_DELAY : Int) * 65536 ∧ u = ((s.bump (Reg.TIME_CNT 0)).perfAdd 118).onTime (fun x => { x with lastOffset := o }) ∧ v = u.onTime (fun x => { x with dfilt := some (delayFilter x.dfilt d) }) ∧ s.fld Reg.TIME_CTRL 4 3 = 0 ∧ u.delayJump d = false ∧ (o.natAbs : Int) ≤ v.stepThr) ∧
    (∃ (s : State), s.time.servo = .locked) ∧
    (∃ (s : State), s.time.servo = .acquiring) ∧
    (∃ (s : State) (c : Nat) (rising : Bool) (q : List CapRec), q = tget [] s.time.capQ c ∧ c < 8 ∧ s.discards = false ∧ bitOf (s.fld (Reg.CAP_CFG c) 1 0) (if rising then 0 else 1) = true ∧ q.length < 32) ∧
    (∃ (s : State) (c : Nat) (rising : Bool), c < 8 ∧ s.discards = false ∧ bitOf (s.fld (Reg.CAP_CFG c) 1 0) (if rising then 0 else 1) = true ∧ 32 ≤ (tget [] s.time.capQ c).length) :=
  ⟨⟨(wIn .render), _, rfl, by decide +kernel⟩,
   ⟨(wIn .render), _, _, _, _, rfl, rfl, rfl, rfl, by decide +kernel⟩,
   ⟨(wIn .render).onTime (fun x => { x with servo := .locked }), by decide +kernel⟩,
   ⟨(wIn .render), by decide +kernel⟩,
   ⟨((wIn .render).setFld (Reg.CAP_CFG 7) 1 0 1), 7, true, _, rfl, by decide +kernel⟩,
   ⟨((wIn .render).setFld (Reg.CAP_CFG 7) 1 0 1).onTime (fun x => { x with capQ := [(7, List.replicate 32 ⟨0, 7, true, false, 0⟩)] }), 7, true, by decide +kernel⟩⟩

/-- States and operands that meet the hypotheses of ClockEvents, clause by clause. -/
theorem test_ClockEvents_witness :
    (∃ (s u : State) (c r : Nat), r = (if withinCounts s.time.expectWord c 1 then min 8 (s.time.lockRunWin + 1) else 0) ∧ u = (s.wr Reg.CLK_LOCK_WIN (min 65535 (expected16 s.time.expectWord).toNat * 65536 + c % 65536)).onTime (fun x => { x with lockRunWin := r, expectWord := x.word }) ∧ s.discards = false ∧ s.time.refclkOk = true) ∧
    (∃ (s : State), s.discards = false) ∧
    (∃ (s u : State), u = (((s.onTime (fun x => { x with refclkOk := false })).bump (Reg.CLK_CNT 1)).raise Reg.CLK_INT_STATUS 1).clockLoss ∧ s.discards = false) ∧
    (∃ (s : State), s.discards = false ∧ s.time.rootLock = true) ∧
    (∃ (s : State), s.discards = false ∧ s.time.rootLock = false) ∧
    (∃ (s : State) (t : Nat), s.time.relock = some t ∧ s.time.refclkOk = true ∧ s.time.rootLock = true) ∧
    (∃ (s : State) (t : Nat), s.time.relock = some t ∧ (s.time.refclkOk && s.time.rootLock) = false) ∧
    (∃ (s : State), s.discards = false) ∧
    (∃ (s : State), s.time.ddrRelock = true) ∧
    (∃ (s : State), s.time.ddrRelock = true) :=
  ⟨⟨wClocked, _, 4096, _, rfl, rfl, by decide +kernel⟩,
   ⟨wClocked, by decide +kernel⟩,
   ⟨wClocked, _, rfl, by decide +kernel⟩,
   ⟨(wClocked.onTime (fun x => { x with rootLock := true })), by decide +kernel⟩,
   ⟨wClocked, by decide +kernel⟩,
   ⟨(wClocked.onTime (fun x => { x with relock := some 0, rootLock := true })), 0, by decide +kernel⟩,
   ⟨(wClocked.onTime (fun x => { x with relock := some 0 })), 0, by decide +kernel⟩,
   ⟨wClocked, by decide +kernel⟩,
   ⟨(wClocked.onTime (fun x => { x with ddrRelock := true })), by decide +kernel⟩,
   ⟨(wClocked.onTime (fun x => { x with ddrRelock := true })), by decide +kernel⟩⟩

/-- States and operands that meet the hypotheses of MicrophoneCommands, clause by clause. -/
theorem test_MicrophoneCommands_witness :
    (∃ (h : Hdr) (p : Bytes) (s u : State), u = s.taken h 0x6001 ∧ s.Serves modesCfg ∧ p.length = 4 ∧ u8At p 2 ≤ 2 ∧ u.micLocked (u16At p 0) (u8At p 2) = false ∧ ((u16At p 0 ≠ 0 → u.conflict 2 micResources = none))) ∧
    (∃ (h : Hdr) (p : Bytes) (s u : State), u = s.taken h 0x6002 ∧ s.Serves modesCfg ∧ p.length = 16 ∧ s.BulkRoom ∧ u.bufOk (bufAt p 4) = true ∧ 1 ≤ u16At p 0 ∧ u16At p 0 ≤ 16 ∧ (bufAt p 4).len = 144 * u16At p 0 ∧ u.compImagesBad (entries 144 (u.bufRead (bufAt p 4) (bufAt p 4).len)) = none) ∧
    (∃ (h : Hdr) (p : Bytes) (s u : State), u = s.taken h 0x6003 ∧ s.Serves [.park] ∧ p.length = 4 + 2 * u8At p 2 ∧ 1 ≤ u16At p 0 ∧ u16At p 0 ≤ 1024 ∧ 1 ≤ u8At p 2 ∧ u8At p 2 ≤ 16 ∧ (∀ e ∈ entries 2 (p.drop 4), u8At e 0 ≤ 15 ∧ u8At e 1 ≤ 1 ∧ ∀ i, u.compSwapState i e = none)) ∧
    (∃ (h : Hdr) (p : Bytes) (s u : State), u = s.taken h 0x6003 ∧ s.Serves modesLive ∧ p.length = 4 + 2 * u8At p 2 ∧ 1 ≤ u16At p 0 ∧ u16At p 0 ≤ 1024 ∧ 1 ≤ u8At p 2 ∧ u8At p 2 ≤ 16 ∧ (∀ e ∈ entries 2 (p.drop 4), u8At e 0 ≤ 15 ∧ u8At e 1 ≤ 1 ∧ ∀ i, u.compSwapState i e = none)) ∧
    (∃ (h : Hdr) (p : Bytes) (s u : State), u = s.taken h 0x6004 ∧ s.Serves modesCfg ∧ lenEntries 0 2 16 p = true ∧ (∀ e ∈ entries 2 p, u8At e 0 ≤ 15 ∧ u8At e 1 ≤ 7)) ∧
    (∃ (h : Hdr) (s u : State), u = s.taken h 0x6005 ∧ s.Serves modesLive) :=
  ⟨⟨wHdr, (le16 0xFFFF ++ [2, 0]), (wIn .park), _, rfl, by decide +kernel⟩,
   ⟨wHdr, (le16 1 ++ zeros 2 ++ le64 0 ++ le32 144), (wIn .park).withHostMem (mwrite [] 0 wCompImage), _, rfl, by decide +kernel⟩,
   ⟨wHdr, (le16 1 ++ [1, 0] ++ [15, 1]), (wIn .park), _, rfl, by decide +kernel, by decide +kernel, by decide +kernel, by decide +kernel, by decide +kernel, by decide +kernel, all_of_one (x := [15, 1]) (by decide +kernel) ⟨by decide +kernel, by decide +kernel, fun i => if_neg (by decide +kernel)⟩⟩,
   ⟨wHdr, (le16 1024 ++ [1, 0] ++ [15, 1]), (wIn .render), _, rfl, by decide +kernel, by decide +kernel, by decide +kernel, by decide +kernel, by decide +kernel, by decide +kernel, all_of_one (x := [15, 1]) (by decide +kernel) ⟨by decide +kernel, by decide +kernel, fun i => if_neg (by decide +kernel)⟩⟩,
   ⟨wHdr, [15, 7], (wIn .park), _, rfl, by decide +kernel⟩,
   ⟨wHdr, (wIn .render), _, rfl, by decide +kernel⟩⟩

/-- States and operands that meet the hypotheses of GeneratorCommands, clause by clause. -/
theorem test_GeneratorCommands_witness :
    (∃ (h : Hdr) (p : Bytes) (s u : State), u = s.taken h 0x6010 ∧ s.Serves [.measure] ∧ p.length = 24 ∧ (∀ e ∈ u.genChecks p, e.1 = false) ∧ s.meas.gen.start = none ∧ (u.owner 0x300 = 0 ∨ u.owner 0x300 = 4)) ∧
    (∃ (h : Hdr) (p : Bytes) (s u : State), u = s.taken h 0x6011 ∧ s.Serves [.measure] ∧ lenEntries 0 4 60 p = true ∧ (∀ e ∈ entries 4 p, u16At e 0 < u.busCount ∧ u8At e 2 ≤ 1) ∧ s.meas.gen.start = none ∧ u.owner 0x300 = 4) ∧
    (∃ (h : Hdr) (p : Bytes) (s u : State) (seed : Nat), u = s.taken h 0x6012 ∧ seed = (s.meas.gen.cfg.map (·.seed)).getD 1 ∧ s.Serves [.measure] ∧ p.length = 8 ∧ u.genEarly p = false ∧ s.meas.gen.start = none ∧ u.owner 0x300 = 4) ∧
    (∃ (h : Hdr) (s u : State), u = s.taken h 0x6013 ∧ s.Serves [.measure] ∧ u.owner 0x300 = 4) ∧
    (∃ (h : Hdr) (s u : State), u = s.taken h 0x6014 ∧ s.Serves [.measure] ∧ u.owner 0x300 = 4) :=
  ⟨⟨wHdr, (le16 20 ++ le16 20000 ++ le32 1024 ++ leS16 (-12000) ++ le16 512 ++ [1, 1] ++ leS16 0 ++ le32 1048576 ++ le32 1), (wIn .measure), _, rfl, by decide +kernel⟩,
   ⟨wHdr, (le16 1023 ++ [1, 0]), ((wIn .measure).claim 0x300 4), _, rfl, by decide +kernel⟩,
   ⟨wHdr, (zeros 8), ((wIn .measure).claim 0x300 4), _, _, rfl, rfl, by decide +kernel⟩,
   ⟨wHdr, ((wIn .measure).claim 0x300 4), _, rfl, by decide +kernel⟩,
   ⟨wHdr, ((wIn .measure).claim 0x300 4), _, rfl, by decide +kernel⟩⟩

/-- States and operands that meet the hypotheses of CaptureCommands, clause by clause. -/
theorem test_CaptureCommands_witness :
    (∃ (h : Hdr) (p : Bytes) (s u t : State) (k : Nat), u = s.taken h 0x6020 ∧ (u.unplace 4 0).place 4 0 ((u16At p 2 + 1) / 2) = some (k, t) ∧ s.Serves [.measure] ∧ p.length = 32 ∧ (∀ e ∈ u.captureChecks p, e.1 = false)) ∧
    (∃ (h : Hdr) (p : Bytes) (s u : State) (c : Nat), u = s.taken h 0x6021 ∧ c = (if bitOf (u8At p 0) 0 then s.quantumAt (u32At p 4) else s.nextBoundary) ∧ s.Serves [.measure] ∧ p.length = 8 ∧ u.captureEarly p = false ∧ u.captureOn = none ∧ u.owner 0x301 = 4) ∧
    (∃ (h : Hdr) (s u : State), u = s.taken h 0x6022 ∧ s.Serves [.measure] ∧ u.owner 0x301 = 4) ∧
    (∃ (h : Hdr) (p : Bytes) (s u : State) (c : Capture), u = s.taken h 0x6023 ∧ s.meas.capture = some c ∧ s.Serves [.measure] ∧ p.length = 16 ∧ s.BulkRoom ∧ u.bufOk (bufAt p 4) = true ∧ u32At p 0 + (bufAt p 4).len ≤ c.readable ∧ u.owner 0x301 = 4) ∧
    (∃ (h : Hdr) (s u : State), u = s.taken h 0x6024 ∧ s.Serves [.measure] ∧ u.owner 0x301 = 4) :=
  ⟨⟨wHdr, ([0, 1] ++ le16 1 ++ le32 1 ++ zeros 6 ++ zeros 18), (((wIn .measure).setFld Reg.DECIM_MIC_EN 15 0 1).setFld Reg.DECIM_CTRL 0 0 1), _, _, _, rfl, eq_some_get (by decide +kernel), by decide +kernel⟩,
   ⟨wHdr, (zeros 8), ((wIn .measure).claim 0x301 4), _, _, rfl, rfl, by decide +kernel⟩,
   ⟨wHdr, ((wIn .measure).claim 0x301 4), _, rfl, by decide +kernel⟩,
   ⟨wHdr, (zeros 4 ++ le64 0 ++ le32 0), wCapturing, _, _, rfl, eq_some_get (by decide +kernel), by decide +kernel⟩,
   ⟨wHdr, ((wIn .measure).claim 0x301 4), _, rfl, by decide +kernel⟩⟩

/-- States and operands that meet the hypotheses of FacetTaskCommands, clause by clause. -/
theorem test_FacetTaskCommands_witness :
    (∃ (h : Hdr) (p : Bytes) (s u : State) (d : Bytes), u = s.taken h 0x7001 ∧ d = u.bufRead (bufAt p 4) (bufAt p 4).len ∧ s.Serves modesCfg ∧ p.length = 16 ∧ s.BulkRoom ∧ u16At p 0 ≤ 1023 ∧ (s.task (u16At p 0)).busy = false ∧ u.bufOk (bufAt p 4) = true ∧ (∀ e ∈ imageChecks d (bufAt p 4).len (s.task (u16At p 0)).chans, e.1 = false)) ∧
    (∃ (h : Hdr) (p : Bytes) (s u : State) (t : Nat) (k : FTask), u = s.taken h 0x7002 ∧ t = u16At p 0 ∧ k = s.task t ∧ s.Serves modesCfg ∧ p.length = 8 ∧ t ≤ 1023 ∧ u8At p 2 ≤ 3 ∧ (if u8At p 2 ≤ 1 then u8At p 3 ≤ 1 else 2 ≤ u8At p 3 ∧ u8At p 3 ≤ 7) ∧ s.badMask (u8At p 4) = false ∧ u8At p 6 ≤ 64 ∧ ((u8At p 2 ≤ 1 → u8At p 6 ≠ 0 ∧ (k.image = none ∨ 8 * u8At p 6 ≤ k.xWords))) ∧ k.busy = false) ∧
    (∃ (h : Hdr) (p : Bytes) (s u : State) (t : Nat) (k : FTask), u = s.taken h 0x7003 ∧ s.Serves modesCfg ∧ p.length = 4 + 4 * u8At p 3 ∧ t = u16At p 0 ∧ k = s.task t ∧ t ≤ 1023 ∧ 1 ≤ u8At p 3 ∧ u8At p 3 ≤ 56 ∧ u8At p 2 + u8At p 3 ≤ 64 ∧ k.busy = false ∧ k.insert = true ∧ (∀ i, ∀ e ∈ entries 4 (p.drop 4), u.chanBad k.attach i e = none)) ∧
    (∃ (h : Hdr) (p : Bytes) (s u : State) (t : Nat) (k : FTask), u = s.taken h 0x7004 ∧ t = u16At p 0 ∧ k = s.task t ∧ s.Serves modesCfg ∧ p.length = 4 ∧ t ≤ 1023 ∧ u8At p 2 = 1 ∧ k.image.isSome = true ∧ k.busy = false ∧ k.change ≠ some false ∧ (u.enableTask t).2 = Resp.ok) ∧
    (∃ (h : Hdr) (p : Bytes) (s u v : State) (t : Nat) (k : FTask), u = s.taken h 0x7004 ∧ t = u16At p 0 ∧ k = s.task t ∧ u.enableAgain t = (v, Resp.ok) ∧ s.Serves modesCfg ∧ p.length = 4 ∧ t ≤ 1023 ∧ u8At p 2 = 1 ∧ k.image.isSome = true ∧ k.enabled = true ∧ k.change = some false) ∧
    (∃ (h : Hdr) (p : Bytes) (s u : State) (t : Nat) (k : FTask), u = s.taken h 0x7004 ∧ t = u16At p 0 ∧ k = s.task t ∧ s.Serves modesCfg ∧ p.length = 4 ∧ t ≤ 1023 ∧ u8At p 2 = 0 ∧ k.busy = true) ∧
    (∃ (h : Hdr) (p : Bytes) (s u : State), u = s.taken h 0x7005 ∧ s.Serves [.park] ∧ p.length = 4 ∧ u8At p 0 ≤ 1 ∧ u8At p 1 ≤ 1) ∧
    (∃ (h : Hdr) (p : Bytes) (s u : State), u = s.taken h 0x7006 ∧ s.Serves modesAny ∧ p.length = 4 ∧ 1 ≤ u8At p 1 ∧ u8At p 0 + u8At p 1 ≤ (if s.sys.orderIL then 4 else 8)) ∧
    (∃ (h : Hdr) (p : Bytes) (s u : State) (t : Nat), u = s.taken h 0x7007 ∧ t = u16At p 0 ∧ s.Serves modesCfg ∧ p.length = 4 ∧ t ≤ 1023 ∧ (s.task t).busy = false) :=
  ⟨⟨wHdr, (le16 1023 ++ zeros 2 ++ le64 0 ++ le32 36), (wIn .park).withHostMem (mwrite [] 0 wTaskImage), _, _, rfl, rfl, by decide +kernel⟩,
   ⟨wHdr, (le16 1023 ++ [2, 2] ++ [1, 0xFF] ++ [0, 0]), (wIn .park), _, _, _, rfl, rfl, rfl, by decide +kernel⟩,
   ⟨wHdr, (le16 5 ++ [0, 1] ++ [0, 1] ++ le16 1023), (wIn .park), _, _, _, rfl, by decide +kernel, by decide +kernel, rfl, rfl, by decide +kernel, by decide +kernel, by decide +kernel, by decide +kernel, by decide +kernel, by decide +kernel, fun i => all_of_one (x := [0, 1, 255, 3]) (by decide +kernel) (by unfold State.chanBad; rw [if_neg (by decide +kernel), if_neg (by decide +kernel)])⟩,
   ⟨wHdr, (le16 5 ++ [1, 0]), ((wIn .park).setTask 5 wTask), _, _, _, rfl, rfl, rfl, by decide +kernel⟩,
   ⟨wHdr, (le16 5 ++ [1, 0]), ((wIn .park).setTask 5 { wTask with enabled := true, change := some false }), _, _, _, _, rfl, rfl, rfl, pair_snd (by decide +kernel), by decide +kernel⟩,
   ⟨wHdr, (le16 5 ++ [0, 0]), ((wIn .park).setTask 5 { wTask with enabled := true }), _, _, _, rfl, rfl, rfl, by decide +kernel⟩,
   ⟨wHdr, [1, 1, 0, 0], (wIn .park), _, rfl, by decide +kernel⟩,
   ⟨wHdr, [7, 1, 0, 0], (wIn .park), _, rfl, by decide +kernel⟩,
   ⟨wHdr, (le16 1023 ++ zeros 2), (wIn .park), _, _, rfl, rfl, by decide +kernel⟩⟩

/-- States and operands that meet the hypotheses of SchedulerCommands, clause by clause. -/
theorem test_SchedulerCommands_witness :
    (∃ (h : Hdr) (p : Bytes) (s u t : State), u = s.taken h 0x7010 ∧ u.placeSpill = some t ∧ s.Serves [.park] ∧ p.length = 16 ∧ u16At p 0 + u16At p 2 + s.rtSlots ≤ 1024 ∧ 1024 ≤ u32At p 4 ∧ u32At p 4 ≤ 65536 ∧ u32At p 4 % 1024 = 0 ∧ (∀ n < 4, 1 ≤ u16At p (8 + 2 * n) ∧ u16At p (8 + 2 * n) ≤ 1000)) ∧
    (∃ (h : Hdr) (p : Bytes) (s u : State) (k : FTask) (n : Nat), u = s.taken h 0x7011 ∧ k = s.task (u16At p 0) ∧ u.hostSlot = some n ∧ s.Serves modesLive ∧ p.length = 4 ∧ u16At p 0 ≤ 1023 ∧ k.enabled = true ∧ k.attach = 3) ∧
    (∃ (h : Hdr) (p : Bytes) (s u : State) (t n : Nat), u = s.taken h 0x7012 ∧ t = u16At p 0 ∧ (u.cancelTimer t).hostSlot = some n ∧ s.Serves modesLive ∧ p.length = 12 ∧ t ≤ 1023 ∧ u8At p 2 ≤ 3 ∧ bitOf (u8At p 3) 1 = false ∧ 1 ≤ u32At p 4 ∧ u32At p 4 ≤ 16777215 ∧ ((bitOf (u8At p 3) 0 = true → 1 ≤ u32At p 8 ∧ u32At p 8 ≤ 16777215)) ∧ (s.task t).enabled = true ∧ (s.task t).attach = 2) ∧
    (∃ (h : Hdr) (p : Bytes) (s u : State) (t : Nat), u = s.taken h 0x7012 ∧ t = u16At p 0 ∧ s.Serves modesLive ∧ p.length = 12 ∧ t ≤ 1023 ∧ u8At p 2 ≤ 3 ∧ bitOf (u8At p 3) 1 = true ∧ (s.task t).enabled = true ∧ (s.task t).attach = 2) ∧
    (∃ (h : Hdr) (p : Bytes) (s u : State), u = s.taken h 0x7013 ∧ s.Serves modesAny ∧ p.length = 4) ∧
    (∃ (h : Hdr) (p : Bytes) (s u v : State) (on : Bool), u = s.taken h 0x7020 ∧ v = u.onMeas (fun x => { x with testNew := (entries 6 p).foldl (fun t e => tput t (u8At e 0) (testSet e)) x.testNew }) ∧ on = (List.range 16).any (fun c => (v.testOf c).kind != 0) ∧ s.Serves modesCfg ∧ lenEntries 0 6 16 p = true ∧ ((∀ e ∈ entries 6 p, u8At e 0 ≤ 15 ∧ u8At e 1 ≤ 3 ∧ (u8At e 1 = 1 → 20 ≤ u16At e 2 ∧ u16At e 2 ≤ 20000) ∧ (u8At e 1 ≠ 0 → -12000 ≤ s16At e 4 ∧ s16At e 4 ≤ 0))) ∧ ((on = true → u.owner 0x302 = 0 ∨ u.owner 0x302 = 5))) :=
  ⟨⟨wHdr, (zeros 4 ++ le32 1024 ++ le16 1 ++ le16 1 ++ le16 1 ++ le16 1000), (wIn .park), _, _, rfl, eq_some_get (by decide +kernel), by decide +kernel⟩,
   ⟨wHdr, (le16 5 ++ zeros 2), wServing, _, _, _, rfl, rfl, eq_some_get (by decide +kernel), by decide +kernel⟩,
   ⟨wHdr, (le16 5 ++ [3, 1] ++ le32 1 ++ le32 16777215), ((wIn .render).setTask 5 { wTask with attach := 2, enabled := true }), _, _, _, rfl, rfl, eq_some_get (by decide +kernel), by decide +kernel⟩,
   ⟨wHdr, (le16 5 ++ [0, 2] ++ zeros 8), ((wIn .render).setTask 5 { wTask with attach := 2, enabled := true }), _, _, rfl, rfl, by decide +kernel⟩,
   ⟨wHdr, (zeros 4), (wIn .park), _, rfl, by decide +kernel⟩,
   ⟨wHdr, ([15, 1] ++ le16 20 ++ leS16 (-12000)), (wIn .park), _, _, _, rfl, rfl, rfl, by decide +kernel⟩⟩

/-- States and operands that meet the hypotheses of MirrorAndHierarchyCommands, clause by clause. -/
theorem test_MirrorAndHierarchyCommands_witness :
    (∃ (h : Hdr) (p : Bytes) (s u : State), u = s.taken h 0x8001 ∧ s.Serves [.park] ∧ p.length = 4 ∧ u8At p 0 ≤ 1 ∧ 2 ≤ u8At p 1 ∧ u8At p 1 ≤ 16) ∧
    (∃ (h : Hdr) (p : Bytes) (s u : State), u = s.taken h 0x8002 ∧ s.Serves [.render, .mirror] ∧ p.length = 8 ∧ s.laterThanNext (u32At p 0) = true ∧ u.handoverRefused = false) ∧
    (∃ (h : Hdr) (s u : State), u = s.taken h 0x8003 ∧ s.Serves [.mirror]) ∧
    (∃ (h : Hdr) (s u : State), u = s.taken h 0x8004 ∧ s.Serves modesAny) ∧
    (∃ (h : Hdr) (p : Bytes) (s u : State), u = s.taken h 0x8010 ∧ s.Serves [.park] ∧ p.length = 16 ∧ u8At p 0 ≤ 2 ∧ ((u8At p 0 = 2 → 1 ≤ u8At p 1 ∧ u8At p 1 ≤ 63)) ∧ ((u8At p 0 = 1 → u8At p 1 = 0 ∧ 1 ≤ u8At p 2 ∧ u8At p 2 ≤ 16))) ∧
    (∃ (h : Hdr) (s u : State), u = s.taken h 0x8011 ∧ s.Serves modesAny) :=
  ⟨⟨wHdr, [1, 16, 0, 0], (wIn .park), _, rfl, by decide +kernel⟩,
   ⟨wHdr, (le32 100 ++ zeros 4), wActive, _, rfl, by decide +kernel⟩,
   ⟨wHdr, (wIn .mirror), _, rfl, by decide +kernel⟩,
   ⟨wHdr, (wIn .park), _, rfl, by decide +kernel⟩,
   ⟨wHdr, ([2, 63] ++ zeros 14), (wIn .park), _, rfl, by decide +kernel⟩,
   ⟨wHdr, (wIn .park), _, rfl, by decide +kernel⟩⟩

/-- States and operands that meet the hypotheses of DiagnosticsCommands, clause by clause. -/
theorem test_DiagnosticsCommands_witness :
    (∃ (h : Hdr) (p : Bytes) (s u : State), u = s.taken h 0x9001 ∧ s.Serves modesAny ∧ p.length = 8 ∧ u8At p 0 ≤ 21 ∧ u16At p 2 % 4 = 0 ∧ 1 ≤ u16At p 4 ∧ u16At p 4 ≤ 58 ∧ u16At p 2 + 4 * u16At p 4 ≤ 0x10000) ∧
    (∃ (h : Hdr) (p : Bytes) (s u : State), u = s.taken h 0x9010 ∧ s.Serves modesCfg ∧ lenEntries 0 4 60 p = true ∧ ((∀ e ∈ entries 4 p, u8At e 0 ≤ 127 ∧ (u8At e 0 % 2 = 0 → bitOf (u8At e 1) 1 = false)))) ∧
    (∃ (h : Hdr) (p : Bytes) (s u : State), u = s.taken h 0x9011 ∧ s.Serves modesAny ∧ p.length = 4 ∧ u8At p 0 ≤ 127 ∧ 1 ≤ u8At p 1 ∧ u8At p 1 ≤ 30 ∧ u8At p 0 + u8At p 1 ≤ 128) ∧
    (∃ (h : Hdr) (p : Bytes) (s u v : State), u = s.taken h 0x9020 ∧ s.Serves modesCfg ∧ p.length = 8 ∧ u32At p 0 ≤ 63 ∧ 1 ≤ u16At p 4 ∧ u16At p 4 ≤ 64 ∧ u8At p 6 ≤ 1 ∧ u8At p 7 ≤ 1 ∧ (if s.live = true then (((u.freeTrace.traceEmpty).setFld Reg.TRACE_SIZE 6 0 (u16At p 4)).traceSet p).placeTrace = some v else v = ((u.freeTrace.traceEmpty).setFld Reg.TRACE_SIZE 6 0 (u16At p 4)).traceSet p)) ∧
    (∃ (h : Hdr) (p : Bytes) (s u v : State), u = s.taken h 0x9020 ∧ s.Serves modesCfg ∧ p.length = 8 ∧ u32At p 0 ≤ 63 ∧ 1 ≤ u16At p 4 ∧ u16At p 4 ≤ 64 ∧ u8At p 6 ≤ 1 ∧ u8At p 7 ≤ 1 ∧ (if s.live = true then (((u.freeTrace.traceEmpty).setFld Reg.TRACE_SIZE 6 0 (u16At p 4)).traceSet p).placeTrace = some v else v = ((u.freeTrace.traceEmpty).setFld Reg.TRACE_SIZE 6 0 (u16At p 4)).traceSet p)) ∧
    (∃ (h : Hdr) (p : Bytes) (s u : State), u = s.taken h 0x9021 ∧ s.Serves modesAny ∧ p.length = 12 ∧ s.BulkRoom ∧ u.bufOk (bufAt p 0) = true ∧ 16 ≤ (bufAt p 0).len) ∧
    (∃ (h : Hdr) (s u : State), u = s.taken h 0x9030 ∧ s.Serves modesAny) ∧
    (∃ (h : Hdr) (p : Bytes) (s u : State), u = s.taken h 0x9031 ∧ s.Serves modesAny ∧ p.length = 16 ∧ s.BulkRoom ∧ u32At p 0 + (bufAt p 4).len ≤ 1048576 ∧ u.bufOk (bufAt p 4) = true ∧ (bufAt p 4).len ≠ 0 ∧ u.dumpOk = true) ∧
    (∃ (h : Hdr) (s u : State), u = s.taken h 0x9032 ∧ s.Serves modesAny) ∧
    (∃ (h : Hdr) (p : Bytes) (s u : State), u = s.taken h 0x9040 ∧ s.Serves modesAny ∧ lenEntries 0 4 58 p = true ∧ (∀ e ∈ entries 4 p, eventCodes.contains (u16At e 0) = true ∧ u8At e 2 ≤ 1)) :=
  ⟨⟨wHdr, ([21, 0] ++ le16 0xFFFC ++ le16 1 ++ zeros 2), (wIn .park), _, rfl, by decide +kernel⟩,
   ⟨wHdr, [127, 2, 0, 0], (wIn .park), _, rfl, by decide +kernel⟩,
   ⟨wHdr, [98, 30, 0, 0], (wIn .park), _, rfl, by decide +kernel⟩,
   ⟨wHdr, (le32 63 ++ le16 1 ++ [1, 1]), (wIn .park), _, (((wIn .park).taken wHdr 0x9020).freeTrace.traceEmpty.setFld Reg.TRACE_SIZE 6 0 1).traceSet (le32 63 ++ le16 1 ++ [1, 1]), rfl, by decide +kernel, by decide +kernel, by decide +kernel, by decide +kernel, by decide +kernel, by decide +kernel, by decide +kernel, by decide +kernel⟩,
   ⟨wHdr, (le32 63 ++ le16 64 ++ [1, 1]), (wIn .render), _, ((((wIn .render).taken wHdr 0x9020).freeTrace.traceEmpty.setFld Reg.TRACE_SIZE 6 0 64 |>.traceSet (le32 63 ++ le16 64 ++ [1, 1])).placeTrace.getD State.reset), rfl, by decide +kernel, by decide +kernel, by decide +kernel, by decide +kernel, by decide +kernel, by decide +kernel, by decide +kernel, by decide +kernel⟩,
   ⟨wHdr, (le64 0 ++ le32 16), (wIn .park), _, rfl, by decide +kernel⟩,
   ⟨wHdr, (wIn .park), _, rfl, by decide +kernel⟩,
   ⟨wHdr, (le32 1048575 ++ le64 0 ++ le32 1), wDumped, _, rfl, by decide +kernel⟩,
   ⟨wHdr, (wIn .park), _, rfl, by decide +kernel⟩,
   ⟨wHdr, (le16 0x1001 ++ [1, 0]), (wIn .park), _, rfl, by decide +kernel⟩⟩

/-- States and operands that meet the hypotheses of MailboxUnitAccesses, clause by clause. -/
theorem test_MailboxUnitAccesses_witness :
    (∃ (bits : Byte) (s : State), s.sys.phase = .running) ∧
    (∃ (bits : Byte) (s : State), s.sys.phase = .running) ∧
    (∃ (off : Nat) (d : Bytes) (s : State), s.sys.phase = .running) ∧
    (∃ (v : Word) (s : State), s.sys.phase = .running) ∧
    (∃ (v : Word) (s : State), s.sys.phase = .running) ∧
    (∃ (glitch : Bool) (s t : State) (n : Nat) (q : List Nat) (b p : Bytes), b = s.slotRaw8 n ∧ p = slice b 16 (u16At b 4) ∧ t = (s.popQueue n).taken (hdrOf n b) (u16At b 0) ∧ s.sys.phase = .running ∧ s.sys.fwRunning = true ∧ s.mbx.queue = n :: q ∧ s.heldJob n = none ∧ u16At b 4 ≤ 240 ∧ crcOk b = true ∧ s.mustWait (u16At b 0) p = false) ∧
    (∃ (glitch : Bool) (s : State) (n : Nat) (q : List Nat) (j : Job) (c : CmdDef), s.heldJob n = some j ∧ commandOf j.op = some c ∧ s.sys.phase = .running ∧ s.sys.fwRunning = true ∧ s.mbx.queue = n :: q ∧ s.mustWait j.op j.payload = false) ∧
    (∃ (n : Nat) (s : State) (j : Job) (c : CmdDef), s.mbx.bulk.find? (fun k => k.hdr.slot == n) = some j ∧ commandOf j.op = some c) :=
  ⟨⟨0x80, (wIn .park), by decide +kernel⟩,
   ⟨0x80, (wIn .park), by decide +kernel⟩,
   ⟨2047, [1], (wIn .park), by decide +kernel⟩,
   ⟨0, (wIn .park), by decide +kernel⟩,
   ⟨0xFFFFFFFF, (wIn .park), by decide +kernel⟩,
   ⟨true, wPosted, _, 7, [], _, _, rfl, rfl, rfl, by decide +kernel⟩,
   ⟨true, (wPosted.onMbx (fun x => { x with held := [wJob] })), 7, [], _, _, eq_some_get (by decide +kernel), eq_some_get (by decide +kernel), by decide +kernel⟩,
   ⟨7, (wIn .park).onMbx (fun x => { x with bulk := [wJob] }), _, _, eq_some_get (by decide +kernel), eq_some_get (by decide +kernel)⟩⟩

/-- States and operands that meet the hypotheses of HostInterfaceAccesses, clause by clause. -/
theorem test_HostInterfaceAccesses_witness :
    (∃ (ins : Byte) (off n : Nat) (d : Bytes) (s : State), s.sys.phase = .running ∧ s.sys.straps.hostIf = true ∧ (ins = 0x0B ∨ ins = 0xEB)) ∧
    (∃ (ins : Byte) (off n : Nat) (d : Bytes) (s : State), s.sys.phase = .running ∧ s.sys.straps.hostIf = true ∧ (ins = 0x02 ∨ ins = 0x32)) ∧
    (∃ (off : Nat) (acc : Access) (s : State), s.sys.phase = .running ∧ s.masked 9 = false ∧ s.sys.hostBootWait = true ∧ off + accLen acc ≤ 1572864) ∧
    (∃ (off : Nat) (acc : Access) (s : State), s.sys.phase = .running ∧ s.masked 9 = false ∧ s.sys.hostBootWait = false ∧ s.host.regionUnits ≠ 0 ∧ off + accLen acc ≤ s.host.regionUnits * 0x200000 ∧ bitOf s.sys.pwr 7 = true) ∧
    (∃ (w : Nat) (acc : Access) (s : State), s.sys.phase = .running ∧ s.sys.straps.hostIf = false ∧ s.host.linkUp = true ∧ w < 0x80000 ∧ s.sec.unlocked = false) ∧
    (∃ (w : Nat) (acc : Access) (s : State), s.sys.phase = .running ∧ s.sys.straps.hostIf = false ∧ s.host.linkUp = true ∧ w < 0x80000 ∧ s.sec.unlocked = true ∧ accLen acc = 4 ∧ w % 4 = 0) ∧
    (∃ (v : Word) (s : State), s.sys.phase = .running) ∧
    (∃ (s : State), s.sys.phase = .running ∧ s.sys.straps.hostIf = false ∧ s.host.linkUp = true) ∧
    (∃ (s t : State), t = s.fresh.linkLost ∧ s.sys.phase = .running ∧ s.host.linkUp = true) ∧
    (∃ (level : Bool) (s t : State), t = s.onHost (fun x => { x with perstN := level }) ∧ s.sys.straps.hostIf = false) ∧
    (∃ (v w : Nat) (s t : State), t = s.onHost (fun x => { x with linkUp := true, speed := v, width := w }) ∧ s.sys.phase = .running ∧ s.sys.straps.hostIf = false ∧ s.host.perstN = true ∧ 1 ≤ v ∧ v ≤ 3 ∧ (w = 1 ∨ w = 2 ∨ w = 4)) :=
  ⟨⟨0xEB, 0xFFFF, 1, [], wSpi, by decide +kernel⟩,
   ⟨0x32, 0, 0, [1], wSpi, by decide +kernel⟩,
   ⟨1572863, (.read 1), (wLinked.onSys (fun x => { x with hostBootWait := true })), by decide +kernel⟩,
   ⟨0x1FFFFF, (.write [1]), wLinked, by decide +kernel⟩,
   ⟨0x7FFFF, (.read 1), wLinked, by decide +kernel⟩,
   ⟨0x7FFFC, (.read 4), wDebug, by decide +kernel⟩,
   ⟨0xFFFFFFFF, (wIn .park), by decide +kernel⟩,
   ⟨wLinked, by decide +kernel⟩,
   ⟨wLinked, _, rfl, by decide +kernel⟩,
   ⟨false, wLinked, _, rfl, by decide +kernel⟩,
   ⟨3, 4, (wIn .park), _, rfl, by decide +kernel⟩⟩

/-- States and operands that meet the hypotheses of RegisterAccessRows, clause by clause. -/
theorem test_RegisterAccessRows_witness :
    (∃ (a t : Nat) (v : Word) (s : State), s.sys.phase = .running ∧ a < 2 ^ 40 ∧ a % 4 = 0 ∧ s.targetOf 0 a = some t ∧ (t = 6 ∨ t = 7) ∧ s.targetOn t a = true) ∧
    (∃ (o : Nat) (v : Word) (s : State), s.sys.phase = .running ∧ o % 4 = 0) ∧
    (∃ (m n : Nat) (s : State), n < 128) ∧
    (∃ (m n : Nat) (s : State), n < 128) ∧
    (∃ (s : State), s.targetOn 7 Reg.LENS_CTRL = true) ∧
    (∃ (n : Nat) (s : State), n < 8 ∧ s.coreExists n = true) ∧
    (∃ (n slot : Nat) (f : Far) (s : State) (i : Item) (t : FTask), s.item? slot = some i ∧ t = s.task (i.task.getD 0) ∧ s.resident n = some slot ∧ s.coreAlive n = true ∧ s.coreHalted n = true) ∧
    (∃ (s : State), s.sys.wdtRunning = true) :=
  ⟨⟨Reg.LENS_CTRL, 7, 1, wDebug, by decide +kernel⟩,
   ⟨0x80000, 0, (wIn .park), by decide +kernel⟩,
   ⟨15, 127, (wIn .park), by decide +kernel⟩,
   ⟨15, 127, (wIn .park), by decide +kernel⟩,
   ⟨wDebug, by decide +kernel⟩,
   ⟨7, (wIn .park), by decide +kernel⟩,
   ⟨0, 1, ⟨0, false⟩, ((wCore FCtx.init).setFld (Reg.FCORE_CTRL 0) 1 1 1).onSec (fun x => { x with unlocked := true }), _, _, eq_some_get (by decide +kernel), rfl, by decide +kernel⟩,
   ⟨(wIn .park).onSys (fun x => { x with wdtRunning := true }), by decide +kernel⟩⟩

/-- States and operands that meet the hypotheses of RingAccesses, clause by clause. -/
theorem test_RingAccesses_witness :
    (∃ (m r n : Nat) (s : State), m < 2 ∧ r < 4 ∧ bitOf s.sys.pwr 8 = true ∧ 1 ≤ n ∧ n < 8192) ∧
    (∃ (m r : Nat) (s t : State), t = s.setFld (Reg.RX_RING_CFG m r) 31 31 1 ∧ m < 2 ∧ r < 4 ∧ bitOf s.sys.pwr 8 = true) ∧
    (∃ (m r v : Nat) (s t : State), t = s.setFld (Reg.TX_RING_TAIL m r) 11 0 v ∧ m < 2 ∧ r < 2 ∧ bitOf s.sys.pwr 8 = true ∧ v < 4096 ∧ s.bit (Reg.TX_RING_CFG m r) 31 = true) ∧
    (∃ (m r : Nat) (s t u : State), t = (s.setFld (Reg.TX_RING_CFG m r) 31 31 1).setFld (Reg.TX_RING_TAIL m r) 11 0 0 ∧ u = t.onMac m (fun v => { v with txHead := tset 0 v.txHead r 0, started := v.started.filter (fun e => e.1 != r), q0 := v.q0.filter (fun f => !((f.ring.map (·.1)) == some r)), q2 := v.q2.filter (fun f => !((f.ring.map (·.1)) == some r)), next := v.next.map (fun f => if (f.ring.map (·.1)) == some r then { f with ring := none } else f) }) ∧ m < 2 ∧ r < 2 ∧ bitOf s.sys.pwr 8 = true) ∧
    (∃ (m r i a len st x y : Nat) (s t : State) (z : Option Int), r < 2 ∧ s.macOn m = true ∧ s.bit (Reg.TX_RING_CFG m r) 31 = true ∧ i = tget 0 (s.mac m).txHead r ∧ i ≠ s.fld (Reg.TX_RING_TAIL m r) 11 0 ∧ s.txDesc m r i = (t, a, len, st) ∧ 1 ≤ len ∧ len ≤ t.txMax m ∧ (t.mac m).started.find? (fun e => e.1 == r && e.2.1 == i) = some (x, y, z) ∧ (bitOf st 0 = false ∨ z = none)) ∧
    (∃ (m r i a len st x y : Nat) (s t u : State) (z : Int), u = (t.dmaWrite (t.arrayAt (Reg.TX_RING_TS m r) i) (stampRecord z (max 60 len) m (b2n (isPtpEvent (mread t.mem a len))))).perfAdd 103 (b2n (isPtpEvent (mread t.mem a len))) ∧ r < 2 ∧ s.macOn m = true ∧ s.bit (Reg.TX_RING_CFG m r) 31 = true ∧ i = tget 0 (s.mac m).txHead r ∧ i ≠ s.fld (Reg.TX_RING_TAIL m r) 11 0 ∧ s.txDesc m r i = (t, a, len, st) ∧ 1 ≤ len ∧ len ≤ t.txMax m ∧ (t.mac m).started.find? (fun e => e.1 == r && e.2.1 == i) = some (x, y, some z) ∧ bitOf st 0 = true) :=
  ⟨⟨1, 3, 8191, (wIn .park), by decide +kernel⟩,
   ⟨1, 3, (wIn .park), _, rfl, by decide +kernel⟩,
   ⟨1, 1, 4095, ((wIn .park).setFld (Reg.TX_RING_CFG 1 1) 31 31 1), _, rfl, by decide +kernel⟩,
   ⟨1, 1, (wIn .park), _, _, rfl, rfl, by decide +kernel⟩,
   ⟨0, 0, 0, 0, 64, 0, 0, 0, (wRing 0), (((wRing 0).txDesc 0 0 0).1), (some 5), by decide +kernel⟩,
   ⟨0, 0, 0, 0, 64, 1, 0, 0, (wRing 1), (((wRing 1).txDesc 0 0 0).1), _, 5, rfl, by decide +kernel⟩⟩

/-- States and operands that meet the hypotheses of ResetRows, clause by clause. -/
theorem test_ResetRows_witness :
    (∃ (w : Straps) (b : Nat) (s t u v : State), t = s.onSys (fun x => { x with straps := w, phase := if w.testMode then .testMode else .running }) ∧ u = t.onPorts (fun x => { x with bankA33 := bitOf b 0, bankB33 := bitOf b 1, bankC33 := bitOf b 2, bankD33 := bitOf b 3 }) ∧ v = u.onTime (fun x => { x with refclkOk := true }) ∧ s.sys.phase = .porst) ∧
    (∃ (w : Straps) (b : Nat) (s t u v : State), t = s.onSys (fun x => { x with straps := w, phase := if w.testMode then .testMode else .running }) ∧ u = t.onPorts (fun x => { x with bankA33 := bitOf b 0, bankB33 := bitOf b 1, bankC33 := bitOf b 2, bankD33 := bitOf b 3 }) ∧ v = u.onTime (fun x => { x with refclkOk := true }) ∧ s.sys.phase = .porst) ∧
    (∃ (s : State), s.sys.phase = .running) ∧
    (∃ (w : Straps) (s t : State), t = (s.passTo (s.time.eventTick + 246)).onSys (fun x => { x with phase := .running, straps := { w with mirRole := s.sys.straps.mirRole, testMode := s.sys.straps.testMode } }) ∧ s.sys.phase = .warmHold) ∧
    (∃ (e : Nat) (s : State), s.sys.phase = .running ∧ s.sys.sysResetDue = some e) ∧
    (∃ (s : State), (s.sys.phase = .running ∨ s.sys.phase = .warmHold)) ∧
    (∃ (s : State), s.sys.phase = .powerFail) ∧
    (∃ (s t : State), t = s.passTo (s.sys.safeTick + 2457600) ∧ s.sys.phase = .running ∧ s.sys.mode = .safe ∧ s.sys.straps.failSafe = true ∧ t.autoCount < 3) :=
  ⟨⟨⟨false, false, false, false, false, true⟩, 15, State.reset, _, _, _, rfl, rfl, rfl, by decide +kernel⟩,
   ⟨⟨false, false, false, false, false, false⟩, 0, State.reset, _, _, _, rfl, rfl, rfl, by decide +kernel⟩,
   ⟨(wIn .park), by decide +kernel⟩,
   ⟨⟨true, true, true, true, true, true⟩, (wIn .park).onSys (fun x => { x with phase := .warmHold }), _, rfl, by decide +kernel⟩,
   ⟨24576, (wIn .park).onSys (fun x => { x with sysResetDue := some 24576 }), by decide +kernel⟩,
   ⟨(wIn .park).onSys (fun x => { x with phase := .warmHold }), by decide +kernel⟩,
   ⟨(wIn .park).onSys (fun x => { x with phase := .powerFail }), by decide +kernel⟩,
   ⟨(wIn .safe).onSys (fun x => { x with straps := { x.straps with failSafe := true } }), _, rfl, by decide +kernel⟩⟩

/-- States and operands that meet the hypotheses of BootRows, clause by clause. -/
theorem test_BootRows_witness :
    (∃ (k : Nat) (s : State), s.sys.phase = .running ∧ s.sys.bootTry = some k ∧ s.slotError (k % 2) = 0) ∧
    (∃ (bad : Bool) (k : Nat) (s : State), s.sys.phase = .running ∧ s.sys.bootTry = some k ∧ k < 2 ∧ (bad = true ∨ s.slotError k ≠ 0)) ∧
    (∃ (l : Nat) (s : State), s.sys.phase = .running ∧ s.sys.straps.chainEn = true ∧ bitOf s.sys.pwr 8 = false) ∧
    (∃ (s t u : State), t = s.onSys (fun x => { x with fwRunning := true, wdtRunning := true, wdtTick := s.time.eventTick }) ∧ u = (t.setPwr (t.sys.pwr ||| 256)).onXbar (fun x => { x with resetMask := x.resetMask &&& 0x200 }) ∧ s.sys.phase = .running ∧ s.sys.imageEntered = true ∧ s.sys.fwRunning = false ∧ s.sys.romInSafe = false) ∧
    (∃ (l : Nat) (s t : State), t = (s.onTime (fun x => { x with sdLock := true })).each [0, 1] (fun v m => v.startPort m) ∧ s.sys.phase = .running ∧ s.sys.fwRunning = true ∧ s.sys.netUp = false ∧ bitOf s.sys.pwr 8 = true) ∧
    (∃ (s : State), s.sys.phase = .running ∧ s.sys.mode = .boot ∧ s.sys.fwRunning = true ∧ s.sys.sweepPassed = true ∧ s.sys.netUp = true ∧ s.sys.dumpPlaced = true ∧ s.sys.fatal = none) ∧
    (∃ (c : StageChunk) (cs : List StageChunk) (s t : State) (g : Staging), t = ((s.withFlash (mwrite s.flash (slotAddr g.slot + c.off) c.data)).onSec (fun x => { x with chunks := cs })).stageCount c ∧ s.sec.chunks = c :: cs ∧ s.sec.staging = some g) :=
  ⟨⟨0, wFlashed, by decide +kernel⟩,
   ⟨false, 1, wBlank, by decide +kernel⟩,
   ⟨3, (wBlank.onSys (fun x => { x with pwr := 7, straps := { x.straps with chainEn := true } })), by decide +kernel⟩,
   ⟨(wBlank.onSys (fun x => { x with imageEntered := true })), _, _, rfl, rfl, by decide +kernel⟩,
   ⟨3, (wIn .boot), _, rfl, by decide +kernel⟩,
   ⟨(wIn .boot).onSys (fun x => { x with sweepPassed := true, netUp := true, dumpPlaced := true }), by decide +kernel⟩,
   ⟨⟨0, wHdr, 0, [1]⟩, [], (wIn .park).onSec (fun x => { x with chunks := [⟨0, wHdr, 0, [1]⟩], staging := some ⟨0, 1, 4, 1, 0, 1, 0, 0, 0⟩ }), _, ⟨0, 1, 4, 1, 0, 1, 0, 0, 0⟩, rfl, by decide +kernel⟩⟩

/-- States and operands that meet the hypotheses of ModeAndSafetyRows, clause by clause. -/
theorem test_ModeAndSafetyRows_witness :
    (∃ (s : State) (r : ModeReq), s.sys.phase = .running ∧ s.sys.fatal = none ∧ s.sys.modeReq = some r ∧ r.target ≠ .park ∧ s.sys.mode = .park ∧ s.parkLoad = none) ∧
    (∃ (s : State) (r : ModeReq), s.sys.phase = .running ∧ s.sys.fatal = none ∧ s.sys.modeReq = some r ∧ r.target = .park ∧ s.live = true ∧ s.mir.parking = true ∧ s.meas.gen.stopping = none) ∧
    (∃ (s t : State), t = (s.passTo s.wdtDue).fatalError 0x0B 0 ∧ s.sys.phase = .running ∧ s.sys.wdtRunning = true) ∧
    (∃ (s : State) (f : Fatal), s.sys.phase = .running ∧ s.sys.fatal = some f ∧ s.sys.mode ≠ .safe) ∧
    (∃ (s : State), s.sys.phase = .running) ∧
    (∃ (s : State), s.sys.phase = .running) ∧
    (∃ (k : Nat) (s t : State) (up : Bool), up = decide (toSigned 16 (s.fld Reg.SYS_THERM 31 16) < toSigned 16 k) ∧ t = (s.setFld Reg.SYS_THERM 15 0 k).onSys (fun x => { x with thermWarn := up })) :=
  ⟨⟨(wIn .park).onSys (fun x => { x with modeReq := some ⟨.render, wHdr⟩ }), ⟨.render, wHdr⟩, by decide +kernel⟩,
   ⟨((wIn .render).onSys (fun x => { x with modeReq := some ⟨.park, wHdr⟩ })).onMir (fun x => { x with parking := true }), ⟨.park, wHdr⟩, by decide +kernel⟩,
   ⟨(wIn .park).onSys (fun x => { x with wdtRunning := true }), _, rfl, by decide +kernel⟩,
   ⟨(wIn .render).onSys (fun x => { x with fatal := some ⟨1, 0, .render, 0⟩ }), ⟨1, 0, .render, 0⟩, by decide +kernel⟩,
   ⟨(wIn .park), by decide +kernel⟩,
   ⟨(wIn .park), by decide +kernel⟩,
   ⟨0xFFFF, (wIn .park), _, _, rfl, rfl⟩⟩

/-- States and operands that meet the hypotheses of MacClassExecutes, clause by clause. -/
theorem test_MacClassExecutes_witness :
    (∃ (n : Nat) (a : MacArgs) (s u : State), s.Executes n (.mac 0 a) u) ∧
    (∃ (n : Nat) (a : MacArgs) (s u : State), s.Executes n (.mac 1 a) u) ∧
    (∃ (n : Nat) (a : MacArgs) (s u : State), s.Executes n (.mac 2 a) u) ∧
    (∃ (n : Nat) (a : MacArgs) (s u : State), s.Executes n (.mac 3 a) u) ∧
    (∃ (n : Nat) (a : MacArgs) (s u : State), s.Executes n (.mac 4 a) u) ∧
    (∃ (n : Nat) (a : MacArgs) (s u : State), s.Executes n (.mac 5 a) u) ∧
    (∃ (n : Nat) (a : MacArgs) (s u : State), s.Executes n (.mac 6 a) u) ∧
    (∃ (n : Nat) (a : MacArgs) (s u : State), s.Executes n (.mac 7 a) u) :=
  ⟨⟨0, ⟨0, 0, 1, 2, 0, 0, wNoMove⟩, (wCore FCtx.init), _, wExec _ _ (by decide +kernel)⟩,
   ⟨0, ⟨0, 0, 1, 2, 0, 0, wNoMove⟩, (wCore FCtx.init), _, wExec _ _ (by decide +kernel)⟩,
   ⟨0, ⟨0, 0, 1, 2, 0, 0, wNoMove⟩, (wCore FCtx.init), _, wExec _ _ (by decide +kernel)⟩,
   ⟨0, ⟨0, 0, 1, 2, 0, 0, wNoMove⟩, (wCore FCtx.init), _, wExec _ _ (by decide +kernel)⟩,
   ⟨0, ⟨0, 1, 1, 2, 3, 0, wNoMove⟩, (wCore FCtx.init), _, wExec _ _ (by decide +kernel)⟩,
   ⟨0, ⟨0, 1, 1, 2, 3, 0, wNoMove⟩, (wCore FCtx.init), _, wExec _ _ (by decide +kernel)⟩,
   ⟨0, ⟨0, 1, 1, 2, 3, 4, wNoMove⟩, (wCore FCtx.init), _, wExec _ _ (by decide +kernel)⟩,
   ⟨0, ⟨0, 1, 1, 2, 3, 4, wNoMove⟩, (wCore FCtx.init), _, wExec _ _ (by decide +kernel)⟩⟩

/-- States and operands that meet the hypotheses of AccumulatorClassExecutes, clause by clause. -/
theorem test_AccumulatorClassExecutes_witness :
    (∃ (n : Nat) (a : AccArgs) (s u : State), s.Executes n (.acc 0 a) u) ∧
    (∃ (n : Nat) (a : AccArgs) (s u : State), s.Executes n (.acc 1 a) u) ∧
    (∃ (n : Nat) (a : AccArgs) (s u : State), s.Executes n (.acc 2 a) u) ∧
    (∃ (n : Nat) (a : AccArgs) (s u : State), s.Executes n (.acc 3 a) u) ∧
    (∃ (n : Nat) (a : AccArgs) (s u : State), s.Executes n (.acc 4 a) u) ∧
    (∃ (n : Nat) (a : AccArgs) (s u : State), s.Executes n (.acc 5 a) u) ∧
    (∃ (n : Nat) (a : AccArgs) (s u : State), s.Executes n (.acc 6 a) u) ∧
    (∃ (n : Nat) (a : AccArgs) (s u : State), s.Executes n (.acc 7 a) u) ∧
    (∃ (n : Nat) (a : AccArgs) (s u : State), s.Executes n (.acc 8 a) u) ∧
    (∃ (n : Nat) (a : AccArgs) (s u : State), s.Executes n (.acc 9 a) u) ∧
    (∃ (n : Nat) (a : AccArgs) (s u : State), s.Executes n (.acc 10 a) u) ∧
    (∃ (n : Nat) (a : AccArgs) (s u : State), s.Executes n (.acc 11 a) u) ∧
    (∃ (n : Nat) (a : AccArgs) (s u : State), s.Executes n (.acc 12 a) u) ∧
    (∃ (n : Nat) (a : AccArgs) (s u : State), s.Executes n (.acc 13 a) u) ∧
    (∃ (n : Nat) (a : AccArgs) (s u : State), s.Executes n (.acc 14 a) u) ∧
    (∃ (n : Nat) (a : AccArgs) (s u : State), s.Executes n (.acc 15 a) u) ∧
    (∃ (n : Nat) (a : AccArgs) (s u : State), s.Executes n (.acc 16 a) u) ∧
    (∃ (n : Nat) (a : AccArgs) (s u : State), s.Executes n (.acc 17 a) u) :=
  ⟨⟨0, ⟨3, 0, 0, wNoMove⟩, (wCore FCtx.init), _, wExec _ _ (by decide +kernel)⟩,
   ⟨0, ⟨3, 1, 0, wNoMove⟩, (wCore FCtx.init), _, wExec _ _ (by decide +kernel)⟩,
   ⟨0, ⟨3, 1, 0, wNoMove⟩, (wCore FCtx.init), _, wExec _ _ (by decide +kernel)⟩,
   ⟨0, ⟨3, 0, 240, wNoMove⟩, (wCore FCtx.init), _, wExec _ _ (by decide +kernel)⟩,
   ⟨0, ⟨3, 0, 240, wNoMove⟩, (wCore FCtx.init), _, wExec _ _ (by decide +kernel)⟩,
   ⟨0, ⟨3, 0, 0, wNoMove⟩, (wCore FCtx.init), _, wExec _ _ (by decide +kernel)⟩,
   ⟨0, ⟨3, 0, 0, wNoMove⟩, (wCore FCtx.init), _, wExec _ _ (by decide +kernel)⟩,
   ⟨0, ⟨3, 1, 0, wNoMove⟩, (wCore FCtx.init), _, wExec _ _ (by decide +kernel)⟩,
   ⟨0, ⟨3, 0, 0, wNoMove⟩, (wCore FCtx.init), _, wExec _ _ (by decide +kernel)⟩,
   ⟨0, ⟨3, 0, 0, wNoMove⟩, (wCore FCtx.init), _, wExec _ _ (by decide +kernel)⟩,
   ⟨0, ⟨3, 0, 71, wNoMove⟩, (wCore FCtx.init), _, wExec _ _ (by decide +kernel)⟩,
   ⟨0, ⟨3, 0, 71, wNoMove⟩, (wCore FCtx.init), _, wExec _ _ (by decide +kernel)⟩,
   ⟨0, ⟨3, 0, 240, wNoMove⟩, (wCore FCtx.init), _, wExec _ _ (by decide +kernel)⟩,
   ⟨0, ⟨3, 0, 240, wNoMove⟩, (wCore FCtx.init), _, wExec _ _ (by decide +kernel)⟩,
   ⟨0, ⟨3, 0, 240, wNoMove⟩, (wCore FCtx.init), _, wExec _ _ (by decide +kernel)⟩,
   ⟨0, ⟨3, 1, 0, wNoMove⟩, (wCore FCtx.init), _, wExec _ _ (by decide +kernel)⟩,
   ⟨0, ⟨3, 1, 0, wNoMove⟩, (wCore FCtx.init), _, wExec _ _ (by decide +kernel)⟩,
   ⟨0, ⟨3, 1, 0, wNoMove⟩, (wCore FCtx.init), _, wExec _ _ (by decide +kernel)⟩⟩

/-- States and operands that meet the hypotheses of DataClassExecutes, clause by clause. -/
theorem test_DataClassExecutes_witness :
    (∃ (n : Nat) (a : DataArgs) (s u : State), s.Executes n (.dat 0 a) u) ∧
    (∃ (n : Nat) (a : DataArgs) (s u : State), s.Executes n (.dat 1 a) u) ∧
    (∃ (n : Nat) (a : DataArgs) (s u : State), s.Executes n (.dat 2 a) u) ∧
    (∃ (n : Nat) (a : DataArgs) (s u : State), s.Executes n (.dat 3 a) u) ∧
    (∃ (n : Nat) (a : DataArgs) (s u : State), s.Executes n (.dat 4 a) u) ∧
    (∃ (n : Nat) (a : DataArgs) (s u : State), s.Executes n (.dat 5 a) u) ∧
    (∃ (n : Nat) (a : DataArgs) (s u : State), s.Executes n (.dat 6 a) u) ∧
    (∃ (n : Nat) (a : DataArgs) (s u : State), s.Executes n (.dat 7 a) u) ∧
    (∃ (n : Nat) (a : DataArgs) (s u : State), s.Executes n (.dat 8 a) u) ∧
    (∃ (n : Nat) (a : DataArgs) (s u : State), s.Executes n (.dat 9 a) u) ∧
    (∃ (n : Nat) (a : DataArgs) (s u : State), s.Executes n (.dat 10 a) u) ∧
    (∃ (n : Nat) (a : DataArgs) (s u : State), s.Executes n (.dat 11 a) u) ∧
    (∃ (n : Nat) (a : DataArgs) (s u : State), s.Executes n (.dat 12 a) u) :=
  ⟨⟨0, ⟨15, 1, 2, false, 0⟩, (wCore FCtx.init), _, wExec _ _ (by decide +kernel)⟩,
   ⟨0, ⟨15, 1, 2, false, 0⟩, (wCore FCtx.init), _, wExec _ _ (by decide +kernel)⟩,
   ⟨0, ⟨15, 1, 2, false, 0⟩, (wCore FCtx.init), _, wExec _ _ (by decide +kernel)⟩,
   ⟨0, ⟨15, 1, 2, false, 0⟩, (wCore FCtx.init), _, wExec _ _ (by decide +kernel)⟩,
   ⟨0, ⟨15, 1, 2, false, 0⟩, (wCore FCtx.init), _, wExec _ _ (by decide +kernel)⟩,
   ⟨0, ⟨15, 1, 0, false, 0⟩, (wCore FCtx.init), _, wExec _ _ (by decide +kernel)⟩,
   ⟨0, ⟨15, 1, 2, false, 0⟩, (wCore FCtx.init), _, wExec _ _ (by decide +kernel)⟩,
   ⟨0, ⟨15, 1, 2, false, 0⟩, (wCore FCtx.init), _, wExec _ _ (by decide +kernel)⟩,
   ⟨0, ⟨15, 1, 2, false, 0⟩, (wCore FCtx.init), _, wExec _ _ (by decide +kernel)⟩,
   ⟨0, ⟨15, 1, 2, false, 0⟩, (wCore FCtx.init), _, wExec _ _ (by decide +kernel)⟩,
   ⟨0, ⟨15, 1, 2, false, 0⟩, (wCore FCtx.init), _, wExec _ _ (by decide +kernel)⟩,
   ⟨0, ⟨0, 1, 2, false, 0⟩, (wCore FCtx.init), _, wExec _ _ (by decide +kernel)⟩,
   ⟨0, ⟨15, 1, 2, false, 0⟩, (wCore FCtx.init), _, wExec _ _ (by decide +kernel)⟩⟩

/-- States and operands that meet the hypotheses of MoveAndAddressClassesExecute, clause by clause. -/
theorem test_MoveAndAddressClassesExecute_witness :
    (∃ (n : Nat) (a : MovArgs) (s u : State), s.Executes n (.mov a) u) ∧
    (∃ (n : Nat) (a : RegArgs) (s u : State), s.Executes n (.reg 0 a) u) ∧
    (∃ (n : Nat) (a : RegArgs) (s u : State), s.Executes n (.reg 1 a) u) ∧
    (∃ (n : Nat) (a : RegArgs) (s u : State), s.Executes n (.reg 2 a) u) ∧
    (∃ (n : Nat) (a : AddrArgs) (s u : State), s.Executes n (.addr 0 a) u) ∧
    (∃ (n : Nat) (a : AddrArgs) (s u : State), s.Executes n (.addr 1 a) u) ∧
    (∃ (n : Nat) (a : AddrArgs) (s u : State), s.Executes n (.addr 2 a) u) ∧
    (∃ (n : Nat) (a : AddrArgs) (s u : State), s.Executes n (.addr 3 a) u) ∧
    (∃ (n : Nat) (a : AddrArgs) (s u : State), s.Executes n (.addr 4 a) u) ∧
    (∃ (n : Nat) (a : AddrArgs) (s u : State), s.Executes n (.addr 5 a) u) :=
  ⟨⟨0, ⟨false, ⟨true, 0, 0, 0⟩, none⟩, (wCore FCtx.init), _, wExec _ _ (by decide +kernel)⟩,
   ⟨0, ⟨0, 1, 0⟩, (wCore FCtx.init), _, wExec _ _ (by decide +kernel)⟩,
   ⟨0, ⟨16, 0, 0x8000⟩, (wCore FCtx.init), _, wExec _ _ (by decide +kernel)⟩,
   ⟨0, ⟨16, 0, 0x8000⟩, (wCore FCtx.init), _, wExec _ _ (by decide +kernel)⟩,
   ⟨0, ⟨7, 0xFFFF⟩, (wCore FCtx.init), _, wExec _ _ (by decide +kernel)⟩,
   ⟨0, ⟨7, 0xFFFF⟩, (wCore FCtx.init), _, wExec _ _ (by decide +kernel)⟩,
   ⟨0, ⟨7, 0xFFFF⟩, (wCore FCtx.init), _, wExec _ _ (by decide +kernel)⟩,
   ⟨0, ⟨7, 20⟩, (wCore FCtx.init), _, wExec _ _ (by decide +kernel)⟩,
   ⟨0, ⟨0, 0⟩, (wCore FCtx.init), _, wExec _ _ (by decide +kernel)⟩,
   ⟨0, ⟨0, 0⟩, (wCore FCtx.init), _, wExec _ _ (by decide +kernel)⟩⟩

/-- States and operands that meet the hypotheses of FlowInstructionsExecute, clause by clause. -/
theorem test_FlowInstructionsExecute_witness :
    (∃ (n slot k times : Nat) (reg : Bool) (i : Item) (t : FTask) (c : FCtx) (s : State), s.Issues n slot i (.rptN reg k) t c ∧ times = (if reg then c.dr k else k % 4096 + 1) ∧ times ≤ 4096) ∧
    (∃ (n slot b k times last : Nat) (reg : Bool) (i : Item) (t : FTask) (c d : FCtx) (s : State), s.Issues n slot i (.loopN reg b k) t c ∧ times = (if reg then c.dr k else k % 65536) ∧ last = s.facetSkip t (b % 256) (c.pc + 1) ∧ d = (if times = 0 then { c with loops := (loopNext last (s.facetLen t last) c.loops).1, pc := (loopNext last (s.facetLen t last) c.loops).2 } else { c with loops := (c.pc + 1, last, times) :: c.loops, pc := c.pc + 1 }) ∧ times ≤ 65535 ∧ (times = 0 ∨ c.loops.length < 4)) ∧
    (∃ (n slot cc f l k : Nat) (rest : List (Nat × Nat × Nat)) (i : Item) (t : FTask) (c : FCtx) (s : State), s.Issues n slot i (.leave cc) t c ∧ c.loops = (f, l, k) :: rest) ∧
    (∃ (n slot : Nat) (i : Item) (t : FTask) (c : FCtx) (s : State), s.Issues n slot i .nop t c) ∧
    (∃ (n slot cc a : Nat) (i : Item) (t : FTask) (c : FCtx) (s : State), s.Issues n slot i (.bra cc a) t c ∧ ccHolds c.sr cc = true ∧ a % 2 ^ 14 < t.pWords) ∧
    (∃ (n slot cc a : Nat) (i : Item) (t : FTask) (c : FCtx) (s : State), s.Issues n slot i (.bra cc a) t c ∧ ccHolds c.sr cc = false) ∧
    (∃ (n slot cc a : Nat) (i : Item) (t : FTask) (c : FCtx) (s : State), s.Issues n slot i (.bsr cc a) t c ∧ ccHolds c.sr cc = true ∧ a % 2 ^ 14 < t.pWords ∧ c.calls.length < 8) ∧
    (∃ (n slot cc a : Nat) (rest : List Nat) (i : Item) (t : FTask) (c : FCtx) (s : State), s.Issues n slot i (.rts cc) t c ∧ ccHolds c.sr cc = true ∧ c.calls = a :: rest ∧ a < t.pWords) ∧
    (∃ (n slot m : Nat) (i : Item) (t : FTask) (c : FCtx) (s : State), s.Issues n slot i (.jmp m) t c ∧ c.dr m < t.pWords) :=
  ⟨⟨0, 1, 4095, _, false, (wItem FCtx.init), _, _, (wCore FCtx.init), wIssues _ _ (by decide +kernel), rfl, by decide +kernel⟩,
   ⟨0, 1, 4, 65535, _, _, false, (wItem FCtx.init), _, _, _, (wCore FCtx.init), wIssues _ _ (by decide +kernel), rfl, rfl, rfl, by decide +kernel⟩,
   ⟨0, 1, 0, 0, 5, 3, [], (wItem { FCtx.init with loops := [(0, 5, 3)] }), _, _, (wCore { FCtx.init with loops := [(0, 5, 3)] }), wIssues _ _ (by decide +kernel), by decide +kernel⟩,
   ⟨0, 1, (wItem FCtx.init), _, _, (wCore FCtx.init), wIssues _ _ (by decide +kernel)⟩,
   ⟨0, 1, 0, 63, (wItem FCtx.init), _, _, (wCore FCtx.init), wIssues _ _ (by decide +kernel), by decide +kernel⟩,
   ⟨0, 1, 1, 63, (wItem FCtx.init), _, _, (wCore FCtx.init), wIssues _ _ (by decide +kernel), by decide +kernel⟩,
   ⟨0, 1, 0, 63, (wItem FCtx.init), _, _, (wCore FCtx.init), wIssues _ _ (by decide +kernel), by decide +kernel⟩,
   ⟨0, 1, 0, 63, [], (wItem { FCtx.init with calls := [63] }), _, _, (wCore { FCtx.init with calls := [63] }), wIssues _ _ (by decide +kernel), by decide +kernel⟩,
   ⟨0, 1, 15, (wItem FCtx.init), _, _, (wCore FCtx.init), wIssues _ _ (by decide +kernel), by decide +kernel⟩⟩

/-- States and operands that meet the hypotheses of SystemAndFarInstructionsExecute, clause by clause. -/
theorem test_SystemAndFarInstructionsExecute_witness :
    (∃ (n slot : Nat) (i : Item) (t : FTask) (c : FCtx) (s : State), s.Issues n slot i .yield t c) ∧
    (∃ (n slot k : Nat) (i : Item) (t : FTask) (c : FCtx) (s : State), s.Issues n slot i (.trap (k % 256)) t c) ∧
    (∃ (n slot w : Nat) (i : Item) (t : FTask) (c : FCtx) (s : State), s.Issues n slot i (.fence w) t c) ∧
    (∃ (n slot m v sr : Nat) (i : Item) (t : FTask) (c : FCtx) (s : State), s.Issues n slot i (.setm m v) t c ∧ sr = withBits c.sr 15 8 ((bitsOf c.sr 15 8 &&& (255 - m % 256)) ||| (v &&& m % 256 &&& 0x0F))) ∧
    (∃ (n slot k : Nat) (i : Item) (t : FTask) (c : FCtx) (s : State), s.Issues n slot i (.seg k) t c) ∧
    (∃ (n slot : Nat) (a : LongArgs) (o : FOp) (i : Item) (t : FTask) (c : FCtx) (s : State), o = .long 0 a ⟨0, false⟩ ∧ s.Issues n slot i o t c ∧ a.m = 0) ∧
    (∃ (n slot : Nat) (a : LongArgs) (o : FOp) (i : Item) (t : FTask) (c : FCtx) (s : State), o = .long 1 a ⟨0, false⟩ ∧ s.Issues n slot i o t c ∧ a.m = 0 ∧ a.r < 16) ∧
    (∃ (n slot : Nat) (a : LongArgs) (o : FOp) (i : Item) (t : FTask) (c : FCtx) (s : State), o = .long 2 a ⟨0, false⟩ ∧ s.Issues n slot i o t c ∧ a.m = 0 ∧ a.r < 16) ∧
    (∃ (n slot : Nat) (a : LongArgs) (f : Far) (o : FOp) (i : Item) (t : FTask) (c : FCtx) (s : State), o = .long 3 a f ∧ s.Issues n slot i o t c ∧ c.farAddr a % 4 = 0 ∧ (s.farMem (i.task.getD 0) (c.farAddr a) = true ∨ s.farPerf (c.farAddr a) = true) ∧ f.lasting = false) ∧
    (∃ (n slot : Nat) (a : LongArgs) (f : Far) (o : FOp) (i : Item) (t : FTask) (c : FCtx) (s : State), o = .long 4 a f ∧ s.Issues n slot i o t c ∧ c.farAddr a % 4 = 0 ∧ s.farMem (i.task.getD 0) (c.farAddr a) = true ∧ f.lasting = false) :=
  ⟨⟨0, 1, (wItem FCtx.init), _, _, (wCore FCtx.init), wIssues _ _ (by decide +kernel)⟩,
   ⟨0, 1, 255, (wItem FCtx.init), _, _, (wCore FCtx.init), wIssues _ _ (by decide +kernel)⟩,
   ⟨0, 1, 3, (wItem FCtx.init), _, _, (wCore FCtx.init), wIssues _ _ (by decide +kernel)⟩,
   ⟨0, 1, 255, 15, _, (wItem FCtx.init), _, _, (wCore FCtx.init), wIssues _ _ (by decide +kernel), rfl⟩,
   ⟨0, 1, 255, (wItem FCtx.init), _, _, (wCore FCtx.init), wIssues _ _ (by decide +kernel)⟩,
   ⟨0, 1, ⟨31, 0, 0xFFFFFFFF⟩, _, (wItem FCtx.init), _, _, (wCore FCtx.init), rfl, wIssues _ _ (by decide +kernel), by decide +kernel⟩,
   ⟨0, 1, ⟨15, 0, 0xFFFFFFFF⟩, _, (wItem FCtx.init), _, _, (wCore FCtx.init), rfl, wIssues _ _ (by decide +kernel), by decide +kernel⟩,
   ⟨0, 1, ⟨15, 0, 0⟩, _, (wItem FCtx.init), _, _, (wCore FCtx.init), rfl, wIssues _ _ (by decide +kernel), by decide +kernel⟩,
   ⟨0, 1, ⟨0, 0, 0x133FFFFC⟩, ⟨0, false⟩, _, (wItem FCtx.init), _, _, (wCore FCtx.init), rfl, wIssues _ _ (by decide +kernel), by decide +kernel⟩,
   ⟨0, 1, ⟨0, 0, 0x133FFFFC⟩, ⟨0, false⟩, _, (wItem FCtx.init), _, _, (wCore FCtx.init), rfl, wIssues _ _ (by decide +kernel), by decide +kernel⟩⟩

/-- States and operands that meet the hypotheses of FabricRows, clause by clause. -/
theorem test_FabricRows_witness :
    (∃ (r : XReq) (s : State), s.sys.phase = .running ∧ s.masked r.master = false ∧ ((∀ e ∈ s.xbar.reqs, e.req.master = r.master → e.st ≠ .stalled)) ∧ s.room r.master (accWrites r.acc) = true) ∧
    (∃ (r : XReq) (s : State), s.sys.phase = .running ∧ s.masked r.master = false ∧ ((∃ e ∈ s.xbar.reqs, e.req.master = r.master ∧ e.st = .stalled) ∨ s.room r.master (accWrites r.acc) = false)) ∧
    (∃ (t m : Nat) (s : State), s.chosen t = some m) ∧
    (∃ (t m : Nat) (s u : State), u = s.onXbar (fun x => { x with ptr := tset 0 x.ptr t ((m + 1) % 16), reqs := changeFirst (fun e => e.target == t && e.st == .visible && e.req.master == m) (fun _ => none) x.reqs }) ∧ s.chosen t = some m) ∧
    (∃ (m g held : Nat) (e : Ecc) (s u : State) (x : XEntry) (n : Nat), s.grantedReq m g = some x ∧ u = (((s.dropGranted m g).retrySucceeded x).carryOut m x.target x.req.addr (.read n) e).readOutcome m x.target x.req.addr n e ∧ x.req.acc = .read n ∧ x.discard = false) ∧
    (∃ (m g held : Nat) (e : Ecc) (s u : State) (x : XEntry) (d : Bytes), s.grantedReq m g = some x ∧ u = ((s.dropGranted m g).retrySucceeded x).carryOut m x.target x.req.addr (.write d) e ∧ x.req.acc = .write d ∧ (x.target < 8 ∨ e ≠ Ecc.lasting)) ∧
    (∃ (m g : Nat) (s : State) (x : XEntry), s.grantedReq m g = some x ∧ s.bit Reg.XBAR_CTRL 1 = true ∧ x.retried = false) ∧
    (∃ (m g : Nat) (s : State) (x : XEntry), s.grantedReq m g = some x ∧ s.bit Reg.XBAR_CTRL 1 = true ∧ x.retried = true) ∧
    (∃ (t : Nat) (s : State), t < 12 ∧ s.visibleAt t = []) :=
  ⟨⟨wReq, wFab, by decide +kernel⟩,
   ⟨wReq, (wFab.onXbar (fun x => { x with reqs := [⟨wReq, 7, .stalled, false, false⟩] })), by decide +kernel⟩,
   ⟨7, 9, wVisible, by decide +kernel⟩,
   ⟨7, 9, wVisible, _, rfl, by decide +kernel⟩,
   ⟨9, 0, 3, .clean, wGranted, _, _, 4, eq_some_get (by decide +kernel), rfl, by decide +kernel⟩,
   ⟨9, 1, 3, .lasting, (wFab.onXbar (fun x => { x with reqs := [⟨⟨9, 1, 0x10000000, .write [1]⟩, 7, .granted, false, false⟩] })), _, _, [1], eq_some_get (by decide +kernel), rfl, by decide +kernel⟩,
   ⟨9, 0, (wGranted.setFld Reg.XBAR_CTRL 1 1 1), _, eq_some_get (by decide +kernel), by decide +kernel⟩,
   ⟨9, 0, ((wFab.onXbar (fun x => { x with reqs := [⟨wReq, 7, .granted, true, false⟩] })).setFld Reg.XBAR_CTRL 1 1 1), _, eq_some_get (by decide +kernel), by decide +kernel⟩,
   ⟨11, wFab, by decide +kernel⟩⟩

/-- States and operands that meet the hypotheses of DramRows, clause by clause. -/
theorem test_DramRows_witness :
    (∃ (rs : List DramReq) (s t : State), t = ((s.withRdata []).withRstat 0).onDdrc (fun x => { x with waiting := x.waiting ++ rs })) ∧
    (∃ (c b : Nat) (s : State), bitOf s.sys.pwr 7 = true ∧ s.ddrc.selfRefresh = false ∧ s.time.ddrLock = true ∧ c < 4 ∧ b < 8) ∧
    (∃ (codes again : List Nat) (s : State), bitOf s.sys.pwr 7 = true ∧ s.ddrc.selfRefresh = false ∧ (∀ k ∈ codes, k % 8 ≠ 7)) ∧
    (∃ (e : Ecc) (s t : State) (a : Nat), a = 0x100000000 + 64 * s.ddrc.scrub ∧ t = ((s.dramRowsFor ⟨4, a, .read 64, 0, 0, false, e⟩).perfAdd 36).eccOutcome 4 a e ∧ s.bit Reg.DDRC_CTRL 2 = true ∧ s.dramServing = true) ∧
    (∃ (c : Nat) (s t : State) (l : Tbl Nat), l = s.ddrc.shadow.filter (fun e => e.1 / 16 == c) ∧ t = s.each l (fun u e => u.setFld (Reg.DDRC_DLY c (e.1 % 16)) 7 0 e.2) ∧ l ≠ []) ∧
    (∃ (ws : List Nat) (lane : Nat) (s : State) (w : Sweep), s.ddrc.sweep = some w ∧ w.retried = false) ∧
    (∃ (ws : List Nat) (lane : Option Nat) (s : State) (w : Sweep), s.ddrc.sweep = some w ∧ (lane = none ∨ w.retried = true)) :=
  ⟨⟨[⟨4, 0x100000000, .read 64, 0, 0, false, .clean⟩], wDram, _, rfl⟩,
   ⟨3, 7, wDram, by decide +kernel⟩,
   ⟨[0, 6, 14], [], wDram, by decide +kernel⟩,
   ⟨.corrected, (wDram.setFld Reg.DDRC_CTRL 2 2 1), _, _, rfl, rfl, by decide +kernel⟩,
   ⟨3, (wDram.onDdrc (fun x => { x with shadow := [(63, 255)] })), _, _, rfl, rfl, by decide +kernel⟩,
   ⟨[], 15, (wDram.onDdrc (fun x => { x with sweep := some ⟨0, [], false⟩ })), _, eq_some_get (by decide +kernel), by decide +kernel⟩,
   ⟨[], (some 15), (wDram.onDdrc (fun x => { x with sweep := some ⟨0, [], true⟩ })), ⟨0, [], true⟩, by decide +kernel⟩⟩

/-- States and operands that meet the hypotheses of SchedulerRows, clause by clause. -/
theorem test_SchedulerRows_witness :
    (∃ (s : State), s.bit Reg.SCHED_CTRL 0 = true) ∧
    (∃ (s : State), s.sched.rtReleased = true) ∧
    (∃ (n slot l : Nat) (i : Item) (c : FCtx) (s : State), s.facetLimit i = some l ∧ c = { i.ctx with charged := max l i.ctx.charged } ∧ s.resident n = some slot ∧ s.item? slot = some i) ∧
    (∃ (lat slot n : Nat) (i : Item) (s u : State), u = s.refillAll.noteBlocks ∧ s.bit Reg.SCHED_CTRL 0 = true ∧ u.bestReady (fun j => u.mayServe j && (u.serverFor j).isSome) = some (slot, i) ∧ u.serverFor i = some n ∧ u.repeating n = false) ∧
    (∃ (n : Nat) (s : State), n < 8) ∧
    (∃ (n k : Nat) (s u t : State), u = s.refillOlder ∧ k = tget 0 u.sched.listTick n + 1 ∧ t = u.onSched (fun x => { x with listTick := tput u.sched.listTick n k }) ∧ n < 4 ∧ u.bit Reg.SCHED_CTRL 0 = true) ∧
    (∃ (v : Nat) (flow : Option Nat) (arg : Bytes) (s : State), 2 ≤ v ∧ v ≤ 7 ∧ s.sys.fwRunning = true) ∧
    (∃ (t v : Nat) (flow : Option Nat) (arg : Bytes) (s : State), 2 ≤ (s.task t).level ∧ (s.task t).level ≤ 7 ∧ s.sys.fwRunning = true ∧ (s.task t).enabled = true ∧ (s.task t).insert = false) ∧
    (∃ (slot : Nat) (i : Item) (s : State), s.resident 8 = some slot ∧ s.item? slot = some i) ∧
    (∃ (s t : State), t = s.obsTouch.each (List.range 9) (fun u n => u.latchObs n) ∧ s.bit Reg.OBS_CTRL 0 = true) :=
  ⟨⟨((wIn .render).setFld Reg.SCHED_CTRL 0 0 1), by decide +kernel⟩,
   ⟨(wIn .render).onSched (fun x => { x with rtReleased := true }), by decide +kernel⟩,
   ⟨0, 1, _, (wItem FCtx.init), _, ((wCore FCtx.init).setTask 5 { wTask with attach := 1, image := some wTaskImage, enabled := true }), eq_some_get (by decide +kernel), rfl, by decide +kernel⟩,
   ⟨0, 1, 8, wFwItem, ((wIn .render).setFld Reg.SCHED_CTRL 0 0 1).onSched (fun x => { x with items := [(1, wFwItem)] }), _, rfl, by decide +kernel⟩,
   ⟨7, (wIn .park), by decide +kernel⟩,
   ⟨3, _, ((wIn .render).setFld Reg.SCHED_CTRL 0 0 1), _, _, rfl, rfl, rfl, by decide +kernel⟩,
   ⟨7, none, [], (wIn .render), by decide +kernel⟩,
   ⟨5, 2, none, [], wServing, by decide +kernel⟩,
   ⟨1, wFwItem, (wIn .render).onSched (fun x => { x with server := [(8, 2)], items := [(1, wFwItem)] }), by decide +kernel⟩,
   ⟨((wIn .render).setFld Reg.OBS_CTRL 0 0 1), _, rfl, by decide +kernel⟩⟩

/-- States and operands that meet the hypotheses of PortMicrophoneAndSweepEvents, clause by clause. -/
theorem test_PortMicrophoneAndSweepEvents_witness :
    (∃ (g b : Nat) (d : FsEdge) (s : State), g < 8 ∧ s.discards = false ∧ s.portsRun = true ∧ s.grpMode g ≠ 0 ∧ s.isFrameEdge g d.rising = true) ∧
    (∃ (g e : Nat) (s t : State), (s.grp g).edge = some e ∧ t = ((((s.setGrp g { s.grp g with lost := true, index := none, due := none, freshAt := none }).raise (Reg.GRP_STAT g) 28).bump (Reg.GRP_CNT g 1)).raise Reg.PORTS_INT_STATUS 3) ∧ g < 8 ∧ s.portsRun = true ∧ s.grpMode g = 2 ∧ (s.grp g).lost = false ∧ e + 4 * s.time.tps ≤ s.time.tick) ∧
    (∃ (s : State), s.discards = false ∧ s.portsRun = true) ∧
    (∃ (s : State), s.discards = false ∧ s.portsRun = false) ∧
    (∃ (i k : Nat) (s : State) (a : NaSt), a = tget NaSt.init (s.port i).na k ∧ i < 64 ∧ k < 16 ∧ a.muted = true ∧ 4096 ≤ a.count) ∧
    (∃ (i k : Nat) (s : State) (a : NaSt), a = tget NaSt.init (s.ctx i).na k ∧ i < 255 ∧ k < 64 ∧ a.muted = true ∧ 4096 ≤ a.count) ∧
    (∃ (c : Nat) (s : State), c < 16 ∧ (s.mic c).on = true ∧ (s.mic c).stuck = false) ∧
    (∃ (c : Nat) (s : State), c < 16 ∧ (s.mic c).stuck = true) ∧
    (∃ (s : State) (c : GenSet) (st : Int), s.meas.gen.cfg = some c ∧ s.meas.gen.start = some st ∧ s.meas.gen.sweepDone = false ∧ c.sweepEnd ≤ 8 * (s.firstRender - st)) :=
  ⟨⟨7, 0, ⟨true, []⟩, wPorts, by decide +kernel⟩,
   ⟨7, _, ((wPorts.onTime (fun x => { x with tick := 100000000 })).setGrp 7 { GrpSt.init with edge := some 0 }), _, eq_some_get (by decide +kernel), rfl, by decide +kernel⟩,
   ⟨wPorts, by decide +kernel⟩,
   ⟨(wIn .park), by decide +kernel⟩,
   ⟨63, 15, ((wIn .park).setPort 63 { PortSt.init with na := [(15, ⟨false, true, 4096, false, 0⟩)] }), _, rfl, by decide +kernel⟩,
   ⟨254, 63, ((wIn .park).setCtx 254 { StreamCtx.init with na := [(63, ⟨false, true, 4096, false, 0⟩)] }), _, rfl, by decide +kernel⟩,
   ⟨15, ((wIn .measure).setMic 15 { Mic.init with on := true }), by decide +kernel⟩,
   ⟨15, ((wIn .measure).setMic 15 { Mic.init with on := true, stuck := true }), by decide +kernel⟩,
   ⟨wSweeping, ⟨100, 1000, 8, 0, 0, 1, false, 0, 0, 1⟩, 0, by decide +kernel⟩⟩

/-- States and operands that meet the hypotheses of NetworkEventRows, clause by clause. -/
theorem test_NetworkEventRows_witness :
    (∃ (m : Nat) (s : State), s.discards = false ∧ s.macOn m = true ∧ (s.mac m).linkUp = true) ∧
    (∃ (s t : State), t = (s.onTime (fun x => { x with sdLock := false })).raise Reg.CLK_INT_STATUS 3 ∧ s.discards = false) ∧
    (∃ (m : Nat) (ok : Bool) (s t : State), t = s.onMac m (fun v => { v with retraining := false, failed := !ok }) ∧ s.macOn m = true ∧ (s.mac m).retraining = true) ∧
    (∃ (m : Nat) (s t : State), t = ((s.onTime (fun x => { x with sdLock := true })).setMac m { s.mac m with failed := false }).setLink m true ∧ s.macOn m = true ∧ (s.mac m).linkUp = false ∧ (s.mac m).retraining = false) ∧
    (∃ (m : Nat) (x : RxMeta) (f : Bytes) (s t : State), t = s.forgetLeft m (s.rxStart x) ∧ s.macOn m = true ∧ (s.mac m).linkUp = true ∧ t.rxBad m x f = none) ∧
    (∃ (m k : Nat) (x : RxMeta) (f : Bytes) (s t : State), t = s.forgetLeft m (s.rxStart x) ∧ t.rxBad m x f = some k ∧ s.macOn m = true ∧ (s.mac m).linkUp = true) ∧
    (∃ (m cyc : Nat) (f : TxFrame) (s t u : State), t = (s.gateNext m).fillNext m (cyc % 50) 0 ((s.mac m).queued) ∧ u = (t.startFrame m (cyc % 50) f).ptpSent m (cyc % 50) f ∧ s.macOn m = true ∧ (s.mac m).linkUp = true ∧ (t.mac m).next = some f) ∧
    (∃ (c k : Nat) (s : State) (v : StreamCtx), v = s.ctx c ∧ c < 255 ∧ k < 2 ∧ v.output = false ∧ s.ctxRuns c = true ∧ v.legOn k = true ∧ (v.leg k).up = true ∧ 64 ≤ (v.leg k).idle) ∧
    (∃ (s : State) (w : ArpWait) (e : Nat × Nat × Nat) (es : List (Nat × Nat × Nat)), s.net.arpWait = some w ∧ w.need = e :: es) :=
  ⟨⟨1, wNet, by decide +kernel⟩,
   ⟨(wIn .park), _, rfl, by decide +kernel⟩,
   ⟨1, true, (wNet.onMac 1 (fun v => { v with linkUp := false, retraining := true })), _, rfl, by decide +kernel⟩,
   ⟨1, (wNet.onMac 1 (fun v => { v with linkUp := false, failed := true })), _, rfl, by decide +kernel⟩,
   ⟨1, ⟨0, 0, false, false⟩, (zeros 60), wNet, _, rfl, by decide +kernel⟩,
   ⟨1, _, ⟨0, 0, true, false⟩, (zeros 60), wNet, _, rfl, eq_some_get (by decide +kernel), by decide +kernel⟩,
   ⟨1, 49, ⟨zeros 60, none, none, .no⟩, (wNet.onMac 1 (fun v => { v with q2 := [⟨zeros 60, none, none, .no⟩] })), _, _, rfl, rfl, by decide +kernel⟩,
   ⟨254, 1, (((wIn .render).setFld Reg.STR_CTRL 0 0 1).setCtx 254 { StreamCtx.init with running := true, legBOn := true, paired := true, legB := { Leg.init with up := true, idle := 64 } }), _, rfl, by decide +kernel⟩,
   ⟨(wNet.onNet (fun x => { x with arpWait := some ⟨wHdr, [], [(0, 0, 0)]⟩ })), ⟨wHdr, [], [(0, 0, 0)]⟩, (0, 0, 0), [], by decide +kernel⟩⟩

/-- States and operands that meet the hypotheses of MirrorLensAndWorkerEvents, clause by clause. -/
theorem test_MirrorLensAndWorkerEvents_witness :
    (∃ (s t : State) (n : Nat), n = s.nextBoundary ∧ t = s.tickTo (s.switchTick n) ∧ s.sys.phase = .running ∧ t.live = true ∧ t.leaving = false ∧ t.wdtLower = false) ∧
    (∃ (s t : State) (n : Nat), n = s.nextBoundary ∧ t = s.tickTo (s.switchTick n) ∧ s.sys.phase = .running ∧ t.live = true ∧ t.leaving = true) ∧
    (∃ (v : Bool) (s : State), s.sys.phase = .running ∧ s.mir.actIn ≠ v) ∧
    (∃ (s : State), s.sys.phase = .running ∧ s.mir.actIn = false ∧ s.mirrorOn = true) ∧
    (∃ (b v : Bool) (k : Nat) (s t : State), t = s.onMir (fun x => { x with hbIn := v && !b && k == 0 }) ∧ s.sys.phase = .running ∧ s.mirrorOn = true ∧ (s.mir.st = .standby ∨ s.mir.st = .pending)) ∧
    (∃ (b v : Bool) (k : Nat) (s : State), s.sys.phase = .running ∧ s.mir.st ≠ .standby ∧ s.mir.st ≠ .pending) ∧
    (∃ (bus k : Nat) (s : State) (l : LensLoad) (e : Nat × Nat × Bytes), s.sys.mode ≠ .park ∧ s.lens.loads.find? (fun x => x.left.any (fun y => y.1 == bus && y.2.1 == k)) = some l ∧ l.left.find? (fun y => y.1 == bus && y.2.1 == k) = some e) ∧
    (∃ (late : List Nat) (fails : TailFails) (spare : Nat) (s t : State) (due : Tbl LensBus), t = s.applyGrants (s.time.lastQ / 32) ∧ due = t.lens.buses.filter (fun e => decide (256 ≤ e.2.block.length)) ∧ s.live = true ∧ due ≠ []) ∧
    (∃ (id k : Nat) (s : State), s.hier.heard.find? (fun e => e.1 == id) = some (id, k) ∧ s.hier.role = 1 ∧ 1 ≤ id ∧ id ≤ 63 ∧ k + 64 * s.time.tq ≤ s.time.eventTick) :=
  ⟨⟨(wIn .render), _, _, rfl, rfl, by decide +kernel⟩,
   ⟨(wIn .render).onSys (fun x => { x with modeReq := some ⟨.park, wHdr⟩ }), _, _, rfl, rfl, by decide +kernel⟩,
   ⟨true, (wIn .render), by decide +kernel⟩,
   ⟨wActive, by decide +kernel⟩,
   ⟨true, true, 0, (wActive.onMir (fun x => { x with st := .standby })), _, rfl, by decide +kernel⟩,
   ⟨false, true, 1, wActive, by decide +kernel⟩,
   ⟨15, 1, (wIn .render).onLens (fun x => { x with loads := [⟨0, [(15, 1, [])], 1, false⟩] }), ⟨0, [(15, 1, [])], 1, false⟩, (15, 1, []), by decide +kernel⟩,
   ⟨[], [], 0, ((wIn .render).setLensBus 15 { LensBus.init with block := List.replicate 256 0 }), _, _, rfl, rfl, by decide +kernel⟩,
   ⟨63, 0, ((wIn .render).onHier (fun x => { x with role := 1, heard := [(63, 0)] })).onTime (fun x => { x with eventTick := 10000000 }), by decide +kernel⟩⟩

/-- States and operands that meet the hypotheses of QuantumBoundaryAdvances, clause by clause. -/
theorem test_QuantumBoundaryAdvances_witness :
    (∃ (env : BoundaryEnv) (s u t : State) (n at_ : Nat), at_ = max (s.time.lastQ + 1) (s.time.tick / s.time.tq) * s.time.tq ∧ u = (if s.stepWaits = true ∧ s.time.tick + 1 < at_ then s.idleTick else s) ∧ n = max (u.time.lastQ + 1) (u.time.tick / u.time.tq) ∧ t = u.tickTo (n * u.time.tq) ∧ s.clockRuns = true ∧ t.sys.phase = .running) ∧
    (∃ (env : BoundaryEnv) (s u t : State) (n at_ : Nat), at_ = max (s.time.lastQ + 1) (s.time.tick / s.time.tq) * s.time.tq ∧ u = (if s.stepWaits = true ∧ s.time.tick + 1 < at_ then s.idleTick else s) ∧ n = max (u.time.lastQ + 1) (u.time.tick / u.time.tq) ∧ t = u.tickTo (n * u.time.tq) ∧ s.clockRuns = true ∧ t.sys.phase ≠ .running) :=
  ⟨⟨wEnv, (wIn .render), _, _, _, _, rfl, rfl, rfl, rfl, by decide +kernel⟩,
   ⟨wEnv, (wIn .render).onSys (fun x => { x with phase := .warmHold }), _, _, _, _, rfl, rfl, rfl, rfl, by decide +kernel⟩⟩

/-- States and operands that meet the hypotheses of LocksAreReleasedByTheirOwner, clause by clause. -/
theorem test_LocksAreReleasedByTheirOwner_witness :
    (∃ (m n : Nat) (s : State), s.masked m = false ∧ mayLock m = true ∧ ((m = 15 → s.sec.unlocked = true)) ∧ n < 64 ∧ (s.lock n).held = true ∧ (s.lock n).owner = m) ∧
    (∃ (m n : Nat) (s : State), s.masked m = false ∧ mayLock m = true ∧ ((m = 15 → s.sec.unlocked = true)) ∧ n < 64 ∧ ((s.lock n).held = false ∨ (s.lock n).owner ≠ m)) :=
  ⟨⟨12, 63, wLocked, by decide +kernel⟩,
   ⟨10, 63, wLocked, by decide +kernel⟩⟩

/-- States and operands that meet the hypotheses of LocksAreAcquiredInOrder, clause by clause. -/
theorem test_LocksAreAcquiredInOrder_witness :
    (∃ (m n : Nat) (s : State), s.masked m = false ∧ mayLock m = true ∧ m ≠ 15 ∧ n < 64 ∧ s.lockAbove m n = false) ∧
    (∃ (m n : Nat) (s : State), s.masked m = false ∧ mayLock m = true ∧ m ≠ 15 ∧ n < 64 ∧ s.lockAbove m n = true ∧ (s.lock n).held = true) ∧
    (∃ (m n : Nat) (s : State), s.masked m = false ∧ mayLock m = true ∧ m ≠ 15 ∧ n < 64 ∧ s.lockAbove m n = true ∧ (s.lock n).held = false) ∧
    (∃ (m n : Nat) (s : State), s.lock n = ⟨true, m, (s.lock n).broken⟩) ∧
    (∃ (n : Nat) (s : State), s.masked 15 = false ∧ s.sec.unlocked = true ∧ n < 64) :=
  ⟨⟨12, 63, wLocked, by decide +kernel⟩,
   ⟨10, 63, wLocked, by decide +kernel⟩,
   ⟨0, 0, wLocked, by decide +kernel⟩,
   ⟨12, 63, wLocked, by decide +kernel⟩,
   ⟨63, wDebug, by decide +kernel⟩⟩

/-- States and operands that meet the hypotheses of PerfReadsLatchPerMaster. -/
theorem test_PerfReadsLatchPerMaster_witness :
    ∃ (m n : Nat) (s : State), n < 128 ∧ s.perfPair m n = none :=
  ⟨15, 127, (wIn .park), by decide +kernel⟩

/-- States and operands that meet the hypotheses of DebugWindowIsMaster15, clause by clause. -/
theorem test_DebugWindowIsMaster15_witness :
    (∃ (w n : Nat) (s : State), s.sys.phase = .running ∧ s.sys.straps.hostIf = false ∧ s.host.linkUp = true ∧ w < 0x80000 ∧ s.sec.unlocked = false) ∧
    (∃ (w : Nat) (d : Bytes) (s : State), s.sys.phase = .running ∧ s.sys.straps.hostIf = false ∧ s.host.linkUp = true ∧ w < 0x80000 ∧ s.sec.unlocked = false) ∧
    (∃ (w a k : Nat) (acc : Access) (s u : State), a = s.fld Reg.HOSTIF_DBG_WIN 20 0 * 0x80000 + w ∧ u = (s.withRdata []).withRstat 0 ∧ u.targetOf 15 a = some k ∧ s.sys.phase = .running ∧ s.sys.straps.hostIf = false ∧ s.host.linkUp = true ∧ w < 0x80000 ∧ s.sec.unlocked = true ∧ accLen acc = 4 ∧ w % 4 = 0 ∧ u.refusal 15 a (accWrites acc) = none) ∧
    (∃ (w a e k : Nat) (acc : Access) (s u : State), a = s.fld Reg.HOSTIF_DBG_WIN 20 0 * 0x80000 + w ∧ u = (s.withRdata []).withRstat 0 ∧ s.sys.phase = .running ∧ s.sys.straps.hostIf = false ∧ s.host.linkUp = true ∧ w < 0x80000 ∧ s.sec.unlocked = true ∧ accLen acc = 4 ∧ w % 4 = 0 ∧ u.refusal 15 a (accWrites acc) = some (e, k)) ∧
    (∃ (w : Nat) (acc : Access) (s : State), 0x80000 ≤ w) :=
  ⟨⟨0x7FFFF, 1, wLinked, by decide +kernel⟩,
   ⟨0x7FFFF, [1], wLinked, by decide +kernel⟩,
   ⟨0x1FFFC, _, _, (.read 4), wDebug, _, rfl, rfl, eq_some_get (by decide +kernel), by decide +kernel⟩,
   ⟨0x7FFFC, _, 1, 15, (.read 4), wDebug, _, rfl, rfl, by decide +kernel⟩,
   ⟨0x80000, (.read 1), (wIn .park), by decide +kernel⟩⟩

/-- States and operands that meet the hypotheses of EmptyQueueIsOneTick, clause by clause. -/
theorem test_EmptyQueueIsOneTick_witness :
    (∃ (s : State), s.pending = [] ∧ s.clockRuns = false) ∧
    (∃ (s : State), s.pending = [] ∧ s.clockRuns = true ∧ (s.live = true ∨ s.time.step = none)) ∧
    (∃ (s : State), s.pending = [] ∧ s.clockRuns = true ∧ s.live = false ∧ s.time.step.isSome = true) :=
  ⟨⟨State.reset, by decide +kernel⟩,
   ⟨(wIn .park), by decide +kernel⟩,
   ⟨(wIn .park).onTime (fun x => { x with step := some ⟨none, true, 0, none⟩ }), by decide +kernel⟩⟩

/-- States and operands that meet the hypotheses of MailboxAnswers. -/
theorem test_MailboxAnswers_witness :
    ∃ (h : Hdr) (op : Nat) (p : Bytes) (r : Resp) (s t : State) (b : Bytes), t = s.respond h op p r ∧ b = mread t.mem (rspSlotAddr h.slot) (16 + r.payload.length) ∧ h.slot < 8 ∧ r.payload.length ≤ 240 :=
  ⟨⟨7, 1, 0, false⟩, 2, [], ⟨0, List.replicate 240 1⟩, (wIn .park), _, _, rfl, rfl, by decide +kernel⟩

/-- States and operands that meet the hypotheses of MailboxChecks. -/
theorem test_MailboxChecks_witness :
    ∃ (i : Instr) (c : CmdDef) (h : Hdr) (p : Bytes) (s : State), mailboxOf i = some (c, h, p) ∧ ((∀ h2 p2, i = .bootGo h2 p2 → s.sys.hostBootWait = false)) :=
  ⟨(.sysInfo wHdr []), cmdSysInfo, wHdr, [], (wIn .park), rfl, fun _ _ h => nomatch h⟩

/-- States and operands that meet the hypotheses of PostedSlotIsJudged. -/
theorem test_PostedSlotIsJudged_witness :
    ∃ (glitch : Bool) (s u v : State) (n : Nat) (q : List Nat) (b p : Bytes), b = s.slotRaw8 n ∧ p = slice b 16 (u16At b 4) ∧ u = (s.popQueue n).taken (hdrOf n b) (u16At b 0) ∧ v = (if glitch then u.bump (Reg.MBX_CNT 2) else u) ∧ s.sys.phase = .running ∧ s.sys.fwRunning = true ∧ s.mbx.queue = n :: q ∧ s.heldJob n = none :=
  ⟨true, wPosted, _, _, 7, [], _, _, rfl, rfl, rfl, rfl, by decide +kernel⟩

/-- States and operands that meet the hypotheses of SlotWriteReads. -/
theorem test_SlotWriteReads_witness :
    ∃ (n off : Nat) (d : Bytes) (s : State), s.sys.phase = .running ∧ n < 8 ∧ 0x100 * n ≤ off ∧ off + d.length ≤ 0x100 * n + 0x100 ∧ d ≠ [] :=
  ⟨7, 0x7FF, [1], (wIn .park), by decide +kernel⟩

/-- States and operands that meet the hypotheses of AnswerFrame. -/
theorem test_AnswerFrame_witness :
    ∃ (h : Hdr) (op : Nat) (p : Bytes) (r : Resp) (s t : State), t = (s.taken h op).respond h op p r :=
  ⟨wHdr, 2, [], ⟨0, []⟩, (wIn .park), _, rfl⟩

/-- States and operands that meet the hypotheses of FacetArithmetic, clause by clause. -/
theorem test_FacetArithmetic_witness :
    (∃ (n slot op : Nat) (a : MacArgs) (s : State) (i : Item) (t : FTask) (c : FCtx) (p v : Int), s.Issues n slot i (.mac op a) t c ∧ s.Room i (i.ctx.stall (.mac op a) + 1) ∧ p = (if bitOf c.sr 11 then 2 else 1) * (toSigned 32 (c.dr (a.s % 8)) * toSigned 32 (c.dr (a.t % 8))) ∧ c.rpt = none ∧ a.pm = ⟨false, 0, 0, false, 0, 0, false⟩ ∧ a.ab = 0 ∧ a.u = 0 ∧ a.v = 0 ∧ a.aa < 4 ∧ ((op = 0 ∧ v = p) ∨ (op = 1 ∧ v = c.ac a.aa + p) ∨ (op = 2 ∧ v = c.ac a.aa - p))) ∧
    (∃ (norm : Bool) (n slot m : Nat) (a : AccArgs) (o : FOp) (s : State) (i : Item) (t : FTask) (c : FCtx), o = .acc (if norm then 13 else 14) a ∧ s.Issues n slot i o t c ∧ s.Room i (i.ctx.stall o + 1) ∧ c.rpt = none ∧ a.pm = ⟨false, 0, 0, false, 0, 0, false⟩ ∧ a.ab = 0 ∧ a.aa < 4 ∧ m < 16 ∧ a.km = 16 * m) ∧
    (∃ (sub : Bool) (n slot x y : Nat) (v : Int) (a : DataArgs) (o : FOp) (s : State) (i : Item) (t : FTask) (c : FCtx), o = .dat (if sub then 1 else 0) a ∧ s.Issues n slot i o t c ∧ s.Room i (i.ctx.stall o + 1) ∧ x = c.dr a.s ∧ v = (if sub then toSigned 32 x - toSigned 32 y else toSigned 32 x + toSigned 32 y) ∧ c.rpt = none ∧ a.d < 16 ∧ ((a.i = true ∧ a.t = 0 ∧ y = ofSigned 32 (toSigned 10 a.imm)) ∨ (a.i = false ∧ a.imm = 0 ∧ y = c.dr a.t))) ∧
    (∃ (sub : Bool) (n slot x y : Nat) (v : Int) (a : DataArgs) (o : FOp) (s : State) (i : Item) (t : FTask) (c : FCtx), o = .dat (if sub then 1 else 0) a ∧ s.Issues n slot i o t c ∧ s.Room i (i.ctx.stall o + 1) ∧ x = c.dr a.s ∧ v = (if sub then toSigned 32 x - toSigned 32 y else toSigned 32 x + toSigned 32 y) ∧ c.rpt = none ∧ a.d < 16 ∧ ((a.i = true ∧ a.t = 0 ∧ y = ofSigned 32 (toSigned 10 a.imm)) ∨ (a.i = false ∧ a.imm = 0 ∧ y = c.dr a.t))) :=
  ⟨⟨0, 1, 0, ⟨3, 0, 1, 2, 0, 0, wNoMove⟩, (wCore wOperands), (wItem wOperands), _, _, _, 15, wIssues _ _ (by decide +kernel), wRoom _ _ (by decide +kernel), rfl, by decide +kernel⟩,
   ⟨true, 0, 1, 15, ⟨3, 0, 240, wNoMove⟩, _, (wCore wOperands), (wItem wOperands), _, _, rfl, wIssues _ _ (by decide +kernel), wRoom _ _ (by decide +kernel), by decide +kernel⟩,
   ⟨true, 0, 1, _, 5, _, ⟨15, 1, 2, false, 0⟩, _, (wCore wOperands), (wItem wOperands), _, _, rfl, wIssues _ _ (by decide +kernel), wRoom _ _ (by decide +kernel), rfl, rfl, by decide +kernel⟩,
   ⟨false, 0, 1, _, 0xFFFFFFFF, _, ⟨15, 1, 0, true, 1023⟩, _, (wCore wOperands), (wItem wOperands), _, _, rfl, wIssues _ _ (by decide +kernel), wRoom _ _ (by decide +kernel), rfl, rfl, by decide +kernel⟩⟩

/-- States and operands that meet the hypotheses of FacetInstructionFrame. -/
theorem test_FacetInstructionFrame_witness :
    ∃ (n slot : Nat) (o : FOp) (s u : State) (i : Item) (t : FTask) (c : FCtx) (r : FRes), s.Issues n slot i o t c ∧ c.basic (s.facetMem t) o = .ok r ∧ s.Room i (i.ctx.stall o + r.cyc) ∧ s.Executes n o u ∧ c.rpt = none ∧ o.repeatable = true :=
  ⟨0, 1, (.reg 1 ⟨16, 0, 0x8000⟩), (wCore wOperands), _, (wItem wOperands), _, _, _, wIssues _ _ (by decide +kernel), rfl, wRoom _ _ (by decide +kernel), wExec _ _ (by decide +kernel), by decide +kernel⟩

/-- States and operands that meet the hypotheses of CanonicalKept. -/
theorem test_CanonicalKept_witness :
    ∃ (s t : State), step s = .next t ∧ s.Canonical :=
  ⟨State.reset, State.reset, rfl, by decide +kernel⟩

/-- States and operands that meet the hypotheses of WhatNoStepChanges. -/
theorem test_WhatNoStepChanges_witness :
    ∃ (s t : State), step s = .next t :=
  ⟨State.reset, State.reset, rfl⟩

/-- States and operands that meet the hypotheses of TestModeHolds. -/
theorem test_TestModeHolds_witness :
    ∃ (s t : State), step s = .next t ∧ s.sys.phase = .testMode :=
  ⟨(State.reset.onSys (fun x => { x with phase := .testMode })), (State.reset.onSys (fun x => { x with phase := .testMode })), rfl, by decide +kernel⟩
/-! ### What WellFormed refuses -/

/-- A header's slot, sequence and tag, and a payload of more than 240 bytes (R386, R387). -/
theorem test_header_refused :
    Instr.wellFormed (.sysInfo ⟨8, 1, 0, false⟩ []) = false ∧ Instr.wellFormed (.sysInfo ⟨0, 65536, 0, false⟩ []) = false ∧
    Instr.wellFormed (.sysInfo ⟨0, 1, 2 ^ 32, false⟩ []) = false ∧ Instr.wellFormed (.fwStage wHdr (zeros 241)) = false ∧
    Instr.wellFormed (.fwStage wHdr (zeros 240)) = true := by decide +kernel

/-- The fields of the MAC, accumulator and data classes (R279, R280, R286). -/
theorem test_alu_fields_refused :
    Instr.wellFormed (.mac 0 ⟨4, 0, 0, 0, 0, 0, wNoMove⟩) = false ∧ Instr.wellFormed (.mac 0 ⟨0, 0, 8, 0, 0, 0, wNoMove⟩) = false ∧
    Instr.wellFormed (.mac 0 ⟨0, 0, 0, 0, 0, 0, ⟨false, 4, 0, false, 0, 0, false⟩⟩) = false ∧
    Instr.wellFormed (.accAdd 0 ⟨0, 0, 256, wNoMove⟩) = false ∧ Instr.wellFormed (.daluAdd 0 ⟨0, 0, 0, true, 1024⟩) = false ∧
    Instr.wellFormed (.daluAdd 8 ⟨0, 0, 0, true, 0⟩) = false ∧ Instr.wellFormed (.daluAdd 7 ⟨15, 15, 0, true, 1023⟩) = true := by decide +kernel

/-- The fields of moves, address and long instructions and of control flow (R281 to R288). -/
theorem test_move_and_flow_fields_refused :
    Instr.wellFormed (.moveI 0 ⟨false, ⟨false, 0, 8, 0⟩, none⟩) = false ∧
    Instr.wellFormed (.moveI 0 ⟨false, ⟨false, 0, 0, 0⟩, some ⟨false, 4, 0, 0⟩⟩) = false ∧
    Instr.wellFormed (.tfr 0 ⟨32, 0, 0⟩) = false ∧ Instr.wellFormed (.lda 0 ⟨0, 65536⟩) = false ∧ Instr.wellFormed (.ldi 0 ⟨0, 16, 0⟩) = false ∧
    Instr.wellFormed (.rpt 0 false 4097) = false ∧ Instr.wellFormed (.loopI 0 false 257 1) = false ∧ Instr.wellFormed (.bra 0 16 0) = false ∧
    Instr.wellFormed (.bsr 0 0 16384) = false ∧ Instr.wellFormed (.trapI 0 256) = false ∧ Instr.wellFormed (.setm 0 0 256) = false ∧
    Instr.wellFormed (.rpt 0 false 4096) = true := by decide +kernel

/-- Indices of the register map, and the requests of the fabric and of the DRAM controller (R323, R325, R338, R352, R382). -/
theorem test_indices_refused :
    Instr.wellFormed (.xbarRequest ⟨16, 0, 0, .read 32⟩) = false ∧ Instr.wellFormed (.xbarRequest ⟨0, 16, 0, .read 32⟩) = false ∧
    Instr.wellFormed (.xbarRequest ⟨0, 0, 2 ^ 40, .read 32⟩) = false ∧
    Instr.wellFormed (.dramRequest [⟨8, 0, .read 64, 0, 0, false, .clean⟩]) = false ∧ Instr.wellFormed (.lockAcq 0 64) = false ∧
    Instr.wellFormed (.debugWindowAccess 0x80000 (.read 4)) = false ∧ Instr.wellFormed (.txRingEnable 0 2) = false ∧
    Instr.wellFormed (.blockLockLoss (.port 2)) = false ∧
    Instr.wellFormed (.rxRingEnable 2 0) = false ∧ Instr.wellFormed (.capEdge 8 true) = false ∧ Instr.wellFormed (.refresh 4 0) = false ∧
    Instr.wellFormed (.micStuck 16) = false ∧ Instr.wellFormed (.lensLoadDone 1024 0) = false ∧
    Instr.wellFormed (.lensLoadDone 1023 1) = true := by decide +kernel

/-! ### Single effects, expected from the spec's tables and worked examples -/

/-- SHA-256 of "abc", as FIPS 180 prints it. -/
theorem test_sha256_abc :
    sha256 [0x61, 0x62, 0x63] = beBytes 32 0xba7816bf8f01cfea414140de5dae2223b00361a396177a9cb410ff61f20015ad := by decide +kernel

/-- The check value of CRC-32: that of the digits 1 to 9. -/
theorem test_crc32_check :
    crc32 [0x31, 0x32, 0x33, 0x34, 0x35, 0x36, 0x37, 0x38, 0x39] = 0xCBF43926 := by decide +kernel

/-- The two words the worked example of chapter 10 gives: RPT #64, and DMAC A0,A1,D0,D4,D5 with CH, X: D0 from PX0+, Y: D4 from PY0-. -/
theorem test_worked_filter_words :
    facetDecode 0x9000003F 0 ⟨0, false⟩ = .rptN false 63 ∧
    facetDecode 0x20894465 0 ⟨0, false⟩ = .mac 4 ⟨0, 1, 0, 4, 5, 0, ⟨true, 0, 1, true, 0, 2, true⟩⟩ := by decide +kernel

/-- The worked example of chapter 13: offset 0x82000 lies in channel 0, bank 0, row 8. -/
theorem test_worked_dram_hash :
    dramChan 0x82000 = 0 ∧ dramBank 0x82000 = 0 ∧ wDram.dramRow 0x82000 = 8 := by decide +kernel

/-- The worked example of chapter 21: base 0x400 and window offset 0x70018 give PRISM_COMMITTED. -/
theorem test_worked_debug_window :
    ((wIn .park).setFld Reg.HOSTIF_DBG_WIN 20 0 0x400).windowAddr 0x70018 = 0x20070018 := by decide +kernel

/-- The worked example of chapter 12: with the pointer at 1, master 3 is chosen among 3 and 9; after its grant the pointer is at 4. -/
theorem test_worked_arbitration :
    (wFab.onXbar (fun x => { x with ptr := [(5, 1)]
                                    reqs := [⟨⟨3, 0, 0, .read 32⟩, 5, .visible, false, false⟩, ⟨⟨9, 0, 0, .read 32⟩, 5, .visible, false, false⟩] })).chosen 5
      = some 3 ∧ tget 0 (wFab.grantTo 5 3).xbar.ptr 5 = 4 ∧ tget 0 (wFab.grantTo 5 9).xbar.ptr 5 = 10 := by decide +kernel

/-- The worked example of chapter 15: at 96 kHz a swap whose sixth entry names bus 600 answers ERR_RANGE, entry 5, offset 28. -/
theorem test_worked_refused_swap :
    (cmdLensSwap.body wHdr (le32 0 ++ le16 64 ++ [0, 6] ++ (List.range 5).flatMap (fun i => le16 (10 + i) ++ [1, 0]) ++ le16 600 ++ [1, 0])
      ((wIn .render).onTime (fun x => { x with rate96 := true }))).2 = ⟨0x0103, [5, 0, 0x1C, 0]⟩ := by decide +kernel

/-- A lock held by another master reads as held, with its owner (R338). -/
theorem test_lock_held_reads_owner : (wLocked.lockAcq 10 63).2 = 2 ^ 31 + 12 := by decide +kernel

/-- The worked example of chapter 14: ALIGN_DELAY_SET as its slot's bytes give opcode, sequence, length and tag. -/
theorem test_worked_slot_header :
    u16At [0x01, 0x14, 0x2A, 0x00, 0x08, 0x00, 0x00, 0x00, 0x05, 0x01, 0x00, 0x00] 0 = cmdAlignDelaySet.op ∧
    hdrOf 3 [0x01, 0x14, 0x2A, 0x00, 0x08, 0x00, 0x00, 0x00, 0x05, 0x01, 0x00, 0x00, 0, 0, 0, 0] = ⟨3, 0x2A, 0x105, false⟩ := by decide +kernel

end
end

section
/-! PROOFS. One step of the block: the two ways it goes, and what every step leaves as it was (R5, R374, R379, R456, R519). -/

namespace Sys2Proof.Machine

/-- What even PORST_N leaves of s in t: the queue, the fuses and the fitted parts, and the floor at least. Unlike Keeps it says nothing of
the test state and of the memories, which PORST_N may leave and clears. -/
structure State.KeepsFitted (s t : State) : Prop where
  pending : t.pending = s.pending
  sec : s.sec.Keeps t.sec
  orderIL : t.sys.orderIL = s.sys.orderIL
  dram8 : t.sys.dram8 = s.sys.dram8

theorem State.Keeps.keepsFitted {s t : State} (h : s.Keeps t) : s.KeepsFitted t :=
  ⟨h.pending, h.sec, h.sys.orderIL, h.sys.dram8⟩

/-- PORST_N keeps them in every phase, the test state included (R456). -/
theorem State.outside_keepsFitted (s : State) : s.KeepsFitted s.outside :=
  ⟨rfl, ⟨rfl, rfl, rfl, rfl, Nat.le_refl _⟩, rfl, rfl⟩

/-- Every command keeps them: PORST_N by what a reset leaves outside it, the others because they keep even more. -/
theorem exec_keepsFitted {c : Instr} {s t : State} (h : exec c s = .next t) : s.KeepsFitted t := by
  by_cases hc : c = .porstN
  · subst hc
    have e : s.outside = t := Host.Outcome.next.inj h
    exact e ▸ s.outside_keepsFitted
  · exact ((exec_keeps (.refl s) c fun e => absurd e hc).of h).keepsFitted

/-- A step lets an event tick pass over an empty queue, or executes the front command on the state without it. -/
theorem step_next_cases {s t : State} (h : step s = .next t) :
    (s.pending = [] ∧ t = s.idleTick) ∨
      ∃ c cs, s.pending = c :: cs ∧ exec c { s with pending := cs } = .next t := by
  unfold step at h
  split at h
  next hq => exact .inl ⟨hq, (Host.Outcome.next.inj h).symm⟩
  next c cs hq => exact .inr ⟨c, cs, hq, h⟩

/-- A step keeps them of the state without its front command. -/
theorem step_keepsFitted {s t : State} (h : step s = .next t) :
    State.KeepsFitted { s with pending := s.pending.tail } t := by
  obtain ⟨hq, rfl⟩ | ⟨c, cs, hq, hc⟩ := step_next_cases h
  · have e : ({ s with pending := s.pending.tail } : State) = s := by rw [hq, List.tail_nil, ← hq]
    exact e.symm ▸ (State.idleTick_keeps (.refl s)).keepsFitted
  · rw [hq, List.tail_cons]
    exact exec_keepsFitted hc

/-- Settles O59: the front command is taken off, and what is kept from there is kept by the step. -/
theorem whatNoStepChanges : Obligations.WhatNoStepChanges := by
  intro s t h
  obtain ⟨hq, ⟨huid, hkey, hrev, hdbg, hfloor⟩, hil, hdram⟩ := step_keepsFitted h
  exact ⟨hq, huid, hkey, hrev, hdbg, hil, hdram, hfloor⟩

end Sys2Proof.Machine
end

section
/-! PROOFS. REGISTER_WRITE and the rows that act on one register or output: what each comes to under its rule's premises (R11 to R13,
R138, R328, R370, R379, R448, R470, R491, R521). -/

namespace Sys2Proof.Machine

/-- In a domain that is on, master 0's write reaches the block and is no bus error (R448). -/
theorem State.cpWrite_on {s : State} {t a : Nat} (v : Nat) (h : s.targetOn t a = true) :
    s.cpWrite t a v = (s.withRstat 0).regWrite 0 a v := by
  unfold State.cpWrite
  rw [if_pos h]

/-- A register block of a domain that is on takes master 0's write (R328, R448). -/
theorem execRegisterWrite_block {s : State} {a t : Nat} (v : Word) (hp : s.sys.phase = .running) (ha : a < 2 ^ 40) (h4 : a % 4 = 0)
    (ht : s.targetOf 0 a = some t) (h67 : t = 6 ∨ t = 7) (hon : s.targetOn t a = true) :
    execRegisterWrite a v s = .next ((s.withRstat 0).regWrite 0 a v.toNat) := by
  have hw : a / 4 * 4 = a := by omega
  unfold execRegisterWrite
  simp only [hw, hp, ht]
  rw [if_neg (by simp), if_neg (by omega), if_pos h67.symm, State.cpWrite_on _ hon]

/-- From 2^40 on the offset is the host's, in BAR0 (R521; the numbering is the model's choice, notes/assumptions/11). -/
theorem execRegisterWrite_bar0 {s : State} {o : Nat} (v : Word) (hp : s.sys.phase = .running) (h4 : o % 4 = 0) :
    execRegisterWrite (2 ^ 40 + o) v s = .next (s.bar0Write o v.toNat) := by
  have hw : (2 ^ 40 + o) / 4 * 4 = 2 ^ 40 + o := by omega
  unfold execRegisterWrite
  simp only [hw, hp]
  rw [if_neg (by simp), if_pos (by omega), Nat.add_sub_cancel_left]

/-- The index of a counter that there is, is taken as it stands (R470). -/
theorem execPerfCntLoRead_counter (m : Nat) {n : Nat} (s : State) (h : n < 128) :
    execPerfCntLoRead m n s = .next ((s.perfLo m n).1.withRdata (le32 (s.perfLo m n).2)) := by
  unfold execPerfCntLoRead
  rw [Nat.mod_eq_of_lt h]

theorem execPerfCntHiRead_counter (m : Nat) {n : Nat} (s : State) (h : n < 128) :
    execPerfCntHiRead m n s = .next (s.withRdata (le32 (s.perfHi m n))) := by
  unfold execPerfCntHiRead
  rw [Nat.mod_eq_of_lt h]

/-- With the Lens block on, CLEAR ends in no bus error (R138, R448). -/
theorem execMarginClr_on {s : State} (h : s.targetOn 7 Reg.LENS_CTRL = true) :
    execMarginClr s = .next (s.onLens (fun x => { x with margin := 63 })) := by
  unfold execMarginClr
  rw [if_neg (by simp [h])]

theorem execHaltCore_exists {s : State} {n : Nat} (h8 : n < 8) (h : s.coreExists n = true) :
    execHaltCore n s = .next (s.raise (Reg.FCORE_CTRL n) 1) := by
  unfold execHaltCore
  rw [if_pos ⟨h8, h⟩]

/-- A halted core that can execute issues the instruction at its item's program counter (R379). -/
theorem State.facetStep_halted {s : State} {n slot : Nat} {i : Item} (f : Far) (hr : s.resident n = some slot) (hi : s.item? slot = some i)
    (ha : s.coreAlive n = true) (hh : s.coreHalted n = true) :
    s.facetStep n f = s.facetIssue n slot i
      (facetDecode (s.facetWord (s.task (i.task.getD 0)) i.ctx.pc) (s.facetWord (s.task (i.task.getD 0)) (i.ctx.pc + 1)) f) := by
  unfold State.facetStep
  simp only [hr, hi, ha, hh]
  rw [if_pos (by simp)]

theorem State.restartWdt_running {s : State} (h : s.sys.wdtRunning = true) :
    s.restartWdt = s.onSys (fun x => { x with wdtTick := s.time.eventTick }) := by
  unfold State.restartWdt
  rw [if_pos h]

/-- Settles O24: one lemma for each row; the JTAG rows are their own effect. -/
theorem registerAccessRows : Obligations.RegisterAccessRows :=
  ⟨fun _ _ v _ hp ha h4 ht h67 hon => execRegisterWrite_block v hp ha h4 ht h67 hon,
   fun _ v _ hp h4 => execRegisterWrite_bar0 v hp h4,
   fun _ => rfl,
   fun _ => rfl,
   fun m _ s h => execPerfCntLoRead_counter m s h,
   fun m _ s h => execPerfCntHiRead_counter m s h,
   fun _ h => execMarginClr_on h,
   fun _ _ h8 h => execHaltCore_exists h8 h,
   fun _ _ f _ _ t hr hi ha hh (ht : t = _) => ht ▸ congrArg Host.Outcome.next (State.facetStep_halted f hr hi ha hh),
   fun _ h => congrArg Host.Outcome.next (State.restartWdt_running h)⟩

end Sys2Proof.Machine
end

section
/-! PROOFS. Every row of the table answers a next state (R33, R388, R390, R400; that none refuses is the model's choice, notes/assumptions/54). -/

namespace Sys2Proof.Machine

/-- An outcome that is a next state: neither a fault nor a refusal. -/
def Answers (o : Host.Outcome State Fault Refusal) : Prop := ∃ t, o = .next t

theorem Answers.next {t : State} : Answers (.next t) := ⟨t, rfl⟩

/-- A condition between two outcomes that answer. -/
theorem Answers.ite {p : Prop} [Decidable p] {a b : Host.Outcome State Fault Refusal} (ha : Answers a) (hb : Answers b) :
    Answers (if p then a else b) := by
  split
  · exact ha
  · exact hb

/-! ### The rows that look something up: whether it is there or not, they answer -/

theorem execSweepDone_answers (ws : List Nat) (lane : Option Nat) (s : State) : Answers (execSweepDone ws lane s) := by
  unfold execSweepDone
  split
  · exact .next
  · exact .ite .next .next

theorem execBlockLockLoss_answers (lost : LockLoss) (s : State) : Answers (execBlockLockLoss lost s) := by
  cases lost <;> exact .ite .next .next

theorem execTxDescriptorDone_answers (mac ring : Nat) (s : State) : Answers (execTxDescriptorDone mac ring s) := by
  refine .ite .next (.ite .next (.ite .next (.ite .next ?_)))
  split <;> exact .next

theorem execHoldTimeout_answers (s : State) : Answers (execHoldTimeout s) := by
  unfold execHoldTimeout
  split <;> exact .next

theorem execRelockEnd_answers (s : State) : Answers (execRelockEnd s) := by
  unfold execRelockEnd
  split
  · exact .next
  · exact .ite .next .next

theorem execForwardTransmit_answers (mac cyc : Nat) (s : State) : Answers (execForwardTransmit mac cyc s) := by
  refine .ite .next ?_
  dsimp only
  split <;> exact .next

theorem execWorkerLost_answers (id : Nat) (s : State) : Answers (execWorkerLost id s) := by
  unfold execWorkerLost
  split
  · exact .next
  · exact .ite .next .next

theorem execFrameReceived_answers (mac : Nat) (m : RxMeta) (frame : Bytes) (s : State) : Answers (execFrameReceived mac m frame s) := by
  refine .ite .next ?_
  dsimp only
  split <;> exact .next

theorem execImageLoadDone_answers (bad : Bool) (s : State) : Answers (execImageLoadDone bad s) := by
  unfold execImageLoadDone
  split
  · exact .next
  · exact .ite .next (.ite .next (.ite .next .next))

theorem execFlashProgramDone_answers (s : State) : Answers (execFlashProgramDone s) := by
  unfold execFlashProgramDone
  split <;> exact .next

theorem execFacetOverrun_answers (n : Nat) (s : State) : Answers (execFacetOverrun n s) := by
  unfold execFacetOverrun
  repeat' split
  all_goals exact .next

theorem execFirmwareItemComplete_answers (s : State) : Answers (execFirmwareItemComplete s) := by
  unfold execFirmwareItemComplete
  repeat' split
  all_goals exact .next

theorem execLensLoadDone_answers (bus bank : Nat) (s : State) : Answers (execLensLoadDone bus bank s) := by
  unfold execLensLoadDone
  dsimp only
  repeat' split
  all_goals exact .next

theorem execGenDone_answers (s : State) : Answers (execGenDone s) := by
  unfold execGenDone
  split
  · exact .ite .next .next
  · exact .next

theorem execModeEntry_answers (s : State) : Answers (execModeEntry s) := by
  unfold execModeEntry
  split
  · exact .next
  · exact .ite .next (.ite .next .next)

theorem execRegisterWrite_answers (a : Nat) (v : Word) (s : State) : Answers (execRegisterWrite a v s) := by
  refine .ite .next (.ite .next ?_)
  split <;> exact .next

theorem execXbarGrant_answers (target : Nat) (withdrawn : Bool) (s : State) : Answers (execXbarGrant target withdrawn s) := by
  unfold execXbarGrant
  split
  · exact .next
  · exact .ite .next .next

theorem execXbarComplete_answers (master tag : Nat) (e : Ecc) (held : Nat) (s : State) : Answers (execXbarComplete master tag e held s) := by
  unfold execXbarComplete
  split <;> exact .next

theorem execXbarTimeout_answers (master tag : Nat) (s : State) : Answers (execXbarTimeout master tag s) := by
  unfold execXbarTimeout
  split
  · exact .next
  · exact .ite .next (.ite .next .next)

theorem execBulkCopyDone_answers (n : Nat) (s : State) : Answers (execBulkCopyDone n s) := by
  unfold execBulkCopyDone
  repeat' split
  all_goals exact .next

theorem execSysResetApply_answers (s : State) : Answers (execSysResetApply s) := by
  unfold execSysResetApply
  split <;> exact .next

theorem execSafeEntry_answers (s : State) : Answers (execSafeEntry s) := by
  unfold execSafeEntry
  split
  · exact .next
  · exact .ite .next .next

/-! ### Every row -/

/-- The rows by the shape of their meaning: those that look something up, those under one condition or a chain of conditions, and the rest, whose
meaning is one next state. -/
theorem exec_answers (c : Instr) (s : State) : Answers (exec c s) := by
  cases c with
  | sweepDone ws lane => exact execSweepDone_answers ws lane s
  | blockLockLoss lost => exact execBlockLockLoss_answers lost s
  | txDescriptorDone mac ring => exact execTxDescriptorDone_answers mac ring s
  | holdTimeout => exact execHoldTimeout_answers s
  | relockEnd => exact execRelockEnd_answers s
  | forwardTransmit mac cyc => exact execForwardTransmit_answers mac cyc s
  | workerLost id => exact execWorkerLost_answers id s
  | frameReceived mac m frame => exact execFrameReceived_answers mac m frame s
  | imageLoadDone bad => exact execImageLoadDone_answers bad s
  | flashProgramDone => exact execFlashProgramDone_answers s
  | facetOverrun n => exact execFacetOverrun_answers n s
  | firmwareItemComplete => exact execFirmwareItemComplete_answers s
  | lensLoadDone bus bank => exact execLensLoadDone_answers bus bank s
  | genDone => exact execGenDone_answers s
  | modeEntry => exact execModeEntry_answers s
  | registerWrite a v => exact execRegisterWrite_answers a v s
  | xbarGrant target withdrawn => exact execXbarGrant_answers target withdrawn s
  | xbarComplete master tag e held => exact execXbarComplete_answers master tag e held s
  | xbarTimeout master tag => exact execXbarTimeout_answers master tag s
  | bulkCopyDone n => exact execBulkCopyDone_answers n s
  | sysResetApply => exact execSysResetApply_answers s
  | safeEntry => exact execSafeEntry_answers s
  | refresh | mr4Poll | dlyApply | retrainEnd | linkPoll | txRingEnable | rxRingReturn | rxRingEnable | pps | refclkMissing | refclkPresent
    | ddrRelockEnd | portFrameEdge | grpLost | syncInEdge | legDown | firmwareStart | chainBootForward | networkStart | rtRelease | cutOff
    | obsWindowEnd | actInConfirmed | marginClr | micStuck | micTransition | parkDefault | hostifDbgWinWrite | functionLevelReset | linkDown
    | startupPark | warmResetRelease | powerFail | powerFailRestart | watchdogExpiry | autoReset | eventItem | bootGo =>
    exact .ite .next .next
  | lockAcq | lockRel | txRingTailWrite | capEdge | xbarRequest | mirActInChange | heartbeatCheck | bar2Access | pcieLinkUp | pciePerstN
    | porstNRelease | tailBlockBoundary => exact .ite .next (.ite .next .next)
  | scrub => exact .ite (.ite .next .next) .next
  | nonaudioRelease => exact .ite (.ite .next .next) (.ite .next .next)
  | spiTransaction => exact .ite .next (.ite .next (.ite .next .next))
  | switchTick => exact .ite .next (.ite .next (.ite .next (.ite .next .next)))
  | quantumBoundary => exact .ite .next (.ite (.ite .next (.ite .next .next)) .next)
  | lockWindowEnd => exact .ite .next (.ite (.ite .next (.ite .next .next)) (.ite .next .next))
  | debugWindowAccess => exact .ite .next (.ite .next (.ite .next (.ite .next (.ite .next .next))))
  | _ => exact .next

/-- Settles O54: a tick answers by definition, a command as every row does. -/
theorem everyStepAnswersNext : Obligations.EveryStepAnswersNext := by
  intro s
  show Answers (step s)
  unfold step
  split
  · exact .next
  · exact exec_answers _ _

end Sys2Proof.Machine
end

section
/-! PROOFS. Time: the front command and the tick of an empty queue (R32, R33, R242, R257, R467, R468, R472), and QUANTUM_BOUNDARY (R17, R21, R34; which
boundary the row carries out, and what it moves on under a reset, is the model's choice, notes/assumptions/18). -/

namespace Sys2Proof.Machine

/-! ### What a tick changes -/

/-- t is s but for the performance counters. -/
def State.CountsOnly (s t : State) : Prop := ∃ p : Perf, t = { s with perf := p }

theorem State.CountsOnly.refl (s : State) : s.CountsOnly s := ⟨s.perf, rfl⟩

theorem State.CountsOnly.trans {s t u : State} (h : s.CountsOnly t) (k : t.CountsOnly u) : s.CountsOnly u := by
  obtain ⟨p, rfl⟩ := h
  obtain ⟨q, rfl⟩ := k
  exact ⟨q, rfl⟩

theorem State.perfRaw_countsOnly (s : State) (i n : Nat) : s.CountsOnly (s.perfRaw i n) := by
  unfold State.perfRaw
  dsimp only
  split
  · exact ⟨_, rfl⟩
  · exact ⟨_, rfl⟩

theorem State.condCount_countsOnly (s : State) (k i : Nat) : s.CountsOnly (s.condCount k i) := by
  unfold State.condCount
  split
  · exact .refl s
  · split
    · exact s.perfRaw_countsOnly i _
    · split
      · exact .refl s
      · exact s.perfRaw_countsOnly i 1

/-- Steps applied to the elements of a list change no more than each of them does. -/
theorem State.each_countsOnly {α : Type} {f : State → α → State} (h : ∀ (t : State) (a : α), t.CountsOnly (f t a)) (l : List α) (s : State) :
    s.CountsOnly (s.each l f) := by
  unfold State.each
  induction l generalizing s with
  | nil => exact .refl s
  | cons a l ih => exact (h s a).trans (ih (f s a))

/-- The conditions change the performance counters and, while the tick is not locked to media samples, take a free value. -/
theorem State.condPass_eq (s : State) (k : Nat) : ∃ (p : Perf) (n : Nat), s.condPass k = { s with perf := p, freeCnt := n } := by
  unfold State.condPass
  split
  · exact ⟨s.perf, s.freeCnt, rfl⟩
  · obtain ⟨p, hp⟩ := State.each_countsOnly (fun t i => t.condCount_countsOnly k i) s.conditions s
    dsimp only
    rw [hp]
    split
    · exact ⟨_, s.freeCnt, rfl⟩
    · exact ⟨_, s.freeCnt + 1, rfl⟩

/-- Where no condition holds, every counter keeps its count. -/
theorem State.condPass_cnt {s : State} (k : Nat) (h : s.conditions = []) : (s.condPass k).perf.cnt = s.perf.cnt := by
  unfold State.condPass
  rw [h]
  dsimp only
  split
  · rfl
  · split <;> rfl

/-- One tick: the counter and the count of event ticks rise by one. -/
theorem State.passTicks_one (s : State) : (s.passTicks 1).time.tick = s.time.tick + 1 ∧ (s.passTicks 1).time.eventTick = s.time.eventTick + 1 ∧
    { s.passTicks 1 with time := s.time, perf := s.perf, freeCnt := s.freeCnt } = s := by
  obtain ⟨p, n, hc⟩ := s.condPass_eq 1
  unfold State.passTicks
  rw [hc]
  exact ⟨rfl, rfl, rfl⟩

/-! ### The idle tick -/

theorem step_of_empty {s : State} (h : s.pending = []) : step s = .next s.idleTick := by
  unfold step
  rw [h]

theorem State.idleTick_stopped {s : State} (h : s.clockRuns = false) : s.idleTick = s := by
  unfold State.idleTick
  rw [if_neg (by simp [h])]

theorem State.idleTick_running {s : State} (h : s.clockRuns = true) : s.idleTick = (s.passTicks 1).idleStep := by
  unfold State.idleTick
  rw [if_pos h]

/-- A tick changes neither the mode nor the step that waits. -/
theorem State.passTicks_live (s : State) (k : Nat) : (s.passTicks k).live = s.live := by
  obtain ⟨p, n, hc⟩ := s.condPass_eq k
  unfold State.passTicks
  rw [hc]
  rfl

theorem TimeSt.pass_step (x : TimeSt) (w k : Nat) : (x.pass w k).step = x.step := by
  unfold TimeSt.pass
  split <;> rfl

theorem State.passTicks_step (s : State) (k : Nat) : (s.passTicks k).time.step = s.time.step := by
  obtain ⟨p, n, hc⟩ := s.condPass_eq k
  unfold State.passTicks
  rw [hc]
  exact TimeSt.pass_step s.time _ k

/-- In a live mode, or with no step, none is applied. -/
theorem State.idleStep_none {s : State} (h : s.live = true ∨ s.time.step = none) : s.idleStep = s := by
  unfold State.idleStep
  split
  · rfl
  · next hl =>
    unfold State.parkStep
    rw [h.resolve_left hl]

theorem State.idleStep_park {s : State} (h : s.live = false) : s.idleStep = s.parkStep := by
  unfold State.idleStep
  rw [if_neg (by simp [h])]

/-- Settles O47: that is how a step takes the front command. -/
theorem stepRunsTheFrontCommand : Obligations.StepRunsTheFrontCommand :=
  fun _ _ _ => rfl

/-- Settles O48: the idle tick with the clock stopped, with no step to apply, and with one. -/
theorem emptyQueueIsOneTick : Obligations.EmptyQueueIsOneTick := by
  refine ⟨fun s hq hc => ?_, fun s hq hc hw => ?_, fun s hq hc hl _ => ?_⟩
  · rw [step_of_empty hq, State.idleTick_stopped hc]
  · have hidle : s.idleTick = s.passTicks 1 := by
      rw [State.idleTick_running hc, State.idleStep_none (by rwa [State.passTicks_live, State.passTicks_step])]
    obtain ⟨htick, hevent, hframe⟩ := s.passTicks_one
    exact ⟨s.passTicks 1, hidle ▸ step_of_empty hq, htick, hevent, hframe, State.condPass_cnt 1⟩
  · rw [step_of_empty hq, State.idleTick_running hc, State.idleStep_park (by rwa [State.passTicks_live])]

/-! ### QUANTUM_BOUNDARY -/

/-- The boundary row by its three cases: the step's tick before the boundary's, the boundary's own, or no step that waits for either. The
boundary is carried out on u. -/
theorem execQuantumBoundary_eq (env : BoundaryEnv) {s u : State} (h : s.clockRuns = true)
    (hu : u = if s.stepWaits = true ∧ s.time.tick + 1 < s.boundaryNo * s.time.tq then s.idleTick else s) :
    execQuantumBoundary env s = .next
      (if s.stepWaits = true ∧ s.time.tick + 1 = s.boundaryNo * s.time.tq then (u.atBoundary env).idleStep else u.atBoundary env) := by
  subst hu
  unfold execQuantumBoundary
  rw [if_neg (by simp [h])]
  by_cases hw : s.stepWaits = true
  · obtain hlt | heq | hgt := Nat.lt_trichotomy (s.time.tick + 1) (s.boundaryNo * s.time.tq)
    · simp [hw, hlt, hlt.ne]
    · simp [hw, heq, show s.time.tick < s.boundaryNo * s.time.tq by omega]
    · simp [hw, hgt.ne', hgt.le.not_gt, show ¬ s.time.tick < s.boundaryNo * s.time.tq by omega]
  · simp [hw]

theorem State.atBoundary_running (env : BoundaryEnv) {u t : State} (ht : t = u.tickTo (u.boundaryNo * u.time.tq)) (hp : t.sys.phase = .running) :
    u.atBoundary env = t.boundary u.boundaryNo env := by
  subst ht
  exact if_pos hp

theorem State.atBoundary_held (env : BoundaryEnv) {u t : State} (ht : t = u.tickTo (u.boundaryNo * u.time.tq)) (hp : t.sys.phase ≠ .running) :
    u.atBoundary env = t.onTime (fun x => { x with lastQ := u.boundaryNo }) := by
  subst ht
  exact if_neg hp

/-- Settles O41: the row's cases, and in each the boundary of the state it is carried out on. -/
theorem quantumBoundaryAdvances : Obligations.QuantumBoundaryAdvances := by
  refine ⟨fun env s u t n at_ hc hat hu hn ht hp => ?_, fun env s u t n at_ hc hat hu hn ht hp => ?_⟩
  · subst hat hn
    have hb : u.atBoundary env = t.boundary u.boundaryNo env := State.atBoundary_running env ht hp
    exact hb ▸ execQuantumBoundary_eq env hc hu
  · subst hat hn
    have hb : u.atBoundary env = t.onTime (fun x => { x with lastQ := u.boundaryNo }) := State.atBoundary_held env ht hp
    exact hb ▸ execQuantumBoundary_eq env hc hu

end Sys2Proof.Machine
end

section
/-! PROOFS. The mailbox unit's rows: what each comes to under its rule's premises (R33, R35, R387, R389 to R392, R394). -/

namespace Sys2Proof.Machine

/-- While no reset holds the mailbox unit, the host's access is carried out. -/
theorem State.mbxAccess_running {s : State} (t : State) (h : s.sys.phase = .running) : s.mbxAccess t = t := by
  unfold State.mbxAccess
  rw [if_pos h]

theorem State.doorbell_running {s : State} (bits : Nat) (h : s.sys.phase = .running) :
    s.doorbell bits = s.each ((List.range 8).filter (fun n => bitOf bits n)) (fun t n => t.ring n) := by
  unfold State.doorbell
  rw [if_neg (by simp [h])]

/-- CONS takes a written word that is not beyond PROD (R394). -/
theorem State.evrCons_word (s : State) (v : Word) : s.evrCons v.toNat =
    if (s.rd Reg.MBX_EVR_PROD + 2 ^ 32 - v.toNat) % 2 ^ 32 < 2 ^ 31 then s.wr Reg.MBX_EVR_CONS v.toNat else s := by
  unfold State.evrCons
  rw [Nat.mod_eq_of_lt v.isLt]

theorem execCommandHandle_running {s : State} (glitch : Bool) (hp : s.sys.phase = .running) (hf : s.sys.fwRunning = true) :
    execCommandHandle glitch s = .next (s.handleHead glitch) := by
  unfold execCommandHandle
  rw [if_pos ⟨hp, hf⟩]

/-- A posted slot at the head of the queue is handled (R390). -/
theorem State.handleHead_posted {s : State} {n : Nat} {q : List Nat} (glitch : Bool) (hq : s.mbx.queue = n :: q) (hh : s.heldJob n = none) :
    s.handleHead glitch = s.handleSlot n glitch := by
  unfold State.handleHead
  simp only [hq, hh]

/-- A held command at the head of the queue is executed (R392). -/
theorem State.handleHead_held {s : State} {n : Nat} {q : List Nat} {j : Job} (glitch : Bool) (hq : s.mbx.queue = n :: q)
    (hh : s.heldJob n = some j) : s.handleHead glitch = s.runHeldJob n j := by
  unfold State.handleHead
  simp only [hq, hh]

/-- A slot whose bytes read right, and which need not wait, is popped, taken, counted where its first read failed, and judged (R390). -/
theorem State.handleSlot_judged {s : State} {n : Nat} {b p : Bytes} (glitch : Bool) (hb : b = s.slotRaw8 n) (hlen : u16At b 4 ≤ 240)
    (hcrc : crcOk b = true) (hpay : p = slice b 16 (u16At b 4)) (hw : s.mustWait (u16At b 0) p = false) {t : State}
    (ht : t = (s.popQueue n).taken (hdrOf n b) (u16At b 0)) :
    s.handleSlot n glitch =
      (if glitch then t.bump (Reg.MBX_CNT 2) else t).judgeSlot (hdrOf n b) (u16At b 0) (u32At b 12) p := by
  subst hb hpay ht
  unfold State.handleSlot
  simp [hlen, hcrc, hw, hlen.not_gt]

theorem State.runHeldJob_launch {s : State} (n : Nat) {j : Job} {c : CmdDef} (hw : s.mustWait j.op j.payload = false)
    (hc : commandOf j.op = some c) : s.runHeldJob n j =
      c.launch j.hdr j.payload ((s.popQueue n).onMbx (fun x => { x with held := x.held.filter (fun k => k != j) })) := by
  unfold State.runHeldJob
  simp [hw, hc]

/-- The end of a bulk transfer finishes its command (R391). -/
theorem execBulkCopyDone_finish {s : State} {n : Nat} {j : Job} {c : CmdDef} (hj : s.mbx.bulk.find? (fun k => k.hdr.slot == n) = some j)
    (hc : commandOf j.op = some c) : execBulkCopyDone n s =
      .next (c.finish j.hdr j.payload (s.onMbx (fun x => { x with bulk := x.bulk.filter (fun k => k != j) }))) := by
  unfold execBulkCopyDone
  simp only [hj, hc]

/-- Settles O22: one lemma for each row, and for COMMAND_HANDLE one for each kind of head. -/
theorem mailboxUnitAccesses : Obligations.MailboxUnitAccesses := by
  refine ⟨fun bits s hp => ?_, fun bits s hp => ?_, fun off d s hp => ?_, fun v s hp => ?_, fun v s hp => ?_,
    fun glitch s t n q b p hp hf hq hh hb hlen hcrc hpay hw ht => ?_, fun glitch s n q j c hp hf hq hh hw hc => ?_,
    fun n s j c hj hc => execBulkCopyDone_finish hj hc⟩
  · exact congrArg Host.Outcome.next (State.doorbell_running bits.toNat hp)
  · exact congrArg Host.Outcome.next (State.mbxAccess_running _ hp)
  · exact congrArg Host.Outcome.next (State.mbxAccess_running _ hp)
  · exact congrArg Host.Outcome.next (State.mbxAccess_running _ hp)
  · exact congrArg Host.Outcome.next ((State.mbxAccess_running _ hp).trans (s.evrCons_word v))
  · refine (execCommandHandle_running glitch hp hf).trans (congrArg Host.Outcome.next ?_)
    rw [State.handleHead_posted glitch hq hh, State.handleSlot_judged glitch hb hlen hcrc hpay hw ht]
  · refine (execCommandHandle_running glitch hp hf).trans (congrArg Host.Outcome.next ?_)
    rw [State.handleHead_held glitch hq hh, State.runHeldJob_launch n hw hc]

end Sys2Proof.Machine
end

section
/-! PROOFS. The scheduler's rows: what each comes to under its rule's premises (R25, R293, R294, R303, R308, R309, R313, R315, R317, R321). -/

namespace Sys2Proof.Machine

theorem execRtRelease_enabled {s : State} (h : s.bit Reg.SCHED_CTRL 0 = true) : execRtRelease s =
    .next ((s.each s.liveInserts (fun u e => u.releaseTask e)).onSched (fun x => { x with rtReleased := true })) := by
  unfold execRtRelease
  rw [if_pos h]

theorem execCutOff_released {s : State} (h : s.sched.rtReleased = true) : execCutOff s =
    .next ((s.each s.liveInserts (fun u e => u.cutTask e)).onSched (fun x => { x with rtReleased := false })) := by
  unfold execCutOff
  rw [if_pos h]

/-- The insert task resident on the core ends, charged its declared cycles at least (R294). -/
theorem execFacetOverrun_resident {s : State} {n slot l : Nat} {i : Item} (hr : s.resident n = some slot) (hi : s.item? slot = some i)
    (hl : s.facetLimit i = some l) : execFacetOverrun n s =
      .next (s.facetOverrun n slot { i with ctx := { i.ctx with charged := max l i.ctx.charged } }) := by
  unfold execFacetOverrun
  simp only [hr, hi, hl]

/-- The best item that may be served goes to its server, if that server can give up its resident (R308, R295). -/
theorem State.dispatchNext_best {s u : State} {slot n : Nat} {i : Item} (lat : Nat) (he : s.bit Reg.SCHED_CTRL 0 = true)
    (hu : u = s.refillAll.noteBlocks) (hb : u.bestReady (fun j => u.mayServe j && (u.serverFor j).isSome) = some (slot, i))
    (hs : u.serverFor i = some n) (hr : u.repeating n = false) : s.dispatchNext lat = u.dispatchTo slot i n lat := by
  subst hu
  unfold State.dispatchNext
  rw [if_neg (by simp [he])]
  simp [hb, hs, hr]

theorem execResumeI_core {n : Nat} (s : State) (h : n < 8) : execResumeI n s = .next ((s.resumeCore n).resumeLimit n) := by
  unfold execResumeI
  rw [if_pos h]

theorem State.onSched_bit (s : State) (f : Sched → Sched) (a i : Nat) : (s.onSched f).bit a i = s.bit a i := by
  unfold State.bit
  rw [State.rd_congr (t := s.onSched f) (s := s) rfl a]

/-- A tick edge of a delay list, with the scheduler enabled, expires what is due (R315). -/
theorem State.listTickEdge_enabled {u t : State} {n k : Nat} (he : u.bit Reg.SCHED_CTRL 0 = true) (hk : k = tget 0 u.sched.listTick n + 1)
    (ht : t = u.onSched (fun x => { x with listTick := tput u.sched.listTick n k })) :
    u.listTickEdge n = t.each (t.expired n k) (fun v e => v.expire e.1 e.2) := by
  have hb : t.bit Reg.SCHED_CTRL 0 = true := by rw [ht, State.onSched_bit, he]
  subst hk ht
  exact if_pos hb

theorem execTimerExpiry_list {s u : State} {n : Nat} (h : n < 4) (hu : u = s.refillOlder) : execTimerExpiry n s = .next (u.listTickEdge n) := by
  unfold execTimerExpiry
  rw [if_pos h, hu]

/-- Firmware's own item comes at the level and flow it gives (R317). -/
theorem execEventItem_firmware {v : Nat} {s : State} (flow : Option Nat) (arg : Bytes) (h2 : 2 ≤ v) (h7 : v ≤ 7) (hf : s.sys.fwRunning = true) :
    execEventItem none v flow arg s = .next (s.newEvent ⟨none, v, flow, 256, arg, false⟩) := by
  unfold execEventItem
  simp [h2, h7, hf, State.eventMask]

/-- A timed or background Facet task's item comes at the task's level and flow (R302, R304). -/
theorem execEventItem_task {t : Nat} {s : State} (v : Nat) (flow : Option Nat) (arg : Bytes) (h2 : 2 ≤ (s.task t).level)
    (h7 : (s.task t).level ≤ 7) (hf : s.sys.fwRunning = true) (he : (s.task t).enabled = true) (hi : (s.task t).insert = false) :
    execEventItem (some t) v flow arg s =
      .next (s.newEvent ⟨some t, (s.task t).level, (s.task t).flow, (s.task t).mask, arg, false⟩) := by
  unfold execEventItem
  simp [h2, h7, hf, he, hi, State.eventMask]

theorem execFirmwareItemComplete_resident {s : State} {slot : Nat} {i : Item} (hr : s.resident 8 = some slot) (hi : s.item? slot = some i) :
    execFirmwareItemComplete s = .next (s.completeItem slot i) := by
  unfold execFirmwareItemComplete
  simp only [hr, hi]

/-- A window ends: the nine servers' values are latched and a window begins with the items that are ready (R321). -/
theorem execObsWindowEnd_enabled {s t : State} (h : s.bit Reg.OBS_CTRL 0 = true)
    (ht : t = s.obsTouch.each (List.range 9) (fun u n => u.latchObs n)) : execObsWindowEnd s = .next (t.onSched (fun x => { x with
      obs := (List.range 9).foldl (fun v n => tset Obs.init v n ⟨0, t.readyFor n, 0, 0, 0⟩) [], obsStart := t.time.eventTick })) := by
  subst ht
  exact if_pos h

/-- Settles O37: one lemma for each row. -/
theorem schedulerRows : Obligations.SchedulerRows := by
  refine ⟨fun s h => execRtRelease_enabled h, fun s h => execCutOff_released h, fun n slot l i c s hr hi hl hc => ?_,
    fun lat slot n i s u he hu hb hs hr => congrArg Host.Outcome.next (State.dispatchNext_best lat he hu hb hs hr),
    fun n s h => execResumeI_core s h, fun n k s u t hn hu he hk ht => ?_,
    fun v flow arg s h2 h7 hf => execEventItem_firmware flow arg h2 h7 hf,
    fun t v flow arg s h2 h7 hf he hi => execEventItem_task v flow arg h2 h7 hf he hi,
    fun slot i s hr hi => execFirmwareItemComplete_resident hr hi, fun s t h ht => execObsWindowEnd_enabled h ht⟩
  · exact hc ▸ execFacetOverrun_resident hr hi hl
  · exact (execTimerExpiry_list hn hu).trans (congrArg Host.Outcome.next (State.listTickEdge_enabled he hk ht))

end Sys2Proof.Machine
end

section
/-! PROOFS. The event rows of the ports, the microphones and the generator: what each comes to under its rule's premises (R31, R156, R169, R185,
R186, R189, R200, R202, R255, R266). -/

namespace Sys2Proof.Machine

/-- An active FS edge of a configured group ends its frame and begins the next (R189). -/
theorem execPortFrameEdge_frame {g : Nat} {d : FsEdge} {s : State} (b : Nat) (hg : g < 8) (hd : s.discards = false) (hp : s.portsRun = true)
    (hm : s.grpMode g ≠ 0) (he : s.isFrameEdge g d.rising = true) : execPortFrameEdge g b d s =
      .next ((((s.closeFrame g b d.pins).openFrame g).each (grpPorts g) (fun t p => t.adoptMask p)).driveGroup g) := by
  unfold execPortFrameEdge
  rw [if_neg (by simp [hg, hd, hp, hm, he])]

/-- A slave group whose last edge lies 4 frame periods back is lost (R186). -/
theorem execGrpLost_late {g e : Nat} {s t : State} (hg : g < 8) (hp : s.portsRun = true) (hm : s.grpMode g = 2) (hl : (s.grp g).lost = false)
    (he : (s.grp g).edge = some e) (h4 : e + 4 * s.time.tps ≤ s.time.tick)
    (ht : t = ((((s.setGrp g { s.grp g with lost := true, index := none, due := none, freshAt := none }).raise (Reg.GRP_STAT g) 28).bump
      (Reg.GRP_CNT g 1)).raise Reg.PORTS_INT_STATUS 3)) :
    execGrpLost g s = .next ((t.portAlert g 1 0).each (grpPorts g) (fun u p => u.undrive p)) := by
  subst ht
  exact if_neg (by simp [hg, hp, hm, hl, he, h4])

/-- A rise of SYNC_IN acts on the groups while PORT runs (R202). -/
theorem execSyncInEdge_ports {s : State} (hd : s.discards = false) (hp : s.portsRun = true) : execSyncInEdge true s =
    .next ((((((s.bump (Reg.PORTS_CNT 0)).onPorts (fun x => { x with syncMoved := false })).each (List.range 8)
      (fun t g => t.syncGroup g)).syncServo (s.time.tick - 2)).syncRegen)) := by
  unfold execSyncInEdge
  rw [if_neg (by simp [hd])]
  dsimp only
  rw [if_pos hp]

/-- With PORT stopped, a rise of SYNC_IN is still the servo's reference and regenerated (R255, R266). -/
theorem execSyncInEdge_noPorts {s : State} (hd : s.discards = false) (hp : s.portsRun = false) :
    execSyncInEdge true s = .next ((s.syncServo (s.time.tick - 2)).syncRegen) := by
  unfold execSyncInEdge
  rw [if_neg (by simp [hd])]
  dsimp only
  rw [if_neg (by simp [hp])]

/-- A port slot that is muted is released after 4,096 samples (R200). -/
theorem State.naRelease_due {i k : Nat} {s : State} {a : NaSt} (ha : a = tget NaSt.init (s.port i).na k) (hm : a.muted = true)
    (hc : 4096 ≤ a.count) : s.naRelease i k =
      s.setPort i { s.port i with na := tset NaSt.init (s.port i).na k { a with muted := false, fade := true } } := by
  subst ha
  exact if_pos ⟨hm, hc⟩

/-- A stream channel that is muted is released after 4,096 samples (R200). -/
theorem State.naReleaseCtx_due {i k : Nat} {s : State} {a : NaSt} (ha : a = tget NaSt.init (s.ctx i).na k) (hm : a.muted = true)
    (hc : 4096 ≤ a.count) : s.naReleaseCtx i k =
      s.setCtx i { s.ctx i with na := tset NaSt.init (s.ctx i).na k { a with muted := false, fade := true } } := by
  subst ha
  exact if_pos ⟨hm, hc⟩

theorem execNonaudioRelease_slot {i k : Nat} (s : State) (hi : i < 64) (hk : k < 16) :
    execNonaudioRelease false i k s = .next (s.naRelease i k) := by
  unfold execNonaudioRelease
  rw [if_neg (by simp), if_pos ⟨hi, hk⟩]

theorem execNonaudioRelease_channel {i k : Nat} (s : State) (hi : i < 255) (hk : k < 64) :
    execNonaudioRelease true i k s = .next (s.naReleaseCtx i k) := by
  unfold execNonaudioRelease
  rw [if_pos rfl, if_pos ⟨hi, hk⟩]

theorem execMicStuck_on {c : Nat} {s : State} (hc : c < 16) (hon : (s.mic c).on = true) (hs : (s.mic c).stuck = false) : execMicStuck c s =
    .next (((s.setMic c { s.mic c with stuck := true, stuckSticky := true, stuckAt := some s.time.sample }).bump
      (Reg.DECIM_CNT 0)).raise Reg.DECIM_INT_STATUS 3) := by
  unfold execMicStuck
  rw [if_neg (by simp [hc, hon, hs])]

theorem execMicTransition_stuck {c : Nat} {s : State} (hc : c < 16) (hs : (s.mic c).stuck = true) : execMicTransition c s =
    .next (s.setMic c { s.mic c with
      stuck := false, stuckAt := none, wasStuck := (s.mic c).stuckAt.map (fun a => (a, s.time.sample)) }) := by
  unfold execMicTransition
  rw [if_neg (by simp [hc, hs])]

/-- The end of the last repeat of a sweep, told once (R169). -/
theorem execGenDone_ended {s : State} {c : GenSet} {st : Int} (hc : s.meas.gen.cfg = some c) (hst : s.meas.gen.start = some st)
    (hd : s.meas.gen.sweepDone = false) (he : c.sweepEnd ≤ 8 * (s.firstRender - st)) : execGenDone s =
      .next (((s.onMeas (fun x => { x with gen := { x.gen with sweepDone := true } })).raise Reg.DECIM_INT_STATUS 2).post 0x6001 (le8 0)) := by
  unfold execGenDone
  simp only [hc, hst]
  rw [if_neg (by simp [hd, he])]

/-- Settles O38: one lemma for each row. -/
theorem portMicrophoneAndSweepEvents : Obligations.PortMicrophoneAndSweepEvents := by
  refine ⟨fun g b d s hg hd hp hm he => execPortFrameEdge_frame b hg hd hp hm he,
    fun g e s t hg hp hm hl he h4 ht => execGrpLost_late hg hp hm hl he h4 ht, fun s hd hp => execSyncInEdge_ports hd hp,
    fun s hd hp => execSyncInEdge_noPorts hd hp, fun i k s a hi hk ha hm hc => ?_, fun i k s a hi hk ha hm hc => ?_,
    fun c s hc hon hs => execMicStuck_on hc hon hs, fun c s hc hs => execMicTransition_stuck hc hs,
    fun s c st hc hst hd he => execGenDone_ended hc hst hd he⟩
  · exact (execNonaudioRelease_slot s hi hk).trans (congrArg Host.Outcome.next (State.naRelease_due ha hm hc))
  · exact (execNonaudioRelease_channel s hi hk).trans (congrArg Host.Outcome.next (State.naReleaseCtx_due ha hm hc))

end Sys2Proof.Machine
end

section
/-! PROOFS. The reset state and the commands of the scene: layouts, air, objects, maps, listeners and models, each by what its body comes to
once its checks pass (R39, R40, R48, R49, R60, R70 to R77, R107, R113, R128, R408 to R410). -/

namespace Sys2Proof.Machine

/-! ### What the bodies read is as it was before the command was taken -/

@[simp] theorem State.taken_busCount (s : State) (h : Hdr) (op : Nat) : (s.taken h op).busCount = s.busCount := by
  simp [State.busCount]

@[simp] theorem State.taken_rendering (s : State) (h : Hdr) (op : Nat) : (s.taken h op).rendering = s.rendering := by
  simp [State.rendering]

@[simp] theorem State.taken_bufOk (s : State) (h : Hdr) (op : Nat) (b : Buf) : (s.taken h op).bufOk b = s.bufOk b := by
  simp [State.bufOk, State.bufSpace]

@[simp] theorem State.taken_obj (s : State) (h : Hdr) (op j : Nat) : (s.taken h op).obj j = s.obj j := by
  simp [State.obj]

@[simp] theorem State.taken_commitHeld (s : State) (h : Hdr) (op : Nat) : (s.taken h op).commitHeld = s.commitHeld := by
  simp [State.commitHeld]

@[simp] theorem State.taken_outputLast (s : State) (h : Hdr) (op : Nat) : (s.taken h op).outputLast = s.outputLast := by
  simp [State.outputLast]

@[simp] theorem State.onScene_bufOk (s : State) (f : Scene → Scene) (b : Buf) : (s.onScene f).bufOk b = s.bufOk b := rfl

theorem State.onScene_bufRead (s : State) (f : Scene → Scene) (b : Buf) (n : Nat) : (s.onScene f).bufRead b n = s.bufRead b n := rfl

theorem State.onScene_busCount (s : State) (f : Scene → Scene) : (s.onScene f).busCount = s.busCount := rfl

/-! ### Checks -/

theorem lenIs_iff {n : Nat} {p : Bytes} : lenIs n p = true ↔ p.length = n := beq_iff_eq

/-- The first failing check of a list is the answer, and the state stays (R390). -/
theorem checked_bad {s : State} {l : List (Bool × Resp)} {ok : State × Resp} {r : Resp} (h : firstBad l = some r) :
    checked s l ok = (s, r) := by
  simp [checked, h]

/-- With no failing entry the command has its effect. -/
theorem checkedEntries_pass {s : State} {es : List Bytes} {bad : Nat → Bytes → Option Resp} {ok : State × Resp} (h : badEntry es bad = none) :
    checkedEntries s es bad ok = ok := by
  simp [checkedEntries, h]

/-- A served command that answers OK, in one step. -/
theorem CmdDef.exec_ok (c : CmdDef) (h : Hdr) (p d : Bytes) {s t : State} (hs : s.Serves c.legal) (hl : c.len p = true)
    (hb : c.bulk p = false ∨ s.BulkRoom) (hc : c.body h p (s.taken h c.op) = (t, Resp.ok d)) :
    c.exec h p s = .next (t.respond h c.op p (Resp.ok d)) :=
  c.exec_served h p hs hl hb hc (by decide : stOk ≠ stPending)

/-! ### Layouts (R48, R49) -/

/-- The layout of a buffer that passes R47 is staged, if no commit waits. -/
theorem cmdLayoutLoad_stages (h : Hdr) {p d : Bytes} {s : State} (hb : s.bufOk (bufAt p 0) = true) (hn : (bufAt p 0).len ≤ 275008)
    (hd : s.bufRead (bufAt p 0) (bufAt p 0).len = d) (hl : layoutBad d (bufAt p 0).len s.busCount = none) (hw : s.commitHeld = false) :
    cmdLayoutLoad.body h p s =
      (s.onScene (fun x => { x with loadAt := none, staged := some (layoutAt d) }), Resp.ok (le32 (u32At d 36))) := by
  subst hd
  simp only [cmdLayoutLoad, mkBulk]
  rw [if_neg (by simpa using ⟨hb, hn⟩), State.onScene_bufRead, State.onScene_busCount, hl]
  exact checked_ok (by simpa using hw)

/-- In RENDER and MIRROR a commit of the staged layout waits for the next setup. -/
theorem cmdLayoutCommit_waits (h : Hdr) (p : Bytes) {s : State} {l : Layout} (hr : s.rendering = true) (hw : s.scene.commitWait = false)
    (hl : s.scene.staged = some l) :
    cmdLayoutCommit.body h p s = (s.onScene (fun x => { x with commitWait := true }), Resp.ok (le32 l.tag)) := by
  refine (checked_ok (by simp [hw, hl])).trans ?_
  rw [if_pos hr, hl]
  rfl

/-- In PARK and MEASURE a commit exchanges the layouts at once. -/
theorem cmdLayoutCommit_swaps (h : Hdr) (p : Bytes) {s : State} {l : Layout} (hr : s.rendering = false) (hw : s.scene.commitWait = false)
    (hl : s.scene.staged = some l) :
    cmdLayoutCommit.body h p s =
      (s.onScene (fun x => { x with active := some l, staged := s.scene.active, commitWait := false }), Resp.ok (le32 l.tag)) := by
  refine (checked_ok (by simp [hw, hl])).trans ?_
  rw [if_neg (by simp [hr]), State.swapLayouts, hl]
  rfl

/-! ### Air (R39, R40) -/

/-- A temperature in range starts a ramp of 64 setups to its speed of sound. -/
theorem exec_airSet_inRange (h : Hdr) {p : Bytes} {s : State} (hs : s.Serves modesCfg) (hp : p.length = 4) (h1 : -200 ≤ s16At p 0)
    (h2 : s16At p 0 ≤ 500) : exec (.airSet h p) s = .next
      (((s.taken h 0x1010).onScene (fun x => { x with airT := s16At p 0, cTarget := airSpeed (s16At p 0), cLeft := 64 })).respond
        h 0x1010 p Resp.ok) := by
  have hb : cmdAirSet.body h p (s.taken h 0x1010) = ((s.taken h 0x1010).onScene (fun x =>
      { x with airT := s16At p 0, cTarget := airSpeed (s16At p 0), cLeft := 64 }), Resp.ok) :=
    checked_ok (by simpa using ⟨h1, h2⟩)
  exact cmdAirSet.exec_ok h p [] hs (lenIs_iff.2 hp) (.inl rfl) hb

/-- A temperature out of range is answered ERR_RANGE at offset 0 and changes nothing (R39). -/
theorem exec_airSet_outOfRange (h : Hdr) {p : Bytes} {s : State} (hs : s.Serves modesCfg) (hp : p.length = 4)
    (hr : s16At p 0 < -200 ∨ 500 < s16At p 0) :
    exec (.airSet h p) s = .next ((s.taken h 0x1010).respond h 0x1010 p (Resp.errF stRange 0)) := by
  have hb : cmdAirSet.body h p (s.taken h 0x1010) = (s.taken h 0x1010, Resp.errF stRange 0) :=
    checked_bad (by simp [firstBad, hr])
  exact cmdAirSet.exec_served h p hs (lenIs_iff.2 hp) (.inl rfl) hb (by decide : stRange ≠ stPending)

/-! ### Objects (R60, R408, R409) -/

/-- A list of at most 58 entries stands in the payload behind its head. -/
theorem cmdObjectDirectSet_inline (h : Hdr) {p : Bytes} {s : State} (hn : u16At p 2 ≤ 58) (hj : u16At p 0 ≤ 1023)
    (he : badEntry (entries 4 (p.drop 8)) (directBad s.busCount 8 (entries 4 (p.drop 8))) = none) :
    cmdObjectDirectSet.body h p s = (s.setObj (u16At p 0) { s.obj (u16At p 0) with
      direct := (entries 4 (p.drop 8)).map (fun e => (u16At e 0, s16At e 2)) }, Resp.ok) := by
  have hn' : u16At p 2 ≤ 256 := by omega
  refine (checked_ok (by simp [hj, hn'])).trans ?_
  rw [if_pos hn]
  exact checkedEntries_pass he

/-- A longer list stands in the buffer that the payload names. -/
theorem cmdObjectDirectSet_buffer (h : Hdr) {p : Bytes} {es : List Bytes} {s : State} (hlo : 58 < u16At p 2) (hhi : u16At p 2 ≤ 256)
    (hj : u16At p 0 ≤ 1023) (hb : s.bufOk (bufAt p 8) = true) (hlen : (bufAt p 8).len = 4 * u16At p 2)
    (hes : es = entries 4 (s.bufRead (bufAt p 8) (bufAt p 8).len)) (he : badEntry es (directBad s.busCount 0 es) = none) :
    cmdObjectDirectSet.body h p s = (s.setObj (u16At p 0) { s.obj (u16At p 0) with
      direct := es.map (fun e => (u16At e 0, s16At e 2)) }, Resp.ok) := by
  subst hes
  refine (checked_ok (by simp [hj, hhi])).trans ?_
  rw [if_neg (Nat.not_le.2 hlo), if_neg (by simp [hb, hlen])]
  exact checkedEntries_pass he

/-- The words of a range of objects, the sticky ones cleared on request. -/
theorem cmdObjectStatus_words (h : Hdr) {p : Bytes} {ids : List Nat} {s : State} (h1 : 1 ≤ u16At p 2) (h2 : u16At p 2 ≤ 56)
    (h3 : u16At p 0 + u16At p 2 ≤ 1024) (hids : ids = (List.range (u16At p 2)).map (· + u16At p 0)) :
    cmdObjectStatus.body h p s =
      (if bitOf (u8At p 4) 0 then s.each ids (fun t j => t.setObj j { t.obj j with sticky := 0 }) else s,
        Resp.ok (ids.flatMap (fun j => le16 (s.obj j).word ++ le16 (s.obj j).sticky))) := by
  subst hids
  refine checked_ok ?_
  have hn : u16At p 2 ≠ 0 := by omega
  simp [hn, h2, h3]

/-- Settles O4: one lemma for each body, on the state in which the command has been taken. -/
theorem sceneAndObjectCommands : Obligations.SceneAndObjectCommands := by
  refine ⟨fun h p d s hs hp hr hb hn hd hl hw => ?_, fun h s l hs hr hw hl => ?_, fun h s l hs hr hw hl => ?_,
    fun h p s hs hp h1 h2 => exec_airSet_inRange h hs hp h1 h2,
    fun h p s hs hp => cmdObjectUpdate.exec_ok h p _ hs hp (.inl rfl) rfl, fun h p s hs hn hp hj he => ?_,
    fun h p s es hs hlo hhi hp hr hj hb hlen hes he => ?_, fun h p s ids hs hp h1 h2 h3 hids => ?_⟩
  · exact cmdLayoutLoad.exec_ok h p _ hs (lenIs_iff.2 hp) (.inr hr)
      (cmdLayoutLoad_stages h (by simpa using hb) hn hd (by simpa using hl) (by simpa using hw))
  · exact cmdLayoutCommit.exec_ok h [] _ hs rfl (.inl rfl)
      (cmdLayoutCommit_waits h [] (by simpa using hr) (by simpa using hw) (by simpa using hl))
  · have hc := cmdLayoutCommit_swaps h [] (s := s.taken h 0x1002) (l := l) (by simpa using hr) (by simpa using hw) (by simpa using hl)
    simp only [State.taken_frame] at hc
    exact cmdLayoutCommit.exec_ok h [] _ hs rfl (.inl rfl) hc
  · have hc := cmdObjectDirectSet_inline h (s := s.taken h 0x1101) hn hj (by simpa using he)
    rw [State.taken_obj] at hc
    exact cmdObjectDirectSet.exec_ok h p [] hs (by simp [cmdObjectDirectSet, directLen, hn, hp]) (.inl (by simpa [cmdObjectDirectSet] using hn)) hc
  · have hc := cmdObjectDirectSet_buffer h (s := s.taken h 0x1101) hlo hhi hj (by simpa using hb) hlen hes (by simpa using he)
    rw [State.taken_obj] at hc
    exact cmdObjectDirectSet.exec_ok h p [] hs (by simp [cmdObjectDirectSet, directLen, Nat.not_le.2 hlo, hp]) (.inr hr) hc
  · have hc := cmdObjectStatus_words h (s := s.taken h 0x1102) h1 h2 h3 hids
    simp only [State.taken_obj (s := s)] at hc
    exact cmdObjectStatus.exec_ok h p _ hs (lenIs_iff.2 hp) (.inl rfl) hc

/-- Settles O46: the reset values, and AIR_SET within its range and outside it. -/
theorem airTemperatureSetsTheSpeedOfSound : Obligations.AirTemperatureSetsTheSpeedOfSound := by
  refine ⟨rfl, rfl, rfl, fun h p s hs hp h1 h2 => ⟨_, exec_airSet_inRange h hs hp h1 h2, rfl, ?_, ?_⟩,
    fun h p s hs hp hr => ⟨_, exec_airSet_outOfRange h hs hp hr, ?_, rfl⟩⟩
  · simp [airSpeed]
  · simp
  · simp

/-! ### Maps, listeners and models (R73, R75, R113, R128, R410) -/

/-- The input map's changes wait for the next input assembly (R75). -/
theorem cmdInputMapSet_ok (h : Hdr) {p : Bytes} {s : State}
    (he : ∀ e ∈ entries 6 p, u16At e 0 ≤ 1023 ∧ u8At e 2 ≤ 4 ∧ u16At e 4 < sourceLimit (u8At e 2)) :
    cmdInputMapSet.body h p s = (s.onScene (fun x =>
      { x with inputNew := (entries 6 p).foldl (fun t e => tput t (u16At e 0) (sourceAt e 2)) x.inputNew }), Resp.ok) := by
  refine checkedEntries_ok fun i e hm => ?_
  obtain ⟨hj, hty, hix⟩ := he e hm
  rw [if_neg (Nat.not_lt.2 hj), if_neg (Nat.not_lt.2 hty), if_neg (Nat.not_le.2 hix)]

/-- The output map's changes wait for the next output serialisation (R77). -/
theorem cmdOutputMapSet_ok (h : Hdr) {p : Bytes} {s : State} (he : badEntry (entries 20 p) (outEntryBad s.busCount (entries 20 p)) = none)
    (hc : outConflict s.outputLast ((entries 20 p).foldl (fun t e => tset [] t (u16At e 0) (entryDests e)) s.outputLast) (entries 20 p) =
      none) :
    cmdOutputMapSet.body h p s = (s.onScene (fun x =>
      { x with outputNew := (entries 20 p).foldl (fun t e => tput t (u16At e 0) (entryDests e)) x.outputNew }), Resp.ok) := by
  refine (checkedEntries_pass he).trans ?_
  rw [hc]

/-- Each listener is set and its group joined; while the role is worker only 0 and 1 are named (R70, R410, R443). -/
theorem cmdSceneRxSet_ok (h : Hdr) {p : Bytes} {s : State} (he : ∀ e ∈ entries 8 p, u8At e 0 ≤ 3)
    (hm : s.hier.role = 2 → ∀ e ∈ entries 8 p, u8At e 0 ≤ 1) :
    cmdSceneRxSet.body h p s = ((s.each (entries 8 p) (fun t e => t.hashIn (u32At e 4))).onScene (fun x =>
      { x with listeners := (entries 8 p).foldl (fun t e => tput t (u8At e 0) ⟨u8At e 1 != 0, u32At e 4, u16At e 2⟩) x.listeners }),
        Resp.ok) := by
  refine (checkedEntries_ok fun i e hi => if_neg (Nat.not_lt.2 (he e hi))).trans (checked_ok ?_)
  simpa using fun hr e hi => Nat.lt_succ_of_le (hm hr e hi)

/-- The settings wait for the next boundary (R113). -/
theorem cmdMetaCfgSet_ok (h : Hdr) {p : Bytes} {s : State} (h1 : 1 ≤ u8At p 0) (h2 : u8At p 0 ≤ 48) (k1 : 1 ≤ u8At p 1) (k2 : u8At p 1 ≤ 64)
    (hw : 1 ≤ u16At p 2) :
    cmdMetaCfgSet.body h p s = (s.onScene (fun x => { x with cfgNew := some (u8At p 0, u8At p 1, u16At p 2) }), Resp.ok) := by
  refine checked_ok ?_
  simp [Nat.one_le_iff_ne_zero.1 h1, Nat.one_le_iff_ne_zero.1 k1, Nat.one_le_iff_ne_zero.1 hw, h2, k2]

theorem cmdTrajModelSet_ok (h : Hdr) {p : Bytes} {s : State} (he : ∀ e ∈ entries 4 p, u16At e 0 ≤ 1023 ∧ u8At e 2 ≤ 1) :
    cmdTrajModelSet.body h p s = (s.each (entries 4 p) (fun t e =>
      t.setObj (u16At e 0) { t.obj (u16At e 0) with second := u8At e 2 == 1 }), Resp.ok) := by
  refine checkedEntries_ok fun i e hm => ?_
  obtain ⟨hj, hv⟩ := he e hm
  rw [if_neg (Nat.not_lt.2 hj), if_neg (Nat.not_lt.2 hv)]

theorem cmdObjectRelease_ok (h : Hdr) {p : Bytes} {s : State} (he : ∀ e ∈ entries 2 p, u16At e 0 ≤ 1023) :
    cmdObjectRelease.body h p s = (s.each (entries 2 p) (fun t e => t.release (u16At e 0)), Resp.ok) :=
  checkedEntries_ok fun _ e hm => if_neg (Nat.not_lt.2 (he e hm))

/-- Settles O5: one lemma for each body, on the state in which the command has been taken. -/
theorem mapListenerAndModelCommands : Obligations.MapListenerAndModelCommands := by
  refine ⟨fun h p s hs hp he => cmdInputMapSet.exec_ok h p [] hs hp (.inl rfl) (cmdInputMapSet_ok h he), fun h p s hs hp he hc => ?_,
    fun h p s hs hp he hm => ?_,
    fun h p s hs hp h1 h2 k1 k2 hw => cmdMetaCfgSet.exec_ok h p [] hs (lenIs_iff.2 hp) (.inl rfl) (cmdMetaCfgSet_ok h h1 h2 k1 k2 hw),
    fun h p s hs hp he => cmdTrajModelSet.exec_ok h p [] hs hp (.inl rfl) (cmdTrajModelSet_ok h he),
    fun h p s hs hp he => cmdObjectRelease.exec_ok h p [] hs hp (.inl rfl) (cmdObjectRelease_ok h he)⟩
  · exact cmdOutputMapSet.exec_ok h p [] hs hp (.inl rfl) (cmdOutputMapSet_ok h (by simpa using he) (by simpa using hc))
  · exact cmdSceneRxSet.exec_ok h p [] hs hp (.inl rfl) (cmdSceneRxSet_ok h he (by simpa using hm))

/-! ### The reset state -/

/-- Nothing has been written since reset, so every register reads its reset value (R456). -/
theorem State.reset_rd (a : Nat) : State.reset.rd a = (regReset a).toNat := by
  unfold State.rd
  rfl

theorem regReset_sysId : regReset Reg.SYS_ID = 0x961000B0 := by decide

/-- Settles O55: State.reset names every part; the registers, of which none has been written, read their reset values. That the memories are
empty is the model's choice (notes/assumptions/2). -/
theorem resetState : Obligations.ResetState := by
  refine ⟨⟨nil_wf _, nil_wf _, nil_wf _, nil_wf _⟩, rfl, rfl, rfl, rfl, rfl, rfl, fun _ => rfl, rfl, rfl, rfl, fun _ => rfl,
    rfl, rfl, State.reset_rd, ?_, rfl, rfl, rfl⟩
  rw [State.reset_rd, regReset_sysId]
  rfl

end Sys2Proof.Machine
end

section
/-! PROOFS. The commands of the path engine: half B, alignment delays, the Prism settings and the two reports, each by what its body comes to once
its checks pass (R90 to R92, R98 to R101, R127, R401, R410). -/

namespace Sys2Proof.Machine

/-! ### The mode in which a command is served -/

/-- A command that is served in some of its modes is served. -/
theorem State.Serves.mono {s : State} {l k : List Mode} (h : s.Serves l) (hlk : l ⊆ k) : s.Serves k := by
  obtain ⟨hp, hf, hm⟩ := h
  exact ⟨hp, hf, hlk hm⟩

theorem State.Serves.mode_eq {s : State} {m : Mode} (h : s.Serves [m]) : s.sys.mode = m := by
  obtain ⟨_, _, hm⟩ := h
  exact List.mem_singleton.1 hm

theorem State.Serves.mode_ne {s : State} {l : List Mode} {m : Mode} (h : s.Serves l) (hl : m ∉ l) : s.sys.mode ≠ m := by
  obtain ⟨_, _, hm⟩ := h
  exact fun e => hl (e ▸ hm)

/-! ### What the bodies read is as it was before the command was taken -/

@[simp] theorem State.taken_xfadeReads (s : State) (h : Hdr) (op : Nat) : (s.taken h op).xfadeReads = s.xfadeReads := by
  simp [State.xfadeReads]

@[simp] theorem State.taken_halfTooFull (s : State) (h : Hdr) (op : Nat) : (s.taken h op).halfTooFull = s.halfTooFull := by
  simp only [State.halfTooFull, State.taken_xfadeReads, State.taken_frame]

@[simp] theorem State.taken_pathBudget (s : State) (h : Hdr) (op : Nat) : (s.taken h op).pathBudget = s.pathBudget := by
  simp [State.pathBudget, State.fullBudget]

@[simp] theorem State.taken_xfadeAllow (s : State) (h : Hdr) (op : Nat) : (s.taken h op).xfadeAllow = s.xfadeAllow := by
  simp [State.xfadeAllow, State.fullBudget]

@[simp] theorem State.taken_halfCode (s : State) (h : Hdr) (op : Nat) : (s.taken h op).halfCode = s.halfCode := by
  simp [State.halfCode]

@[simp] theorem State.taken_placeSummary (s : State) (h : Hdr) (op : Nat) : (s.taken h op).placeSummary = s.placeSummary := by
  simp [State.placeSummary, State.laneCap, State.linesInUse]

@[simp] theorem State.taken_placeObject (s : State) (h : Hdr) (op : Nat) : (s.taken h op).placeObject = s.placeObject := by
  funext j
  simp [State.placeObject, State.genInForce, State.reportPaths]

@[simp] theorem State.taken_placeBus (s : State) (h : Hdr) (op : Nat) : (s.taken h op).placeBus = s.placeBus := by
  funext b
  simp [State.placeBus, State.reportPaths]

/-! ### Half B (R98 to R100) -/

/-- In PARK the state of half B is recorded, and PRISM_B follows it where RENDER's domains are powered (R100). -/
theorem cmdPrismHalfSet_park (h : Hdr) {p : Bytes} {s : State} (hm : s.sys.mode = .park) (hv : u8At p 0 ≤ 1) (hil : s.sys.orderIL = false)
    (hc : s.prism.halfChange = none) :
    cmdPrismHalfSet.body h p s = ((s.onPrism (fun x => { x with halfRecorded := u8At p 0 == 1 })).halfPower, Resp.ok) :=
  (checked_ok (by simp [hv, hil, hc])).trans (if_pos (by simp [hm]))

/-- Outside PARK the state in force is answered OK. -/
theorem cmdPrismHalfSet_inForce (h : Hdr) {p : Bytes} {s : State} (hm : s.sys.mode ≠ .park) (hv : u8At p 0 ≤ 1) (hil : s.sys.orderIL = false)
    (hc : s.prism.halfChange = none) (he : (u8At p 0 == 1) = s.prism.half) : cmdPrismHalfSet.body h p s = (s, Resp.ok) := by
  refine (checked_ok (by simp [hv, hil, hc])).trans ?_
  rw [if_neg (by simp [hm]), if_pos (by simp [he])]

/-- Outside PARK the other state is changed to, off only while what is committed fits (R98, R99). -/
theorem cmdPrismHalfSet_change (h : Hdr) {p : Bytes} {s : State} (hm : s.sys.mode ≠ .park) (hv : u8At p 0 ≤ 1) (hil : s.sys.orderIL = false)
    (hc : s.prism.halfChange = none) (hne : (u8At p 0 == 1) ≠ s.prism.half) (hfit : u8At p 0 = 0 → s.halfTooFull = false) :
    cmdPrismHalfSet.body h p s = (s.startHalf h (u8At p 0 == 1), Resp.accepted) := by
  have hoff : ¬ (!(u8At p 0 == 1) && s.halfTooFull) = true := by
    obtain h0 | h1 : u8At p 0 = 0 ∨ u8At p 0 = 1 := by omega
    · simp [hfit h0]
    · simp [h1]
  refine (checked_ok (by simp [hv, hil, hc])).trans ?_
  rw [if_neg (by simp [hm]), if_neg (by simp [hne]), if_neg hoff]

/-! ### Alignment delays (R90 to R92) -/

theorem cmdAlignDelaySet_checks {p : Bytes} (he : ∀ e ∈ entries 4 p, u16At e 0 ≤ 1023) (i : Nat) :
    ∀ e ∈ entries 4 p, (if 1023 < u16At e 0 then some (Resp.err stRange i (4 * i)) else none) = none :=
  fun e hm => if_neg (Nat.not_lt.2 (he e hm))

/-- In PARK the delays are in force at once (R91). -/
theorem cmdAlignDelaySet_park (h : Hdr) {p : Bytes} {s : State} (hm : s.sys.mode = .park) (he : ∀ e ∈ entries 4 p, u16At e 0 ≤ 1023) :
    cmdAlignDelaySet.body h p s = (s.alignPark (entries 4 p), Resp.ok) :=
  (checkedEntries_ok (cmdAlignDelaySet_checks he)).trans (if_pos (by simp [hm]))

/-- Outside PARK the entries whose lines fit are handled under one job, which the answer settles (R91, R92, R401). -/
theorem cmdAlignDelaySet_live (h : Hdr) {p : Bytes} {s t : State} (hm : s.sys.mode ≠ .park) (he : ∀ e ∈ entries 4 p, u16At e 0 ≤ 1023)
    (ht : (s.newJob h 0x1401 1 (zeros 4)).alignAll s.mbx.nextJob (entries 4 p) = some t) :
    cmdAlignDelaySet.body h p s = t.settleJob s.mbx.nextJob := by
  refine (checkedEntries_ok (cmdAlignDelaySet_checks he)).trans ?_
  rw [if_neg (by simp [hm]), State.alignLive]
  simp only [ht]

/-- A settled job is answered OK or ACCEPTED, at once (R401). -/
theorem State.settleJob_status_ne_pending (s : State) (id : Nat) : (s.settleJob id).2.status ≠ stPending := by
  unfold State.settleJob
  split
  · exact (by decide : stOk ≠ stPending)
  · split
    · exact (by decide : stOk ≠ stPending)
    · exact (by decide : stAccepted ≠ stPending)

/-! ### The settings (R101) -/

theorem cmdPrismAirSet_ok (h : Hdr) {p : Bytes} (s : State) (hv : u16At p 0 ≤ 1000) :
    cmdPrismAirSet.body h p s = (s.setFld Reg.PRISM_AIR 9 0 (u16At p 0), Resp.ok) :=
  checked_ok (by simp [hv])

theorem cmdPrismXfadeSet_ok (h : Hdr) {p : Bytes} (s : State) (hv : 1 ≤ u16At p 0) :
    cmdPrismXfadeSet.body h p s = (s.setFld Reg.PRISM_XFADE_STEP 15 0 (u16At p 0), Resp.ok) :=
  checked_ok (by simp [Nat.one_le_iff_ne_zero.1 hv])

/-! ### The reports (R127, R410) -/

/-- The bytes of PRISM_STATUS_GET are those of the state before the command, but for the path engine's counters, which stand in registers. -/
theorem cmdPrismStatusGet_taken (h : Hdr) (p : Bytes) (s : State) (op : Nat) :
    cmdPrismStatusGet.body h p (s.taken h op) = (s.taken h op,
      Resp.ok (le32 s.pathBudget ++ le32 s.prism.paths.length ++ le16 s.xfadeReads ++ le16 s.xfadeAllow ++ le8 s.halfCode
        ++ le8 (b2n s.time.rate96) ++ zeros 2 ++ (List.range 6).flatMap (fun n => le32 ((s.taken h op).rd (Reg.PRISM_CNT n))))) := by
  simp [cmdPrismStatusGet, mkCmd]

theorem cmdPlacementReport_summary (h : Hdr) {p : Bytes} (s : State) (hk : u8At p 0 = 0) :
    cmdPlacementReport.body h p s = (s, Resp.ok s.placeSummary) :=
  (checked_ok (by simp [hk])).trans (if_pos hk)

/-- The records of kind 1, of objects, or 2, of buses, that fit the buffer are written to it. -/
theorem cmdPlacementReport_records (h : Hdr) {p : Bytes} {s : State} (hk : u8At p 0 = 1 ∨ u8At p 0 = 2) (hn : 1 ≤ u16At p 4)
    (hl : u16At p 2 + u16At p 4 ≤ (if u8At p 0 = 1 then 1024 else s.busCount)) (hb : s.bufOk (bufAt p 8) = true)
    (hs : (if u8At p 0 = 1 then 16 else 8) * u16At p 4 ≤ (bufAt p 8).len) :
    cmdPlacementReport.body h p s =
      (s.bufWrite (bufAt p 8) (((List.range (u16At p 4)).map (· + u16At p 2)).flatMap (if u8At p 0 = 1 then s.placeObject else s.placeBus)),
        Resp.ok (le16 (u16At p 4) ++ zeros 2)) := by
  have hk2 : u8At p 0 ≤ 2 := by omega
  have hk0 : u8At p 0 ≠ 0 := by omega
  refine (checked_ok (by simp [hk2])).trans ?_
  rw [if_neg hk0]
  exact checked_ok (by simpa [Nat.one_le_iff_ne_zero.1 hn, hl, hb] using hs)

/-- Settles O6: one lemma for each body, on the state in which the command has been taken. -/
theorem pathEngineCommands : Obligations.PathEngineCommands := by
  refine ⟨fun h p s hs hp hv hil hc => ?_, fun h p s hs hp hv hil hc he => ?_, fun h p s hs hp hv hil hc hne hfit => ?_,
    fun h p s hs hp he => ?_, fun h p s t hs hp he ht => ?_,
    fun h p s hs hp hv => cmdPrismAirSet.exec_ok h p [] hs (lenIs_iff.2 hp) (.inl rfl) (cmdPrismAirSet_ok h _ hv),
    fun h p s hs hp hv => cmdPrismXfadeSet.exec_ok h p [] hs (lenIs_iff.2 hp) (.inl rfl) (cmdPrismXfadeSet_ok h _ hv),
    fun h s hs => cmdPrismStatusGet.exec_ok h [] _ hs rfl (.inl rfl) (cmdPrismStatusGet_taken h [] s 0x1404),
    fun h p s hs hp hk => ?_, fun h p s hs hp hr hk hn hl hb hlen => ?_⟩
  · exact cmdPrismHalfSet.exec_ok h p [] (hs.mono (by decide)) (lenIs_iff.2 hp) (.inl rfl)
      (cmdPrismHalfSet_park h (by simpa using hs.mode_eq) hv (by simpa using hil) (by simpa using hc))
  · exact cmdPrismHalfSet.exec_ok h p [] (hs.mono (by decide)) (lenIs_iff.2 hp) (.inl rfl)
      (cmdPrismHalfSet_inForce h (by simpa using hs.mode_ne (by decide)) hv (by simpa using hil) (by simpa using hc) (by simpa using he))
  · have hb := cmdPrismHalfSet_change h (s := s.taken h 0x1400) (by simpa using hs.mode_ne (by decide)) hv (by simpa using hil)
      (by simpa using hc) (by simpa using hne) (by simpa using hfit)
    exact cmdPrismHalfSet.exec_served h p (hs.mono (by decide)) (lenIs_iff.2 hp) (.inl rfl) hb (by decide : stAccepted ≠ stPending)
  · exact cmdAlignDelaySet.exec_ok h p [] (hs.mono (by decide)) hp (.inl rfl)
      (cmdAlignDelaySet_park h (by simpa using hs.mode_eq) he)
  · have hb := cmdAlignDelaySet_live h (s := s.taken h 0x1401) (by simpa using hs.mode_ne (by decide)) he (by simpa using ht)
    simp only [State.taken_frame] at hb
    exact cmdAlignDelaySet.exec_served h p (hs.mono (by decide)) hp (.inl rfl) hb (t.settleJob_status_ne_pending _)
  · have hb := cmdPlacementReport_summary h (s.taken h 0x1503) hk
    rw [State.taken_placeSummary] at hb
    exact cmdPlacementReport.exec_ok h p _ hs (lenIs_iff.2 hp) (.inl (by simp [cmdPlacementReport, hk])) hb
  · have hb := cmdPlacementReport_records h (s := s.taken h 0x1503) hk hn (by simpa using hl) (by simpa using hb) hlen
    rw [State.taken_placeObject, State.taken_placeBus] at hb
    exact cmdPlacementReport.exec_ok h p _ hs (lenIs_iff.2 hp) (.inr hr) hb

end Sys2Proof.Machine
end

section
/-! PROOFS. The resets and their releases: what each row comes to in the phase its rule speaks of (R100, R379, R407, R453, R456 to R458, R462,
R487, R489). -/

namespace Sys2Proof.Machine

/-- Out of power-on reset the straps and the bank supplies are sampled, and boot starts but in test mode (R453, R487, R489). -/
theorem execPorstNRelease_porst {w : Straps} {b : Nat} {s t u v : State} (hp : s.sys.phase = .porst)
    (ht : t = s.onSys (fun x => { x with straps := w, phase := if w.testMode then .testMode else .running }))
    (hu : u = t.onPorts (fun x => { x with bankA33 := bitOf b 0, bankB33 := bitOf b 1, bankC33 := bitOf b 2, bankD33 := bitOf b 3 }))
    (hv : v = u.onTime (fun x => { x with refclkOk := true })) :
    execPorstNRelease w b s = .next (if w.testMode then v else v.strapsTaken.bootStart) := by
  subst ht hu hv
  rw [apply_ite Host.Outcome.next]
  exact if_neg (by simp [hp])

theorem execWarmRstN_running {s : State} (hp : s.sys.phase = .running) : execWarmRstN s = .next (s.warmReset 1) := by
  unfold execWarmRstN
  rw [if_pos (.inl hp)]

/-- The end of a warm reset's hold: the straps but MIR_ROLE and TEST_MODE are sampled, and boot starts (R457). -/
theorem execWarmResetRelease_held {w : Straps} {s t : State} (hp : s.sys.phase = .warmHold)
    (ht : t = (s.passTo (s.time.eventTick + 246)).onSys (fun x => { x with
      phase := .running, straps := { w with mirRole := s.sys.straps.mirRole, testMode := s.sys.straps.testMode } })) :
    execWarmResetRelease w s = .next t.strapsTaken.bootStart := by
  subst ht
  exact if_neg (by simp [hp])

theorem execSysResetApply_due {e : Nat} {s : State} (hp : s.sys.phase = .running) (he : s.sys.sysResetDue = some e) :
    execSysResetApply s = .next ((s.passTo e).warmReset 2) := by
  unfold execSysResetApply
  simp only [he]
  rw [if_pos hp]

/-- A power-fail while the device runs, or while a warm reset holds it (R458). -/
theorem execPowerFail_on {s : State} (hp : s.sys.phase = .running ∨ s.sys.phase = .warmHold) :
    execPowerFail s = .next ((s.resetDomains.bump (Reg.SYS_CNT 1)).onSys (fun x => { x with phase := .powerFail })) := by
  refine if_neg ?_
  obtain hp | hp := hp
  · simp [hp]
  · simp [hp]

theorem execPowerFailRestart_failed {s : State} (hp : s.sys.phase = .powerFail) :
    execPowerFailRestart s = .next ((s.passTo (s.time.eventTick + 24576)).warmReset 3) :=
  if_neg (by simp [hp])

/-- With FAIL_SAFE strapped, the automatic reset out of SAFE, while fewer than three lie within 600 s (R462). -/
theorem execAutoReset_permitted {s t : State} (hp : s.sys.phase = .running) (hm : s.sys.mode = .safe) (hf : s.sys.straps.failSafe = true)
    (ht : t = s.passTo (s.sys.safeTick + 2457600)) (hn : t.autoCount < 3) :
    execAutoReset s =
      .next ((t.onSys (fun x => { x with autoTicks := (t.time.eventTick :: x.autoTicks).take 3 })).warmReset 4) := by
  subst ht
  exact if_neg (by simp [hp, hm, hf, hn])

/-- Settles O26: one lemma for each row; PORST_N is its own effect. That refclkOk is set at PORST_N_RELEASE, and what the power-fail restart does
where the rules leave it open, are the model's choices (notes/assumptions/41 and notes/assumptions/28). -/
theorem resetRows : Obligations.ResetRows :=
  ⟨fun _ => rfl,
   fun _ _ _ _ _ _ hp ht hu hv => execPorstNRelease_porst hp ht hu hv,
   fun _ hp => execWarmRstN_running hp,
   fun _ _ _ hp ht => execWarmResetRelease_held hp ht,
   fun _ _ hp he => execSysResetApply_due hp he,
   fun _ hp => execPowerFail_on hp,
   fun _ hp => execPowerFailRestart_failed hp,
   fun _ _ hp hm hf ht hn => execAutoReset_permitted hp hm hf ht hn⟩

end Sys2Proof.Machine
end

section
/-! PROOFS. The commands of Lens: settings, reports, bank loads, swaps and tail grants, each by what its body comes to once its checks pass
(R131, R135, R136, R142, R145, R147, R148, R150, R151, R153, R401, R411, R451). -/

namespace Sys2Proof.Machine

/-! ### What the bodies read is as it was before the command was taken -/

@[simp] theorem State.taken_lensBus (s : State) (h : Hdr) (op b : Nat) : (s.taken h op).lensBus b = s.lensBus b := by
  simp [State.lensBus]

@[simp] theorem State.taken_laterThanNext (s : State) (h : Hdr) (op q : Nat) : (s.taken h op).laterThanNext q = s.laterThanNext q := by
  simp [State.laterThanNext, State.nextBoundary]

@[simp] theorem State.taken_swapBad (s : State) (h : Hdr) (op : Nat) : (s.taken h op).swapBad = s.swapBad := by
  funext i e
  simp [State.swapBad]

@[simp] theorem State.taken_swapState (s : State) (h : Hdr) (op : Nat) : (s.taken h op).swapState = s.swapState := by
  funext i e
  simp [State.swapState]

@[simp] theorem State.taken_tailMax (s : State) (h : Hdr) (op : Nat) : (s.taken h op).tailMax = s.tailMax := by
  simp [State.tailMax]

@[simp] theorem State.taken_tailBad (s : State) (h : Hdr) (op : Nat) : (s.taken h op).tailBad = s.tailBad := by
  funext i e
  simp [State.tailBad]

@[simp] theorem State.taken_tailState (s : State) (h : Hdr) (op : Nat) : (s.taken h op).tailState = s.tailState := by
  funext i e
  simp [State.tailState]

@[simp] theorem State.taken_tailPool (s : State) (h : Hdr) (op : Nat) : (s.taken h op).tailPool = s.tailPool := by
  simp [State.tailPool]

@[simp] theorem State.taken_grantBlock (s : State) (h : Hdr) (op : Nat) : (s.taken h op).grantBlock = s.grantBlock := by
  simp [State.grantBlock]

@[simp] theorem State.taken_imageHead (s : State) (h : Hdr) (op : Nat) : (s.taken h op).imageHead = s.imageHead := by
  funext i b
  simp [State.imageHead]

@[simp] theorem State.taken_imageRate (s : State) (h : Hdr) (op : Nat) : (s.taken h op).imageRate = s.imageRate := by
  funext i b
  simp [State.imageRate]

@[simp] theorem State.taken_imageBusy (s : State) (h : Hdr) (op : Nat) : (s.taken h op).imageBusy = s.imageBusy := by
  funext i b
  simp [State.imageBusy]

@[simp] theorem State.taken_imageGrant (s : State) (h : Hdr) (op : Nat) : (s.taken h op).imageGrant = s.imageGrant := by
  funext i b
  simp [State.imageGrant]

@[simp] theorem State.taken_imagesBad (s : State) (h : Hdr) (op : Nat) : (s.taken h op).imagesBad = s.imagesBad := by
  funext is
  simp [State.imagesBad]

/-! ### Checks -/

theorem firstBad_eq_none {l : List (Bool × Resp)} (h : ∀ e ∈ l, e.1 = false) : firstBad l = none := by
  unfold firstBad
  rw [Option.map_eq_none_iff, List.find?_eq_none]
  intro e he
  simp [h e he]

/-- A trim is mute, or lies from -120.00 dB to +24.00 dB (R131). -/
theorem State.trimBad_eq_none {s : State} {e : Bytes} (i : Nat) (hb : u16At e 0 < s.busCount)
    (hg : s16At e 2 = -32768 ∨ (-12000 ≤ s16At e 2 ∧ s16At e 2 ≤ 2400)) (hv : u8At e 4 ≤ 1) : s.trimBad i e = none := by
  unfold State.trimBad
  dsimp only
  rw [if_neg (Nat.not_le.2 hb), if_neg (by omega), if_neg (Nat.not_lt.2 hv)]

theorem State.limBad_eq_none {s : State} {e : Bytes} (i : Nat) (he : u16At e 0 < s.busCount ∧ u8At e 2 ≤ 1 ∧ u8At e 3 ≤ 48 ∧
    -6000 ≤ s16At e 4 ∧ s16At e 4 ≤ 0 ∧ 1 ≤ u16At e 6 ∧ u16At e 6 ≤ 10000 ∧ 50 ≤ u32At e 8 ∧ u32At e 8 ≤ 100000) :
    s.limBad i e = none := by
  obtain ⟨hb, hen, hk, ht1, ht2, hr1, hr2, ha1, ha2⟩ := he
  exact firstBad_eq_none (by simp [hb, hen, hk, ht1, ht2, Nat.one_le_iff_ne_zero.1 hr1, hr2, ha1, ha2])

/-! ### Settings (R131, R147, R148) -/

theorem cmdLensTrimSet_ok (h : Hdr) {p : Bytes} {s : State} (h1 : 1 ≤ u16At p 0) (h2 : u16At p 0 ≤ 1024)
    (he : ∀ e ∈ entries 8 (p.drop 4), u16At e 0 < s.busCount ∧ (s16At e 2 = -32768 ∨ (-12000 ≤ s16At e 2 ∧ s16At e 2 ≤ 2400)) ∧
      u8At e 4 ≤ 1) :
    cmdLensTrimSet.body h p s = (s.each (entries 8 (p.drop 4)) (fun t e => t.trimEntry (u16At p 0) e), Resp.ok) := by
  refine (checked_ok (by simp [Nat.one_le_iff_ne_zero.1 h1, h2])).trans (checkedEntries_ok fun i e hm => ?_)
  obtain ⟨hb, hg, hv⟩ := he e hm
  exact State.trimBad_eq_none i hb hg hv

theorem cmdLensLimitSet_ok (h : Hdr) {p : Bytes} {s : State}
    (he : ∀ e ∈ entries 12 (p.drop 4), u16At e 0 < s.busCount ∧ u8At e 2 ≤ 1 ∧ u8At e 3 ≤ 48 ∧ -6000 ≤ s16At e 4 ∧ s16At e 4 ≤ 0 ∧
      1 ≤ u16At e 6 ∧ u16At e 6 ≤ 10000 ∧ 50 ≤ u32At e 8 ∧ u32At e 8 ≤ 100000) :
    cmdLensLimitSet.body h p s = (s.each (entries 12 (p.drop 4)) (fun t e => t.limEntry e), Resp.ok) :=
  checkedEntries_ok fun i e hm => State.limBad_eq_none i (he e hm)

/-- The profile of a payload replaces the one it names (R148). -/
theorem cmdLensDetSet_ok (h : Hdr) {p : Bytes} (s : State) (hn : u8At p 0 ≤ 7) (h4 : u16At p 4 ≤ 10000) (h6 : 1 ≤ u16At p 6)
    (k6 : u16At p 6 ≤ 10000) (h8 : 1 ≤ u16At p 8) (k8 : u16At p 8 ≤ 10000) (h10 : 1 ≤ u16At p 10) (k10 : u16At p 10 ≤ 1000)
    (h12 : 1 ≤ u16At p 12) (k12 : u16At p 12 ≤ 10000) :
    cmdLensDetSet.body h p s = (s.onLens (fun x => { x with
      profiles := tset DetProfile.init x.profiles (u8At p 0) ⟨u16At p 4, u16At p 6, u16At p 8, u16At p 10, u16At p 12⟩ }), Resp.ok) := by
  refine checked_ok ?_
  simp only [Nat.one_le_iff_ne_zero] at h6 h8 h10 h12
  simp [hn, h4, h6, k6, h8, k8, h10, k10, h12, k12]

theorem cmdLensDetMap_ok (h : Hdr) {p : Bytes} {s : State} (he : ∀ e ∈ entries 4 p, u16At e 0 < s.busCount ∧ u8At e 2 ≤ 7) :
    cmdLensDetMap.body h p s = (s.each (entries 4 p) (fun t e =>
      t.setLensBus (u16At e 0) { t.lensBus (u16At e 0) with profile := u8At e 2 }), Resp.ok) := by
  refine checkedEntries_ok fun i e hm => ?_
  obtain ⟨hb, hn⟩ := he e hm
  rw [if_neg (Nat.not_le.2 hb), if_neg (Nat.not_lt.2 hn)]

/-! ### Reports (R411, R153) -/

/-- One record for each bus of a range that there is. -/
theorem State.busRange_ok {s : State} {p : Bytes} (rec_ : LensBus → Bytes) (h1 : 1 ≤ u16At p 2) (h2 : u16At p 2 ≤ 30)
    (hr : u16At p 0 + u16At p 2 ≤ s.busCount) :
    s.busRange p rec_ = (s, Resp.ok ((List.range (u16At p 2)).flatMap (fun i => rec_ (s.lensBus (u16At p 0 + i))))) :=
  checked_ok (by simp [Nat.one_le_iff_ne_zero.1 h1, h2, hr])

/-- Settles O7: one lemma for each body, on the state in which the command has been taken. -/
theorem lensSettingAndReportCommands : Obligations.LensSettingAndReportCommands := by
  refine ⟨fun h p s hs hp h1 h2 he => ?_, fun h p s hs hp he => ?_,
    fun h p s d hs hp hn h4 h6 k6 h8 k8 h10 k10 h12 k12 hd => ?_, fun h p s hs hp he => ?_,
    fun h p s hs hp h1 h2 hr => ⟨?_, ?_⟩⟩
  · exact cmdLensTrimSet.exec_ok h p [] hs hp (.inl rfl) (cmdLensTrimSet_ok h h1 h2 (by simpa using he))
  · exact cmdLensLimitSet.exec_ok h p [] hs hp (.inl rfl) (cmdLensLimitSet_ok h (by simpa using he))
  · exact hd ▸ cmdLensDetSet.exec_ok h p [] hs (lenIs_iff.2 hp) (.inl rfl) (cmdLensDetSet_ok h _ hn h4 h6 k6 h8 k8 h10 k10 h12 k12)
  · exact cmdLensDetMap.exec_ok h p [] hs hp (.inl rfl) (cmdLensDetMap_ok h (by simpa using he))
  · have hb := State.busRange_ok (s := s.taken h 0x2008) LensBus.meter h1 h2 (by simpa using hr)
    simp only [State.taken_lensBus] at hb
    exact cmdLensMeterGet.exec_ok h p _ hs (lenIs_iff.2 hp) (.inl rfl) hb
  · have hb := State.busRange_ok (s := s.taken h 0x2009) (fun b => le32 (b.word s.time.rate96) ++ le32 b.tag) h1 h2 (by simpa using hr)
    simp only [State.taken_lensBus] at hb
    refine cmdLensStatusGet.exec_ok h p _ hs (lenIs_iff.2 hp) (.inl rfl) (.trans ?_ hb)
    simp [cmdLensStatusGet, mkCmd]

/-! ### Bank loads (R150, R151, R451) -/

/-- A load starts and is accepted; in PARK the tail regions must find room (R153). -/
theorem State.startLoad_accepted {s : State} (h : Hdr) (is : List Bytes) (ht : s.sys.mode = .park → s.placeTails.isSome = true) :
    s.startLoad h is = ((s.startLoad h is).1, Resp.accepted) := by
  unfold State.startLoad
  by_cases hm : s.sys.mode = .park
  · obtain ⟨t, hpt⟩ := Option.isSome_iff_exists.1 (ht hm)
    simp [hm, hpt]
  · simp [hm]

/-- The images of a buffer, all of which pass the checks of R151, start to load. -/
theorem cmdLensBankLoad_starts (h : Hdr) {p d : Bytes} {is : List Bytes} {s : State} (hb : s.bufOk (bufAt p 4) = true)
    (h1 : 1 ≤ u16At p 0) (h2 : u16At p 0 ≤ 1024) (hd : s.bufRead (bufAt p 4) (bufAt p 4).len = d) (hc : cutImages (u16At p 0) d = some is)
    (hi : s.imagesBad is = none) : cmdLensBankLoad.body h p s = s.startLoad h is := by
  subst hd
  refine (checked_ok (by simp [hb, Nat.one_le_iff_ne_zero.1 h1, h2])).trans ?_
  simp only [hc, hi]

/-! ### Swaps (R142, R145, R153) -/

/-- Once every check passes, a swap takes effect by the mode: at once in PARK, and elsewhere under a job. -/
theorem cmdLensSwap_passes (h : Hdr) {p : Bytes} {s : State} (hf : 1 ≤ u16At p 4 ∧ u16At p 4 ≤ 1024) (hn : 1 ≤ u8At p 7 ∧ u8At p 7 ≤ 58)
    (hb : badEntry (entries 4 (p.drop 8)) s.swapBad = none)
    (hq : bitOf (u8At p 6) 0 = true → s.laterThanNext (u32At p 0 + 2 ^ 32 - 32) = true)
    (hst : badEntry (entries 4 (p.drop 8)) s.swapState = none) :
    cmdLensSwap.body h p s =
      if s.sys.mode == .park then (s.swapPark (entries 4 (p.drop 8)), Resp.ok) else s.swapLive h p (entries 4 (p.drop 8)) := by
  obtain ⟨hf1, hf2⟩ := hf
  obtain ⟨hn1, hn2⟩ := hn
  calc cmdLensSwap.body h p s
    _ = checkedEntries s _ s.swapBad _ := checked_ok (by simp [Nat.one_le_iff_ne_zero.1 hf1, hf2, Nat.one_le_iff_ne_zero.1 hn1, hn2])
    _ = checked s _ _ := checkedEntries_pass hb
    _ = checkedEntries s _ s.swapState _ := checked_ok (by simpa using hq)
    _ = _ := checkedEntries_pass hst

/-! ### Tail grants (R135, R136, R153) -/

/-- Once every check passes, the grants take effect by the mode. -/
theorem cmdLensTailSet_passes (h : Hdr) {p : Bytes} {s : State} (hb : badEntry (entries 4 p) s.tailBad = none)
    (hst : badEntry (entries 4 p) s.tailState = none) :
    cmdLensTailSet.body h p s = if s.sys.mode == .park then s.tailPark (entries 4 p) else s.tailLive h (entries 4 p) :=
  (checkedEntries_pass hb).trans (checkedEntries_pass hst)

/-- In PARK grants that fit the pool are recorded (R153). -/
theorem State.tailPark_fits {s t : State} {es : List Bytes}
    (ht : t = s.each es (fun u e => u.setLensBus (u16At e 0) ((u.lensBus (u16At e 0)).setParts (u16At e 2)))) (hp : t.grantSum ≤ s.tailPool) :
    s.tailPark es = (t, Resp.ok) := by
  subst ht
  exact if_neg (Nat.not_lt.2 hp)

/-- In the live modes changes that fit the DRAM and the pool wait for their boundary under a job, which the answer settles (R136, R401). -/
theorem State.tailLive_fits {s t : State} (h : Hdr) {es : List Bytes}
    (ht : ((s.newJob h 0x2003 1 (le32 (s.grantBlock % 2 ^ 32))).each es (fun u e =>
      u.grantEntry s.grantBlock s.mbx.nextJob e)).placeTails = some t) (hp : t.grantSum ≤ s.tailPool) :
    s.tailLive h es = t.settleJob s.mbx.nextJob := by
  unfold State.tailLive
  simp only [ht]
  rw [if_neg (Nat.not_lt.2 hp)]

/-- Settles O8: one lemma for each command's checks, and one for each mode's effect, on the state in which the command has been taken. -/
theorem lensBankSwapAndGrantCommands : Obligations.LensBankSwapAndGrantCommands := by
  refine ⟨fun h p d is s hs hp hr hb h1 h2 hd hc hi ht => ?_, fun h p s hs hp hf1 hf2 hn1 hn2 hb hq hst => ?_,
    fun h p s hs hp hf1 hf2 hn1 hn2 hb hq hst => ?_, fun h p s hs hp hb hst hsum => ?_, fun h p s t hs hp hb hst ht hsum => ?_⟩
  · have hbody := cmdLensBankLoad_starts h (s := s.taken h 0x2001) (by simpa using hb) h1 h2 hd hc (by simpa using hi)
    rw [State.startLoad_accepted h is (by simpa using ht)] at hbody
    exact cmdLensBankLoad.exec_served h p hs (lenIs_iff.2 hp) (.inr hr) hbody (by decide : stAccepted ≠ stPending)
  · have hbody := cmdLensSwap_passes h (s := s.taken h 0x2002) ⟨hf1, hf2⟩ ⟨hn1, hn2⟩ (by simpa using hb) (by simpa using hq)
      (by simpa using hst)
    rw [if_pos (by simpa using hs.mode_eq)] at hbody
    exact cmdLensSwap.exec_ok h p [] (hs.mono (by decide)) (by simp [cmdLensSwap, mkCmd, hp]) (.inl rfl) hbody
  · have hbody := cmdLensSwap_passes h (s := s.taken h 0x2002) ⟨hf1, hf2⟩ ⟨hn1, hn2⟩ (by simpa using hb) (by simpa using hq)
      (by simpa using hst)
    rw [if_neg (by simpa using hs.mode_ne (by decide))] at hbody
    exact cmdLensSwap.exec_served h p (hs.mono (by decide)) (by simp [cmdLensSwap, mkCmd, hp]) (.inl rfl) hbody
      (State.settleJob_status_ne_pending _ _)
  · have hbody := cmdLensTailSet_passes h (s := s.taken h 0x2003) (by simpa using hb) (by simpa using hst)
    rw [if_pos (by simpa using hs.mode_eq), State.tailPark_fits rfl (by simpa using hsum)] at hbody
    exact cmdLensTailSet.exec_ok h p [] (hs.mono (by decide)) hp (.inl rfl) hbody
  · have hbody := cmdLensTailSet_passes h (s := s.taken h 0x2003) (by simpa using hb) (by simpa using hst)
    rw [if_neg (by simpa using hs.mode_ne (by decide)), State.tailLive_fits h (by simpa using ht) (by simpa using hsum)] at hbody
    simp only [State.taken_frame] at hbody
    exact cmdLensTailSet.exec_served h p (hs.mono (by decide)) hp (.inl rfl) hbody (t.settleJob_status_ne_pending _)

end Sys2Proof.Machine
end

section
/-! PROOFS. The event rows of the interlock, the heartbeat, Lens and the workers: what each comes to under its rule's premises (R138, R151, R154,
R422, R426, R427, R433, R435, R447). -/

namespace Sys2Proof.Machine

/-! ### The interlock and the heartbeat (R426, R427, R433, R435) -/

/-- In a live mode, not leaving it, with no watchdog expiry to lower ACT for. -/
theorem execSwitchTick_stays {s t : State} (hp : s.sys.phase = .running) (ht : t = s.tickTo (s.switchTick s.nextBoundary))
    (hl : t.live = true) (hv : t.leaving = false) (hw : t.wdtLower = false) :
    execSwitchTick s = .next ((t.switchHandover s.nextBoundary).switchRaise s.nextBoundary) := by
  subst ht
  unfold execSwitchTick
  simp [hp, hl, hv, hw]

/-- A unit leaving a live mode for PARK gives up ACT before its HANDOVER is judged (R435). -/
theorem execSwitchTick_leaves {s t : State} (hp : s.sys.phase = .running) (ht : t = s.tickTo (s.switchTick s.nextBoundary))
    (hl : t.live = true) (hv : t.leaving = true) :
    execSwitchTick s = .next ((t.switchPark s.nextBoundary).switchHandover s.nextBoundary) := by
  subst ht
  unfold execSwitchTick
  simp [hp, hl, hv]

/-- An edge is observed 2 ticks after its stamp (R31, R427). -/
theorem execMirActInChange_edge {v : Bool} {s : State} (hp : s.sys.phase = .running) (he : s.mir.actIn ≠ v) :
    execMirActInChange v s = .next (s.actInEdge v (s.time.tick - 2)) := by
  unfold execMirActInChange
  rw [if_neg (by simp [hp]), if_neg he]

theorem execActInConfirmed_low {s : State} (hp : s.sys.phase = .running) (ha : s.mir.actIn = false) (hm : s.mirrorOn = true) :
    execActInConfirmed s = .next s.actInConfirmed := by
  unfold execActInConfirmed
  rw [if_neg (by simp [hp, ha, hm])]

@[simp] theorem State.onMir_mirrorOn (s : State) (f : Mirror → Mirror) : (s.onMir f).mirrorOn = s.mirrorOn := by
  simp [State.mirrorOn, State.bit]

/-- What the check reads of the heartbeat input does not tell whether Mirror is on, nor what the unit is. -/
theorem execHeartbeatCheck_running (b v : Bool) (k : Nat) {s t : State} (hp : s.sys.phase = .running)
    (ht : t = s.onMir (fun x => { x with hbIn := v && !b && k == 0 })) :
    execHeartbeatCheck b k v s = .next
      (if s.mirrorOn ∧ (s.mir.st = .standby ∨ s.mir.st = .pending) then ((t.hbStray k).hbCheck b).keepReady else t) := by
  have hm : t.mirrorOn = s.mirrorOn := by rw [ht, State.onMir_mirrorOn]
  have hst : t.mir.st = s.mir.st := by rw [ht, State.onMir_mir]
  unfold execHeartbeatCheck
  rw [if_neg (by simp [hp]), ← ht, ← hm, ← hst]
  exact (apply_ite Host.Outcome.next _ _ _).symm

/-! ### Lens (R136, R138, R151) -/

/-- Outside PARK the first load with that bank left proceeds (R151, R451). -/
theorem execLensLoadDone_live {bus k : Nat} {s : State} {l : LensLoad} {e : Nat × Nat × Bytes} (hm : s.sys.mode ≠ .park)
    (hl : s.lens.loads.find? (fun x => x.left.any (fun y => y.1 == bus && y.2.1 == k)) = some l)
    (he : l.left.find? (fun y => y.1 == bus && y.2.1 == k) = some e) :
    execLensLoadDone bus k s = .next (s.loadBank l bus k e.2.2) := by
  have hpark : (s.sys.mode != .park) = true := by simp [hm]
  unfold execLensLoadDone
  simp only [hpark, Bool.true_or, Bool.and_true, hl, he]

/-- In a live mode grants whose boundary has come take effect, and the blocks that are complete are computed (R138). -/
theorem execTailBlockBoundary_due (late : List Nat) (fails : TailFails) (spare : Nat) {s t : State} {due : Tbl LensBus} (hl : s.live = true)
    (ht : t = s.applyGrants (s.time.lastQ / 32)) (hd : due = t.lens.buses.filter (fun e => decide (256 ≤ e.2.block.length))) (hne : due ≠ []) :
    execTailBlockBoundary late fails spare s = .next
      ((t.each due (fun u e => u.busBlock ((s.time.lastQ - 2 - s.osLag) / 32 - 1) late fails e.1)).noteMargin
        (if late.isEmpty then spare else 0)) := by
  subst ht hd
  unfold execTailBlockBoundary
  rw [if_neg (by simp [hl])]
  exact if_neg (by simpa using hne)

/-! ### Workers (R447) -/

/-- A worker that a manager watches, and that has been silent for 64 quanta, is lost. -/
theorem execWorkerLost_silent {id k : Nat} {s : State} (hh : s.hier.heard.find? (fun e => e.1 == id) = some (id, k)) (hr : s.hier.role = 1)
    (h1 : 1 ≤ id) (h2 : id ≤ 63) (hk : k + 64 * s.time.tq ≤ s.time.eventTick) :
    execWorkerLost id s =
      .next ((s.onHier (fun x => { x with heard := tdel x.heard id, lost := tset false x.lost id true })).post 0x8010 (le8 id)) := by
  unfold execWorkerLost
  simp only [hh]
  rw [if_neg (by simp [hr, h1, h2, hk])]

/-- Settles O40: one lemma for each row. -/
theorem mirrorLensAndWorkerEvents : Obligations.MirrorLensAndWorkerEvents := by
  refine ⟨fun s t n hp hn ht hl hv hw => ?_, fun s t n hp hn ht hl hv => ?_, fun v s hp he => execMirActInChange_edge hp he,
    fun s hp ha hm => execActInConfirmed_low hp ha hm, fun b v k s t hp hm hst ht => ?_, fun b v k s hp hns hnp => ?_,
    fun bus k s l e hm hl he => execLensLoadDone_live hm hl he,
    fun late fails spare s t due hl ht hd hne => execTailBlockBoundary_due late fails spare hl ht hd hne,
    fun id k s hh hr h1 h2 hk => execWorkerLost_silent hh hr h1 h2 hk⟩
  · subst hn
    exact execSwitchTick_stays hp ht hl hv hw
  · subst hn
    exact execSwitchTick_leaves hp ht hl hv
  · exact (execHeartbeatCheck_running b v k hp ht).trans (congrArg Host.Outcome.next (if_pos ⟨hm, hst⟩))
  · exact (execHeartbeatCheck_running b v k hp rfl).trans (congrArg Host.Outcome.next (if_neg fun ⟨_, hst⟩ => hst.elim hns hnp))

end Sys2Proof.Machine
end

section
/-! PROOFS. The commands of the measurement chain: microphones, generator and capture, each by what its body comes to once its checks pass
(R155, R159, R161 to R164, R167 to R171, R173, R176, R177). -/

namespace Sys2Proof.Machine

/-! ### What the bodies read is as it was before the command was taken -/

@[simp] theorem State.taken_mic (s : State) (h : Hdr) (op c : Nat) : (s.taken h op).mic c = s.mic c := by
  simp [State.mic]

@[simp] theorem State.taken_nextBoundary (s : State) (h : Hdr) (op : Nat) : (s.taken h op).nextBoundary = s.nextBoundary := by
  simp [State.nextBoundary]

@[simp] theorem State.taken_quantumAt (s : State) (h : Hdr) (op q : Nat) : (s.taken h op).quantumAt q = s.quantumAt q := by
  simp [State.quantumAt]

/-! ### Microphones (R155, R159, R161 to R164) -/

/-- A mask and preset that may change now are recorded, once no other function holds a resource that the mask needs. -/
theorem cmdMicCfg_ok (h : Hdr) {p : Bytes} {s : State} (hv : u8At p 2 ≤ 2) (hl : s.micLocked (u16At p 0) (u8At p 2) = false)
    (hc : u16At p 0 ≠ 0 → s.conflict 2 micResources = none) :
    cmdMicCfg.body h p s = ((s.micClaim (u16At p 0)).micRecord (u16At p 0) (u8At p 2), Resp.ok) := by
  have hn : (if u16At p 0 ≠ 0 then s.conflict 2 micResources else none) = none := by
    by_cases hm : u16At p 0 ≠ 0
    · rw [if_pos hm, hc hm]
    · rw [if_neg hm]
  refine (checked_ok (by simp [hv, hl])).trans ?_
  rw [hn]

/-- Images that all pass the checks of R161 start to load. -/
theorem cmdCompLoad_starts (h : Hdr) {p : Bytes} {s : State} {is : List Bytes} (hb : s.bufOk (bufAt p 4) = true) (h1 : 1 ≤ u16At p 0)
    (h2 : u16At p 0 ≤ 16) (hlen : (bufAt p 4).len = 144 * u16At p 0)
    (his : is = entries 144 (s.bufRead (bufAt p 4) (bufAt p 4).len)) (hi : s.compImagesBad is = none) :
    cmdCompLoad.body h p s = (s.compStart h is, Resp.accepted) := by
  subst his
  refine (checked_ok (by simp [hb, hlen, Nat.one_le_iff_ne_zero.1 h1, h2])).trans ?_
  rw [hi]

theorem compSwapBad_eq_none {e : Bytes} (i : Nat) (hc : u8At e 0 ≤ 15) (hk : u8At e 1 ≤ 1) : compSwapBad i e = none := by
  unfold compSwapBad
  rw [if_neg (Nat.not_lt.2 hc), if_neg (Nat.not_lt.2 hk)]

/-- Once every check passes, a swap takes effect by the mode: at once in PARK, and elsewhere under a job (R142, R162). -/
theorem cmdCompSwap_passes (h : Hdr) {p : Bytes} {s : State} (hf : 1 ≤ u16At p 0 ∧ u16At p 0 ≤ 1024) (hn : 1 ≤ u8At p 2 ∧ u8At p 2 ≤ 16)
    (he : ∀ e ∈ entries 2 (p.drop 4), u8At e 0 ≤ 15 ∧ u8At e 1 ≤ 1 ∧ ∀ i, s.compSwapState i e = none) :
    cmdCompSwap.body h p s =
      if s.sys.mode == .park then (s.compSwapPark (entries 2 (p.drop 4)), Resp.ok) else s.compSwapLive h p (entries 2 (p.drop 4)) := by
  obtain ⟨hf1, hf2⟩ := hf
  obtain ⟨hn1, hn2⟩ := hn
  calc cmdCompSwap.body h p s
    _ = checkedEntries s _ compSwapBad _ :=
      checked_ok (by simp [Nat.one_le_iff_ne_zero.1 hf1, hf2, Nat.one_le_iff_ne_zero.1 hn1, hn2])
    _ = checkedEntries s _ s.compSwapState _ := checkedEntries_ok fun i e hm => compSwapBad_eq_none i (he e hm).1 (he e hm).2.1
    _ = _ := checkedEntries_ok fun i e hm => (he e hm).2.2 i

theorem cmdMicDetMap_ok (h : Hdr) {p : Bytes} {s : State} (he : ∀ e ∈ entries 2 p, u8At e 0 ≤ 15 ∧ u8At e 1 ≤ 7) :
    cmdMicDetMap.body h p s = (s.each (entries 2 p) (fun t e =>
      t.setMic (u8At e 0) { t.mic (u8At e 0) with profile := u8At e 1 }), Resp.ok) := by
  refine checkedEntries_ok fun i e hm => ?_
  obtain ⟨hc, hv⟩ := he e hm
  unfold micDetBad
  rw [if_neg (Nat.not_lt.2 hc), if_neg (Nat.not_lt.2 hv)]

/-- The sixteen records show the microphones as they were before the command was taken. -/
theorem cmdMicMeterGet_taken (h : Hdr) (p : Bytes) (s : State) (op : Nat) :
    cmdMicMeterGet.body h p (s.taken h op) =
      (s.taken h op, Resp.ok ((List.range 16).flatMap (fun c => (s.mic c).meter s.time.sample))) := by
  simp [cmdMicMeterGet, mkCmd]

/-- Settles O15: one lemma for each body, on the state in which the command has been taken. -/
theorem microphoneCommands : Obligations.MicrophoneCommands := by
  refine ⟨fun h p s u hu hs hp hv hl hc => ?_, fun h p s u hu hs hp hr hb h1 h2 hlen hi => ?_,
    fun h p s u hu hs hp hf1 hf2 hn1 hn2 he => ?_, fun h p s u hu hs hp hf1 hf2 hn1 hn2 he => ?_, fun h p s u hu hs hp he => ?_,
    fun h s u hu hs => ?_⟩
  all_goals subst hu
  · exact cmdMicCfg.exec_ok h p [] hs (lenIs_iff.2 hp) (.inl rfl) (cmdMicCfg_ok h hv hl hc)
  · exact cmdCompLoad.exec_served h p hs (lenIs_iff.2 hp) (.inr hr) (cmdCompLoad_starts h hb h1 h2 hlen rfl hi)
      (by decide : stAccepted ≠ stPending)
  · have hbody := cmdCompSwap_passes h ⟨hf1, hf2⟩ ⟨hn1, hn2⟩ he
    rw [if_pos (by simpa using hs.mode_eq)] at hbody
    exact cmdCompSwap.exec_ok h p [] (hs.mono (by decide)) (by simp [cmdCompSwap, mkCmd, hp]) (.inl rfl) hbody
  · have hbody := cmdCompSwap_passes h ⟨hf1, hf2⟩ ⟨hn1, hn2⟩ he
    rw [if_neg (by simpa using hs.mode_ne (by decide))] at hbody
    exact cmdCompSwap.exec_served h p (hs.mono (by decide)) (by simp [cmdCompSwap, mkCmd, hp]) (.inl rfl) hbody
      (State.settleJob_status_ne_pending _ _)
  · exact cmdMicDetMap.exec_ok h p [] hs hp (.inl rfl) (cmdMicDetMap_ok h he)
  · exact cmdMicMeterGet.exec_ok h [] _ hs rfl (.inl rfl) (cmdMicMeterGet_taken h [] s 0x6005)

/-! ### The generator (R167 to R169, R177) -/

/-- A resource that measurement holds passes the check of R177. -/
theorem State.notHeld_of_owner {s : State} {r : Nat} (ho : s.owner r = 4) : (s.notHeld r).1 = false := by
  simp [State.notHeld, ho]

/-- The settings are taken while the generator does not run, and claim it if it is free. -/
theorem cmdGenSet_ok (h : Hdr) {p : Bytes} {s : State} (hc : ∀ e ∈ s.genChecks p, e.1 = false) (hg : s.meas.gen.start = none)
    (ho : s.owner 0x300 = 0 ∨ s.owner 0x300 = 4) :
    cmdGenSet.body h p s =
      ((s.claim 0x300 4).onMeas (fun x => { x with gen := { x.gen with cfg := some (genOf p) } }), Resp.ok) := by
  refine checked_ok (List.forall_mem_append.2 ⟨hc, ?_⟩)
  obtain ho | ho := ho
  · simp [hg, ho]
  · simp [hg, ho]

theorem cmdGenDrive_ok (h : Hdr) {p : Bytes} {s : State} (he : ∀ e ∈ entries 4 p, u16At e 0 < s.busCount ∧ u8At e 2 ≤ 1)
    (hg : s.meas.gen.start = none) (ho : s.owner 0x300 = 4) :
    cmdGenDrive.body h p s =
      (s.onMeas (fun x => { x with gen := { x.gen with drive := (entries 4 p).map (fun e => (u16At e 0, u8At e 2)) } }), Resp.ok) := by
  refine (checkedEntries_ok fun i e hm => ?_).trans (checked_ok (by simp [hg, State.notHeld_of_owner ho]))
  obtain ⟨hb, hv⟩ := he e hm
  unfold State.driveBad
  rw [if_neg (Nat.not_le.2 hb), if_neg (Nat.not_lt.2 hv)]

theorem cmdGenStart_ok (h : Hdr) {p : Bytes} {s : State} (he : s.genEarly p = false) (hg : s.meas.gen.start = none)
    (ho : s.owner 0x300 = 4) :
    cmdGenStart.body h p s = (s.onMeas (fun x => { x with gen := { x.gen with
      start := some (s.genFirst p), noiseState := (s.meas.gen.cfg.map (·.seed)).getD 1, pink := [], stopping := none,
      sweepDone := false } }), Resp.ok) :=
  checked_ok (by simp [he, hg, State.notHeld_of_owner ho])

theorem cmdGenStop_ok (h : Hdr) (p : Bytes) {s : State} (ho : s.owner 0x300 = 4) : cmdGenStop.body h p s = (s.genStop, Resp.ok) :=
  checked_ok (by simp [State.notHeld_of_owner ho])

theorem cmdGenRelease_ok (h : Hdr) (p : Bytes) {s : State} (ho : s.owner 0x300 = 4) :
    cmdGenRelease.body h p s = (s.genRelease, Resp.ok) :=
  checked_ok (by simp [State.notHeld_of_owner ho])

/-- Settles O16: one lemma for each body, on the state in which the command has been taken. -/
theorem generatorCommands : Obligations.GeneratorCommands := by
  refine ⟨fun h p s u hu hs hp hc hg ho => ?_, fun h p s u hu hs hp he hg ho => ?_, fun h p s u seed hu hs hp he hg ho hseed => ?_,
    fun h s u hu hs ho => ?_, fun h s u hu hs ho => ?_⟩
  all_goals subst hu
  · exact cmdGenSet.exec_ok h p [] hs (lenIs_iff.2 hp) (.inl rfl) (cmdGenSet_ok h hc (by simpa using hg) ho)
  · exact cmdGenDrive.exec_ok h p [] hs hp (.inl rfl) (cmdGenDrive_ok h he (by simpa using hg) ho)
  · have hbody := cmdGenStart_ok h he (by simpa using hg) ho
    simp only [State.taken_frame, ← hseed] at hbody
    exact cmdGenStart.exec_ok h p [] hs (lenIs_iff.2 hp) (.inl rfl) hbody
  · exact cmdGenStop.exec_ok h [] [] hs rfl (.inl rfl) (cmdGenStop_ok h [] ho)
  · exact cmdGenRelease.exec_ok h [] [] hs rfl (.inl rfl) (cmdGenRelease_ok h [] ho)

/-! ### Capture (R170, R171, R173, R176, R177) -/

/-- A capture whose checks pass takes the DRAM that its buffer is given. -/
theorem cmdCaptureSet_places (h : Hdr) {p : Bytes} {s t : State} {k : Nat} (hc : ∀ e ∈ s.captureChecks p, e.1 = false)
    (ht : (s.unplace 4 0).place 4 0 ((u16At p 2 + 1) / 2) = some (k, t)) :
    cmdCaptureSet.body h p s = ((t.claim 0x301 4).onMeas (fun x => { x with capture := some (captureOf p) }),
      Resp.ok (le32 (captureBytes (u8At p 0) (u32At p 4) (u8At p 1)))) := by
  refine (checked_ok hc).trans ?_
  rw [ht]

/-- A capture is armed for the boundary that the payload names, or for the next one. -/
theorem cmdCaptureStart_arms (h : Hdr) {p : Bytes} {s : State} (he : s.captureEarly p = false) (hn : s.captureOn = none)
    (ho : s.owner 0x301 = 4) :
    cmdCaptureStart.body h p s = (s.onCapture (fun x => { x with
      st := 1, start := if bitOf (u8At p 0) 0 then s.quantumAt (u32At p 4) else s.nextBoundary, written := 0, valid := 0, status := 0,
      cause := 0, validEnd := none, stopping := false, begun := false, shift := 0 }), Resp.ok) :=
  checked_ok (by simp [he, hn, State.notHeld_of_owner ho])

theorem cmdCaptureStop_ok (h : Hdr) (p : Bytes) {s : State} (ho : s.owner 0x301 = 4) :
    cmdCaptureStop.body h p s = (s.onCapture (fun x => { x with stopping := x.stopping || x.st == 1 }), Resp.ok) :=
  checked_ok (by simp [State.notHeld_of_owner ho])

/-- Bytes below the capture's readable limit are copied to the host's buffer (R176). -/
theorem cmdCaptureRead_copies (h : Hdr) {p : Bytes} {s : State} {c : Capture} (hb : s.bufOk (bufAt p 4) = true)
    (hc : s.meas.capture = some c) (hr : u32At p 0 + (bufAt p 4).len ≤ c.readable) (ho : s.owner 0x301 = 4) :
    cmdCaptureRead.body h p s = (s.bufWrite (bufAt p 4) (mread s.mem (s.captureAddr + u32At p 0) (bufAt p 4).len),
      Resp.ok (le32 (bufAt p 4).len)) :=
  checked_ok (by simp [hb, hc, hr, State.notHeld_of_owner ho])

theorem cmdCaptureRelease_ok (h : Hdr) (p : Bytes) {s : State} (ho : s.owner 0x301 = 4) :
    cmdCaptureRelease.body h p s = (s.freeCapture, Resp.ok) :=
  checked_ok (by simp [State.notHeld_of_owner ho])

/-- Settles O17: one lemma for each body, on the state in which the command has been taken. -/
theorem captureCommands : Obligations.CaptureCommands := by
  refine ⟨fun h p s u t k hu hs hp hc ht => ?_, fun h p s u c hu hs hp he hn ho hc => ?_, fun h s u hu hs ho => ?_,
    fun h p s u c hu hs hp hr hb hc hrd ho => ?_, fun h s u hu hs ho => ?_⟩
  all_goals subst hu
  · exact cmdCaptureSet.exec_ok h p _ hs (lenIs_iff.2 hp) (.inl rfl) (cmdCaptureSet_places h hc ht)
  · have hbody := cmdCaptureStart_arms h he hn ho
    simp only [State.taken_quantumAt, State.taken_nextBoundary, ← hc] at hbody
    exact cmdCaptureStart.exec_ok h p [] hs (lenIs_iff.2 hp) (.inl rfl) hbody
  · exact cmdCaptureStop.exec_ok h [] [] hs rfl (.inl rfl) (cmdCaptureStop_ok h [] ho)
  · exact cmdCaptureRead.exec_ok h p _ hs (lenIs_iff.2 hp) (.inr hr) (cmdCaptureRead_copies h hb (by simpa using hc) hrd ho)
  · exact cmdCaptureRelease.exec_ok h [] [] hs rfl (.inl rfl) (cmdCaptureRelease_ok h [] ho)

end Sys2Proof.Machine
end

section
/-! PROOFS. The commands of the serial audio ports: groups, ports, masks, enables and status, each by what its body comes to once its checks
pass (R187 to R189, R197, R203 to R205). -/

namespace Sys2Proof.Machine

/-! ### Groups (R203) -/

/-- In a live mode a group whose ports are neither enabled nor active may be set (R203). -/
theorem State.groupBusy_eq_false {s : State} {g : Nat}
    (hb : s.live = true → ∀ q ∈ grpPorts g, s.portEnabled q = false ∧ (s.port q).active = false) :
    (s.live && (grpPorts g).any (fun q => s.portEnabled q || (s.port q).active)) = false := by
  cases hl : s.live with
  | false => rfl
  | true => simpa using hb hl

/-- A group that no other function holds is set once its ports' settings fit and its ports are idle. -/
theorem cmdPortGroupSet_ok (h : Hdr) {p : Bytes} {s : State} (hr : ∀ e ∈ s.groupChecks p, e.1 = false) (hf : s.groupFits p = none)
    (hb : s.live = true → ∀ q ∈ grpPorts (u8At p 0), s.portEnabled q = false ∧ (s.port q).active = false)
    (hc : s.conflict 1 (grpResources (u8At p 0)) = none) : cmdPortGroupSet.body h p s = (s.groupSet p, Resp.ok) := by
  refine (checked_ok hr).trans ?_
  rw [hf, hc, State.groupBusy_eq_false hb, if_neg Bool.false_ne_true]

/-! ### Settings and masks of ports (R187 to R189, R204) -/

theorem portEntryBad_eq_none {e : Bytes} (i : Nat)
    (he : u8At e 0 ≤ 63 ∧ u8At e 1 ≤ 1 ∧ isWidth (u8At e 2) = true ∧ u8At e 3 ≤ 1 ∧ u16At e 4 ≤ 1023) : portEntryBad i e = none := by
  obtain ⟨hq, hd, hw, ht, hb⟩ := he
  exact firstBad_eq_none (by simp [hq, hd, hw, ht, hb])

theorem maskEntryBad_eq_none {e : Bytes} (i : Nat) (he : u8At e 0 ≤ 63) : maskEntryBad i e = none :=
  if_neg (Nat.not_lt.2 he)

/-- Whether an entry may change its port does not depend on its place in the list. -/
theorem State.portRunning_eq_none_iff (s : State) (i j : Nat) (e : Bytes) : s.portRunning i e = none ↔ s.portRunning j e = none := by
  simp [State.portRunning]

/-- A port that is free or held by the ports' own function passes the check of R203. -/
theorem State.portHeld_eq_none {s : State} {e : Bytes} (i : Nat) (ho : s.owner (u8At e 0) = 0 ∨ s.owner (u8At e 0) = 1) :
    s.portHeld i e = none :=
  if_neg fun hn => ho.elim hn.1 hn.2

/-- PORT_SET passes the four checks of its entries in turn, and applies them in order. -/
theorem cmdPortSet_ok (h : Hdr) {p : Bytes} {s : State}
    (he : ∀ e ∈ entries 8 p, u8At e 0 ≤ 63 ∧ u8At e 1 ≤ 1 ∧ isWidth (u8At e 2) = true ∧ u8At e 3 ≤ 1 ∧ u16At e 4 ≤ 1023)
    (hf : badEntry (entries 8 p) (s.portFits (portSetAll s.portSettings (entries 8 p)) 8 [2, 4, 6]) = none)
    (hr : ∀ e ∈ entries 8 p, s.portRunning 0 e = none) (ho : ∀ e ∈ entries 8 p, s.owner (u8At e 0) = 0 ∨ s.owner (u8At e 0) = 1) :
    cmdPortSet.body h p s = (s.each (entries 8 p) (fun t e => t.portSetOne e), Resp.ok) :=
  calc cmdPortSet.body h p s
    _ = checkedEntries s _ (s.portFits _ 8 [2, 4, 6]) _ := checkedEntries_ok fun i e hm => portEntryBad_eq_none i (he e hm)
    _ = checkedEntries s _ s.portRunning _ := checkedEntries_pass hf
    _ = checkedEntries s _ s.portHeld _ := checkedEntries_ok fun i e hm => (s.portRunning_eq_none_iff i 0 e).2 (hr e hm)
    _ = _ := checkedEntries_ok fun i e hm => State.portHeld_eq_none i (ho e hm)

/-- PORT_MASK_SET passes the three checks of its entries in turn, and writes the masks in order. -/
theorem cmdPortMaskSet_ok (h : Hdr) {p : Bytes} {s : State} (he : ∀ e ∈ entries 4 p, u8At e 0 ≤ 63)
    (hf : badEntry (entries 4 p) (s.portFits (portMaskAll s.portSettings (entries 4 p)) 4 [2, 2, 2]) = none)
    (ho : ∀ e ∈ entries 4 p, s.owner (u8At e 0) = 0 ∨ s.owner (u8At e 0) = 1) :
    cmdPortMaskSet.body h p s = (s.each (entries 4 p) (fun t e =>
      t.maskWrite (u8At e 0) (u16At e 2) (t.bit (Reg.PORT_CFG (u8At e 0)) 29)), Resp.ok) :=
  calc cmdPortMaskSet.body h p s
    _ = checkedEntries s _ (s.portFits _ 4 [2, 2, 2]) _ := checkedEntries_ok fun i e hm => maskEntryBad_eq_none i (he e hm)
    _ = checkedEntries s _ s.portHeld _ := checkedEntries_pass hf
    _ = _ := checkedEntries_ok fun i e hm => State.portHeld_eq_none i (ho e hm)

/-! ### Enables and status (R197, R205) -/

/-- The enable bit of each selected port is written, once no other function holds one of them. -/
theorem cmdPortEnable_ok (h : Hdr) {p : Bytes} {s : State} (hc : s.conflict 1 (selected (u64At p 0)) = none) :
    cmdPortEnable.body h p s = (s.each (selected (u64At p 0)) (fun t q =>
      t.setFld (Reg.PORT_CFG q) 31 31 (b2n (bitOf (u64At p 8) q))), Resp.ok) := by
  simp only [cmdPortEnable, mkCmd]
  rw [hc]

/-- The records show the ports as they were before the sticky bits are cleared. -/
theorem cmdPortStatusGet_ok (h : Hdr) {p : Bytes} (s : State) (h1 : 1 ≤ u8At p 1) (h2 : u8At p 1 ≤ 16) (hn : u8At p 0 + u8At p 1 ≤ 64) :
    cmdPortStatusGet.body h p s =
      (if bitOf (u8At p 2) 0 then s.each ((List.range (u8At p 1)).map (u8At p 0 + ·)) (fun t q => t.portClear q) else s,
        Resp.ok (((List.range (u8At p 1)).map (u8At p 0 + ·)).flatMap s.portStatus)) :=
  checked_ok (by simp [Nat.one_le_iff_ne_zero.1 h1, h2, hn])

/-- Settles O9: one lemma for each body, on the state in which the command has been taken. -/
theorem portCommands : Obligations.PortCommands := by
  refine ⟨fun h p s u hu hs hp hr hf hb hc => ?_, fun h p s u hu hs hp he hf hr ho => ?_, fun h p s u hu hs hp he hf ho => ?_,
    fun h p s u hu hs hp hc => ?_, fun h p s u hu hs hp h1 h2 hn => ?_⟩
  all_goals subst hu
  · exact cmdPortGroupSet.exec_ok h p [] hs (lenIs_iff.2 hp) (.inl rfl) (cmdPortGroupSet_ok h hr hf hb hc)
  · exact cmdPortSet.exec_ok h p [] hs hp (.inl rfl) (cmdPortSet_ok h he hf hr ho)
  · exact cmdPortMaskSet.exec_ok h p [] hs hp (.inl rfl) (cmdPortMaskSet_ok h he hf ho)
  · exact cmdPortEnable.exec_ok h p [] hs (lenIs_iff.2 hp) (.inl rfl) (cmdPortEnable_ok h hc)
  · exact cmdPortStatusGet.exec_ok h p _ hs (lenIs_iff.2 hp) (.inl rfl) (cmdPortStatusGet_ok h _ h1 h2 hn)

end Sys2Proof.Machine
end

section
/-! PROOFS. The commands of the network and the streams: modes, addresses, filters, host frames, MDIO, contexts, enables and status, each by what
its body comes to once its checks pass (R206, R207, R218, R226, R228, R235, R239 to R241, R413, R414, R524). -/

namespace Sys2Proof.Machine

/-! ### Modes, addresses, filters and status (R207, R218, R241, R524) -/

theorem cmdNetModeSet_ok (h : Hdr) {p : Bytes} {s : State} (h0 : u8At p 0 ≤ 1) (h1 : u8At p 1 ≤ 3) :
    cmdNetModeSet.body h p s = (s.each [0, 1] (fun t m => t.netModePort p m), Resp.ok) :=
  checked_ok (by simp [h0, h1])

theorem cmdNetAddrSet_ok (h : Hdr) {p : Bytes} {s : State} (h0 : u8At p 12 ≤ 32) (h1 : u8At p 28 ≤ 32) :
    cmdNetAddrSet.body h p s = (s.each [0, 1] (fun t m => t.netAddrPort p m), Resp.ok) :=
  checked_ok (by simp [h0, h1])

/-- An entry of a known kind for the host or the spare ring passes. -/
theorem filterBad_eq_none {e : Bytes} (i : Nat) (he : u8At e 0 ≤ 1 ∧ 2 ≤ u8At e 1 ∧ u8At e 1 ≤ 3) : filterBad i e = none := by
  obtain ⟨hk, h2, h3⟩ := he
  exact firstBad_eq_none (by simp [hk, Nat.lt_of_succ_le h2, h3])

/-- A port's filters are replaced by the entries, once every one of them passes. -/
theorem cmdNetFilterSet_ok (h : Hdr) {p : Bytes} {s : State} (h0 : u8At p 0 ≤ 1) (h1 : u8At p 1 ≤ 8)
    (he : ∀ e ∈ entries 4 (p.drop 2), u8At e 0 ≤ 1 ∧ 2 ≤ u8At e 1 ∧ u8At e 1 ≤ 3) :
    cmdNetFilterSet.body h p s = (s.onMac (u8At p 0) (fun v =>
      { v with filters := (entries 4 (p.drop 2)).map (fun e => (u8At e 0, u8At e 1, u16At e 2)) }), Resp.ok) :=
  (checked_ok (by simp [h0, h1])).trans (checkedEntries_ok fun i e hm => filterBad_eq_none i (he e hm))

/-- The flags and counters are those before the interrupt status is cleared. -/
theorem cmdNetStatusGet_ok (h : Hdr) {p : Bytes} (s : State) (h0 : u8At p 0 ≤ 1) :
    cmdNetStatusGet.body h p s = (if bitOf (u8At p 1) 0 then s.wr (Reg.MAC_INT_STATUS (u8At p 0)) 0 else s,
      Resp.ok (le8 (s.netFlags (u8At p 0)) ++ zeros 3 ++ (List.range 20).flatMap (fun n => le32 (s.rd (Reg.MAC_CNT (u8At p 0) n))))) :=
  checked_ok (by simp [h0])

/-! ### Host frames (R413, R414) -/

/-- The frames that fit are moved from the host ring to the buffer. -/
theorem cmdNetHostRx_moves (h : Hdr) {p d : Bytes} {n : Nat} {s t : State} (h0 : u8At p 0 ≤ 1) (hb : s.bufOk (bufAt p 4) = true)
    (hl : s.hostTooLong (u8At p 0) (bufAt p 4).len = false) (hf : s.hostFrames (u8At p 0) (bufAt p 4).len 4096 = (t, n, d)) :
    cmdNetHostRx.body h p s = (t.bufWrite (bufAt p 4) d, Resp.ok (le16 n ++ zeros 2 ++ le32 d.length)) := by
  refine (checked_ok (by simp [h0, hb, hl])).trans ?_
  rw [hf]

/-- The frames of the buffer wait behind those that wait already, and take the descriptors that are free. -/
theorem cmdNetHostTx_queues (h : Hdr) {p : Bytes} {fs : List Bytes} {s : State} (h0 : u8At p 0 ≤ 1) (hb : s.bufOk (bufAt p 4) = true)
    (hl : (bufAt p 4).len ≠ 0) (hf : hostTxFrames (s.txMax (u8At p 0)) (s.bufRead (bufAt p 4) (bufAt p 4).len) 0 0 65 = .inl fs) :
    cmdNetHostTx.body h p s = ((s.onMac (u8At p 0) (fun v => { v with hostTx := v.hostTx ++ fs })).hostSend (u8At p 0),
      Resp.ok (le16 fs.length ++ zeros 2)) := by
  refine (checked_ok (by simp [h0, hb, hl])).trans ?_
  rw [hf]

/-! ### MDIO (R206) -/

/-- What a Clause 22 or Clause 45 access must meet: port, direction, addresses within their ranges. -/
theorem mdioChecks_pass {p : Bytes} (h0 : u8At p 0 ≤ 1) (hc : u8At p 1 = 22 ∨ u8At p 1 = 45) (hd : u8At p 2 ≤ 1) (ha : u8At p 3 ≤ 31)
    (hv : u16At p 4 ≤ 31) (hr : u8At p 1 = 22 → u16At p 6 ≤ 31) : ∀ e ∈ mdioChecks p, e.1 = false := by
  obtain hc | hc := hc
  · simp [mdioChecks, h0, hc, hd, ha, hv, hr hc]
  · simp [mdioChecks, h0, hc, hd, ha, hv]

theorem cmdMdioAccess_read (h : Hdr) {p : Bytes} {s : State} (hc : ∀ e ∈ mdioChecks p, e.1 = false) (hr : u8At p 2 = 0) :
    cmdMdioAccess.body h p s = (s.fresh, Resp.ok (le16 (Config.freeNat s.freeCnt))) :=
  (checked_ok hc).trans (if_pos hr)

theorem cmdMdioAccess_write (h : Hdr) {p : Bytes} {s : State} (hc : ∀ e ∈ mdioChecks p, e.1 = false) (hw : u8At p 2 ≠ 0) :
    cmdMdioAccess.body h p s = (s, Resp.ok (le16 0)) :=
  (checked_ok hc).trans (if_neg hw)

/-- Settles O10: one lemma for each body, on the state in which the command has been taken. -/
theorem networkCommands : Obligations.NetworkCommands := by
  refine ⟨fun h p s u hu hs hp h0 h1 => ?_, fun h p s u hu hs hp h0 h1 => ?_, fun h p s u hu hs hp h0 h1 he => ?_,
    fun h p s u hu hs hp h0 => ?_, fun h p d n s u t hu hs hp hr h0 hb hl hf => ?_, fun h p fs s u hu hs hp hr h0 hb hl hf => ?_,
    fun h p s u hu hs hp h0 hc hd ha hv hr => ?_⟩
  all_goals subst hu
  · exact cmdNetModeSet.exec_ok h p [] hs (lenIs_iff.2 hp) (.inl rfl) (cmdNetModeSet_ok h h0 h1)
  · exact cmdNetAddrSet.exec_ok h p [] hs (lenIs_iff.2 hp) (.inl rfl) (cmdNetAddrSet_ok h h0 h1)
  · exact cmdNetFilterSet.exec_ok h p [] hs (by simp [cmdNetFilterSet, mkCmd, hp]) (.inl rfl) (cmdNetFilterSet_ok h h0 h1 he)
  · exact cmdNetStatusGet.exec_ok h p _ hs (lenIs_iff.2 hp) (.inl rfl) (cmdNetStatusGet_ok h _ h0)
  · exact cmdNetHostRx.exec_ok h p _ hs (lenIs_iff.2 hp) (.inr hr) (cmdNetHostRx_moves h h0 hb hl hf)
  · exact cmdNetHostTx.exec_ok h p _ hs (lenIs_iff.2 hp) (.inr hr) (cmdNetHostTx_queues h h0 hb hl hf)
  · have hchecks := mdioChecks_pass h0 hc hd ha hv hr
    by_cases hrd : u8At p 2 = 0
    · rw [if_pos hrd]
      exact cmdMdioAccess.exec_ok h p _ hs (lenIs_iff.2 hp) (.inl rfl) (cmdMdioAccess_read h hchecks hrd)
    · rw [if_neg hrd]
      exact cmdMdioAccess.exec_ok h p _ hs (lenIs_iff.2 hp) (.inl rfl) (cmdMdioAccess_write h hchecks hrd)

/-! ### Contexts (R226, R228, R241) -/

/-- A context that is neither enabled nor running takes the settings and joins the groups of its receive legs. -/
theorem cmdStreamSet_ok (h : Hdr) {p : Bytes} {s : State} (hc : ∀ e ∈ s.streamChecks p, e.1 = false)
    (he : (s.ctx (u8At p 0)).enabled = false) (hr : (s.ctx (u8At p 0)).running = false) (hl : s.legClash (u8At p 0) (ctxAt p) = none) :
    cmdStreamSet.body h p s =
      ((s.each ((ctxAt p).rxLegs.map (·.dst)) (fun t ip => t.hashIn ip)).setCtx (u8At p 0) (ctxAt p), Resp.ok) := by
  refine (checked_ok (List.forall_mem_append.2 ⟨hc, by simp [he, hr]⟩)).trans ?_
  rw [hl]

/-- The records show the contexts as they were before the interrupt status is cleared. -/
theorem cmdStreamStatusGet_ok (h : Hdr) {p : Bytes} (s : State) (h0 : u8At p 0 ≤ 254) (h1 : 1 ≤ u8At p 1) (h8 : u8At p 1 ≤ 8)
    (hn : u8At p 0 + u8At p 1 ≤ 255) :
    cmdStreamStatusGet.body h p s = (if bitOf (u8At p 2) 0 then s.wr Reg.STR_INT_STATUS 0 else s,
      Resp.ok ((List.range (u8At p 1)).flatMap (fun i => le32 (s.ctx (u8At p 0 + i)).word ++
        (List.range 12).flatMap (fun k => le16 (s.rd (Reg.STR_CTX_CNT (u8At p 0 + i) k)))))) :=
  checked_ok (by simp [Nat.one_le_iff_ne_zero.1 h1, h0, h8, hn])

/-! ### Enables (R235, R239, R240) -/

/-- Within the load limit, set contexts whose buffers can be placed are enabled. -/
theorem State.enableStreams_ok {p : Bytes} {s t : State} (hset : ∀ c ∈ s.turned p true, (s.ctx c).isSet = true)
    (hload : ∀ m < 2, s.portLoad (s.wouldSend p) m ≤ 9000000000) (ht : s.placeBuffers (s.turned p true) = some t) :
    s.enableStreams p = (t.setEnables p, Resp.ok) := by
  have hfind : (s.turned p true).find? (fun c => !(s.ctx c).isSet) = none := by
    simpa using hset
  have hany : (List.range 2).any
      (fun m => decide (9000000000 < s.portLoad (s.wouldSend p) m ∧ s.portLoad s.sending m < s.portLoad (s.wouldSend p) m)) = false := by
    simp only [List.any_eq_false, List.mem_range, decide_eq_true_eq, not_and]
    exact fun m hm hover => absurd hover (Nat.not_lt.2 (hload m hm))
  unfold State.enableStreams
  simp only [hfind, hany, ht]
  rw [if_neg Bool.false_ne_true]

/-- With no unicast leg to resolve, the enable is answered at once. -/
theorem cmdStreamEnable_now (h : Hdr) {p : Bytes} {s : State} (hm : maskBit p 0 255 = false) (hn : s.arpNeed p = []) :
    cmdStreamEnable.body h p s = s.enableStreams p :=
  (if_neg (by simp [hm])).trans (if_pos (.inr (by simp [hn])))

/-- With unicast legs to resolve, an enable whose checks pass asks for their addresses and waits for the answers. -/
theorem cmdStreamEnable_waits (h : Hdr) {p : Bytes} {s t : State} (hm : maskBit p 0 255 = false) (he : s.enableStreams p = (t, Resp.ok))
    (hn : s.arpNeed p ≠ []) :
    cmdStreamEnable.body h p s = ((s.each (s.arpNeed p) (fun t e => t.arpAsk e)).onNet (fun x =>
      { x with arpWait := some ⟨h, p, s.arpNeed p⟩ }), ⟨stPending, []⟩) :=
  (if_neg (by simp [hm])).trans (if_neg (by simp [he, hn, Resp.ok]))

/-- A served command whose answer is still to come leaves its slot executing (R240). -/
theorem CmdDef.exec_pending (c : CmdDef) (h : Hdr) (p d : Bytes) {s t : State} (hs : s.Serves c.legal) (hl : c.len p = true)
    (hb : c.bulk p = false ∨ s.BulkRoom) (hc : c.body h p (s.taken h c.op) = (t, ⟨stPending, d⟩)) :
    c.exec h p s = .next (t.setSlot h.slot ⟨.executing, true, (t.slot h.slot).last⟩) := by
  unfold CmdDef.exec
  rw [CmdDef.run_served c h p hs hl hb]
  unfold CmdDef.finish
  rw [hc]
  exact congrArg Host.Outcome.next (if_pos rfl)

/-- Settles O11: one lemma for each body, on the state in which the command has been taken. -/
theorem streamCommands : Obligations.StreamCommands := by
  refine ⟨fun h p s u hu hs hp hc he hr hl => ?_, fun h p s u t hu hs hp hm hset hload ht hn => ?_,
    fun h p s u t hu hs hp hm he hn => ?_, fun h p s u hu hs hp h0 h1 h8 hn => ?_⟩
  all_goals subst hu
  · exact cmdStreamSet.exec_ok h p [] hs (lenIs_iff.2 hp) (.inl rfl) (cmdStreamSet_ok h hc he hr hl)
  · exact cmdStreamEnable.exec_ok h p [] hs (lenIs_iff.2 hp) (.inl rfl)
      ((cmdStreamEnable_now h hm hn).trans (State.enableStreams_ok hset hload ht))
  · exact cmdStreamEnable.exec_pending h p [] hs (lenIs_iff.2 hp) (.inl rfl) (cmdStreamEnable_waits h hm he hn)
  · exact cmdStreamStatusGet.exec_ok h p _ hs (lenIs_iff.2 hp) (.inl rfl) (cmdStreamStatusGet_ok h _ h0 h1 h8 hn)

end Sys2Proof.Machine
end

section
/-! PROOFS. The transmit and receive rings of the Ethernet ports: what each row comes to under its rule's premises (R218, R223 to R225, R414). -/

namespace Sys2Proof.Machine

/-! ### Receive rings (R223) -/

/-- With NET powered, a number of descriptors within the register's field is returned as it stands. -/
theorem execRxRingReturn_powered {m r n : Nat} {s : State} (hm : m < 2) (hr : r < 4) (hp : bitOf s.sys.pwr 8 = true) (h1 : 1 ≤ n)
    (hn : n < 8192) : execRxRingReturn m r n s = .next (s.rxReturn m r n) := by
  unfold execRxRingReturn
  rw [Nat.mod_eq_of_lt hn, if_neg (by simp [hm, hr, hp, Nat.one_le_iff_ne_zero.1 h1])]

/-- With NET powered, a ring that is enabled has every descriptor and begins at 0. -/
theorem execRxRingEnable_powered {m r : Nat} {s t : State} (hm : m < 2) (hr : r < 4) (hp : bitOf s.sys.pwr 8 = true)
    (ht : t = s.setFld (Reg.RX_RING_CFG m r) 31 31 1) :
    execRxRingEnable m r s = .next
      (t.onMac m (fun v => { v with head := tset 0 v.head r 0, free := tset 0 v.free r (s.ringLen (Reg.RX_RING_CFG m r)) })) := by
  subst ht
  exact if_neg (by simp [hm, hr, hp])

/-! ### Transmit rings (R218, R224, R225) -/

/-- The tail of an enabled ring: the descriptors from the old tail to the new one are queued in order. -/
theorem execTxRingTailWrite_enabled {m r v : Nat} {s t : State} (hm : m < 2) (hr : r < 2) (hp : bitOf s.sys.pwr 8 = true) (hv : v < 4096)
    (he : s.bit (Reg.TX_RING_CFG m r) 31 = true) (ht : t = s.setFld (Reg.TX_RING_TAIL m r) 11 0 v) :
    execTxRingTailWrite m r v s = .next
      (t.each (List.range ((v + s.ringLen (Reg.TX_RING_CFG m r) - s.fld (Reg.TX_RING_TAIL m r) 11 0 % s.ringLen (Reg.TX_RING_CFG m r))
          % s.ringLen (Reg.TX_RING_CFG m r)))
        (fun w k => w.txQueue m (2 * r)
          ⟨[], none, some (r, (s.fld (Reg.TX_RING_TAIL m r) 11 0 + k) % s.ringLen (Reg.TX_RING_CFG m r)), .no⟩)) := by
  subst ht
  have hon : s.txRingOn m r = true := he
  unfold execTxRingTailWrite
  rw [if_neg (by simp [hm, hr, hp]), Nat.mod_eq_of_lt hv]
  exact if_neg (by simp [hon])

/-- A ring that is enabled begins at 0 with no frame of its own queued; ring 1 then takes the frames of NET_HOST_TX that wait. -/
theorem execTxRingEnable_powered {m r : Nat} {s t u : State} (hm : m < 2) (hr : r < 2) (hp : bitOf s.sys.pwr 8 = true)
    (ht : t = (s.setFld (Reg.TX_RING_CFG m r) 31 31 1).setFld (Reg.TX_RING_TAIL m r) 11 0 0)
    (hu : u = t.onMac m (fun v => { v with
      txHead := tset 0 v.txHead r 0, started := v.started.filter (fun e => e.1 != r),
      q0 := v.q0.filter (fun f => !((f.ring.map (·.1)) == some r)), q2 := v.q2.filter (fun f => !((f.ring.map (·.1)) == some r)),
      next := v.next.map (fun f => if (f.ring.map (·.1)) == some r then { f with ring := none } else f) })) :
    execTxRingEnable m r s = .next (if r = 1 then u.hostSend m else u) := by
  subst ht hu
  exact if_neg (by simp [hm, hr, hp])

/-- The descriptor at HEAD, of a length that may be sent, whose frame has left or was dropped, completes. -/
theorem execTxDescriptorDone_started {m r i a len st x y : Nat} {z : Option Int} {s t : State} (hr : r < 2) (hm : s.macOn m = true)
    (he : s.bit (Reg.TX_RING_CFG m r) 31 = true) (hi : i = tget 0 (s.mac m).txHead r) (ht : i ≠ s.fld (Reg.TX_RING_TAIL m r) 11 0)
    (hd : s.txDesc m r i = (t, a, len, st)) (h1 : 1 ≤ len) (hl : len ≤ t.txMax m)
    (hz : (t.mac m).started.find? (fun e => e.1 == r && e.2.1 == i) = some (x, y, z)) :
    execTxDescriptorDone m r s = .next (t.txComplete m r i len (a, len, st) z) := by
  subst hi
  unfold execTxDescriptorDone
  rw [if_neg (by simp [hr, hm, he])]
  dsimp only
  rw [if_neg ht, hd]
  dsimp only
  rw [if_neg (Nat.one_le_iff_ne_zero.1 h1), if_neg (Nat.not_lt.2 hl), hz]

/-- A descriptor that asks for no timestamp is done without a record (R224), and so is one whose frame was dropped while the link was down (that it
completes is the model's choice, notes/assumptions/67). -/
theorem State.txComplete_unstamped {m r i a len st : Nat} {z : Option Int} (t : State) (h : bitOf st 0 = false ∨ z = none) :
    t.txComplete m r i len (a, len, st) z =
      ((t.txWriteBack m r i (st % 2 + 0x8000)).raise (Reg.MAC_INT_STATUS m) 6).hostNext m r := by
  unfold State.txComplete
  obtain hb | rfl := h
  · simp only [hb]
  · cases bitOf st 0 with
    | false => rfl
    | true => rfl

/-- A descriptor that asks for a timestamp has its record written before it is done (R225). -/
theorem State.txComplete_stamped {m r i a len st : Nat} {z : Int} {t u : State} (h : bitOf st 0 = true)
    (hu : u = (t.dmaWrite (t.arrayAt (Reg.TX_RING_TS m r) i) (stampRecord z (max 60 len) m (b2n (isPtpEvent (mread t.mem a len))))).perfAdd
      103 (b2n (isPtpEvent (mread t.mem a len)))) :
    t.txComplete m r i len (a, len, st) (some z) =
      ((u.txWriteBack m r i (st % 2 + 0x8000)).raise (Reg.MAC_INT_STATUS m) 6).hostNext m r := by
  subst hu
  unfold State.txComplete
  simp only [h]

/-- Settles O25: one lemma for each row, and for a descriptor that is done one for each kind of completion. -/
theorem ringAccesses : Obligations.RingAccesses := by
  refine ⟨fun m r n s hm hr hp h1 hn => execRxRingReturn_powered hm hr hp h1 hn, fun m r s t hm hr hp ht => execRxRingEnable_powered hm hr hp ht,
    fun m r v s t hm hr hp hv he ht => execTxRingTailWrite_enabled hm hr hp hv he ht,
    fun m r s t u hm hr hp ht hu => execTxRingEnable_powered hm hr hp ht hu,
    fun m r i a len st x y s t z hr hm he hi ht hd h1 hl hz hs => ?_, fun m r i a len st x y s t u z hr hm he hi ht hd h1 hl hz hs hu => ?_⟩
  · exact (execTxDescriptorDone_started hr hm he hi ht hd h1 hl hz).trans (congrArg Host.Outcome.next (t.txComplete_unstamped hs))
  · exact (execTxDescriptorDone_started hr hm he hi ht hd h1 hl hz).trans (congrArg Host.Outcome.next (State.txComplete_stamped hs hu))

end Sys2Proof.Machine
end

section
/-! PROOFS. The boot rows: what each comes to under its rule's premises (R210, R216, R219, R362, R366, R370, R374, R375, R377, R389, R392, R401,
R452). -/

namespace Sys2Proof.Machine

/-! ### Images (R374, R375) -/

/-- A slot that loads and passes the checks is entered. -/
theorem execImageLoadDone_valid {k : Nat} {s : State} (hp : s.sys.phase = .running) (hk : s.sys.bootTry = some k)
    (he : s.slotError (k % 2) = 0) :
    execImageLoadDone false s = .next (s.enterImage (k % 2) (s.trialFlag && k % 2 == s.activeSlot) (s.slotHeader (k % 2))
      (s.slotBody (k % 2) (u32At (s.slotHeader (k % 2)) 12))) := by
  unfold execImageLoadDone
  simp only [hk]
  rw [if_neg (by simp [hp])]
  exact if_pos (by simp [he])

/-- A slot tried first that does not load, or fails a check, lets the other be tried. -/
theorem execImageLoadDone_firstBad {bad : Bool} {k : Nat} {s : State} (hp : s.sys.phase = .running) (hk : s.sys.bootTry = some k) (h2 : k < 2)
    (hb : bad = true ∨ s.slotError k ≠ 0) :
    execImageLoadDone bad s = .next (s.onSys (fun x => { x with bootTry := some (3 - k) })) := by
  have he : ¬ (if bad then 2 else s.slotError k) = 0 := by
    cases bad with
    | false => simpa using hb
    | true => simp
  unfold execImageLoadDone
  simp only [hk, Nat.mod_eq_of_lt h2]
  rw [if_neg (by simp [hp]), if_neg he, if_pos h2]

/-! ### Starts (R216, R219, R362, R370, R392) -/

/-- With CHAIN_EN strapped, the NET domain and the links come up before firmware. -/
theorem execChainBootForward_strapped {l : Nat} {s : State} (hp : s.sys.phase = .running) (hc : s.sys.straps.chainEn = true)
    (hn : bitOf s.sys.pwr 8 = false) :
    execChainBootForward l s = .next (((s.setPwr (s.sys.pwr ||| 256)).onTime (fun x => { x with sdLock := true })).trainLinks l) :=
  if_neg (by simp [hp, hc, hn])

/-- Once an image is entered, firmware starts: watchdog, NET domain, masters, scheduler and the first DRAM sweep. -/
theorem execFirmwareStart_entered {s t u : State} (hp : s.sys.phase = .running) (hi : s.sys.imageEntered = true)
    (hf : s.sys.fwRunning = false) (hr : s.sys.romInSafe = false)
    (ht : t = s.onSys (fun x => { x with fwRunning := true, wdtRunning := true, wdtTick := s.time.eventTick }))
    (hu : u = (t.setPwr (t.sys.pwr ||| 256)).onXbar (fun x => { x with resetMask := x.resetMask &&& 0x200 })) :
    execFirmwareStart s = .next (((((u.setFld Reg.DDRC_CTRL 0 0 1).setFld Reg.SCHED_CTRL 0 0 1).onTime
      (fun x => { x with ddrLock := true })).startSweep 0 []).noteDev s) := by
  subst ht hu
  exact if_neg (by simp [hp, hi, hf, hr])

/-- Firmware starts the network once: ports, PTP groups, the stream engine and the links. -/
theorem execNetworkStart_down {l : Nat} {s t : State} (hp : s.sys.phase = .running) (hf : s.sys.fwRunning = true) (hn : s.sys.netUp = false)
    (hw : bitOf s.sys.pwr 8 = true) (ht : t = (s.onTime (fun x => { x with sdLock := true })).each [0, 1] (fun v m => v.startPort m)) :
    execNetworkStart l s = .next
      (((((t.each ptpGroups (fun v a => v.hashIn a)).each ptpEthers (fun v a => v.hashEther a)).setFld Reg.STR_CTRL 0 0 1).trainLinks l).onSys
        (fun x => { x with netUp := true })) := by
  subst ht
  exact if_neg (by simp [hp, hf, hn, hw])

/-- With sweep, network and dump region in place BOOT changes to PARK, and the held commands are executed first (R389, R452). -/
theorem execStartupPark_ready {s : State} (hp : s.sys.phase = .running) (hm : s.sys.mode = .boot) (hf : s.sys.fwRunning = true)
    (hs : s.sys.sweepPassed = true) (hn : s.sys.netUp = true) (hd : s.sys.dumpPlaced = true) (he : s.sys.fatal = none) :
    execStartupPark s =
      .next ((((s.trialPassed.ddrSleep).setPwr 0x107).setMode .park 3).queueHeld.runHeld s.mbx.held.length) :=
  if_neg (by simp [hp, hm, hf, hs, hn, hd, he])

/-! ### Flash (R377) -/

/-- The oldest chunk is programmed into the slot of its staging, and its piece of the job completes. -/
theorem execFlashProgramDone_chunk {c : StageChunk} {cs : List StageChunk} {s t : State} {g : Staging} (hc : s.sec.chunks = c :: cs)
    (hg : s.sec.staging = some g)
    (ht : t = ((s.withFlash (mwrite s.flash (slotAddr g.slot + c.off) c.data)).onSec (fun x => { x with chunks := cs })).stageCount c) :
    execFlashProgramDone s = .next (t.pieceDone? (t.jobOf 0x0010 c.hdr) stOk (le32 (c.off + c.data.length))) := by
  subst ht
  unfold execFlashProgramDone
  simp only [hc, hg, Option.map_some, Option.getD_some]

/-- Settles O27: one lemma for each row, and for a loaded slot one for each outcome. That the DDR PLL is locked at the start of firmware, the
SerDes PLL at the starts of the chain and the network, and the order in which held commands are taken up, are the model's choices
(notes/assumptions/41, notes/assumptions/45 and notes/assumptions/16). -/
theorem bootRows : Obligations.BootRows :=
  ⟨fun _ _ hp hk he => execImageLoadDone_valid hp hk he,
   fun _ _ _ hp hk h2 hb => execImageLoadDone_firstBad hp hk h2 hb,
   fun _ _ hp hc hn => execChainBootForward_strapped hp hc hn,
   fun _ _ _ hp hi hf hr ht hu => execFirmwareStart_entered hp hi hf hr ht hu,
   fun _ _ _ hp hf hn hw ht => execNetworkStart_down hp hf hn hw ht,
   fun _ hp hm hf hs hn hd he => execStartupPark_ready hp hm hf hs hn hd he,
   fun _ _ _ _ _ hc hg ht => execFlashProgramDone_chunk hc hg ht⟩

end Sys2Proof.Machine
end

section
/-! PROOFS. The event rows of the network and the streams: what each comes to under its rule's premises (R208 to R210, R213, R218, R219, R225,
R234, R237, R238, R240, R265). -/

namespace Sys2Proof.Machine

/-! ### Links (R210, R265) -/

/-- A port that had block lock loses it: its link goes down, retraining starts, and its queues are dropped. -/
theorem State.loseLock_up {s : State} {m : Nat} (hm : s.macOn m = true) (hl : (s.mac m).linkUp = true) :
    s.loseLock m = ((s.setLink m false).onMac m (fun v => { v with retraining := true })).dropQueued m :=
  if_neg (by simp [hm, hl])

theorem execBlockLockLoss_port {s : State} (m : Nat) (hd : s.discards = false) : execBlockLockLoss (.port m) s = .next (s.loseLock m) :=
  if_neg (by simp [hd])

/-- Where the SerDes PLL has lost lock, both ports lose theirs (R265). -/
theorem execBlockLockLoss_serdesPll {s t : State} (hd : s.discards = false)
    (ht : t = (s.onTime (fun x => { x with sdLock := false })).raise Reg.CLK_INT_STATUS 3) :
    execBlockLockLoss .serdesPll s = .next ((t.loseLock 0).loseLock 1) := by
  subst ht
  exact if_neg (by simp [hd])

/-- Retraining ends with the link returned, a flap, or with the link marked failed. -/
theorem execRetrainEnd_retraining {m : Nat} {ok : Bool} {s t : State} (hm : s.macOn m = true) (hr : (s.mac m).retraining = true)
    (ht : t = s.onMac m (fun v => { v with retraining := false, failed := !ok })) :
    execRetrainEnd m ok s = .next (if ok then (((t.onTime (fun x => { x with sdLock := true })).setLink m true).macCnt m 18).linkEvent m 1
      else ((t.macCnt m 19).raise (Reg.MAC_INT_STATUS m) 1).linkEvent m 2) := by
  subst ht
  exact if_neg (by simp [hm, hr])

/-- A poll that finds block lock returns the link to service; one that had failed is reported restored. -/
theorem execLinkPoll_locked {m : Nat} {s t : State} (hm : s.macOn m = true) (hl : (s.mac m).linkUp = false)
    (hr : (s.mac m).retraining = false)
    (ht : t = ((s.onTime (fun x => { x with sdLock := true })).setMac m { s.mac m with failed := false }).setLink m true) :
    execLinkPoll m true s = .next (if (s.mac m).failed then t.linkEvent m 3 else t) := by
  subst ht
  exact if_neg (by simp [hm, hl, hr])

/-! ### Frames (R208, R209, R213, R218, R225, R238) -/

/-- With the link up, an intact frame is taken once what left the receive buffer before it is forgotten. -/
theorem execFrameReceived_intact {m : Nat} {x : RxMeta} {f : Bytes} {s t : State} (hm : s.macOn m = true) (hl : (s.mac m).linkUp = true)
    (ht : t = s.forgetLeft m (s.rxStart x)) (hb : t.rxBad m x f = none) :
    execFrameReceived m x f s = .next (t.frameIntact m x f).arpReady := by
  subst ht
  unfold execFrameReceived
  rw [if_neg (by simp [hm, hl])]
  simp only [hb]

/-- With the link up, a frame that is dropped is counted under what is wrong with it. -/
theorem execFrameReceived_bad {m k : Nat} {x : RxMeta} {f : Bytes} {s t : State} (hm : s.macOn m = true) (hl : (s.mac m).linkUp = true)
    (ht : t = s.forgetLeft m (s.rxStart x)) (hb : t.rxBad m x f = some k) : execFrameReceived m x f s = .next (t.macCnt m k) := by
  subst ht
  unfold execFrameReceived
  rw [if_neg (by simp [hm, hl])]
  simp only [hb]

/-- The frame in the transmit FIFO starts once the Mirror gate has been tested, its timestamp is taken, and the FIFO takes the next. -/
theorem execForwardTransmit_starts {m cyc : Nat} {f : TxFrame} {s t u : State} (hm : s.macOn m = true) (hl : (s.mac m).linkUp = true)
    (ht : t = (s.gateNext m).fillNext m (cyc % 50) 0 ((s.mac m).queued)) (hf : (t.mac m).next = some f)
    (hu : u = (t.startFrame m (cyc % 50) f).ptpSent m (cyc % 50) f) :
    execForwardTransmit m cyc s = .next (u.fillNext m (cyc % 50) (f.data.length + 4) ((u.mac m).queued)) := by
  subst ht hu
  unfold execForwardTransmit
  rw [if_neg (by simp [hm, hl])]
  simp only [hf]

/-! ### Legs and ARP (R234, R240) -/

/-- A leg of a running receive context that has delivered no packet in 64 quanta is down. -/
theorem execLegDown_silent {c k : Nat} {s : State} {v : StreamCtx} (hc : c < 255) (hk : k < 2) (hv : v = s.ctx c) (ho : v.output = false)
    (hr : s.ctxRuns c = true) (hon : v.legOn k = true) (hup : (v.leg k).up = true) (hi : 64 ≤ (v.leg k).idle) :
    execLegDown c k s = .next ((((s.setCtx c (v.setLeg k { v.leg k with up := false })).ctxCnt c 11).raise Reg.STR_INT_STATUS 5).post
      0x4002 (le8 c ++ le8 k)) := by
  subst hv
  exact if_neg (by simp [hc, hk, ho, hr, hon, hup, hi])

/-- A STREAM_ENABLE that waits with legs unresolved is refused for the first of them. -/
theorem State.arpEnd_unresolved {s : State} {w : ArpWait} {e : Nat × Nat × Nat} {es : List (Nat × Nat × Nat)} (hw : s.net.arpWait = some w)
    (hn : w.need = e :: es) :
    s.arpEnd = (s.onNet (fun x => { x with arpWait := none })).respond w.hdr 0x4011 w.payload (Resp.err stState e.1 0) := by
  unfold State.arpEnd
  simp only [hw, hn]

/-- Settles O39: one lemma for each row; STREAM_PACKET_SEND is its own effect. That a link which comes back shows the SerDes PLL locked, and
that the Mirror gate is tested again at the frame's start, are the model's choices (notes/assumptions/45 and notes/assumptions/67). -/
theorem networkEventRows : Obligations.NetworkEventRows := by
  refine ⟨fun m s hd hm hl => ?_, fun s t hd ht => execBlockLockLoss_serdesPll hd ht,
    fun m ok s t hm hr ht => execRetrainEnd_retraining hm hr ht, fun m s t hm hl hr ht => execLinkPoll_locked hm hl hr ht,
    fun m x f s t hm hl ht hb => execFrameReceived_intact hm hl ht hb,
    fun m k x f s t hm hl ht hb => execFrameReceived_bad hm hl ht hb,
    fun m cyc f s t u hm hl ht hf hu => execForwardTransmit_starts hm hl ht hf hu, fun s => rfl,
    fun c k s v hc hk hv ho hr hon hup hi => execLegDown_silent hc hk hv ho hr hon hup hi,
    fun s w e es hw hn => congrArg Host.Outcome.next (State.arpEnd_unresolved hw hn)⟩
  exact (execBlockLockLoss_port m hd).trans (congrArg Host.Outcome.next (State.loseLock_up hm hl))

end Sys2Proof.Machine
end

section
/-! PROOFS. The commands of time: the PTP clock, the servo, steps, sources, timestamp adjustments, SYNC_OUT and edge capture, each by what its body
comes to once its checks pass (R246, R255 to R257, R266 to R269). -/

namespace Sys2Proof.Machine

/-! ### The clock and its servo (R246, R255, R269) -/

/-- What the settings of the PTP clock must meet: profile, domain, delay mechanism, role, message intervals and ports within their ranges. -/
theorem ptpChecks_pass {p : Bytes} (hprofile : u8At p 0 ≤ 2) (hdomain : u8At p 1 ≤ 127) (hmech : u8At p 2 ≤ 1) (hrole : u8At p 3 ≤ 1)
    (hannounce : -7 ≤ s8At p 4 ∧ s8At p 4 ≤ 1) (hsync : -3 ≤ s8At p 5 ∧ s8At p 5 ≤ 3) (hdelay : -7 ≤ s8At p 6 ∧ s8At p 6 ≤ 5)
    (hports : u8At p 9 ≤ 3) : ∀ e ∈ ptpChecks p, e.1 = false := by
  simp [ptpChecks, hprofile, hdomain, hmech, hrole, hannounce, hsync, hdelay, hports]

/-- What the settings of the servo must meet: step threshold, lock threshold, word limit and hold timeout within their ranges. -/
theorem servoChecks_pass {p : Bytes} (hstep : 1000 ≤ u32At p 4 ∧ u32At p 4 ≤ 1000000000) (hlock : 10 ≤ u32At p 8 ∧ u32At p 8 ≤ 1000000)
    (hlimit : u32At p 12 ≤ 65536000) (hhold : 100 ≤ u16At p 20 ∧ u16At p 20 ≤ 60000) : ∀ e ∈ servoChecks p, e.1 = false := by
  simp [servoChecks, hstep, hlock, hlimit, hhold]

theorem cmdTimeSourceSet_ok (h : Hdr) {p : Bytes} (s : State) (hsrc : u8At p 0 ≤ 2) (hlo : -65536000 ≤ s32At p 4) (hhi : s32At p 4 ≤ 65536000) :
    cmdTimeSourceSet.body h p s = (s.sourceSet (u8At p 0) (s32At p 4) (u32At p 8), Resp.ok) :=
  checked_ok (by simp [hsrc, hlo, hhi])

/-! ### Steps (R256, R257) -/

/-- What a step must meet: known flags of which bits 0 and 1 exclude each other, a named quantum that is still to come in a live mode, a refused
offset where one is asked for, and no step that waits already. -/
theorem State.stepChecks_pass {p : Bytes} {s : State} (hflags : u8At p 0 < 8) (hone : ¬ (bitOf (u8At p 0) 0 = true ∧ bitOf (u8At p 0) 1 = true))
    (hnamed : bitOf (u8At p 0) 2 = true → s.live = true ∧ s.laterThanNext (u32At p 4) = true)
    (hrefused : bitOf (u8At p 0) 1 = true → s.time.refused ≠ none) (hfree : s.time.step = none) : ∀ e ∈ s.stepChecks p, e.1 = false := by
  have hexclude : (bitOf (u8At p 0) 0 && bitOf (u8At p 0) 1) = false := by
    simpa using hone
  have hquantum : (bitOf (u8At p 0) 2 && (!s.live || !s.laterThanNext (u32At p 4))) = false := by
    simpa using hnamed
  have hoffset : (bitOf (u8At p 0) 1 && s.time.refused.isNone) = false := by
    simpa [Option.isSome_iff_ne_none] using hrefused
  simp [State.stepChecks, hflags, hexclude, hquantum, hoffset, hfree]

/-! ### SYNC_OUT and edge capture (R266 to R268) -/

theorem cmdSyncOutSet_ok (h : Hdr) {p : Bytes} (s : State) (hsrc : u8At p 0 ≤ 3) (hwidth : 1 ≤ u8At p 1) (hdiv : 1 ≤ u16At p 2) :
    cmdSyncOutSet.body h p s = (s.syncOutSet p, Resp.ok) :=
  checked_ok (by simp [hsrc, Nat.one_le_iff_ne_zero.1 hwidth, Nat.one_le_iff_ne_zero.1 hdiv])

/-- An entry passes whose input and mode are in range, and whose GPIO, where it is wanted, is free or capture's already. -/
theorem State.capBad_eq_none {s : State} {e : Bytes} (i : Nat) (hinput : u8At e 0 ≤ 7) (hmode : u8At e 1 ≤ 3)
    (howner : u8At e 1 ≠ 0 → s.owner (0x200 + u8At e 0) = 0 ∨ s.owner (0x200 + u8At e 0) = 3) : s.capBad i e = none := by
  unfold State.capBad
  rw [if_neg (Nat.not_lt.2 hinput), if_neg (Nat.not_lt.2 hmode), if_neg]
  rintro ⟨hwanted, hheld, hother⟩
  exact (howner hwanted).elim hheld hother

/-- The oldest records of the input are answered, as many as are asked for and there are. -/
theorem cmdCapRead_ok (h : Hdr) {p : Bytes} {q : List CapRec} {n : Nat} {s : State} (hinput : u8At p 0 ≤ 7) (h1 : 1 ≤ u8At p 1)
    (h14 : u8At p 1 ≤ 14) (hq : q = tget [] s.time.capQ (u8At p 0)) (hn : n = min (u8At p 1) q.length) :
    cmdCapRead.body h p s = (s.onTime (fun x => { x with capQ := tset [] x.capQ (u8At p 0) (q.drop n) }),
      Resp.ok (le8 n ++ zeros 3 ++ (q.take n).flatMap CapRec.bytes)) := by
  subst hn hq
  exact checked_ok (by simp [hinput, Nat.one_le_iff_ne_zero.1 h1, h14])

/-- Settles O12: one lemma for each command's checks, on the state in which the command has been taken; TIME_STATUS_GET and TS_ADJ_SET check
nothing. -/
theorem timeCommands : Obligations.TimeCommands := by
  refine ⟨fun h p s u hu hs hp h0 h1 h2 h3 h4 h4' h5 h5' h6 h6' h9 => ?_, fun h p s u hu hs hp h4 h4' h8 h8' h12 h20 h20' => ?_,
    fun h p s u hu hs hp hf hone hn hr hw => ?_, fun h p s u hu hs hp h0 hlo hhi => ?_, fun h s u hu hs => ?_,
    fun h p s u hu hs hp => ?_, fun h p s u hu hs hp h0 h1 h2 => ?_, fun h p s u hu hs hp he => ?_,
    fun h p q n s u hu hs hp h0 h1 h14 hq hn => ?_⟩
  all_goals subst hu
  · exact cmdTimePtpSet.exec_ok h p [] hs (lenIs_iff.2 hp) (.inl rfl)
      (checked_ok (ptpChecks_pass h0 h1 h2 h3 ⟨h4, h4'⟩ ⟨h5, h5'⟩ ⟨h6, h6'⟩ h9))
  · exact cmdTimeServoSet.exec_ok h p [] hs (lenIs_iff.2 hp) (.inl rfl)
      (checked_ok (servoChecks_pass ⟨h4, h4'⟩ ⟨h8, h8'⟩ h12 ⟨h20, h20'⟩))
  · exact cmdTimeStep.exec_served h p hs (lenIs_iff.2 hp) (.inl rfl) (checked_ok (State.stepChecks_pass hf hone hn hr hw))
      (by decide : stAccepted ≠ stPending)
  · exact cmdTimeSourceSet.exec_ok h p [] hs (lenIs_iff.2 hp) (.inl rfl) (cmdTimeSourceSet_ok h _ h0 hlo hhi)
  · exact cmdTimeStatusGet.exec_ok h [] _ hs rfl (.inl rfl) rfl
  · exact cmdTsAdjSet.exec_ok h p [] hs (lenIs_iff.2 hp) (.inl rfl) rfl
  · exact cmdSyncOutSet.exec_ok h p [] hs (lenIs_iff.2 hp) (.inl rfl) (cmdSyncOutSet_ok h _ h0 h1 h2)
  · refine cmdCapSet.exec_ok h p [] hs hp (.inl rfl) (checkedEntries_ok fun i e hm => ?_)
    obtain ⟨hinput, hmode, howner⟩ := he e hm
    exact State.capBad_eq_none i hinput hmode howner
  · exact cmdCapRead.exec_ok h p _ hs (lenIs_iff.2 hp) (.inl rfl) (cmdCapRead_ok h h0 h1 h14 hq hn)

end Sys2Proof.Machine
end

section
/-! PROOFS. The event rows of time and of edge capture: what each comes to under its rule's premises (R243, R244, R250, R253, R266, R267). -/

namespace Sys2Proof.Machine

/-! ### PPS and the servo (R244, R250, R253, R266) -/

theorem execPps_counted {s u : State} (hd : s.discards = false) (hu : u = (s.bump (Reg.TIME_CNT 4)).perfAdd 121) :
    execPps s = .next (if u.fld Reg.CLK_SYNC_OUT 1 0 = 2 then u.syncPulse else u) := by
  subst hu
  exact if_neg (by simp [hd])

/-- A measurement of PTP with no delay jump and an offset within the step threshold is accepted (R250). -/
theorem State.servoUpdate_accepted {s u v : State} {o d : Int} (hsrc : s.fld Reg.TIME_CTRL 4 3 = 0)
    (ho : o = toSigned 32 (s.rd Reg.SERVO_IN_OFFSET) * 65536 + s.fld Reg.SERVO_IN_FRAC 15 0)
    (hd : d = (s.rd Reg.SERVO_IN_DELAY : Int) * 65536)
    (hu : u = ((s.bump (Reg.TIME_CNT 0)).perfAdd 118).onTime (fun x => { x with lastOffset := o })) (hjump : u.delayJump d = false)
    (hv : v = u.onTime (fun x => { x with dfilt := some (delayFilter x.dfilt d) })) (hthr : (o.natAbs : Int) ≤ v.stepThr) :
    s.servoUpdate = ((v.servoStep o).servoAccept o).servoTrace 0 o := by
  unfold State.servoUpdate
  simp only [← ho, ← hd, ← hu, ← hv]
  rw [if_neg (not_not.2 hsrc), if_neg (by simp [hjump]), if_neg (Int.not_lt.2 hthr)]

theorem execHoldTimeout_locked {s : State} (h : s.time.servo = .locked) :
    execHoldTimeout s = .next ((s.onTime (fun x => { x with target := x.integral })).setServo .holdover) := by
  unfold execHoldTimeout
  simp only [h]

theorem execHoldTimeout_acquiring {s : State} (h : s.time.servo = .acquiring) :
    execHoldTimeout s = .next (s.onTime (fun x => { x with target := x.integral })) := by
  unfold execHoldTimeout
  simp only [h]

/-! ### Edge capture (R267) -/

/-- A selected edge of an input that there is passes the gate of CAP_EDGE. -/
theorem capEdge_selected {s : State} {c : Nat} {rising : Bool} (hc : c < 8) (hd : s.discards = false)
    (hm : bitOf (s.fld (Reg.CAP_CFG c) 1 0) (if rising then 0 else 1) = true) :
    ¬ (8 ≤ c ∨ s.discards = true ∨
      (!(if rising then bitOf (s.fld (Reg.CAP_CFG c) 1 0) 0 else bitOf (s.fld (Reg.CAP_CFG c) 1 0) 1)) = true) := by
  cases rising
  · simpa [hc, hd] using hm
  · simpa [hc, hd] using hm

/-- With room the edge's record, stamped two ticks before, is appended behind those that wait (R31, R267). -/
theorem execCapEdge_recorded {s : State} {c : Nat} {rising : Bool} {q : List CapRec} (hc : c < 8) (hd : s.discards = false)
    (hm : bitOf (s.fld (Reg.CAP_CFG c) 1 0) (if rising then 0 else 1) = true) (hq : q = tget [] s.time.capQ c) (hroom : q.length < 32) :
    execCapEdge c rising s = .next ((((s.onTime (fun x => { x with capLevel := tset false x.capLevel c rising })).onTime (fun x =>
      { x with capQ := tset [] x.capQ c (q ++ [⟨s.time.tick - 2, c, rising, tget false s.time.capLost c, s.time.sample % 2 ^ 32⟩])
               capLost := tset false x.capLost c false })).raise Reg.TIME_INT_STATUS 5).post 0x5004 (le8 c ++ le8 (q.length + 1))) := by
  subst hq
  unfold execCapEdge
  dsimp only
  rw [if_neg (capEdge_selected hc hd hm), if_neg (Nat.not_le.2 hroom)]

/-- Without room the edge is lost, and counted. -/
theorem execCapEdge_lost {s : State} {c : Nat} {rising : Bool} (hc : c < 8) (hd : s.discards = false)
    (hm : bitOf (s.fld (Reg.CAP_CFG c) 1 0) (if rising then 0 else 1) = true) (hfull : 32 ≤ (tget [] s.time.capQ c).length) :
    execCapEdge c rising s = .next (((s.onTime (fun x => { x with capLevel := tset false x.capLevel c rising })).onTime (fun x =>
      { x with capLost := tset false x.capLost c true })).bump (Reg.TIME_CNT 5)) := by
  unfold execCapEdge
  dsimp only
  rw [if_neg (capEdge_selected hc hd hm), if_pos hfull]

/-- Settles O13: one lemma for each row; LATCH is its own effect. -/
theorem timeEvents : Obligations.TimeEvents :=
  ⟨fun _ => rfl,
   fun _ _ hd hu => execPps_counted hd hu,
   fun _ _ _ _ _ hsrc ho hd hu hjump hv hthr => congrArg Host.Outcome.next (State.servoUpdate_accepted hsrc ho hd hu hjump hv hthr),
   fun _ h => execHoldTimeout_locked h,
   fun _ h => execHoldTimeout_acquiring h,
   fun _ _ _ _ hc hd hm hq hroom => execCapEdge_recorded hc hd hm hq hroom,
   fun _ _ _ hc hd hm hfull => execCapEdge_lost hc hd hm hfull⟩

end Sys2Proof.Machine
end

section
/-! PROOFS. The event rows of the clocks: the lock detector, REFCLK_IN, clock loss and the relock attempts, each by what it comes to under its
rule's premises (R261 to R263, R265, R367). -/

namespace Sys2Proof.Machine

/-! ### The lock detector (R261) -/

/-- A window that ends with REFCLK_IN present records its count and the run; what the detector then decides turns on the lock it had. -/
theorem execLockWindowEnd_present {c r : Nat} {s u : State} (hd : s.discards = false) (hk : s.time.refclkOk = true)
    (hr : r = (if withinCounts s.time.expectWord c 1 then min 8 (s.time.lockRunWin + 1) else 0))
    (hu : u = (s.wr Reg.CLK_LOCK_WIN (min 65535 (expected16 s.time.expectWord).toNat * 65536 + c % 65536)).onTime (fun x =>
      { x with lockRunWin := r, expectWord := x.word })) :
    execLockWindowEnd c s = .next
      (if s.time.rootLock then
         (if !withinCounts s.time.expectWord c 4 then u.rootUnlock
          else if s.time.tickBack then (u.onTime (fun x => { x with tickBack := false })).setTickSrc 0 else u)
       else if r = 8 then
         (let v := (u.onTime (fun x => { x with rootLock := true })).onPorts (fun x => { x with rephase := true })
          if s.time.relock.isSome then v else v.setTickSrc 0)
       else u) := by
  have hlock : u.time.rootLock = s.time.rootLock := by simp [hu]
  have hback : u.time.tickBack = s.time.tickBack := by simp [hu]
  have hrelock : u.time.relock = s.time.relock := by simp [hu]
  unfold execLockWindowEnd
  rw [if_neg (by simp [hd, hk])]
  simp only [← hr, ← hu, hlock, hback, hrelock, State.onPorts_frame, State.onTime_time, apply_ite Host.Outcome.next]

/-! ### The root PLL and REFCLK_IN (R262, R263) -/

theorem execClockLoss_running {s : State} (hd : s.discards = false) :
    execClockLoss s = .next (if s.time.rootLock then s.rootUnlock else s.clockLoss) :=
  congrArg Host.Outcome.next (if_neg (by simp [hd]))

theorem execRefclkMissing_running {s u : State} (hd : s.discards = false)
    (hu : u = (((s.onTime (fun x => { x with refclkOk := false })).bump (Reg.CLK_CNT 1)).raise Reg.CLK_INT_STATUS 1).clockLoss) :
    execRefclkMissing s = .next (if s.time.ddrLock then u.ddrUnlock else u) := by
  subst hu
  exact if_neg (by simp [hd])

theorem execRefclkPresent_running {s u : State} (hd : s.discards = false)
    (hu : u = s.onTime (fun x => { x with refclkOk := true, lockRunWin := 0, expectWord := x.word })) :
    execRefclkPresent s = .next (if s.time.rootLock then u else u.setTickSrc 1) := by
  subst hu
  exact if_neg (by simp [hd])

/-! ### The relock attempts (R263, R265, R367) -/

theorem execRelockEnd_recovered {s : State} {t : Nat} (ht : s.time.relock = some t) (hk : s.time.refclkOk = true) (hl : s.time.rootLock = true) :
    execRelockEnd s = .next (((((s.onTime (fun x => { x with relock := none })).bump (Reg.CLK_CNT 2)).raise Reg.CLK_INT_STATUS 2).post 0x5003
      (le32 (s.time.eventTick - t))).onTime (fun x => { x with tickBack := true })) := by
  unfold execRelockEnd
  simp only [ht]
  rw [if_pos (by simp [hk, hl])]

theorem execRelockEnd_failed {s : State} {t : Nat} (ht : s.time.relock = some t) (hbad : (s.time.refclkOk && s.time.rootLock) = false) :
    execRelockEnd s = .next ((s.onTime (fun x => { x with relock := none })).fatalError 0x03 0) := by
  unfold execRelockEnd
  simp only [ht]
  rw [if_neg (by simp [hbad])]

theorem execDdrPllLoss_running {s : State} (hd : s.discards = false) : execDdrPllLoss s = .next s.ddrUnlock :=
  congrArg Host.Outcome.next (if_neg (by simp [hd]))

/-- The attempt that is under way ends as the DDR PLL is then: the requests that wait are served, or it is fatal. -/
theorem execDdrRelockEnd_underway (locked : Bool) {s u : State} (h : s.time.ddrRelock = true)
    (hu : u = s.onTime (fun x => { x with ddrRelock := false, ddrLock := locked })) :
    execDdrRelockEnd locked s = .next (if locked then u.dramServeAll else u.fatalError 0x04 0) := by
  subst hu
  exact if_neg (by simp [h])

/-- Settles O14: one lemma for each row. -/
theorem clockEvents : Obligations.ClockEvents :=
  ⟨fun _ _ _ _ hd hk hr hu => execLockWindowEnd_present hd hk hr hu,
   fun _ hd => execClockLoss_running hd,
   fun _ _ hd hu => execRefclkMissing_running hd hu,
   fun _ hd hl => (execRefclkPresent_running hd rfl).trans (congrArg Host.Outcome.next (if_pos hl)),
   fun _ hd hl => (execRefclkPresent_running hd rfl).trans (congrArg Host.Outcome.next (if_neg (by simp [hl]))),
   fun _ _ ht hk hl => execRelockEnd_recovered ht hk hl,
   fun _ _ ht hbad => execRelockEnd_failed ht hbad,
   fun _ hd => execDdrPllLoss_running hd,
   fun _ h => execDdrRelockEnd_underway true h rfl,
   fun _ h => execDdrRelockEnd_underway false h rfl⟩

end Sys2Proof.Machine
end

section
/-! PROOFS. One execution of an instruction of classes 0x0 to 0x8 on a Facet core: what Executes comes to without RPT, the classes' rows, and what
the execution leaves alone (R270, R271, R278, R281, R289, R294). -/

namespace Sys2Proof.Machine

/-! ### Items -/

theorem find?_tput_same {α : Type} (t : Tbl α) (k : Nat) (v : α) : (tput t k v).find? (fun e => e.1 == k) = some (k, v) := by
  induction t with
  | nil => simp [tput]
  | cons e t ih =>
    obtain ⟨i, w⟩ := e
    unfold tput
    split
    · simp
    · split
      · simp
      next _ hi => simp [hi, ih]

theorem find?_tput_other {α : Type} (t : Tbl α) {k j : Nat} (v : α) (h : j ≠ k) :
    (tput t k v).find? (fun e => e.1 == j) = t.find? (fun e => e.1 == j) := by
  induction t with
  | nil => simp [tput, h.symm]
  | cons e t ih =>
    obtain ⟨i, w⟩ := e
    unfold tput
    split
    · simp [h.symm]
    · split
      next hi => simp [hi, h.symm]
      · simp only [List.find?_cons, ih]

@[simp] theorem State.item?_setItem_same (s : State) (slot : Nat) (i : Item) : (s.setItem slot i).item? slot = some i :=
  congrArg (Option.map Prod.snd) (find?_tput_same s.sched.items slot i)

theorem State.item?_setItem_other (s : State) {slot k : Nat} (i : Item) (h : k ≠ slot) : (s.setItem slot i).item? k = s.item? k :=
  congrArg (Option.map Prod.snd) (find?_tput_other s.sched.items i h)

/-! ### Stores (R270, R281) -/

/-- What an instruction stores changes the memory alone. -/
theorem State.facetEff_withMem (s : State) (t : FTask) (e : FEff) : s.facetEff t e = s.withMem (s.facetEff t e).mem := by
  cases e <;> rfl

/-- A stored word is four bytes long. -/
theorem State.mget_facetStore_other (s : State) (t : FTask) {y : Bool} {off a : Nat} (v : Nat)
    (h : ∀ w ∈ (FEff.store y off v).words t, a < w ∨ w + 4 ≤ a) : mget (s.facetStore t y off v).mem a = mget s.mem a :=
  mget_mwrite_other s.mem (le32 v) (h _ (List.mem_singleton_self _))

/-- A byte outside the stored words stays. -/
theorem State.mget_facetEff_other (s : State) (t : FTask) {e : FEff} {a : Nat} (h : ∀ w ∈ e.words t, a < w ∨ w + 4 ≤ a) :
    mget (s.facetEff t e).mem a = mget s.mem a := by
  cases e with
  | none => rfl
  | store y o v => exact s.mget_facetStore_other t v h
  | store2 y o v y2 o2 v2 =>
    obtain ⟨h1, h2⟩ := List.forall_mem_cons.1 h
    exact ((s.facetStore t y o v).mget_facetStore_other t v2 h2).trans
      (s.mget_facetStore_other t v (List.forall_mem_singleton.2 h1))

/-! ### The cycle limit (R294) -/

/-- An item that keeps room below its declared cycles only takes its registers and its charge. -/
theorem State.facetDone_room {s : State} (n slot : Nat) {i : Item} (c : FCtx) {cyc : Nat} (h : s.Room i cyc) :
    s.facetDone n slot i c cyc = s.setItem slot { i with ctx := { c with charged := i.ctx.charged + cyc } } := by
  refine if_neg ?_
  unfold State.spentOut
  split
  next l hl => simpa using h l hl
  · simp

/-- Stores do not move the limit. -/
theorem State.Room.facetEff {s : State} {i : Item} {cyc : Nat} (h : s.Room i cyc) (t : FTask) (e : FEff) : (s.facetEff t e).Room i cyc := by
  rw [State.facetEff_withMem]
  exact h

/-! ### One execution -/

/-- The item after one execution: its registers, the next program counter, and its charge. -/
def Item.ran (i : Item) (r : FRes) (stall : Nat) : Item :=
  { i with ctx := { r.ctx.advance 1 with charged := i.ctx.charged + (stall + r.cyc) } }

/-- The state after one execution: the stores, and the item with its registers. -/
def State.ran (s : State) (slot : Nat) (i : Item) (t : FTask) (r : FRes) (stall : Nat) : State :=
  (s.facetEff t r.eff).setItem slot (i.ran r stall)

/-- A single execution that the charge of the item allows. -/
theorem State.facetTimes_one {s : State} {i : Item} {t : FTask} {c : FCtx} {o : FOp} {r : FRes} {stall : Nat}
    (hb : c.basic (s.facetMem t) o = .ok r) (hroom : s.Room i (stall + r.cyc)) :
    State.facetTimes t o ((s.facetLimit i).map (· - i.ctx.charged)) 1 s c stall = (s.facetEff t r.eff, r.ctx, stall + r.cyc, none) := by
  have hcyc : (((s.facetLimit i).map (· - i.ctx.charged)).map (fun room => decide (room ≤ stall))).getD false = false := by
    cases hl : s.facetLimit i with
    | none => rfl
    | some l =>
      have := hroom l hl
      exact decide_eq_false (by show ¬ l - i.ctx.charged ≤ stall; omega)
  simp only [State.facetTimes, hcyc, hb, Bool.false_eq_true, if_false]

/-- Without RPT and with room, an instruction executes once. -/
theorem State.executes_once {s : State} {n slot : Nat} {o : FOp} {i : Item} {t : FTask} {c : FCtx} {r : FRes} (hi : s.Issues n slot i o t c)
    (hrpt : c.rpt = none) (hb : c.basic (s.facetMem t) o = .ok r) (hroom : s.Room i (i.ctx.stall o + r.cyc)) :
    s.Executes n o (s.ran slot i t r (i.ctx.stall o)) := by
  have hc : ({ c with rpt := none } : FCtx) = c := by rw [← hrpt]
  refine ⟨slot, i, t, c, _, _, _, hi, ?_, (State.facetDone_room n slot _ (hroom.facetEff t r.eff)).symm⟩
  rw [hc, hrpt]
  exact State.facetTimes_one hb hroom

/-- What an instruction executes to is one state. -/
theorem State.Executes.unique {s u v : State} {n : Nat} {o : FOp} (hr : o.repeatable = true) (hi : o ≠ .illegal) (hu : s.Executes n o u)
    (hv : s.Executes n o v) : u = v :=
  Host.Outcome.next.inj ((State.facetExec_executes hr hi hu).symm.trans (State.facetExec_executes hr hi hv))

/-- Settles O57: the state after the instruction is that of one execution, whose stores change the memory alone. -/
theorem facetInstructionFrame : Obligations.FacetInstructionFrame := by
  intro n slot o s u i t c r hi hrpt hrep hb hroom hu
  have hne : o ≠ .illegal := by
    rintro rfl
    exact absurd hb nofun
  obtain rfl := hu.unique hrep hne (State.executes_once hi hrpt hb hroom)
  obtain ⟨m, hm⟩ : ∃ m, s.facetEff t r.eff = s.withMem m := ⟨_, s.facetEff_withMem t r.eff⟩
  refine ⟨State.item?_setItem_same _ _ _, fun k hk => ?_, fun a ha => s.mget_facetEff_other t ha, ?_⟩
  · unfold State.ran
    rw [State.item?_setItem_other _ _ hk, hm]
    rfl
  · unfold State.ran
    rw [hm]
    rfl

/-! ### The rows of classes 0x0 to 0x8 -/

/-- Settles O29: each row executes its instruction. -/
theorem macClassExecutes : Obligations.MacClassExecutes := by
  refine ⟨?_, ?_, ?_, ?_, ?_, ?_, ?_, ?_⟩
  all_goals exact fun _ _ _ _ h => State.facetExec_executes rfl nofun h

/-- Settles O30: each row executes its instruction. -/
theorem accumulatorClassExecutes : Obligations.AccumulatorClassExecutes := by
  refine ⟨?_, ?_, ?_, ?_, ?_, ?_, ?_, ?_, ?_, ?_, ?_, ?_, ?_, ?_, ?_, ?_, ?_, ?_⟩
  all_goals exact fun _ _ _ _ h => State.facetExec_executes rfl nofun h

/-- Settles O31: each row executes its instruction. -/
theorem dataClassExecutes : Obligations.DataClassExecutes := by
  refine ⟨?_, ?_, ?_, ?_, ?_, ?_, ?_, ?_, ?_, ?_, ?_, ?_, ?_⟩
  all_goals exact fun _ _ _ _ h => State.facetExec_executes rfl nofun h

/-- Settles O32: each row executes its instruction. -/
theorem moveAndAddressClassesExecute : Obligations.MoveAndAddressClassesExecute := by
  refine ⟨?_, ?_, ?_, ?_, ?_, ?_, ?_, ?_, ?_, ?_⟩
  all_goals exact fun _ _ _ _ h => State.facetExec_executes rfl nofun h

end Sys2Proof.Machine
end

section
/-! PROOFS. The instructions of the classes 0x9, 0xA and 0xF on a Facet core: what each row comes to under its rule's premises (R270, R284 to R288,
R291, R294, R471). -/

namespace Sys2Proof.Machine

/-- An instruction that core n issues is executed by its item. -/
theorem facetNext_issues {s : State} {n slot : Nat} {i : Item} {o : FOp} {t : FTask} {c : FCtx} (h : s.Issues n slot i o t c) :
    facetNext s n o = .next (s.facetOne n slot i t c (i.ctx.stall o) o) :=
  congrArg Host.Outcome.next (State.facetExec_issues h)

section
variable {s : State} {n slot : Nat} {i : Item} {t : FTask} {c : FCtx} {stall : Nat}

/-! ### Loops and branches (R284, R285, R287, R288) -/

theorem State.facetRpt_within {k times : Nat} {reg : Bool} (ht : times = if reg then c.dr k else k % 4096 + 1) (h : times ≤ 4096) :
    s.facetRpt n slot i c reg k stall = s.facetDone n slot i { c.advance 1 with rpt := some times } (1 + stall) := by
  subst ht
  exact if_neg (Nat.not_lt.2 h)

/-- A LOOP of no executions skips its body, and another pushes it where the stack has room. -/
theorem State.facetLoop_within {b k times last : Nat} {reg : Bool} {d : FCtx} (ht : times = if reg then c.dr k else k % 65536)
    (h : times ≤ 65535) (hl : last = s.facetSkip t (b % 256) (c.pc + 1)) (hroom : times = 0 ∨ c.loops.length < 4)
    (hd : d = if times = 0 then
        { c with loops := (loopNext last (s.facetLen t last) c.loops).1, pc := (loopNext last (s.facetLen t last) c.loops).2 }
      else { c with loops := (c.pc + 1, last, times) :: c.loops, pc := c.pc + 1 }) :
    s.facetLoop n slot i t c reg b k stall = s.facetDone n slot i d (2 + stall) := by
  subst hl hd
  unfold State.facetLoop
  simp only [← ht]
  rw [if_neg (Nat.not_lt.2 h)]
  by_cases h0 : times = 0
  · rw [if_pos h0, if_pos h0]
  · rw [if_neg h0, if_neg h0, if_neg (Nat.not_le.2 (hroom.resolve_left h0))]

theorem State.facetLeave_running {cc f l k : Nat} {rest : List (Nat × Nat × Nat)} (h : c.loops = (f, l, k) :: rest) :
    s.facetLeave n slot i t c cc stall =
      if ccHolds c.sr cc then
        s.facetDone n slot i { c with loops := (loopNext l (s.facetLen t l) rest).1, pc := (loopNext l (s.facetLen t l) rest).2 } (3 + stall)
      else s.facetDone n slot i (c.advance 1) (1 + stall) := by
  unfold State.facetLeave
  rw [h]

theorem State.facetBranch_taken {a : Nat} (h : a < t.pWords) :
    s.facetBranch n slot i t c true a stall = s.facetDone n slot i { c with pc := a } (3 + stall) :=
  if_neg (Nat.not_le.2 h)

theorem State.facetCall_taken {cc a : Nat} (hcc : ccHolds c.sr cc = true) (ha : a < t.pWords) (hroom : c.calls.length < 8) :
    s.facetCall n slot i t c cc a stall =
      s.facetDone n slot i { c with calls := (c.pc + 1) :: c.calls, pc := a } (3 + stall) := by
  unfold State.facetCall
  rw [hcc, if_neg (by simpa using hroom), if_pos rfl, State.facetBranch_taken ha]

theorem State.facetReturn_taken {cc a : Nat} {rest : List Nat} (hcc : ccHolds c.sr cc = true) (hcalls : c.calls = a :: rest)
    (ha : a < t.pWords) :
    s.facetReturn n slot i t c cc stall = s.facetDone n slot i { c with calls := rest, pc := a } (3 + stall) := by
  unfold State.facetReturn
  rw [hcc, hcalls]
  exact State.facetBranch_taken ha

/-! ### The long class (R286, R291) -/

theorem State.facetLong_ldi {a : LongArgs} (f : Far) (hm : a.m = 0) : s.facetLong n slot i c 0 a f stall =
    s.facetDone n slot i ({ c.writeReg (a.r % 32) a.imm.toNat with flagsBy := 0 }.advance 2) (2 + stall) :=
  if_neg (by simp [hm])

theorem State.facetLong_addi {a : LongArgs} (f : Far) (hm : a.m = 0) (hr : a.r < 16) : s.facetLong n slot i c 1 a f stall =
    s.facetDone n slot i ((c.dataDo 0 (some a.r) (c.dr a.r) a.imm.toNat).advance 2) (2 + stall) :=
  if_neg (by simp [hm, hr])

theorem State.facetLong_cmpi {a : LongArgs} (f : Far) (hm : a.m = 0) (hr : a.r < 16) : s.facetLong n slot i c 2 a f stall =
    s.facetDone n slot i ((c.dataDo 11 none (c.dr a.r) a.imm.toNat).advance 2) (2 + stall) :=
  if_neg (by simp [hm, hr])

/-- A far load that ends well. -/
theorem State.facetLong_fld {a : LongArgs} {f : Far} (h4 : c.farAddr a % 4 = 0)
    (hmay : s.farMem (i.task.getD 0) (c.farAddr a) = true ∨ s.farPerf (c.farAddr a) = true) (hf : f.lasting = false) :
    s.facetLong n slot i c 3 a f stall = (s.farRead n (c.farAddr a)).1.facetDone n slot i
      ({ c.writeReg (a.r % 32) (s.farRead n (c.farAddr a)).2 with flagsBy := 0 }.advance 2) (2 + f.wait + stall) := by
  refine (s.facetLong_far n slot i c a f stall false).trans ?_
  rw [State.farAccess_load h4 hmay hf]

/-- A far store that ends well. -/
theorem State.facetLong_fst {a : LongArgs} {f : Far} (h4 : c.farAddr a % 4 = 0) (hmay : s.farMem (i.task.getD 0) (c.farAddr a) = true)
    (hf : f.lasting = false) :
    s.facetLong n slot i c 4 a f stall =
      (s.withMem (mwrite s.mem (c.farAddr a) (le32 (c.readReg (a.r % 32)).1))).facetDone n slot i
        ({ c.ss (c.readReg (a.r % 32)).2 with flagsBy := 0 }.advance 2) (2 + f.wait + stall) := by
  refine (s.facetLong_far n slot i c a f stall true).trans ?_
  rw [State.farAccess_store h4 hmay hf]

end

/-- An issued instruction comes to what its own rule gives. -/
theorem facetNext_eq {s u : State} {n slot : Nat} {i : Item} {o : FOp} {t : FTask} {c : FCtx} (h : s.Issues n slot i o t c)
    (hu : s.facetOne n slot i t c (i.ctx.stall o) o = u) : facetNext s n o = .next u :=
  hu ▸ facetNext_issues h

/-- Settles O33: one lemma for each instruction; NOP is its own effect. -/
theorem flowInstructionsExecute : Obligations.FlowInstructionsExecute :=
  ⟨fun _ _ _ _ _ _ _ _ _ hi ht h => facetNext_eq hi (State.facetRpt_within ht h),
   fun _ _ _ _ _ _ _ _ _ _ _ _ hi ht h hl hroom hd => facetNext_eq hi (State.facetLoop_within ht h hl hroom hd),
   fun _ _ _ _ _ _ _ _ _ _ _ hi h => facetNext_eq hi (State.facetLeave_running h),
   fun _ _ _ _ _ _ hi => facetNext_issues hi,
   fun _ _ _ _ _ _ _ _ hi hcc ha => facetNext_eq hi (by rw [State.facetOne, hcc, State.facetBranch_taken ha]),
   fun _ _ _ _ _ _ _ _ hi hcc => facetNext_eq hi (by rw [State.facetOne, hcc]; rfl),
   fun _ _ _ _ _ _ _ _ hi hcc ha hroom => facetNext_eq hi (State.facetCall_taken hcc ha hroom),
   fun _ _ _ _ _ _ _ _ _ hi hcc hcalls ha => facetNext_eq hi (State.facetReturn_taken hcc hcalls ha),
   fun _ _ _ _ _ _ _ hi ha => facetNext_eq hi (State.facetBranch_taken ha)⟩

/-- Settles O34: one lemma for each instruction of the long class; the others are their own effect. -/
theorem systemAndFarInstructionsExecute : Obligations.SystemAndFarInstructionsExecute := by
  refine ⟨fun n slot i t c s hi => facetNext_issues hi, fun n slot k i t c s hi => facetNext_issues hi,
    fun n slot w i t c s hi => facetNext_issues hi, fun n slot m v sr i t c s hi hsr => ?_, fun n slot k i t c s hi => facetNext_issues hi,
    fun n slot a o i t c s ho hi hm => ?_, fun n slot a o i t c s ho hi hm hr => ?_, fun n slot a o i t c s ho hi hm hr => ?_,
    fun n slot a f o i t c s ho hi h4 hmay hf => ?_, fun n slot a f o i t c s ho hi h4 hmay hf => ?_⟩
  · exact hsr ▸ facetNext_issues hi
  all_goals subst ho
  · exact facetNext_eq hi (State.facetLong_ldi ⟨0, false⟩ hm)
  · exact facetNext_eq hi (State.facetLong_addi ⟨0, false⟩ hm hr)
  · exact facetNext_eq hi (State.facetLong_cmpi ⟨0, false⟩ hm hr)
  · exact facetNext_eq hi (State.facetLong_fld h4 hmay hf)
  · exact facetNext_eq hi (State.facetLong_fst h4 hmay hf)

end Sys2Proof.Machine
end

section
/-! PROOFS. The Facet task commands, each by what its body comes to once its checks pass (R6, R292, R301, R302, R312). -/

namespace Sys2Proof.Machine

/-! ### What the bodies read is as it was before the command was taken -/

@[simp] theorem State.taken_task (s : State) (h : Hdr) (op t : Nat) : (s.taken h op).task t = s.task t := by
  simp [State.task]

@[simp] theorem State.taken_badMask (s : State) (h : Hdr) (op m : Nat) : (s.taken h op).badMask m = s.badMask m := by
  simp [State.badMask]

/-! ### The bodies -/

theorem cmdFacetTaskLoad_ok (h : Hdr) {p d : Bytes} {s : State} {k : FTask} (hk : s.task (u16At p 0) = k) (ht : u16At p 0 ≤ 1023)
    (hbusy : k.busy = false) (hb : s.bufOk (bufAt p 4) = true) (hd : s.bufRead (bufAt p 4) (bufAt p 4).len = d)
    (hi : ∀ e ∈ imageChecks d (bufAt p 4).len k.chans, e.1 = false) :
    cmdFacetTaskLoad.body h p s = (s.setTask (u16At p 0) { k with image := some (imageOf d) }, Resp.ok) := by
  subst hk hd
  exact checked_ok (List.forall_mem_append.2 ⟨by simp [ht, hbusy, hb], hi⟩)

/-- A level that the attachment allows passes its check: 0 and 1 for an insert task, 2 to 7 for another (R302). -/
theorem badLevel_eq_false {att lvl : Nat} (h : if att ≤ 1 then lvl ≤ 1 else 2 ≤ lvl ∧ lvl ≤ 7) :
    (if att ≤ 1 then decide (1 < lvl) else decide (lvl < 2 ∨ 7 < lvl)) = false := by
  split at h
  next ha => rw [if_pos ha]; exact decide_eq_false (Nat.not_lt.2 h)
  next ha => rw [if_neg ha]; exact decide_eq_false (by omega)

theorem cmdFacetTaskSet_ok (h : Hdr) {p : Bytes} {s : State} {k : FTask} (hk : s.task (u16At p 0) = k) (ht : u16At p 0 ≤ 1023)
    (ha : u8At p 2 ≤ 3) (hl : if u8At p 2 ≤ 1 then u8At p 3 ≤ 1 else 2 ≤ u8At p 3 ∧ u8At p 3 ≤ 7) (hm : s.badMask (u8At p 4) = false)
    (hc : u8At p 6 ≤ 64) (hx : u8At p 2 ≤ 1 → u8At p 6 ≠ 0 ∧ (k.image = none ∨ 8 * u8At p 6 ≤ k.xWords)) (hbusy : k.busy = false) :
    cmdFacetTaskSet.body h p s = (s.setTask (u16At p 0) { k with
      attach := u8At p 2, level := u8At p 3, mask := u8At p 4, flow := if u8At p 5 = 0xFF then none else some (u8At p 5),
      chans := u8At p 6 }, Resp.ok) := by
  subst hk
  have hzero : (decide (64 < u8At p 6) || (decide (u8At p 2 ≤ 1) && u8At p 6 == 0)) = false := by
    by_cases h1 : u8At p 2 ≤ 1
    · simp [hc, (hx h1).1]
    · simp [hc, h1]
  have harea : ((s.task (u16At p 0)).image.isSome && decide (u8At p 2 ≤ 1 ∧ (s.task (u16At p 0)).xWords < 8 * u8At p 6)) = false := by
    by_cases h1 : u8At p 2 ≤ 1
    · obtain hn | hw := (hx h1).2
      · simp [hn]
      · simp [hw]
    · simp [h1]
  refine checked_ok ?_
  simp only [List.forall_mem_cons]
  exact ⟨decide_eq_false (Nat.not_lt.2 ht), decide_eq_false (Nat.not_lt.2 ha), badLevel_eq_false hl, hm, hzero, harea, hbusy, nofun⟩

theorem cmdFacetChanSet_ok (h : Hdr) {p : Bytes} {s : State} {k : FTask} (hk : s.task (u16At p 0) = k) (ht : u16At p 0 ≤ 1023)
    (hn : 1 ≤ u8At p 3 ∧ u8At p 3 ≤ 56) (hf : u8At p 2 + u8At p 3 ≤ 64) (hbusy : k.busy = false) (hins : k.insert = true)
    (he : ∀ i, ∀ e ∈ entries 4 (p.drop 4), s.chanBad k.attach i e = none) :
    cmdFacetChanSet.body h p s = (s.setTask (u16At p 0) { k with
      chan := ((List.range (u8At p 3)).zip (entries 4 (p.drop 4))).foldl
        (fun c e => tput c (u8At p 2 + e.1) (u8At e.2 0, u8At e.2 1, u16At e.2 2)) k.chan }, Resp.ok) := by
  subst hk
  obtain ⟨hn1, hn2⟩ := hn
  exact (checked_ok (by simp [ht, Nat.one_le_iff_ne_zero.1 hn1, hn2, hf, hbusy, hins])).trans (checkedEntries_ok he)

/-- With its checks passed, an enable goes by what waits for the task: a disable is taken back, and a task at rest is admitted (R302). -/
theorem cmdFacetTaskEnable_on (h : Hdr) {p : Bytes} {s : State} {k : FTask} (hk : s.task (u16At p 0) = k) (ht : u16At p 0 ≤ 1023)
    (hon : u8At p 2 = 1) (himg : k.image.isSome = true) :
    cmdFacetTaskEnable.body h p s =
      if k.change = some false then s.enableAgain (u16At p 0) else if k.busy then (s, Resp.ok) else s.enableTask (u16At p 0) := by
  subst hk
  exact (checked_ok (by simp [ht, hon, himg])).trans (if_pos hon)

theorem cmdFacetTaskEnable_off (h : Hdr) {p : Bytes} {s : State} {k : FTask} (hk : s.task (u16At p 0) = k) (ht : u16At p 0 ≤ 1023)
    (hoff : u8At p 2 = 0) (hbusy : k.busy = true) :
    cmdFacetTaskEnable.body h p s = (s.setTask (u16At p 0) { k with change := some false, moveTo := none }, Resp.ok) := by
  subst hk
  refine (checked_ok (by simp [ht, hoff])).trans ?_
  rw [if_neg (by simp [hoff]), if_pos hbusy]

theorem cmdFacetStageSet_ok (h : Hdr) {p : Bytes} {s : State} (h0 : u8At p 0 ≤ 1) (h1 : u8At p 1 ≤ 1) :
    cmdFacetStageSet.body h p s = (s.onTime (fun x => { x with objInsert := u8At p 0 == 1, busInsert := u8At p 1 == 1 }), Resp.ok) :=
  checked_ok (by simp [h0, h1])

theorem cmdFacetStatusGet_ok (h : Hdr) {p : Bytes} {s : State} (hn : 1 ≤ u8At p 1)
    (hc : u8At p 0 + u8At p 1 ≤ if s.sys.orderIL then 4 else 8) :
    cmdFacetStatusGet.body h p s = (s, Resp.ok ((List.range (u8At p 1)).flatMap (fun i => s.coreReport (u8At p 0 + i)))) := by
  have hfirst : u8At p 0 < if s.sys.orderIL then 4 else 8 := Nat.lt_of_lt_of_le (Nat.lt_add_of_pos_right hn) hc
  exact checked_ok (by simp only [List.forall_mem_cons]; simp [Nat.not_le.2 hfirst, Nat.one_le_iff_ne_zero.1 hn, Nat.not_lt.2 hc])

theorem cmdFacetTaskUnload_ok (h : Hdr) {p : Bytes} {s : State} {k : FTask} (hk : s.task (u16At p 0) = k) (ht : u16At p 0 ≤ 1023)
    (hbusy : k.busy = false) :
    cmdFacetTaskUnload.body h p s = (s.setTask (u16At p 0) { k with image := none }, Resp.ok) := by
  subst hk
  exact checked_ok (by simp [ht, hbusy])

/-- Settles O18: one lemma for each body, on the state in which the command has been taken. -/
theorem facetTaskCommands : Obligations.FacetTaskCommands := by
  refine ⟨fun h p s u d hu hs hp hr ht hbusy hb hd hi => ?_, fun h p s u t k hu hs hp htp hk ht ha hl hm hc hx hbusy => ?_,
    fun h p s u t k hu hs hp htp hk ht hn1 hn2 hf hbusy hins he => ?_,
    fun h p s u t k hu hs hp htp hk ht hon himg hbusy hch hok => ?_, fun h p s u v t k hu hs hp htp hk ht hon himg hen hch hv => ?_,
    fun h p s u t k hu hs hp htp hk ht hoff hbusy => ?_, fun h p s u hu hs hp h0 h1 => ?_, fun h p s u hu hs hp hn hc => ?_,
    fun h p s u t hu hs hp htp ht hbusy => ?_⟩
  all_goals subst hu
  · exact cmdFacetTaskLoad.exec_ok h p [] hs (lenIs_iff.2 hp) (.inr hr)
      (cmdFacetTaskLoad_ok h (s.taken_task h _ _) ht hbusy hb hd.symm hi)
  · subst htp hk
    exact cmdFacetTaskSet.exec_ok h p [] hs (lenIs_iff.2 hp) (.inl rfl)
      (cmdFacetTaskSet_ok h (s.taken_task h _ _) ht ha hl ((s.taken_badMask h _ _).trans hm) hc hx hbusy)
  · subst htp hk
    exact cmdFacetChanSet.exec_ok h p [] hs (beq_iff_eq.2 hp) (.inl rfl)
      (cmdFacetChanSet_ok h (s.taken_task h _ _) ht ⟨hn1, hn2⟩ hf hbusy hins he)
  · subst htp hk
    have hbody := cmdFacetTaskEnable_on h (s.taken_task h 0x7004 _) ht hon himg
    rw [if_neg hch, if_neg (by simp [hbusy])] at hbody
    exact cmdFacetTaskEnable.exec_ok h p [] hs (lenIs_iff.2 hp) (.inl rfl) (hbody.trans (Prod.ext rfl hok))
  · subst htp hk
    have hbody := cmdFacetTaskEnable_on h (s.taken_task h 0x7004 _) ht hon himg
    rw [if_pos hch, hv] at hbody
    exact cmdFacetTaskEnable.exec_ok h p [] hs (lenIs_iff.2 hp) (.inl rfl) hbody
  · subst htp hk
    exact cmdFacetTaskEnable.exec_ok h p [] hs (lenIs_iff.2 hp) (.inl rfl)
      (cmdFacetTaskEnable_off h (s.taken_task h _ _) ht hoff hbusy)
  · exact cmdFacetStageSet.exec_ok h p [] hs (lenIs_iff.2 hp) (.inl rfl) (cmdFacetStageSet_ok h h0 h1)
  · exact cmdFacetStatusGet.exec_ok h p _ hs (lenIs_iff.2 hp) (.inl rfl) (cmdFacetStatusGet_ok h hn (by simpa using hc))
  · subst htp
    exact cmdFacetTaskUnload.exec_ok h p [] hs (lenIs_iff.2 hp) (.inl rfl)
      (cmdFacetTaskUnload_ok h (s.taken_task h _ _) ht hbusy)

end Sys2Proof.Machine
end

section
/-! PROOFS. The arithmetic of a Facet core: registers and SR bits after a write, 72-bit and 32-bit results, and what MUL, MAC, MSB, EXP, NORM, ADD and
SUB compute (R274, R276, R278, R280, R286, R289). -/

namespace Sys2Proof.Machine

/-! ### Two's complement -/

theorem ofSigned_lt (w : Nat) (v : Int) : ofSigned w v < 2 ^ w :=
  (Int.toNat_lt (Int.emod_nonneg v (by positivity))).2 (Int.emod_lt_of_pos v (by positivity))

/-- A value brought to w + 1 bits is the one it is congruent to in the signed range. -/
theorem toSigned_ofSigned (w : Nat) (v : Int) : toSigned (w + 1) (ofSigned (w + 1) v) = (v + 2 ^ w) % 2 ^ (w + 1) - 2 ^ w := by
  have hpow : (2 : Int) ^ (w + 1) = 2 * 2 ^ w := pow_succ' 2 w
  have hnn : 0 ≤ v % 2 ^ (w + 1) := Int.emod_nonneg v (by positivity)
  have hlt : v % 2 ^ (w + 1) < 2 ^ (w + 1) := Int.emod_lt_of_pos v (by positivity)
  have hm : ((ofSigned (w + 1) v : Nat) : Int) = v % 2 ^ (w + 1) := by
    unfold ofSigned
    push_cast
    exact Int.toNat_of_nonneg hnn
  unfold toSigned
  simp only [Nat.mod_eq_of_lt (ofSigned_lt (w + 1) v), Nat.add_sub_cancel, ← Int.emod_add_emod v]
  by_cases hlow : ofSigned (w + 1) v < 2 ^ w
  · have hl : v % 2 ^ (w + 1) < 2 ^ w := by rw [← hm]; exact_mod_cast hlow
    rw [if_pos hlow, hm, Int.emod_eq_of_lt (a := v % 2 ^ (w + 1) + 2 ^ w) (by omega) (by omega)]
    omega
  · have hh : 2 ^ w ≤ v % 2 ^ (w + 1) := by rw [← hm]; exact_mod_cast Nat.not_lt.1 hlow
    rw [if_neg hlow, hm, ← Int.sub_emod_right (v % 2 ^ (w + 1) + 2 ^ w),
      Int.emod_eq_of_lt (a := v % 2 ^ (w + 1) + 2 ^ w - 2 ^ (w + 1)) (by omega) (by omega)]
    push_cast
    omega

theorem wrap72_eq (v : Int) : wrap72 v = (v + 2 ^ 71) % 2 ^ 72 - 2 ^ 71 := toSigned_ofSigned 71 v

theorem wrap32_eq (v : Int) : wrap32 v = (v + 2 ^ 31) % 2 ^ 32 - 2 ^ 31 := toSigned_ofSigned 31 v

/-- A value that is in range is not wrapped, and no other keeps its value. -/
theorem wrap72_eq_self_iff (v : Int) : wrap72 v = v ↔ -2 ^ 71 ≤ v ∧ v < 2 ^ 71 := by
  rw [wrap72_eq]
  omega

theorem wrap32_eq_self_iff (v : Int) : wrap32 v = v ↔ -2 ^ 31 ≤ v ∧ v < 2 ^ 31 := by
  rw [wrap32_eq]
  omega

/-- A wrapped value is in range. -/
theorem wrap72_wrap72 (v : Int) : wrap72 (wrap72 v) = wrap72 v := by
  simp only [wrap72_eq]
  omega

/-- V tells that the exact result was out of range. -/
theorem wrap72_ne_self (v : Int) : decide (wrap72 v ≠ v) = decide (v < -2 ^ 71 ∨ 2 ^ 71 ≤ v) := by
  rw [decide_eq_decide, Ne, wrap72_eq_self_iff]
  omega

theorem wrap32_ne_self (v : Int) : decide (wrap32 v ≠ v) = decide (v < -2 ^ 31 ∨ 2 ^ 31 ≤ v) := by
  rw [decide_eq_decide, Ne, wrap32_eq_self_iff]
  omega

theorem wrap32_eq_zero_iff (v : Int) : wrap32 v = 0 ↔ v % 2 ^ 32 = 0 := by
  rw [wrap32_eq]
  omega

/-! ### SR (R270) -/

/-- A register around its bit k: the bits above, bit k, and the bits below. -/
theorem srBit_eq (sr k : Nat) (b : Bool) : srBit sr k b = 2 ^ k * Nat.bit b (sr / 2 ^ k / 2) + sr % 2 ^ k := by
  have hsr : 2 ^ k * (2 * (sr / 2 ^ k / 2) + sr / 2 ^ k % 2) + sr % 2 ^ k = sr := by
    rw [Nat.div_add_mod, Nat.div_add_mod]
  have hb : b2n b % 2 = b.toNat := by cases b <;> rfl
  unfold srBit withBits bitsOf
  rw [Nat.add_sub_cancel_left, pow_one, Nat.shiftRight_eq_div_pow, hb, Nat.bit_val]
  rw [Nat.mul_add, Nat.mul_comm (2 ^ k) (sr / 2 ^ k % 2)] at hsr
  rw [Nat.mul_add, Nat.mul_comm (2 ^ k) b.toNat]
  omega

/-- A bit that was written is read, and every other bit is as it was. -/
theorem bitOf_srBit (sr k : Nat) (b : Bool) (j : Nat) : bitOf (srBit sr k b) j = if j = k then b else bitOf sr j := by
  have hlow : sr % 2 ^ k < 2 ^ k := Nat.mod_lt _ (Nat.two_pow_pos k)
  have hsr := congrArg (fun n => Nat.testBit n j) (Nat.div_add_mod sr (2 ^ k))
  unfold bitOf
  simp only [Nat.testBit_two_pow_mul_add _ hlow] at hsr
  rw [srBit_eq, Nat.testBit_two_pow_mul_add _ hlow, ← hsr]
  obtain hj | rfl | hj := Nat.lt_trichotomy j k
  · rw [if_pos hj, if_pos hj, if_neg hj.ne]
  · simp
  · obtain ⟨m, rfl⟩ := Nat.exists_eq_add_of_lt hj
    rw [if_neg hj.not_gt, if_neg hj.not_gt, if_neg hj.ne', Nat.add_assoc, Nat.add_sub_cancel_left, Nat.testBit_bit_succ, Nat.testBit_succ]

/-- V is written and sets SV; every other bit stays (R270). -/
theorem bitOf_srV (sr : Nat) (v : Bool) (j : Nat) :
    bitOf (srV sr v) j = if j = 3 then v else if j = 5 then bitOf sr 5 || v else bitOf sr j := by
  obtain rfl | h3 := eq_or_ne j 3
  · cases v <;> simp [srV, bitOf_srBit]
  · obtain rfl | h5 := eq_or_ne j 5
    · cases v <;> simp [srV, bitOf_srBit]
    · cases v <;> simp [srV, bitOf_srBit, h3, h5]

/-! ### Registers after a write (R270) -/

theorem FCtx.ac_setA (c : FCtx) (k : Nat) (v : Int) (j : Nat) : (c.setA k v).ac j = if j % 4 = k % 4 then wrap72 v else c.ac j := by
  unfold FCtx.ac FCtx.setA
  split
  next h => rw [h, tget_tset_same]; rfl
  next h => rw [tget_tset_other 0 0 c.a _ h]

theorem FCtx.dr_setD (c : FCtx) (k v j : Nat) : (c.setD k v).dr j = if j % 16 = k % 16 then v % 2 ^ 32 else c.dr j := by
  unfold FCtx.dr FCtx.setD
  split
  next h => rw [h, tget_tset_same]
  next h => rw [tget_tset_other 0 0 c.d _ h]

/-- A data register that took a signed value reads as that value wrapped. -/
theorem toSigned_dr_setD (c : FCtx) (k : Nat) (v : Int) : toSigned 32 ((c.setD k (ofSigned 32 v)).dr k) = wrap32 v := by
  rw [FCtx.dr_setD, if_pos rfl, Nat.mod_eq_of_lt (ofSigned_lt 32 v), wrap32]

theorem FCtx.ac_range (c : FCtx) (k : Nat) : -2 ^ 71 ≤ c.ac k ∧ c.ac k < 2 ^ 71 := by
  unfold FCtx.ac toSigned
  dsimp only
  split <;> omega

/-- An accumulator reads what the accumulators hold, and so does a data register. -/
theorem FCtx.ac_congr {c x : FCtx} (h : c.a = x.a) {k j : Nat} (hk : k % 4 = j % 4) : c.ac k = x.ac j := by
  unfold FCtx.ac
  rw [h, hk]

theorem FCtx.dr_congr {c x : FCtx} (h : c.d = x.d) (k : Nat) : c.dr k = x.dr k := by
  unfold FCtx.dr
  rw [h]

@[simp] theorem FCtx.ss_a (c : FCtx) (b : Bool) : (c.ss b).a = c.a := by cases b <;> rfl

@[simp] theorem FCtx.ss_d (c : FCtx) (b : Bool) : (c.ss b).d = c.d := by cases b <;> rfl

/-- A limit of saturation touches SS alone. -/
theorem FCtx.bitOf_ss_other (c : FCtx) (b : Bool) {k : Nat} (hk : k ≠ 6) : bitOf (c.ss b).sr k = bitOf c.sr k := by
  cases b with
  | false => rfl
  | true => exact (bitOf_srBit c.sr 6 true k).trans (if_neg hk)

/-! ### An execution without stores -/

/-- An instruction that stores nothing: the item takes its registers, and no memory changes. -/
theorem facetNext_pure {s : State} {n slot : Nat} {o : FOp} {i : Item} {t : FTask} {c x : FCtx} (hi : s.Issues n slot i o t c)
    (hrpt : c.rpt = none) (hrep : o.repeatable = true) (hne : o ≠ .illegal) (hb : c.basic (s.facetMem t) o = .ok ⟨x, .none, 1⟩)
    (hroom : s.Room i (i.ctx.stall o + 1)) :
    ∃ (u : State) (c1 : FCtx), facetNext s n o = .next u ∧ u.item? slot = some { i with ctx := c1 } ∧ u.mem = s.mem ∧
      c1.a = x.a ∧ c1.d = x.d ∧ c1.sr = x.sr :=
  ⟨_, _, State.facetExec_executes hrep hne (State.executes_once hi hrpt hb hroom), State.item?_setItem_same _ _ _, rfl, rfl, rfl, rfl⟩

/-- Without parallel loads the context stays as the operation leaves it (R279). -/
theorem doLoads_none {c0 c : FCtx} {m : FMem} {pm : PMove} (hx : pm.xe = false) (hy : pm.ye = false) : doLoads c0 m pm c = .ok c := by
  simp [doLoads, hx, hy]

/-! ### MUL, MAC and MSB (R274, R280) -/

/-- The product of two data words, doubled under FRAC (R274). -/
theorem FCtx.prod_eq (c : FCtx) (x y : Nat) : c.prod x y = (if bitOf c.sr 11 then 2 else 1) * (toSigned 32 x * toSigned 32 y) := by
  unfold FCtx.prod
  split <;> simp

/-- The SR of a single MAC-class form of exact result v: V and SV, and GX of the wrapped result. -/
def srMac (sr : Nat) (v : Int) : Nat := srBit (srV sr (decide (wrap72 v ≠ v))) 4 (guardX (wrap72 v))

theorem bitOf_srMac (sr : Nat) (v : Int) (k : Nat) :
    bitOf (srMac sr v) k =
      if k = 4 then guardX (wrap72 v) else if k = 3 then decide (wrap72 v ≠ v)
      else if k = 5 then bitOf sr 5 || decide (wrap72 v ≠ v) else bitOf sr k := by
  rw [srMac, bitOf_srBit, bitOf_srV]

/-- A single form writes its result to Aa and its flags to SR. -/
theorem FCtx.macDo_single {c : FCtx} {op : Nat} {a : MacArgs} {v : Int} (hv : c.macVal op a = (v, none)) (hop : op ≠ 3)
    (hch : a.pm.ch = false) : c.macDo op a = { c.setA a.aa (wrap72 v) with sr := srMac c.sr v } := by
  simp only [FCtx.macDo, hv, hop, hch, if_false, Option.map_none, Option.getD_none, Bool.or_false, Bool.false_eq_true]
  rfl

/-- MUL, MAC and MSB without parallel loads. -/
theorem FCtx.mac_plain {c : FCtx} (m : FMem) {op : Nat} {a : MacArgs} {v : Int} (hop : op < 3) (hpm : a.pm = ⟨false, 0, 0, false, 0, 0, false⟩)
    (hab : a.ab = 0) (hu : a.u = 0) (hv0 : a.v = 0) (hv : c.macVal op a = (v, none)) :
    c.mac m op a = .ok ⟨{ c.setA a.aa (wrap72 v) with sr := srMac c.sr v, flagsBy := 0x38 }, .none, 1⟩ := by
  have hlegal : macLegal op a = true := by
    simp [macLegal, pmTidy, hpm, hab, hu, hv0, Nat.not_le.2 (Nat.lt_trans hop (by decide : 3 < 4))]
  unfold FCtx.mac
  rw [if_neg (by simp [hlegal]), doLoads_none (by rw [hpm]) (by rw [hpm]), FCtx.macDo_single hv hop.ne (by rw [hpm])]
  simp [hop.ne]

/-- The rows of MUL, MAC and MSB execute their instruction. -/
theorem exec_mul_mac_msb (n op : Nat) (a : MacArgs) (s : State) (hop : op < 3) :
    exec (if op = 0 then .mulM n a else if op = 1 then .mac n a else .msb n a) s = facetNext s n (.mac op a) := by
  match op, hop with
  | 0, _ => rfl
  | 1, _ => rfl
  | 2, _ => rfl

/-- The exact result of MUL, MAC and MSB. -/
theorem FCtx.macVal_single {c : FCtx} {op : Nat} {a : MacArgs} {p v : Int} (hp : p = c.prod (c.dr (a.s % 8)) (c.dr (a.t % 8)))
    (hv : (op = 0 ∧ v = p) ∨ (op = 1 ∧ v = c.ac a.aa + p) ∨ (op = 2 ∧ v = c.ac a.aa - p)) : c.macVal op a = (v, none) := by
  subst hp
  obtain ⟨rfl, rfl⟩ | ⟨rfl, rfl⟩ | ⟨rfl, rfl⟩ := hv <;> rfl

/-! ### EXP and NORM (R276) -/

/-- The bits of a 72-bit value without its sign. -/
def signFree (v : Int) : Nat := if v < 0 then (-v - 1).toNat else v.toNat

theorem eq_of_signFree (v : Int) : v = if v < 0 then -(signFree v : Int) - 1 else signFree v := by
  unfold signFree
  split
  next h => omega
  next h => omega

theorem expOf_eq (v : Int) : expOf v = if signFree v = 0 then 63 else 62 - ((signFree v).log2 : Int) := by
  have h : expOf v = if signFree v = 0 then 63 else 70 - ((signFree v).log2 : Int) - 8 := rfl
  rw [h]
  split <;> omega

/-- The number that EXP counts: with e redundant sign bits less 8 a value fits 64 − e bits, its sign included, and below 63 it fits no
fewer (R276). -/
theorem expOf_bounds {v : Int} (hlo : -2 ^ 71 ≤ v) (hhi : v < 2 ^ 71) :
    -8 ≤ expOf v ∧ expOf v ≤ 63 ∧ -2 ^ (63 - expOf v).toNat ≤ v ∧ v < 2 ^ (63 - expOf v).toNat ∧
      (expOf v < 63 → v < -2 ^ (62 - expOf v).toNat ∨ 2 ^ (62 - expOf v).toNat ≤ v) := by
  have hv := eq_of_signFree v
  rw [expOf_eq]
  by_cases h0 : signFree v = 0
  · rw [if_pos h0]
    rw [h0] at hv
    have : -1 ≤ v ∧ v < 1 := by split at hv <;> omega
    simpa using this
  · rw [if_neg h0]
    have htop : (signFree v).log2 < 71 := (Nat.log2_lt h0).2 (by split at hv <;> omega)
    have hle : ((2 ^ (signFree v).log2 : Nat) : Int) ≤ signFree v := Int.ofNat_le.2 (Nat.log2_self_le h0)
    have hlt : (signFree v : Int) < ((2 ^ ((signFree v).log2 + 1) : Nat) : Int) := Int.ofNat_lt.2 Nat.lt_log2_self
    push_cast at hle hlt
    have e63 : (63 - (62 - ((signFree v).log2 : Int))).toNat = (signFree v).log2 + 1 := by omega
    have e62 : (62 - (62 - ((signFree v).log2 : Int))).toNat = (signFree v).log2 := by omega
    rw [e63, e62]
    refine ⟨by omega, by omega, ?_, ?_, fun _ => ?_⟩
    all_goals split at hv <;> omega

/-- The shift count of NORM: left by a count from 0 on, right by one below. -/
theorem shiftA_eq {v e : Int} (hlo : -8 ≤ e) (hhi : e ≤ 63) :
    shiftA v e = if 0 ≤ e then v * 2 ^ e.toNat else v / 2 ^ (-e).toNat := by
  unfold shiftA
  rw [Nat.min_eq_left (by omega), Nat.min_eq_left (by omega)]

/-- A normalised value is in range: NORM wraps nothing. -/
theorem wrap72_norm {v : Int} (hlo : -2 ^ 71 ≤ v) (hhi : v < 2 ^ 71) : wrap72 (shiftA v (expOf v)) = shiftA v (expOf v) := by
  obtain ⟨h8, h63, hge, hlt, _⟩ := expOf_bounds hlo hhi
  rw [wrap72_eq_self_iff, shiftA_eq h8 h63]
  split
  next h =>
    have hp : (0 : Int) < 2 ^ (expOf v).toNat := by positivity
    have hsplit : (2 : Int) ^ (63 - expOf v).toNat * 2 ^ (expOf v).toNat = 2 ^ 63 := by
      rw [← pow_add]
      congr 1
      omega
    constructor <;> nlinarith
  next h =>
    have hp : (1 : Int) ≤ 2 ^ (-expOf v).toNat := one_le_pow₀ (by decide)
    constructor
    · exact Int.le_ediv_of_mul_le (by omega) (by nlinarith)
    · exact Int.ediv_lt_of_lt_mul (by omega) (by nlinarith)

/-- The accumulator that an operation names as its destination takes the wrapped result. -/
theorem FCtx.accDo_a_dest {c : FCtx} {op n : Nat} {a : AccArgs} (h : (c.accOp op a).dest = some n) :
    (c.accDo op a).a = (c.setA n (wrap72 (c.accOp op a).v)).a := by
  simp only [FCtx.accDo, FCtx.ss_a, h]
  cases (c.accOp op a).dm <;> rfl

theorem FCtx.accDo_a_none {c : FCtx} {op : Nat} {a : AccArgs} (h : (c.accOp op a).dest = none) : (c.accDo op a).a = c.a := by
  simp only [FCtx.accDo, FCtx.ss_a, h]
  cases (c.accOp op a).dm <;> rfl

/-- Dm takes the word of an operation that has one. -/
theorem FCtx.accDo_d {c : FCtx} {op : Nat} {a : AccArgs} {d : Int} (h : (c.accOp op a).dm = some d) :
    (c.accDo op a).d = (c.setD (accM a) (ofSigned 32 d)).d := by
  simp only [FCtx.accDo, FCtx.ss_d, h]
  cases (c.accOp op a).dest <;> rfl

/-- Z tells a wrapped result of zero. -/
theorem FCtx.accDo_zero (c : FCtx) (op : Nat) (a : AccArgs) : bitOf (c.accDo op a).sr 0 = decide (wrap72 (c.accOp op a).v = 0) := by
  simp [FCtx.accDo, FCtx.bitOf_ss_other, bitOf_srBit, bitOf_srV]

/-- An accumulator-class instruction without parallel loads. -/
theorem FCtx.accI_plain {c : FCtx} (m : FMem) {op : Nat} {a : AccArgs} (hl : accLegal op a = true) (hx : a.pm.xe = false) (hy : a.pm.ye = false) :
    c.accI m op a = .ok ⟨{ c.accDo op a with flagsBy := if op = 8 ∨ op = 9 then 0x7F else 0x3F }, .none, 1⟩ := by
  unfold FCtx.accI
  rw [if_neg (by simp [hl]), doLoads_none hx hy]

/-- The opcode of NORM or EXP. -/
def normExp (norm : Bool) : Nat := if norm then 13 else 14

theorem accLegal_normExp (norm : Bool) {m : Nat} {a : AccArgs} (hpm : a.pm = ⟨false, 0, 0, false, 0, 0, false⟩) (hab : a.ab = 0)
    (hkm : a.km = 16 * m) : accLegal (normExp norm) a = true := by
  cases norm <;> simp [accLegal, normExp, pmTidy, hpm, hab, hkm]

/-- The count that NORM and EXP write: NORM of zero counts 0 (R276). -/
def normCount (norm : Bool) (v : Int) : Int := if norm ∧ v = 0 then 0 else expOf v

/-- What NORM and EXP leave in Aa. -/
def normValue (norm : Bool) (v : Int) : Int := if norm then shiftA v (expOf v) else v

theorem normCount_zero (norm : Bool) : normCount norm 0 = if norm then 0 else 63 := by
  cases norm <;> rfl

theorem normCount_of_ne_zero (norm : Bool) {v : Int} (h : v ≠ 0) : normCount norm v = expOf v :=
  if_neg fun hn => h hn.2

theorem normValue_zero (norm : Bool) : normValue norm 0 = 0 := by
  cases norm <;> simp [normValue, shiftA]

theorem normCount_bounds (norm : Bool) {v : Int} (hlo : -2 ^ 71 ≤ v) (hhi : v < 2 ^ 71) : -8 ≤ normCount norm v ∧ normCount norm v ≤ 63 := by
  obtain ⟨h8, h63, _⟩ := expOf_bounds hlo hhi
  unfold normCount
  split <;> omega

/-- NORM shifts Aa by the count, which leaves a zero as it is. -/
theorem FCtx.accOp_norm (c : FCtx) (a : AccArgs) :
    c.accOp 13 a = ⟨normValue true (c.ac a.aa), none, some (a.aa % 4), some (normCount true (c.ac a.aa)), false⟩ := by
  have h : c.accOp 13 a = if c.ac a.aa = 0 then ⟨0, none, some (a.aa % 4), some 0, false⟩ else
      ⟨shiftA (c.ac a.aa) (expOf (c.ac a.aa)), none, some (a.aa % 4), some (expOf (c.ac a.aa)), false⟩ := rfl
  rw [h]
  split
  next h0 => rw [h0, normValue_zero, normCount_zero, if_pos rfl]
  next h0 => rw [normCount_of_ne_zero true h0, normValue, if_pos rfl]

/-- EXP writes the count alone. -/
theorem FCtx.accOp_exp (c : FCtx) (a : AccArgs) :
    c.accOp 14 a = ⟨expOf (c.ac a.aa), none, none, some (normCount false (c.ac a.aa)), false⟩ := by
  rw [normCount, if_neg (by simp)]
  rfl

theorem FCtx.accOp_normExp_dm (c : FCtx) (norm : Bool) (a : AccArgs) :
    (c.accOp (normExp norm) a).dm = some (normCount norm (c.ac a.aa)) := by
  cases norm with
  | false => exact congrArg AccOut.dm (c.accOp_exp a)
  | true => exact congrArg AccOut.dm (c.accOp_norm a)

/-- NORM and EXP change no accumulator but Aa. -/
theorem FCtx.ac_accDo_normExp (c : FCtx) (norm : Bool) (a : AccArgs) (k : Nat) :
    (c.accDo (normExp norm) a).ac k = if k % 4 = a.aa % 4 then normValue norm (c.ac a.aa) else c.ac k := by
  cases norm with
  | false =>
    have ha : (c.accDo (normExp false) a).a = c.a := FCtx.accDo_a_none (congrArg AccOut.dest (c.accOp_exp a))
    split
    next hk => exact FCtx.ac_congr ha hk
    next => exact FCtx.ac_congr ha rfl
  | true =>
    have hw : wrap72 (normValue true (c.ac a.aa)) = normValue true (c.ac a.aa) := by
      obtain ⟨hlo, hhi⟩ := c.ac_range a.aa
      exact wrap72_norm hlo hhi
    have ha := FCtx.accDo_a_dest (congrArg AccOut.dest (c.accOp_norm a))
    rw [c.accOp_norm a, hw] at ha
    rw [FCtx.ac_congr (c := c.accDo (normExp true) a) ha rfl, FCtx.ac_setA, hw, Nat.mod_mod]

/-- NORM and EXP write the count to Dm and no other data register. -/
theorem FCtx.dr_accDo_normExp (c : FCtx) (norm : Bool) (a : AccArgs) (k : Nat) :
    (c.accDo (normExp norm) a).dr k = (c.setD (accM a) (ofSigned 32 (normCount norm (c.ac a.aa)))).dr k :=
  FCtx.dr_congr (FCtx.accDo_d (c.accOp_normExp_dm norm a)) k

/-- NORM of zero sets Z. -/
theorem FCtx.zero_accDo_norm {c : FCtx} {a : AccArgs} (h : c.ac a.aa = 0) : bitOf (c.accDo (normExp true) a).sr 0 = true := by
  refine (c.accDo_zero 13 a).trans (decide_eq_true ?_)
  rw [c.accOp_norm a, h, normValue_zero]
  rfl

/-- The rows of NORM and EXP execute their instruction. -/
theorem exec_norm_exp (norm : Bool) (n : Nat) (a : AccArgs) (s : State) :
    exec (if norm then .normA n a else .expA n a) s = facetNext s n (.acc (normExp norm) a) := by
  cases norm <;> rfl

/-! ### ADD and SUB (R286, R289) -/

/-- A data operation with a result and a carry writes both, with the flags of the result. -/
theorem FCtx.dataDo_some {c : FCtx} {op x y : Nat} {r : Int} {carry : Bool} (h : dataOp op x y = some (r, some carry)) (d : Nat) :
    c.dataDo op (some d) x y =
      { c.setD d (ofSigned 32 r) with sr := srData c.sr r carry (decide (wrap32 r ≠ r)), flagsBy := 0x2F } := by
  simp only [FCtx.dataDo, h]
  rfl

/-- ADD and SUB with their second operand, a register or the immediate. -/
theorem FCtx.dataI_addSub (c : FCtx) (sub : Bool) {a : DataArgs} {y : Nat}
    (hy : (a.i = true ∧ a.t = 0 ∧ y = ofSigned 32 (toSigned 10 a.imm)) ∨ (a.i = false ∧ a.imm = 0 ∧ y = c.dr a.t)) :
    c.dataI (if sub then 1 else 0) a = .ok ⟨c.dataDo (if sub then 1 else 0) (some a.d) (c.dr a.s) y, .none, 1⟩ := by
  unfold FCtx.dataI datLegal
  obtain ⟨hi, ht, rfl⟩ | ⟨hi, hm, rfl⟩ := hy
  · cases sub <;> simp [hi, ht]
  · cases sub <;> simp [hi, hm]

/-- The result and the carry of ADD and SUB. -/
theorem dataOp_addSub (sub : Bool) (x y : Nat) :
    dataOp (if sub then 1 else 0) x y =
      some (if sub then toSigned 32 x - toSigned 32 y else toSigned 32 x + toSigned 32 y,
        some (decide (2 ^ 32 ≤ if sub then x + (2 ^ 32 - 1 - y) + 1 else x + y))) := by
  cases sub <;> rfl

/-- The rows of SUB and ADD execute their instruction. -/
theorem exec_sub_add (sub : Bool) (n : Nat) (a : DataArgs) (s : State) :
    exec (if sub then .daluSub n a else .daluAdd n a) s = facetNext s n (.dat (if sub then 1 else 0) a) := by
  cases sub <;> rfl

/-- C, V, Z, N and SV of a data result (R289). -/
theorem bitOf_srData (sr : Nat) (r : Int) (carry v : Bool) (k : Nat) :
    bitOf (srData sr r carry v) k =
      if k = 3 then v else if k = 5 then bitOf sr 5 || v else if k = 2 then carry else if k = 1 then decide (wrap32 r < 0)
      else if k = 0 then decide (wrap32 r = 0) else bitOf sr k := by
  simp [srData, bitOf_srV, bitOf_srBit]

/-- Settles O56: the register and SR lemmas on the context that one execution leaves. -/
theorem facetArithmetic : Obligations.FacetArithmetic := by
  refine ⟨fun n slot op a s i t c p v hi hrpt hroom hpm hab hu hv0 haa hp hv => ?_,
    fun norm n slot m a o s i t c ho hi hrpt hroom hpm hab haa hm hkm => ?_,
    fun sub n slot x y v a o s i t c ho hi hrpt hroom hd hy hx hv => ?_⟩
  · have hop : op < 3 := by omega
    have hval := FCtx.macVal_single (hp.trans (c.prod_eq _ _).symm) hv
    obtain ⟨u, c1, hexec, hitem, hmem, ha, hdr, hsr⟩ :=
      facetNext_pure hi hrpt rfl nofun (FCtx.mac_plain _ hop hpm hab hu hv0 hval) hroom
    have hac (k : Nat) : c1.ac k = if k % 4 = a.aa % 4 then wrap72 v else c.ac k := by
      rw [FCtx.ac_congr (x := c.setA a.aa (wrap72 v)) ha rfl, FCtx.ac_setA, wrap72_wrap72]
    have hbit (k : Nat) := (congrArg (bitOf · k) hsr).trans (bitOf_srMac c.sr v k)
    refine ⟨u, c1, (exec_mul_mac_msb n op a s hop).trans hexec, hitem, hmem, ?_, fun k hk hne => ?_, FCtx.dr_congr hdr, ?_, ?_, ?_,
      fun k h3 h4 h5 => ?_⟩
    · rw [hac, if_pos rfl, wrap72_eq]
    · rw [hac, if_neg (by omega)]
    · exact (hbit 3).trans (wrap72_ne_self v)
    · exact (hbit 5).trans (congrArg (bitOf c.sr 5 || ·) (wrap72_ne_self v))
    · rw [hac, if_pos rfl]
      exact hbit 4
    · exact (hbit k).trans (by rw [if_neg h4, if_neg h3, if_neg h5])
  · obtain rfl : o = .acc (normExp norm) a := ho
    obtain ⟨hlo, hhi⟩ := c.ac_range a.aa
    obtain ⟨h8, h63⟩ := normCount_bounds norm hlo hhi
    have hm' : accM a = m := by unfold accM; omega
    have hb := FCtx.accI_plain (c := c) (s.facetMem t) (accLegal_normExp norm hpm hab hkm) (by rw [hpm]) (by rw [hpm])
    obtain ⟨u, c1, hexec, hitem, hmem, ha, hd, hsr⟩ := facetNext_pure hi hrpt rfl nofun hb hroom
    have hac (k : Nat) := (FCtx.ac_congr ha rfl).trans (c.ac_accDo_normExp norm a k)
    have hdr (k : Nat) := (FCtx.dr_congr hd k).trans (c.dr_accDo_normExp norm a k)
    rw [hm'] at hdr
    refine ⟨u, c1, normCount norm (c.ac a.aa), (exec_norm_exp norm n a s).trans hexec, hitem, hmem, fun k hk hne => ?_, fun k hk hne => ?_, ?_,
      fun h0 => ⟨?_, ?_, ?_⟩, fun h0 => ?_⟩
    · rw [hac, if_neg (by omega)]
    · rw [hdr, FCtx.dr_setD, if_neg (by omega)]
    · rw [hdr, toSigned_dr_setD, (wrap32_eq_self_iff _).2 (by omega)]
    · rw [h0, normCount_zero]
    · rw [hac, if_pos rfl, h0, normValue_zero]
    · rintro rfl
      exact (congrArg (bitOf · 0) hsr).trans (FCtx.zero_accDo_norm h0)
    · rw [normCount_of_ne_zero norm h0, hac, if_pos rfl]
      obtain ⟨he8, he63, hge, hlt, hfit⟩ := expOf_bounds hlo hhi
      exact ⟨he8, he63, hge, hlt, hfit, by rw [normValue, shiftA_eq he8 he63]⟩
  · subst ho hx
    have hb := c.dataI_addSub sub hy
    rw [FCtx.dataDo_some (dataOp_addSub sub _ y) a.d, ← hv] at hb
    obtain ⟨u, c1, hexec, hitem, hmem, ha, hd1, hsr⟩ := facetNext_pure hi hrpt rfl nofun hb hroom
    have hdr (k : Nat) : c1.dr k = (c.setD a.d (ofSigned 32 v)).dr k := FCtx.dr_congr hd1 k
    have hbit (k : Nat) := (congrArg (bitOf · k) hsr).trans (bitOf_srData c.sr v _ _ k)
    have hres : toSigned 32 (c1.dr a.d) = wrap32 v := by rw [hdr, toSigned_dr_setD]
    refine ⟨u, c1, (exec_sub_add sub n a s).trans hexec, hitem, hmem, hres.trans (wrap32_eq v), fun k hk hne => ?_, ha, hbit 2, ?_, ?_, ?_, ?_⟩
    · rw [hdr, FCtx.dr_setD, if_neg (by omega)]
    · exact (hbit 3).trans (wrap32_ne_self v)
    · exact (hbit 5).trans (congrArg (bitOf c.sr 5 || ·) (hbit 3).symm)
    · exact (hbit 0).trans (decide_eq_decide.2 (wrap32_eq_zero_iff v))
    · rw [hres]
      exact hbit 1

end Sys2Proof.Machine
end

section
/-! PROOFS. The scheduler's commands and TESTGEN_SET, each by what its body comes to once its checks pass (R304, R305, R314, R315, R317, R322, R396,
R415). -/

namespace Sys2Proof.Machine

/-! ### What the bodies read is as it was before the command was taken -/

@[simp] theorem State.taken_rtSlots (s : State) (h : Hdr) (op : Nat) : (s.taken h op).rtSlots = s.rtSlots := by
  simp [State.rtSlots, State.slotsOf]

/-! ### Settings (R304, R314, R317) -/

/-- Four list periods of 1 to 1000 µs leave none to refuse (R314). -/
theorem listPeriods_none_bad {p : Bytes} (hT : ∀ n < 4, 1 ≤ u16At p (8 + 2 * n) ∧ u16At p (8 + 2 * n) ≤ 1000) :
    (List.range 4).find? (fun n => decide (u16At p (8 + 2 * n) = 0 ∨ 1000 < u16At p (8 + 2 * n))) = none := by
  refine List.find?_eq_none.2 fun n hn => ?_
  obtain ⟨hlo, hhi⟩ := hT n (List.mem_range.1 hn)
  simp [Nat.one_le_iff_ne_zero.1 hlo, hhi]

/-- Slots that fit the pool, with those of RT tasks, and a ring of 1 to 64 times 1,024 entries are set, on the state that has the ring placed. -/
theorem cmdSchedCfgSet_ok (h : Hdr) {p : Bytes} {s t : State} (hslots : u16At p 0 + u16At p 2 + s.rtSlots ≤ 1024)
    (hlo : 1024 ≤ u32At p 4) (hhi : u32At p 4 ≤ 65536) (hunit : u32At p 4 % 1024 = 0)
    (hT : ∀ n < 4, 1 ≤ u16At p (8 + 2 * n) ∧ u16At p (8 + 2 * n) ≤ 1000) (ht : s.placeSpill = some t) :
    cmdSchedCfgSet.body h p s = (t.schedCfg p, Resp.ok) := by
  refine (checked_ok ?_).trans ?_
  · simp only [listPeriods_none_bad hT]
    simp [hslots, hlo, hhi, hunit]
  · rw [ht]

/-! ### Items of HOST class (R305, R315, R316, R322) -/

/-- A submitted task that is enabled gets an item in the free HOST slot, ready once waiting work has been refilled. -/
theorem cmdTaskSubmit_ok (h : Hdr) {p : Bytes} {s : State} {k : FTask} {n : Nat} (hk : s.task (u16At p 0) = k) (ht : u16At p 0 ≤ 1023)
    (hen : k.enabled = true) (hatt : k.attach = 3) (hslot : s.hostSlot = some n) :
    cmdTaskSubmit.body h p s = ((s.refillAll.setItem n (hostItem (u16At p 0) k .ready)).makeReady n 2, Resp.ok) := by
  subst hk
  refine (checked_ok (by simp [ht, hen, hatt])).trans ?_
  rw [hslot]

/-- A timer entry of an enabled timer task replaces the task's old one, in the HOST slot that is free once the old one is cancelled. -/
theorem cmdTimerSet_arms (h : Hdr) {p : Bytes} {s : State} {k : FTask} {n : Nat} (hk : s.task (u16At p 0) = k) (ht : u16At p 0 ≤ 1023)
    (hlist : u8At p 2 ≤ 3) (hset : bitOf (u8At p 3) 1 = false) (hdelay : 1 ≤ u32At p 4 ∧ u32At p 4 ≤ 16777215)
    (hperiod : bitOf (u8At p 3) 0 = true → 1 ≤ u32At p 8 ∧ u32At p 8 ≤ 16777215) (hen : k.enabled = true) (hatt : k.attach = 2)
    (hslot : (s.cancelTimer (u16At p 0)).hostSlot = some n) :
    cmdTimerSet.body h p s = ((s.cancelTimer (u16At p 0)).armTimer (u16At p 0) (u8At p 2) (u32At p 4)
      (if bitOf (u8At p 3) 0 then u32At p 8 else 0) n, Resp.ok) := by
  subst hk
  obtain ⟨hlo, hhi⟩ := hdelay
  simp only [Nat.one_le_iff_ne_zero] at hlo hperiod
  refine (checked_ok (by simpa [ht, hlist, hset, hlo, hhi, hen, hatt] using hperiod)).trans ?_
  rw [if_neg (by simp [hset]), hslot]

/-- A cancel removes the task's entry, whatever delay and period the payload holds. -/
theorem cmdTimerSet_cancels (h : Hdr) {p : Bytes} {s : State} {k : FTask} (hk : s.task (u16At p 0) = k) (ht : u16At p 0 ≤ 1023)
    (hlist : u8At p 2 ≤ 3) (hcancel : bitOf (u8At p 3) 1 = true) (hen : k.enabled = true) (hatt : k.attach = 2) :
    cmdTimerSet.body h p s = (s.cancelTimer (u16At p 0), Resp.ok) := by
  subst hk
  exact (checked_ok (by simp [ht, hlist, hcancel, hen, hatt])).trans (if_pos hcancel)

/-! ### The test generator (R396, R415) -/

/-- An entry passes that names a channel and a kind, with a frequency in range for a sine and a level in range unless the channel is off. -/
theorem testBad_eq_none {e : Bytes} (i : Nat) (hchan : u8At e 0 ≤ 15) (hkind : u8At e 1 ≤ 3)
    (hfreq : u8At e 1 = 1 → 20 ≤ u16At e 2 ∧ u16At e 2 ≤ 20000) (hlevel : u8At e 1 ≠ 0 → -12000 ≤ s16At e 4 ∧ s16At e 4 ≤ 0) :
    testBad i e = none := by
  have hf : ¬ (u8At e 1 = 1 ∧ (u16At e 2 < 20 ∨ 20000 < u16At e 2)) := by omega
  have hl : ¬ (u8At e 1 ≠ 0 ∧ (s16At e 4 < -12000 ∨ 0 < s16At e 4)) := by omega
  unfold testBad
  rw [if_neg (Nat.not_lt.2 hchan), if_neg (Nat.not_lt.2 hkind), if_neg hf, if_neg hl]

/-- Settings that pass wait for their boundary, and the generator is claimed or released by whether one of its channels is on. -/
theorem cmdTestgenSet_ok (h : Hdr) {p : Bytes} {s v : State} {on : Bool} (he : ∀ e ∈ entries 6 p, ∀ i, testBad i e = none)
    (hv : v = s.onMeas (fun x => { x with testNew := (entries 6 p).foldl (fun t e => tput t (u8At e 0) (testSet e)) x.testNew }))
    (hon : on = (List.range 16).any (fun c => (v.testOf c).kind != 0)) (ho : on = true → s.owner 0x302 = 0 ∨ s.owner 0x302 = 5) :
    cmdTestgenSet.body h p s = (v.claim 0x302 (if on then 5 else 0), Resp.ok) := by
  subst hv hon
  refine (checkedEntries_ok fun i e hm => he e hm i).trans (if_neg ?_)
  rintro ⟨hany, hheld, hother⟩
  exact (ho hany).elim hheld hother

/-- Settles O19: one lemma for each body, on the state in which the command has been taken; SCHED_STATUS_GET checks nothing. -/
theorem schedulerCommands : Obligations.SchedulerCommands := by
  refine ⟨fun h p s u t hu hs hp hslots hlo hhi hunit hT ht => ?_, fun h p s u k n hu hs hp hk ht hen hatt hslot => ?_,
    fun h p s u t n hu hs hp htp ht hlist hset hlo hhi hperiod hen hatt hslot => ?_,
    fun h p s u t hu hs hp htp ht hlist hcancel hen hatt => ?_, fun h p s u hu hs hp => ?_,
    fun h p s u v on hu hs hp he hv hon ho => ?_⟩
  all_goals subst hu
  · exact cmdSchedCfgSet.exec_ok h p [] hs (lenIs_iff.2 hp) (.inl rfl)
      (cmdSchedCfgSet_ok h (by simpa using hslots) hlo hhi hunit hT ht)
  · exact cmdTaskSubmit.exec_ok h p [] hs (lenIs_iff.2 hp) (.inl rfl)
      (cmdTaskSubmit_ok h ((s.taken_task h _ _).trans hk.symm) ht hen hatt hslot)
  · subst htp
    exact cmdTimerSet.exec_ok h p [] hs (lenIs_iff.2 hp) (.inl rfl)
      (cmdTimerSet_arms h (s.taken_task h _ _) ht hlist hset ⟨hlo, hhi⟩ hperiod hen hatt hslot)
  · subst htp
    exact cmdTimerSet.exec_ok h p [] hs (lenIs_iff.2 hp) (.inl rfl)
      (cmdTimerSet_cancels h (s.taken_task h _ _) ht hlist hcancel hen hatt)
  · exact cmdSchedStatusGet.exec_ok h p _ hs (lenIs_iff.2 hp) (.inl rfl) rfl
  · refine cmdTestgenSet.exec_ok h p [] hs hp (.inl rfl) (cmdTestgenSet_ok h (fun e hm i => ?_) hv hon ho)
    obtain ⟨hchan, hkind, hfreq, hlevel⟩ := he e hm
    exact testBad_eq_none i hchan hkind hfreq hlevel

end Sys2Proof.Machine
end

section
/-! PROOFS. What every step keeps, PORST_N included: the canonical form of memories and registers, and the test state but for PORST_N (R388,
R456, R487, R489, R516, R521). -/

namespace Sys2Proof.Machine

theorem State.Keeps.canonical {s t : State} (k : s.Keeps t) (h : s.Canonical) : t.Canonical := by
  obtain ⟨hmem, hhost, hflash, hregs⟩ := h
  exact ⟨k.mem hmem, k.hostMem hhost, k.flash hflash, k.regs hregs⟩

/-- PORST_N empties the device memories and the register table, and leaves the host's memory and the flash (R456). -/
theorem State.outside_canonical {s : State} (h : s.Canonical) : s.outside.Canonical := by
  obtain ⟨-, hhost, hflash, -⟩ := h
  exact ⟨nil_wf _, hhost, hflash, nil_wf _⟩

/-- A step but for PORST_N keeps of the state without its front command what no command takes away. -/
theorem step_keeps_of_ne_porstN {s t : State} (h : step s = .next t) (hc : s.pending.head? ≠ some .porstN) :
    State.Keeps { s with pending := s.pending.tail } t := by
  obtain ⟨hq, rfl⟩ | ⟨c, cs, hq, hx⟩ := step_next_cases h
  · have e : ({ s with pending := s.pending.tail } : State) = s := by rw [hq, List.tail_nil, ← hq]
    exact e.symm ▸ State.idleTick_keeps (.refl s)
  · rw [hq] at hc ⊢
    exact (exec_keeps (.refl _) c fun e => absurd (congrArg some e) hc).of hx

/-- A step that takes PORST_N leads to what the reset leaves outside it. -/
theorem step_eq_outside {s t : State} (h : step s = .next t) (hc : s.pending.head? = some .porstN) :
    t = ({ s with pending := s.pending.tail } : State).outside := by
  obtain ⟨cs, hq⟩ := List.head?_eq_some_iff.1 hc
  unfold step at h
  rw [hq] at h ⊢
  exact (Host.Outcome.next.inj h).symm

/-- Settles O58: PORST_N empties what it clears, and every other step keeps the canonical form. -/
theorem canonicalKept : Obligations.CanonicalKept := by
  intro s t hs h
  by_cases hc : s.pending.head? = some .porstN
  · rw [step_eq_outside h hc]
    exact State.outside_canonical hs
  · exact (step_keeps_of_ne_porstN h hc).canonical hs

/-- Settles O60: every step but PORST_N keeps the test state, and PORST_N leads to power-on reset. -/
theorem testModeHolds : Obligations.TestModeHolds := by
  intro s t hp h
  refine ⟨fun hc => ?_, fun hc => ?_⟩
  · have k := (step_keeps_of_ne_porstN h hc).sys
    exact ⟨k.phase hp, k.firmware hp⟩
  · rw [step_eq_outside h hc]
    exact ⟨rfl, rfl⟩

end Sys2Proof.Machine
end

section
/-! PROOFS. The locks of the bus matrix and the latches of the performance counters: who holds what, and what each master reads (R323, R336, R338,
R339, R341, R470). -/

namespace Sys2Proof.Machine

/-! ### Counters and locks -/

/-- Reading a register after a counter has counted one more (32 bits, wrapping). -/
theorem State.rd_bump (s : State) (a b : Nat) : (s.bump a).rd b = if b = a then (s.rd a + 1) % 2 ^ 32 else s.rd b :=
  s.rd_wr a (s.rd a + 1) b

@[simp] theorem State.lock_setLock_same (s : State) (n : Nat) (l : Lock) : (s.setLock n l).lock n = l := tget_tset_same Lock.init _ n l

theorem State.lock_setLock_other (s : State) {n k : Nat} (l : Lock) (h : k ≠ n) : (s.setLock n l).lock k = s.lock k :=
  tget_tset_other Lock.init Lock.init _ l h

theorem State.lock_congr {s t : State} (h : t.xbar = s.xbar) (k : Nat) : t.lock k = s.lock k := by
  unfold State.lock
  rw [h]

/-- What a table reads differently from an unlisted key stands in it. -/
theorem mem_of_tget_ne {α : Type} {d : α} {t : Tbl α} {k : Nat} (h : tget d t k ≠ d) : (k, tget d t k) ∈ t := by
  induction t with
  | nil => exact absurd rfl h
  | cons e t ih =>
    obtain ⟨i, v⟩ := e
    by_cases hi : i = k
    · simp [tget, hi]
    · simp only [tget, hi, if_false] at h ⊢
      exact List.mem_cons_of_mem _ (ih h)

/-- No lock is higher than itself: what a master holds it cannot acquire again (R338). -/
theorem State.lockAbove_held {s : State} {m n : Nat} (hh : (s.lock n).held = true) (ho : (s.lock n).owner = m) : s.lockAbove m n = false := by
  have hmem : (n, s.lock n) ∈ s.xbar.locks := mem_of_tget_ne fun e => absurd hh (by rw [State.lock, e]; decide)
  have hbad : (!((s.lock n).held && (s.lock n).owner == m) || decide (n < n)) ≠ true := by simp [hh, ho]
  exact Bool.eq_false_iff.2 fun e => hbad (List.all_eq_true.1 e _ hmem)

/-! ### LOCK_REL (R339) -/

/-- An unmasked master that may use the lock registers has its release carried out. -/
theorem execLockRel_may {m n : Nat} {s : State} (hm : s.masked m = false) (hmay : mayLock m = true) (hd : m = 15 → s.sec.unlocked = true)
    (hn : n < 64) {t : State} (ht : s.lockRel m n = t) : execLockRel m n s = .next (t.withRstat 0) := by
  unfold execLockRel
  rw [if_neg (by simp [hm, hn]), if_neg (by simpa [hmay] using hd), ht]

theorem State.lockRel_owner {m n : Nat} {s : State} (hh : (s.lock n).held = true) (ho : (s.lock n).owner = m) :
    s.lockRel m n = s.setLock n { s.lock n with held := false } :=
  if_pos (by simp [hh, ho])

theorem State.lockRel_foreign {m n : Nat} {s : State} (h : (s.lock n).held = false ∨ (s.lock n).owner ≠ m) :
    s.lockRel m n = s.bump (Reg.XBAR_CNT 9) :=
  if_neg (by obtain h | h := h <;> simp [h])

/-- Settles O42: the owner's release changes one lock, and any other's counts LOCK_FOREIGN. -/
theorem locksAreReleasedByTheirOwner : Obligations.LocksAreReleasedByTheirOwner := by
  refine ⟨fun m n s hm hmay hd hn hh ho => ⟨_, execLockRel_may hm hmay hd hn (State.lockRel_owner hh ho), ?_, fun k hk => ?_, rfl, rfl, rfl⟩,
    fun m n s hm hmay hd hn h => ⟨_, execLockRel_may hm hmay hd hn (State.lockRel_foreign h), ?_, ?_, ?_, fun a ha => ?_⟩⟩
  · exact congrArg Lock.held (s.lock_setLock_same n _)
  · exact s.lock_setLock_other _ hk
  · simp
  · simp
  · simp [State.rd_bump]
  · simp [State.rd_bump, ha]

/-! ### LOCK_ACQ (R338) -/

/-- An unmasked master that may take locks, or master 15 with debug unlocked, reads LOCK_ACQ. -/
theorem execLockAcq_may {m n : Nat} {s : State} (hm : s.masked m = false) (hmay : mayLock m = true) (hd : m = 15 → s.sec.unlocked = true)
    (hn : n < 64) {t : State} {w : Nat} (ht : s.lockAcq m n = (t, w)) : execLockAcq m n s = .next ((t.withRdata (le32 w)).withRstat 0) := by
  unfold execLockAcq
  rw [if_neg (by simp [hm, hn]), if_neg (by simpa [hmay] using hd), ht]

/-- A lock not above all that the master holds answers ORDER. -/
theorem State.lockAcq_order {m n : Nat} {s : State} (h15 : m ≠ 15) (ha : s.lockAbove m n = false) :
    s.lockAcq m n = ((s.bump (Reg.XBAR_CNT 7)).perfAdd 60, 3 * 2 ^ 30 + (s.lock n).owner) := by
  unfold State.lockAcq
  simp [h15, ha]

/-- A lock above them that is held answers HELD. -/
theorem State.lockAcq_held {m n : Nat} {s : State} (h15 : m ≠ 15) (ha : s.lockAbove m n = true) (hh : (s.lock n).held = true) :
    s.lockAcq m n = (s.perfAdd 61, 2 * 2 ^ 30 + (s.lock n).owner) := by
  unfold State.lockAcq
  simp [h15, ha, hh]

/-- A lock above them that is free is granted, and the answer says whether it was broken. -/
theorem State.lockAcq_granted {m n : Nat} {s : State} (h15 : m ≠ 15) (ha : s.lockAbove m n = true) (hh : (s.lock n).held = false) :
    s.lockAcq m n = ((s.setLock n ⟨true, m, false⟩).perfAdd 59, (if (s.lock n).broken then 2 ^ 30 else 0) + m) := by
  unfold State.lockAcq b2n
  simp [h15, ha, hh]

/-- Master 15 reads the lock's state and takes nothing. -/
theorem State.lockAcq_debug (n : Nat) (s : State) : s.lockAcq 15 n = (s, (s.lock n).word) := by
  unfold State.lockAcq
  rfl

/-- Settles O43: one lemma for each answer. -/
theorem locksAreAcquiredInOrder : Obligations.LocksAreAcquiredInOrder := by
  refine ⟨fun m n s hm hmay h15 hn ha => ⟨_, execLockAcq_may hm hmay (absurd · h15) hn (State.lockAcq_order h15 ha), rfl, ?_, ?_⟩,
    fun m n s hm hmay h15 hn ha hh => ⟨_, execLockAcq_may hm hmay (absurd · h15) hn (State.lockAcq_held h15 ha hh), rfl, ?_, ?_⟩,
    fun m n s hm hmay h15 hn ha hh =>
      have hx : ((s.setLock n ⟨true, m, false⟩).perfAdd 59).xbar = (s.setLock n ⟨true, m, false⟩).xbar := by simp
      ⟨_, execLockAcq_may hm hmay (absurd · h15) hn (State.lockAcq_granted h15 ha hh), rfl,
        (State.lock_congr hx n).trans (s.lock_setLock_same n _), fun k hk => (State.lock_congr hx k).trans (s.lock_setLock_other _ hk), ?_⟩,
    fun m n s h => State.lockAbove_held (by rw [h]) (by rw [h]),
    fun n s hm hd hn => execLockAcq_may hm rfl (fun _ => hd) hn (s.lockAcq_debug n)⟩
  · simp
  · simp [State.rd_bump]
  · simp
  · simp
  · simp [State.setLock]

/-! ### The counters' latches (R470) -/

theorem perfKey_ne_of_counter {m n i : Nat} (hn : n < 128) (hi : i < 128) (h : n ≠ i) : perfKey m n ≠ perfKey m i := by
  unfold perfKey
  omega

theorem perfKey_ne_of_master {k m : Nat} (i n : Nat) (h : k ≠ m) : perfKey k i ≠ perfKey m n := by
  unfold perfKey
  omega

theorem State.perfPair_congr {s t : State} (h : t.perf.chained = s.perf.chained) (m n : Nat) : t.perfPair m n = s.perfPair m n := by
  unfold State.perfPair
  rw [h]

theorem State.perfHi_congr {s t : State} (hl : t.perf.latch = s.perf.latch) (hc : t.perf.chained = s.perf.chained) (m n : Nat) :
    t.perfHi m n = s.perfHi m n := by
  unfold State.perfHi
  rw [State.perfPair_congr hc, hl]

theorem find?_tdel_same {α : Type} (t : Tbl α) (k : Nat) : (tdel t k).find? (fun e => e.1 == k) = none := by
  induction t with
  | nil => rfl
  | cons e t ih =>
    obtain ⟨i, v⟩ := e
    by_cases hi : i = k
    · simp [tdel, hi, ih]
    · simp [tdel, hi, ih]

/-- The latches master m has after reading LO of counter n, none being paired before: its upper half, and, where the next counter is chained to it,
both halves of that. -/
def State.latched (s : State) (m n : Nat) : State :=
  s.onPerf (fun x => { x with
    latch := tset 0 x.latch (perfKey m n) (tget 0 s.perf.cnt n / 2 ^ 32)
    chained := if s.perfChained n then
        tput x.chained (perfKey m (n + 1)) (tget 0 s.perf.cnt (n + 1) % 2 ^ 32, tget 0 s.perf.cnt (n + 1) / 2 ^ 32)
      else x.chained })

theorem State.perfLo_none {s : State} {m n : Nat} (h : s.perfPair m n = none) :
    s.perfLo m n = (s.latched m n, tget 0 s.perf.cnt n % 2 ^ 32) := by
  unfold State.perfLo State.latched
  simp only [h]
  by_cases hc : s.perfChained n
  · simp [hc, State.onPerf]
  · simp [hc]

/-- A pair that waits is answered and used up, its upper half latched. -/
theorem State.perfLo_some {s : State} {m n lo hi : Nat} (h : s.perfPair m n = some (lo, hi)) :
    s.perfLo m n = (s.onPerf (fun x => { x with
      chained := tdel x.chained (perfKey m n), latch := tset 0 x.latch (perfKey m n) hi }), lo) := by
  unfold State.perfLo
  simp only [h]

/-- A counter whose next is chained to it is even, so its next is a counter too (R469). -/
theorem State.perfChained_next {s : State} {n : Nat} (hn : n < 128) (h : s.perfChained n = true) : n + 1 < 128 := by
  unfold State.perfChained at h
  simp only [Bool.and_eq_true, beq_iff_eq] at h
  omega

/-- Only the pair of the reading master and the chained counter is new. -/
theorem State.perfPair_latched_other {s : State} {m n k i : Nat} (h : s.perfChained n = true → perfKey k i ≠ perfKey m (n + 1)) :
    (s.latched m n).perfPair k i = s.perfPair k i := by
  unfold State.perfPair
  by_cases hc : s.perfChained n
  · simp [State.latched, hc, find?_tput_other _ _ (h hc)]
  · simp [State.latched, hc]

theorem State.perfPair_latched_next {s : State} {n : Nat} (m : Nat) (hc : s.perfChained n = true) :
    (s.latched m n).perfPair m (n + 1) = some (tget 0 s.perf.cnt (n + 1) % 2 ^ 32, tget 0 s.perf.cnt (n + 1) / 2 ^ 32) := by
  unfold State.perfPair
  simp [State.latched, hc, find?_tput_same]

/-- HI then answers what the read of LO latched. -/
theorem State.perfHi_latched {s : State} {m n : Nat} (hn : n < 128) (h : s.perfPair m n = none) :
    (s.latched m n).perfHi m n = tget 0 s.perf.cnt n / 2 ^ 32 := by
  have hp : (s.latched m n).perfPair m n = none :=
    (State.perfPair_latched_other fun hc => perfKey_ne_of_counter hn (State.perfChained_next hn hc) (by omega)).trans h
  unfold State.perfHi
  rw [hp]
  exact tget_tset_same 0 _ _ _

/-- The latches of another master stay. -/
theorem State.perfHi_latched_other {s : State} {m n k i : Nat} (h : k ≠ m) : (s.latched m n).perfHi k i = s.perfHi k i := by
  have hl : tget 0 (s.latched m n).perf.latch (perfKey k i) = tget 0 s.perf.latch (perfKey k i) :=
    tget_tset_other 0 0 _ _ (perfKey_ne_of_master i n h)
  unfold State.perfHi
  rw [State.perfPair_latched_other fun _ => perfKey_ne_of_master i (n + 1) h, hl]

/-- Once its pair is used up, HI of the odd counter answers the pair's upper half. -/
theorem State.perfHi_used (s : State) (m n hi : Nat) :
    (s.onPerf (fun x => { x with
      chained := tdel x.chained (perfKey m n), latch := tset 0 x.latch (perfKey m n) hi })).perfHi m n = hi := by
  simp [State.perfHi, State.perfPair, find?_tdel_same]

/-- Settles O44: the read of LO leaves the state latched, and what follows reads its latches alone. -/
theorem perfReadsLatchPerMaster : Obligations.PerfReadsLatchPerMaster := by
  intro m n s hn h
  refine ⟨(s.latched m n).withRdata (le32 (tget 0 s.perf.cnt n % 2 ^ 32)), ?_, rfl, rfl, rfl, fun u hl hc => ?_, fun hch u hl hc => ?_,
    fun k i hk _ => ⟨State.perfHi_latched_other hk, State.perfPair_latched_other fun _ => perfKey_ne_of_master i (n + 1) hk⟩⟩
  · exact (execPerfCntLoRead_counter m s hn).trans (by rw [State.perfLo_none h])
  · refine (execPerfCntHiRead_counter m u hn).trans ?_
    rw [State.perfHi_congr (s := s.latched m n) hl hc, State.perfHi_latched hn h]
  · have hn1 := State.perfChained_next hn hch
    have hp := (State.perfPair_congr (s := s.latched m n) hc m (n + 1)).trans (State.perfPair_latched_next m hch)
    refine ⟨_, (execPerfCntLoRead_counter m u hn1).trans (by rw [State.perfLo_some hp]), rfl, fun w hwl hwc => ?_⟩
    refine (execPerfCntHiRead_counter m w hn1).trans ?_
    rw [State.perfHi_congr hwl hwc]
    exact congrArg (fun x => Host.Outcome.next (w.withRdata (le32 x))) (u.perfHi_used m (n + 1) _)

end Sys2Proof.Machine
end

section
/-! PROOFS. The rows of the bus matrix and of the DRAM controller: what each comes to under its rule's premises (R324, R325, R329 to R331, R333 to R336,
R344, R348, R349, R351, R354, R356, R357, R360 to R363, R368). -/

namespace Sys2Proof.Machine

/-! ### Requests (R324, R325, R331) -/

/-- An unmasked master with nothing stalled and room issues its request. -/
theorem execXbarRequest_issued {r : XReq} {s : State} (hp : s.sys.phase = .running) (hm : s.masked r.master = false)
    (hst : ∀ e ∈ s.xbar.reqs, e.req.master = r.master → e.st ≠ .stalled) (hr : s.room r.master (accWrites r.acc) = true) :
    execXbarRequest r s = .next ((s.withRstat 0).issueReq r) := by
  unfold execXbarRequest
  rw [if_neg (by simp [hp, hm])]
  exact if_neg (by simpa [hr] using hst)

/-- Behind one of its own that stalls, or without room, the request stalls. -/
theorem execXbarRequest_stalls {r : XReq} {s : State} (hp : s.sys.phase = .running) (hm : s.masked r.master = false)
    (h : (∃ e ∈ s.xbar.reqs, e.req.master = r.master ∧ e.st = .stalled) ∨ s.room r.master (accWrites r.acc) = false) :
    execXbarRequest r s =
      .next ((s.withRstat 0).onXbar (fun x => { x with reqs := x.reqs ++ [⟨r, 0, .stalled, false, false⟩] })) := by
  unfold execXbarRequest
  rw [if_neg (by simp [hp, hm])]
  exact if_pos (by simpa using h)

/-! ### Grants (R333, R334) -/

theorem execXbarGrant_serves {t m : Nat} {s : State} (h : s.chosen t = some m) : execXbarGrant t false s =
    .next ((s.grantTo t m).onXbar (fun x => { x with
      reqs := changeFirst (fun e => e.target == t && e.st == .visible && e.req.master == m) (fun e => some { e with st := .granted })
        x.reqs })) := by
  unfold execXbarGrant
  rw [h]
  rfl

/-- A request withdrawn in the cycle of its grant makes the grant void. -/
theorem execXbarGrant_void {t m : Nat} {s u : State} (h : s.chosen t = some m)
    (hu : u = s.onXbar (fun x => { x with
      ptr := tset 0 x.ptr t ((m + 1) % 16)
      reqs := changeFirst (fun e => e.target == t && e.st == .visible && e.req.master == m) (fun _ => none) x.reqs })) :
    execXbarGrant t true s = .next ((u.bump (Reg.XBAR_CNT 0)).perfAdd 56) := by
  subst hu
  unfold execXbarGrant
  rw [h]
  rfl

/-! ### Completions and timeouts (R329 to R331, R344) -/

theorem execXbarComplete_read {m g n : Nat} (held : Nat) {e : Ecc} {s u : State} {x : XEntry} (hx : s.grantedReq m g = some x)
    (ha : x.req.acc = .read n) (hd : x.discard = false)
    (hu : u = (((s.dropGranted m g).retrySucceeded x).carryOut m x.target x.req.addr (.read n) e).readOutcome m x.target x.req.addr n e) :
    execXbarComplete m g e held s = .next (((u.bump (Reg.XBAR_CNT 6) held).perfAdd 57 held).afterLeave m) := by
  subst hu
  unfold execXbarComplete
  simp [hx, ha, hd]

/-- A write whose target cannot report a lasting error of its own is done once it is carried out. -/
theorem execXbarComplete_write {m g : Nat} (held : Nat) {e : Ecc} {s u : State} {x : XEntry} {d : Bytes} (hx : s.grantedReq m g = some x)
    (ha : x.req.acc = .write d) (he : x.target < 8 ∨ e ≠ .lasting)
    (hu : u = ((s.dropGranted m g).retrySucceeded x).carryOut m x.target x.req.addr (.write d) e) :
    execXbarComplete m g e held s = .next (((u.bump (Reg.XBAR_CNT 6) held).perfAdd 57 held).afterLeave m) := by
  subst hu
  have hno : ¬ (8 ≤ x.target ∧ e = Ecc.lasting) := fun ⟨h8, hl⟩ => he.elim h8.not_gt (· hl)
  unfold execXbarComplete
  simp only [hx, ha]
  rw [if_neg fun ⟨h8, hl, _⟩ => hno ⟨h8, hl⟩]

theorem execXbarTimeout_retries {m g : Nat} {s : State} {x : XEntry} (hx : s.grantedReq m g = some x) (hen : s.bit Reg.XBAR_CTRL 1 = true)
    (hr : x.retried = false) : execXbarTimeout m g s = .next (s.onXbar (fun y => { y with
      reqs := changeFirst (fun e => e.req.master == m && e.req.tag == g && e.st == .granted) (fun e => some { e with retried := true })
        y.reqs })) := by
  unfold execXbarTimeout
  simp [hx, hen, hr]

/-- The timeout of a retry is lasting. -/
theorem execXbarTimeout_fails {m g : Nat} {s : State} {x : XEntry} (hx : s.grantedReq m g = some x) (hen : s.bit Reg.XBAR_CTRL 1 = true)
    (hr : x.retried = true) : execXbarTimeout m g s = .next (((s.dropGranted m g).timeoutFail x).afterLeave m) := by
  unfold execXbarTimeout
  simp [hx, hen, hr]

theorem execParkDefault_idle {t : Nat} {s : State} (ht : t < 12) (hv : s.visibleAt t = []) :
    execParkDefault t s = .next (s.onXbar (fun x => { x with park := tset 0 x.park t (s.fld (Reg.XBAR_DEFAULT t) 3 0) })) :=
  if_neg (by simp [ht, hv])

/-- Settles O35: one lemma for each row, and two where it can go two ways. -/
theorem fabricRows : Obligations.FabricRows :=
  ⟨fun _ _ hp hm hst hr => execXbarRequest_issued hp hm hst hr,
   fun _ _ hp hm h => execXbarRequest_stalls hp hm h,
   fun _ _ _ h => execXbarGrant_serves h,
   fun _ _ _ _ h hu => execXbarGrant_void h hu,
   fun _ _ held _ _ _ _ _ hx ha hd hu => execXbarComplete_read held hx ha hd hu,
   fun _ _ held _ _ _ _ _ hx ha he hu => execXbarComplete_write held hx ha he hu,
   fun _ _ _ _ hx hen hr => execXbarTimeout_retries hx hen hr,
   fun _ _ _ _ hx hen hr => execXbarTimeout_fails hx hen hr,
   fun _ _ ht hv => execParkDefault_idle ht hv⟩

/-! ### DRAM: refresh and temperature (R356) -/

/-- A bank is refreshed while the DDR domain is on, out of self-refresh, and its PLL locked. -/
theorem execRefresh_on {c b : Nat} {s : State} (hp : bitOf s.sys.pwr 7 = true) (hr : s.ddrc.selfRefresh = false) (hl : s.time.ddrLock = true)
    (hc : c < 4) (hb : b < 8) : execRefresh c b s =
      .next ((s.onDdrc (fun x => { x with openRow := tset 0 x.openRow (bankKey c b) 0 })).perfAdd 53) :=
  if_pos (by simp [hp, hr, hl, hc, hb])

theorem State.each_congr {α : Type} {l : List α} {f g : State → α → State} (s : State) (h : ∀ t, ∀ a ∈ l, f t a = g t a) :
    s.each l f = s.each l g := by
  unfold State.each
  induction l generalizing s with
  | nil => rfl
  | cons a l ih =>
    simp only [List.foldl_cons]
    rw [h s a List.mem_cons_self]
    exact ih _ fun t b hb => h t b (List.mem_cons_of_mem a hb)

/-- A poll without a 0b111 takes the code of each channel. -/
theorem execMr4Poll_read {codes : List Nat} (again : List Nat) {s : State} (hp : bitOf s.sys.pwr 7 = true) (hr : s.ddrc.selfRefresh = false)
    (h7 : ∀ k ∈ codes, k % 8 ≠ 7) : execMr4Poll codes again s =
      .next (s.each ((List.range 4).zip codes) (fun t e => t.mr4Code e.1 (e.2 % 8))) := by
  refine (if_pos (by simp [hp, hr])).trans (congrArg Host.Outcome.next (s.each_congr fun t e he => ?_))
  exact if_neg (h7 e.2 (List.of_mem_zip he).2)

/-! ### DRAM: scrub, delays and sweeps (R351, R360 to R363) -/

theorem execScrub_serving {e : Ecc} {s t : State} {a : Nat} (hen : s.bit Reg.DDRC_CTRL 2 = true) (hsv : s.dramServing = true)
    (ha : a = 0x100000000 + 64 * s.ddrc.scrub) (ht : t = ((s.dramRowsFor ⟨4, a, .read 64, 0, 0, false, e⟩).perfAdd 36).eccOutcome 4 a e) :
    execScrub e s = .next
      (if s.dramUnits * 32768 ≤ s.ddrc.scrub + 1 then (t.onDdrc (fun x => { x with scrub := 0 })).bump (Reg.DDRC_CNT 6)
       else t.onDdrc (fun x => { x with scrub := s.ddrc.scrub + 1 })) := by
  subst ha ht
  exact (if_pos (by simp [hen, hsv])).trans (apply_ite Host.Outcome.next _ _ _).symm

theorem execDlyApply_pending {c : Nat} {s t : State} {l : Tbl Nat} (hl : l = s.ddrc.shadow.filter (fun e => e.1 / 16 == c)) (hne : l ≠ [])
    (ht : t = s.each l (fun u e => u.setFld (Reg.DDRC_DLY c (e.1 % 16)) 7 0 e.2)) :
    execDlyApply c s = .next ((t.onDdrc (fun x => { x with
      shadow := x.shadow.filter (fun e => e.1 / 16 != c), openRow := x.openRow.filter (fun e => e.1 / 8 != c) })).bump
        (Reg.DDRC_CNT 4)) := by
  subst hl ht
  exact if_neg (by simpa using hne)

/-- The first failing lane is swept once more. -/
theorem execSweepDone_again (ws : List Nat) (lane : Nat) {s : State} {w : Sweep} (hw : s.ddrc.sweep = some w) (hr : w.retried = false) :
    execSweepDone ws (some lane) s = .next (s.onDdrc (fun x => { x with sweep := some { w with retried := true } })) := by
  unfold execSweepDone
  simp [hw, hr]

theorem execSweepDone_ends (ws : List Nat) {lane : Option Nat} {s : State} {w : Sweep} (hw : s.ddrc.sweep = some w)
    (h : lane = none ∨ w.retried = true) : execSweepDone ws lane s = .next ((s.sweepEnd w ws lane).dramServeAll) := by
  have hno : ¬ (lane.isSome && !w.retried) = true := by
    obtain h | h := h
    · simp [h]
    · simp [h]
  unfold execSweepDone
  simp only [hw]
  exact if_neg hno

/-- Settles O36: one lemma for each row that has a premise, and two for a sweep's end. -/
theorem dramRows : Obligations.DramRows :=
  ⟨fun _ _ _ ht => ht ▸ rfl,
   fun _ _ _ hp hr hl hc hb => execRefresh_on hp hr hl hc hb,
   fun _ again _ hp hr h7 => execMr4Poll_read again hp hr h7,
   fun _ => rfl,
   fun _ _ _ _ hen hsv ha ht => execScrub_serving hen hsv ha ht,
   fun _ _ _ _ hl hne ht => execDlyApply_pending hl hne ht,
   fun ws lane _ _ hw hr => execSweepDone_again ws lane hw hr,
   fun ws _ _ _ hw h => execSweepDone_ends ws hw h⟩

end Sys2Proof.Machine
end

section
/-! PROOFS. The mailbox: what a slot's bytes read as, how a posted slot is judged, what an answer holds and what it leaves alone, and the host's writes
into command slots (R387, R389 to R391, R393, R394, R400, R473, R474). -/

namespace Sys2Proof.Machine

/-! ### Fields of byte strings (R14) -/

theorem u8At_append (a b : Bytes) (i : Nat) : u8At (a ++ b) (a.length + i) = u8At b i := by
  unfold u8At
  rw [List.getD_append_right _ _ _ _ (by omega), Nat.add_sub_cancel_left]

theorem u16At_append (a b : Bytes) (i : Nat) : u16At (a ++ b) (a.length + i) = u16At b i := by
  unfold u16At
  rw [Nat.add_assoc, u8At_append, u8At_append]

theorem u32At_append (a b : Bytes) (i : Nat) : u32At (a ++ b) (a.length + i) = u32At b i := by
  unfold u32At
  rw [Nat.add_assoc, u16At_append, u16At_append]

theorem u16At_le16 (v : Nat) (b : Bytes) : u16At (le16 v ++ b) 0 = v % 2 ^ 16 := by
  simp [u16At, u8At, le16, leBytes]
  omega

theorem u32At_le32 (v : Nat) (b : Bytes) : u32At (le32 v ++ b) 0 = v % 2 ^ 32 := by
  simp [u32At, u16At, u8At, le32, leBytes]
  omega

/-! ### The layout of a slot and its CRC (R387) -/

theorem crcBit_lt {c : Nat} (h : c < 2 ^ 32) : crcBit c < 2 ^ 32 := by
  have hc : c / 2 < 2 ^ 32 := by omega
  unfold crcBit
  split
  · exact Nat.xor_lt_two_pow hc (by decide)
  · exact hc

theorem crcByte_lt {c : Nat} (h : c < 2 ^ 32) (b : Byte) : crcByte c b < 2 ^ 32 := by
  have hx : c ^^^ b.toNat < 2 ^ 32 := Nat.xor_lt_two_pow h (b.isLt.trans (by decide))
  exact crcBit_lt (crcBit_lt (crcBit_lt (crcBit_lt (crcBit_lt (crcBit_lt (crcBit_lt (crcBit_lt hx)))))))

/-- A CRC fits its word. -/
theorem crc32_lt (p : Bytes) : crc32 p < 2 ^ 32 :=
  Nat.xor_lt_two_pow (List.foldlRecOn (motive := fun c => c < 2 ^ 32) p _ (by decide) fun _ h b _ => crcByte_lt h b) (by decide)

/-- The first 12 bytes of a slot: all of its header but the CRC. -/
def slotHead (op seq flags tag len : Nat) : Bytes := le16 op ++ (le16 seq ++ (le16 len ++ (le16 flags ++ le32 tag)))

@[simp] theorem slotHead_length (op seq flags tag len : Nat) : (slotHead op seq flags tag len).length = 12 := by
  simp [slotHead, le16, le32]

/-- A slot is its header, the CRC over the header with zeros in its place and the payload, and the payload. -/
theorem slotBytes_eq (op seq flags tag : Nat) (p : Bytes) : slotBytes op seq flags tag p =
    slotHead op seq flags tag p.length ++ (le32 (crc32 (slotHead op seq flags tag p.length ++ zeros 4 ++ p)) ++ p) := by
  simp [slotBytes, slotHead]

section
variable (op seq flags tag : Nat) (p : Bytes)

theorem u16At_slotBytes_op : u16At (slotBytes op seq flags tag p) 0 = op % 2 ^ 16 := by
  rw [slotBytes_eq, slotHead, List.append_assoc]
  exact u16At_le16 op _

theorem u16At_slotBytes_seq : u16At (slotBytes op seq flags tag p) 2 = seq % 2 ^ 16 := by
  rw [slotBytes_eq, slotHead]
  simp only [List.append_assoc]
  exact (u16At_append (le16 op) _ 0).trans (u16At_le16 seq _)

theorem u16At_slotBytes_len (h : p.length < 2 ^ 16) : u16At (slotBytes op seq flags tag p) 4 = p.length := by
  rw [slotBytes_eq, slotHead]
  simp only [List.append_assoc]
  exact (u16At_append (le16 op) _ 2).trans ((u16At_append (le16 seq) _ 0).trans ((u16At_le16 _ _).trans (Nat.mod_eq_of_lt h)))

theorem u16At_slotBytes_flags : u16At (slotBytes op seq flags tag p) 6 = flags % 2 ^ 16 := by
  rw [slotBytes_eq, slotHead]
  simp only [List.append_assoc]
  exact (u16At_append (le16 op) _ 4).trans ((u16At_append (le16 seq) _ 2).trans ((u16At_append (le16 p.length) _ 0).trans (u16At_le16 flags _)))

theorem u32At_slotBytes_tag : u32At (slotBytes op seq flags tag p) 8 = tag % 2 ^ 32 := by
  rw [slotBytes_eq, slotHead]
  simp only [List.append_assoc]
  exact (u32At_append (le16 op) _ 6).trans ((u32At_append (le16 seq) _ 4).trans ((u32At_append (le16 p.length) _ 2).trans
    ((u32At_append (le16 flags) _ 0).trans (u32At_le32 tag _))))

theorem u32At_slotBytes_crc :
    u32At (slotBytes op seq flags tag p) 12 = crc32 (slotHead op seq flags tag p.length ++ zeros 4 ++ p) := by
  have hc := u32At_append (slotHead op seq flags tag p.length) (le32 (crc32 (slotHead op seq flags tag p.length ++ zeros 4 ++ p)) ++ p) 0
  rw [slotHead_length] at hc
  rw [slotBytes_eq]
  exact (hc.trans (u32At_le32 _ _)).trans (Nat.mod_eq_of_lt (crc32_lt _))

theorem slotBytes_take : (slotBytes op seq flags tag p).take 12 = slotHead op seq flags tag p.length := by
  rw [slotBytes_eq, List.take_left' (slotHead_length op seq flags tag p.length)]

theorem slotBytes_drop : (slotBytes op seq flags tag p).drop 16 = p := by
  rw [slotBytes_eq, ← List.append_assoc]
  exact List.drop_left' (by simp [le32])

/-- The CRC of a slot that was written agrees with its contents. -/
theorem crcOk_slotBytes (h : p.length < 2 ^ 16) : crcOk (slotBytes op seq flags tag p) = true := by
  unfold crcOk slice
  rw [u32At_slotBytes_crc, u16At_slotBytes_len op seq flags tag p h, List.drop_zero, slotBytes_take, slotBytes_drop, List.take_length, beq_iff_eq]

end

/-! ### Answers (R387, R389, R390, R400) -/

/-- Setting bit n of MBX_DONE sets no other of its eight bits. -/
theorem bitOf_doneSet {v n k : Nat} (hk : k < 8) : bitOf (withBits v n n 1 % 2 ^ 32) k = (k == n || bitOf v k) := by
  have hmod : bitOf (withBits v n n 1 % 2 ^ 32) k = bitOf (srBit v n true) k := by
    unfold bitOf
    rw [Nat.testBit_mod_two_pow, decide_eq_true (by omega : k < 32), Bool.true_and]
    rfl
  rw [hmod, bitOf_srBit]
  by_cases h : k = n
  · simp [h]
  · simp [h]

/-- What a recorded response changes, of what is read by address. -/
theorem State.respond_answered (s : State) (h : Hdr) (op : Nat) (p : Bytes) (r : Resp) :
    s.Answered answerRegs h.slot (16 + r.payload.length) (s.respond h op p r) := by
  unfold State.respond
  rw [← slotBytes_length op h.seq r.status h.tag r.payload]
  exact s.putResponse_answered h op r.status _ _

/-- The slot, the DONE bit and the bytes of a recorded response. -/
theorem State.respond_done (s : State) {h : Hdr} (op : Nat) (p : Bytes) {r : Resp} (hs : h.slot < 8) (hp : r.payload.length ≤ 240) :
    (s.respond h op p r).slot h.slot = ⟨.done, false, if r.status = stBusy then (s.slot h.slot).last
      else some ⟨h.seq, s.recCrc h op p, slotBytes op h.seq r.status h.tag r.payload⟩⟩ ∧
    (s.respond h op p r).rd Reg.MBX_DONE = withBits (s.rd Reg.MBX_DONE) h.slot h.slot 1 % 2 ^ 32 ∧
    mread (s.respond h op p r).mem (rspSlotAddr h.slot) (16 + r.payload.length) = slotBytes op h.seq r.status h.tag r.payload := by
  have hlen := slotBytes_length op h.seq r.status h.tag r.payload
  unfold State.respond
  rw [← hlen]
  exact s.putResponse_done h op r.status _ _ hs (by omega)

/-- Settles O49: the bytes of a slot by their layout, and the rest by what follows every response. -/
theorem mailboxAnswers : Obligations.MailboxAnswers := by
  intro h op p r s t b hslot hlen ht hb
  have hp : r.payload.length < 2 ^ 16 := by omega
  obtain ⟨hdone, hreg, hmem⟩ := s.respond_done op p hslot hlen
  obtain ⟨-, -, hother, -⟩ := s.respond_answered h op p r
  obtain rfl : b = slotBytes op h.seq r.status h.tag r.payload := by rw [hb, ht, hmem]
  subst ht
  refine ⟨congrArg Slot.st hdone, congrArg Slot.locked hdone, fun k hk => ?_, u16At_slotBytes_op .., u16At_slotBytes_seq ..,
    u16At_slotBytes_len _ _ _ _ _ hp, u16At_slotBytes_flags .., u32At_slotBytes_tag .., slotBytes_drop .., crcOk_slotBytes _ _ _ _ _ hp,
    congrArg Slot.last hdone, hother⟩
  unfold State.bit
  rw [hreg, bitOf_doneSet hk]

/-- Under SPI a response reaches no host memory. -/
theorem State.putResponse_hostMem (s : State) (h : Hdr) (op status : Nat) (bytes : Bytes) (keep : Slot → Option SlotRec)
    (hi : s.sys.straps.hostIf = true) : (s.putResponse h op status bytes keep).hostMem = s.hostMem := by
  unfold State.putResponse
  dsimp only
  split
  · rw [State.postRaw_hostMem _ _ _ _ _ _ _ _ (by simpa using hi)]
    simp
  · simp

/-- Settles O53: the frames of taking and of responding, one behind the other. -/
theorem answerFrame : Obligations.AnswerFrame := by
  intro h op p r s t ht
  have ha : s.Answered answerRegs h.slot (16 + r.payload.length) t :=
    ht ▸ (s.taken_answered h op h.slot _).trans (State.respond_answered _ h op p r)
  obtain ⟨hregs, hmem, hslots, -, hmbx, hhost⟩ := ha
  have hsub : answerRegs ⊆
      [Reg.MBX_CNT 0, Reg.MBX_CNT 6, Reg.MBX_DONE, Reg.MBX_INT_STATUS, Reg.MBX_EVR_PROD, Reg.TRACE_INT_STATUS] := by
    simp [answerRegs, eventRegs]
  refine ⟨?_, ?_, ?_, ?_, ?_, fun a hn => hregs a fun hm => hn (hsub hm), hmem, ?_, hslots, ?_, fun hi => ?_⟩
  · simp [ht, State.engineState]
  · simp [ht]
  · simp [ht]
  · simp [ht]
  · simp [ht]
  · exact congrArg (fun m : Mbx => { m with
      slots := s.mbx.slots, lastEvents := s.mbx.lastEvents, lostBefore := s.mbx.lostBefore, evSeq := s.mbx.evSeq }) hmbx
  · exact congrArg (fun x : HostIf => { x with pba := s.host.pba, vectors := s.host.vectors }) hhost
  · rw [ht]
    exact (State.putResponse_hostMem _ _ _ _ _ _ (by simpa using hi)).trans (by simp)

/-! ### The slot at the head (R387, R389 to R391) -/

theorem execCommandHandle_posted {s : State} {n : Nat} {q : List Nat} (glitch : Bool) (hp : s.sys.phase = .running)
    (hf : s.sys.fwRunning = true) (hq : s.mbx.queue = n :: q) (hh : s.heldJob n = none) {t : State} (ht : s.handleSlot n glitch = t) :
    execCommandHandle glitch s = .next t :=
  (execCommandHandle_running glitch hp hf).trans (congrArg Host.Outcome.next ((State.handleHead_posted glitch hq hh).trans ht))

/-- A length above 240 is answered before anything else is looked at. -/
theorem State.handleSlot_long {s : State} {n : Nat} {b : Bytes} (glitch : Bool) (hb : b = s.slotRaw8 n) (hlen : 240 < u16At b 4) :
    s.handleSlot n glitch = ((s.popQueue n).taken (hdrOf n b) (u16At b 0)).respondUnrecorded (hdrOf n b) (u16At b 0) ⟨stLen, []⟩ := by
  subst hb
  unfold State.handleSlot
  simp [hlen, hlen.not_ge]

/-- A CRC that fails twice is counted and answered. -/
theorem State.handleSlot_badCrc {s : State} {n : Nat} {b : Bytes} (glitch : Bool) (hb : b = s.slotRaw8 n) (hlen : u16At b 4 ≤ 240)
    (hcrc : crcOk b = false) : s.handleSlot n glitch = (((s.popQueue n).taken (hdrOf n b) (u16At b 0)).bump
      (Reg.MBX_CNT 1)).respondUnrecorded (hdrOf n b) (u16At b 0) ⟨stCrc, []⟩ := by
  subst hb
  unfold State.handleSlot
  simp [hcrc, hlen.not_gt]

/-- A slot that must wait stays where it is. -/
theorem State.handleSlot_waits {s : State} {n : Nat} {b p : Bytes} (glitch : Bool) (hb : b = s.slotRaw8 n) (hlen : u16At b 4 ≤ 240)
    (hcrc : crcOk b = true) (hpay : p = slice b 16 (u16At b 4)) (hw : s.mustWait (u16At b 0) p = true) : s.handleSlot n glitch = s := by
  subst hb hpay
  unfold State.handleSlot
  simp [hlen, hcrc, hw]

/-- Taking a slot leaves the record of its last command. -/
theorem State.popQueue_last (s : State) (n : Nat) : ((s.popQueue n).slot n).last = (s.slot n).last := by
  simp [State.popQueue, State.slot, State.setSlot]

theorem State.popQueue_queue {s : State} {n : Nat} {q : List Nat} (h : s.mbx.queue = n :: q) : (s.popQueue n).mbx.queue = q :=
  congrArg List.tail h

theorem State.slot_congr {s t : State} (h : t.mbx = s.mbx) (n : Nat) : t.slot n = s.slot n := by
  unfold State.slot
  rw [h]

/-- A sequence and CRC equal to those recorded are a duplicate's (R390, check 3). -/
theorem State.judgeSlot_duplicate {s : State} {h : Hdr} {op crc : Nat} (p : Bytes) {r : SlotRec} (hr : (s.slot h.slot).last = some r)
    (hseq : r.seq = h.seq) (hcrc : r.crc = crc) : s.judgeSlot h op crc p =
      (s.bump (Reg.MBX_CNT 3)).putResponse h op (u16At r.resp 6) r.resp (fun sl => sl.last) := by
  have hsome : (s.slot h.slot).last.filter (fun r => r.seq == h.seq && r.crc == crc) = some r := by simp [hr, hseq, hcrc]
  unfold State.judgeSlot
  rw [hsome]
  rfl

/-- A command that is no duplicate and has no opcode of the table is answered so (R390, check 4). -/
theorem State.judgeSlot_unknown {s : State} {h : Hdr} {op crc : Nat} (p : Bytes) (hc : commandOf op = none)
    (hr : ∀ r, (s.slot h.slot).last = some r → r.seq ≠ h.seq ∨ r.crc ≠ crc) :
    s.judgeSlot h op crc p = s.respond h op p ⟨stOpcode, []⟩ := by
  have hno : (s.slot h.slot).last.filter (fun r => r.seq == h.seq && r.crc == crc) = none := by
    rw [Option.filter_eq_none_iff]
    intro r hl
    obtain hn | hn := hr r hl
    · simp [hn]
    · simp [hn]
  unfold State.judgeSlot
  rw [hno, hc]

/-- Settles O51: one lemma for each judgement. That a head which must wait holds back the slots behind it, and waits before the duplicate check,
is the model's choice (notes/assumptions/14). -/
theorem postedSlotIsJudged : Obligations.PostedSlotIsJudged := by
  intro glitch s u v n q b p hp hf hq hh hb hpay hu hv
  have hlast : (v.slot n).last = (s.slot n).last := by
    have hm : v.mbx = (s.popQueue n).mbx := by
      rw [hv, hu]
      split
      · simp
      · simp
    rw [State.slot_congr hm]
    exact s.popQueue_last n
  refine ⟨fun hlen => ?_, fun hlen hcrc => ?_, fun hlen hcrc hw => ?_, fun r hlen hcrc hw hr hseq hrc => ?_, fun hlen hcrc hw hc hr => ?_, ?_⟩
  · exact execCommandHandle_posted glitch hp hf hq hh (hu ▸ State.handleSlot_long glitch hb hlen)
  · exact execCommandHandle_posted glitch hp hf hq hh (hu ▸ State.handleSlot_badCrc glitch hb hlen hcrc)
  · exact execCommandHandle_posted glitch hp hf hq hh (State.handleSlot_waits glitch hb hlen hcrc hpay hw)
  · refine execCommandHandle_posted glitch hp hf hq hh ((State.handleSlot_judged glitch hb hlen hcrc hpay hw hu).trans ?_)
    rw [← hv]
    exact State.judgeSlot_duplicate (h := hdrOf n b) p (hlast.trans hr) hseq hrc
  · refine execCommandHandle_posted glitch hp hf hq hh ((State.handleSlot_judged glitch hb hlen hcrc hpay hw hu).trans ?_)
    rw [← hv]
    exact State.judgeSlot_unknown (h := hdrOf n b) p hc fun r hl => hr r (hlast.symm.trans hl)
  · rw [hu]
    exact (congrArg Mbx.queue (by simp)).trans (State.popQueue_queue hq)

/-! ### The host's writes into command slots (R387, R389) -/

/-- A step that only one element of a list moves, applied to all of them. -/
theorem State.each_eq_of_ne {α : Type} {f : State → α → State} {l : List α} {a : α} (hl : l.Nodup) (ha : a ∈ l)
    (h : ∀ t, ∀ b ∈ l, b ≠ a → f t b = t) (s : State) : s.each l f = f s a := by
  have hstay : ∀ (k : List α) (t : State), (∀ b ∈ k, b ∈ l ∧ b ≠ a) → t.each k f = t := by
    intro k
    induction k with
    | nil => exact fun _ _ => rfl
    | cons b k ih =>
      intro t hk
      obtain ⟨hb, hne⟩ := hk b List.mem_cons_self
      exact (congrArg (State.each · k f) (h t b hb hne)).trans (ih t fun c hc => hk c (List.mem_cons_of_mem b hc))
  obtain ⟨l1, l2, rfl⟩ := List.append_of_mem ha
  obtain ⟨-, h2, hdis⟩ := List.nodup_append.1 hl
  obtain ⟨hnot, -⟩ := List.nodup_cons.1 h2
  calc s.each (l1 ++ a :: l2) f
    _ = (s.each l1 f).each (a :: l2) f := List.foldl_append ..
    _ = s.each (a :: l2) f := by
        rw [hstay l1 s fun b hb => ⟨List.mem_append_left _ hb, fun e => hdis b hb a List.mem_cons_self e⟩]
    _ = (f s a).each l2 f := rfl
    _ = f s a := hstay l2 _ fun b hb => ⟨List.mem_append_right _ (List.mem_cons_of_mem a hb), fun e => hnot (e ▸ hb)⟩

/-- A write within one slot leaves the bytes of every other slot. -/
theorem State.slotWriteOne_other {n k off : Nat} {d : Bytes} (t : State) (hlo : 0x100 * n ≤ off) (hhi : off + d.length ≤ 0x100 * n + 0x100)
    (hk : k ≠ n) : t.slotWriteOne off d k = t :=
  if_pos (by omega)

/-- A write that lies within slot n reaches slot n alone. -/
theorem execCommandSlotWrite_within {n off : Nat} {d : Bytes} {s t : State} (hp : s.sys.phase = .running) (hn : n < 8)
    (hlo : 0x100 * n ≤ off) (hhi : off + d.length ≤ 0x100 * n + 0x100) (ht : s.slotWriteOne off d n = t) :
    execCommandSlotWrite off d s = .next t := by
  refine congrArg Host.Outcome.next ((State.mbxAccess_running _ hp).trans (.trans ?_ ht))
  exact State.each_eq_of_ne (f := fun t n => t.slotWriteOne off d n) List.nodup_range (List.mem_range.2 hn)
    (fun u k _ hk => State.slotWriteOne_other u hlo hhi hk) s

section
variable {n off : Nat} {d : Bytes} {s : State}

/-- A slot that is not locked takes the bytes. -/
theorem State.slotWriteOne_open (hlo : 0x100 * n ≤ off) (hhi : off + d.length ≤ 0x100 * n + 0x100) (hd : d ≠ [])
    (hl : (s.slot n).locked = false) : s.slotWriteOne off d n = s.withMem (mwrite s.mem (0x20030000 + off) d) := by
  unfold State.slotWriteOne slice
  simp [hl, max_eq_left hlo, min_eq_left hhi, hd]

/-- A locked slot counts the write and ignores it. -/
theorem State.slotWriteOne_locked (hlo : 0x100 * n ≤ off) (hhi : off + d.length ≤ 0x100 * n + 0x100) (hd : d ≠ [])
    (hl : (s.slot n).locked = true) : s.slotWriteOne off d n = s.bump (Reg.MBX_CNT 4) := by
  unfold State.slotWriteOne
  simp [hl, max_eq_left hlo, min_eq_left hhi, hd]

end

theorem State.bump_withRegs (s : State) (a : Nat) : (s.bump a).withRegs s.regs = s := by
  unfold State.bump State.wr
  rfl

/-- Settles O52: the write reaches its slot alone, which takes or counts it. -/
theorem slotWriteReads : Obligations.SlotWriteReads := by
  intro n off d s hp hn hlo hhi hd
  refine ⟨fun hl => ⟨_, execCommandSlotWrite_within hp hn hlo hhi (State.slotWriteOne_open hlo hhi hd hl), ?_, fun a ha => ?_, rfl⟩,
    fun hl => ⟨_, execCommandSlotWrite_within hp hn hlo hhi (State.slotWriteOne_locked hlo hhi hd hl), ?_, fun a ha => ?_, s.bump_withRegs _⟩⟩
  · exact mread_mwrite_same s.mem _ d
  · exact mget_mwrite_other s.mem d ha
  · simp [State.rd_bump]
  · simp [State.rd_bump, ha]

end Sys2Proof.Machine
end

section
/-! PROOFS. The commands of the system: information, boot and firmware update, modes, rate, reset and debug, the host region, the claims and DRAM, each
by what its body comes to once its checks pass (R361, R363, R365, R368, R376 to R378, R380, R383, R390, R396, R397, R401, R403 to R407). -/

namespace Sys2Proof.Machine

/-! ### What the bodies read is as it was before the command was taken -/

@[simp] theorem State.taken_sysInfo (s : State) (h : Hdr) (op : Nat) : (s.taken h op).sysInfo = s.sysInfo := by
  simp [State.sysInfo]

@[simp] theorem State.taken_fwStatus (s : State) (h : Hdr) (op : Nat) : (s.taken h op).fwStatus = s.fwStatus := by
  simp [State.fwStatus, State.activeSlot, State.trialFlag, State.bootRec, State.bootRecAt]

@[simp] theorem State.taken_stagingNow (s : State) (h : Hdr) (op : Nat) : (s.taken h op).stagingNow = s.stagingNow := by
  simp [State.stagingNow]

@[simp] theorem State.taken_stageRange (s : State) (h : Hdr) (op off total : Nat) (b : Buf) :
    (s.taken h op).stageRange off total b = s.stageRange off total b := by
  simp [State.stageRange]

@[simp] theorem State.taken_highBus (s : State) (h : Hdr) (op : Nat) : (s.taken h op).highBus = s.highBus := by
  simp [State.highBus]

@[simp] theorem State.taken_highGrant (s : State) (h : Hdr) (op : Nat) : (s.taken h op).highGrant = s.highGrant := by
  have hl : (s.taken h op).lens = s.lens := by simp
  unfold State.highGrant State.grantSum
  rw [hl]

@[simp] theorem State.taken_debugRefused (s : State) (h : Hdr) (op : Nat) : (s.taken h op).debugRefused = s.debugRefused := by
  simp [State.debugRefused]

@[simp] theorem State.taken_unlockOk (s : State) (h : Hdr) (op : Nat) (p : Bytes) : (s.taken h op).unlockOk p = s.unlockOk p := by
  simp [State.unlockOk, State.keyOk]

@[simp] theorem State.taken_owner (s : State) (h : Hdr) (op r : Nat) : (s.taken h op).owner r = s.owner r := by
  simp [State.owner]

@[simp] theorem State.taken_claimsFrom (s : State) (h : Hdr) (op first : Nat) : (s.taken h op).claimsFrom first = s.claimsFrom first := by
  simp [State.claimsFrom]

@[simp] theorem State.taken_persistentUnits (s : State) (h : Hdr) (op : Nat) : (s.taken h op).persistentUnits = s.persistentUnits := by
  simp [State.persistentUnits]

@[simp] theorem State.taken_keepRoom (s : State) (h : Hdr) (op mask : Nat) : (s.taken h op).keepRoom mask = s.keepRoom mask := by
  simp [State.keepRoom, State.segUnits, State.dramUnits]

/-- A served command that is accepted, in one step. -/
theorem CmdDef.exec_accepted (c : CmdDef) (h : Hdr) (p : Bytes) {s t : State} (hs : s.Serves c.legal) (hl : c.len p = true)
    (hb : c.bulk p = false ∨ s.BulkRoom) (hc : c.body h p (s.taken h c.op) = (t, Resp.accepted)) :
    c.exec h p s = .next (t.respond h c.op p Resp.accepted) :=
  c.exec_served h p hs hl hb hc (by decide : stAccepted ≠ stPending)

/-! ### Firmware update and boot (R376 to R378) -/

/-- A chunk within range, for an image that can be stored, at the offset that is due, is taken. -/
theorem cmdFwStage_takes (h : Hdr) {p : Bytes} {s : State} (hr : s.stageRange (u32At p 0) (u32At p 4) (bufAt p 8) = none)
    (hf : s.sys.bootSlot ≠ 2 ∨ s.sec.flashFitted = true) (ho : u32At p 0 = 0 ∨ s.stagingNow.map (·.got) = some (u32At p 0)) :
    cmdFwStage.body h p s =
      (s.stageChunk h (u32At p 0) (u32At p 4) (s.bufRead (bufAt p 8) (bufAt p 8).len), Resp.accepted) := by
  have hflash : (s.sys.bootSlot == 2 && !s.sec.flashFitted) = false := by
    obtain hf | hf := hf
    · simp [hf]
    · simp [hf]
  have hdue : (u32At p 0 != 0 && some (u32At p 0) != s.stagingNow.map (·.got)) = false := by
    obtain ho | ho := ho
    · simp [ho]
    · simp [ho]
  simp only [cmdFwStage, mkBulk, hr]
  exact checked_ok (by simp [hflash, hdue])

/-- A staging that passed its checks is committed. -/
theorem cmdFwCommit_valid (h : Hdr) (p : Bytes) {s : State} {g : Staging} (hg : s.sec.staging = some g) (h2 : g.state = 2) :
    cmdFwCommit.body h p s = ((s.writeBootRec g.slot true).onSec (fun x => { x with raiseFloor := bitOf (u8At p 0) 0 }), Resp.ok) := by
  simp [cmdFwCommit, mkCmd, hg, h2]

/-- BOOT_GO while the boot ROM waits for it, with an image in TCM that passes its checks. -/
theorem execBootGo_valid (h : Hdr) {s : State} (hp : s.sys.phase = .running) (hw : s.sys.hostBootWait = true)
    (he : s.imageError (mread s.mem tcmBase 256) (mread s.mem (tcmBase + 256)) = 0) : execBootGo h [] s =
      .next ((s.enterImage 2 false (mread s.mem tcmBase 256) (mread s.mem (tcmBase + 256) (u32At (mread s.mem tcmBase 256) 12))).respondUnrecorded
        { h with notify := false } 0x0001 Resp.ok) :=
  (if_pos ⟨hp, hw, rfl⟩).trans (congrArg Host.Outcome.next (if_pos he))

/-- Settles O1: SYS_INFO and FW_STATUS check nothing; the others by one lemma each. -/
theorem systemAndUpdateCommands : Obligations.SystemAndUpdateCommands := by
  refine ⟨fun h s hs => ?_, fun h s hs => ?_, fun h p s hs hp hr hrange hf ho => ?_, fun h p s g hs hp hg h2 => ?_,
    fun h s hp hw he => execBootGo_valid h hp hw he⟩
  · exact cmdSysInfo.exec_ok h [] _ hs rfl (.inl rfl) (by simp [cmdSysInfo, mkCmd])
  · exact cmdFwStatus.exec_ok h [] _ hs rfl (.inl rfl) (by simp [cmdFwStatus, mkCmd])
  · exact cmdFwStage.exec_accepted h p hs (lenIs_iff.2 hp) (.inr hr)
      (cmdFwStage_takes h (by simpa using hrange) (by simpa using hf) (by simpa using ho))
  · exact cmdFwCommit.exec_ok h p [] hs (lenIs_iff.2 hp) (.inl rfl) (cmdFwCommit_valid h p (by simpa using hg) h2)

/-! ### Modes, rate and reset (R403 to R407) -/

/-- MODE_SET to the mode in force answers at once. -/
theorem cmdModeSet_inForce (h : Hdr) {p : Bytes} {s : State} {m : Mode} (hm : modeOf (u8At p 0) = some m) (hr : s.sys.modeReq = none)
    (he : m = s.sys.mode) : cmdModeSet.body h p s = (s, Resp.ok) := by
  simp [cmdModeSet, mkCmd, hm, hr, he]

/-- A change that is permitted, and on leaving PARK not refused, starts. -/
theorem cmdModeSet_starts (h : Hdr) {p : Bytes} {s : State} {m : Mode} (hm : modeOf (u8At p 0) = some m) (hr : s.sys.modeReq = none)
    (hne : m ≠ s.sys.mode) (hpm : modePermitted s.sys.mode m = true) (hl : s.sys.mode = .park → firstBad s.leaveChecks = none) :
    cmdModeSet.body h p s = (s.startChange h m, Resp.accepted) := by
  have hc : firstBad (if s.sys.mode = .park then s.leaveChecks else []) = none := by
    split
    next hp => exact hl hp
    next => rfl
  simp [cmdModeSet, mkCmd, hm, hr, hne, hpm, checked, hc]

/-- MODE_SET names PARK, MEASURE or RENDER; from PARK each but PARK is permitted. -/
theorem modePermitted_park {c : Nat} {m : Mode} (hm : modeOf c = some m) (hp : m ≠ .park) : modePermitted .park m = true := by
  unfold modeOf at hm
  split at hm
  · exact absurd (Option.some.inj hm).symm hp
  · exact Option.some.inj hm ▸ rfl
  · exact Option.some.inj hm ▸ rfl
  · exact absurd hm (by simp)

theorem cmdRateSet_fits (h : Hdr) {p : Bytes} {s : State} (hv : u8At p 0 ≤ 1) (hup : u8At p 0 = 1 → s.highBus = false ∧ s.highGrant = false)
    (hc : (s.atRate (u8At p 0 == 1)).badCtx = false) (hg : (s.atRate (u8At p 0 == 1)).badGroup = false) :
    cmdRateSet.body h p s = (s.rateSet (u8At p 0 == 1), Resp.ok) := by
  refine checked_ok ?_
  simpa [hv, hc, hg] using hup

theorem cmdSysReset_due (h : Hdr) {p : Bytes} (s : State) (hv : u8At p 0 = 1) :
    cmdSysReset.body h p s = (s.onSys (fun x => { x with sysResetDue := some (s.time.eventTick + 24576) }), Resp.ok) :=
  checked_ok (by simp [hv])

/-! ### Debug (R380) -/

theorem cmdDebugChallenge_nonce (h : Hdr) (p : Bytes) {s : State} (hr : s.debugRefused = none) : cmdDebugChallenge.body h p s =
    (s.fresh.onSec (fun x => { x with nonce := some s.freshNonce }), Resp.ok (s.freshNonce ++ le64 s.sec.uniqueId)) := by
  simp only [cmdDebugChallenge, mkCmd, hr]

/-- A valid signature unlocks, and uses up the nonce. -/
theorem cmdDebugUnlock_valid (h : Hdr) {p : Bytes} {s : State} (hr : s.debugRefused = none) (hk : u8At p 0 ≤ 3) (ho : s.unlockOk p = true) :
    cmdDebugUnlock.body h p s =
      (((s.onSec (fun x => { x with nonce := none })).onSec (fun x => { x with unlocked := true })).noteDev s, Resp.ok) := by
  simp [cmdDebugUnlock, mkCmd, hr, hk.not_gt, ho]

/-- Settles O2: one lemma for each body, on the state in which the command has been taken. -/
theorem modeRateResetDebugCommands : Obligations.ModeRateResetDebugCommands := by
  refine ⟨fun h p s m hs hp hm hr he => ?_, fun h p s m hs hp hm hne hr hl => ?_, fun h p s hs hp hv hr => ?_,
    fun h p s hs hp hv hup hc hg => ?_, fun h p s hs hp hv => ?_, fun h s hs hr => ?_, fun h p s hs hp hr hk ho => ?_⟩
  · exact cmdModeSet.exec_ok h p [] hs (lenIs_iff.2 hp) (.inl rfl) (cmdModeSet_inForce h hm (by simpa using hr) (by simpa using he))
  · have hmode : (s.taken h 0x0003).sys.mode = .park := by simpa using hs.mode_eq
    exact cmdModeSet.exec_accepted h p (hs.mono (by decide)) (lenIs_iff.2 hp) (.inl rfl)
      (cmdModeSet_starts (s := s.taken h 0x0003) h hm (by simpa using hr) (by rwa [hmode]) (by rw [hmode]; exact modePermitted_park hm hne) fun _ => hl)
  · have hmode : (s.taken h 0x0003).sys.mode ≠ .park := by simpa using hs.mode_ne (by decide)
    have hpm : modePermitted (s.taken h 0x0003).sys.mode .park = true := by
      obtain ⟨-, -, hlive⟩ := hs
      simp only [List.mem_cons, List.not_mem_nil, or_false] at hlive
      obtain hlive | hlive := hlive
      · simp [hlive, modePermitted]
      · simp [hlive, modePermitted]
    exact cmdModeSet.exec_accepted h p (hs.mono (by decide)) (lenIs_iff.2 hp) (.inl rfl)
      (cmdModeSet_starts h (by rw [hv]; rfl) (by simpa using hr) hmode.symm hpm fun e => absurd e hmode)
  · exact cmdRateSet.exec_ok h p [] hs (lenIs_iff.2 hp) (.inl rfl) (cmdRateSet_fits h hv (by simpa using hup) hc hg)
  · have hb := cmdSysReset_due h (s.taken h 0x0005) hv
    simp only [State.taken_frame] at hb
    exact cmdSysReset.exec_ok h p [] hs (lenIs_iff.2 hp) (.inl rfl) hb
  · have hb := cmdDebugChallenge_nonce h [] (s := s.taken h 0x0018) (by simpa using hr)
    simp only [State.taken_frame] at hb
    exact cmdDebugChallenge.exec_ok h [] _ hs rfl (.inl rfl) hb
  · exact cmdDebugUnlock.exec_ok h p [] hs (lenIs_iff.2 hp) (.inl rfl) (cmdDebugUnlock_valid h (by simpa using hr) hk (by simpa using ho))

/-! ### The host region (R383) -/

/-- A size in range is judged while no transfer uses the region. -/
theorem cmdHostRegionSet_checks (h : Hdr) {p : Bytes} {s : State} (hn : u16At p 0 ≤ 128)
    (hb : s.mbx.bulk.any (fun j => j.buf.space == 2) = false) : cmdHostRegionSet.body h p s =
      if u16At p 0 = s.host.regionUnits then (s, Resp.ok (le16 (u16At p 0) ++ zeros 2))
      else match s.placeHost (u16At p 0) with
        | some t => (t, Resp.ok (le16 (u16At p 0) ++ zeros 2))
        | none => (s, Resp.resource 0xFFFF 0 0xFFFF) :=
  (checked_ok (by simp only [List.mem_cons, List.not_mem_nil, or_false, forall_eq_or_imp, forall_eq, hb]; simp [hn])).trans rfl

/-! ### DRAM (R361, R363, R365, R368) -/

/-- The rate in force, with no change deferred, is answered at once. -/
theorem cmdDdrSpeedSet_inForce (h : Hdr) {p : Bytes} {s : State} (hv : u8At p 0 ≤ 1) (hr : u8At p 0 = s.ddrc.rate) (hd : s.ddrc.deferred = none) :
    cmdDdrSpeedSet.body h p s = (s, Resp.ok) :=
  (checked_ok (by simp [hv])).trans (if_pos (by simp [hr, hd]))

/-- Any other change is accepted. -/
theorem cmdDdrSpeedSet_changes (h : Hdr) {p : Bytes} {s : State} (hv : u8At p 0 ≤ 1) (hr : u8At p 0 ≠ s.ddrc.rate ∨ s.ddrc.deferred ≠ none) :
    cmdDdrSpeedSet.body h p s = (s.speedSet h (u8At p 0), Resp.accepted) := by
  refine (checked_ok (by simp [hv])).trans (if_neg ?_)
  rintro ⟨he, hn⟩
  exact hr.elim (absurd he) (absurd (Option.isNone_iff_eq_none.1 hn))

theorem State.dropDeferred_none {s : State} (h : s.ddrc.deferred = none) : s.dropDeferred = s := by
  unfold State.dropDeferred
  simp only [h]

/-- With no sweep under way a change is made at once with its sweep. -/
theorem State.speedSet_sweeps {s : State} (h : Hdr) (r : Nat) (hd : s.ddrc.deferred = none) (hs : s.ddrc.sweep = none) :
    s.speedSet h r = ((s.newJob h 0x0030 1).onDdrc (fun x => { x with rate := r })).startSweep 1 [s.mbx.nextJob] := by
  unfold State.speedSet
  rw [State.dropDeferred_none hd, if_neg (by simp [hs])]

/-- While a sweep runs the change is deferred, in place of one deferred before. -/
theorem State.speedSet_defers {s : State} (h : Hdr) (r : Nat) (hs : s.ddrc.sweep ≠ none) :
    s.speedSet h r = (s.dropDeferred.newJob h 0x0030 1).onDdrc (fun x => { x with deferred := some (r, s.dropDeferred.mbx.nextJob) }) := by
  unfold State.speedSet
  exact if_pos (by simpa [Option.isSome_iff_ne_none] using hs)

theorem cmdDdrCal_starts (h : Hdr) (p : Bytes) {s : State} (hs : s.ddrc.sweep = none) (hd : s.ddrc.deferred = none) :
    cmdDdrCal.body h p s = ((s.newJob h 0x0031 1).startSweep 2 [s.mbx.nextJob], Resp.accepted) :=
  checked_ok (by simp [hs, hd])

theorem cmdDdrKeepSet_fits (h : Hdr) {p : Bytes} {s : State} (hv : u8At p 0 ≤ 127) (hk : s.persistentUnits ≤ s.keepRoom (u8At p 0)) :
    cmdDdrKeepSet.body h p s = (s.setFld Reg.DDRC_KEEP 6 0 (u8At p 0), Resp.ok) :=
  checked_ok (by simp [hv, hk])

theorem cmdDdrGuardSet_fits (h : Hdr) {p : Bytes} (s : State) (hv : 1024 ≤ u16At p 0) :
    cmdDdrGuardSet.body h p s = (s.wr Reg.DDRC_ROWGUARD (u16At p 0), Resp.ok) :=
  checked_ok (by simp [hv])

/-- Settles O3: one lemma for each body, on the state in which the command has been taken; CLAIM_LIST and DDR_STATUS_GET check nothing. -/
theorem hostRegionAndDramCommands : Obligations.HostRegionAndDramCommands := by
  refine ⟨fun h p s hs hp hn hb he => ?_, fun h p s t hs hp hn hb hne ht => ?_, fun h p s hs hp => ?_, fun h p s hs hp hv hr hd => ?_,
    fun h p s hs hp hv hr hd hsw => ?_, fun h p s hs hp hv hr hsw => ?_, fun h s hs hsw hd => ?_, fun h p s hs hp hv hk => ?_,
    fun h p s hs hp hv => ?_, fun h p s hs hp => ?_⟩
  · exact cmdHostRegionSet.exec_ok h p _ hs (lenIs_iff.2 hp) (.inl rfl)
      ((cmdHostRegionSet_checks h hn (by simpa using hb)).trans (if_pos (by simpa using he)))
  · have hc := cmdHostRegionSet_checks (s := s.taken h 0x0020) h hn (by simpa using hb)
    rw [if_neg (by simpa using hne), ht] at hc
    exact cmdHostRegionSet.exec_ok h p _ hs (lenIs_iff.2 hp) (.inl rfl) hc
  · refine cmdClaimList.exec_ok h p _ hs (lenIs_iff.2 hp) (.inl rfl) ?_
    simp [cmdClaimList, mkCmd]
  · exact cmdDdrSpeedSet.exec_ok h p [] hs (lenIs_iff.2 hp) (.inl rfl) (cmdDdrSpeedSet_inForce h hv (by simpa using hr) (by simpa using hd))
  · have hb := cmdDdrSpeedSet_changes h (s := s.taken h 0x0030) hv (.inl (by simpa using hr))
    rw [State.speedSet_sweeps h _ (by simpa using hd) (by simpa using hsw)] at hb
    simp only [State.taken_frame] at hb
    exact cmdDdrSpeedSet.exec_accepted h p hs (lenIs_iff.2 hp) (.inl rfl) hb
  · have hb := cmdDdrSpeedSet_changes h (s := s.taken h 0x0030) hv (by simpa using hr)
    rw [State.speedSet_defers h _ (by simpa using hsw)] at hb
    exact cmdDdrSpeedSet.exec_accepted h p hs (lenIs_iff.2 hp) (.inl rfl) hb
  · have hb := cmdDdrCal_starts h [] (s := s.taken h 0x0031) (by simpa using hsw) (by simpa using hd)
    simp only [State.taken_frame] at hb
    exact cmdDdrCal.exec_accepted h [] hs rfl (.inl rfl) hb
  · exact cmdDdrKeepSet.exec_ok h p [] hs (lenIs_iff.2 hp) (.inl rfl) (cmdDdrKeepSet_fits h hv (by simpa using hk))
  · exact cmdDdrGuardSet.exec_ok h p [] hs (lenIs_iff.2 hp) (.inl rfl) (cmdDdrGuardSet_fits h _ hv)
  · exact cmdDdrStatusGet.exec_ok h p _ hs (lenIs_iff.2 hp) (.inl rfl) rfl

end Sys2Proof.Machine
end

section
/-! PROOFS. The commands of the Mirror, of the scene hierarchy and of diagnostics: each body's checks pass, by one lemma per command
(R416 to R418, R420, R421, R430, R433, R438 to R440, R443, R467 to R469, R471, R474, R475, R479). -/

namespace Sys2Proof.Machine

@[simp] theorem State.taken_hierStatus (s : State) (h : Hdr) (op : Nat) : (s.taken h op).hierStatus = s.hierStatus := by
  simp [State.hierStatus, State.presentMask, State.lostMask]

@[simp] theorem State.taken_live (s : State) (h : Hdr) (op : Nat) : (s.taken h op).live = s.live := by
  simp [State.live]

/-! ### The Mirror and the hierarchy -/

theorem cmdMirrorCfg_fits (h : Hdr) {p : Bytes} (s : State) (he : u8At p 0 ≤ 1) (hm : 2 ≤ u8At p 1) (hm' : u8At p 1 ≤ 16) :
    cmdMirrorCfg.body h p s =
      (((s.setFld Reg.MIR_CTRL 0 0 (u8At p 0)).setFld Reg.MIR_CTRL 12 8 (u8At p 1)).onMir (fun x => { x with
        st := if u8At p 0 == 1 then .idle else .off, view := u8At p 0 == 1 && x.actIn, viewNext := none, hbOut := false }), Resp.ok) :=
  checked_ok (by simp [he, hm.not_gt, hm'])

/-- A quantum later than the next boundary, with the role as it must be: the handover is kept for it. -/
theorem cmdHandover_kept (h : Hdr) {p : Bytes} {s : State} (hq : s.laterThanNext (u32At p 0) = true) (hr : s.handoverRefused = false) :
    cmdHandover.body h p s =
      ((s.newJob h 0x8002 1 (le32 (s.quantumAt (u32At p 0)))).onMir (fun x => { x with
        handover := some ⟨s.quantumAt (u32At p 0), h, x.st, false⟩ }), Resp.accepted) :=
  checked_ok (by simp [hq, hr])

/-- The role, the ID and the interval are checked in this order. -/
theorem hierChecks_pass {p : Bytes} (hr : u8At p 0 ≤ 2) (hw : u8At p 0 = 2 → 1 ≤ u8At p 1 ∧ u8At p 1 ≤ 63)
    (hm : u8At p 0 = 1 → u8At p 1 = 0 ∧ 1 ≤ u8At p 2 ∧ u8At p 2 ≤ 16) : ∀ e ∈ hierChecks p, e.1 = false := by
  simp only [hierChecks, List.mem_cons, List.not_mem_nil, or_false, forall_eq_or_imp, forall_eq, Bool.or_eq_false_iff, decide_eq_false_iff_not]
  omega

/-- Settles O20: one lemma for each body that checks anything; the others answer what they read. -/
theorem mirrorAndHierarchyCommands : Obligations.MirrorAndHierarchyCommands := by
  refine ⟨?_, ?_, ?_, ?_, ?_, ?_⟩
  · rintro h p s _ rfl hs hp he hm hm'
    exact cmdMirrorCfg.exec_ok h p [] hs (lenIs_iff.2 hp) (.inl rfl) (cmdMirrorCfg_fits h _ he hm hm')
  · rintro h p s _ rfl hs hp hq hr
    have hb := cmdHandover_kept (s := s.taken h 0x8002) h (by simpa using hq) hr
    rw [s.taken_quantumAt] at hb
    exact cmdHandover.exec_accepted h p hs (lenIs_iff.2 hp) (.inl rfl) hb
  · rintro h s _ rfl hs
    exact cmdMirrorReady.exec_ok h [] [] hs rfl (.inl rfl) rfl
  · rintro h s _ rfl hs
    exact cmdMirrorStatusGet.exec_ok h [] _ hs rfl (.inl rfl) rfl
  · rintro h p s _ rfl hs hp hr hw hm
    exact cmdHierCfg.exec_ok h p [] hs (lenIs_iff.2 hp) (.inl rfl) (checked_ok (hierChecks_pass hr hw hm))
  · rintro h s _ rfl hs
    exact cmdHierStatusGet.exec_ok h [] _ hs rfl (.inl rfl) (by simp [cmdHierStatusGet, mkCmd])

/-! ### Counters -/

theorem cmdCounterRead_fits (h : Hdr) {p : Bytes} (s : State) (hb : u8At p 0 ≤ 21) (ho : u16At p 2 % 4 = 0) (hn : 1 ≤ u16At p 4)
    (hn' : u16At p 4 ≤ 58) (he : u16At p 2 + 4 * u16At p 4 ≤ 0x10000) : cmdCounterRead.body h p s =
      (s, Resp.ok ((List.range (u16At p 4)).flatMap (fun i => le32 (s.blockWord (u8At p 0) (u16At p 2 + 4 * i))))) := by
  refine checked_ok ?_
  simp only [List.mem_cons, List.not_mem_nil, or_false, forall_eq_or_imp, forall_eq, decide_eq_false_iff_not]
  omega

theorem perfEntryBad_none {i : Nat} {e : Bytes} (h1 : u8At e 0 ≤ 127) (h2 : u8At e 0 % 2 = 0 → bitOf (u8At e 1) 1 = false) :
    perfEntryBad i e = none := by
  unfold perfEntryBad
  rw [if_neg h1.not_gt, if_neg]
  rintro ⟨heven, hc⟩
  simp [h2 heven] at hc

theorem cmdPerfRead_fits (h : Hdr) {p : Bytes} (s : State) (hf : u8At p 0 ≤ 127) (hn : 1 ≤ u8At p 1) (hn' : u8At p 1 ≤ 30)
    (he : u8At p 0 + u8At p 1 ≤ 128) : cmdPerfRead.body h p s =
      (s, Resp.ok ((List.range (u8At p 1)).flatMap (fun i => le64 (tget 0 s.perf.cnt (u8At p 0 + i))))) := by
  refine checked_ok ?_
  simp only [List.mem_cons, List.not_mem_nil, or_false, forall_eq_or_imp, forall_eq, decide_eq_false_iff_not]
  omega

/-! ### The trace -/

/-- The trace's fields are in range: out of a live mode it is set up at once, in one its buffer is placed. -/
theorem cmdTraceCfg_checks (h : Hdr) {p : Bytes} (s : State) (hm : u32At p 0 ≤ 63) (hn : 1 ≤ u16At p 4) (hn' : u16At p 4 ≤ 64)
    (h6 : u8At p 6 ≤ 1) (h7 : u8At p 7 ≤ 1) : cmdTraceCfg.body h p s =
      if !s.live then (((s.freeTrace.traceEmpty).setFld Reg.TRACE_SIZE 6 0 (u16At p 4)).traceSet p, Resp.ok)
      else match (((s.freeTrace.traceEmpty).setFld Reg.TRACE_SIZE 6 0 (u16At p 4)).traceSet p).placeTrace with
        | some u => (u, Resp.ok)
        | none => (s.freeTrace, Resp.resource 0xFFFF 0 0xFFFF) := by
  refine (checked_ok ?_).trans rfl
  simp only [List.mem_cons, List.not_mem_nil, or_false, forall_eq_or_imp, forall_eq, decide_eq_false_iff_not]
  omega

theorem cmdTraceRead_fits (h : Hdr) {p : Bytes} {s : State} (hb : s.bufOk (bufAt p 0) = true) (hn : 16 ≤ (bufAt p 0).len) :
    cmdTraceRead.body h p s = s.traceCopy (bufAt p 0) :=
  checked_ok (by simp [hb, hn])

/-! ### The dump and the event mask -/

theorem cmdDumpRead_fits (h : Hdr) {p : Bytes} {s : State} (he : u32At p 0 + (bufAt p 4).len ≤ 1048576) (hb : s.bufOk (bufAt p 4) = true)
    (hn : (bufAt p 4).len ≠ 0) (hd : s.dumpOk = true) : cmdDumpRead.body h p s =
      (s.bufWrite (bufAt p 4) (mread s.mem (s.dumpAddr + u32At p 0) (bufAt p 4).len), Resp.ok (le32 (bufAt p 4).len)) :=
  checked_ok (by simp [he, hb, hn, hd])

theorem maskEventBad_none {i : Nat} {e : Bytes} (hc : eventCodes.contains (u16At e 0) = true) (hv : u8At e 2 ≤ 1) : maskEventBad i e = none := by
  unfold maskEventBad
  rw [hc, if_neg (by decide), if_neg hv.not_gt]

/-- Settles O21: one lemma for each body that checks anything; the others answer what they read. -/
theorem diagnosticsCommands : Obligations.DiagnosticsCommands := by
  refine ⟨?_, ?_, ?_, ?_, ?_, ?_, ?_, ?_, ?_⟩
  · rintro h p s _ rfl hs hp hb ho hn hn' he
    exact cmdCounterRead.exec_ok h p _ hs (lenIs_iff.2 hp) (.inl rfl) (cmdCounterRead_fits h _ hb ho hn hn' he)
  · rintro h p s _ rfl hs hp he
    exact cmdPerfCfg.exec_ok h p [] hs hp (.inl rfl) (checkedEntries_ok fun _ e hm => perfEntryBad_none (he e hm).1 (he e hm).2)
  · rintro h p s _ rfl hs hp hf hn hn' he
    exact cmdPerfRead.exec_ok h p _ hs (lenIs_iff.2 hp) (.inl rfl) (cmdPerfRead_fits h _ hf hn hn' he)
  · rintro h p s _ v rfl hs hp hm hn hn' h6 h7 hv
    refine cmdTraceCfg.exec_ok h p [] hs (lenIs_iff.2 hp) (.inl rfl) ?_
    have hb := cmdTraceCfg_checks h (s.taken h 0x9020) hm hn hn' h6 h7
    rw [s.taken_live] at hb
    cases hl : s.live with
    | false =>
      rw [if_neg (by simp [hl])] at hv
      rw [hv]
      exact hb.trans (if_pos (by simp [hl]))
    | true =>
      rw [if_pos hl] at hv
      rw [hv, if_neg (by simp [hl])] at hb
      exact hb
  · rintro h p s _ rfl hs hp hr hb hn
    exact cmdTraceRead.exec_ok h p _ hs (lenIs_iff.2 hp) (.inr hr) (cmdTraceRead_fits h hb hn)
  · rintro h s _ rfl hs
    exact cmdDumpInfo.exec_ok h [] _ hs rfl (.inl rfl) rfl
  · rintro h p s _ rfl hs hp hr he hb hn hd
    exact cmdDumpRead.exec_ok h p _ hs (lenIs_iff.2 hp) (.inr hr) (cmdDumpRead_fits h he hb hn hd)
  · rintro h s _ rfl hs
    exact cmdDumpClear.exec_ok h [] [] hs rfl (.inl rfl) rfl
  · rintro h p s _ rfl hs hp he
    exact cmdEventMaskSet.exec_ok h p [] hs hp (.inl rfl) (checkedEntries_ok fun _ e hm => maskEventBad_none (he e hm).1 (he e hm).2)

end Sys2Proof.Machine
end

section
/-! PROOFS. The host interface's accesses and the PCIe link's rows, the modes, the watchdog, SAFE and the thermal rows: the branch of
each row's definition that its conditions name (R265, R370, R382, R383, R385, R386, R404, R429, R435, R449, R451, R459 to R461, R490,
R521 to R523). -/

namespace Sys2Proof.Machine

/-! ### SPI (R386) -/

theorem execSpiTransaction_read {ins : Byte} (off n : Nat) (d : Bytes) {s : State} (hp : s.sys.phase = .running)
    (hi : s.sys.straps.hostIf = true) (h : ins = 0x0B ∨ ins = 0xEB) : execSpiTransaction ins off d n s = .next
      ((s.withRdata ((List.range n).map (fun i => s.spiByte (off % 2 ^ 24 + i)))).withRstat 0) :=
  (if_neg (by simp [hp, hi])).trans (if_pos h)

/-- A write instruction is none of the read instructions. -/
theorem execSpiTransaction_write {ins : Byte} (off n : Nat) (d : Bytes) {s : State} (hp : s.sys.phase = .running)
    (hi : s.sys.straps.hostIf = true) (h : ins = 0x02 ∨ ins = 0x32) : execSpiTransaction ins off d n s = .next
      (((s.withRdata []).withRstat 0).spiWrite (off % 2 ^ 24) d) := by
  have hread : ¬ (ins = 0x0B ∨ ins = 0xEB) := by
    obtain rfl | rfl := h
    · decide
    · decide
  exact (if_neg (by simp [hp, hi])).trans ((if_neg hread).trans (if_pos h))

/-! ### BAR2 (R383, R522) -/

theorem execBar2Access_tcm {off : Nat} {acc : Access} {s : State} (hp : s.sys.phase = .running) (hm : s.masked 9 = false)
    (hw : s.sys.hostBootWait = true) (ho : off + accLen acc ≤ 1572864) :
    execBar2Access off acc s = .next (s.memAccess (tcmBase + off) acc) :=
  (if_neg (by simp [hp, hm])).trans ((if_pos hw).trans (congrArg _ (if_neg ho.not_gt)))

/-- Within the region placed, with the DDR domain on, the access goes to DRAM. -/
theorem State.bar2Region_inside {off : Nat} {acc : Access} {s : State} (hr : s.host.regionUnits ≠ 0)
    (ho : off + accLen acc ≤ s.host.regionUnits * 0x200000) (hd : bitOf s.sys.pwr 7 = true) : s.bar2Region off acc =
      ((s.withRdata []).withRstat 0).dramServe s.ddrc.waiting ⟨6, unitAddr s.host.regionUnit + off, acc, 0, 0, false, .clean⟩ :=
  (if_neg (by simp [hr, ho])).trans (if_neg (by simp [hd]))

theorem execBar2Access_region {off : Nat} {acc : Access} {s : State} (hp : s.sys.phase = .running) (hm : s.masked 9 = false)
    (hw : s.sys.hostBootWait = false) : execBar2Access off acc s = .next (s.bar2Region off acc) :=
  (if_neg (by simp [hp, hm])).trans (if_neg (by simp [hw]))

/-! ### The debug window (R382, R523) -/

/-- With debug locked a read answers zeros and a write does nothing. -/
theorem execDebugWindowAccess_locked {w : Nat} {acc : Access} {s : State} (hp : s.sys.phase = .running) (hi : s.sys.straps.hostIf = false)
    (hl : s.host.linkUp = true) (hw : w < 0x80000) (hu : s.sec.unlocked = false) : execDebugWindowAccess w acc s = .next
      (((s.withRdata []).withRstat 0).withRdata (if accWrites acc then [] else zeros (accLen acc))) :=
  (if_neg (by simp [hp, hi, hl, hw])).trans (if_pos (by simp [hu]))

theorem execDebugWindowAccess_word {w : Nat} {acc : Access} {s : State} (hp : s.sys.phase = .running) (hi : s.sys.straps.hostIf = false)
    (hl : s.host.linkUp = true) (hw : w < 0x80000) (hu : s.sec.unlocked = true) (hn : accLen acc = 4) (ha : w % 4 = 0) :
    execDebugWindowAccess w acc s = .next (((s.withRdata []).withRstat 0).window32 (s.windowAddr w) acc) :=
  (if_neg (by simp [hp, hi, hl, hw])).trans ((if_neg (by simp [hu])).trans (if_pos ⟨hn, ha⟩))

theorem execHostifDbgWinWrite_running (v : Word) {s : State} (hp : s.sys.phase = .running) :
    execHostifDbgWinWrite v s = .next (s.regWrite 0 Reg.HOSTIF_DBG_WIN v.toNat) :=
  if_neg (not_not.2 hp)

/-! ### The link (R385, R490) -/

theorem execFunctionLevelReset_up {s : State} (hp : s.sys.phase = .running) (hi : s.sys.straps.hostIf = false) (hl : s.host.linkUp = true) :
    execFunctionLevelReset s = .next ((s.linkEffects.bump (Reg.HOSTIF_CNT 0)).raise Reg.HOSTIF_INT_STATUS 0) :=
  if_neg (by simp [hp, hi, hl])

theorem execLinkDown_up {s : State} (hp : s.sys.phase = .running) (hl : s.host.linkUp = true) :
    execLinkDown s = .next (if Config.freeBool s.freeCnt then s.fresh.linkLost.pciePllLost else s.fresh.linkLost) :=
  if_neg (by simp [hp, hl])

/-- PERST_N counts with HOST_IF at PCIe only; low, it takes down a link that is up. -/
theorem execPciePerstN_pcie (level : Bool) {s : State} (hi : s.sys.straps.hostIf = false) : execPciePerstN level s = .next
    (if level = false ∧ s.host.linkUp = true then (s.onHost (fun x => { x with perstN := level })).linkLost
      else s.onHost (fun x => { x with perstN := level })) := by
  refine (if_neg (by simp [hi])).trans ?_
  by_cases h : level = false ∧ s.host.linkUp = true
  · rw [if_pos h]
    exact if_pos (by simp [h])
  · rw [if_neg h]
    exact if_neg (by simpa using h)

theorem execPcieLinkUp_trained {v w : Nat} {s : State} (hp : s.sys.phase = .running) (hi : s.sys.straps.hostIf = false)
    (hr : s.host.perstN = true) (hv : 1 ≤ v) (hv' : v ≤ 3) (hw : w = 1 ∨ w = 2 ∨ w = 4) : execPcieLinkUp v w s = .next
      (((s.onHost (fun x => { x with linkUp := true, speed := v, width := w })).onTime (fun x => { x with pcieLock := true })).onXbar
        (fun x => { x with resetMask := x.resetMask &&& 0xFDFF })) :=
  (if_neg (by simp [hp, hi, hr])).trans (if_neg (by omega))

/-- Settles O23: one branch of each row. That a loss of link may come with the loss of the PCIe PLL's lock, and that a trained link
has that PLL locked, is the model's reading (notes/assumptions/45); that master 9 stays masked from FUNCTION_LEVEL_RESET until the
link trains again is too (notes/assumptions/62). -/
theorem hostInterfaceAccesses : Obligations.HostInterfaceAccesses := by
  refine ⟨fun ins off n d s hp hi h => execSpiTransaction_read off n d hp hi h, fun ins off n d s hp hi h => execSpiTransaction_write off n d hp hi h,
    fun off acc s hp hm hw ho => execBar2Access_tcm hp hm hw ho, fun off acc s hp hm hw hr ho hd => ?_,
    fun w acc s hp hi hl hw hu => execDebugWindowAccess_locked hp hi hl hw hu,
    fun w acc s hp hi hl hw hu hn ha => execDebugWindowAccess_word hp hi hl hw hu hn ha, fun v s hp => execHostifDbgWinWrite_running v hp,
    fun s hp hi hl => execFunctionLevelReset_up hp hi hl, ?_, ?_, ?_⟩
  · exact (execBar2Access_region hp hm hw).trans (congrArg _ (State.bar2Region_inside hr ho hd))
  · rintro s _ hp hl rfl
    exact execLinkDown_up hp hl
  · rintro level s _ hi rfl
    exact execPciePerstN_pcie level hi
  · rintro v w s _ hp hi hr hv hv' hw rfl
    exact execPcieLinkUp_trained hp hi hr hv hv' hw

/-! ### The modes (R404) -/

theorem execModeEntry_live {s : State} {r : ModeReq} (hp : s.sys.phase = .running) (hf : s.sys.fatal = none) (hr : s.sys.modeReq = some r)
    (ht : r.target ≠ .park) (hm : s.sys.mode = .park) (hl : s.parkLoad = none) : execModeEntry s = .next (s.enterLive r) := by
  unfold execModeEntry
  rw [hr]
  exact (if_neg (by simp [hp, hf])).trans ((if_neg ht).trans (congrArg _ (if_pos ⟨hm, by rw [hl]; rfl⟩)))

theorem execModeEntry_park {s : State} {r : ModeReq} (hp : s.sys.phase = .running) (hf : s.sys.fatal = none) (hr : s.sys.modeReq = some r)
    (ht : r.target = .park) (hl : s.live = true) (ha : s.mir.parking = true) (hg : s.meas.gen.stopping = none) :
    execModeEntry s = .next (s.enterPark r) := by
  unfold execModeEntry
  rw [hr]
  exact (if_neg (by simp [hp, hf])).trans ((if_pos ht).trans (congrArg _ (if_pos (by simp [hl, ha, hg]))))

/-! ### The watchdog, SAFE and the thermal rows (R370, R449, R451, R459 to R461) -/

theorem execWatchdogExpiry_runs {s : State} (hp : s.sys.phase = .running) (hw : s.sys.wdtRunning = true) : execWatchdogExpiry s = .next
    (((((s.passTo s.wdtDue).fatalError 0x0B 0).onSys (fun x => { x with trialFailed := x.trialFailed || x.trialRunning })).ctrlReset).noteDev s) :=
  if_neg (by simp [hp, hw])

theorem execSafeEntry_fatal {s : State} {f : Fatal} (hp : s.sys.phase = .running) (hf : s.sys.fatal = some f) (hm : s.sys.mode ≠ .safe) :
    execSafeEntry s = .next ((((s.fatalDump f).endFatalJobs.safeDown).setMode .safe 2).onSys (fun x => { x with
      safeTick := s.time.eventTick, enginesStop := false })) := by
  unfold execSafeEntry
  rw [hf]
  exact if_neg (by simp [hp, hm])

/-- The warning is set, counted and signalled when the temperature rises above WARN. -/
theorem execThermWarn_rises (k : Nat) {s t : State} {up : Bool} (hu : up = decide (toSigned 16 (s.fld Reg.SYS_THERM 31 16) < toSigned 16 k))
    (ht : t = (s.setFld Reg.SYS_THERM 15 0 k).onSys (fun x => { x with thermWarn := up })) : execThermWarn k s = .next
      (if up = true ∧ s.sys.thermWarn = false then (t.raise Reg.SYS_INT_STATUS 2).bump (Reg.SYS_CNT 4) else t) := by
  subst ht
  unfold execThermWarn
  rw [← hu]
  simp

/-- Settles O28: one branch of each row; both thermal trips are fatal error 0x0C whatever the state. -/
theorem modeAndSafetyRows : Obligations.ModeAndSafetyRows := by
  refine ⟨fun s r hp hf hr ht hm hl => execModeEntry_live hp hf hr ht hm hl, fun s r hp hf hr ht hl ha hg => execModeEntry_park hp hf hr ht hl ha hg,
    ?_, fun s f hp hf hm => execSafeEntry_fatal hp hf hm, fun s _ => rfl, fun s _ => rfl, fun k s t up hu ht => execThermWarn_rises k hu ht⟩
  rintro s _ hp hw rfl
  exact execWatchdogExpiry_runs hp hw

end Sys2Proof.Machine
end
